-- ==== Sys2Proof/Word.lean ====
section
/-! DEFINITION. The word types of the IK-7480 model: bytes, machine words and the plain-data association list that
holds every sparse memory of the device. -/

namespace Sys2Proof

/-- One octet. -/
abbrev Byte := BitVec 8

/-- An IEEE 754 binary32 bit pattern (R10, R803). -/
abbrev F32 := BitVec 32

/-- A sparse memory: keys strictly rising, and no listed value equal to what an unlisted key reads as. -/
abbrev Tab (α : Type) := List (Nat × α)

end Sys2Proof
end

