-- ==== Sys2Proof/Syntax.lean ====
section
/-! DEFINITION. The commands of the IK-7480: one constructor of `Instr` per row of the table of operations and events,
with the operands the row's rule gives it. -/

namespace Sys2Proof

/-- The two dies of the package (R19). -/
inductive Die where
  | field | host
  deriving DecidableEq, Repr

/-- Who drives a stage set or a dictionary request (R291, R313). -/
inductive Source where
  | master | port | device
  deriving DecidableEq, Repr

/-- A symbol on a Rope data lane (R172): K28.5, K27.7, K29.7, K30.7 and the data symbols; and what a receiver sees in place of one,
an invalid code or a disparity error (R191). -/
inductive Symbol where
  | idle | start | stop | test
  | data (b : BitVec 8)
  | badCode
  | badDisparity
  deriving DecidableEq, Repr

/-- How the next frame on the lanes arrives: as it was sent, with other symbols on the active lanes, or not at all, with data symbols
outside a frame in its place (R191). -/
inductive Arrival where
  | asSent
  | damaged (lanes : List (List Symbol))
  | stray (lanes : List (List Symbol))
  deriving DecidableEq, Repr

/-- What error-correcting code finds in one read word (R413, R587, R726). -/
inductive EccResult where
  | clean | corrected | uncorrectable
  deriving DecidableEq, Repr

/-- The partition tag of an engine access (Engine access and partition windows). -/
inductive PTag where
  | s | d | b | sys
  deriving DecidableEq, Repr

/-- The agent byte of a fabric record (R438). -/
inductive Agent where
  | core | gallery | vision | camera | composition | port | ethernet | pcie | bootStorage
  deriving DecidableEq, Repr

/-- The originator of an engine access (R434). -/
structure Origin where
  agent : Agent
  tag : PTag
  client : Nat
  queue : Nat
  unit : Nat
  deriving DecidableEq, Repr

/-- An output driven by position and time events (R70, R71). -/
inductive OutPin where
  | lpo (n : Fin 8)
  | hlpo (n : Fin 4)
  | trig (n : Fin 4)
  | strb (n : Fin 4)
  deriving DecidableEq, Repr

/-! ### Kernels of a bundle (chapters 11 and 13) -/

/-- Element types of Gallery (R548, R549): INT4, INT8 signed and unsigned, INT16, INT32, FP8 E4M3 and E5M2, FP16, BF16, FP32. -/
inductive ETy where
  | i4 | i8 | u8 | i16 | i32 | e4m3 | e5m2 | f16 | bf16 | f32
  deriving DecidableEq, Repr

/-- A place outside Pocket that a stream unit reaches (R558): a bank of the job's model slot, a Cavern bank, Grotto, the job's DRAM
input and output, a DRAM address. -/
inductive Place where
  | slotBank (k off : Nat)
  | cavern (bank off : Nat)
  | grotto (addr : Nat)
  | input (off : Nat)
  | output (off : Nat)
  | dram (addr : Nat)
  deriving DecidableEq, Repr

/-- A tensor in Pocket: NHWC with its channels padded to a whole channel group (R557). A striped one holds a member's own rows, and
beside them the halo rows its neighbours sent (R570, R571): `above` rows at `aboveAddr`, `below` rows at `belowAddr`. -/
structure Tensor where
  addr : Nat
  n : Nat := 1
  h : Nat := 1
  w : Nat := 1
  c : Nat := 1
  ty : ETy
  /-- value of padding channels and of padded positions: zero or the zero point (R557, R565) -/ fill : Int := 0
  striped : Bool := false
  above : Nat := 0
  aboveAddr : Nat := 0
  below : Nat := 0
  belowAddr : Nat := 0
  deriving DecidableEq, Repr

/-- What follows an accumulator (R553, R554): bias and scale, per tensor (one value) or per output channel; the output zero point;
a fused clip. -/
structure Post where
  bias : List (BitVec 32) := []
  scale : List F32 := []
  zp : Int := 0
  clip : Option (Int × Int) := none
  deriving DecidableEq, Repr

/-- The window of a convolution or pooling: size, stride, dilation and padding (R565, R568). -/
structure Window where
  kh : Nat := 1
  kw : Nat := 1
  sy : Nat := 1
  sx : Nat := 1
  dy : Nat := 1
  dx : Nat := 1
  top : Nat := 0
  left : Nat := 0
  bottom : Nat := 0
  right : Nat := 0
  deriving DecidableEq, Repr

/-- Pooling (R568). -/
inductive PoolKind where
  | max
  | avg (countPad : Bool)
  deriving DecidableEq, Repr

/-- Elementwise operators (R569). -/
inductive BinOp where
  | add | sub | mul | max | min
  deriving DecidableEq, Repr

/-- Activations (R555, R569). -/
inductive ActFn where
  | relu | relu6
  | leaky (alpha : F32)
  | clip (lo hi : F32)
  | sigmoid | tanh | exp | silu | gelu
  deriving DecidableEq, Repr

/-- Normalisations along C (R569): weights and offsets by channel, and the number added below the root. -/
inductive NormKind where
  | softmax
  | layer (gamma beta : List F32) (eps : F32)
  | rms (gamma : List F32) (eps : F32)
  deriving DecidableEq, Repr

/-- Reductions (R569). -/
inductive RedOp where
  | sum | mean | max | argmax
  deriving DecidableEq, Repr

/-- The dimension a reduction runs along. -/
inductive Axis where
  | c | h | w
  deriving DecidableEq, Repr

/-- Grotto formats a stream unit reads (R558). -/
inductive SurfFmt where
  | y8 | y16 | rgb888 | yuv444p | flow16 | disp16 | conf8
  deriving DecidableEq, Repr

/-- Attention forms (R655). -/
inductive AttnForm where
  | causal | sliding | cross | bidirectional
  deriving DecidableEq, Repr

/-- Rotary position embedding (R659): the angle by position of each pair of elements, and whether a pair joins the halves of a head
or two neighbours. -/
structure Rope where
  freqs : List F32
  halves : Bool
  deriving DecidableEq, Repr

/-- The append step of a layer (R659, R675): an entry of the batch, the new keys and values (tokens along W, heads × elements along
C), the FP16 scales of an INT8 pool by token and head, and whether it rebuilds a dropped sequence (R682). -/
structure Append where
  entry : Nat
  kvHeads : Nat
  headDim : Nat
  k : Tensor
  v : Tensor
  scales : Tensor
  kvTy : ETy
  rope : Option Rope
  rebuild : Bool
  deriving DecidableEq, Repr

/-- An attention kernel (R655 to R659); `k` and `v` serve the bidirectional form. -/
structure Attend where
  form : AttnForm
  entry : Nat
  qHeads : Nat
  kvHeads : Nat
  headDim : Nat
  q : Tensor
  k : Tensor
  v : Tensor
  out : Tensor
  kvTy : ETy
  scale : F32
  rope : Option Rope
  post : Post
  deriving DecidableEq, Repr

/-- One operation of a kernel. `step` is added to a place once for each member before this one. -/
inductive KernelOp where
  /-- NHWC octets into Pocket (R558) -/ | load (src : Place) (step addr len : Nat)
  /-- NCHW in DRAM, transposed into Pocket (R558) -/ | loadNchw (src : Place) (dst : Tensor)
  /-- a Grotto surface (R558, R559) -/ | loadSurface (base stride : Nat) (fmt : SurfFmt) (dst : Tensor)
  /-- NHWC octets out of Pocket (R558) -/ | store (addr len : Nat) (dst : Place) (step : Nat)
  /-- matrix product, convolution, grouped and depthwise (R561 to R566) -/ | conv (x w out : Tensor) (win : Window) (groups : Nat) (post : Post)
  /-- transposed convolution (R567) -/ | deconv (x w out : Tensor) (win : Window) (post : Post)
  /-- R568 -/ | pool (kind : PoolKind) (x out : Tensor) (win : Window) (post : Post)
  /-- R568 -/ | globalPool (kind : PoolKind) (x out : Tensor) (post : Post)
  /-- R569 -/ | zip (op : BinOp) (x y out : Tensor) (post : Post)
  /-- R555, R569 -/ | act (f : ActFn) (x out : Tensor) (post : Post)
  /-- R569 -/ | norm (kind : NormKind) (x out : Tensor) (post : Post)
  /-- R569 -/ | reduce (op : RedOp) (axis : Axis) (x out : Tensor) (post : Post)
  /-- R569 -/ | resize (bilinear : Bool) (x out : Tensor) (post : Post)
  /-- concatenate and slice along C (R569) -/ | channels (x out : Tensor) (src dst count : Nat)
  /-- R569 -/ | convert (x out : Tensor) (post : Post)
  /-- R659, R675 -/ | append (a : Append)
  /-- R655 -/ | attend (a : Attend)
  /-- the result word (R616) -/ | result (addr : Nat)
  deriving DecidableEq, Repr

/-- How the members of a group share a kernel: each its stripe (R570), each its output channels (R574), each all of it, or member 0
alone. -/
inductive Share where
  | striped | channels | each | first
  deriving DecidableEq, Repr

/-- A kernel: the loads that all members request (R575), its operations, the striped tensors whose edge rows go to the neighbours
for the next kernel (R571), the tensor gathered in member 0 (R574), and its end: preemptible, end of a layer, and the ranges of
Pocket that are live there (R582, R619). -/
structure Kernel where
  share : Share := .each
  multicast : List (Place × Nat × Nat) := []
  ops : List KernelOp := []
  sends : List Tensor := []
  gather : Option Tensor := none
  preemptible : Bool := false
  layerEnd : Bool := false
  live : List (Nat × Nat) := []
  deriving DecidableEq, Repr

/-- A Sync message as the host ports time it (R122, R123): the master's origin time (in the Follow_Up of a two-step master), the
own time of its arrival and the message's correction, ns; the interval since the last one; and the four times of the last delay
exchange of the profile: request sent and received, response sent and received. -/
structure PtpSync where
  port : Fin 2
  selected : Bool
  origin : Nat
  ingress : Nat
  correction : Int
  interval : Nat
  d1 : Nat
  d2 : Nat
  d3 : Nat
  d4 : Nat
  deriving DecidableEq, Repr

/-- The content of a tally state frame (R84). -/
structure TallyFrame where
  position : Int
  v : F32
  a : F32
  pstate : Byte
  deriving DecidableEq, Repr

/-- A corner as the detector reports it: place, Harris score, orientation, descriptor (R496). -/
structure Corner where
  x : Nat
  y : Nat
  score : Nat
  orient : Byte
  descriptor : List Byte
  deriving DecidableEq, Repr

/-- What no rule computes of a vision node: the octets its arithmetic gave for each output; the corners its detector found; the coarse
and the refined elements and confidences of flow and stereo; and what the error-correcting code of Grotto found (R496, R499, R541). -/
structure NodeEnd where
  engine : List (List Byte)
  corners : List Corner
  coarse : List Nat
  fine : List Nat
  conf : List Nat
  fineConf : List Nat
  grotto : EccResult
  deriving DecidableEq, Repr

/-- What no rule computes of a kernel on one member's core: its time and what the error-correcting codes of Pocket, Cavern and the
neighbour ports found (R587 to R590, R632). -/
structure KernelEnd where
  coreUs : Nat
  pocket : EccResult
  cavern : EccResult
  cavernBank : Nat
  halo : EccResult
  deriving DecidableEq, Repr

/-- The commands. Every constructor is one row of the table; its docstring is the row's rule.
Log entry 98: DESIGN CHOICE, safe. -/
inductive Instr where
  -- boot, supplies and resets
  /-- R970 -/ | powerOn (hBoot mp0 mp1 : BitVec 2)
  /-- R930 -/ | hostVinRise
  /-- R930 -/ | hostVinLow
  /-- R931 -/ | fieldVinLow
  /-- R931 -/ | fieldVinRise
  /-- R1029 -/ | fieldVinHigh
  /-- R1029 -/ | fieldVinHighRelease
  /-- R1030 -/ | hostVinHigh
  /-- R1031 -/ | hostCrystalStop
  /-- R1031 -/ | tcxoStop
  /-- R970 -/ | hResetLLow
  /-- R970 -/ | fResetLLow
  /-- R425 -/ | hostWarmReset
  /-- R978 -/ | hostBoot (dramOk : Bool) (badKeep : List (Fin 8))
  /-- R977 -/ | fieldBoot
  /-- R970 -/ | hostResetRequest (value : Byte)
  /-- R970 -/ | fieldOnlyResetCommand
  /-- R972 -/ | fullResetCommand
  /-- R972 -/ | fullResetRequest
  /-- R972 -/ | fullResetDelayExpiry
  /-- R974 -/ | ropeAlive (value : BitVec 32)
  /-- R973 -/ | aliveExpiry
  /-- R976 -/ | bootLimitExpiry
  /-- R380 -/ | supervisorLockstepMismatch
  /-- R988 -/ | commitHostTrial (value : Byte)
  /-- R988 -/ | commitFieldTrial (value : Byte)
  /-- R986 -/ | installHostImage (address : BitVec 64) (stored : Bool)
  /-- R997 -/ | motionOverrideWrite (value : BitVec 32)
  /-- R994 -/ | levelsFrame (dst : Die)
  -- Rope
  /-- R178 -/ | ropeFrameTransmit (side : Die)
  /-- R191 -/ | ropeFrameReceive (dst : Die) (rx : Arrival)
  /-- R177 -/ | linkFrame (dst : Die)
  /-- R194 -/ | ackDue (side : Die)
  /-- R189 -/ | creditReturn (side : Die)
  /-- R196 -/ | replayTimeout (side : Die)
  /-- R204 -/ | pairFault (pair : Fin 4)
  /-- R209 -/ | retrainReqFrame (width : BitVec 3) (faulty : Option (BitVec 4)) (within200ns : Bool)
  /-- R206 -/ | retrainRequestWrite (width : Byte) (afterStep7 : Bool)
  /-- R209 -/ | retrainPairFail (pair : Fin 4)
  /-- R207 -/ | trainingAttempt (passing : BitVec 4)
  /-- R198 -/ | linkUp (passing : BitVec 4) (d : BitVec 16)
  /-- R201 -/ | tallyLockAcquired (delay : BitVec 16)
  /-- R162 -/ | tallyLockLoss
  /-- R133 -/ | fieldHeartbeatSend
  /-- R210 -/ | hostHeartbeatSend
  /-- R211 -/ | hostHeartbeatReceive
  /-- R134 -/ | fieldHeartbeatReceive
  /-- R43 -/ | heartbeatTimeout
  /-- R213 -/ | fieldHeartbeatTimeout
  /-- R1042 -/ | partnerBootTimeout (die : Die)
  -- dictionary messages over Rope
  /-- R215 -/ | postedWriteReceive
  /-- R218 -/ | confirmedWriteReceive (cls : Fin 8)
  /-- R215 -/ | readRequestReceive
  /-- R251 -/ | forwardedRequestArrival
  /-- R249 -/ | forwardAnswerArrival
  /-- R249 -/ | forwardTimeout (tag : BitVec 16)
  /-- R269 -/ | class2RecordReceive
  /-- R895 -/ | faultLogRecordReceive (dst : Die)
  /-- R1038 -/ | fireReport
  /-- R1038 -/ | loadReport
  /-- R63 -/ | hostEntryPush
  /-- R130 -/ | ptpConfigPush
  /-- R164 -/ | hostPairPush
  /-- R354 -/ | aliasPush
  /-- R884 -/ | sStatusMessage
  -- SDO services and storage
  /-- R235 -/ | sdoDownload (index : BitVec 16) (sub : Byte) (complete : Bool) (total : Nat) (data : List Byte)
  /-- R253 -/ | sdoUpload (index : BitVec 16) (sub : Byte) (complete : Bool)
  /-- R256 -/ | sdoDownloadSegment (toggle last : Bool) (data : List Byte)
  /-- R256 -/ | sdoUploadSegment (toggle : Bool)
  /-- R256 -/ | sdoUnknownSpecifier (specifier : Byte)
  /-- R257 -/ | sdoInfoOdList
  /-- R257 -/ | sdoInfoObjectDescription (index : BitVec 16)
  /-- R257 -/ | sdoInfoEntryDescription (index : BitVec 16) (sub : Byte)
  /-- R321 -/ | mailboxUnsupported (protocol : Byte)
  /-- R243 -/ | storeParameters (sub : Byte) (value : BitVec 32)
  /-- R243 -/ | restoreDefaults (sub : Byte) (value : BitVec 32)
  -- the dictionary port
  /-- R264 -/ | portRead
  /-- R264 -/ | portConfirmedWrite
  /-- R214 -/ | portPostedWrite
  /-- R264 -/ | portReadSegment
  /-- R184 -/ | portWriteSegment
  /-- R1047 -/ | portForwardAnswer
  /-- R271 -/ | portUnknownEntry
  -- staged change
  /-- R292 -/ | stageOpen (src : Source) (set : Fin 4)
  /-- R287 -/ | stageAppend (src : Source) (set : Fin 4) (data : List Byte)
  /-- R294 -/ | stageCheck (src : Source) (set : Fin 4)
  /-- R292 -/ | stageArm (src : Source) (set : Fin 4)
  /-- R308 -/ | stageCancel (src : Source) (set : Fin 4) (hostConfirms : Bool)
  /-- R311 -/ | rollback (value : Byte)
  /-- R296 -/ | stagingPrepare (set : Fin 4)
  /-- R296 -/ | hostVote (set : Fin 4)
  /-- R294 -/ | hostVoteTimeout (set : Fin 4)
  /-- R292 -/ | stagingArmMessage (set : Fin 4)
  /-- R292 -/ | hostArmConfirm (set : Fin 4)
  /-- R292 -/ | armConfirmTimeout (set : Fin 4)
  /-- R302 -/ | applyInstant (set : Fin 4)
  /-- R303 -/ | hostApply (set : Fin 4)
  /-- R317 -/ | applyConfirmation (set : Fin 4)
  /-- R319 -/ | instantHoldTimeout (set : Fin 4)
  -- line position
  /-- R50 -/ | lineEncoderEdge (a b : Bool) (stableA stableB : Nat)
  /-- R874 -/ | expectationMiss
  /-- R59 -/ | fractionTick
  /-- R70 -/ | pulseUsEnd (pin : OutPin)
  /-- R68 -/ | positionEntryWrite (onHost : Bool) (entry : Fin 256) (contents : BitVec 128)
  /-- R78 -/ | standstillTimeout
  /-- R81 -/ | predictorQuery (target : BitVec 64)
  /-- R85 -/ | replicaEdgeApply (symbol : Byte)
  /-- R87 -/ | stateFrame (received : Option (List Byte))
  /-- R88 -/ | stateFrameTimeout
  /-- R358 -/ | followerSample
  /-- R90 -/ | followerSyntheticEdge
  /-- R94 -/ | followerSampleTimeout
  /-- R95 -/ | lineBreak
  /-- R96 -/ | encoderValid
  /-- R97 -/ | estimatedSyntheticEdge
  /-- R100 -/ | indexMark (stable : Nat)
  /-- R105 -/ | presetCounter (value : BitVec 64)
  /-- R1037 -/ | reReference (value : BitVec 64)
  -- clocks
  /-- R113 -/ | fieldTimeTick
  /-- R132 -/ | replicaSymbolTick
  /-- R115 -/ | driftFrame (reference : BitVec 64)
  /-- R117 -/ | systemTimeOffsetWrite (value : BitVec 64)
  /-- R117 -/ | slewEnd
  /-- R118 -/ | reacquireCommand (value : Byte)
  /-- R121 -/ | referenceRoleWrite (value : Byte)
  /-- R156 -/ | clockLossTimeout (clock : Die)
  /-- R156 -/ | holdoverLimitExpiry (clock : Die)
  /-- R124 -/ | ptpSyncMessage (msg : PtpSync)
  /-- R139 -/ | conversionQuery (time : BitVec 64)
  /-- R1039 -/ | syncConfigWrite (register : BitVec 16) (value : BitVec 64)
  /-- R141 -/ | sync0Edge
  /-- R141 -/ | sync1Edge
  /-- R141 -/ | syncPulseEnd (output : Fin 2)
  /-- R143 -/ | latchEdge (input : Fin 2) (rising : Bool)
  /-- R145 -/ | ppsSecond (clock : Die)
  /-- R146 -/ | ppsPulseEnd (clock : Die)
  /-- R1036 -/ | timeEntryWrite (entry : Fin 64) (contents : BitVec 128)
  /-- R150 -/ | timeEventFire (entry : Fin 64)
  /-- R152 -/ | controlCycleStart
  -- fieldbus
  /-- R346 -/ | alRequestInit
  /-- R346 -/ | alRequestPreop
  /-- R346 -/ | alRequestSafeop
  /-- R346 -/ | alRequestOp
  /-- R346 -/ | alRequestBoot
  /-- R335 -/ | sm2BufferComplete (data : List Byte)
  /-- R347 -/ | sm2WatchdogExpiry
  /-- R338 -/ | frameStartDelimiter (port : Fin 2)
  /-- R25 -/ | mirrorMessage
  /-- R339 -/ | class5Result
  /-- R366 -/ | safetyFrame (address : BitVec 16) (connState : Byte) (outputs : BitVec 16) (frame : List Byte)
  /-- R367 -/ | safetyWatchdogExpiry
  /-- R353 -/ | aliasWrite (word : BitVec 16) (value : BitVec 16)
  /-- R326 -/ | foeWriteIkf (password : BitVec 32) (file : List Byte) (stored : Bool)
  /-- R326 -/ | foeWriteIkh (password : BitVec 32) (file : List Byte) (stored : Bool)
  /-- R327 -/ | foeWriteIkm (password : BitVec 32) (slot : Fin 4) (file : List Byte) (code : List (List Kernel))
  /-- R894 -/ | foeReadLog (password : BitVec 32)
  /-- R374 -/ | fieldFirmwareHalt
  -- host memory
  /-- R389 -/ | engineLoad (who : Origin) (address : BitVec 40) (length : Nat) (ecc : EccResult)
  /-- R391 -/ | engineStore (who : Origin) (address : BitVec 40) (mask : BitVec 64) (data : List Byte)
  /-- R433 -/ | storeAccept (ecc : EccResult)
  /-- R439 -/ | coreLateStoreFault (hart : Fin 8)
  /-- R384 -/ | registerWrite (supervisor : Bool) (hart : Fin 8) (address : BitVec 40) (size : Nat) (value : BitVec 64)
  /-- R405 -/ | bandwidthPeriod
  /-- R416 -/ | patrolScrub (line : BitVec 40) (ecc : EccResult) (cycleEnd : Bool)
  -- cameras
  /-- R454 -/ | csiFrameStart (port : Fin 4) (vc : Fin 16)
  /-- R448 -/ | csiLinePacket (port : Fin 4) (vc : Fin 16) (dataType : Byte) (header : EccResult) (crcOk : Bool) (data : List Byte)
  /-- R454 -/ | csiFrameEnd (port : Fin 4) (vc : Fin 16)
  /-- R450 -/ | csiDeskewDone (port : Fin 4)
  /-- R488 -/ | stopStateTimeout (port : Fin 4)
  /-- R458 -/ | stampCapture (stream : Fin 16)
  /-- R469 -/ | ispOutputComplete (stream : Fin 16)
  -- vision
  /-- R528 -/ | visFlagRelease (value : BitVec 32)
  /-- R513 -/ | visGraphStart (value : BitVec 32)
  /-- R518 -/ | runStart (graph : Fin 8)
  /-- R519 -/ | nodeDispatch (engine : Fin 6)
  /-- R526 -/ | nodeComplete (graph : Fin 8) (node : Fin 32) (info : NodeEnd)
  /-- R537 -/ | nodeTimeLimit (graph : Fin 8) (node : Fin 32)
  /-- R538 -/ | runLimitExpiry (graph : Fin 8)
  /-- R501 -/ | refineTimeLimit (graph : Fin 8) (node : Fin 32) (tiles : Nat)
  /-- R525 -/ | hintSetArrival (graph : Fin 8)
  -- Gallery
  /-- R599 -/ | nqDoorbell (queue : Fin 4096) (value : BitVec 32)
  /-- R604 -/ | descriptorTake (queue : Fin 4096)
  /-- R608 -/ | waitTimeout (queue : Fin 4096)
  /-- R609 -/ | nqRelease (queue : Fin 4096) (value : BitVec 32)
  /-- R599 -/ | nqCancel (queue : Fin 4096) (value : BitVec 32)
  /-- R653 -/ | queueEnable (queue : Fin 4096) (ctrl : BitVec 32)
  /-- R625 -/ | jobDispatch (queue : Fin 4096)
  /-- R582 -/ | kernelBoundary (queue : Fin 4096) (copy : Fin 2) (member : Fin 8) (info : KernelEnd)
  /-- R623 -/ | preemptionWatchdogExpiry (queue : Fin 4096)
  /-- R616 -/ | jobComplete (queue : Fin 4096)
  /-- R632 -/ | galleryFrameStart
  /-- R640 -/ | modelLoadFromDram (slot : Fin 4) (address : BitVec 64) (code : List (List Kernel))
  /-- R641 -/ | modelLoadComplete (slot : Fin 4) (cavern : EccResult)
  /-- R642 -/ | modelUnload (slot : Fin 4) (value : Byte)
  /-- R591 -/ | cavernScrub (bank : Fin 24) (word : Nat) (ecc : EccResult)
  /-- R593 -/ | cavernInitDone
  /-- R865 -/ | bankClearDone (bank : Fin 24)
  -- key-value cache
  /-- R668 -/ | kvOpen (pool : Fin 4) (seq : Fin 8192)
  /-- R668 -/ | kvClose (pool : Fin 4) (seq : Fin 8192)
  /-- R668 -/ | kvPin (pool : Fin 4) (seq : Fin 8192)
  /-- R668 -/ | kvUnpin (pool : Fin 4) (seq : Fin 8192)
  /-- R668 -/ | kvPrefetch (pool : Fin 4) (seq : Fin 8192)
  /-- R668 -/ | kvReset (pool : Fin 4) (seq : Fin 8192)
  /-- R686 -/ | kvWinDataAccess (write : Option (BitVec 64))
  -- Lantern
  /-- R700 -/ | aerWord (word : BitVec 16)
  /-- R703 -/ | lanternCsiPacket (port : Fin 4) (vc : Fin 16) (dataType : Byte) (crcOk : Bool) (data : List Byte)
  /-- R709 -/ | synapticOperation (core : Fin 4) (neuron conn : EccResult)
  /-- R717 -/ | hintPeriodEnd
  -- composition
  /-- R750 -/ | compFrameStart
  /-- R760 -/ | compLineStart (late : BitVec 6) (fault : Bool) (fifoOverflow : Bool)
  /-- R755 -/ | writebackFrameDone
  /-- R751 -/ | compLayerAddrWrite (layer : Fin 6) (value : BitVec 64)
  /-- R749 -/ | dpTrainCommand (value : BitVec 32)
  /-- R749 -/ | auxCommand (value : BitVec 32) (reply : BitVec 3) (data : List Byte)
  /-- R762 -/ | hpdFall
  /-- R762 -/ | hpdRise
  -- motion I/O
  /-- R769 -/ | pwmCounterZero (axis : Fin 8)
  /-- R769 -/ | pwmCounterTop (axis : Fin 8)
  /-- R774 -/ | sdResultReady (axis : Fin 8) (u v w : List Bool)
  /-- R798 -/ | sdInputLost (input : Fin 24)
  /-- R778 -/ | adcSoftwareStart (group : Fin 8) (value : Byte)
  /-- R776 -/ | adcConversionDone (channel : Fin 8) (value : BitVec 12)
  /-- R781 -/ | axisEncoderEdge (axis : Fin 8) (a b z : Bool) (stableA stableB stableZ : Nat)
  /-- R782 -/ | ssiFrameEnd (axis : Fin 8) (bits : Nat)
  /-- R782 -/ | ssiTimeout (axis : Fin 8)
  /-- R783 -/ | bissFrameEnd (axis : Fin 8) (bits : Nat) (error warning : Bool) (crc : BitVec 6) (lineDelay : BitVec 16)
  /-- R789 -/ | comparatorTrip (axis : Fin 8) (b : Bool) (level ns : Nat)
  /-- R787 -/ | stoInputEdge (input : Fin 2) (channelB : Bool) (level : Bool)
  /-- R791 -/ | stoDiscrepancyFault (input : Fin 2)
  /-- R792 -/ | clearLatches (axis : Fin 8) (value : Byte)
  -- control engine
  /-- R813 -/ | controlEngineStart
  /-- R806 -/ | axisPass (axis : Fin 8)
  /-- R841 -/ | ss1TimeLimit (axis : Fin 8)
  /-- R858 -/ | followingErrorTimeout (axis : Fin 8)
  /-- R819 -/ | cspTargetTimeout (axis : Fin 8)
  /-- R838 -/ | hardStopHome (axis : Fin 8)
  /-- R842 -/ | axisCommandDwellEnd (axis : Fin 8)
  /-- R847 -/ | axisCommandFlush (axis : Fin 8) (value : Byte)
  /-- R833 -/ | controlwordEnableOperation (axis : Fin 8)
  /-- R833 -/ | controlwordFaultReset (axis : Fin 8)
  /-- R836 -/ | controlwordQuickStop (axis : Fin 8)
  /-- R812 -/ | controlwordDisable (axis : Fin 8)
  /-- R832 -/ | modeOfOperationWrite (axis : Fin 8) (value : Byte)
  -- functional safety
  /-- R901 -/ | lockstepMismatch
  /-- R902 -/ | tripWatchdogExpiry
  /-- R903 -/ | fieldSramUncorrectable (address : BitVec 64)
  /-- R894 -/ | faultLogFlashWrite (ok : Bool)
  -- power
  /-- R937 -/ | meterSample (mw : List Nat)
  /-- R942 -/ | governorTick
  /-- R942 -/ | governorDeltaP
  /-- R948 -/ | powerRequestActive
  /-- R949 -/ | powerRequestInspectIdle
  /-- R951 -/ | powerRequestLanternWatch
  /-- R954 -/ | powerRequestOff
  /-- R950 -/ | watchConsentRequest
  /-- R951 -/ | watchConsentReply
  /-- R955 -/ | wakeBeacon
  /-- R955 -/ | hWakeLLow
  /-- R955 -/ | wakeTimerExpiry
  /-- R956 -/ | wakeHostCommand (value : Byte)
  /-- R965 -/ | railPowerGoodFailure (rail : Fin 15)
  /-- R966 -/ | railPowerGoodLoss (rail : Fin 15)
  /-- R967 -/ | meterSenseFailure (domain : Fin 11)
  /-- R1024 -/ | hostTempSample (tenths : Int)
  /-- R1024 -/ | fieldTempSample (tenths : Int)
  -- later rows
  /-- R1030 -/ | hostVinHighRelease
  /-- R1031 -/ | hostCrystalRestart
  /-- R1031 -/ | tcxoRestart
  /-- R799 -/ | axisEncoderLineBreak (axis : Fin 8)
  /-- R322 -/ | fieldbusPortLinkChange (port : Fin 2) (up : Bool)
  /-- R157 -/ | ethernetLinkLoss
  /-- R957 -/ | fieldBeaconDetect
  /-- R766 -/ | pwmCompareMatch (axis : Fin 8) (phase : Fin 3)
  /-- R767 -/ | deadTimeExpiry (axis : Fin 8) (phase : Fin 3)
  /-- R418 -/ | coreLoad (hart : Fin 8) (address : BitVec 40)
  /-- R991 -/ | debuggerAccess (die : Die)
  /-- R749 -/ | dpLinkTrainingDone (ok : Bool) (lanes rate : BitVec 2)
  /-- R111 -/ | hostPtpTick
  deriving DecidableEq, Repr

end Sys2Proof
end

