-- ==== Sys2Proof/Decode.lean ====
section
/-! DEFINITION. The decoder over the table's bits. The table of operations and events gives no row any bits. -/

namespace Sys2Proof

/-- The command that a word spells by the table's bits: no row has bits, so no word spells one.
Log entry 1: DESIGN CHOICE, unsafe. -/
def decodeTableWord (_nbits _w : Nat) : Option Instr := none

end Sys2Proof
end

