-- ==== Sys2Proof/Config.lean ====
section
/-! DEFINITION. What an implementation fixes and the free values: an `opaque` constant has no body, so nothing can be
proved of its value, and a claim holds whatever it is (log entry 3). -/

namespace Sys2Proof

/-- What octet `address` of DRAM reads after its `n`-th loss of contents and before anything writes it (R430).
Log entry 4: DESIGN CHOICE, unsafe. -/
opaque Config.lostByte : Nat → Nat → BitVec 8

/-- The `n`-th value the spec leaves open, 64 bits.
Log entry 3: DESIGN CHOICE, safe. -/
opaque Config.freeWord : Nat → BitVec 64

/-- The `n`-th real value the spec leaves open, as a rational.
Log entry 3: DESIGN CHOICE, safe. -/
opaque Config.freeRat : Nat → Rat

/-- The `n`-th outcome the spec leaves open as yes or no.
Log entry 3: DESIGN CHOICE, safe. -/
opaque Config.freeBool : Nat → Bool

/-- The `n`-th run of octets the spec leaves open, with its length.
Log entry 3: DESIGN CHOICE, safe. -/
opaque Config.freeOctets : Nat → Nat → List (BitVec 8)

/-- The payload bits of a NaN result, which no rule states (R803). -/
opaque Config.nanPayload : BitVec 32

/-- The software version text of an image, by its BUILD (0x100A), which no rule states.
Log entry 153: DESIGN CHOICE, safe. -/
opaque Config.imageVersion : BitVec 32 → List (BitVec 8)

/-- The number of objects in the schema of an image, by its BUILD (0x2000:03), which no rule states.
Log entry 153: DESIGN CHOICE, safe. -/
opaque Config.schemaObjects : BitVec 32 → BitVec 16

/-- The code of the `n`-th device event in a TYPE 0x0009 record, which R893 does not list: 1 saved values lost, 2 control
record defaulted, 3 lockstep halt, 4 over-temperature, 5 correctable-error threshold, 6 governor overrun, 7 preemption
watchdog, 8 S budget overrun, 9 gallery event, 10 host clock HOLDOVER, 11 host clock FREE-RUN.
Log entry 3: DESIGN CHOICE, safe. -/
opaque Config.eventCode : Nat → BitVec 16

/-- The memory code in a TYPE 0x0008 record, which R893 does not list: 0 field SRAM, 1 Pocket, 2 Cavern, 3 Grotto,
4 Lantern, 5 DRAM.
Log entry 3: DESIGN CHOICE, safe. -/
opaque Config.memoryCode : Nat → BitVec 8

/-- The fine value a sine and a cosine sample form within the quarter the count stands in, whose arctangent no rule
states to the last place (R784).
Log entry 18: DESIGN CHOICE, unsafe. -/
opaque Config.sinCosFine : Nat → Nat → Nat → BitVec 10

/-- Cosine of an electrical angle of 2^32 per turn, whose last place no rule states (R806).
Log entry 23: PRESUMED, unsafe. -/
opaque Config.cosTurn : BitVec 32 → BitVec 32

/-- Sine of an electrical angle of 2^32 per turn (R806).
Log entry 23: PRESUMED, unsafe. -/
opaque Config.sinTurn : BitVec 32 → BitVec 32

/-- R, G and B that BT.601 full range gives a luma and two chroma values, whose rounding no rule states (R735).
Log entry 95: DESIGN CHOICE, safe. -/
opaque Config.yuvRgb : Nat → Nat → Nat → BitVec 24

/-- R, G and B of a 16-bit RGB565 pixel, whose widening to 8 bits no rule states (R735).
Log entry 95: DESIGN CHOICE, safe. -/
opaque Config.rgb565 : BitVec 16 → BitVec 24

/-- The luma octet a composed pixel is written back with, whose rounding no rule states (R752).
Log entry 95: DESIGN CHOICE, safe. -/
opaque Config.rgbLuma : Nat → Nat → Nat → BitVec 8

/-- The element that a requantisation gives where its scale is no finite number or its input a NaN, which no rule states (R553).
Log entry 129: DESIGN CHOICE, safe. -/
opaque Config.openElem : Nat → BitVec 32 → BitVec 32

/-- The greater or lesser of a NaN and another number, which no rule states (R568, R569).
Log entry 129: DESIGN CHOICE, safe. -/
opaque Config.nanPick : BitVec 32 → BitVec 32 → BitVec 32

/-- What the vector unit gives for a function and its argument, of the numbers that R555 allows: 0 exp, 1 sigmoid, 2 tanh, 3 SiLU,
4 GELU.
Log entry 130: DESIGN CHOICE, safe. -/
opaque Config.actValue : Nat → BitVec 32 → BitVec 32

/-- GELU is the form by the hyperbolic tangent; the spec names no form (R555).
Log entry 130: DESIGN CHOICE, safe. -/
opaque Config.geluTanh : Bool

/-- Resize places samples at half-pixel centres; the spec names no convention (R569).
Log entry 131: DESIGN CHOICE, unsafe. -/
opaque Config.resizeHalf : Bool

/-- Cosine of a rotary angle, from the position and the angle by position, which no rule gives a precision (R659).
Log entry 132: DESIGN CHOICE, safe. -/
opaque Config.rotCos : Nat → BitVec 32 → BitVec 32

/-- Sine of a rotary angle (R659).
Log entry 132: DESIGN CHOICE, safe. -/
opaque Config.rotSin : Nat → BitVec 32 → BitVec 32

/-- The APLIC source of a host interrupt other than source 40 of composition, which no rule numbers (R377, R756).
Log entry 138: PRESUMED, unsafe. -/
opaque Config.irqSource : Nat → BitVec 10

/-- Word of the emulated configuration data that the field image fixes and no rule gives (R350).
Log entry 139: PRESUMED, unsafe. -/
opaque Config.imageWord : Nat → BitVec 16

/-- A quotient of an ISP stage is rounded up; no rule states its rounding (R465).
Log entry 156: DESIGN CHOICE, safe. -/
opaque Config.ispRound : Nat → Nat → Nat → Bool

/-- What an ISP filter reads outside the frame (R465).
Log entry 156: DESIGN CHOICE, safe. -/
opaque Config.outsidePixel : List (List (List Nat)) → Nat → Int → Int → BitVec 16

/-- Which of four per-channel words belongs to a CFA pattern's place of the tile (R465).
Log entry 156: DESIGN CHOICE, safe. -/
opaque Config.cfaOrder : Nat → Nat → BitVec 2

/-- The median of an even number of values, between its two middle ones (R465).
Log entry 156: DESIGN CHOICE, safe. -/
opaque Config.between : Nat → Nat → BitVec 16

/-- R, G and B that demosaic makes of a CFA pattern, a place of the tile and the 5 × 5 samples about it (R465).
Log entry 156: DESIGN CHOICE, safe. -/
opaque Config.demosaic : Nat → Nat → List Nat → BitVec 48

/-- The white-balance word of a channel, 3 for mono (R465).
Log entry 156: DESIGN CHOICE, safe. -/
opaque Config.balanceWord : Nat → BitVec 2

/-- What noise reduction of a strength makes of the 5 × 5 values about a pixel (R465).
Log entry 156: DESIGN CHOICE, safe. -/
opaque Config.noiseReduce : Nat → List Nat → BitVec 16

/-- Luma on 16 bits of a 16-bit R, G and B (R468).
Log entry 156: DESIGN CHOICE, safe. -/
opaque Config.luma16 : Nat → Nat → Nat → BitVec 16

/-- Y, U and V on 8 bits of a 16-bit R, G and B, BT.601 full range (R468).
Log entry 156: DESIGN CHOICE, safe. -/
opaque Config.rgbYuv : Nat → Nat → Nat → BitVec 24

/-- What sets the voltage of a core rail, 0 VCORE_APP and 1 VCORE_NPU, at a clock in MHz, within the rail's range (R932, R934).
Log entry 126: DESIGN CHOICE, unsafe. -/
opaque Config.coreMv : Nat → Nat → BitVec 16

end Sys2Proof
end

