-- ==== Sys2Proof/Machine/Num.lean ====
section
/-! DEFINITION. Octet order (R6), bit fields, two's complement, rounding and the checksums of the part. -/

namespace Sys2Proof.Machine

/-- The `n` octets of `v`, least significant first (R6). -/
def leBytes : Nat → Nat → List Byte
  | 0, _ => []
  | n + 1, v => BitVec.ofNat 8 v :: leBytes n (v / 256)

/-- The number that octets spell, least significant first (R6). -/
def leNat : List Byte → Nat
  | [] => 0
  | b :: t => b.toNat + 256 * leNat t

/-- Two's complement reading of the low `w` bits of `v`. -/
def toSigned (w v : Nat) : Int :=
  let m := v % 2 ^ w
  if m < 2 ^ (w - 1) then (m : Int) else (m : Int) - 2 ^ w

/-- Two's complement coding of `i` in `w` bits. -/
def ofSigned (w : Nat) (i : Int) : Nat := (i % (2 ^ w : Int)).toNat

/-- Signed reading of octets. -/
def leInt (b : List Byte) : Int := toSigned (8 * b.length) (leNat b)

/-- The `n` octets of a signed number. -/
def leBytesI (n : Nat) (i : Int) : List Byte := leBytes n (ofSigned (8 * n) i)

/-- Octets `off` to `off + n - 1`; octets past the end read zero. -/
def slice (b : List Byte) (off n : Nat) : List Byte :=
  let t := (b.drop off).take n
  t ++ List.replicate (n - t.length) 0

/-- The unsigned field of `n` octets at `off`. -/
def fieldN (b : List Byte) (off n : Nat) : Nat := leNat (slice b off n)

/-- The signed field of `n` octets at `off`. -/
def fieldI (b : List Byte) (off n : Nat) : Int := leInt (slice b off n)

/-- Write octets `v` at `off`. -/
def splice (b : List Byte) (off : Nat) (v : List Byte) : List Byte :=
  b.take off ++ v ++ b.drop (off + v.length)

/-- Pad or cut to `n` octets. -/
def fitTo (n : Nat) (b : List Byte) : List Byte := b.take n ++ List.replicate (n - b.length) 0

/-- Bits [hi:lo] of `v`. -/
def bits (v hi lo : Nat) : Nat := v / 2 ^ lo % 2 ^ (hi + 1 - lo)

/-- Bit `i` of `v`. -/
def bit (v i : Nat) : Bool := v.testBit i

/-- 1 for true, 0 for false. -/
def b2n (b : Bool) : Nat := if b then 1 else 0

/-- Bits [hi:lo] of `v` replaced by the low bits of `x`. -/
def setBits (v hi lo x : Nat) : Nat :=
  let m := 2 ^ (hi + 1 - lo)
  v / (2 ^ lo * m) * (2 ^ lo * m) + x % m * 2 ^ lo + v % 2 ^ lo

/-- Bit `i` of `v` replaced. -/
def setBit (v i : Nat) (b : Bool) : Nat := setBits v i i (b2n b)

/-- The numbers below `n` whose bit of `v` is set, ascending. -/
def bitList (v n : Nat) : List Nat := (List.range n).filter (fun i => v.testBit i)

/-- Number of set bits below bit `n`. -/
def popCount (v n : Nat) : Nat := (bitList v n).length

/-- Truncation to 32 bits, as every U32 counter wraps. -/
def wrap32 (n : Nat) : Nat := n % 2 ^ 32

/-- Round to nearest, ties to even. -/
def rneDiv (n : Int) (d : Nat) : Int :=
  let q := n / d
  let r := n % d
  if 2 * r < d then q else if 2 * r > d then q + 1 else if q % 2 = 0 then q else q + 1

/-- Round to nearest, ties away from zero. -/
def rnaDiv (n : Int) (d : Nat) : Int :=
  if n < 0 then -((2 * (-n) + d) / (2 * d)) else (2 * n + d) / (2 * d)

/-- Saturation of `i` to a signed range of `w` bits. -/
def satS (w : Nat) (i : Int) : Int :=
  let hi : Int := 2 ^ (w - 1) - 1
  let lo : Int := -2 ^ (w - 1)
  if i > hi then hi else if i < lo then lo else i

/-- `i` held within `lo` and `hi`. -/
def clampI (lo hi i : Int) : Int := if i < lo then lo else if i > hi then hi else i

/-- Integer square root by bits, from bit `n` down. -/
def isqrtBits : Nat → Nat → Nat → Nat
  | 0, _, r => r
  | n + 1, x, r => let c := r + 2 ^ n; if c * c ≤ x then isqrtBits n x c else isqrtBits n x r

/-- Integer square root. -/
def isqrt (x : Nat) : Nat := isqrtBits (Nat.log2 x / 2 + 1) x 0

/-- One step of a reflected 64-bit CRC register over one bit. -/
def crc64Bit (c : BitVec 64) : BitVec 64 :=
  if c.getLsbD 0 then (c >>> 1) ^^^ 0xC96C5795D7870F42 else c >>> 1

/-- `n` steps of the register. -/
def crc64Bits : Nat → BitVec 64 → BitVec 64
  | 0, c => c
  | n + 1, c => crc64Bits n (crc64Bit c)

/-- One octet enters the register, least significant bit first (R424). -/
def crc64Octet (c : BitVec 64) (b : Byte) : BitVec 64 := crc64Bits 8 (c ^^^ b.zeroExtend 64)

/-- CRC-64 of R424 over octets in ascending order. -/
def crc64 (l : List Byte) : BitVec 64 :=
  (l.foldl crc64Octet (BitVec.allOnes 64)) ^^^ BitVec.allOnes 64

/-- One step of the reflected CRC-32 register of IEEE 802.3. -/
def crc32Bit (c : BitVec 32) : BitVec 32 := if c.getLsbD 0 then (c >>> 1) ^^^ 0xEDB88320 else c >>> 1

/-- One octet enters the register. -/
def crc32Octet (c : BitVec 32) (b : Byte) : BitVec 32 := (List.range 8).foldl (fun c _ => crc32Bit c) (c ^^^ b.zeroExtend 32)

/-- CRC-32 with the IEEE 802.3 polynomial over octets in ascending order (R175, R245).
Log entry 122: PRESUMED, unsafe. -/
def crc32 (l : List Byte) : BitVec 32 := (l.foldl crc32Octet (BitVec.allOnes 32)) ^^^ BitVec.allOnes 32

/-- Characters of a text as octets. -/
def ascii (t : String) : List Byte := t.toList.map (fun c => BitVec.ofNat 8 c.toNat)

/-- A mask of bits. -/
def maskOf (l : List Nat) : Nat := l.foldl (fun a k => a ||| 2 ^ k) 0

/-- The engine's value where it is one of those allowed, else the first of them.
Log entry 154: DESIGN CHOICE, safe. -/
def oneOf (l : List Nat) (v : Nat) : Nat := if l.contains v then v else l.headD v

/-- The whole numbers next to a rational: those a rounding may give.
Log entry 154: DESIGN CHOICE, safe. -/
def nextTo (q : Rat) : List Nat := [q.floor.toNat, q.ceil.toNat]

/-! ### BT.601 full range (R468, R735) -/

/-- A number limited to a range. -/
def clampQ (lo hi q : Rat) : Rat := if q < lo then lo else if hi < q then hi else q

/-- Luma of R, G and B. -/
def lumaQ (r g b : Nat) : Rat := (299 * r + 587 * g + 114 * b : Nat) / 1000

/-- Chroma U and V of R, G and B about 128, on a scale where `full` values make one step of 8 bits. -/
def chromaQ (full r g b : Nat) : Rat × Rat :=
  (clampQ 0 255 (128 + ((b : Rat) - lumaQ r g b) / ((1772 * full : Nat) / 1000)), clampQ 0 255 (128 + ((r : Rat) - lumaQ r g b) / ((1402 * full : Nat) / 1000)))

/-- R, G and B of a luma and two chroma values; `pick` chooses among the roundings, which no rule states. -/
def bt601Rgb (pick : BitVec 24) (y u v : Nat) : Nat × Nat × Nat :=
  let du : Rat := (u : Rat) - 128
  let dv : Rat := (v : Rat) - 128
  let at_ := fun (q : Rat) (k : Nat) => oneOf (nextTo (clampQ 0 255 q)) (pick.toNat / 2 ^ k % 256)
  (at_ ((y : Rat) + 1402 / 1000 * dv) 16, at_ ((y : Rat) - 1772 * 114 / 587000 * du - 1402 * 299 / 587000 * dv) 8, at_ ((y : Rat) + 1772 / 1000 * du) 0)

end Sys2Proof.Machine
end

