-- ==== Sys2Proof/Machine/Units.lean ====
section
/-! DEFINITION. The plain-data state of each unit of the two dies. Every field's default is its value right after
power-on; a docstring names the rule that gives the piece of state. -/

namespace Sys2Proof.Machine

/-! ### Line position (chapter 02) -/

/-- Position state, 0x2200:02 [2:0] (R104). -/
inductive PosMode where
  | measured | estimated | invalid | rejoined | following
  deriving DecidableEq, Repr

/-- A pulse in progress on an output: timed, or ending at a position (R1049, R106). -/
structure Pulse where
  pin : OutPin
  /-- `none` for a timed pulse; the 48.8 position at which a PULSE_CNT pulse ends -/
  endAt : Option Int
  /-- what is left of a timed pulse's WIDTH, in units of 0.5 ns (R70) -/
  left : Nat
  /-- the TARGET whose re-crossing ends a PULSE_CNT pulse -/
  start : Int
  reverse : Bool
  deriving DecidableEq, Repr

/-- Values a LATCH action captured (R70): time, tag and position. -/
structure EventLatch where
  time : Nat
  tag : Nat
  position : Int
  deriving DecidableEq, Repr

/-- The position unit of the field die. -/
structure PosUnit where
  /-- filtered level of A (R50) -/ lvlA : Bool := false
  /-- filtered level of B (R50) -/ lvlB : Bool := false
  /-- counted integer part, 48 bits signed (R56, R60) -/ count : Int := 0
  /-- interpolated fraction F (R59) -/ frac : Nat := 0
  /-- present direction of motion is reverse (R72) -/ reverse : Bool := false
  /-- position state (R101, R107) -/ mode : PosMode := .invalid
  /-- INVALID was entered by loss, not at reset (R101, R102) -/ byLoss : Bool := false
  /-- referenced bit (R1044) -/ referenced : Bool := false
  /-- index reference, in counts (R100) -/ indexRef : Option Int := none
  /-- stamps of counted edges since the window restart, newest first (R75, R77) -/ edges : List Nat := []
  /-- time of the last counted edge t_k (R97) -/ edgeTime : Nat := 0
  /-- synthetic edges made since the last counted edge (R97) -/ synth : Nat := 0
  /-- predictor velocity, counts/s (R75) -/ v : Rat := 0
  /-- predictor acceleration, counts/s² (R75) -/ a : Rat := 0
  /-- stamps of quadrature errors within the last 100 µs (R95) -/ qErrs : List Nat := []
  /-- encoder valid (R96) -/ encOk : Bool := false
  /-- a line break is present (R95) -/ broken : Bool := false
  /-- previous follower sample: position, time (R90) -/ sample1 : Option (Int × Nat) := none
  /-- newest follower sample (R90) -/ sample0 : Option (Int × Nat) := none
  /-- a follower's samples have timed out (R94) -/ sampleLost : Bool := true
  /-- consecutive valid follower samples (R101) -/ sampleRun : Nat := 0
  /-- difference the follower closes over one sample interval, 48.8 (R92) -/ closeBy : Int := 0
  /-- field time at which the follower began to close the difference (R92) -/ closeFrom : Nat := 0
  /-- held entries whose target the counter has passed, with the direction of the passage (R101) -/ passed : List (Nat × Bool) := []
  /-- outputs that position events have driven in the present 5 ns cycle (R161) -/ drove : List OutPin := []
  /-- field latch of LATCH actions (R70) -/ latch : Option EventLatch := none
  /-- edge symbols waiting for the tally lane (R83) -/ edgeSymbols : List Byte := []
  deriving DecidableEq, Repr

/-- The replica position unit of the host die (Tally lane and the host replica). -/
structure Replica where
  /-- replica integer part (R85) -/ count : Int := 0
  /-- interpolated fraction -/ frac : Nat := 0
  /-- direction of the last applied edge -/ reverse : Bool := false
  /-- velocity carried by the lane (R84) -/ v : F32 := 0
  /-- acceleration carried by the lane (R84) -/ a : F32 := 0
  /-- position state byte carried by the lane (R84) -/ pstate : Byte := 0x02
  /-- replica time of the last applied edge -/ edgeTime : Nat := 0
  /-- host position is INVALID and host entries are held (R88) -/ held : Bool := true
  /-- consecutive valid state frames while held (R88) -/ validRun : Nat := 0
  /-- entries wait for the reload of R108 -/ reloadDue : Bool := true
  /-- push number of entry 127 in the reload under way, which ends it (R108) -/ reloadPush : Option Nat := none
  /-- reloaded entries are still to be judged at the end of the hold (R108) -/ judgeDue : Bool := false
  /-- held entries whose target the replica has passed, with the direction of the passage (R88, R101) -/ passed : List (Nat × Bool) := []
  /-- the present INVALID was entered by loss (R101) -/ byLoss : Bool := false
  /-- entry contents (R62, R63) -/ entries : Tab (BitVec 128) := []
  /-- push number whose contents the unit holds, per entry (R1038) -/ pushes : Tab Nat := []
  /-- fire reports held until Rope is UP: entry, push, contents (R1038) -/ fires : List (Nat × Nat × BitVec 128) := []
  /-- load reports held until Rope is UP (R1038) -/ loads : Nat := 0
  /-- host latch of LATCH actions (R70) -/ latch : Option EventLatch := none
  deriving DecidableEq, Repr

/-! ### Clocks (chapter 03) -/

/-- Clock state [2:0] of 0x2220:02 and 0x2280:02 (R160). -/
inductive ClockMode where
  | locked | holdover | freeRun
  deriving DecidableEq, Repr

/-- The field distributed clock. -/
structure FieldClock where
  /-- field time, ns (R110) -/ time : Nat := 0
  /-- cycles since the last altered cycle (R113) -/ cycles : Nat := 0
  /-- 200 MHz cycles since the field die's reset (R82, R765) -/ ticks : Nat := 0
  /-- rate correction ρ (R114, R115) -/ rho : Rat := 0
  /-- correction applied in place of ρ until the next frame (R115) -/ inPlace : Option Rat := none
  /-- ns still to close by the running slew, signed (R117) -/ slew : Option Rat := none
  /-- the one step after reset has been made (R116) -/ stepped : Bool := false
  /-- a re-acquire command permits one further step (R119) -/ permit : Bool := false
  /-- field steps since reset, modulo 256 (R133) -/ fsteps : Nat := 0
  /-- field time after the last step (R869 STEP_SINCE) -/ lastStepAt : Option Nat := none
  /-- difference and own time of the last drift frame (R115) -/ drift : Option (Int × Nat) := none
  /-- consecutive frames within the lock threshold (R156) -/ inRun : Nat := 0
  /-- consecutive frames outside it (R156) -/ outRun : Nat := 0
  /-- clock state (R156) -/ mode : ClockMode := .freeRun
  /-- never-locked bit (R156) -/ never : Bool := true
  /-- reference role (R121) -/ ref : Bool := false
  /-- holdover timer, ns (R156) -/ holdNs : Nat := 0
  /-- holdover timer runs (R156) -/ holdRun : Bool := false
  /-- ns in the present HOLDOVER or FREE-RUN (0x2220:05) -/ inState : Nat := 0
  /-- the next drift frame takes d[k − 1] = d[k] (R115) -/ fresh : Bool := true
  /-- F_PPS level (R145) -/ pps : Bool := false
  /-- whole second of field time at which F_PPS next rises (R1045) -/ ppsNext : Nat := 1000000000
  /-- what is left of the F_PPS pulse, in units of 0.5 ns (R146) -/ ppsLeft : Nat := 0
  deriving DecidableEq, Repr

/-- The 802.1Qbv gate control list of one host port (R131). Its contents belong to a register block no chapter gives (log entry 118).
Log entry 118: DESIGN CHOICE, safe. -/
structure GateList where
  /-- base time of the list's cycles, ns -/ base : Nat := 0
  /-- cycle time, ns; 0 while no list runs -/ cycle : Nat := 0
  /-- entry in force -/ entry : Nat := 0
  /-- host PTP time of the next cycle start -/ start : Option Nat := none
  deriving DecidableEq, Repr

/-- The host PTP clock and its servo. -/
structure HostClock where
  /-- host PTP time, ns (R111) -/ time : Nat := 0
  /-- accumulated part below 1 ns -/ sub : Rat := 0
  /-- rate adjustment y (R124) -/ y : Rat := 0
  /-- running sum of offsets (R124) -/ sum : Rat := 0
  /-- consecutive samples within the threshold (R126) -/ inRun : Nat := 0
  /-- consecutive samples outside it (R157) -/ outRun : Nat := 0
  /-- clock state (R157) -/ mode : ClockMode := .freeRun
  /-- never-locked bit (R166) -/ never : Bool := true
  /-- offset from the master, ns (R138) -/ offset : Int := 0
  /-- holdover timer, ns (R157) -/ holdNs : Rat := 0
  /-- holdover timer runs -/ holdRun : Bool := false
  /-- H_PPS level (R145) -/ pps : Bool := false
  /-- whole second of host PTP time at which H_PPS next rises (R1045) -/ ppsNext : Nat := 1000000000
  /-- what is left of the H_PPS pulse, in units of 0.5 ns (R146) -/ ppsLeft : Nat := 0
  /-- host port of the last Sync message from the selected master (R122) -/ port : Nat := 0
  /-- host steps since reset, for the pairs (R140) -/ steps : Nat := 0
  /-- step counts at each captured host pair, newest first: sequence, host steps, field steps the replica has taken (R138, R140) -/ pairMarks : List (Nat × Nat × Nat) := []
  /-- sequence number of the last host pair (R138) -/ pairSeq : Nat := 0
  /-- last field pair acknowledgement seen (R133) -/ pairAck : Nat := 0
  /-- the 802.1Qbv gate lists of the two host ports (R131) -/ gates : List GateList := [{}, {}]
  /-- the 0x2281 values pushed to the host die, by subindex (R130) -/ cfg : Tab (List Byte) := []
  deriving DecidableEq, Repr

/-- The field-time replica of the host die (R132 to R137). -/
structure TimeReplica where
  /-- replica value, ns (R132) -/ time : Nat := 0
  /-- symbols since the last altered symbol (R132) -/ symbols : Nat := 0
  /-- rate correction of the latest heartbeat, ppb (R132) -/ rho : Int := 0
  /-- correction still to absorb, ns (R135) -/ absorb : Int := 0
  /-- replica is INVALID (R162, R1040) -/ invalid : Bool := true
  /-- stamps are flagged INVALID (R162) -/ stampInvalid : Bool := true
  /-- stamps are flagged STEPPED (R136) -/ stepped : Bool := false
  /-- FSTEPS of the latest heartbeat (R136) -/ fsteps : Option Nat := none
  /-- field steps the replica has taken, for the pairs (R140) -/ steps : Nat := 0
  deriving DecidableEq, Repr

/-- Host pairs as the field die keeps them (R138 to R140, R164). -/
structure PairStore where
  /-- newest pair: replica time, PTP time, sequence -/ p2 : Option (Nat × Nat × Nat) := none
  /-- the pair before it -/ p1 : Option (Nat × Nat × Nat) := none
  /-- host and field steps at the capture of the newest pair (R140) -/ mark2 : Nat × Nat := (0, 0)
  /-- and of the pair before it -/ mark1 : Nat × Nat := (0, 0)
  /-- host clock state of the newest pair (R210) -/ clock : Byte := 0x82
  /-- HRUN of the last host heartbeat (R210, R248) -/ hrun : Byte := 0
  /-- host offset of the last host heartbeat, ns (R210) -/ offset : Int := 0
  deriving DecidableEq, Repr

/-- SYNC, LATCH and the control-cycle timer (R141 to R155). -/
structure SyncUnit where
  /-- F_SYNC0 level -/ sync0 : Bool := false
  /-- F_SYNC1 level -/ sync1 : Bool := false
  /-- what is left of the SYNC0 pulse, ns (R141) -/ left0 : Nat := 0
  /-- what is left of the SYNC1 pulse, ns -/ left1 : Nat := 0
  /-- next grid point of SYNC0 (R1045) -/ next0 : Option Nat := none
  /-- next grid point of SYNC1 -/ next1 : Option Nat := none
  /-- field time of the last control-cycle start (R152) -/ cycleStart : Nat := 0
  /-- measured length of the present control cycle, ns (R806) -/ cycleLen : Nat := 25000
  /-- pending re-phase point (R155) -/ rephase : Option Nat := none
  /-- the running cycle ends at its natural end and the next starts at the re-phase point (R155) -/ deferred : Bool := false
  /-- control cycles started -/ cycles : Nat := 0
  /-- 200 MHz cycle at which the present one started (R770) -/ startTick : Nat := 0
  deriving DecidableEq, Repr

/-! ### Rope (chapter 04) -/

/-- The time record of a field heartbeat (R133). -/
structure FieldHb where
  tSend : Nat
  rho : Int
  fstate : Byte
  fsteps : Byte
  pairAck : BitVec 16
  deriving DecidableEq, Repr

/-- The payload of a host heartbeat (R210). -/
structure HostHb where
  replica : Nat
  ptp : Nat
  seq : BitVec 16
  clock : Byte
  hrun : Byte
  offset : Int
  deriving DecidableEq, Repr

/-- A mirror message or class-5 result (R182, R339). -/
structure MirrorMsg where
  mtype : BitVec 16
  rtag : BitVec 16
  part : Byte
  flags : Byte
  capPos : Int
  capTime : Nat
  target : BitVec 64
  body : BitVec 128
  result : BitVec 64
  deriving DecidableEq, Repr

/-- A fault-log record (R892); the byte form is `FaultRec.bytes`. -/
structure FaultRec where
  type : BitVec 16
  source : Byte
  reaction : Byte
  seq : BitVec 32
  time : Nat
  position : Int
  mech : BitVec 16
  axis : Byte
  part : Byte
  tag : BitVec 16
  detail : List Byte
  deriving DecidableEq, Repr

/-- A Rope frame: the header fields of R176 and the payload (R174). -/
structure Frame where
  cls : Nat
  kind : Nat
  last : Bool
  seq : Nat
  ack : Option Nat
  nak : Bool
  crClass : Nat
  crCount : Nat
  tag : Nat
  payload : List Byte
  /-- the frame arrived before the link last went DOWN, so its credit is gone (R1050) -/ stale : Bool := false
  /-- field-time replica at which the frame arrived at the host die (R134) -/ arrived : Nat := 0
  deriving DecidableEq, Repr

/-- One Rope end: transmitter and receiver of one die. -/
structure RopeEnd where
  /-- class frames waiting, in order of queueing (R178) -/ queue : List Frame := []
  /-- link-control frames waiting (R177) -/ control : List Frame := []
  /-- sent and unacknowledged frames with their replay counts (R195, R197) -/ unacked : List (Frame × Nat) := []
  /-- frames of a running replay, in order (R193) -/ resend : List Frame := []
  /-- next link sequence number (R176) -/ nextSeq : Nat := 0
  /-- last sequence number received in order (R176) -/ lastGood : Nat := 255
  /-- good frames not yet acknowledged (R194) -/ goodRun : Nat := 0
  /-- an error episode is open (R192) -/ episode : Bool := false
  /-- class credits held (R179, R185) -/ credits : List Nat := [4, 4, 8, 8, 4, 8, 8, 2]
  /-- response credits held (R186) -/ respCredits : Nat := 2
  /-- response credits spent on frames of each class and not yet returned (R186) -/ respOut : List Nat := [0, 0, 0, 0, 0, 0, 0, 0]
  /-- credits to return, per class (R189) -/ owed : List Nat := [0, 0, 0, 0, 0, 0, 0, 0]
  /-- requests issued whose response has its buffer reserved, by class and tag (R187) -/ awaits : List (Nat × Nat) := []
  /-- frames delivered and not yet dispatched (R180, R189) -/ inbox : List Frame := []
  /-- frames sent by this end and still on the lanes: the symbols of each active lane (R172, R173) -/ wire : List (List (List Symbol)) := []
  /-- link marked degraded (R197) -/ degraded : Bool := false
  /-- field time at which the last heartbeat arrived -/ lastHb : Option Nat := none
  /-- the partner's heartbeats are being timed (R1042) -/ timing : Bool := false
  /-- the partner has been declared lost (R211, R213) -/ lost : Bool := false
  /-- a first heartbeat or a 10 s declaration is still awaited (R1042) -/ awaiting : Bool := true
  deriving DecidableEq, Repr

/-- Link state, 0x3A00:01 (R223). -/
inductive LinkMode where
  | down | training | up
  deriving DecidableEq, Repr

/-- Training and width state of the link, with the level exchange. -/
structure Link where
  /-- link state (R223) -/ mode : LinkMode := .down
  /-- active width (R171) -/ width : Nat := 0
  /-- healthy pairs (R204) -/ healthy : BitVec 4 := 0
  /-- field times of the code and disparity violations of each pair within the last 1 ms (R204) -/ viol : Tab (List Nat) := []
  /-- measured D, ns (R199) -/ d : Nat := 0
  /-- tally transfer delay, ns (R86) -/ tallyDelay : Nat := 0
  /-- tally lane locked (R201) -/ tallyLock : Bool := false
  /-- width asked for by the governing retrain (R205, R206) -/ want : Nat := 4
  /-- kept retrain request (R206) -/ kept : Option Nat := none
  /-- a request that came after step 7 of the running training, which follows link UP (R206) -/ after : Option Nat := none
  /-- attempts of the running retrain (R209) -/ attempts : Nat := 0
  /-- a host retrain request was superseded, ROPE_STATUS[8] (R224) -/ superseded : Bool := false
  /-- the training in progress is of a link that was DOWN (R1050) -/ afresh : Bool := true
  /-- the running retrain tests excluded pairs again (R208) -/ retest : Bool := true
  /-- a wake beacon lets the field die train while the host watches (R952, R957) -/ beacon : Bool := false
  /-- a host request governs the running retrain (R223) -/ hostAsked : Bool := false
  /-- the link has been UP since the field die's reset (R203) -/ fieldSeen : Bool := false
  /-- the link has been UP since the host die's reset (R993) -/ hostSeen : Bool := false
  /-- the field die's LEVELS frame of the due exchange carries FRESH (R203) -/ fresh : Bool := false
  /-- the due exchange is the first since a host-die reset (R130) -/ hostNew : Bool := false
  /-- a level exchange is due (R993) -/ levelsDue : Bool := false
  /-- the field die has received the host die's LEVELS frame of the due exchange (R202) -/ fieldHas : Bool := false
  /-- the host die has received the field die's LEVELS frame of the due exchange -/ hostHas : Bool := false
  /-- compatibility outcome of the field die, 0 to 3 (R994) -/ outcome : Nat := 0
  /-- the host die's outcome, ROPE_STATUS.LEVEL and 0x2003:01 (R224, R277) -/ hostOutcome : Nat := 0
  /-- RPL majors differ (R203, R995) -/ rplDiffers : Bool := false
  deriving DecidableEq, Repr

/-! ### Dictionary (chapter 05) -/

/-- A forwarded request awaiting the host's answer, at the field die (R248, R249). -/
structure Forward where
  tag : Nat
  index : Nat
  sub : Nat
  op : Nat
  /-- its answer completes an SDO response of the master's -/ answers : Bool := true
  complete : Bool := false
  /-- octets of segments answered so far (R184) -/ got : List Byte := []
  deriving DecidableEq, Repr

/-- A forwarded request or segment of one (R250, R265, R1047). -/
structure FwdReq where
  fromPort : Bool
  op : Byte
  index : BitVec 16
  sub : Byte
  complete : Bool
  segment : Bool
  last : Bool
  offset : Nat
  data : List Byte
  deriving DecidableEq, Repr

/-- A fetched H2D entry (R264). -/
structure H2d where
  type : Nat
  op : Nat
  tag : Nat
  index : Nat
  sub : Nat
  flags : Nat
  length : Nat
  abort : Nat
  /-- DATA: an inline value, or the address of the buffer -/ data : List Byte
  offset : Nat
  deriving DecidableEq, Repr

/-- A forwarded entry the host die holds a slot for (R250, R1047). -/
structure HostSlot where
  slot : Nat
  /-- forward tag (R265) -/ tag : Nat
  req : FwdReq
  /-- the value that an answer to this entry applies: the whole one for a last segment (R1047) -/ value : List Byte
  /-- the port's own request that this entry serves (R251) -/ port : Option H2d
  /-- the 50 ms limit has expired (R278) -/ expired : Bool := false
  deriving DecidableEq, Repr

/-- An SDO answer sent to the master: object, abort code (0 on success) and value. -/
structure SdoAnswer where
  index : Nat
  sub : Nat
  abort : Nat
  value : List Byte
  deriving DecidableEq, Repr

/-- A segmented SDO transfer in progress (R253, R256). -/
structure SdoTransfer where
  index : Nat
  sub : Nat
  complete : Bool
  upload : Bool
  total : Nat
  toggle : Bool
  data : List Byte
  deriving DecidableEq, Repr

/-- A port request that has gone to the field die and not completed (R187, R263, R266). -/
structure PortWait where
  entry : H2d
  cls : Nat
  /-- completes when its last frame is acknowledged (R214) -/ posted : Bool := false
  /-- segments of a confirmed write still to be sent (R184) -/ rest : List (List Byte) := []
  /-- octets of a read received so far (R184) -/ got : List Byte := []
  deriving DecidableEq, Repr

/-- A segmented write that the field die is receiving (R184). -/
structure FieldTransfer where
  cls : Nat
  tag : Nat
  index : Nat
  sub : Nat
  data : List Byte
  deriving DecidableEq, Repr

/-- A segmented write under way from the port (R184). -/
structure PortTransfer where
  index : Nat
  sub : Nat
  data : List Byte
  deriving DecidableEq, Repr

/-- One copy of a saved store (R245): values and the CRC-32 stored with them; `none` when erased (R246). -/
structure SavedCopy where
  values : List (Nat × List Byte)
  crc : BitVec 32
  order : Nat
  deriving DecidableEq, Repr

/-- The two copies of one store (R245, R246). -/
structure SavedStore where
  a : Option SavedCopy := none
  b : Option SavedCopy := none
  deriving DecidableEq, Repr

/-! ### Staged change (chapter 06) -/

/-- Stage-set state, 0x2110+s:02 (R313). -/
inductive SetMode where
  | idle | opened | checking | checked | arming | armed | applied | failed
  deriving DecidableEq, Repr

/-- How an armed set's instant was resolved (R297). -/
inductive Instant where
  | time (t : Nat)
  | position (p : Int)
  deriving DecidableEq, Repr

/-- Who awaits the outcome of a dictionary write (R293, R312): nobody, the master's SDO, or a confirmed-write frame by class
and tag. -/
inductive Asker where
  | nobody | master
  | frame (cls tag : Nat)
  deriving DecidableEq, Repr

/-- A stage set (R284, R292, R313). Entries are (index, subindex, value). -/
structure StageSet where
  mode : SetMode := .idle
  owner : Option Source := none
  entries : List (Nat × Nat × List Byte) := []
  instant : Option Instant := none
  rule : Nat := 0
  failEntry : Nat := 0xFFFF
  failDie : Nat := 0
  appliedTime : Nat := 0
  appliedPos : Int := 0
  late : Bool := false
  hostLate : Bool := false
  isRollback : Bool := false
  /-- the host die has taken PREPARE and reserved resources (R292) -/ hostReserved : Bool := false
  /-- shadow entries and instant loaded on the host die and not yet applied there (R292, R303) -/ shadow : Option (List (Nat × Nat × List Byte) × Instant) := none
  /-- the earlier values of the host-owned entries, once the host die has applied its part (R309) -/ hostOld : List (Nat × Nat × List Byte) := []
  /-- the field counter has crossed the armed position: true when a step or a return passed it (R304, R305) -/ due : Option Bool := none
  /-- the replica counter has crossed the position of the shadow (R304) -/ hostDue : Bool := false
  /-- who awaits the outcome of the CHECK, ARM or rollback write, and the object it named (R293, R312) -/ waiter : Asker := .nobody
  waitOn : Nat × Nat := (0, 0)
  /-- number of the latest exchange with the host die, which its frames carry (R292) -/ exchange : Nat := 0
  deriving DecidableEq, Repr

/-! ### Fieldbus (chapter 07) -/

/-- AL states (R343). -/
inductive AlState where
  | init | preop | safeop | op | boot
  deriving DecidableEq, Repr

/-- An emergency message (R359). -/
structure Emergency where
  code : Nat
  errorRegister : Nat
  axis : Nat
  detail : Nat
  deriving DecidableEq, Repr

/-- The fieldbus slave. -/
structure Fieldbus where
  /-- AL state (R373) -/ al : AlState := .init
  /-- AL status code (R346) -/ code : Nat := 0
  /-- AL status error flag -/ error : Bool := false
  /-- the slave runs the boot ROM's INIT and BOOT only (R1004) -/ romOnly : Bool := false
  /-- Type 12 registers (R324): offset to value -/ regs : Tab Nat := []
  /-- link present on each port (R322) -/ port0 : Bool := true
  port1 : Bool := true
  /-- a complete SyncManager 2 buffer has arrived since SAFEOP (R346) -/ sm2Seen : Bool := false
  /-- outputs of the newest SyncManager 2 buffer -/ sm2 : List Byte := []
  /-- outputs wait for the next control-cycle start (R335) -/ sm2Fresh : Bool := false
  /-- inputs in the SyncManager 3 buffer (R336) -/ sm3 : List Byte := []
  /-- in-frame answers of the last delimiter: position, time, state, summary (R338) -/ answer : Int × Nat × Byte × Byte := (0, 0, 0x02, 0)
  /-- emergencies waiting for CoE (R361) -/ emcyQueue : List Emergency := []
  /-- emergencies sent, newest first (R359) -/ emcySent : List Emergency := []
  /-- SDO answers sent, newest first -/ sdoSent : List SdoAnswer := []
  /-- inputs that the frame now passing carries away (R338, R370) -/ frameIn : List Byte := []
  /-- mailbox error codes sent, newest first (R321) -/ mbxErrors : List Nat := []
  /-- FoE results sent, newest first: 0 or an FoE error (R326) -/ foeSent : List Nat := []
  /-- octets of the last FoE read (R894) -/ foeData : List Byte := []
  /-- a complete IKF write waits for BOOT to INIT (R970) -/ ikfDone : Bool := false
  /-- segmented SDO transfer -/ transfer : Option SdoTransfer := none
  /-- forwarded requests awaiting answers (R249) -/ forwards : List Forward := []
  /-- next forward tag -/ nextTag : Nat := 0
  /-- field SRAM copy of the station alias, register 0x0012 (R354) -/ station : BitVec 16 := 0
  /-- configured station address, register 0x0010 (R355) -/ address : BitVec 16 := 0
  /-- last configuration-data write ended in error (R352, R353) -/ eepromError : Bool := false
  /-- safe outputs in force (R363, R365) -/ safeOut : BitVec 16 := 0
  /-- SyncManager 3 refresh stopped by a firmware halt (R374) -/ sm3Stopped : Bool := false
  deriving DecidableEq, Repr

/-! ### Host memory (chapter 08) -/

/-- A fabric record (R438). -/
structure FabRec where
  cause : Nat
  agent : Nat
  part : Nat
  client : Nat
  queue : Nat
  unit : Nat
  line : Nat
  mask : Nat
  deriving DecidableEq, Repr

/-- A store issued and not yet accepted (R432 to R434). -/
structure PendingStore where
  who : Origin
  line : Nat
  mask : Nat
  data : List Byte
  deriving DecidableEq, Repr

/-- An APLIC domain as the AIA specification gives it (R377): domaincfg IE and BE, sourcecfg, target, pending and enabled sources,
the MSI address registers and genmsi. -/
structure Aplic where
  ie : Bool := false
  be : Bool := false
  source : Tab Nat := []
  target : Tab Nat := []
  pending : Nat := 0
  enabled : Nat := 0
  addr : Tab Nat := []
  genmsi : Nat := 0
  deriving DecidableEq, Repr

/-- DRAM, windows, bandwidth and fabric faults. -/
structure Memory where
  /-- pending identities of each interrupt file, one bit each (R377) -/ imsic : Tab Nat := []
  /-- APLIC domain at machine level (R377) -/ aplicM : Aplic := {}
  /-- APLIC domain at supervisor level (R377) -/ aplicS : Aplic := {}
  /-- DRAM octets (R382): address to octet -/ cells : List (Nat × Byte) := []
  /-- losses of DRAM contents, newest first, each with the ranges (base, size) it spared (R430) -/ losses : List (List (Nat × Nat)) := []
  /-- poisoned lines (R415, R417) -/ poison : List Nat := []
  /-- octets of Grotto that are not zero (R471) -/ grotto : Tab Byte := []
  /-- stores in flight, oldest first (R432) -/ stores : List PendingStore := []
  /-- values the last engine load returned (R389) -/ loaded : List Byte := []
  /-- the last core access raised a fault: hart (R383, R418) -/ coreFault : Option Nat := none
  /-- RAS interrupts raised, one bit per hart (R439) -/ ras : BitVec 8 := 0
  /-- fabric records, newest first, at most 64 (R438) -/ fab : List FabRec := []
  /-- FAB_COUNT (R438) -/ fabCount : Nat := 0
  /-- MC_CE_COUNT (R414) -/ ceCount : Nat := 0
  /-- errors corrected in the present scrub cycle (R445) -/ ceCycle : Nat := 0
  /-- MC_CTRL[0] ECC_EN (R411) -/ ecc : Bool := false
  /-- DRAM training has completed (R411) -/ trained : Bool := false
  /-- fitted capacity, GiB (R409) -/ fittedGib : Nat := 8
  /-- live partition windows, entry number to entry (R400) -/ pwinLive : Tab (BitVec 128) := []
  /-- shadow partition windows (R400) -/ pwinShadow : Tab (BitVec 128) := []
  /-- how often the window table has been switched (R400) -/ pwinGen : Nat := 0
  /-- older tables, by the switch that ended them, kept for work units that started before it (R404) -/ pwinOld : List (Nat × Tab (BitVec 128)) := []
  /-- lines served in the present 1 µs period to S, D and B (R405) -/ usedS : Nat := 0
  usedD : Nat := 0
  usedB : Nat := 0
  /-- keep regions whose checksum was taken at reset entry (R422, R425) -/ keepTaken : BitVec 8 := 0
  /-- DRAM is in self-refresh (R425) -/ selfRefresh : Bool := false
  deriving DecidableEq, Repr

/-! ### Cameras and Grotto (chapters 09 and 10) -/

/-- A capture stamp (R457, R459, R462, R522). -/
structure Stamp where
  position : Int
  time : Nat
  tag : Nat
  pstate : Byte
  stepped : Bool
  invalid : Bool
  fs : Bool
  noStamp : Bool
  deriving DecidableEq, Repr

/-- A stamp waiting in a trigger's FIFO: the edge's TAG and time and the stamp once captured for each stream. -/
structure PendingStamp where
  tag : Nat
  /-- replica time of the trigger edge -/ edge : Nat
  /-- captured stamps by stream (R457) -/ taken : List (Nat × Stamp)
  /-- streams that have taken or discarded their stamp (R460, R487) -/ used : List Nat := []
  /-- output settings of each bound stream at the edge (R470) -/ pars : List (Nat × Tab Nat) := []
  deriving DecidableEq, Repr

/-- A frame open on a stream (R454). -/
structure OpenFrame where
  stamp : Stamp
  buffer : Option Nat
  dram : Option Nat
  flags : Nat
  lines : Nat
  /-- output settings the frame is processed with, by object offset × 256 + subindex (R470) -/ par : Tab Nat
  /-- embedded lines, written behind the image -/ emb : List (List Byte) := []
  /-- image lines received, as they came (R465) -/ image : List (List Byte) := []
  /-- frame sequence (R482) -/ seq : Nat := 0
  deriving DecidableEq, Repr

/-- Per-stream state. -/
structure Stream where
  /-- frame being received (R454) -/ frame : Option OpenFrame := none
  /-- frames ended whose outputs are not complete, oldest first (R469) -/ finishing : List OpenFrame := []
  /-- frame sequence (R482) -/ seq : Nat := 0
  /-- next Grotto buffer in ring order (R476) -/ nextBuf : Nat := 0
  /-- next DRAM buffer in ring order (R479) -/ nextDram : Nat := 0
  /-- DRAM buffers whose record is unconsumed, with the ring count just behind it; none until it is written (R479) -/ dramHeld : List (Nat × Option Nat) := []
  deriving DecidableEq, Repr

/-- Buffer and copy states (R475, R526). -/
inductive BufMode where
  | free | filling | valid
  deriving DecidableEq, Repr

/-- A Grotto flag with its generation, buffer state, hold count and metadata (R474, R475, R526). -/
structure Flag where
  set : Bool := false
  gen : Nat := 0
  mode : BufMode := .free
  hold : Nat := 0
  stamp : Option Stamp := none
  /-- frame or run sequence in the metadata slot -/ seq : Nat := 0
  /-- the 32-octet frame record in a camera buffer's metadata slot (R474) -/ slot : List Byte := []
  /-- what a camera buffer holds: first octet in Grotto, format, width, height, by the values of its frame (R307, R470) -/ image : Nat × Nat × Nat × Nat := (0, 0, 0, 0)
  deriving DecidableEq, Repr

/-- A pending start of a graph (R513, R516), with the camera flags it will bind. -/
structure Start where
  source : Nat
  /-- camera flags a stream-frame start has taken, by surface (R513, R515) -/ cams : List Nat := []
  deriving DecidableEq, Repr

/-- State of one node in a run. -/
inductive NodeMode where
  | waiting | running | done | skipped
  deriving DecidableEq, Repr

/-- A hint set (R718, R525): regions with counts, and the LT of its period end. -/
structure HintSet where
  regions : List (Nat × Nat × Nat × Nat × Nat)
  lt : Nat
  deriving DecidableEq, Repr

/-- A run in progress (R518 to R524). -/
structure Run where
  seq : Nat
  /-- order of run start over all graphs (R520) -/ order : Nat
  /-- the descriptor in force at its first node (R518) -/ desc : List Byte
  part : Nat
  nodes : List NodeMode
  /-- camera flags bound to surfaces 0 and 1 and not yet released (R507, R530) -/ cams : List (Option Nat)
  stamp : Stamp
  flags : Nat
  tiles : Nat
  status : Nat
  failNode : Nat
  startTime : Nat
  /-- hint set the run holds (R525) -/ hint : Option HintSet
  /-- completed nodes with stores not yet accepted, and how many of the run's stores come before their end (R526) -/ posted : List (Nat × Nat) := []
  /-- nodes whose refinement time has passed, with the tiles done by then (R501) -/ timed : List (Nat × Nat) := []
  /-- window table in force when the run started (R404) -/ winGen : Nat
  deriving DecidableEq, Repr

/-- Per-graph sequencer state. -/
structure Graph where
  run : Option Run := none
  pending : List Start := []
  seq : Nat := 0
  /-- newest kept hint set (R525) -/ hint : Option HintSet := none
  /-- VALID camera flags published for this graph and not yet used, oldest first, by bound stream -/ fresh : List (Nat × Nat) := []
  /-- next copy to be written of each surface (R508) -/ copies : Tab Nat := []
  deriving DecidableEq, Repr

/-! ### Gallery (chapters 11 and 12) -/

/-- A job descriptor (R603). -/
structure Desc where
  op : Nat
  flags : Nat
  entry : Nat
  userTag : Nat
  inAddr : Nat
  outAddr : Nat
  wait0 : Nat
  gen0 : Nat
  wait1 : Nat
  gen1 : Nat
  deadline : Nat
  rtag : Nat
  dlKind : Nat
  emit : Nat
  delta : Int
  body : BitVec 128
  reservedZero : Bool
  deriving DecidableEq, Repr

/-- Progress of a wait (R606, R607). -/
inductive WaitMode where
  | none | open_ | satisfied
  deriving DecidableEq, Repr

/-- Where a job stands. -/
inductive JobMode where
  | waiting | released | running | preempted | finished
  deriving DecidableEq, Repr

/-- What a copy of a job does: not yet dispatched, running, preempted, ended (R626, R630). -/
inductive CopyMode where
  | idle | running | preempted | ended
  deriving DecidableEq, Repr

/-- A store of a copy as its signature takes it: kernel and member, line address, byte mask, data (R879). -/
structure KernelStore where
  kernel : Nat
  member : Nat
  line : Nat
  mask : Nat
  data : List Byte
  deriving DecidableEq, Repr

/-- A copy of a job on its core group (R630, R876). -/
structure Copy where
  /-- first core of its group -/ first : Nat := 0
  mode : CopyMode := .idle
  /-- a preemption is requested; the watchdog runs (R622, R623) -/ victim : Bool := false
  /-- when the watchdog expires, by the granule in force at the request (R623, R650) -/ expiry : Nat := 0
  status : Nat := 0
  /-- kernels that each member has completed -/ steps : List Nat := []
  /-- halo rows and gathered channels that have arrived: the kernel that reads them, from, to (R571, R574) -/ heard : List (Nat × Nat × Nat) := []
  /-- live Pocket state of each member while preempted: places and octets (R582) -/ saved : List (List (Nat × List Byte)) := []
  /-- stores made, for the signature (R879) -/ stores : List KernelStore := []
  /-- token records appended and pending: member, sequence, position, octets (R675) -/ tokens : List (Nat × Nat × Nat × List Byte) := []
  /-- the second copy's own view of the Cavern octets it stored, which never reach memory (R878) -/ own : Tab (Option Byte) := []
  /-- the result word its final kernel wrote (R616) -/ result : BitVec 64 := 0
  deriving DecidableEq, Repr

/-- The head job of a queue (R597). -/
structure Job where
  desc : Desc
  slot : Nat
  client : Nat
  part : Nat
  seq : Nat
  mode : JobMode
  w0 : WaitMode
  w1 : WaitMode
  held : Bool
  stamp : Option Stamp
  /-- replica time from which the limit of its waits counts: of the take, or of the release from HOLD (R608) -/ countFrom : Nat
  /-- replica time of its release (R610) -/ relTime : Nat
  /-- size and first core of the last group that ran it (R613) -/ group : Nat
  first : Nat
  /-- its copy, or its two copies, the primary first (R630, R878) -/ copies : List Copy
  preemptions : Nat
  /-- status so far, 0 while nothing has failed -/ status : Nat
  flags : Nat
  coreUs : Nat
  engineNs : Nat
  cavernLines : Nat
  dramLines : Nat
  energyNj : Nat
  fullAcct : Bool
  /-- KV pool and batch of a KV-using entry (R671) -/ kv : Option (Nat × Nat)
  /-- the second copy ended before the first (R881) -/ secondFirst : Bool
  /-- first cores of the groups this job's preemption requests are vacating (R620) -/ reserve : List Nat
  /-- released but undispatched for want of frames (R685) -/ frameWait : Bool
  /-- window table in force when the job started (R404) -/ winGen : Nat
  deriving DecidableEq, Repr

/-- Per-queue state; the NQ registers stand in the register store. -/
structure Queue where
  job : Option Job := none
  seq : Nat := 0
  /-- releases that found no held head job (R609) -/ unused : Nat := 0
  /-- jobs to report ABORTED_BY_RESET at the next enable (R653) -/ aborted : List (Job) := []
  /-- stopped by a buffer fault until ENABLE is written again (R652) -/ stopped : Bool := false
  deriving DecidableEq, Repr

/-- Model slot states (R642). -/
inductive SlotMode where
  | empty | loading | ready | bound | previous | failed
  deriving DecidableEq, Repr

/-- A model bundle: the header fields of R998, its body, and the kernels of each entry point that the microcode of the body stands for.
Log entry 127: DESIGN CHOICE, safe. -/
structure Bundle where
  magic : Nat
  format : Nat
  part : Nat
  group : Nat
  banks : Nat
  mbl : BitVec 16
  entries : Nat
  build : BitVec 32
  name : List Byte
  maxSeg : Nat
  maxLive : Nat
  formats : BitVec 32
  bodyLen : Nat
  digest : List Byte
  kvUsing : List Bool
  writesResult : List Bool
  signed : List Byte
  key : List Byte
  signature : List Byte
  body : List Byte
  code : List (List Kernel)
  deriving DecidableEq, Repr

/-- A model slot (R640 to R646). -/
structure Slot where
  mode : SlotMode := .empty
  bundle : Option Bundle := none
  banks : BitVec 24 := 0
  cause : Nat := 0
  inUse : Nat := 0
  verified : Bool := false
  deriving DecidableEq, Repr

/-- A tensor core (R544 to R547, R581). -/
structure Core where
  /-- queue and copy of the job it runs -/ busy : Option (Nat × Nat) := none
  /-- partition of its previous job, for the Pocket clear of R581 -/ lastPart : Option Nat := none
  /-- contents of Pocket that are not zero (R545) -/ pocket : Tab Byte := []
  /-- clock in force, MHz (R547) -/ mhz : Nat := 1200
  deriving DecidableEq, Repr

/-- Gallery-wide state. -/
structure Gallery where
  queues : Tab Queue := []
  slots : Tab Slot := []
  cores : Tab Core := []
  /-- octets of Cavern that are not zero, by bank × 2^23 + offset (R576) -/ cavern : Tab Byte := []
  /-- GAL_CAVERN_READY (R593) -/ ready : Bool := false
  /-- GAL_ECC_STATUS (R584) -/ eccStatus : BitVec 4 := 0
  /-- core-µs spent in the present frame by S, D and B (R632, R941) -/ spentS : Nat := 0
  spentD : Nat := 0
  spentB : Nat := 0
  /-- field time at which the present frame began (R632) -/ frameAt : Nat := 0
  /-- S has counted an overrun in this frame (R633) -/ sOver : Bool := false
  /-- D ranks below B for this frame (R634) -/ dDemoted : Bool := false
  /-- banks being cleared before their new partition may use them (R865) -/ clearing : BitVec 24 := 0
  /-- poisoned Cavern words, as bank × 2^20 + word (R589) -/ poison : List Nat := []
  /-- last client served in the B round robin (R627) -/ lastB : Nat := 0
  /-- MSI writes made, newest first: address, data (R602) -/ msi : List (Nat × Nat) := []
  /-- result tags of mirror messages reported undelivered to the runtime, newest first (R46) -/ undelivered : List Nat := []
  /-- slots wait for re-hashing after a host-only warm reset (R646) -/ rehash : Bool := false
  deriving DecidableEq, Repr

/-! ### Key-value cache (chapter 13) -/

/-- Sequence states (R667). -/
inductive SeqMode where
  | free | opened | dropped | lost
  deriving DecidableEq, Repr

/-- A sequence record (R667). -/
structure KvSeq where
  mode : SeqMode := .free
  pin : Bool := false
  wrap : Bool := false
  full : Bool := false
  spilled : Bool := false
  maxPages : Nat := 0
  firstPte : Nat := 0
  length : Nat := 0
  start : Nat := 0
  lastUse : Nat := 0
  users : Nat := 0
  deriving DecidableEq, Repr

/-- Where a page is (R665). -/
inductive PageLoc where
  | cavern | sump | moving | nowhere
  deriving DecidableEq, Repr

/-- A page-table entry (R665). -/
structure Pte where
  valid : Bool := false
  loc : PageLoc := .nowhere
  frame : Nat := 0
  sump : Nat := 0
  deriving DecidableEq, Repr

/-- Appends a job holds pending (R675): pool, sequence, tokens, LENGTH and START at its release, frames taken. -/
structure KvPending where
  queue : Nat
  pool : Nat
  seq : Nat
  append : Nat
  length : Nat
  start : Nat
  recompute : Bool
  frames : List (Nat × Nat)
  deriving DecidableEq, Repr

/-- One pool. -/
structure Pool where
  seqs : Tab KvSeq := []
  ptes : Tab Pte := []
  /-- batch area octets as 64-bit words (R670) -/ batch : Tab (BitVec 64) := []
  deriving DecidableEq, Repr

/-- The KV unit. -/
structure KvUnit where
  pools : Tab Pool := []
  pending : List KvPending := []
  /-- value the last KV_WIN_DATA read returned (R686) -/ winRead : BitVec 64 := 0
  /-- KV_CMD_STATUS result (R686) -/ result : Nat := 0
  deriving DecidableEq, Repr

/-! ### Lantern (chapter 14) -/

/-- A neuron's stored state (R708). -/
structure Neuron where
  v : Int := 0
  tick : Nat := 0
  refr : Nat := 0
  deriving DecidableEq, Repr

/-- A spike in a core's queue: the source and its place. Source 0 to 63 is a population, 0x80 ON, 0x81 OFF. -/
structure Spike where
  source : Nat
  x : Nat
  y : Nat
  deriving DecidableEq, Repr

/-- Lantern. -/
structure Lantern where
  /-- LT, µs (R696) -/ lt : Nat := 0
  /-- ticks of 2.5 ns of the host reference within the present µs -/ ltSub : Nat := 0
  /-- current row (R698) -/ row : Option Nat := none
  /-- neuron state, core × 16384 + neuron (R694, R708) -/ neurons : Tab Neuron := []
  /-- spike queues by core (R714) -/ queues : Tab (List Spike) := []
  /-- projections disabled by an uncorrectable error (R728) -/ disabled : List Nat := []
  /-- spikes of hint-population neurons in this period: graph × 65536 + neuron (R717) -/ hintCounts : Tab Nat := []
  /-- LT at which the present hint period began (R717) -/ hintFrom : Nat := 0
  /-- LT of wake-population spikes in the sliding window, newest first (R719) -/ wakeTimes : List Nat := []
  /-- hint sets kept until the sequencer runs (R725) -/ kept : List (Nat × HintSet) := []
  /-- LAN_WAKE (R722) -/ wake : BitVec 2 := 0
  /-- LAN_STATUS[3] and [4] (R722) -/ overflow : Bool := false
  uncorrectable : Bool := false
  /-- words of the CSI-2 input FIFO (R704) -/ fifo : List (BitVec 16) := []
  /-- H_AER_ACK acknowledges the last word (R700, R731) -/ acked : Bool := false
  /-- level of H_AER_ACK between two words: a transition acknowledges in two-phase mode (R700) -/ ackLevel : Bool := false
  deriving DecidableEq, Repr

/-! ### Composition (chapter 15) -/

/-- A write-back frame whose record is not yet written (R752, R755). -/
structure WbFrame where
  buffer : Nat
  flags : Nat
  seq : Nat
  time : Nat
  lines : Nat
  deriving DecidableEq, Repr

/-- The composition engine; COMP registers stand in the register store. -/
structure Compose where
  /-- output frame sequence (R756) -/ frame : Nat := 0
  /-- next output line of the frame -/ line : Nat := 0
  /-- layer addresses latched at the frame start (R751) -/ latched : List Nat := [0, 0, 0, 0, 0, 0]
  /-- composition objects in force, latched at the frame start (R750) -/ live : Tab (List Byte) := []
  /-- lines with underflow in this frame (R755) -/ underLines : Nat := 0
  /-- replica time at the frame start (R755) -/ startTime : Nat := 0
  /-- write-back of the frame on output (R752) -/ wb : Option WbFrame := none
  /-- write-back frames ended whose stores are not all accepted, oldest first (R755) -/ wbEnded : List WbFrame := []
  /-- next write-back buffer in ring order (R754) -/ wbNext : Nat := 0
  /-- write-back buffers filled, with the ring count just behind the record; none until it is written (R754) -/ wbHeld : List (Nat × Option Nat) := []
  /-- layers showing the underflow colour on the last line (R760) -/ underflow : BitVec 6 := 0
  /-- the last composed line, R, G, B of each pixel (R739) -/ out : List (Nat × Nat × Nat) := []
  /-- the last line sent over DisplayPort, in bits per channel (R739, R747) -/ dpOut : List (Nat × Nat × Nat) := []
  /-- level of H_DP_HPD (R747) -/ hpd : Bool := false
  /-- link training is running (R749) -/ training : Bool := false
  deriving DecidableEq, Repr

/-! ### Motion I/O and control (chapters 16 and 17) -/

/-- The PWM settings of an axis that load at a reload point (R769, R794). -/
structure PwmSet where
  /-- 0 off, 1 centre, 2 edge -/ mode : Nat := 0
  top : Nat := 2500
  /-- 0 zero, 1 TOP, 2 both -/ reload : Nat := 0
  /-- ns -/ dead : Nat := 500
  /-- 5 ns steps -/ offset : Nat := 0
  sync : Bool := true
  trip : Nat := 0
  /-- bit 1: that output is active low -/ polarity : Nat := 0
  /-- ns -/ minPulse : Nat := 100
  deriving DecidableEq, Repr

/-- Motion I/O of one axis. -/
structure Motion where
  /-- live compare values U, V, W, 16.5 form (R766, R769) -/ cmp : List Nat := [0, 0, 0]
  /-- shadow compare values (R769) -/ shadow : List Nat := [0, 0, 0]
  /-- live PWM settings (R769) -/ live : PwmSet := {}
  /-- 200 MHz cycle at which the counter last stood at zero (R765) -/ zeroAt : Nat := 0
  /-- the counter is in its rising half (R765) -/ rising : Bool := true
  /-- the counter stands below the coarse compare of U, V, W (R766) -/ below : List Bool := [false, false, false]
  /-- 200 MHz cycle of the last compare of U, V, W, from which the dead time runs (R767) -/ edgeAt : List Nat := [0, 0, 0]
  /-- the six outputs UH, UL, VH, VL, WH, WL active, before polarity (R764) -/ outs : List Bool := [false, false, false, false, false, false]
  /-- F_GDENn (R764) -/ gden : Bool := false
  /-- PWM drives duty, not the trip state (R771, R835) -/ driving : Bool := false
  /-- the control engine has enabled the axis since the field-die reset (R801) -/ everOn : Bool := false
  /-- trip latch and STO latch (R789, R802) -/ trip : Bool := true
  sto : Bool := true
  /-- internal STO asserted (R37) -/ internalSto : Bool := true
  /-- input of comparators A and B, µV (R786) -/ cmpIn : Nat × Nat := (0, 0)
  /-- CMP was written since the last reload (R854) -/ written : Bool := true
  /-- consecutive overruns (R854) -/ overruns : Nat := 0
  /-- 200 MHz cycle of the last sample point (R775) -/ sampledAt : Nat := 0
  /-- sigma-delta results held (R774) -/ sd : Int × Int × Int := (0, 0, 0)
  /-- the results of the last sample point are still to come (R774) -/ sdDue : Bool := false
  /-- 200 MHz cycle at which the current inputs became available (R813) -/ inputsAt : Nat := 0
  /-- sigma-delta inputs lost (R798) -/ sdLost : BitVec 3 := 0
  /-- SAR group converting: entries still to convert (R777) -/ group : Option (List Nat) := none
  /-- 200 MHz cycle and source of the start of the running conversion (R776, R797) -/ groupStart : Nat × Nat := (0, 0)
  /-- a trigger is held (R779) -/ heldTrigger : Bool := false
  /-- encoder filtered levels and quadrature count (R781) -/ encA : Bool := false
  encB : Bool := false
  encZ : Bool := false
  encCount : Int := 0
  /-- stamps of quadrature errors within the last 100 µs (R95, R799) -/ qErrs : List Nat := []
  /-- an encoder fault has come since the last capture (R799) -/ capBad : Bool := false
  /-- SAR channels whose results a sin/cos capture awaits, and the count it took (R784) -/ scWait : List Nat := []
  scCount : Int := 0
  /-- captured position, 48.16 (R785, R803) -/ captured : Int := 0
  /-- status bits of A+0x32:09 (R794) -/ encStatus : BitVec 6 := 0
  /-- a serial frame is running (R797) -/ frameRun : Bool := false
  /-- 200 MHz cycle at which it started (R782, R783), and until which the SSI monoflop holds (R782) -/ frameAt : Nat := 0
  frameFree : Nat := 0
  /-- a capture is available that no pass has used (R785, R814), since which 200 MHz cycle -/ fresh : Bool := false
  freshAt : Nat := 0
  /-- consecutive invalid captures (R857) -/ badCaptures : Nat := 0
  deriving DecidableEq, Repr

/-- CiA 402 states. -/
inductive DriveState where
  | switchOnDisabled | readyToSwitchOn | switchedOn | operationEnabled | quickStopActive | faultReaction | fault
  deriving DecidableEq, Repr

/-- Reactions in ascending strictness order of R841. -/
inductive Reaction where
  | none | warn | degrade | hold | ss1 | sto
  deriving DecidableEq, Repr

/-- An axis command (R842, R843). -/
structure AxisCmd where
  kind : Nat
  flags : Nat
  region : Nat
  value : Int
  relDelta : Int
  dwell : Nat
  rtag : Nat
  target : Nat
  capPos : Int
  /-- AXIS_GO seen since it became head (R844) -/ go : Bool
  /-- line position has crossed capture + REL_DELTA (R844) -/ crossed : Bool
  deriving DecidableEq, Repr

/-- Who supplies an axis's set-point. -/
inductive Setpoint where
  | idle | interpolate | approach | profile | run | command | stopping
  deriving DecidableEq, Repr

/-- The control engine's state of one axis. -/
structure AxisCtl where
  drive : DriveState := .switchOnDisabled
  /-- set-point position, 48.16 (R803) -/ pSet : Int := 0
  vSet : F32 := 0
  aSet : F32 := 0
  /-- actual position, 48.16 (R803) -/ pAct : Int := 0
  vAct : F32 := 0
  /-- integrators of the velocity, d and q controllers (R806) -/ iV : F32 := 0
  iD : F32 := 0
  iQ : F32 := 0
  /-- errors of the last velocity, d and q controllers (R826) -/ eV : F32 := 0
  eD : F32 := 0
  eQ : F32 := 0
  /-- last p_act for v_act -/ pPrev : Int := 0
  /-- p_act less the captured position (R839) -/ homeOff : Int := 0
  /-- gains in force, a region record (R826, R827) -/ gains : List Byte := List.replicate 32 0
  /-- rf and tl of the plausibility model (R828) -/ rf : F32 := 0
  tl : F32 := 0
  /-- iq_ref, i_d, i_q, v_d, v_q of the last pass (R806) -/ iqRef : F32 := 0
  iDAct : F32 := 0
  iQAct : F32 := 0
  vD : F32 := 0
  vQ : F32 := 0
  /-- flags of A+0x04:09 (R848) -/ flags : BitVec 6 := 0
  /-- active region (R824) -/ region : Nat := 0
  /-- region named by the last executed command (R824) -/ cmdRegion : Nat := 0
  /-- w of the previous outer pass (R828) -/ wPrev : F32 := 0
  /-- the next outer pass evaluates no residual (R831) -/ skipModel : Bool := true
  /-- consecutive passes above the fault threshold (R830) -/ plausRun : Nat := 0
  /-- outer-pass divider count (R806) -/ outer : Nat := 0
  /-- set-point source -/ setp : Setpoint := .idle
  /-- profile target, integer axis units -/ target : Int := 0
  /-- PP set-point waiting for the present one (CiA 402) -/ ppNext : Option Int := none
  /-- PP set-point acknowledge, statusword bit 12 -/ ppAck : Bool := false
  /-- velocity of a run, axis units/s (R842) -/ runV : Int := 0
  /-- a stop uses 0x6085, not 0x6084 (R820) -/ stopFast : Bool := false
  /-- previous and newest CSP/CSV targets, cycles into the interpolation (R818) -/ tPrev : Int := 0
  tNew : Int := 0
  tStep : Nat := 0
  /-- extrapolated cycles since the last target (R819) -/ stale : Nat := 0
  /-- command FIFO, head first (R843) -/ fifo : List AxisCmd := []
  /-- command executing, and the start position to return to (R842) -/ exec : Option (AxisCmd × Int) := none
  /-- the executing command waits in DWELL (R842) -/ dwelling : Bool := false
  /-- reaction in force (R888) -/ reaction : Reaction := .none
  /-- consecutive cycles at or below standstill velocity during SS1 (R841) -/ still : Nat := 0
  /-- 200 MHz cycle at which SS1 began (R841) -/ ss1At : Nat := 0
  /-- 200 MHz cycle at which DWELL began (R842) -/ dwellAt : Nat := 0
  /-- ns for which the current of hard-stop homing has stood (R838) -/ pushNs : Nat := 0
  /-- ns for which the following error has stood beyond its window (R858) -/ errNs : Nat := 0
  /-- last controlword seen (PP handshake) -/ lastCw : Nat := 0
  /-- statusword bits 7, 8, 11, 12 held -/ warn : Bool := false
  homed : Bool := false
  homing : Bool := false
  deriving DecidableEq, Repr

/-- The control engine as a whole (R849, R813). -/
structure Engine where
  /-- last result of each SAR channel (R776) -/ adc : List Nat := [0, 0, 0, 0, 0, 0, 0, 0]
  /-- field time of the first sample point of this cycle (R849) -/ sampleAt : Nat := 0
  /-- axes still to pass in this cycle, ascending -/ todo : List Nat := []
  running : Bool := false
  /-- an axis sample point has come in this control cycle (R813) -/ sampled : Bool := false
  /-- the passes of this control cycle have been started -/ started : Bool := false
  /-- 200 MHz cycle at which the last axis pass ended (R813) -/ freeAt : Nat := 0
  deriving DecidableEq, Repr

/-! ### Safety, power and boot (chapters 18, 20, 21) -/

/-- Functional safety. -/
structure Safety where
  /-- STO channels STO1 A/B, STO2 A/B high (R787) -/ ch : BitVec 4 := 0
  /-- discrepancy faults latched (R791) -/ discrepancy : BitVec 2 := 0
  /-- 200 MHz cycle since which the channels of STO1 and STO2 differ (R791) -/ differAt : Nat × Nat := (0, 0)
  /-- capture position, in counts, of the last accepted S result (R874) -/ expectFrom : Option Int := none
  /-- lockstep halt or watchdog STO persists until a field-die reset (R901, R902) -/ halted : Bool := false
  wdSto : Bool := false
  /-- 200 MHz cycle of the last refresh of the trip-path watchdog, once the field firmware has refreshed it (R902) -/ refreshAt : Option Nat := none
  /-- over-temperature STO (R1026) -/ tempSto : Bool := false
  /-- the lockstep halt is still to be logged after the next reset (R901) -/ logHalt : Bool := false
  /-- records in field SRAM, newest first, at most 1,024 (R894) -/ log : List FaultRec := []
  /-- records not yet written to flash, oldest first (R894) -/ unwritten : List FaultRec := []
  /-- flash ring, oldest first, at most 16,384 (R894) -/ flash : List FaultRec := []
  /-- host copy, newest first, at most 1,024 (R896) -/ hostLog : List FaultRec := []
  /-- host records held while Rope is not UP, at most 64 (R895) -/ hostHeld : List FaultRec := []
  /-- sequence per source (R892) -/ seqField : Nat := 0
  seqHost : Nat := 0
  /-- frames in which S overran, for 0xFF13 (R889) -/ sOverFrames : Nat := 0
  deriving DecidableEq, Repr

/-- Power states of the host die (R948). -/
inductive PowerMode where
  | active | inspectIdle | watch | off
  deriving DecidableEq, Repr

/-- Power management. -/
structure Power where
  mode : PowerMode := .active
  /-- power-good bits in the order of R932 (R961) -/ rails : BitVec 15 := 0
  /-- phase counts of MP0 and MP1 from the straps (R933) -/ phases0 : Nat := 1
  phases1 : Nat := 1
  /-- cause of the last OFF (R961) -/ offCause : Nat := 0
  /-- power-good failures since the last good boot (R965) -/ pgFails : Nat := 0
  /-- active phases of MP0 and MP1 (R934) -/ active0 : Nat := 1
  active1 : Nat := 1
  /-- energy of each domain, nJ (R937) -/ energy : Tab Nat := []
  /-- last 10 ms of domain-0 samples, newest first (R939) -/ samples : List Nat := []
  /-- last 1 ms sums per domain (R962) -/ last : Tab (List Nat) := []
  /-- consecutive samples above 1.5 × P_lim (R944) -/ overRun : Nat := 0
  /-- governor level (R940) -/ level : Nat := 0
  /-- 100 µs ticks since the last level change (R942) -/ sinceChange : Nat := 100
  /-- ΔP recorded per level, mW (R942) -/ deltaP : Tab Nat := []
  /-- level and A, mW, of a raise whose ΔP is not yet recorded, and 100 µs ticks since (R942) -/ raise : Option (Nat × Nat × Nat) := none
  /-- level 3 was entered by the fast path (R944) -/ fast : Bool := false
  /-- thermal input active (R945) -/ thermal : Bool := false
  /-- failed meter domains (R967) -/ failed : BitVec 11 := 0
  /-- governor ticks since the last level-7 record (R947) -/ overRecord : Nat := 10000
  /-- PMU_WAKE (R961) -/ wakeBits : BitVec 5 := 0
  /-- a LANTERN-WATCH entry awaits consent, or OFF (R951, R954) -/ pendingWatch : Option Bool := none
  /-- the forwarded write that awaits its answer until then (R949) -/ asker : Option HostSlot := none
  /-- the rails have risen and the host die has not booted since; true with a whole sequence, from step 1 (R935, R957) -/ rising : Option Bool := none
  /-- a wake came during the entry (R964) -/ wakePending : Bool := false
  /-- the last host temperature, 0.1 °C -/ temp : Int := 0
  /-- H_PGOOD (R935) -/ pgood : Bool := false
  deriving DecidableEq, Repr

/-- KEY_HASH of the OTP before anything else is known of it: the hash of the public key whose point is the base point of the curve.
Log entry 2: DESIGN CHOICE, unsafe. -/
def resetKeyHash : List Byte :=
  [0xA1, 0x9D, 0x4D, 0xB1, 0x71, 0xB5, 0x82, 0xEB, 0x80, 0x52, 0xB0, 0xCF, 0xE5, 0x55, 0xE1, 0x78] ++
    [0x94, 0xAA, 0x22, 0xD1, 0xC8, 0xA9, 0x77, 0x09, 0x50, 0x69, 0x7D, 0xD8, 0xF7, 0x96, 0xD2, 0xFA] ++
    [0x4B, 0xF0, 0xA5, 0x6A, 0xD8, 0x00, 0x06, 0xB7, 0xEA, 0x08, 0xE1, 0x19, 0x1F, 0x81, 0x4B, 0x65]

/-- A die's image storage and OTP (R981 to R992). -/
structure Storage where
  /-- octets of slot A and of slot B, none while erased (R981) -/ slotA : List Byte := []
  slotB : List Byte := []
  /-- the two copies of the control record, 64 octets each, none while erased (R983) -/ recA : List Byte := []
  recB : List Byte := []
  /-- KEY_SET and KEY_HASH of the OTP (R989) -/ keySet : Bool := true
  keyHash : List Byte := resetKeyHash
  debugLock : Bool := false
  /-- station address stored in the host configuration store (R353) -/ station : BitVec 16 := 0
  deriving DecidableEq, Repr

/-- Where a die stands between supply and running software. -/
inductive DieMode where
  | unpowered | reset | held | rom | running | recovery | halted | watch | off
  deriving DecidableEq, Repr

/-- Boot state of one die. -/
structure BootState where
  mode : DieMode := .unpowered
  store : Storage := {}
  /-- slot of the running image, B when true -/ slotB : Bool := false
  /-- the running image is a trial -/ trial : Bool := false
  /-- cause of the last reset (R1000, R1001) -/ cause : Nat := 0
  /-- a reset of this type has been requested and not yet entered -/ pending : Option Nat := none
  /-- error field of SYSCTL_BOOT_STATUS (R1000) -/ error : Nat := 0
  /-- stage field of SYSCTL_BOOT_STATUS (R1000) -/ stage : Nat := 0
  /-- hold that keeps the die in reset: F_VIN high, clock stopped, supply low -/ hold : Nat := 0
  /-- the next reset also clears KEEP and Cavern (R972) -/ full : Bool := false
  /-- cold contents: Cavern and KEEP were lost (R36) -/ cold : Bool := true
  /-- alive timing runs (R975), boot limit runs (R976) -/ aliveRun : Bool := false
  limitRun : Bool := false
  /-- the first supply rise of the host part is due to power-on, wake and so on -/ wake : Bool := false
  /-- debugger accesses granted (R991) -/ debugOk : Bool := false
  /-- 200 MHz cycle at which the full-reset request was acknowledged (R972) -/ askedAt : Option Nat := none
  deriving DecidableEq, Repr

end Sys2Proof.Machine
end

