-- ==== Sys2Proof/Machine/State.lean ====
section
/-! DEFINITION. The state of the IK-7480 as plain data, the reasons a step can stop, and the state after reset. -/

namespace Sys2Proof.Machine

/-- The whole machine: both dies, the link between them, memory, and the commands that wait. Every field is plain data; each
names the rules that give it. Only `freeCtr` and `pending` are the model's own (log entries 1 and 3).
Log entry 1: DESIGN CHOICE, unsafe. -/
structure State where
  /-- boot state and image storage of the field die (R977, R981 to R992) -/ fboot : BootState := {}
  /-- boot state and image storage of the host die (R978) -/ hboot : BootState := {}
  /-- straps H_BOOT[1:0] (R979) -/ hBoot : BitVec 2 := 0
  /-- junction grade: IK-7480-I when true (R2, R277) -/ gradeI : Bool := false
  /-- outputs driven high (R70, R71) -/ pins : List OutPin := []
  /-- pulses in progress (R1049, R106) -/ pulses : List Pulse := []
  /-- values of field-owned objects that differ from their defaults, by index × 256 + subindex (R27, R233) -/ fobj : Tab (List Byte) := []
  /-- values of host-owned objects that differ from their defaults (R28, R233) -/ hobj : Tab (List Byte) := []
  /-- copies of the field store (R245) -/ fsaved : SavedStore := {}
  /-- copies of the host store (R245) -/ hsaved : SavedStore := {}
  /-- MMIO registers that differ from their reset values, by physical address (R384) -/ regs : Tab Nat := []
  /-- position unit (R49 to R107) -/ pos : PosUnit := {}
  /-- field position event entries, by number (R64) -/ fEntries : Tab (BitVec 128) := []
  /-- master copies of host replica entries on the field die (R63) -/ hMaster : Tab (BitVec 128) := []
  /-- push number of each host entry (R1038) -/ hostPush : Tab Nat := []
  /-- time event entries (R147) -/ tEntries : Tab (BitVec 128) := []
  /-- replica position unit (R85 to R88) -/ replica : Replica := {}
  /-- field distributed clock (R110 to R121) -/ fclk : FieldClock := {}
  /-- host PTP clock (R122 to R129) -/ hclk : HostClock := {}
  /-- field-time replica (R132 to R137) -/ trep : TimeReplica := {}
  /-- host pairs (R138 to R140) -/ pairs : PairStore := {}
  /-- SYNC, LATCH and the control-cycle timer (R141 to R155) -/ sync : SyncUnit := {}
  /-- Rope field end (R178 to R197) -/ fend : RopeEnd := {}
  /-- Rope host end (R178 to R197) -/ hend : RopeEnd := {}
  /-- training, width and levels of the link (R198 to R209) -/ link : Link := {}
  /-- forwarded entries the host die holds a slot for (R250) -/ hostSlots : List HostSlot := []
  /-- segmented write that the master forwards: tag of its next segment, and the octets so far unless it was refused (R184, R1047) -/ fwdValue : Option (Nat × Option (List Byte)) := none
  /-- write under way from the port in segments (R184) -/ portXfer : Option PortTransfer := none
  /-- port requests to the field die that have not completed (R263, R266) -/ portWaits : List PortWait := []
  /-- segmented writes that the field die is receiving (R184) -/ fieldXfers : List FieldTransfer := []
  /-- the stage sets (R284) -/ sets : Tab StageSet := []
  /-- undo record: entries with their earlier values (R309) -/ undo : Option (List (Nat × Nat × List Byte)) := none
  /-- host entries of the last applied set, kept by the field die for the next host boot (R316) -/ keptHost : List (Nat × Nat × List Byte) := []
  /-- fieldbus slave (R320 to R374) -/ bus : Fieldbus := {}
  /-- DRAM, windows and fabric faults (R381 to R445) -/ mem : Memory := {}
  /-- camera streams (R454) -/ streams : Tab Stream := []
  /-- pending stamps by trigger output, oldest first (R457) -/ trig : Tab (List PendingStamp) := []
  /-- Grotto flags (R474) -/ flags : Tab Flag := []
  /-- frame graphs (R505 to R531) -/ graphs : Tab Graph := []
  /-- run starts so far, over all graphs (R520) -/ runOrder : Nat := 0
  /-- node running on each engine place: graph × 32 + node (R519) -/ engines : Tab (List Nat) := []
  /-- Gallery (R544 to R657) -/ gal : Gallery := {}
  /-- key-value unit (R658 to R693) -/ kv : KvUnit := {}
  /-- Lantern (R694 to R732) -/ lan : Lantern := {}
  /-- composition (R733 to R763) -/ comp : Compose := {}
  /-- motion I/O by axis (R764 to R802) -/ axes : Tab Motion := []
  /-- control engine by axis (R803 to R861) -/ ctl : Tab AxisCtl := []
  /-- control engine as a whole (R849) -/ eng : Engine := {}
  /-- functional safety (R862 to R905) -/ saf : Safety := {}
  /-- power management (R929 to R969) -/ pwr : Power := {}
  /-- host interrupts raised, newest first: 1 field lost, 2 host clock, 4 dictionary port, 40 composition, else the record ring's (R157, R213, R756) -/ hostInts : List Nat := []
  /-- how many free values have been drawn (the model's own field, log entry 3) -/ freeCtr : Nat := 0
  /-- commands waiting, first in first out (log entry 1) -/ pending : List Instr := []
  deriving DecidableEq, Repr

/-- Reasons a step stops with a fault. No command of the table does: every failure of the part is a record, a status
or a reaction in `State`. -/
inductive Fault where
  /-- Operation outside the recommended conditions (R14), which no command carries. No meaning raises it; safe. -/
  | outsideConditions
  deriving DecidableEq, Repr

/-- Reasons a step refuses a command. -/
inductive Refusal where
  /-- An arm of `exec` without a meaning raises it; safe. -/
  | notModelled (mnemonic : String)
  /-- An access to a register block whose registers no chapter gives (R384) raises it, with the block's name; safe. -/
  | deviceUnspecified (block : String)
  deriving DecidableEq, Repr

/-- The machine right after power-on (log entry 2): both dies in their boot ROM with every register at its reset
value, no saved values, no images, nothing in memory.
Log entry 2: DESIGN CHOICE, unsafe. -/
def State.reset : State :=
  { fboot := { mode := .rom, cause := 1 }
    hboot := { mode := .rom, cause := 1 }
    pwr := { rails := 0x7FFF, pgood := true, rising := some true } }

end Sys2Proof.Machine
end

