-- ==== Sys2Proof/Machine/Tab.lean ====
section
/-! DEFINITION. Reading and writing the sparse tables of State: each table is kept in one canonical form, so that equal
tables are equal data. -/

namespace Sys2Proof.Machine

variable {α : Type}

/-- The value at key `i`; an unlisted key reads as `d`. -/
def tget (d : α) : Tab α → Nat → α
  | [], _ => d
  | (k, v) :: t, i => if i = k then v else tget d t i

/-- Insert an entry before the first greater key. -/
def tins : Tab α → Nat → α → Tab α
  | [], i, v => [(i, v)]
  | (k, w) :: t, i, v => if i < k then (i, v) :: (k, w) :: t else (k, w) :: tins t i v

/-- Write `v` at key `i`, keeping keys rising and listing no entry that reads as an unlisted key does. -/
def tset [DecidableEq α] (d : α) (t : Tab α) (i : Nat) (v : α) : Tab α :=
  let u := t.filter (fun e => e.1 ≠ i)
  if v = d then u else tins u i v

/-- Every key of `t` is above `b`. -/
def tabove (b : Nat) (t : Tab α) : Prop := ∀ p ∈ t, b < p.1

/-- Canonical form: keys strictly rising, no entry equal to the value `dk` gives an unlisted key. -/
def twf (dk : Nat → α) : Tab α → Prop
  | [] => True
  | (k, v) :: t => v ≠ dk k ∧ tabove k t ∧ twf dk t

/-- Drop every entry whose key fails `p`. -/
def tkeep (p : Nat → Bool) (t : Tab α) : Tab α := t.filter (fun e => p e.1)

/-- Replace element `i` of a list; a list that is too short is unchanged. -/
def lset (l : List α) (i : Nat) (v : α) : List α := l.set i v

/-- Element `i` of a list, `d` when there is none. -/
def lget (d : α) (l : List α) (i : Nat) : α := l.getD i d

end Sys2Proof.Machine
end

