-- ==== Sys2Proof/Machine/Aia.lean ====
section
/-! DEFINITION. The interrupt controllers of the host die (R377): the two APLIC domains and the IMSIC files, with the memory-mapped
registers that the RISC-V AIA specification gives them. -/

namespace Sys2Proof.Machine

/-! ### IMSIC files (R377, R384) -/

/-- Number of an interrupt file: the machine-level file of hart h is h, its supervisor file is 8 + 4h, and its guest files follow
(GEILEN = 3). -/
def imsicFile (machine : Bool) (hart guest : Nat) : Nat := if machine then hart % 8 else 8 + 4 * (hart % 8) + guest % 4

/-- An identity becomes pending in a file; identity 0 and those above 2,047 do nothing.
Log entry 138: PRESUMED, unsafe. -/
def imsicSet (s : State) (file id : Nat) : State :=
  if id = 0 ∨ 2048 ≤ id then s
  else { s with mem := { s.mem with imsic := tset 0 s.mem.imsic file (tget 0 s.mem.imsic file ||| 2 ^ id) } }

/-- The four octets of a word in the other order. -/
def swap32 (v : Nat) : Nat := v % 256 * 2 ^ 24 + v / 256 % 256 * 2 ^ 16 + v / 65536 % 256 * 256 + v / 2 ^ 24 % 256

/-- A write to a page of a file: seteipnum_le at 0, seteipnum_be at 4. -/
def imsicWrite (s : State) (file o v : Nat) : State :=
  if o = 0 then imsicSet s file v else if o = 4 then imsicSet s file (swap32 v) else s

/-- The file whose page an address lies in, and the offset in the page. -/
def imsicAt (a : Nat) : Option (Nat × Nat) :=
  if 0x45000000 ≤ a ∧ a < 0x45008000 then some ((a - 0x45000000) / 4096, a % 4096)
  else if 0x46000000 ≤ a ∧ a < 0x46020000 then some (8 + (a - 0x46000000) / 4096, a % 4096)
  else none

/-- A message-signalled interrupt (R602). -/
def msiWrite (s : State) (a v : Nat) : State :=
  match imsicAt a with
  | some p => imsicWrite s p.1 p.2 v
  | none => s

/-! ### APLIC domains (R377) -/

/-- A domain. -/
def aplicOf (s : State) (machine : Bool) : Aplic := if machine then s.mem.aplicM else s.mem.aplicS

/-- Replace a domain. -/
def setAplic (s : State) (machine : Bool) (x : Aplic) : State :=
  if machine then { s with mem := { s.mem with aplicM := x } } else { s with mem := { s.mem with aplicS := x } }

/-- Source mode of source `i` in a domain: 0 while it is inactive there. The machine-level domain delegates a source to the
supervisor-level one with bit 10 of its sourcecfg. -/
def sourceMode (s : State) (machine : Bool) (i : Nat) : Nat :=
  let m := tget 0 s.mem.aplicM.source i
  if machine then (if m.testBit 10 then 0 else m % 8)
  else if m.testBit 10 then tget 0 s.mem.aplicS.source i % 8 else 0

/-- A domain forwards a pending and enabled source as a message to its target's file, which clears the pending bit. -/
def aplicForward (s : State) (machine : Bool) (i : Nat) : State :=
  let x := aplicOf s machine
  if x.ie && x.pending.testBit i && x.enabled.testBit i && decide (sourceMode s machine i ≠ 0) then
    let t := tget 0 x.target i
    imsicSet (setAplic s machine { x with pending := setBit x.pending i false }) (imsicFile machine (t / 2 ^ 18) (if machine then 0 else t / 4096)) (t % 2048)
  else s

/-- Every source of a domain that may go is forwarded, in ascending order. -/
def aplicForwardAll (s : State) (machine : Bool) : State :=
  (bitList ((aplicOf s machine).pending &&& (aplicOf s machine).enabled) 1024).foldl (fun s i => aplicForward s machine i) s

/-- A source's pending bit is set in a domain, where the source is active. -/
def aplicPend (s : State) (machine : Bool) (i : Nat) : State :=
  let x := aplicOf s machine
  if i = 0 ∨ 1024 ≤ i ∨ sourceMode s machine i = 0 then s
  else aplicForward (setAplic s machine { x with pending := setBit x.pending i true }) machine i

/-- A wired interrupt rises: it reaches both domains, where its mode senses a rise (R377, R756).
Log entry 138: PRESUMED, unsafe. -/
def wireRise (s : State) (i : Nat) : State :=
  [true, false].foldl (fun s d => if sourceMode s d i = 4 ∨ sourceMode s d i = 6 then aplicPend s d i else s) s

/-- Bits of a mask that a register of 32 sources names. -/
def sourceBits (k v : Nat) : List Nat := ((bitList v 32).map (fun b => 32 * k + b)).filter (fun i => decide (i ≠ 0))

/-- A write to a register of a domain (AIA, chapter 4).
Log entry 138: PRESUMED, unsafe. -/
def aplicWrite (s : State) (machine : Bool) (o v : Nat) : State :=
  let x := aplicOf s machine
  let k := o % 0x80 / 4
  if o = 0 then aplicForwardAll (setAplic s machine { x with ie := v.testBit 8, be := v.testBit 0 }) machine
  else if o < 0x1000 then
    let i := o / 4
    let w := if machine ∧ v.testBit 10 then 2 ^ 10 else if v % 8 = 2 ∨ v % 8 = 3 then 0 else v % 8
    let s := setAplic s machine { x with source := tset 0 x.source i (if machine ∨ (tget 0 s.mem.aplicM.source i).testBit 10 then w else 0) }
    let x := aplicOf s machine
    if sourceMode s machine i = 0 then
      setAplic s machine { x with pending := setBit x.pending i false, enabled := setBit x.enabled i false, target := tset 0 x.target i 0 }
    else s
  else if 0x1BC0 ≤ o ∧ o < 0x1BD0 ∧ machine then
    (if (tget 0 x.addr 1).testBit 31 then s else setAplic s machine { x with addr := tset 0 x.addr ((o - 0x1BC0) / 4) v })
  else if 0x1C00 ≤ o ∧ o < 0x1C80 then (sourceBits k v).foldl (fun s i => aplicPend s machine i) s
  else if o = 0x1CDC ∨ o = 0x2000 then aplicPend s machine v
  else if o = 0x2004 then aplicPend s machine (swap32 v)
  else if 0x1D00 ≤ o ∧ o < 0x1D80 then setAplic s machine { x with pending := (sourceBits k v).foldl (fun p i => setBit p i false) x.pending }
  else if o = 0x1DDC then setAplic s machine { x with pending := if v < 1024 then setBit x.pending v false else x.pending }
  else if 0x1E00 ≤ o ∧ o < 0x1E80 then
    aplicForwardAll (setAplic s machine { x with enabled := ((sourceBits k v).filter (fun i => decide (sourceMode s machine i ≠ 0))).foldl (fun p i => setBit p i true) x.enabled }) machine
  else if o = 0x1EDC then
    (if v = 0 ∨ 1024 ≤ v ∨ sourceMode s machine v = 0 then s else aplicForward (setAplic s machine { x with enabled := setBit x.enabled v true }) machine v)
  else if 0x1F00 ≤ o ∧ o < 0x1F80 then setAplic s machine { x with enabled := (sourceBits k v).foldl (fun p i => setBit p i false) x.enabled }
  else if o = 0x1FDC then setAplic s machine { x with enabled := if v < 1024 then setBit x.enabled v false else x.enabled }
  else if o = 0x3000 then imsicSet (setAplic s machine { x with genmsi := v / 2 ^ 18 * 2 ^ 18 + v % 2048 }) (imsicFile machine (v / 2 ^ 18) 0) (v % 2048)
  else if 0x3000 < o ∧ o < 0x4000 then
    let i := (o - 0x3000) / 4
    if sourceMode s machine i = 0 then s
    else setAplic s machine { x with target := tset 0 x.target i (if machine then v / 2 ^ 18 * 2 ^ 18 + v % 2048 else v / 4096 * 4096 + v % 2048) }
  else s

/-- The word at offset `o` of a domain. -/
def aplicRead (s : State) (machine : Bool) (o : Nat) : Nat :=
  let x := aplicOf s machine
  let k := o % 0x80 / 4
  if o = 0 then 0x80000000 + 256 * b2n x.ie + 4 + b2n x.be
  else if o < 0x1000 then (if machine ∨ (tget 0 s.mem.aplicM.source (o / 4)).testBit 10 then tget 0 x.source (o / 4) else 0)
  else if 0x1BC0 ≤ o ∧ o < 0x1BD0 ∧ machine then tget 0 x.addr ((o - 0x1BC0) / 4)
  else if 0x1C00 ≤ o ∧ o < 0x1C80 then x.pending / 2 ^ (32 * k) % 2 ^ 32
  else if 0x1E00 ≤ o ∧ o < 0x1E80 then x.enabled / 2 ^ (32 * k) % 2 ^ 32
  else if o = 0x3000 then x.genmsi
  else if 0x3000 < o ∧ o < 0x4000 then tget 0 x.target ((o - 0x3000) / 4)
  else 0

end Sys2Proof.Machine
end

