-- ==== Sys2Proof/Machine/F32.lean ====
section
/-! DEFINITION. IEEE 754 binary32 arithmetic (R10, R803): every operation is computed exactly and rounded once, to
nearest with ties to even. -/

namespace Sys2Proof.Machine

/-- Exponent field. -/
def fExp (x : F32) : Nat := x.toNat / 2 ^ 23 % 256

/-- Fraction field. -/
def fFrac (x : F32) : Nat := x.toNat % 2 ^ 23

/-- Sign bit. -/
def fNeg (x : F32) : Bool := x.toNat / 2 ^ 31 == 1

def fIsNaN (x : F32) : Bool := fExp x == 255 && fFrac x != 0

def fIsInf (x : F32) : Bool := fExp x == 255 && fFrac x == 0

def fIsZero (x : F32) : Bool := fExp x == 0 && fFrac x == 0

/-- The quiet NaN every invalid operation gives; its payload is a free value (log entry 3).
Log entry 3: DESIGN CHOICE, safe. -/
def fNaN : F32 := 0x7FC00000 ||| (Config.nanPayload &&& 0x803FFFFF)

def fInf (neg : Bool) : F32 := if neg then 0xFF800000 else 0x7F800000

def fZero (neg : Bool) : F32 := if neg then 0x80000000 else 0

/-- 2 to an integer power. -/
def pow2 (e : Int) : Rat := if 0 ≤ e then ((2 ^ e.toNat : Nat) : Rat) else 1 / ((2 ^ (-e).toNat : Nat) : Rat)

/-- The exact value of a finite pattern; NaN and infinities give zero. -/
def fRat (x : F32) : Rat :=
  let m : Rat :=
    if fExp x == 255 then 0
    else if fExp x == 0 then (fFrac x : Rat) * pow2 (-149)
    else ((2 ^ 23 + fFrac x : Nat) : Rat) * pow2 ((fExp x : Int) - 150)
  if fNeg x then -m else m

/-- The exponent `e` with 2^e ≤ q < 2^(e+1), for q above zero. -/
def ratExp (q : Rat) : Int :=
  let e0 : Int := (Nat.log2 q.num.natAbs : Int) - (Nat.log2 q.den : Int)
  if q < pow2 e0 then e0 - 1 else e0

/-- Round a rational to nearest integer, ties to even. -/
def ratRne (q : Rat) : Int := rneDiv q.num q.den

/-- Round a rational to nearest integer, ties away from zero. -/
def ratRna (q : Rat) : Int := rnaDiv q.num q.den

/-- The nearest binary32 of a rational; `neg` gives the sign of zero. -/
def fOfRatS (neg : Bool) (q : Rat) : F32 :=
  if q = 0 then fZero neg
  else
    let a : Rat := if q < 0 then -q else q
    let e : Int := if ratExp a < -126 then -126 else ratExp a
    let m : Int := ratRne (a / pow2 (e - 23))
    let body : Int := if a < pow2 (-126) then m else (e + 126) * 2 ^ 23 + m
    if body ≥ 255 * 2 ^ 23 then fInf (decide (q < 0))
    else BitVec.ofNat 32 (body.toNat + (if q < 0 then 2 ^ 31 else 0))

def fOfRat (q : Rat) : F32 := fOfRatS false q

def fOfInt (i : Int) : F32 := fOfRat (i : Rat)

/-- Sum. -/
def fAdd (x y : F32) : F32 :=
  if fIsNaN x || fIsNaN y then fNaN
  else if fIsInf x then (if fIsInf y && fNeg x != fNeg y then fNaN else x)
  else if fIsInf y then y
  else fOfRatS (fNeg x && fNeg y) (fRat x + fRat y)

def fNegate (x : F32) : F32 := x ^^^ 0x80000000

def fAbs (x : F32) : F32 := x &&& 0x7FFFFFFF

def fSub (x y : F32) : F32 := fAdd x (fNegate y)

/-- Product. -/
def fMul (x y : F32) : F32 :=
  let s := fNeg x != fNeg y
  if fIsNaN x || fIsNaN y then fNaN
  else if (fIsInf x && fIsZero y) || (fIsZero x && fIsInf y) then fNaN
  else if fIsInf x || fIsInf y then fInf s
  else fOfRatS s (fRat x * fRat y)

/-- Quotient. -/
def fDiv (x y : F32) : F32 :=
  let s := fNeg x != fNeg y
  if fIsNaN x || fIsNaN y then fNaN
  else if (fIsInf x && fIsInf y) || (fIsZero x && fIsZero y) then fNaN
  else if fIsInf x || fIsZero y then fInf s
  else if fIsInf y then fZero s
  else fOfRatS s (fRat x / fRat y)

/-- Square root: rounded once, to nearest (R804). -/
def fSqrt (x : F32) : F32 :=
  if fIsNaN x || (fNeg x && !fIsZero x) then fNaN
  else if fIsInf x || fIsZero x then x
  else
    let k : Nat := (2 ^ 120 : Nat)
    let q := fRat x * (k : Rat) * (k : Rat)
    let r := isqrt q.floor.toNat
    let exact := decide (((r * r : Nat) : Rat) = q)
    fOfRat (((2 * r + (if exact then 0 else 1) : Nat) : Rat) / (2 * (k : Rat)))

/-- Less than; false when either is a NaN. -/
def fLt (x y : F32) : Bool :=
  if fIsNaN x || fIsNaN y then false
  else if fIsInf x then fNeg x && !(fIsInf y && fNeg y)
  else if fIsInf y then !fNeg y
  else decide (fRat x < fRat y)

/-- Less than or equal; false when either is a NaN. -/
def fLe (x y : F32) : Bool := !fIsNaN x && !fIsNaN y && !fLt y x

/-- `x` held within `lo` and `hi`. -/
def fClamp (lo hi x : F32) : F32 := if fLt x lo then lo else if fLt hi x then hi else x

def fMin (x y : F32) : F32 := if fLt y x then y else x

/-- A finite value or infinity limited to a signed range of `w` bits, rounded to nearest even. -/
def fToInt (w : Nat) (x : F32) : Int :=
  if fIsNaN x then 0
  else if fIsInf x then (if fNeg x then -2 ^ (w - 1) else 2 ^ (w - 1) - 1)
  else satS w (ratRne (fRat x))

end Sys2Proof.Machine
end

