-- ==== Sys2Proof/Machine/SchemaTypes.lean ====
section
/-! DEFINITION. How an object is described: type (R10), access code (R11), default and the values a write accepts. -/

namespace Sys2Proof.Machine

/-- Types of R10; a VSTR carries its longest length, a DOMAIN its shortest and longest. -/
inductive Ty where
  | u8 | u16 | u32 | u64 | i16 | i32 | i64 | f32 | bool
  | vstr (hi : Nat)
  | dom (lo hi : Nat)
  deriving DecidableEq, Repr

/-- Access codes of R11. -/
inductive Acc where
  | ro | rw | rws | rwp | wo
  deriving DecidableEq, Repr

/-- Values a write accepts, beyond the type (R234, R235). -/
inductive Chk where
  | any
  | rng (lo hi : Int)
  | enum (l : List Int)
  | frng (lo hi : F32)
  deriving DecidableEq, Repr

/-- A default value. -/
inductive Dflt where
  | num (n : Int)
  | raw (b : List Byte)
  | rep (n : Nat) (b : List Byte)
  deriving DecidableEq, Repr

/-- Direction in which an object can be mapped (R330). -/
inductive PdoDir where
  | no | rx | tx
  deriving DecidableEq, Repr

/-- A run of objects of one description: indexes base + k × stride for k below count, subindexes s0 to s1. -/
structure Row where
  base : Nat
  count : Nat
  stride : Nat
  s0 : Nat
  s1 : Nat
  ty : Ty
  acc : Acc
  dflt : Dflt
  chk : Chk := .any
  vol : Bool := false
  safe : Bool := false
  pdo : PdoDir := .no
  deriving DecidableEq, Repr

/-- A row of numeric objects. -/
def nrow (base count stride s0 s1 : Nat) (ty : Ty) (acc : Acc) (d : Int) (chk : Chk := .any) : Row :=
  { base := base, count := count, stride := stride, s0 := s0, s1 := s1, ty := ty, acc := acc, dflt := .num d, chk := chk }

/-- One numeric object. -/
def one (base s : Nat) (ty : Ty) (acc : Acc) (d : Int) (chk : Chk := .any) : Row := nrow base 1 1 s s ty acc d chk

/-- A row of one numeric object for each axis, spaced 0x40 (chapters 16 and 17). -/
def axr (off s0 s1 : Nat) (ty : Ty) (acc : Acc) (d : Int) (chk : Chk := .any) : Row :=
  nrow (0x3000 + off) 8 0x40 s0 s1 ty acc d chk

/-- A row of one CiA 402 object for each axis, spaced 0x800 (chapter 17). -/
def cia (index s : Nat) (ty : Ty) (acc : Acc) (d : Int) (chk : Chk := .any) : Row :=
  nrow index 8 0x800 s s ty acc d chk

/-- A DOMAIN of exactly `n` octets whose default repeats `b`. -/
def drow (base count stride s0 s1 n : Nat) (acc : Acc) (b : List Byte := [0]) : Row :=
  { base := base, count := count, stride := stride, s0 := s0, s1 := s1, ty := .dom n n, acc := acc,
    dflt := .rep (n / b.length) b }

/-- The row with volatile objects (R242). -/
def Row.volatile (r : Row) : Row := { r with vol := true }

/-- The row with safety-relevant objects (R239). -/
def Row.safety (r : Row) : Row := { r with safe := true }

/-- The row with objects mappable into a receive PDO (R330). -/
def Row.rx (r : Row) : Row := { r with pdo := .rx }

/-- The row with objects mappable into a transmit PDO (R330). -/
def Row.tx (r : Row) : Row := { r with pdo := .tx }

/-- Octets of a value of the type; for VSTR and DOMAIN the longest. -/
def Ty.size : Ty → Nat
  | .u8 => 1 | .u16 => 2 | .u32 => 4 | .u64 => 8
  | .i16 => 2 | .i32 => 4 | .i64 => 8 | .f32 => 4 | .bool => 1
  | .vstr n => n
  | .dom _ n => n

/-- The type holds signed numbers. -/
def Ty.signed : Ty → Bool
  | .i16 => true | .i32 => true | .i64 => true | _ => false

/-- The octets of a default. -/
def Dflt.bytes (d : Dflt) (t : Ty) : List Byte :=
  match d with
  | .num n => leBytesI t.size n
  | .raw b => b
  | .rep n b => (List.replicate n b).flatten

/-- Index `i`, subindex `s` is one of the row's objects. -/
def Row.has (r : Row) (i s : Nat) : Bool :=
  decide (r.base ≤ i) && decide (r.s0 ≤ s) && decide (s ≤ r.s1) &&
    decide ((i - r.base) / r.stride < r.count) && decide ((i - r.base) % r.stride = 0)

/-- Index `i` belongs to the row. -/
def Row.hasIndex (r : Row) (i : Nat) : Bool :=
  decide (r.base ≤ i) && decide ((i - r.base) / r.stride < r.count) && decide ((i - r.base) % r.stride = 0)

end Sys2Proof.Machine
end

