-- ==== Sys2Proof/Machine/SchemaField.lean ====
section
/-! DEFINITION. The field-owned objects (R27), chapter by chapter. -/

namespace Sys2Proof.Machine

/-- Communication objects (R275). 0x1018:03 and 0x100A:00 follow the image and are read live. -/
def rowsComm : List Row := [
  one 0x1000 0 .u32 .ro 0x20192, one 0x1001 0 .u8 .ro 0,
  { base := 0x1008, count := 1, stride := 1, s0 := 0, s1 := 0, ty := .vstr 255, acc := .ro, dflt := .raw (ascii "IK-7480") },
  { base := 0x1009, count := 1, stride := 1, s0 := 0, s1 := 0, ty := .vstr 255, acc := .ro, dflt := .raw (ascii "B0") },
  { base := 0x100A, count := 1, stride := 1, s0 := 0, s1 := 0, ty := .vstr 255, acc := .ro, dflt := .raw [] },
  nrow 0x1010 2 1 1 3 .u32 .rw 1,
  one 0x1018 1 .u32 .ro 0xD57, one 0x1018 2 .u32 .ro 0x7480, one 0x1018 3 .u32 .ro 0xB00000, one 0x1018 4 .u32 .ro 0]

/-- Fieldbus objects (R328, R329, R369). -/
def rowsBus : List Row := [
  nrow 0x1600 8 1 1 32 .u32 .rwp 0, nrow 0x1A00 8 1 1 32 .u32 .rwp 0,
  nrow 0x1C12 2 1 1 8 .u16 .rwp 0,
  nrow 0x1C32 2 1 1 1 .u16 .rwp 2 (.enum [0, 1, 2, 3]), nrow 0x1C32 2 1 2 2 .u32 .ro 0, nrow 0x1C32 2 1 5 5 .u32 .ro 25000,
  one 0x1C32 0x0C .u16 .ro 0,
  (one 0x1E00 1 .u8 .rwp 4 (.enum [0, 1, 2, 3, 4, 5])).safety,
  (one 0x1E10 1 .i64 .ro 0).tx, (one 0x1E10 2 .u64 .ro 0).tx, (one 0x1E10 3 .u8 .ro 2).tx, (one 0x1E10 4 .u8 .ro 0).tx,
  (drow 0x1E20 1 1 1 8 24 .ro).tx,
  nrow 0x1E30 1 1 1 2 .u32 .ro 0,
  (one 0x1E40 1 .u16 .rwp 0).safety, (one 0x1E40 2 .u16 .rwp 100 (.rng 2 1000)).safety, (one 0x1E40 3 .u8 .ro 0).safety,
  (drow 0x1E41 1 1 1 1 7 .rw).rx, (drow 0x1E41 1 1 2 2 7 .ro).tx]

/-- Staging objects (R313): safety-relevant and volatile (R289). -/
def rowsStage : List Row := [
  one 0x2100 1 .u8 .ro 0xFF, one 0x2100 2 .bool .ro 0, one 0x2100 3 .u8 .wo 0 (.enum [1]), one 0x2100 4 .u8 .rw 3 (.enum [0, 1, 2, 3, 4]),
  one 0x2100 5 .i64 .rw 0, one 0x2100 6 .u32 .rw 200 (.rng 50 100000), one 0x2100 7 .u32 .rw 0, one 0x2100 8 .u32 .rw 0,
  nrow 0x2100 1 1 9 0x0A .u32 .ro 0,
  nrow 0x2110 4 1 1 1 .u8 .wo 0, nrow 0x2110 4 1 2 3 .u8 .ro 0, nrow 0x2110 4 1 4 4 .u16 .ro 0, nrow 0x2110 4 1 5 5 .u32 .ro 0,
  { base := 0x2110, count := 4, stride := 1, s0 := 6, s1 := 6, ty := .dom 1 16777216, acc := .wo, dflt := .raw [] },
  nrow 0x2110 4 1 7 7 .u8 .rw 0 (.enum [0, 1, 2, 3, 4]), nrow 0x2110 4 1 8 8 .i64 .rw 0,
  nrow 0x2110 4 1 9 9 .u64 .ro 0, nrow 0x2110 4 1 0x0A 0x0A .i64 .ro 0, nrow 0x2110 4 1 0x0B 0x0B .u8 .ro 0,
  nrow 0x2110 4 1 0x0C 0x0C .u16 .ro 0xFFFF, nrow 0x2110 4 1 0x0D 0x0D .u8 .ro 0, nrow 0x2110 4 1 0x0E 0x0E .u64 .ro 0,
  nrow 0x2110 4 1 0x0F 0x0F .i64 .ro 0, nrow 0x2110 4 1 0x10 0x10 .u8 .ro 0]

/-- Position unit (R104). -/
def rowsPosition : List Row := [
  (one 0x2200 1 .i64 .ro 0).tx, (one 0x2200 2 .u8 .ro 2).tx, (nrow 0x2200 1 1 3 4 .f32 .ro 0).tx, one 0x2200 5 .i64 .ro 0,
  one 0x2200 6 .u32 .ro 0,
  one 0x2201 1 .u8 .rws 0 (.enum [0, 1, 2]), one 0x2201 2 .u8 .rws 4 (.rng 0 31), one 0x2201 3 .bool .rws 0, one 0x2201 4 .u32 .rws 0,
  one 0x2201 5 .u16 .rws 2, one 0x2201 6 .u16 .rws 2000, one 0x2201 7 .u32 .rws 10000, one 0x2201 8 .u16 .rws 64 (.rng 4 1024),
  one 0x2201 9 .f32 .rws 0x49742400 (.frng 0 0x7F800000), one 0x2201 0x0A .u16 .rws 64 (.rng 0 255), one 0x2201 0x0B .u16 .rws 16,
  one 0x2201 0x0C .u8 .rws 2,
  nrow 0x2202 1 1 1 2 .i64 .wo 0, nrow 0x2203 1 1 1 6 .u32 .ro 0,
  drow 0x2210 16 1 1 16 16 .rw, drow 0x2250 8 1 1 16 16 .rw,
  one 0x2260 1 .bool .rwp 0, (one 0x2260 2 .i64 .ro 0).tx, (one 0x2260 3 .u64 .ro 0).tx,
  (one 0x2260 4 .i64 .rw 0).rx, (one 0x2260 5 .u64 .rw 0).rx,
  one 0x2270 1 .i64 .rw 0, one 0x2270 2 .u64 .ro 0, one 0x2270 3 .u8 .ro 0]

/-- Clocks (R160). -/
def rowsClock : List Row := [
  one 0x2220 1 .u64 .ro 0, one 0x2220 2 .u8 .ro 0x82, nrow 0x2220 1 1 3 4 .i32 .ro 0, one 0x2220 5 .u32 .ro 0,
  one 0x2221 1 .u32 .rws 60 (.rng 1 86400), one 0x2221 2 .u32 .rws 100 (.rng 5 100000), one 0x2221 3 .u16 .rws 10 (.rng 1 1000),
  one 0x2221 4 .bool .rwp 0, one 0x2222 1 .u8 .wo 0 (.enum [1]), one 0x2222 2 .u32 .ro 0,
  drow 0x2230 4 1 1 16 16 .rw,
  one 0x2240 1 .u8 .rws 0 (.enum [0, 1, 2, 3]), one 0x2240 2 .u32 .rws 25000 (.rng 12500 1000000), one 0x2240 3 .i32 .rws 0, one 0x2240 4 .u32 .ro 0,
  nrow 0x2241 1 1 1 4 .i64 .ro 0,
  one 0x2280 1 .u64 .ro 0, one 0x2280 2 .u8 .ro 0x82, one 0x2280 3 .i64 .ro 0, nrow 0x2280 1 1 4 5 .u64 .ro 0,
  one 0x2281 1 .f32 .rw 0x3F333333, one 0x2281 2 .f32 .rw 0x3E99999A, one 0x2281 3 .u64 .rw 1000000000 (.rng 1000 1000000000000),
  one 0x2281 4 .u32 .rw 60 (.rng 1 86400), one 0x2281 5 .u32 .rw 1000, one 0x2281 6 .u32 .rw 500000 (.rng 0 1000000),
  one 0x2281 7 .u32 .rw 3000 (.rng 10 60000), one 0x2281 8 .u8 .rw 0 (.enum [0, 1, 2]), one 0x2281 9 .bool .rw 0,
  one 0x2282 3 .u64 .rw 0, one 0x2282 4 .u64 .ro 0, one 0x2282 5 .u8 .ro 0]

/-- Engine-wide control objects (R849). -/
def rowsEngine : List Row := [
  (one 0x2242 1 .u64 .ro 0).volatile, (nrow 0x2242 1 1 2 4 .u32 .ro 0).volatile, (one 0x2242 5 .u8 .ro 0).volatile]

/-- Motion I/O (R794) of every axis. -/
def rowsMotion : List Row := [
  axr 0x30 1 1 .u8 .rws 0 (.enum [0, 1, 2]), axr 0x30 2 2 .u16 .rws 2500, axr 0x30 3 3 .u8 .rws 0 (.enum [0, 1, 2]),
  axr 0x30 4 4 .u16 .rws 500 (.rng 0 5000), axr 0x30 5 5 .u16 .rws 0, axr 0x30 6 6 .bool .rws 1, axr 0x30 7 7 .u8 .rws 0 (.enum [0, 1]),
  axr 0x30 8 8 .u8 .rws 0, axr 0x30 9 9 .u16 .rws 100 (.rng 0 5000), axr 0x30 0x0A 0x0A .u8 .rws 0 (.enum [0, 1, 2]),
  axr 0x31 1 1 .u8 .rws 0, axr 0x31 2 2 .u8 .rws 0 (.enum [0, 1]), axr 0x31 3 3 .u8 .rws 10, axr 0x31 4 4 .u16 .rws 32,
  axr 0x31 5 7 .i32 .ro 0,
  axr 0x32 1 1 .u8 .rws 0 (.enum [0, 1, 2, 3, 4]), axr 0x32 2 2 .u8 .rws 4 (.rng 0 31), axr 0x32 3 3 .u16 .rws 1000, axr 0x32 4 4 .u8 .rws 25,
  axr 0x32 5 5 .u8 .rws 1 (.enum [0, 1]), axr 0x32 6 6 .u16 .rws 0 (.rng 0 5000), axr 0x32 7 7 .u8 .rws 0x10, axr 0x32 8 8 .i64 .ro 0,
  axr 0x32 9 9 .u8 .ro 0, axr 0x32 0x0A 0x0A .u16 .ro 0,
  (axr 0x33 1 2 .u32 .rws 0x03FF0000).safety, (axr 0x33 3 3 .u8 .rws 8 (.rng 0 8)).safety, (axr 0x33 4 4 .u8 .rws 0 (.rng 0 3)).safety, (axr 0x33 5 5 .u8 .rws 3 (.rng 0 3)).safety,
  (axr 0x33 7 7 .u8 .ro 0x13).safety, (axr 0x33 8 8 .u8 .wo 0 (.enum [1])).safety,
  (axr 0x34 1 6 .u32 .ro 0).volatile,
  drow 0x3038 8 0x40 1 1 8 .rws [0xFF], axr 0x38 2 2 .u8 .rws 0, axr 0x38 3 3 .u8 .wo 0 (.enum [1]), axr 0x38 4 0x0B .u16 .ro 0]

/-- Control engine (R848) of every axis. -/
def rowsControl : List Row := [
  axr 0 1 1 .u8 .rws 1 (.rng 1 16), axr 0 2 2 .bool .rws 0, axr 0 3 3 .u8 .rws 0 (.enum [0, 1, 2, 3]), axr 0 4 4 .u8 .rws 0 (.rng 0 7),
  drow 0x3000 8 0x40 5 5 28 .rws, axr 0 6 6 .f32 .rws 0, (axr 0 7 7 .u32 .rws 0).safety, (axr 0 8 8 .u16 .rws 500 (.rng 10 10000)).safety,
  axr 0 9 9 .u32 .rws 100, axr 0 0x0A 0x0A .f32 .rws 0,
  axr 1 1 1 .u8 .rws 4 (.rng 1 32), axr 1 2 2 .f32 .rws 0x3DCCCCCD, axr 1 3 3 .f32 .rws 0x3F800000, axr 1 4 5 .f32 .rws 0x3A83126F,
  axr 1 6 6 .f32 .rws 0x38D1B717, axr 1 7 7 .f32 .rws 0, axr 1 8 8 .u32 .rws 65536, axr 1 9 9 .u32 .rws 0, axr 1 0x0A 0x0A .u8 .rws 0 (.rng 0 16),
  axr 1 0x0B 0x0B .f32 .rws 0, drow 0x3001 8 0x40 0x0C 0x0C 12 .rws, axr 1 0x0D 0x0D .u8 .rws 3 (.enum [2, 3]),
  axr 1 0x0E 0x0E .u8 .rws 0 (.rng 0 7), axr 1 0x0F 0x0F .f32 .rws 0,
  drow 0x3002 8 0x40 1 8 32 .rws,
  axr 3 1 1 .bool .rws 0, axr 3 2 2 .f32 .rws 0x3D4CCCCD (.frng 0 0x3F800000), axr 3 3 4 .f32 .rws 0, axr 3 5 5 .u16 .rws 8 (.rng 1 1000),
  axr 3 6 6 .f32 .rws 0x3C23D70A (.frng 0 0x3F800000), (axr 3 7 7 .u8 .rws 4 (.enum [0, 1, 2, 3, 4, 5])).safety,
  (axr 4 1 1 .u8 .ro 0).volatile, (axr 4 2 8 .f32 .ro 0).volatile, (axr 4 9 9 .u16 .ro 0).volatile, (axr 4 0x0A 0x0B .u32 .ro 0).volatile,
  (axr 4 0x0C 0x0C .u8 .ro 0).volatile,
  axr 5 1 1 .u8 .ro 0, axr 5 2 2 .u16 .ro 0, axr 5 3 4 .u32 .ro 0, axr 5 5 5 .u8 .wo 0 (.enum [1])]

/-- CiA 402 objects (R850) of every axis. -/
def rowsCia : List Row := [
  (cia 0x603F 0 .u16 .ro 0).tx, (cia 0x6040 0 .u16 .rw 0).rx, (cia 0x6041 0 .u16 .ro 0).tx,
  cia 0x605A 0 .i16 .rw 2 (.enum [0, 1, 2, 5, 6]), cia 0x605E 0 .i16 .rw 2 (.enum [0, 1, 2]),
  (cia 0x6060 0 .u8 .rw 8 (.enum [1, 3, 6, 8, 9, 10])).rx, (cia 0x6061 0 .u8 .ro 8).tx, (cia 0x6064 0 .i32 .ro 0).tx, (cia 0x606C 0 .i32 .ro 0).tx,
  cia 0x6065 0 .u32 .rw 10000, cia 0x6066 0 .u16 .rw 10, (cia 0x6071 0 .i16 .rw 0).rx, (cia 0x6077 0 .i16 .ro 0).tx, (cia 0x6078 0 .i16 .ro 0).tx,
  cia 0x6072 0 .u16 .rw 1000, cia 0x6073 0 .u16 .rw 1000, cia 0x6075 0 .u32 .rw 1000, cia 0x6076 0 .u32 .rw 100,
  (cia 0x607A 0 .i32 .rw 0).rx, (cia 0x60FF 0 .i32 .rw 0).rx, cia 0x607C 0 .i32 .rw 0, cia 0x607D 1 .i32 .rw (-2147483648),
  cia 0x607D 2 .i32 .rw 2147483647, cia 0x607F 0 .u32 .rw 100000, cia 0x6081 0 .u32 .rw 100000, cia 0x6083 0 .u32 .rw 1000000,
  cia 0x6084 0 .u32 .rw 1000000, cia 0x6085 0 .u32 .rw 1000000, cia 0x6098 0 .i16 .rw 37 (.enum [33, 34, 37, -1, -2]),
  cia 0x6099 1 .u32 .rw 10000, cia 0x6099 2 .u32 .rw 1000, cia 0x609A 0 .u32 .rw 1000000, cia 0x60A4 1 .u32 .rw 0,
  (cia 0x60F4 0 .i32 .ro 0).tx, cia 0x6502 0 .u32 .ro 0x3A5]

/-- Safety objects of the field die (R897). -/
def rowsSafety : List Row := [
  one 0x3400 1 .u8 .ro 5, nrow 0x3410 1 1 1 3 .u32 .rws 100000 (.rng 1000 10000000), nrow 0x3411 1 1 1 3 .u32 .rws 4000 (.rng 0 1000000),
  one 0x3412 1 .u8 .rws 4 (.enum [0, 1, 2, 3, 4, 5]), nrow 0x3412 1 1 2 3 .u8 .rws 1 (.enum [0, 1, 2, 3, 4, 5]), one 0x3412 4 .u8 .rws 0xFF,
  one 0x3413 1 .bool .rws 1, one 0x3414 1 .u32 .rws 0, one 0x3414 2 .u8 .rws 4 (.enum [0, 1, 2, 3, 4, 5]),
  one 0x3420 1 .u8 .rws 2 (.enum [0, 1, 2, 3, 4, 5]), nrow 0x3420 1 1 2 3 .u8 .rws 1 (.enum [0, 1, 2, 3, 4, 5]),
  one 0x3420 4 .u8 .rws 4 (.enum [0, 1, 2, 3, 4, 5]), one 0x3420 5 .u8 .rws 1 (.enum [0, 1, 2, 3, 4, 5]), one 0x3420 6 .u8 .rws 0xFF,
  one 0x3430 1 .u16 .rwp 1000 (.rng 100 10000), (drow 0x3440 1 1 1 1 8 .ro).volatile, (one 0x3440 2 .u16 .ro 0).volatile,
  (nrow 0x3450 1 1 1 8 .u32 .ro 0).volatile]

/-- Rope, field power, boot and temperature objects (R223, R963, R1001, R1025). -/
def rowsRope : List Row := [
  nrow 0x3A00 1 1 1 3 .u8 .ro 0, nrow 0x3A00 1 1 4 6 .u16 .ro 0, nrow 0x3A01 1 1 1 7 .u32 .ro 0,
  one 0x3A02 1 .u8 .wo 0 (.enum [1, 2, 4]), one 0x3A02 2 .u8 .ro 0,
  one 0x3A10 1 .u32 .rws 2000 (.rng 500 20000), one 0x3A10 2 .u8 .rws 4 (.enum [0, 1, 2, 3, 4, 5]), one 0x3A10 3 .u32 .ro 0,
  one 0x3A20 1 .u32 .ro 0, one 0x3A20 2 .u8 .wo 0 (.enum [1]), drow 0x3A20 1 1 3 3 24 .ro,
  one 0x3A30 1 .u8 .ro 0, one 0x3A30 2 .u8 .wo 0 (.enum [1]), one 0x3A30 3 .u8 .rws 0 (.enum [0, 1]),
  ((one 0x3A40 1 .u32 .rw 0 (.enum [0x4F565244])).volatile).safety, (one 0x3A40 2 .u8 .ro 0).safety, (one 0x3A40 3 .u8 .wo 0 (.enum [1, 2])).safety,
  (one 0x3A40 4 .u8 .wo 0 (.enum [1])).safety, (one 0x3A40 5 .u8 .ro 0).safety, (one 0x3A40 6 .u8 .ro 0).safety, (one 0x3A40 7 .u8 .ro 0xFF).safety,
  (one 0x3A40 8 .bool .ro 0).safety, (one 0x3A50 1 .i16 .ro 0).volatile]

/-- All field-owned rows. -/
def rowsField : List Row :=
  rowsComm ++ rowsBus ++ rowsStage ++ rowsPosition ++ rowsClock ++ rowsEngine ++ rowsMotion ++ rowsControl ++ rowsCia ++
    rowsSafety ++ rowsRope

end Sys2Proof.Machine
end

