-- ==== Sys2Proof/Machine/SchemaHost.lean ====
section
/-! DEFINITION. The host-owned objects (R28), chapter by chapter. -/

namespace Sys2Proof.Machine

/-- Device and version objects (R277); live ones follow the images and the link. -/
def rowsVersion : List Row := [
  one 0x2000 1 .u8 .ro 0xB0, one 0x2000 2 .u8 .ro 0, one 0x2000 3 .u16 .ro 0, nrow 0x2001 2 1 1 4 .u16 .ro 0, nrow 0x2001 2 1 5 5 .u32 .ro 0,
  nrow 0x2001 2 1 6 6 .u8 .ro 0, one 0x2003 1 .u8 .ro 0, nrow 0x2004 1 1 1 3 .u32 .ro 0]

/-- Host boot objects (R1001). -/
def rowsHostBoot : List Row := [
  one 0x2005 1 .u16 .rw 100 (.rng 0 1000), nrow 0x2005 1 1 2 3 .u8 .wo 0 (.enum [1]), one 0x2005 4 .u8 .ro 0, one 0x2005 5 .u8 .ro 0xFF,
  one 0x2005 6 .u8 .ro 0, one 0x2006 1 .u64 .wo 0, one 0x2006 2 .u8 .ro 0]

/-- Cameras (R485). -/
def rowsCamera : List Row := [
  nrow 0x2400 4 1 1 1 .bool .rws 0, nrow 0x2400 4 1 2 2 .u8 .rws 4 (.enum [1, 2, 4]), nrow 0x2400 4 1 3 3 .u8 .rws 0xE4, nrow 0x2400 4 1 4 4 .u8 .rws 0,
  nrow 0x2400 4 1 5 5 .u8 .rws 0 (.enum [0, 1]), nrow 0x2400 4 1 6 6 .u32 .rws 100000 (.rng 100 1000000), nrow 0x2400 4 1 7 7 .u8 .ro 0,
  nrow 0x2410 16 1 1 1 .bool .rws 0, nrow 0x2410 16 1 2 3 .u8 .rws 0, nrow 0x2410 16 1 4 4 .u8 .rws 0x2B, nrow 0x2410 16 1 5 6 .u16 .rws 0,
  nrow 0x2410 16 1 7 7 .u8 .rws 0xFF (.enum [0, 1, 2, 3, 255]), nrow 0x2410 16 1 8 8 .u32 .rws 0 (.rng 0 1000000),
  nrow 0x2410 16 1 9 9 .u32 .rws 50000 (.rng 10 1000000), nrow 0x2410 16 1 0x0A 0x0A .i32 .rws 0,
  nrow 0x2410 16 1 0x0B 0x0B .u8 .rws 0xFF (.enum [0, 1, 2, 3, 4, 5, 6, 7, 255]), nrow 0x2410 16 1 0x0C 0x0C .u8 .rws 0 (.enum [0, 1]),
  nrow 0x2410 16 1 0x0D 0x0D .u8 .rws 0 (.enum [0, 1, 2, 3, 4]),
  drow 0x2430 16 1 1 1 8 .rws, nrow 0x2430 16 1 2 2 .u16 .rws 0, drow 0x2430 16 1 3 3 2312 .rws [0, 0x10], drow 0x2430 16 1 4 4 8 .rws [0, 0x10],
  { base := 0x2430, count := 16, stride := 1, s0 := 5, s1 := 5, ty := .dom 24 24, acc := .rws,
    dflt := .raw ([0, 0x10, 0, 0, 0, 0, 0, 0, 0, 0x10, 0, 0, 0, 0, 0, 0, 0, 0x10] ++ List.replicate 6 0) },
  { base := 0x2430, count := 16, stride := 1, s0 := 6, s1 := 6, ty := .dom 514 514, acc := .rws,
    dflt := .raw (((List.range 257).map (fun i => leBytes 2 (min (i * 256) 65535))).flatten) },
  nrow 0x2430 16 1 7 7 .u8 .rws 0 (.rng 0 15), nrow 0x2430 16 1 8 8 .u8 .rws 0,
  nrow 0x2450 16 1 1 1 .bool .rws 0, nrow 0x2450 16 1 2 2 .u8 .rws 1 (.enum [0, 1, 2, 3, 4, 5]), nrow 0x2450 16 1 3 6 .u16 .rws 0, nrow 0x2450 16 1 7 7 .u8 .rws 0,
  nrow 0x2450 16 1 8 8 .u16 .rws 0 (.rng 0 383), nrow 0x2450 16 1 9 9 .u16 .rws 1 (.rng 1 384), nrow 0x2450 16 1 0x0A 0x0A .u8 .rws 2 (.rng 1 8),
  nrow 0x2450 16 1 0x0B 0x0B .u16 .rws 0 (.rng 0 1023), nrow 0x2450 16 1 0x0C 0x0C .u8 .rws 1 (.rng 1 8),
  nrow 0x2470 16 1 1 1 .bool .rws 0, nrow 0x2470 16 1 2 2 .u8 .rws 0 (.enum [0, 1, 2, 3, 4, 5]), nrow 0x2470 16 1 3 6 .u16 .rws 0, nrow 0x2470 16 1 7 7 .u8 .rws 0,
  nrow 0x2470 16 1 8 8 .u64 .rws 0, nrow 0x2470 16 1 9 0x0A .u32 .rws 0, nrow 0x2470 16 1 0x0B 0x0B .u8 .rws 2 (.rng 1 64),
  nrow 0x2470 16 1 0x0C 0x0C .u8 .rws 0 (.enum [0, 1]),
  nrow 0x2490 16 1 1 9 .u32 .ro 0, drow 0x2490 16 1 0x0A 0x0A 32 .ro]

/-- Vision (chapter 10). -/
def rowsVision : List Row := [
  nrow 0x2600 8 1 1 1 .bool .rws 0, drow 0x2600 8 1 2 2 3136 .rws, nrow 0x2610 8 1 1 6 .u32 .ro 0, drow 0x2610 8 1 7 7 32 .ro,
  one 0x2620 1 .u16 .ro 800, nrow 0x2620 1 1 2 4 .u32 .ro 0]

/-- Gallery (chapters 11 and 12): client c is at subindex c mod 128 + 1 of index base + c ÷ 128, and queue q likewise. -/
def rowsGallery : List Row := [
  one 0x28F0 1 .u16 .ro 1200, nrow 0x28F0 1 1 2 6 .u32 .ro 0, one 0x28F0 7 .u16 .rw 10 (.rng 1 3600), one 0x28F0 8 .bool .ro 0,
  one 0x2800 1 .u16 .rws 20 (.rng 5 50), one 0x2800 2 .u16 .rws 1000 (.rng 100 10000), nrow 0x2800 1 1 3 4 .u32 .rws 0, nrow 0x2800 1 1 5 6 .u32 .ro 0,
  nrow 0x2801 1 1 1 2 .u32 .rws 0, one 0x2801 3 .u32 .rws 0xFFFFFF, nrow 0x2801 1 1 4 5 .u16 .rws 0, drow 0x2801 1 1 6 6 1024 .rws,
  one 0x2802 1 .bool .ro 0, one 0x2802 2 .u64 .ro 0,
  nrow 0x2810 2 1 1 128 .u8 .rws 2 (.enum [0, 1, 2]), nrow 0x2812 2 1 1 128 .u8 .rws 0 (.enum [0, 1]),
  nrow 0x2814 2 1 1 128 .u8 .rws 0xFF (.enum [0, 1, 2, 3, 255]), nrow 0x2820 10 1 1 128 .u64 .ro 0,
  nrow 0x2840 32 1 1 128 .u8 .rws 0, nrow 0x2860 32 1 1 128 .u16 .rws 0,
  nrow 0x28A0 4 1 1 2 .u8 .ro 0, nrow 0x28A0 4 1 3 3 .u32 .ro 0, nrow 0x28A0 4 1 4 4 .u8 .ro 0,
  { base := 0x28A0, count := 4, stride := 1, s0 := 5, s1 := 5, ty := .vstr 32, acc := .ro, dflt := .raw [] },
  nrow 0x28A0 4 1 6 6 .u32 .ro 0, nrow 0x28A0 4 1 7 7 .u16 .ro 0, drow 0x28A0 4 1 8 8 48 .ro, nrow 0x28A0 4 1 9 9 .u64 .wo 0,
  nrow 0x28A0 4 1 0x0A 0x0A .u8 .wo 0 (.enum [1]), nrow 0x28A0 4 1 0x0B 0x0B .u8 .ro 0, nrow 0x28A0 4 1 0x0C 0x0C .u16 .ro 0,
  nrow 0x28A0 4 1 0x0D 0x0D .u32 .ro 0]

/-- Key-value pools (R687). -/
def rowsKv : List Row := [
  nrow 0x2A00 4 1 1 1 .bool .rws 0, nrow 0x2A00 4 1 2 2 .u8 .rws 0, nrow 0x2A00 4 1 3 3 .u32 .rws 0, nrow 0x2A00 4 1 4 4 .u8 .rws 12 (.rng 12 19),
  nrow 0x2A00 4 1 5 5 .u32 .rws 64 (.rng 64 524288), nrow 0x2A00 4 1 6 6 .u32 .rws 0, nrow 0x2A00 4 1 7 7 .u16 .rws 0,
  nrow 0x2A00 4 1 8 8 .u16 .rws 0 (.rng 0 256), nrow 0x2A00 4 1 9 9 .u64 .rws 0, nrow 0x2A00 4 1 0x0A 0x0A .u32 .rws 0, drow 0x2A00 4 1 0x0B 0x0B 32 .rws,
  nrow 0x2A10 4 1 1 1 .u8 .ro 2, nrow 0x2A10 4 1 2 3 .u32 .ro 0, nrow 0x2A10 4 1 4 4 .u16 .ro 0, nrow 0x2A10 4 1 5 0x0A .u32 .ro 0]

/-- Lantern (R723). -/
def rowsLantern : List Row := [
  one 0x2C00 1 .bool .rws 0, one 0x2C00 2 .u8 .rws 0 (.enum [0, 1]), one 0x2C00 3 .u16 .rws 1280 (.rng 1 2048), one 0x2C00 4 .u16 .rws 720 (.rng 1 2048),
  one 0x2C00 5 .u8 .rws 4 (.rng 0 5), one 0x2C00 6 .u8 .rws 0 (.enum [0, 1]), one 0x2C00 7 .u8 .rws 4 (.rng 0 15),
  drow 0x2C01 1 1 1 16 8 .rws, drow 0x2C02 1 1 1 64 8 .rws, drow 0x2C03 1 1 1 64 16 .rws, drow 0x2C04 1 1 1 4 393216 .rws,
  one 0x2C05 1 .u8 .rws 0xFF, one 0x2C05 2 .u16 .rws 1 (.rng 1 65535), one 0x2C05 3 .u32 .rws 1000 (.rng 1 10000000),
  one 0x2C05 4 .u32 .rws 1000 (.rng 100 1000000),
  { base := 0x2C08, count := 8, stride := 1, s0 := 1, s1 := 1, ty := .dom 12 12, acc := .rws, dflt := .raw (0xFF :: List.replicate 11 0) },
  nrow 0x2C10 1 1 1 5 .u64 .ro 0, nrow 0x2C10 1 1 6 0x0B .u32 .ro 0]

/-- Composition (R757); the default Z of layer l is l. -/
def rowsComp : List Row := [
  nrow 0x2E00 6 1 1 1 .bool .rws 0, nrow 0x2E00 6 1 2 2 .u8 .rws 3 (.enum [1, 2, 3, 4, 5, 0x20, 0x21]),
  one 0x2E00 3 .u8 .rws 0, one 0x2E01 3 .u8 .rws 1, one 0x2E02 3 .u8 .rws 2, one 0x2E03 3 .u8 .rws 3, one 0x2E04 3 .u8 .rws 4, one 0x2E05 3 .u8 .rws 5,
  nrow 0x2E00 6 1 4 4 .u32 .rws 0, nrow 0x2E00 6 1 5 9 .u16 .rws 0, nrow 0x2E00 6 1 0x0A 0x0B .i16 .rws 0, nrow 0x2E00 6 1 0x0C 0x0D .u16 .rws 0,
  nrow 0x2E00 6 1 0x0E 0x0E .u8 .rws 255, nrow 0x2E00 6 1 0x0F 0x0F .u32 .rws 0, nrow 0x2E00 6 1 0x10 0x10 .u8 .rws 0 (.rng 0 8),
  nrow 0x2E00 6 1 0x11 0x11 .u32 .rws 0xFFFFFF, nrow 0x2E00 6 1 0x12 0x12 .bool .rws 0,
  one 0x2E10 1 .u32 .rws 148500, one 0x2E10 2 .u16 .rws 1920, one 0x2E10 3 .u16 .rws 88, one 0x2E10 4 .u16 .rws 44, one 0x2E10 5 .u16 .rws 148,
  one 0x2E10 6 .u16 .rws 1080, one 0x2E10 7 .u16 .rws 4, one 0x2E10 8 .u16 .rws 5, one 0x2E10 9 .u16 .rws 36, one 0x2E10 0x0A .u8 .rws 3,
  one 0x2E10 0x0B .u32 .rws 0xFF00FF, one 0x2E10 0x0C .u8 .rws 8 (.enum [6, 8]), one 0x2E10 0x0D .u32 .rws 0,
  one 0x2E12 1 .u8 .rws 3, one 0x2E12 2 .u64 .rws 0, one 0x2E12 3 .u8 .rws 1, nrow 0x2E12 1 1 4 5 .u32 .rws 0, one 0x2E12 6 .u8 .rws 2,
  one 0x2E12 7 .u8 .rws 0 (.enum [0, 1]), nrow 0x2E20 1 1 1 5 .u64 .ro 0]

/-- Power (R962) and the host copy of the fault log (R897). -/
def rowsPower : List Row := [
  one 0x3600 1 .u8 .rws 1 (.enum [0, 1, 2]), one 0x3600 2 .u32 .ro 10000, one 0x3601 1 .u8 .ro 0, nrow 0x3601 1 1 2 4 .u32 .ro 0,
  (one 0x3602 1 .u8 .rw 0 (.enum [0, 1, 2, 3])).volatile, one 0x3602 2 .u8 .ro 0, nrow 0x3610 1 1 1 11 .u64 .ro 0, nrow 0x3611 1 1 1 11 .u32 .ro 0,
  one 0x3620 1 .u8 .rw 0x1F, one 0x3620 2 .u8 .ro 0, one 0x3620 3 .u32 .rw 0, one 0x3621 1 .i16 .ro 0,
  one 0x3800 1 .u16 .ro 0, nrow 0x3800 1 1 2 3 .u32 .ro 0, (one 0x3800 4 .u16 .rw 0).volatile, drow 0x3800 1 1 5 5 64 .ro]

/-- All host-owned rows. -/
def rowsHost : List Row :=
  rowsVersion ++ rowsHostBoot ++ rowsCamera ++ rowsVision ++ rowsGallery ++ rowsKv ++ rowsLantern ++ rowsComp ++ rowsPower

end Sys2Proof.Machine
end

