-- ==== Sys2Proof/Machine/Objects.lean ====
section
/-! DEFINITION. The object dictionary's stores: which die owns an index (R27, R28), what an object holds (R233), and
reading and writing its stored value. -/

namespace Sys2Proof.Machine

/-- The field die owns the index (R27); the host die owns every other (R28). -/
def fieldOwned (i : Nat) : Bool :=
  (decide (0x1000 ≤ i) && decide (i ≤ 0x1FFF)) || (decide (0x2100 ≤ i) && decide (i ≤ 0x22FF)) ||
  (decide (0x3000 ≤ i) && decide (i ≤ 0x34FF)) || (decide (0x3A00 ≤ i) && decide (i ≤ 0x3AFF)) ||
  (decide (0x6000 ≤ i) && decide (i ≤ 0x9FFF))

/-- The rows of the owning die's schema. -/
def rowsOf (i : Nat) : List Row := if fieldOwned i then rowsField else rowsHost

/-- The highest subindex of a record or array, none for an index with one value or no object (R232). -/
def highest (i : Nat) : Option Nat :=
  ((rowsOf i).filter (fun r => r.hasIndex i && decide (0 < r.s1))).foldl (fun a r => some (max r.s1 (a.getD 0))) none

/-- The row of an object; subindex 0 of a record or array is a U8 RO object (R232). -/
def row? (i s : Nat) : Option Row :=
  match (rowsOf i).find? (fun r => r.has i s) with
  | some r => some r
  | none => if s = 0 then (highest i).map (fun h => one i 0 .u8 .ro (h : Int)) else none

/-- Octets of an object's default (R233).
Log entry 2: DESIGN CHOICE, unsafe. -/
def dfltOf (i s : Nat) : List Byte :=
  match row? i s with
  | some r => r.dflt.bytes r.ty
  | none => []

/-- Octets of the object's type. -/
def osize (i s : Nat) : Nat :=
  match row? i s with
  | some r => r.ty.size
  | none => 0

/-- Key of an object in its die's store. -/
def okey (i s : Nat) : Nat := i * 256 + s

/-- The stored octets of an object. -/
def stored (st : State) (i s : Nat) : List Byte :=
  tget (dfltOf i s) (if fieldOwned i then st.fobj else st.hobj) (okey i s)

/-- Store octets in an object. -/
def putObj (st : State) (i s : Nat) (b : List Byte) : State :=
  if fieldOwned i then { st with fobj := tset (dfltOf i s) st.fobj (okey i s) b }
  else { st with hobj := tset (dfltOf i s) st.hobj (okey i s) b }

/-- Stored unsigned value. -/
def objN (st : State) (i s : Nat) : Nat := leNat (stored st i s)

/-- Stored signed value. -/
def objI (st : State) (i s : Nat) : Int := leInt (stored st i s)

/-- Stored truth value. -/
def objB (st : State) (i s : Nat) : Bool := decide (objN st i s ≠ 0)

/-- Stored binary32 value. -/
def objF (st : State) (i s : Nat) : F32 := BitVec.ofNat 32 (objN st i s)

/-- Store an unsigned value in the object's size. -/
def putN (st : State) (i s : Nat) (v : Nat) : State := putObj st i s (leBytes (osize i s) v)

/-- Store a signed value in the object's size. -/
def putI (st : State) (i s : Nat) (v : Int) : State := putObj st i s (leBytesI (osize i s) v)

/-- Advance a counter object, which wraps at its size. -/
def bump (st : State) (i s : Nat) (k : Nat := 1) : State := putN st i s (objN st i s + k)

/-- Base index of axis `a` in chapters 16 and 17. -/
def axA (a : Nat) : Nat := 0x3000 + 0x40 * a

/-- Index of CiA 402 object `i` for axis `a`. -/
def ciaI (i a : Nat) : Nat := i + 0x800 * a

end Sys2Proof.Machine
end

