-- ==== Sys2Proof/Machine/Ops.lean ====
section
/-! DEFINITION. The named operations the meanings share: dies and units, Rope queues, DRAM and windows, registers, the
fault log, emergencies, records and reactions. -/

namespace Sys2Proof.Machine

/-- The answer of a meaning. -/
abbrev Out := Host.Outcome State Fault Refusal

/-! ### Dies -/

/-- The field firmware runs (R977): not in reset, not halted, not in its boot ROM. -/
def fieldUp (s : State) : Bool := s.fboot.mode == .running

/-- The field die's hardware runs: its firmware runs or has halted in a fault (R374, R800). -/
def fieldHw (s : State) : Bool := s.fboot.mode == .running || s.fboot.mode == .halted

/-- The field die is powered and out of reset, so that its clocks run: in its boot ROM and its recovery as well (R147, R977, R1004). -/
def fieldClocks (s : State) : Bool := fieldHw s || s.fboot.mode == .rom || s.fboot.mode == .recovery

/-- The host die runs its software (R978). -/
def hostUp (s : State) : Bool := s.hboot.mode == .running

/-- The host die's Rope end is out of reset: running software, booting or in recovery (R980, R1003). -/
def hostHw (s : State) : Bool := s.hboot.mode == .running || s.hboot.mode == .recovery || s.hboot.mode == .rom

/-- Rope is UP (R223). -/
def ropeUp (s : State) : Bool := s.link.mode == .up

/-- The host answers requests to host-owned objects (R248).
Log entry 15: DESIGN CHOICE, safe. -/
def hostAnswers (s : State) : Bool :=
  ropeUp s && !s.fend.lost && !s.fend.awaiting && s.pairs.hrun.getLsbD 0

/-! ### Free values (log entry 3) -/

/-- The next free word.
Log entry 3: DESIGN CHOICE, safe. -/
def freeW (s : State) : BitVec 64 := Config.freeWord s.freeCtr

/-- The next free rational.
Log entry 3: DESIGN CHOICE, safe. -/
def freeRat (s : State) : Rat := Config.freeRat s.freeCtr

/-- The state after a free value has been drawn.
Log entry 3: DESIGN CHOICE, safe. -/
def drawn (s : State) : State := { s with freeCtr := s.freeCtr + 1 }

/-! ### Per-axis state -/

/-- Motion I/O of axis `a`. -/
def ax (s : State) (a : Nat) : Motion := tget {} s.axes a

/-- Replace the motion I/O of axis `a`. -/
def setAx (s : State) (a : Nat) (m : Motion) : State := { s with axes := tset {} s.axes a m }

/-- Control engine state of axis `a`. -/
def ce (s : State) (a : Nat) : AxisCtl := tget {} s.ctl a

/-- Replace the control engine state of axis `a`. -/
def setCe (s : State) (a : Nat) (c : AxisCtl) : State := { s with ctl := tset {} s.ctl a c }

/-! ### Position and time as the dies see them -/

/-- Two's complement reading of a position in 56 bits (R56). -/
def wrap56 (p : Int) : Int := toSigned 56 (ofSigned 56 p)

/-- The reading of a counter: I × 256 + F in forward motion, I × 256 − F in reverse (R60). -/
def reading (count : Int) (frac : Nat) (reverse : Bool) : Int :=
  wrap56 (if reverse then count * 256 - frac else count * 256 + frac)

/-- Line position, 48.8 (R56). -/
def linePos (s : State) : Int := reading s.pos.count s.pos.frac s.pos.reverse

/-- Replica position, 48.8. -/
def replicaPos (s : State) : Int := reading s.replica.count s.replica.frac s.replica.reverse

/-- Code of a position state (R104). -/
def PosMode.code : PosMode → Nat
  | .measured => 0 | .estimated => 1 | .invalid => 2 | .rejoined => 3 | .following => 4

/-- Position state byte, 0x2200:02 (R104). -/
def posByte (s : State) : Nat := s.pos.mode.code + 128 * b2n s.pos.referenced

/-- A rate in parts per billion (R114, R133); a tie goes to the even number.
Log entry 114: DESIGN CHOICE, unsafe. -/
def ppb (q : Rat) : Int := ratRne (q * 1000000000)

/-- Clock state byte, 0x2220:02 and 0x2280:02 (R160). -/
def clockByte (m : ClockMode) (never role : Bool) : Nat :=
  (match m with | .locked => 0 | .holdover => 1 | .freeRun => 2) + 128 * b2n never + 64 * b2n role

/-- Field clock state byte. -/
def fclkByte (s : State) : Nat := clockByte s.fclk.mode s.fclk.never s.fclk.ref

/-- Host clock state byte. -/
def hclkByte (s : State) : Nat := clockByte s.hclk.mode s.hclk.never false

/-! ### Rope -/

/-- The end of a die. -/
def ropeEnd (s : State) (d : Die) : RopeEnd := match d with | .field => s.fend | .host => s.hend

/-- Replace the end of a die. -/
def setEnd (s : State) (d : Die) (e : RopeEnd) : State :=
  match d with | .field => { s with fend := e } | .host => { s with hend := e }

/-- The other die. -/
def otherDie : Die → Die | .field => .host | .host => .field

/-- A class frame before its header is filled (R176): kinds 0 message, 1 request, 2 response. -/
def mkFrame (cls kind tag : Nat) (payload : List Byte) (last : Bool := true) : Frame :=
  { cls := cls, kind := kind, last := last, seq := 0, ack := none, nak := false, crClass := 0, crCount := 0, tag := tag, payload := payload }

/-- Queue a class frame at a die's end (R178). -/
def ropeSend (s : State) (d : Die) (f : Frame) : State :=
  setEnd s d { ropeEnd s d with queue := (ropeEnd s d).queue ++ [f] }

/-- Queue a link-control frame with code and upper tag bits (R177). -/
def ropeControl (s : State) (d : Die) (code hi : Nat) (payload : List Byte := []) : State :=
  let f : Frame := mkFrame 0 3 (code + 256 * hi) payload
  setEnd s d { ropeEnd s d with control := (ropeEnd s d).control ++ [f] }

/-- The host die receives class-2 records: Rope UP and its die out of reset. -/
def hostReceives (s : State) : Bool := ropeUp s && hostHw s

/-- The field die sends a class-2 record (R220): while the host die is not receiving, at most 64 are kept and further
ones are counted in 0x3A01:07 (R228). -/
def class2 (s : State) (payload : List Byte) : State :=
  if hostReceives s || decide (((s.fend.queue).filter (fun f => f.cls == 2)).length < 64) then
    ropeSend s .field (mkFrame 2 0 0 payload)
  else bump s 0x3A01 7

/-! ### Fault log (R892 to R896) -/

/-- The 64 octets of a record (R892). -/
def faultBytes (r : FaultRec) : List Byte :=
  leBytes 2 r.type.toNat ++ [r.source, r.reaction] ++ leBytes 4 r.seq.toNat ++ leBytes 8 r.time ++ leBytesI 8 r.position ++
    leBytes 2 r.mech.toNat ++ [r.axis, r.part] ++ leBytes 2 r.tag.toNat ++ [0, 0] ++ fitTo 32 r.detail

/-- A record before its source, sequence and time are filled. -/
def mkRec (type mech : Nat) (detail : List Byte) (axis : Nat := 0xFF) (part : Nat := 0xFF) (tag : Nat := 0)
    (reaction : Nat := 0) : FaultRec :=
  { type := BitVec.ofNat 16 type, source := 0, reaction := BitVec.ofNat 8 reaction, seq := 0, time := 0, position := 0,
    mech := BitVec.ofNat 16 mech, axis := BitVec.ofNat 8 axis, part := BitVec.ofNat 8 part, tag := BitVec.ofNat 16 tag, detail := detail }

/-- The field die writes a record into field SRAM and sends it to the host die (R894, R896). -/
def logField (s : State) (r : FaultRec) : State :=
  let r := { r with source := 0, seq := BitVec.ofNat 32 s.saf.seqField, time := s.fclk.time, position := linePos s }
  let s := { s with saf := { s.saf with seqField := (s.saf.seqField + 1) % 2 ^ 32, log := (r :: s.saf.log).take 1024,
                                         unwritten := s.saf.unwritten ++ [r] } }
  class2 s (leBytes 2 6 ++ [0, 0] ++ faultBytes r)

/-- Add a record to the host copy (R896). -/
def hostCopy (s : State) (r : FaultRec) : State :=
  { s with saf := { s.saf with hostLog := (r :: s.saf.hostLog).take 1024 } }

/-- The host die writes a record: into its copy and to the field die on class 2; while Rope is not UP at most 64 are
held and further ones are counted in 0x3800:03 and dropped (R895). -/
def logHost (s : State) (r : FaultRec) : State :=
  let r := { r with source := 1, seq := BitVec.ofNat 32 s.saf.seqHost, time := s.trep.time, position := replicaPos s }
  let s := hostCopy { s with saf := { s.saf with seqHost := (s.saf.seqHost + 1) % 2 ^ 32 } } r
  if ropeUp s then ropeSend s .host (mkFrame 2 0 0 (leBytes 2 6 ++ [0, 0] ++ faultBytes r))
  else if s.saf.hostHeld.length < 64 then { s with saf := { s.saf with hostHeld := s.saf.hostHeld ++ [r] } }
  else bump s 0x3800 3

/-- TYPE 0x0009 detail: code and detail (R893). -/
def eventDetail (code detail : Nat) : List Byte := leBytes 2 code ++ leBytes 4 detail

/-! ### Emergencies (R359 to R361) -/

/-- CoE is available: PREOP, SAFEOP or OP (R254, R343). -/
def coeUp (s : State) : Bool := fieldUp s && (s.bus.al == .preop || s.bus.al == .safeop || s.bus.al == .op)

/-- Send one emergency. -/
def emcySend (s : State) (e : Emergency) : State :=
  bump { s with bus := { s.bus with emcySent := e :: s.bus.emcySent } } 0x1E30 1

/-- Bit of the error register that an emergency code's class sets beside the generic bit (CiA 301; log entry 36).
Log entry 36: PRESUMED, unsafe. -/
def errorClass (code : Nat) : Nat :=
  let k := code / 4096
  if k = 2 then 2 else if k = 3 then 4 else if k = 4 then 8 else if k = 7 then 32
  else if k = 8 then (if code / 256 = 0x81 then 16 else 32) else if code / 256 = 0xFF then 128 else 0

/-- The error register 0x1001:00: its held bits, and the classes of the axis errors not yet reset.
Log entry 36: PRESUMED, unsafe. -/
def errorReg (s : State) : Nat :=
  (List.range 8).foldl
    (fun r a => let k := objN s (ciaI 0x603F a) 0; if k = 0 then r else r ||| 1 ||| errorClass k)
    (objN s 0x1001 0)

/-- Send an emergency, or queue it while CoE is unavailable: at most 8, the oldest dropped (R361). The error code of an
axis is kept in 0x603F. -/
def emcy (s : State) (code axis detail : Nat) : State :=
  let s := if axis < 8 then putN s (ciaI 0x603F axis) 0 code else s
  let e : Emergency := { code := code, errorRegister := errorReg s, axis := axis, detail := detail % 2 ^ 32 }
  if coeUp s then emcySend s e
  else if s.bus.emcyQueue.length < 8 then { s with bus := { s.bus with emcyQueue := s.bus.emcyQueue ++ [e] } }
  else bump { s with bus := { s.bus with emcyQueue := s.bus.emcyQueue.drop 1 ++ [e] } } 0x1E30 2

/-- Queued emergencies go out in order (R361). -/
def emcyFlush (s : State) : State :=
  { (s.bus.emcyQueue.foldl emcySend s) with bus := { (s.bus.emcyQueue.foldl emcySend s).bus with emcyQueue := [] } }

/-- When the error register has fallen to zero, emergency 0x0000 follows (R360). -/
def errorCleared (old : Nat) (s : State) : State := if old ≠ 0 ∧ errorReg s = 0 then emcy s 0 0xFF 0 else s

/-- Set or clear a held bit of the error register. -/
def errorBit (s : State) (i : Nat) (on : Bool) : State :=
  errorCleared (errorReg s) (putN s 0x1001 0 (setBit (objN s 0x1001 0) i on))

/-! ### Records of class 2 sent by the field die (R220) -/

/-- Position notice (R222). -/
def positionNotice (s : State) (old : Nat) : State :=
  class2 s (leBytes 2 5 ++ leBytes 1 (posByte s) ++ leBytes 1 old ++ leBytes 4 (objN s 0x2200 6) ++ leBytes 8 s.fclk.time ++
    leBytesI 8 (linePos s))

/-- Clock notice of the field clock (R222). -/
def clockNoticeField (s : State) (old : Nat) : State :=
  class2 s (leBytes 2 4 ++ [0] ++ leBytes 1 (fclkByte s) ++ leBytes 1 old ++ [0, 0, 0] ++ leBytes 8 s.fclk.time ++
    leBytesI 4 (ppb s.fclk.rho) ++ [0, 0, 0, 0])

/-- Command rejected (R221, R222). -/
def commandRejected (s : State) (m : MirrorMsg) (cause detail : Nat) : State :=
  class2 s (leBytes 2 3 ++ leBytes 2 m.rtag.toNat ++ leBytes 2 m.mtype.toNat ++ leBytes 1 cause ++ leBytes 1 detail ++
    leBytes 8 s.fclk.time ++ leBytes 8 m.target.toNat)

/-! ### DRAM (R381, R382) -/

/-- First address of the DRAM region (R381). -/
def dramBase : Nat := 0x800000000

/-- Usable capacity in octets (R382). -/
def dramSize (s : State) : Nat :=
  let full := s.mem.fittedGib * 2 ^ 30
  if s.mem.ecc then full / 8 * 7 else full

/-- The address lies in DRAM. -/
def inDram (s : State) (a : Nat) : Bool := decide (dramBase ≤ a) && decide (a < dramBase + dramSize s)

/-- Losses of contents that reached address `a`. -/
def lossesAt (s : State) (a : Nat) : Nat :=
  (s.mem.losses.filter (fun sp => !(sp.any (fun r => decide (r.1 ≤ a) && decide (a < r.1 + r.2))))).length

/-- What an unlisted octet of DRAM reads as: zero before any loss of contents (log entry 4), a free value after one
(R430).
Log entry 4: DESIGN CHOICE, unsafe. -/
def dramDefault (s : State) (a : Nat) : Byte :=
  if lossesAt s a = 0 then 0 else Config.lostByte (lossesAt s a) a

/-- One octet of DRAM.
Log entry 4: DESIGN CHOICE, unsafe. -/
def dramGet (s : State) (a : Nat) : Byte := tget (dramDefault s a) s.mem.cells a

/-- Write one octet of DRAM.
Log entry 4: DESIGN CHOICE, unsafe. -/
def dramSet (s : State) (a : Nat) (b : Byte) : State :=
  { s with mem := { s.mem with cells := tset (dramDefault s a) s.mem.cells a b } }

/-- DRAM is in its canonical form: addresses strictly rising, and no octet listed that equals what an unlisted address
reads as.
Log entry 4: DESIGN CHOICE, unsafe. -/
def Memory.wf (s : State) : Bool :=
  decide (s.mem.cells.Pairwise (fun p q => p.1 < q.1)) && s.mem.cells.all (fun e => decide (e.2 ≠ dramDefault s e.1))

/-- `n` octets from address `a`. -/
def dramRead (s : State) (a n : Nat) : List Byte := (List.range n).map (fun i => dramGet s (a + i))

/-- Write octets from address `a` on. -/
def dramWrite (s : State) : Nat → List Byte → State
  | _, [] => s
  | a, b :: t => dramWrite (dramSet s a b) (a + 1) t

/-- DRAM loses its contents outside the spared ranges (R36, R430).
Log entry 4: DESIGN CHOICE, unsafe. -/
def dramLose (s : State) (spared : List (Nat × Nat)) : State :=
  { s with mem := { s.mem with
      cells := tkeep (fun a => spared.any (fun r => decide (r.1 ≤ a) && decide (a < r.1 + r.2))) s.mem.cells
      losses := spared :: s.mem.losses, poison := [], stores := [] } }

/-! ### Registers (R384) -/

/-- Bases of the register blocks (R384). -/
def bSYSCTL : Nat := 0x40000000
def bROPE : Nat := 0x40010000
def bDP : Nat := 0x40020000
def bFAB : Nat := 0x40030000
def bMC : Nat := 0x40040000
def bKEEP : Nat := 0x40050000
def bPWIN : Nat := 0x40060000
def bPMU : Nat := 0x40070000
def bNQ : Nat := 0x41000000
def bGAL : Nat := 0x42000000
def bCAM : Nat := 0x43000000
def bVIS : Nat := 0x43010000
def bLAN : Nat := 0x43020000
def bCOMP : Nat := 0x43030000

/-- Reset value of a register: only NQ_WAIT_MS has one that is not zero (R599).
Log entry 2: DESIGN CHOICE, unsafe. -/
def regReset (a : Nat) : Nat :=
  if decide (bNQ ≤ a) && decide (a < bNQ + 4096 * 4096) && decide ((a - bNQ) % 4096 = 0x34) then 0x3E8 else 0

/-- A register. -/
def reg (s : State) (a : Nat) : Nat := tget (regReset a) s.regs a

/-- Replace a register. -/
def setReg (s : State) (a v : Nat) : State := { s with regs := tset (regReset a) s.regs a v }

/-- Every register returns to its reset value but those the predicate keeps. -/
def resetRegs (s : State) (kept : Nat → Bool) : State := { s with regs := tkeep kept s.regs }

/-- The address lies in the KEEP block. -/
def isKeepReg (a : Nat) : Bool := decide (bKEEP ≤ a) && decide (a < bKEEP + 0x10000)

/-! ### Engine access (R399 to R404) and fabric records (R438) -/

/-- Bit of a window entry that permits a tag (R400). -/
def tagBit : PTag → Nat | .s => 69 | .d => 70 | .b => 71 | .sys => 72

/-- One window entry passes an access to the line (R401). -/
def winPass (e : BitVec 128) (line : Nat) (t : PTag) (store : Bool) : Bool :=
  let v := e.toNat
  v.testBit 75 && v.testBit (tagBit t) && v.testBit (if store then 74 else 73) &&
    decide (bits v 27 0 ≤ line / 4096) && decide (line / 4096 ≤ bits v 55 28)

/-- Switch count of the table that a work unit started under (R404): a Gallery job's or a vision run's own, the
present one for every other access. -/
def unitGen (s : State) (w : Origin) : Nat :=
  match w.agent with
  | .gallery =>
    (match (tget ({} : Queue) s.gal.queues w.queue).job with
     | some j => if j.seq = w.unit then j.winGen else s.mem.pwinGen
     | none => s.mem.pwinGen)
  | .vision =>
    (match (tget ({} : Graph) s.graphs w.client).run with
     | some r => if r.seq = w.unit then r.winGen else s.mem.pwinGen
     | none => s.mem.pwinGen)
  | _ => s.mem.pwinGen

/-- The window table that governs a work unit: the live one, or an older one it started under (R404). -/
def winTable (s : State) (w : Origin) : Tab (BitVec 128) :=
  match s.mem.pwinOld.find? (fun e => e.1 = unitGen s w) with
  | some e => e.2
  | none => s.mem.pwinLive

/-- Some valid entry covers the line, names its tag and permits its kind (R401). -/
def winOk (s : State) (w : Origin) (line : Nat) (store : Bool) : Bool :=
  (winTable s w).any (fun e => winPass e.2 line w.tag store)

/-- Agent byte of a record (R438). -/
def agentCode : Agent → Nat
  | .core => 0 | .gallery => 1 | .vision => 2 | .camera => 3 | .composition => 4 | .port => 5 | .ethernet => 6 | .pcie => 7
  | .bootStorage => 8

/-- Partition byte of a tag (R438). -/
def ptagCode : PTag → Nat | .s => 0 | .d => 1 | .b => 2 | .sys => 3

/-- The 32 octets of a fabric record (R438). -/
def FabRec.bytes (r : FabRec) : List Byte :=
  leBytes 2 r.cause ++ leBytes 1 r.agent ++ leBytes 1 r.part ++ leBytes 2 r.client ++ leBytes 2 r.queue ++ leBytes 4 r.unit ++
    [0, 0, 0, 0] ++ leBytes 8 r.line ++ leBytes 8 r.mask

/-- Leave a fabric record: the last 64 are kept, all are counted, each is copied into the fault log (R438). -/
def fabFault (s : State) (r : FabRec) : State :=
  logHost { s with mem := { s.mem with fab := (r :: s.mem.fab).take 64, fabCount := wrap32 (s.mem.fabCount + 1) } }
    (mkRec 3 (if r.cause = 2 ∨ r.cause = 3 then 12 else if r.cause = 1 ∨ r.cause = 5 then 23 else 0) r.bytes (part := if r.part = 3 then 0xFF else r.part))

/-- A record of an access by `w`. -/
def fabOf (w : Origin) (cause line mask : Nat) : FabRec :=
  { cause := cause, agent := agentCode w.agent, part := ptagCode w.tag, client := w.client, queue := w.queue, unit := w.unit, line := line, mask := mask }

/-- The originator of the dictionary port's accesses. -/
def portOrigin : Origin := { agent := .port, tag := .sys, client := 0, queue := 0xFFFF, unit := 0 }

/-- The address is mapped: DRAM (R381, R383). -/
def engineMapped (s : State) (a : Nat) : Bool := inDram s a

/-- The lines that `n` octets from `a` touch. -/
def linesOf (a n : Nat) : List Nat :=
  if n = 0 then [] else (List.range ((a + n - 1) / 64 - a / 64 + 1)).map (fun i => (a / 64 + i) * 64)

/-- Cause of an access's failure: none when it passes (R383, R401). -/
def accessCause (s : State) (w : Origin) (line : Nat) (store : Bool) : Option Nat :=
  if !engineMapped s line then some 4
  else if winOk s w line store then none else some (if store then 2 else 3)

/-- Count a line served to a partition in the present period (R405). -/
def countLine (s : State) (t : PTag) (n : Nat) : State :=
  match t with
  | .s => { s with mem := { s.mem with usedS := s.mem.usedS + n } }
  | .d => { s with mem := { s.mem with usedD := s.mem.usedD + n } }
  | .b => { s with mem := { s.mem with usedB := s.mem.usedB + n } }
  | .sys => s

/-- Lines of a store: address, byte mask and the line's octets, zero where the mask is. -/
def lineStores (a : Nat) (l : List Byte) : List (Nat × Nat × List Byte) :=
  (linesOf a l.length).map (fun line =>
    let lo := max a line
    let hi := min (a + l.length) (line + 64)
    (line, (2 ^ (hi - lo) - 1) * 2 ^ (lo - line), fitTo 64 (List.replicate (lo - line) 0 ++ slice l (lo - a) (hi - lo))))

/-- A line is posted to DRAM, or discarded with a record and a late fault (R401, R403, R432, R434, R436). -/
def postStore (s : State) (who : Origin) (line mask : Nat) (data : List Byte) : State × Bool :=
  let s := countLine s who.tag 1
  match accessCause s who line true with
  | some c => (fabFault s (fabOf who c line mask), false)
  | none => ({ s with mem := { s.mem with stores := s.mem.stores ++ [{ who := who, line := line, mask := mask, data := data }] } }, true)

/-- Octets stored by an engine: each line passes or is discarded with a record (R403); a full-line store clears
poison (R417). Answers whether every line passed. -/
def engStore (s : State) (w : Origin) (a : Nat) (data : List Byte) : State × Bool :=
  (linesOf a data.length).foldl
    (fun (acc : State × Bool) line =>
      let lo := max a line
      let hi := min (a + data.length) (line + 64)
      match accessCause acc.1 w line true with
      | some c => (fabFault acc.1 (fabOf w c line ((2 ^ (hi - lo) - 1) * 2 ^ (lo - line))), false)
      | none =>
        let st := dramWrite acc.1 lo (slice data (lo - a) (hi - lo))
        (if hi - lo = 64 then { st with mem := { st.mem with poison := st.mem.poison.filter (· ≠ line) } } else st, acc.2))
    (s, true)

/-- Octets loaded by an engine: a refused line reads zero and leaves a record (R402), a poisoned one returns its data
and leaves a record (R419). Answers the octets, whether every line passed and whether none was poisoned. -/
def engLoad (s : State) (w : Origin) (a n : Nat) : State × List Byte × Bool × Bool :=
  (linesOf a n).foldl
    (fun (acc : State × List Byte × Bool × Bool) line =>
      let lo := max a line
      let hi := min (a + n) (line + 64)
      match accessCause acc.1 w line false with
      | some c => (fabFault acc.1 (fabOf w c line 0), acc.2.1 ++ List.replicate (hi - lo) 0, false, acc.2.2.2)
      | none =>
        if acc.1.mem.poison.contains line then
          (fabFault acc.1 (fabOf w 5 line 0), acc.2.1 ++ dramRead acc.1 lo (hi - lo), acc.2.2.1, false)
        else (acc.1, acc.2.1 ++ dramRead acc.1 lo (hi - lo), acc.2.2.1, acc.2.2.2))
    (s, [], true, true)

/-! ### Grotto (R471) -/

/-- Octets of Grotto.
Log entry 149: DESIGN CHOICE, unsafe. -/
def grottoRead (s : State) (a n : Nat) : List Byte := (List.range n).map (fun i => tget 0 s.mem.grotto ((a + i) % (24 * 2 ^ 20)))

/-- Octets are written to Grotto. -/
def grottoWrite (s : State) (a : Nat) (l : List Byte) : State :=
  { s with mem := { s.mem with grotto := l.zipIdx.foldl (fun t e => tset 0 t ((a + e.2) % (24 * 2 ^ 20)) e.1) s.mem.grotto } }

/-! ### The dictionary port's rings (R258 to R272) -/

/-- Port running: enabled with both sizes in range (R259, R261). -/
def portRunning (s : State) : Bool :=
  let c := reg s (bDP + 0x28)
  c.testBit 0 && decide (4 ≤ bits c 11 8) && decide (bits c 11 8 ≤ 12) && decide (4 ≤ bits c 15 12) && decide (bits c 15 12 ≤ 12)

/-- Size of the D2H ring. -/
def d2hSize (s : State) : Nat := 2 ^ bits (reg s (bDP + 0x28)) 15 12

/-- Entries in the D2H ring that software has not consumed (R260). -/
def d2hUsed (s : State) : Nat := (reg s (bDP + 0x1C) + 65536 - reg s (bDP + 0x18) % 65536) % 65536

/-- A posted port write's frame that ends its transfer (R183, R214). -/
def isPosted (f : Frame) : Bool := f.cls == 3 && f.kind == 1 && f.last && (f.payload.getD 3 0 == 3 || f.payload.getD 3 0 == 6)

/-- Slots reserved for completions of the port's requests under way (R263, R266). -/
def d2hReserved (s : State) : Nat :=
  s.portWaits.length + (s.hostSlots.filter (fun x => x.port.isSome && !x.expired && (!x.req.segment || x.req.last))).length

/-- The D2H ring has a free slot that is not reserved.
Log entry 61: DESIGN CHOICE, unsafe. -/
def d2hFree (s : State) : Bool := decide (d2hUsed s + d2hReserved s < d2hSize s)

/-- A host interrupt is raised (R157, R213).
Log entry 96: DESIGN CHOICE, safe. -/
def hostIrq (s : State) (kind : Nat) : State :=
  wireRise { s with hostInts := kind :: s.hostInts } (if kind = 40 then 40 else (Config.irqSource kind).toNat)

/-- Write a 32-octet entry into the D2H ring and advance DP_D2H_TAIL, with its interrupt when IRQ_EN is set (R259, R265). -/
def d2hPut (s : State) (e : List Byte) : State :=
  let tail := reg s (bDP + 0x1C)
  let r := engStore s portOrigin (reg s (bDP + 0x10) + 32 * (tail % d2hSize s)) (fitTo 32 e)
  let s := setReg r.1 (bDP + 0x1C) ((tail + 1) % 65536)
  if (reg s (bDP + 0x28)).testBit 1 then hostIrq s 4 else s

/-- A late-reject, notice or event entry: dropped with D2H_OVERFLOW when no slot is free (R272). -/
def d2hEvent (s : State) (e : List Byte) : State :=
  if !portRunning s then s
  else if d2hFree s then d2hPut s e
  else setReg s (bDP + 0x2C) (setBit (reg s (bDP + 0x2C)) 3 true)

/-- A D2H entry's octets (R265). -/
def d2hEntry (type op tag index sub status length abort : Nat) (data : List Byte) (offset : Nat) : List Byte :=
  leBytes 1 type ++ leBytes 1 op ++ leBytes 2 tag ++ leBytes 2 index ++ leBytes 1 sub ++ leBytes 1 status ++ leBytes 4 length ++
    leBytes 4 abort ++ fitTo 8 data ++ leBytes 4 offset ++ [0, 0, 0, 0]

/-- A request of the port completes: its reserved slot is written and the counters of 0x2004 advance (R265, R277). -/
def portDone (s : State) (op tag index sub status length abort : Nat) (data : List Byte) (offset : Nat) : State :=
  let s := bump s 0x2004 1
  let s := if abort = 0 then s else bump s 0x2004 2
  if portRunning s then d2hPut s (d2hEntry 1 op tag index sub status length abort data offset) else s

/-- Link notice (R268). -/
def linkNotice (s : State) (code : Nat) : State := d2hEvent s (d2hEntry 4 0 0 0 0 code 0 0 [] 0)

/-- A class-2 record of types 2 to 5 goes into the ring as an event entry (R269). -/
def d2hRecord (s : State) (payload : List Byte) : State :=
  d2hEvent s ([5, 0] ++ slice payload 0 2 ++ slice payload 2 22)

/-- Clock notice of the host clock: sent on class 2 and entered in the ring (R222, R269). -/
def clockNoticeHost (s : State) (old : Nat) : State :=
  let p := leBytes 2 4 ++ [1] ++ leBytes 1 (hclkByte s) ++ leBytes 1 old ++ [0, 0, 0] ++ leBytes 8 s.trep.time ++
    leBytesI 4 (ppb s.hclk.y) ++ [0, 0, 0, 0]
  d2hRecord (ropeSend s .host (mkFrame 2 0 0 p)) p

/-! ### Pins and pulses -/

/-- Drive an output. -/
def drive (s : State) (p : OutPin) (high : Bool) : State :=
  { s with pins := if high then (if s.pins.contains p then s.pins else p :: s.pins) else s.pins.filter (· ≠ p) }

/-! ### Torque-off and reactions (R368, R788, R841, R885 to R888) -/

/-- The axis is in Operation enabled. -/
def enabled (s : State) (a : Nat) : Bool := (ce s a).drive == .operationEnabled

/-- Some axis is in Operation enabled. -/
def anyEnabled (s : State) : Bool := (List.range 8).any (enabled s)

/-- Highest junction temperature of the grade, 0.1 °C (R2). -/
def gradeMax (s : State) : Int := if s.gradeI then 1100 else 1000

/-- Internal STO that a device mechanism holds on every axis (R343, R901 to R903, R1026). -/
def deviceSto (s : State) : Bool := s.saf.halted || s.saf.wdSto || s.saf.tempSto || s.bus.al == .boot

/-- Both channels of STO input `n` high. -/
def stoHigh (s : State) (n : Nat) : Bool := s.saf.ch.getLsbD (2 * n) && s.saf.ch.getLsbD (2 * n + 1)

/-- The axis names STO input `n` in A+0x33:05 (R787). -/
def namesSto (s : State) (a n : Nat) : Bool := (objN s (axA a + 0x33) 5).testBit n

/-- Torque-off by the hardware STO inputs: a low channel or a discrepancy fault of a named input (R787, R791). -/
def stoInputs (s : State) (a : Nat) : Bool :=
  [0, 1].any (fun n => namesSto s a n && (!stoHigh s n || s.saf.discrepancy.getLsbD n))

/-- The safe outputs in force: all zeros outside data state (R365). -/
def safeOutputs (s : State) : BitVec 16 := if objN s 0x1E40 3 = 4 then s.bus.safeOut else 0

/-- The safety connection demands STO on the axis (R363). -/
def safeSto (s : State) (a : Nat) : Bool := !(safeOutputs s).getLsbD a

/-- The safety connection demands SS1 on the axis (R363). -/
def safeSs1 (s : State) (a : Nat) : Bool := (safeOutputs s).getLsbD a && !(safeOutputs s).getLsbD (8 + a)

/-- The axis had torque: Operation enabled, Quick stop active or Fault reaction active. -/
def DriveState.running : DriveState → Bool
  | .operationEnabled => true | .quickStopActive => true | .faultReaction => true | _ => false

/-- FIELD SAFE STANDBY holds internal STO on an axis whose stop has ended (R996). -/
def standbySto (s : State) (a : Nat) : Bool := decide (s.link.outcome = 3) && !(ce s a).drive.running

/-- The axis is in torque-off (R368). -/
def torqueOff (s : State) (a : Nat) : Bool :=
  stoInputs s a || safeSto s a || (ax s a).internalSto || deviceSto s || standbySto s a

/-- The six outputs in trip state 0 or 1 (R771): UH, UL, VH, VL, WH, WL.
Log entry 16: DEDUCED, safe. -/
def tripOuts (lowOn : Bool) : List Bool := [false, lowOn, false, lowOn, false, lowOn]

/-- Every command of the FIFO is flushed and an executing one ends on the 0x6084 ramp (R847). -/
def flushFifo (s : State) (a : Nat) : State :=
  let c := ce s a
  setCe s a { c with fifo := [], exec := none, dwelling := false,
                     setp := if c.exec.isSome then .stopping else c.setp,
                     stopFast := if c.exec.isSome then false else c.stopFast }

/-- Integrators and FIFO clear; the set-point is held at the actual position (R812, R853).
Log entry 22: DEDUCED, unsafe. -/
def axisClear (s : State) (a : Nat) : State :=
  let c := ce s a
  setCe s a { c with iV := 0, iD := 0, iQ := 0, fifo := [], exec := none, dwelling := false, pSet := c.pAct, vSet := 0, aSet := 0,
                     setp := .idle, still := 0, ppNext := none, homing := false, pushNs := 0, errNs := 0 }

/-- The trip path places the axis in torque-off: trip state 0, F_GDENn low, STO latch set (R789); an axis that had
torque enters Fault (R841). -/
def tripSto (s : State) (a : Nat) (internal : Bool) : State :=
  let m := ax s a
  let s := setAx s a { m with sto := true, internalSto := m.internalSto || internal, driving := false, gden := false, outs := tripOuts false }
  if (ce s a).drive.running then
    let s := axisClear s a
    setCe s a { ce s a with drive := .fault }
  else s

/-- Internal STO on every axis, from a device mechanism (R886). -/
def stoAll (s : State) : State := (List.range 8).foldl (fun s a => tripSto s a true) s

/-- Strictness order of reactions: NONE, WARN, DEGRADE, HOLD, SS1, STO (R841). -/
def Reaction.rank : Reaction → Nat
  | .none => 0 | .warn => 1 | .degrade => 2 | .hold => 3 | .ss1 => 4 | .sto => 5

/-- Reaction of a code: 0 NONE, 1 WARN, 2 HOLD, 3 DEGRADE, 4 SS1, 5 STO (0x3A10:02, R223). -/
def reactionOf (n : Nat) : Reaction :=
  if n = 1 then .warn else if n = 2 then .hold else if n = 3 then .degrade else if n = 4 then .ss1 else if n = 5 then .sto else .none

/-- Code of a reaction (R223). -/
def Reaction.code : Reaction → Nat
  | .none => 0 | .warn => 1 | .hold => 2 | .degrade => 3 | .ss1 => 4 | .sto => 5

/-- What a reaction does to one axis (R841); an axis without torque takes none (R885), and a weaker reaction than the
one in force changes nothing (R841, R900). -/
def reactAxis (s : State) (a : Nat) (r : Reaction) : State :=
  let c := ce s a
  if !c.drive.running || decide (r.rank ≤ c.reaction.rank) then s
  else
    match r with
    | .none => s
    | .warn => setCe s a { c with reaction := .warn, warn := true }
    | .degrade => setCe s a { c with reaction := .degrade }
    | .hold =>
      let s := flushFifo s a
      setCe s a { ce s a with reaction := .hold, drive := .quickStopActive, setp := .stopping, stopFast := true, homing := false }
    | .ss1 =>
      let s := flushFifo s a
      setCe s a { ce s a with reaction := .ss1, drive := .faultReaction, setp := .stopping, stopFast := true, still := 0, ss1At := s.fclk.ticks, homing := false }
    | .sto => tripSto (setCe s a { c with reaction := .sto }) a true

/-- A mechanism starts a reaction on the axes of a mask: each axis by R841, the mechanism in 0x3440:02 (R888), the
emergency when it has one, and a TYPE 0x0007 record (R893). A halted firmware runs none (R859). -/
def startReaction (s : State) (r : Reaction) (mask mech : Nat) (code : Option Nat := none) (detail : Nat := 0)
    (axis : Nat := 0xFF) (part : Nat := 0xFF) (tag : Nat := 0) : State :=
  if !fieldUp s then s
  else
    let s := match code with | some c => emcy s c axis detail | none => s
    if r = .none then s
    else
      let s := (bitList mask 8).foldl (fun s a => reactAxis s a r) s
      let s := putN s 0x3440 2 mech
      logField s (mkRec 7 mech (leBytes 1 mask ++ leBytes 1 r.code ++ leBytes 2 (code.getD 0)) axis part tag r.code)

end Sys2Proof.Machine
end

