-- ==== Sys2Proof/Machine/Kv.lean ====
section
/-! DEFINITION. The key-value cache (chapter 13): pools, sequences, page tables, batches, appends and victims. -/

namespace Sys2Proof.Machine

/-! ### Geometry of a pool (R660 to R667, R673, R687) -/

/-- Pool `p`. -/
def pool (s : State) (p : Nat) : Pool := tget {} s.kv.pools p

/-- Replace pool `p`. -/
def setPool (s : State) (p : Nat) (x : Pool) : State := { s with kv := { s.kv with pools := tset {} s.kv.pools p x } }

/-- Sequence `q` of pool `p`. -/
def kvSeq (s : State) (p q : Nat) : KvSeq := tget {} (pool s p).seqs q

/-- Replace a sequence. -/
def setSeq (s : State) (p q : Nat) (x : KvSeq) : State := setPool s p { pool s p with seqs := tset {} (pool s p).seqs q x }

/-- Page-table entry `i` of pool `p`. -/
def kvPte (s : State) (p i : Nat) : Pte := tget {} (pool s p).ptes i

/-- Replace a page-table entry. -/
def setPte (s : State) (p i : Nat) (x : Pte) : State := setPool s p { pool s p with ptes := tset {} (pool s p).ptes i x }

/-- An object of a pool's settings. -/
def poolN (s : State) (p sub : Nat) : Nat := objN s (0x2A00 + p) sub

/-- Mode of a pool: 0 RESERVED, 1 DROP_RECOMPUTE, 2 SPILL_PREFETCH (R661). -/
def poolMode (s : State) (p : Nat) : Nat := poolN s p 2

/-- Page size, octets (R662). -/
def pageSize (s : State) (p : Nat) : Nat := 2 ^ poolN s p 4

/-- Tokens of a page (R662). -/
def tpp (s : State) (p : Nat) : Nat := pageSize s p / max 1 (poolN s p 5)

/-- Pages that the pool's header fills (R663). -/
def headerPages (s : State) (p : Nat) : Nat :=
  (8 * poolN s p 6 + 32 * poolN s p 7 + 256 * poolN s p 8 + pageSize s p - 1) / pageSize s p

/-- Frames of a pool: the pages of its banks behind the header (R663). -/
def frameCount (s : State) (p : Nat) : Nat := popCount (poolN s p 3) 24 * 2 ^ 23 / pageSize s p - headerPages s p

/-- Bucket limits, ended by a zero (R673). -/
def buckets (s : State) (p : Nat) : List Nat :=
  ((List.range 8).map (fun i => fieldN (stored s (0x2A00 + p) 0x0B) (4 * i) 4)).takeWhile (· ≠ 0)

/-- Partition of a pool: the one whose bank mask holds its banks (R660). -/
def poolPart (s : State) (p : Nat) : Nat :=
  let m := poolN s p 3
  if m ≠ 0 ∧ m &&& objN s 0x2801 1 = m then 0 else if m ≠ 0 ∧ m &&& objN s 0x2801 2 = m then 1 else 2

/-- Frames in use. -/
def usedFrames (s : State) (p : Nat) : List Nat :=
  (pool s p).ptes.filterMap (fun e => if e.2.valid && (e.2.loc == .cavern || e.2.loc == .moving) then some e.2.frame else none)

/-- The free list, ascending. -/
def freeFrames (s : State) (p : Nat) : List Nat :=
  let u := usedFrames s p
  (List.range (frameCount s p)).filter (fun f => !u.contains f)

/-- Free Sump slots, ascending. -/
def freeSump (s : State) (p : Nat) : List Nat :=
  let u := (pool s p).ptes.filterMap (fun e => if e.2.valid && (e.2.loc == .sump || e.2.loc == .moving) then some e.2.sump else none)
  (List.range (poolN s p 0x0A)).filter (fun f => !u.contains f)

/-- Page-table entries of a sequence. -/
def seqPtes (x : KvSeq) : List Nat := (List.range x.maxPages).map (fun i => x.firstPte + i)

/-- The entry that holds the token at an absolute position (R666). -/
def pteOf (s : State) (p : Nat) (x : KvSeq) (t : Nat) : Nat := x.firstPte + (t / max 1 (tpp s p)) % max 1 x.maxPages

/-- Sequences in a state. -/
def seqCount (s : State) (p : Nat) (f : KvSeq → Bool) : Nat := ((pool s p).seqs.filter (fun e => f e.2)).length

/-! ### Cavern and the pages in it (R576, R578, R589, R663, R666) -/

/-- Octets of Cavern. -/
def cavRead (s : State) (a n : Nat) : List Byte := (List.range n).map (fun i => tget 0 s.gal.cavern (a + i))

/-- The 64-bit words that `n` octets from `a` touch. -/
def cavWords (a n : Nat) : List Nat := if n = 0 then [] else (List.range ((a + n - 1) / 8 - a / 8 + 1)).map (fun i => a / 8 + i)

/-- Some word of the range is poisoned (R589). -/
def cavPoisoned (s : State) (a n : Nat) : Bool := (cavWords a n).any (fun w => s.gal.poison.contains w)

/-- Octets are stored in Cavern; a full store of a poisoned word heals it (R589). -/
def cavWrite (s : State) (a : Nat) (l : List Byte) : State :=
  { s with gal := { s.gal with
    cavern := l.zipIdx.foldl (fun t e => tset 0 t (a + e.2) e.1) s.gal.cavern
    poison := s.gal.poison.filter (fun w => !(decide (a ≤ 8 * w) && decide (8 * w + 8 ≤ a + l.length))) } }

/-- Octet `i` of a pool's banks, the lowest-numbered first (R663). -/
def poolAt (s : State) (p i : Nat) : Nat := lget 0 (bitList (poolN s p 3) 24) (i / 2 ^ 23) * 2 ^ 23 + i % 2 ^ 23

/-- Cavern address of a frame (R663). -/
def frameAt (s : State) (p f : Nat) : Nat := poolAt s p ((headerPages s p + f) * pageSize s p)

/-- Cavern address of the record of the token at a position; none while its page is not in Cavern (R666). -/
def tokenAt (s : State) (p : Nat) (x : KvSeq) (t : Nat) : Option Nat :=
  let e := kvPte s p (pteOf s p x t)
  if e.valid && e.loc == .cavern then some (frameAt s p e.frame + t % max 1 (tpp s p) * poolN s p 5) else none

/-! ### Commands (R668, R669, R686) -/

/-- The result of a KV command.
Log entry 31: DEDUCED, unsafe. -/
def kvResult (s : State) (r : Nat) : State := setReg { s with kv := { s.kv with result := r } } (bGAL + 0x8018) (r * 16)

/-- First run of `n` free page-table entries (R668). -/
def pteRun (s : State) (p n : Nat) : Option Nat :=
  (List.range (poolN s p 6 + 1 - n)).find? (fun f => (List.range n).all (fun i => !(kvPte s p (f + i)).valid))

/-- Entries from `f` on are assigned: in RESERVED mode each with a frame. -/
def assignPtes (s : State) (p f : Nat) (frames : List (Option Nat)) : State :=
  ((List.range frames.length).zip frames).foldl
    (fun s e => setPte s p (f + e.1) (match e.2 with
      | some k => { valid := true, loc := .cavern, frame := k, sump := 0 }
      | none => { valid := true, loc := .nowhere, frame := 0, sump := 0 })) s

/-- OPEN (R668, R669). -/
def kvOpenSeq (s : State) (p q : Nat) : State :=
  let arg := reg s (bGAL + 0x8014)
  let n := bits arg 15 0
  if (kvSeq s p q).mode ≠ .free then kvResult s 1
  else if !objB s (0x2A00 + p) 1 || decide (poolN s p 7 ≤ q) || decide (n = 0) || decide ((buckets s p).getLast?.getD 0 < n * tpp s p) then kvResult s 5
  else
    match pteRun s p n with
    | none => kvResult s 3
    | some f =>
      let fr := freeFrames s p
      if poolMode s p = 0 ∧ fr.length < n then kvResult s 4
      else
        let s := assignPtes s p f (if poolMode s p = 0 then (fr.take n).map some else List.replicate n none)
        kvResult (setSeq s p q { mode := .opened, wrap := arg.testBit 16, maxPages := n, firstPte := f }) 0

/-- The pages of a sequence leave their frames and Sump slots. -/
def dropPages (s : State) (p : Nat) (x : KvSeq) (keep : Bool) : State :=
  (seqPtes x).foldl (fun s i => setPte s p i (if keep then { kvPte s p i with loc := .nowhere, frame := 0, sump := 0 } else {})) s

/-- CLOSE. -/
def kvCloseSeq (s : State) (p q : Nat) : State :=
  let x := kvSeq s p q
  if x.mode = .free then kvResult s 1
  else if x.users ≠ 0 then kvResult s 2
  else kvResult (setSeq (dropPages s p x false) p q {}) 0

/-- PIN and UNPIN. -/
def kvPinSeq (s : State) (p q : Nat) (on : Bool) : State :=
  let x := kvSeq s p q
  if x.mode ≠ .opened then kvResult s 1 else kvResult (setSeq s p q { x with pin := on }) 0

/-- RESET (R668). -/
def kvResetSeq (s : State) (p q : Nat) : State :=
  let x := kvSeq s p q
  if x.mode = .free ∨ x.mode = .lost then kvResult s 1
  else if x.users ≠ 0 then kvResult s 2
  else
    let s := if poolMode s p = 0 then s else dropPages s p x true
    kvResult (setSeq s p q { x with mode := .opened, length := 0, start := 0, full := false, spilled := false }) 0

/-- The originator of spills and prefetches (R683). -/
def sumpOrigin : Origin := { agent := .gallery, tag := .b, client := 0, queue := 0xFFFF, unit := 0 }

/-- Address of a Sump slot (R666). -/
def sumpAddr (s : State) (p k : Nat) : Nat := poolN s p 9 + k * pageSize s p

/-- One Sump page comes back into a frame; false when its load was refused or poisoned (R684, R691). -/
def prefetchPage (s : State) (p i frame : Nat) : State × Bool :=
  let e := kvPte s p i
  let r := engLoad s sumpOrigin (sumpAddr s p e.sump) (pageSize s p)
  if r.2.2.1 && r.2.2.2 then
    (bump (setPte (cavWrite r.1 (frameAt s p frame) r.2.1) p i { e with loc := .cavern, frame := frame, sump := 0 }) (0x2A10 + p) 8, true)
  else (r.1, false)

/-- Entries of a sequence that lie in Sump. -/
def sumpPtes (s : State) (p : Nat) (x : KvSeq) : List Nat :=
  (seqPtes x).filter (fun i => (kvPte s p i).valid && (kvPte s p i).loc == .sump)

/-- Every Sump page of a sequence comes back, as far as frames reach: answers whether none failed. A failed page makes
the sequence LOST (R691). -/
def prefetchSeq (s : State) (p q : Nat) : State × Bool :=
  let x := kvSeq s p q
  let l := (sumpPtes s p x).zip (freeFrames s p)
  let r := l.foldl (fun (acc : State × Bool) e =>
    if acc.2 then prefetchPage acc.1 p e.1 e.2 else acc) (s, true)
  if !r.2 then (setSeq r.1 p q { kvSeq r.1 p q with mode := .lost }, false)
  else if (seqPtes x).all (fun i => (kvPte r.1 p i).loc != .sump && (kvPte r.1 p i).loc != .moving) then (setSeq r.1 p q { kvSeq r.1 p q with spilled := false }, true)
  else (r.1, true)

/-- PREFETCH: no frame for every page is result 4.
Log entry 31: DEDUCED, unsafe. -/
def kvPrefetchSeq (s : State) (p q : Nat) : State :=
  let x := kvSeq s p q
  if x.mode ≠ .opened ∨ x.spilled = false then kvResult s 1
  else if (freeFrames s p).length < (sumpPtes s p x).length then kvResult s 4
  else kvResult (prefetchSeq s p q).1 0

/-! ### The window (R686) -/

/-- Code of a page location (R665). -/
def PageLoc.code : PageLoc → Nat
  | .cavern => 0 | .sump => 1 | .moving => 2 | .nowhere => 3

/-- A page-table entry as 64 bits (R665). -/
def Pte.word (e : Pte) : Nat := b2n e.valid * 2 ^ 63 + e.loc.code * 2 ^ 61 + e.frame % 65536 * 2 ^ 24 + e.sump % 2 ^ 24

/-- Code of a sequence state (R667). -/
def SeqMode.code : SeqMode → Nat
  | .free => 0 | .opened => 1 | .dropped => 2 | .lost => 3

/-- A sequence record's octets (R667). -/
def KvSeq.bytes (x : KvSeq) : List Byte :=
  leBytes 1 x.mode.code ++ leBytes 1 (b2n x.pin + 2 * b2n x.wrap + 4 * b2n x.full + 8 * b2n x.spilled) ++ leBytes 2 x.maxPages ++
    leBytes 4 x.firstPte ++ leBytes 4 x.length ++ leBytes 4 x.start ++ leBytes 8 x.lastUse ++ leBytes 2 x.users ++ List.replicate 6 0

/-- The 8 octets at a place of a pool's header. -/
def winWord (s : State) (p area off : Nat) : Nat :=
  if area = 0 then (kvPte s p (off / 8)).word
  else if area = 1 then fieldN (kvSeq s p (off / 32)).bytes (off % 32) 8
  else if area = 2 then (tget 0 (pool s p).batch (off / 8)).toNat
  else 0

/-- The bits of the 64-bit word at an offset of the batch area that are not reserved (R8, R670): COUNT, and of each entry the sequence,
APPEND and BUCKET. -/
def batchKept (off : Nat) : Nat := if off % 256 = 0 then 0x87FF1FFF000000FF else 0x87FF1FFF87FF1FFF

/-- An access to KV_WIN_DATA: each advances the offset by 8, and writes take effect only in the batch area. -/
def winAccess (s : State) (w : Option Nat) : State :=
  let sel := reg s (bGAL + 0x8000)
  let p := bits sel 31 30
  let area := bits sel 29 28
  let off := bits sel 23 0 / 8 * 8
  let s := { s with kv := { s.kv with winRead := BitVec.ofNat 64 (winWord s p area off) } }
  let s := match w with
    | some v => if area = 2 then setPool s p { pool s p with batch := tset 0 (pool s p).batch (off / 8) (BitVec.ofNat 64 v &&& BitVec.ofNat 64 (batchKept off)) } else s
    | none => s
  setReg s (bGAL + 0x8000) (setBits sel 23 0 (off + 8))

/-! ### Batches (R670 to R673) -/

/-- Octet `i` of a pool's batch area. -/
def batchByte (s : State) (p i : Nat) : Nat := (tget 0 (pool s p).batch (i / 8)).toNat / 256 ^ (i % 8) % 256

/-- Write an octet of the batch area. -/
def setBatchByte (s : State) (p i v : Nat) : State :=
  let w := (tget 0 (pool s p).batch (i / 8)).toNat
  setPool s p { pool s p with batch := tset 0 (pool s p).batch (i / 8) (BitVec.ofNat 64 (setBits w (8 * (i % 8) + 7) (8 * (i % 8)) v)) }

/-- Entries of batch `b`: place, sequence, tokens to append. -/
def batchEntries (s : State) (p b : Nat) : List (Nat × Nat × Nat) :=
  (List.range (min 63 (batchByte s p (256 * b)))).map (fun i =>
    let at_ := 256 * b + 4 + 4 * i
    (at_, (batchByte s p at_ + 256 * batchByte s p (at_ + 1)) % 8192, batchByte s p (at_ + 2)))

/-- Where one more token goes: LENGTH, START, tokens refused and wraps after `n` appends (R678). -/
def appendRun (maxPages k : Nat) (wrap : Bool) : Nat → Nat × Nat × Nat × Nat → Nat × Nat × Nat × Nat
  | 0, r => r
  | n + 1, (len, start, ref, wr) =>
    if len < maxPages * k + start then appendRun maxPages k wrap n (len + 1, start, ref, wr)
    else if wrap then appendRun maxPages k wrap n (len + 1, start + k, ref, wr + 1)
    else appendRun maxPages k wrap n (len, start, ref + 1, wr)

/-- Outcome of appending `n` tokens to a sequence. -/
def appended (s : State) (p : Nat) (x : KvSeq) (n : Nat) : Nat × Nat × Nat × Nat :=
  appendRun x.maxPages (tpp s p) x.wrap n (x.length, x.start, 0, 0)

/-- Bucket of an entry: the smallest limit at or above its attended length after its appends (R673). -/
def bucketOf (s : State) (p len : Nat) : Nat := ((buckets s p).findIdx? (fun l => decide (len ≤ l))).getD 7

/-- Page-table entries that an entry's job needs in Cavern and that hold no frame: those of its new tokens, and of all
its tokens when it is to be recomputed (R680, R682). -/
def pagesNeeded (s : State) (p : Nat) (x : KvSeq) (n : Nat) : List Nat :=
  let r := appended s p x n
  let from_ := if x.mode = .dropped then r.2.1 else x.length
  let k := max 1 (tpp s p)
  let pages := (List.range (r.1 / k + 1 - from_ / k)).map (fun i => pteOf s p x ((from_ / k + i) * k))
  if r.1 ≤ from_ then []
  else (pages.take ((r.1 - 1) / k + 1 - from_ / k)).eraseDups.filter (fun i => (kvPte s p i).loc == .nowhere)

/-! ### Victims (R680, R681, R683) -/

/-- Sequences that may be victims: OPEN, not pinned, unused, not in the batch, holding frames; oldest use first. -/
def victims (s : State) (p : Nat) (batch : List Nat) : List Nat :=
  let c := (pool s p).seqs.filter (fun e =>
    decide (e.2.mode = .opened) && !e.2.pin && decide (e.2.users = 0) && !batch.contains e.1 &&
      (seqPtes e.2).any (fun i => (kvPte s p i).loc == .cavern) &&
      (decide (poolMode s p ≠ 2) ||
        decide (((seqPtes e.2).filter (fun i => (kvPte s p i).loc == .cavern)).length ≤ (freeSump s p).length)))
  (c.mergeSort (fun x y => decide (x.2.lastUse < y.2.lastUse) || (decide (x.2.lastUse = y.2.lastUse) && decide (x.1 ≤ y.1)))).map (fun e => e.1)

/-- A victim of mode 1 is dropped (R681). -/
def dropVictim (s : State) (p q : Nat) : State :=
  let x := kvSeq s p q
  bump (setSeq (dropPages s p x true) p q { x with mode := .dropped }) (0x2A10 + p) 5

/-- Pages that are on their way to Sump. -/
def movingPages (s : State) (p : Nat) : Nat := ((pool s p).ptes.filter (fun e => e.2.valid && e.2.loc == .moving)).length

/-- The stores that carry one page to Sump: the entry stands in the originator's work unit. -/
def spillOrigin (p i : Nat) : Origin := { sumpOrigin with unit := p * 65536 + i }

/-- A page starts to move to a Sump slot: its lines are posted; a refused line leaves it in its frame (R683). -/
def spillPage (s : State) (p i slot : Nat) : State :=
  let e := kvPte s p i
  let r := (lineStores (sumpAddr s p slot) (cavRead s (frameAt s p e.frame) (pageSize s p))).foldl
    (fun (acc : State × Bool) l => let x := postStore acc.1 (spillOrigin p i) l.1 l.2.1 l.2.2; (x.1, acc.2 && x.2)) (s, true)
  if r.2 then setPte r.1 p i { e with loc := .moving, sump := slot } else r.1

/-- A victim of mode 2 starts to spill page by page; without a Sump slot for each page it is no victim, and one with an uncorrectable
word in a page is lost (R683, R690).
Log entry 30: DEDUCED, unsafe. -/
def spillVictim (s : State) (p q : Nat) : State :=
  let x := kvSeq s p q
  let l := (seqPtes x).filter (fun i => (kvPte s p i).loc == .cavern)
  if l.any (fun i => cavPoisoned s (frameAt s p (kvPte s p i).frame) (pageSize s p)) then setSeq s p q { x with mode := .lost }
  else if (freeSump s p).length < l.length then s
  else (l.zip (freeSump s p)).foldl (fun s e => spillPage s p e.1 e.2) s

/-- The last store of a moving page is accepted: its frame is free, its sequence is SPILLED (R683). -/
def spillTaken (s : State) (u : Nat) : State :=
  let p := u / 65536
  let i := u % 65536
  let e := kvPte s p i
  if !(e.valid && e.loc == .moving) || s.mem.stores.any (fun k => k.who == spillOrigin p i) then s
  else
    let s := bump (setPte s p i { e with loc := .sump, frame := 0 }) (0x2A10 + p) 7
    setPool s p { pool s p with seqs := (pool s p).seqs.map (fun q => (q.1, if (seqPtes q.2).contains i then { q.2 with spilled := true } else q.2)) }

/-- Victims are taken until `n` frames are free, or will be when the pages on their way have left. -/
def makeRoom (s : State) (p n : Nat) : List Nat → State
  | [] => s
  | q :: t =>
    if n ≤ (freeFrames s p).length + movingPages s p then s
    else makeRoom (if poolMode s p = 1 then dropVictim s p q else spillVictim s p q) p n t

/-- Every sequence of the list comes back from Sump, stopping at the first failed page (R684, R691).
Log entry 30: DEDUCED, unsafe. -/
def bringBack (s : State) (p : Nat) (l : List Nat) : State × Bool :=
  l.foldl (fun (acc : State × Bool) q => if acc.2 then prefetchSeq acc.1 p q else acc) (s, true)

/-- Outcome of a job's KV release. -/
inductive KvRelease where
  | ready | waiting | bad | fault
  deriving DecidableEq, Repr

/-- The frames a batch needs are taken, or the job waits, also while a page of its sequences is still being spilled (R680, R684,
R685, R689). -/
def kvTakeFrames (s : State) (queue p b : Nat) : State × KvRelease :=
  let es := batchEntries s p b
  let seqs := es.map (fun e => e.2.1)
  if poolMode s p = 0 then (s, .ready)
  else
    let back := (seqs.eraseDups.map (fun q => (sumpPtes s p (kvSeq s p q)).length)).foldl (· + ·) 0
    let need := (es.map (fun e => pagesNeeded s p (kvSeq s p e.2.1) e.2.2)).flatten.eraseDups
    let s := makeRoom s p (need.length + back) (victims s p seqs)
    if (freeFrames s p).length < need.length + back || seqs.any (fun q => (seqPtes (kvSeq s p q)).any (fun i => (kvPte s p i).loc == .moving)) then (s, .waiting)
    else
      let r := if poolMode s p = 2 then bringBack s p seqs.eraseDups else (s, true)
      if !r.2 then (r.1, .fault)
      else
        let got := need.zip (freeFrames r.1 p)
        let s := got.foldl (fun s e => setPte s p e.1 { kvPte s p e.1 with loc := .cavern, frame := e.2 }) r.1
        let pend := s.kv.pending.map (fun k =>
          if k.queue = queue ∧ k.pool = p then
            { k with frames := got.filter (fun e => (seqPtes (kvSeq s p k.seq)).contains e.1) } else k)
        ({ s with kv := { s.kv with pending := pend } }, .ready)

/-- A KV-using job is released: sequences are named, buckets written, frames taken (R672, R680 to R685). -/
def kvRelease (s : State) (queue p b : Nat) : State × KvRelease :=
  let es := batchEntries s p b
  if es.any (fun e => decide ((kvSeq s p e.2.1).mode = .free) || decide ((kvSeq s p e.2.1).mode = .lost)) then (s, .bad)
  else
    let s := es.foldl (fun s e =>
      let x := kvSeq s p e.2.1
      let r := appended s p x e.2.2
      let s := setSeq s p e.2.1 { x with users := x.users + 1 }
      setBatchByte s p (e.1 + 3) (bucketOf s p (r.1 - r.2.1) + 128 * b2n (decide (x.mode = .dropped)))) s
    let pend : List KvPending := es.map (fun e =>
      let x := kvSeq s p e.2.1
      { queue := queue, pool := p, seq := e.2.1, append := e.2.2, length := x.length, start := x.start, recompute := decide (x.mode = .dropped), frames := [] })
    kvTakeFrames { s with kv := { s.kv with pending := s.kv.pending ++ pend } } queue p b

/-- The token records of a job reach the pages of their sequence (R675, R676). -/
def kvStoreTokens (s : State) (k : KvPending) (tokens : List (Nat × Nat × List Byte)) : State :=
  (tokens.filter (fun e => e.1 = k.seq)).foldl
    (fun s e => match tokenAt s k.pool (kvSeq s k.pool k.seq) e.2.1 with | some a => cavWrite s a e.2.2 | none => s) s

/-- The appends a job holds commit (R676, R678, R682).
Log entry 31: DEDUCED, unsafe. -/
def kvCommitOne (s : State) (k : KvPending) (tokens : List (Nat × Nat × List Byte)) : State :=
  let s := kvStoreTokens s k tokens
  let x := kvSeq s k.pool k.seq
  let r := appended s k.pool { x with length := k.length, start := k.start } k.append
  let s := bump (bump s (0x2A10 + k.pool) 9 r.2.2.1) (0x2A10 + k.pool) 0x0A r.2.2.2
  let s := if k.recompute ∧ x.mode = .dropped then bump s (0x2A10 + k.pool) 6 else s
  setSeq s k.pool k.seq { x with length := r.1, start := r.2.1, full := x.full || decide (0 < r.2.2.1), lastUse := s.trep.time, users := x.users - 1,
                                 mode := if k.recompute ∧ x.mode = .dropped then .opened else x.mode }

/-- The appends a job holds are discarded: the frames they took return to the free list (R677). -/
def kvDiscardOne (s : State) (k : KvPending) : State :=
  let s := k.frames.foldl (fun s e => setPte s k.pool e.1 { kvPte s k.pool e.1 with loc := .nowhere, frame := 0 }) s
  let x := kvSeq s k.pool k.seq
  setSeq s k.pool k.seq { x with users := x.users - 1 }

/-- A job ends: its appends, with the token records of the primary copy, commit at DONE and are discarded otherwise. -/
def kvEnd (s : State) (queue : Nat) (ok : Bool) (tokens : List (Nat × Nat × List Byte)) : State :=
  let mine := s.kv.pending.filter (fun k => k.queue = queue)
  let s := mine.foldl (fun s k => if ok then kvCommitOne s k tokens else kvDiscardOne s k) s
  { s with kv := { s.kv with pending := s.kv.pending.filter (fun k => k.queue ≠ queue) } }

/-- The sequences of a job become LOST: an uncorrectable word in one of their pages (R690). -/
def kvLose (s : State) (queue : Nat) : State :=
  (s.kv.pending.filter (fun k => k.queue = queue)).foldl
    (fun s k => setSeq s k.pool k.seq { kvSeq s k.pool k.seq with mode := .lost }) s

end Sys2Proof.Machine
end

