-- ==== Sys2Proof/Machine/Jobs.lean ====
section
/-! DEFINITION. Grotto flags with their stamps, and the life of a Gallery job outside the cores: waits, release, results,
completion records (chapters 10 and 12). -/

namespace Sys2Proof.Machine

/-! ### Grotto flags (R474, R475, R526 to R529) -/

/-- Flag `f` of Grotto. -/
def flag (s : State) (f : Nat) : Flag := tget {} s.flags f

/-- Replace flag `f`. -/
def setFlag (s : State) (f : Nat) (x : Flag) : State := { s with flags := tset {} s.flags f x }

/-- A stamp of the present replica position and time (R459, R462). -/
def stampNow (s : State) (tag : Nat) (fs : Bool) : Stamp :=
  { position := replicaPos s, time := s.trep.time, tag := tag, pstate := s.replica.pstate, stepped := s.trep.stepped,
    invalid := s.trep.stampInvalid, fs := fs, noStamp := false }

/-- A release lowers the hold count of a VALID buffer or copy; at zero it becomes FREE. Its flag stays set until it
enters FILLING again (R475, R477, R528). Any other release changes nothing and is counted (R529). -/
def flagRelease (s : State) (f : Nat) : State :=
  let x := flag s f
  if x.mode ≠ .valid ∨ x.hold = 0 then bump s 0x2620 2
  else setFlag s f { x with hold := x.hold - 1, mode := if x.hold = 1 then .free else x.mode }

/-! ### Queues and clients (R595, R596, R599, R647) -/

/-- State of queue `q`. -/
def que (s : State) (q : Nat) : Queue := tget {} s.gal.queues q

/-- Replace the state of queue `q`. -/
def setQue (s : State) (q : Nat) (x : Queue) : State := { s with gal := { s.gal with queues := tset {} s.gal.queues q x } }

/-- Replace the head job of queue `q`. -/
def setJob (s : State) (q : Nat) (j : Job) : State := setQue s q { que s q with job := some j }

/-- Register of a queue page (R599). -/
def nqReg (q off : Nat) : Nat := bNQ + 4096 * q + off

/-- Client of a queue (R595). -/
def queueClient (s : State) (q : Nat) : Nat := objN s (0x2840 + q / 128) (q % 128 + 1)

/-- Settings of a queue: [0] enable, [1] unit, [2] drop expired, [3] duplicate (R647). -/
def queueSettings (s : State) (q : Nat) : Nat := objN s (0x2860 + q / 128) (q % 128 + 1)

/-- Partition of a client: 0 S, 1 D, 2 B. -/
def clientPart (s : State) (c : Nat) : Nat := objN s (0x2810 + c / 128) (c % 128 + 1)

/-- The client accounts in full mode (R636). -/
def clientFull (s : State) (c : Nat) : Bool := decide (objN s (0x2812 + c / 128) (c % 128 + 1) = 1)

/-- Slot bound to a client, 0xFF none. -/
def clientSlot (s : State) (c : Nat) : Nat := objN s (0x2814 + c / 128) (c % 128 + 1)

/-- Tag of a partition code. -/
def partTag (p : Nat) : PTag := if p = 0 then .s else if p = 1 then .d else .b

/-- The originator of a job's accesses (R596). -/
def jobOrigin (q : Nat) (j : Job) : Origin :=
  { agent := .gallery, tag := partTag j.part, client := j.client, queue := q, unit := j.seq }

/-- Model slot `n`. -/
def mslot (s : State) (n : Nat) : Slot := tget {} s.gal.slots n

/-- Replace model slot `n`. -/
def setSlot (s : State) (n : Nat) (x : Slot) : State := { s with gal := { s.gal with slots := tset {} s.gal.slots n x } }

/-- Tensor core `i`. -/
def core' (s : State) (i : Nat) : Core := tget {} s.gal.cores i

/-- Replace tensor core `i`. -/
def setCore (s : State) (i : Nat) (x : Core) : State := { s with gal := { s.gal with cores := tset {} s.gal.cores i x } }

/-- The cores a job holds become free. -/
def freeCores (s : State) (q : Nat) : State :=
  (List.range 8).foldl (fun s i => if (core' s i).busy.any (fun b => b.1 == q) then setCore s i { core' s i with busy := none } else s) s

/-! ### Results (R182, R616 to R618) -/

/-- The payload of R182. -/
def mirrorBytes (m : MirrorMsg) : List Byte :=
  leBytes 2 m.mtype.toNat ++ leBytes 2 m.rtag.toNat ++ [m.part, m.flags, 0, 0] ++ leBytesI 8 m.capPos ++ leBytes 8 m.capTime ++
    leBytes 8 m.target.toNat ++ leBytes 16 m.body.toNat ++ leBytes 8 m.result.toNat

/-- A stamp for a job that never took one. -/
def noStampYet (s : State) : Stamp := { stampNow s 0 true with invalid := true }

/-- The message of a job with MTYPE `t` (R617, R618). -/
def jobMessage (s : State) (j : Job) (t : Nat) (result : BitVec 64) : MirrorMsg :=
  let st := j.stamp.getD (noStampYet s)
  let target : Int :=
    if t = 1 then (st.position / 256 + j.desc.delta) * 256
    else if t = 2 ∧ j.desc.delta ≠ 0 then (st.time : Int) + j.desc.delta else 0
  { mtype := BitVec.ofNat 16 t, rtag := BitVec.ofNat 16 j.desc.rtag, part := BitVec.ofNat 8 j.part,
    flags := BitVec.ofNat 8 (b2n st.stepped + 2 * b2n st.invalid + 4 * b2n (j.flags.testBit 5)),
    capPos := wrap56 st.position, capTime := st.time, target := BitVec.ofInt 64 target, body := j.desc.body, result := result }

/-- At DONE the job's result goes out: a class-5 result, or a class-0 message when EMIT is 2 and ACT is 1 (R616). A lost
field die gets nothing (R46, R651); under INCOMPATIBLE EMIT is ignored (R995). -/
def emitResult (s : State) (j : Job) (result : BitVec 64) : State × Bool :=
  let e := j.desc.emit % 4
  if e = 0 ∨ s.link.hostOutcome = 3 ∨ s.hend.lost then (s, false)
  else if e = 2 ∧ result.getLsbD 63 then
    let t := if j.desc.emit.testBit 2 then 2 else 1
    (ropeSend s .host (mkFrame 0 0 j.desc.rtag (mirrorBytes (jobMessage s j t result))), true)
  else (ropeSend s .host (mkFrame 5 0 j.desc.rtag (mirrorBytes (jobMessage s j 0 result))), false)

/-! ### Completion (R612 to R615, R636, R652) -/

/-- The deadline of a job has passed at the present replica time or position (R615, R629). -/
def deadlinePassed (s : State) (d : Desc) : Bool :=
  if d.dlKind = 1 then decide (d.deadline < s.trep.time)
  else if d.dlKind = 2 then
    let x := wrap56 (replicaPos s - toSigned 56 d.deadline)
    if s.replica.reverse then decide (x < 0) else decide (0 < x)
  else false

/-- Saturation to 32 bits. -/
def sat32 (n : Nat) : Nat := min n (2 ^ 32 - 1)

/-- The 64 octets of a completion record (R613). -/
def recordBytes (s : State) (q : Nat) (j : Job) (status : Nat) (flags : Nat) (result : BitVec 64) : List Byte :=
  let st := j.stamp.getD (noStampYet s)
  let f := setBit (setBit (setBit flags 1 st.stepped) 2 st.invalid) 3 st.fs
  let acct := fun (n : Nat) => if j.fullAcct then sat32 n else 0
  leBytes 1 status ++ leBytes 1 f ++ leBytes 2 q ++ leBytes 4 j.seq ++ leBytes 4 j.desc.userTag ++ leBytes 1 j.slot ++
    leBytes 1 (j.group * 16 + j.first) ++ leBytes 2 j.preemptions ++ leBytesI 8 st.position ++ leBytes 8 st.time ++
    leBytes 8 result.toNat ++ leBytes 4 (acct j.engineNs) ++ leBytes 4 (acct j.cavernLines) ++ leBytes 4 (acct j.dramLines) ++
    leBytes 4 (acct j.energyNj) ++ leBytes 8 s.trep.time

/-- A buffer of the queue cannot be reached: BUF_FAULT, and the queue stops (R652). -/
def bufFault (s : State) (q : Nat) : State :=
  setReg (setQue s q { que s q with stopped := true }) (nqReg q 0x14) (setBit (reg s (nqReg q 0x14)) 3 true)

/-- A record is written into the completion ring, then the message-signalled interrupt (R602, R613). -/
def writeRecord (s : State) (q : Nat) (w : Origin) (rec_ : List Byte) (irq : Bool) : State :=
  let tail := reg s (nqReg q 0x20)
  let ctrl := reg s (nqReg q 0x10)
  let r := engStore s w (reg s (nqReg q 8) + 64 * (tail % 2 ^ bits ctrl 15 12)) rec_
  if !r.2 then bufFault r.1 q
  else
    let s := setReg r.1 (nqReg q 0x20) ((tail + 1) % 65536)
    if ctrl.testBit 1 && irq then
      msiWrite { s with gal := { s.gal with msi := (reg s (nqReg q 0x28), reg s (nqReg q 0x30)) :: s.gal.msi } } (reg s (nqReg q 0x28)) (reg s (nqReg q 0x30))
    else s

/-- A store of a job failed after issue: LATE_STORE_FAULT (R436). -/
def jobLateFault (s : State) (q unit : Nat) : State :=
  match (que s q).job with
  | some j => if j.seq = unit then setJob s q { j with status := if j.status = 0 then 3 else j.status } else s
  | none => s

/-- The client's counters (R636 to R638). -/
def account (s : State) (j : Job) : State :=
  let sub := j.client % 128 + 1
  let k := j.client / 128
  let s := bump s (0x2820 + k) sub
  if j.fullAcct then
    bump (bump (bump (bump s (0x2822 + k) sub j.engineNs) (0x2824 + k) sub j.cavernLines) (0x2826 + k) sub j.dramLines) (0x2828 + k) sub j.energyNj
  else s

/-- The class-1 S-status message (R883). -/
def sStatusBytes (s : State) (q : Nat) (j : Job) (status : Nat) : List Byte :=
  leBytes 2 0x10 ++ leBytes 2 q ++ leBytes 1 status ++ [0] ++ leBytes 2 j.desc.rtag ++ leBytes 8 (j.stamp.getD (noStampYet s)).time ++ leBytes 8 s.trep.time

/-- Flags that the job's satisfied waits release, each flag once (R612).
Log entry 144: DEDUCED, unsafe. -/
def waitReleases (s : State) (j : Job) : State :=
  if !j.desc.flags.testBit 2 then s
  else
    let one := if j.w0 = .satisfied then [j.desc.wait0 % 1024] else []
    let two := if j.w1 = .satisfied then [j.desc.wait1 % 1024] else []
    (one ++ two).eraseDups.foldl flagRelease s

/-- The released jobs that wait for frames of a pool try again (R685): a job that now has them stops waiting, one whose
prefetch failed is left for its dispatch to end. -/
def kvRetry (s : State) (p : Nat) : State :=
  (s.gal.queues.map (fun e => e.1)).foldl
    (fun s q =>
      match (que s q).job with
      | some j =>
        (match j.kv with
         | some (p', b) =>
           if p' = p ∧ j.frameWait = true then
             let r := kvTakeFrames s q p b
             match r.2 with
             | .ready => setJob r.1 q { j with frameWait := false }
             | .fault => setJob r.1 q { j with frameWait := false, status := 2 }
             | _ => r.1
           else s
         | none => s)
      | none => s) s

/-- Token records that a member of a copy appended: sequence, position, octets (R675). -/
def memberTokens (c : Copy) (j : Nat) : List (Nat × Nat × List Byte) := (c.tokens.filter (fun e => e.1 = j)).map (fun e => e.2)

/-- A job ends with a status and its result word: message, KV commit, S-status, waits, counters, record, interrupt; then
its slot and cores are free and the queue may take its next descriptor (R597, R612, R616, R676, R883). -/
def completeJob (s : State) (q : Nat) (status : Nat) (result : BitVec 64) : State :=
  match (que s q).job with
  | none => s
  | some j =>
    let ok := decide (status = 0)
    let e := if ok && decide (j.desc.op = 1) then emitResult s j result else (s, false)
    let s := kvEnd e.1 q ok ((j.copies.head?.map (fun c => memberTokens c 0)).getD [])
    let s := if j.part = 0 ∧ status ≠ 0 ∧ status ≠ 0x0A then ropeSend s .host (mkFrame 1 1 j.desc.rtag (sStatusBytes s q j status)) else s
    let s := waitReleases s j
    let s := account s j
    let f := setBit (setBit j.flags 7 e.2) 4 (ok && deadlinePassed s j.desc)
    let s := if f.testBit 0 then bump s 0x28F0 6 else s
    let s := writeRecord s q (jobOrigin q j) (recordBytes s q j status f (if ok then result else 0)) (j.desc.flags.testBit 1)
    let s := freeCores s q
    let s := if j.slot < 4 then setSlot s j.slot { mslot s j.slot with inUse := (mslot s j.slot).inUse - 1 } else s
    let s := setQue s q { que s q with job := none }
    match j.kv with | some (p, _) => kvRetry s p | none => s

/-! ### Waits and release (R606 to R611, R672) -/

/-- The earlier of two stamps. -/
def earlier (x y : Stamp) : Stamp := if y.time < x.time then y else x

/-- The stamp of a job at its release (R611). -/
def releaseStamp (s : State) (j : Job) : Stamp :=
  let of := fun (w : Nat) => (flag s (w % 1024)).stamp
  match (if j.w0 = .none then none else of j.desc.wait0), (if j.w1 = .none then none else of j.desc.wait1) with
  | some x, some y => earlier x y
  | some x, none => x
  | none, some y => y
  | none, none => stampNow s 0 true

/-- The job of a queue is released: its stamp is taken, and a KV-using job names its sequences and takes frames (R610,
R611, R671, R672). -/
def releaseNow (s : State) (q : Nat) (j : Job) : State :=
  let s := setJob s q { j with mode := .released, relTime := s.trep.time, stamp := some (releaseStamp s j) }
  match j.kv with
  | none => s
  | some (p, b) =>
    if poolPart s p ≠ j.part ∨ objB s (0x2A00 + p) 1 = false then completeJob s q 2 0
    else
      let r := kvRelease s q p b
      match r.2 with
      | .ready => r.1
      | .waiting => setQue r.1 q { que r.1 q with job := (que r.1 q).job.map (fun j => { j with frameWait := true }) }
      | .bad => completeJob r.1 q 9 0
      | .fault => completeJob r.1 q 2 0

/-- A waiting job all of whose waits are satisfied and whose HOLD is released becomes released (R610). -/
def jobAdvance (s : State) (q : Nat) : State :=
  match (que s q).job with
  | some j => if j.mode = .waiting ∧ j.held = false ∧ j.w0 ≠ .open_ ∧ j.w1 ≠ .open_ then releaseNow s q j else s
  | none => s

/-- A release of the held head job of queue `q`; one that finds none is counted (R609). -/
def jobRelease (s : State) (q : Nat) : State :=
  let u := que s q
  match u.job with
  | some j =>
    if j.mode = .waiting ∧ j.held = true then jobAdvance (setJob s q { j with held := false, countFrom := s.trep.time }) q
    else setQue s q { u with unused := u.unused + 1 }
  | none => setQue s q { u with unused := u.unused + 1 }

/-- What the publication of generation `gen` does to a wait for `want`: satisfied, stale, or still open (R606, R607).
Log entry 34: DESIGN CHOICE, unsafe. -/
def waitAfter (want gen : Nat) : Option WaitMode :=
  if want = 0 ∨ want = gen then some .satisfied
  else if 1 ≤ (gen + 65536 - want) % 65536 ∧ (gen + 65536 - want) % 65536 ≤ 32767 then none
  else some .open_

/-- A publication of flag `f` reaches the waiting job of queue `q`. -/
def wakeQueue (s : State) (f gen q : Nat) : State :=
  match (que s q).job with
  | none => s
  | some j =>
    if j.mode ≠ .waiting then s
    else
      let n0 := if j.w0 = .open_ ∧ j.desc.wait0 % 1024 = f then waitAfter j.desc.gen0 gen else some j.w0
      let n1 := if j.w1 = .open_ ∧ j.desc.wait1 % 1024 = f then waitAfter j.desc.gen1 gen else some j.w1
      match n0, n1 with
      | some a, some b => jobAdvance (setJob s q { j with w0 := a, w1 := b }) q
      | _, _ => completeJob s q 6 0

/-- A buffer or copy is published: its stamp and sequence go into the metadata slot, its hold count and flag are set, GEN
advances, and waiting jobs see it (R474, R475, R526, R606, R607). -/
def publish (s : State) (f : Nat) (st : Stamp) (seq hold : Nat) (slot : List Byte := [])
    (image : Nat × Nat × Nat × Nat := (0, 0, 0, 0)) : State :=
  let gen := ((flag s f).gen + 1) % 65536
  let s := setFlag s f { set := true, gen := gen, mode := .valid, hold := hold, stamp := some st, seq := seq, slot := slot, image := image }
  (s.gal.queues.map (fun e => e.1)).foldl (fun s q => wakeQueue s f gen q) s

end Sys2Proof.Machine
end

