-- ==== Sys2Proof/Machine/Handoff.lean ====
section
/-! DEFINITION. What an event hands to another unit: capture stamps, job releases, graph starts, conversion triggers and
axis releases. -/

namespace Sys2Proof.Machine

/-- State of stream `n`. -/
def stm (s : State) (n : Nat) : Stream := tget {} s.streams n

/-- Replace the state of stream `n`. -/
def setStm (s : State) (n : Nat) (x : Stream) : State := { s with streams := tset {} s.streams n x }

/-- State of graph `g`. -/
def gph (s : State) (g : Nat) : Graph := tget {} s.graphs g

/-- Replace the state of graph `g`. -/
def setGph (s : State) (g : Nat) (x : Graph) : State := { s with graphs := tset {} s.graphs g x }

/-- Streams bound to trigger `n` (R457). -/
def boundTo (s : State) (n : Nat) : List Nat :=
  (List.range 16).filter (fun i => objB s (0x2410 + i) 1 && decide (objN s (0x2410 + i) 7 = n))

/-- Settings of stream `i`, of its ISP and of its outputs that bind per frame, by object offset × 256 + subindex (R470). -/
def camPar (s : State) (i : Nat) : Tab Nat :=
  ([0x2410, 0x2430, 0x2450, 0x2470].map (fun o =>
    ((List.range (if o = 0x2430 then 8 else 13)).map (fun k => (o * 256 + k + 1, objN s (o + i) (k + 1)))).filter (fun e => e.2 ≠ 0))).flatten

/-- A pending stamp is discarded as a missed exposure of every bound stream that has not taken it (R460, R463). -/
def missedExposure (s : State) (n : Nat) (p : PendingStamp) : State :=
  ((boundTo s n).filter (fun i => !p.used.contains i)).foldl (fun s i => bump s (0x2490 + i) 8) s

/-- A rising edge of trigger output `n` pushes a pending stamp; a fifth displaces the oldest (R457, R463). -/
def trigPush (s : State) (n tag : Nat) : State :=
  let q := tget [] s.trig n
  let p : PendingStamp := { tag := tag, edge := s.trep.time, taken := [], pars := (boundTo s n).map (fun i => (i, camPar s i)) }
  if (boundTo s n).isEmpty then s
  else
    match q with
    | o :: rest => if q.length < 4 then { s with trig := tset [] s.trig n (q ++ [p]) }
                   else missedExposure { s with trig := tset [] s.trig n (rest ++ [p]) } n o
    | [] => { s with trig := tset [] s.trig n [p] }

/-! ### Run records and graph starts (R513 to R516, R532, R533) -/

/-- Field of the descriptor of graph `g` in force (R505). -/
def graphField (s : State) (g off n : Nat) : Nat := fieldN (stored s (0x2600 + g) 2) off n

/-- The originator of a run's accesses (R523). -/
def runOrigin (part g seq : Nat) : Origin := { agent := .vision, tag := partTag part, client := g, queue := 0xFFFF, unit := seq }

/-- A ring's size, from its control register (R260, R480). -/
def ringSize (ctrl : Nat) : Nat := 2 ^ bits ctrl 11 8

/-- The ring is enabled with a size in range. -/
def ringOn (ctrl : Nat) : Bool := ctrl.testBit 0 && decide (4 ≤ bits ctrl 11 8) && decide (bits ctrl 11 8 ≤ 12)

/-- A run record enters the ring of block VIS; a full ring takes none (R484, R532). -/
def visRecord (s : State) (g part seq : Nat) (rec_ : List Byte) : State :=
  let s := putObj s (0x2610 + g) 7 rec_
  let ctrl := reg s (bVIS + 8)
  let tail := reg s (bVIS + 0x10)
  let used := (tail + 65536 - reg s (bVIS + 0x0C) % 65536) % 65536
  if ringOn ctrl && decide (used < ringSize ctrl) then
    let r := engStore s (runOrigin part g seq) (reg s bVIS + 32 * (tail % ringSize ctrl)) rec_
    let s := setReg r.1 (bVIS + 0x10) ((tail + 1) % 65536)
    if ctrl.testBit 1 then hostIrq s 0x20 else s
  else s

/-- The 32 octets of a run record (R533). -/
def runBytes (g status flags seq : Nat) (st : Stamp) (us tiles done fail : Nat) : List Byte :=
  let f := setBit (setBit (setBit (setBit flags 1 st.stepped) 2 st.invalid) 3 st.noStamp) 4 st.fs
  leBytes 1 g ++ leBytes 1 status ++ leBytes 2 f ++ leBytes 4 seq ++ leBytesI 8 st.position ++ leBytes 8 st.time ++ leBytes 4 us ++
    leBytes 2 tiles ++ leBytes 1 done ++ leBytes 1 fail

/-- A start that begins no run leaves a record and releases the camera buffers it holds (R514 to R517, R533). -/
def noRun (s : State) (g status : Nat) (cams : List Nat) : State :=
  let st := (cams.filterMap (fun f => (flag s f).stamp)).foldl (fun (a : Option Stamp) x => some (match a with | some y => earlier y x | none => x)) none
  let x := gph s g
  let rec_ := runBytes g status 0 x.seq (st.getD (stampNow s 0 true)) 0 0 0 0xFF
  let s := setGph s g { x with seq := wrap32 (x.seq + 1) }
  let s := match status with
    | 1 => bump s (0x2610 + g) 2
    | 3 => bump s (0x2610 + g) 5
    | 4 => bump s (0x2610 + g) 6
    | _ => s
  cams.foldl flagRelease (visRecord s g (graphField s g 2 1) x.seq rec_)

/-- Streams bound to graph `g`, ascending (R507). -/
def graphStreams (s : State) (g : Nat) : List Nat :=
  (List.range 16).filter (fun i => objB s (0x2410 + i) 1 && decide (objN s (0x2410 + i) 0x0B = g))

/-- The newest VALID buffer of a stream that the graph has not used (R513). -/
def newestOf (s : State) (g st : Nat) : Option (Nat × Nat) :=
  (((gph s g).fresh.filter (fun p => p.1 = st && (flag s p.2).mode == .valid)).getLast?)

/-- The buffers a start other than a stream frame would use now. -/
def newestCams (s : State) (g : Nat) : List (Nat × Nat) := (graphStreams s g).filterMap (newestOf s g)

/-- The graph has used buffers. -/
def useFresh (s : State) (g : Nat) (l : List (Nat × Nat)) : State :=
  setGph s g { gph s g with fresh := (gph s g).fresh.filter (fun p => !l.contains p) }

/-- A further start of graph `g`: two may wait, a third is recorded DROPPED and its camera buffers are released
(R516). -/
def graphRequest (s : State) (g : Nat) (st : Start) : State :=
  let x := gph s g
  if !objB s (0x2600 + g) 1 then s
  else if x.pending.length < 2 then setGph s g { x with pending := x.pending ++ [st] }
  else if st.source = 0 then noRun s g 1 st.cams
  else
    let l := newestCams s g
    noRun (useFresh s g l) g 1 (l.map (fun p => p.2))

/-- START mask of a graph (R505): [0] stream frame, [1] GRAPH_START event, [2] software, [3] Lantern hint. -/
def graphStarts (s : State) (g k : Nat) : Bool := (graphField s g 3 1).testBit k

/-- A start from a GRAPH_START event (R513). -/
def graphStartEvent (s : State) (g : Nat) : State :=
  if graphStarts s g 1 then graphRequest s g { source := 1 } else s

/-- Channel entries of conversion group `g` (R777). -/
def groupList (s : State) (g : Nat) : List Nat :=
  ((stored s (axA g + 0x38) 1).map (fun b => b.toNat)).takeWhile (fun c => decide (c ≠ 0xFF))

/-- A trigger of source `b` reaches conversion group `g`: it starts, or is held once while the group converts, or is
dropped and counted; a second source in the cycle of the start adds nothing (R778, R779, R797). -/
def adcTrigger (s : State) (g b : Nat) : State :=
  let m := ax s g
  if !(objN s (axA g + 0x38) 2).testBit b then s
  else
    match m.group with
    | none =>
      if (groupList s g).isEmpty then s
      else setAx s g { m with group := some (List.range (groupList s g).length), groupStart := (s.fclk.ticks, b) }
    | some _ =>
      if m.groupStart.1 = s.fclk.ticks ∧ m.groupStart.2 ≠ b then s
      else if m.heldTrigger then bump s (axA g + 0x34) 6
      else setAx s g { m with heldTrigger := true }

/-- An AXIS_GO event for axis `a`: the head command has been released by it (R844). -/
def axisGo (s : State) (a : Nat) : State :=
  let c := ce s a
  match c.fifo with
  | h :: t => setCe s a { c with fifo := { h with go := true } :: t }
  | [] => s

/-- The control-cycle timer is re-phased at field time `t` (R152, R155).
Log entry 12: DEDUCED, unsafe. -/
def rephase (s : State) (t : Nat) : State := { s with sync := { s.sync with rephase := some t, deferred := false } }

end Sys2Proof.Machine
end

