-- ==== Sys2Proof/Machine/Events.lean ====
section
/-! DEFINITION. Position and time event entries: their fields, firing, lateness and steps (R62 to R73, R106, R148 to
R151, R1034, R1036, R1049). -/

namespace Sys2Proof.Machine

/-- Which table an entry is in. -/
inductive Tbl where
  | field | host
  deriving DecidableEq, Repr

/-! ### Fields of a position event entry (R65) -/

def eArmed (e : Nat) : Bool := e.testBit 127
def eDir (e : Nat) : Nat := bits e 126 125
def eMeas (e : Nat) : Bool := e.testBit 124
def eLate (e : Nat) : Bool := e.testBit 123
def eStatus (e : Nat) : Nat := bits e 122 120
def eAction (e : Nat) : Nat := bits e 119 112
def eArg (e : Nat) : Nat := bits e 111 104
def eWidth (e : Nat) : Nat := bits e 103 88
def eRepeat (e : Nat) : Nat := bits e 87 72
def eTag (e : Nat) : Nat := bits e 71 56
def eTarget (e : Nat) : Int := toSigned 56 (bits e 55 0)

/-- The entry's DIR allows a crossing in the direction (R65). -/
def dirAllows (e : Nat) (fwd : Bool) : Bool :=
  eDir e = 2 || (eDir e = 0 && fwd) || (eDir e = 1 && !fwd)

/-- The entry with other STATUS. -/
def withStatus (e st : Nat) : Nat := setBits e 122 120 st

/-- Contents of an entry. -/
def entry (s : State) (t : Tbl) (n : Nat) : Nat :=
  match t with
  | .field => (tget 0 s.fEntries n).toNat
  | .host => (tget 0 s.replica.entries n).toNat

/-- Replace an entry. -/
def setEntry (s : State) (t : Tbl) (n e : Nat) : State :=
  match t with
  | .field => { s with fEntries := tset 0 s.fEntries n (BitVec.ofNat 128 e) }
  | .host => { s with replica := { s.replica with entries := tset 0 s.replica.entries n (BitVec.ofNat 128 e) } }

/-- Numbers of the listed entries, ascending (R106). -/
def listed (s : State) (t : Tbl) : List Nat :=
  match t with
  | .field => s.fEntries.map (fun p => p.1)
  | .host => s.replica.entries.map (fun p => p.1)

/-- The counter a table compares with, interpolated (R60). -/
def tblPos (s : State) (t : Tbl) : Int := match t with | .field => linePos s | .host => replicaPos s

/-- The counted integer, in 48.8 form. -/
def tblCount (s : State) (t : Tbl) : Int :=
  match t with | .field => wrap56 (s.pos.count * 256) | .host => wrap56 (s.replica.count * 256)

/-- The present direction of motion is reverse (R72). -/
def tblReverse (s : State) (t : Tbl) : Bool := match t with | .field => s.pos.reverse | .host => s.replica.reverse

/-- The entry is held by the position state: INVALID holds all, ESTIMATED holds MEAS_ONLY entries (R98, R99, R88). -/
def heldNow (s : State) (t : Tbl) (e : Nat) : Bool :=
  match t with
  | .field => s.pos.mode == .invalid || (s.pos.mode == .estimated && eMeas e)
  | .host =>
    s.replica.held || s.replica.reloadDue || decide (s.replica.pstate.toNat % 8 = 2) ||
      (decide (s.replica.pstate.toNat % 8 = 1) && eMeas e)

/-! ### Actions (R70, R71, R1049) -/

/-- Output of an output action. -/
def outPin (t : Tbl) (arg : Nat) : OutPin :=
  match t with
  | .field => .lpo (Fin.ofNat 8 arg)
  | .host => .hlpo (Fin.ofNat 4 arg)

/-- Magnitude of a rational. -/
def rabs (q : Rat) : Rat := if q < 0 then -q else q

/-- The fraction at `dt` ns after an edge at velocity `v` (R59). -/
def fraction (v : Rat) (dt : Rat) : Nat := min 255 (256 * rabs v * (if dt < 0 then 0 else dt) / 1000000000).floor.toNat

/-- Time since the last edge, counted or synthetic, in ns (R59, R97). -/
def sinceEdge (s : State) : Rat :=
  let dt : Rat := ((s.fclk.time - s.pos.edgeTime : Nat) : Rat)
  if s.pos.v = 0 then dt else dt - (s.pos.synth : Rat) * 1000000000 / rabs s.pos.v

/-- Line position `dt` ns from now when no edge comes before (R59, R60). -/
def linePosIn (s : State) (dt : Rat) : Int := reading s.pos.count (fraction s.pos.v (sinceEdge s + dt)) s.pos.reverse

/-- Replica position `dt` ns from now when no edge comes before. -/
def replicaPosIn (s : State) (dt : Rat) : Int :=
  reading s.replica.count (fraction (fRat s.replica.v) (((s.trep.time - s.replica.edgeTime : Nat) : Rat) + dt)) s.replica.reverse

/-- From the compared edge or cycle to the end of the action term: compare 10 ns and action 5 ns (R74, R1035). -/
def actionNs : Nat := 15

/-- A timed pulse of `us` µs starts on an output (R70, R106). -/
def pulseTimed (s : State) (p : OutPin) (us : Nat) : State :=
  drive { s with pulses := s.pulses ++ [{ pin := p, endAt := none, left := 2000 * us, start := 0, reverse := false }] } p true

/-- A PULSE_CNT pulse starts on an output (R106, R1049). -/
def pulseCounted (s : State) (p : OutPin) (endAt start : Int) (rev : Bool) : State :=
  drive { s with pulses := s.pulses ++ [{ pin := p, endAt := some endAt, left := 0, start := start, reverse := rev }] } p true

/-- A pulse ends: its output becomes inactive unless another pulse on it is in progress (R106). -/
def pulseEnd (s : State) (p : Pulse) : State :=
  let s := { s with pulses := s.pulses.erase p }
  if s.pulses.any (fun q => q.pin = p.pin) then s else drive s p.pin false

/-- A PULSE_CNT action with nonzero WIDTH. The pulse of a late fire whose end the counter has already reached ends at once.
Log entry 100: DESIGN CHOICE, unsafe. -/
def pulseCntAct (s : State) (t : Tbl) (e : Nat) (fwd : Bool) : State :=
  let w : Int := (eWidth e : Int) * 256
  let fin := wrap56 (eTarget e + (if fwd then w else -w))
  let n := pulseCounted s (outPin t (eArg e)) fin (eTarget e) (!fwd)
  let gone := wrap56 (tblPos s t - fin)
  if (if fwd then decide (0 ≤ gone) else decide (gone ≤ 0)) then
    pulseEnd n { pin := outPin t (eArg e), endAt := some fin, left := 0, start := eTarget e, reverse := !fwd }
  else n

/-- A level action ends every pulse in progress on its output (R106). -/
def levelAct (s : State) (p : OutPin) (high : Bool) : State :=
  drive { s with pulses := s.pulses.filter (fun q => q.pin ≠ p) } p high

/-- An EVENT_MSG record (R220). -/
def eventMsg (s : State) (tag : Nat) (num status : Nat) : State :=
  class2 s (leBytes 2 2 ++ leBytes 2 tag ++ leBytesI 8 (linePos s) ++ leBytes 8 s.fclk.time ++ leBytes 2 num ++
    leBytes 1 status ++ [0])

/-- A LATCH action captures at the end of its action term (R70, R1035).
Log entry 101: DEDUCED, unsafe. -/
def latchAct (s : State) (t : Tbl) (tag : Nat) : State :=
  match t with
  | .field => { s with pos := { s.pos with latch := some { time := (s.fclk.time + actionNs) % 2 ^ 64, tag := tag, position := linePosIn s actionNs } } }
  | .host => { s with replica := { s.replica with latch := some { time := (s.hclk.time + actionNs) % 2 ^ 64, tag := tag, position := replicaPosIn s actionNs } } }

/-- The common actions of both kinds of entry. -/
def commonAct (s : State) (t : Tbl) (action arg width tag : Nat) : State :=
  let p := outPin t arg
  if action = 1 then (if width = 0 then s else pulseTimed s p width)
  else if action = 3 then levelAct s p true
  else if action = 4 then levelAct s p false
  else if action = 5 then levelAct s p (!s.pins.contains p)
  else if action = 6 then adcTrigger s arg 3
  else if action = 8 then axisGo s arg
  else if action = 0x0B then latchAct s t tag
  else s

/-- The action drives an output of its die: PULSE_US, PULSE_CNT, SET, CLEAR or TOGGLE with an effect (R70, R1049). -/
def drivesOut (action width : Nat) : Bool :=
  ((action == 1 || action == 2) && decide (width ≠ 0)) || action == 3 || action == 4 || action == 5

/-- A position event of the field die has driven its output in this 5 ns cycle (R161). -/
def noteDrove (s : State) (e : Nat) : State :=
  if drivesOut (eAction e) (eWidth e) then
    { s with pos := { s.pos with drove := outPin .field (eArg e) :: s.pos.drove } }
  else s

/-- What a fire of a position entry does (R70). -/
def posAct (s : State) (t : Tbl) (n e status : Nat) (fwd : Bool) : State :=
  let a := eAction e
  if a = 2 then
    (if eWidth e = 0 then s else pulseCntAct s t e fwd)
  else if a = 7 then (if objN s 0x2240 1 = 3 then rephase s s.fclk.time else s)
  else if a = 0x0C then eventMsg s (eTag e) n status
  else if a = 0x10 then
    (if eWidth e = 0 then s
     else
      let p := OutPin.trig (Fin.ofNat 4 (eArg e))
      let rising := !s.pins.contains p
      let s := pulseTimed s p (eWidth e)
      if rising then trigPush s (eArg e) (eTag e) else s)
  else if a = 0x11 then (if eWidth e = 0 then s else pulseTimed s (.strb (Fin.ofNat 4 (eArg e))) (eWidth e))
  else if a = 0x12 then jobRelease s (eArg e)
  else if a = 0x13 then graphStartEvent s (eArg e)
  else commonAct s t a (eArg e) (eWidth e) (eTag e)

/-! ### Fires and misses -/

/-- A position record of the fault log, TYPE 0x0001 (R109, R893): kinds 0 step, 1 index error, 2 late, 3 missed. The record of a
late fire or a missed entry carries TARGET as old position and the counter as new one.
Log entry 103: DESIGN CHOICE, unsafe. -/
def posRec (s : State) (t : Tbl) (old new : Int) (n kind tag : Nat) : State :=
  let r := mkRec 1 0 (leBytesI 8 old ++ leBytesI 8 new ++ leBytes 2 n ++ leBytes 1 kind) (tag := tag)
  match t with | .field => logField s r | .host => logHost s r

/-- TARGET moved by the smallest whole number of REPEAT steps, at least one, that places it strictly ahead of the
counter (R1034). -/
def movedOn (e : Nat) (pos : Int) (fwd : Bool) : Nat :=
  let step : Int := (eRepeat e : Int) * 256
  let behind : Int := if fwd then wrap56 (pos - eTarget e) else wrap56 (eTarget e - pos)
  let k : Int := if behind < 0 then 1 else behind / step + 1
  setBits e 55 0 (ofSigned 56 (eTarget e + (if fwd then k * step else -(k * step))))

/-- The entry after a fire or miss: a one-shot entry is disarmed, a repeating one moves on (R65, R1034). -/
def entryAfter (e : Nat) (status : Nat) (pos : Int) (fwd ordinary : Bool) : Nat :=
  let e := withStatus e status
  if eRepeat e = 0 then setBit e 127 false
  else if ordinary then
    let step : Int := (eRepeat e : Int) * 256
    setBits e 55 0 (ofSigned 56 (eTarget e + (if fwd then step else -step)))
  else movedOn e pos fwd

/-- A host fire is reported to the field firmware (R1038). -/
def fireReportOf (s : State) (n : Nat) : State :=
  { s with replica := { s.replica with
      fires := s.replica.fires ++ [(n, tget 0 s.replica.pushes n, BitVec.ofNat 128 (entry s .host n))] } }

/-- An entry fires: `late` when its target was passed without a crossing it could fire on. 0x2203:04 counts late fires of the
field table alone.
Log entry 102: DESIGN CHOICE, unsafe. -/
def fire (s : State) (t : Tbl) (n : Nat) (fwd late : Bool) : State :=
  let e := entry s t n
  let status := if late then 2 else 1
  let s := setEntry s t n (entryAfter e status (tblPos s t) fwd (!late))
  let s := posAct s t n e status fwd
  let s := match t with | .host => fireReportOf s n | .field => noteDrove s e
  if late then
    let s := match t with | .field => bump s 0x2203 4 | .host => s
    posRec s t (eTarget e) (tblPos s t) n 2 (eTag e)
  else s

/-- An entry is recorded as missed (R72, R1034). 0x2203:05 counts those of the field table alone.
Log entry 102: DESIGN CHOICE, unsafe. -/
def miss (s : State) (t : Tbl) (n : Nat) (fwd : Bool) : State :=
  let e := entry s t n
  let s := setEntry s t n (entryAfter e 3 (tblPos s t) fwd false)
  let s := match t with | .field => bump s 0x2203 5 | .host => s
  posRec s t (eTarget e) (tblPos s t) n 3 (eTag e)

/-- A passed target: fires late when LATE_OK is set, and otherwise is missed. -/
def lateOrMiss (s : State) (t : Tbl) (n : Nat) (fwd : Bool) : State :=
  if eLate (entry s t n) then fire s t n fwd true else miss s t n fwd

/-- Moving from `old` to `new` passes `target` forward: above `old`, at or below `new` (R58). -/
def passesFwd (old new target : Int) : Bool :=
  decide (0 < wrap56 (target - old)) && decide (0 ≤ wrap56 (new - target))

/-- Moving from `old` to `new` passes `target` in reverse. -/
def passesRev (old new target : Int) : Bool :=
  decide (wrap56 (target - old) < 0) && decide (wrap56 (new - target) ≤ 0)

/-- The move passes `target` in the given direction. -/
def passes (old new target : Int) (fwd : Bool) : Bool := if fwd then passesFwd old new target else passesRev old new target

/-- The held entries whose target has been passed, with the direction of the latest passage (R88, R101). -/
def passedList (s : State) (t : Tbl) : List (Nat × Bool) := match t with | .field => s.pos.passed | .host => s.replica.passed

/-- Replace them. -/
def setPassed (s : State) (t : Tbl) (l : List (Nat × Bool)) : State :=
  match t with
  | .field => { s with pos := { s.pos with passed := l } }
  | .host => { s with replica := { s.replica with passed := l } }

/-- The passages of entry `n` are forgotten. -/
def forgetPassed (s : State) (t : Tbl) (n : Nat) : State := setPassed s t ((passedList s t).filter (fun p => p.1 ≠ n))

/-- The counter has passed the target of a held entry (R101). -/
def notePassed (s : State) (t : Tbl) (n : Nat) (fwd : Bool) : State :=
  setPassed s t ((n, fwd) :: (passedList s t).filter (fun p => p.1 ≠ n))

/-- The passage of a held entry that its release judges (R101). -/
def passage (s : State) (t : Tbl) (n : Nat) : Option Bool := ((passedList s t).find? (fun p => p.1 == n)).map (fun p => p.2)

/-- A set whose instant is a position that a die's counter crosses, in either direction (R304, R305). -/
def StageSet.cross (x : StageSet) (t : Tbl) (oldC newC : Int) (fwd late : Bool) : StageSet :=
  match t with
  | .field =>
    match x.instant with
    | some (.position p) => if x.mode = .armed ∧ x.due.isNone ∧ passes oldC newC p fwd = true then { x with due := some late } else x
    | _ => x
  | .host =>
    match x.shadow with
    | some (_, .position p) => if passes oldC newC p fwd = true then { x with hostDue := true } else x
    | _ => x

/-- Every set notes that a counter has crossed its position. -/
def crossSets (s : State) (t : Tbl) (oldC newC : Int) (fwd late : Bool) : State :=
  { s with sets := s.sets.map (fun e => (e.1, e.2.cross t oldC newC fwd late)) }

/-- A counted or synthetic edge, or a fraction step, moves the counter from `oldC` to `newC` (counted) and from `oldP`
to `newP` (interpolated): every armed entry crossed in a direction its DIR allows fires, in ascending number (R69,
R106); the passage of a held one is kept for its release (R101). Entries are compared as they stood before the move. -/
def moveCompare (s : State) (t : Tbl) (oldC newC oldP newP : Int) (fwd : Bool) : State :=
  (listed s t).foldl
    (fun acc n =>
      let e := entry s t n
      let whole := (eTarget e) % 256 = 0
      let hit := if whole then passes oldC newC (eTarget e) fwd else passes oldP newP (eTarget e) fwd
      if eArmed e && dirAllows e fwd && hit then (if heldNow s t e then notePassed acc t n fwd else fire acc t n fwd false) else acc)
    (crossSets s t oldC newC fwd false)

/-- A step of the counter, from `oldC` to the present one counted and from `oldP` interpolated, passes targets: each
whose DIR allows the step's direction fires late or is missed (R106); the passage of a held one is kept for its release. -/
def stepCompare (s : State) (t : Tbl) (oldC oldP : Int) : State :=
  let newP := tblPos s t
  let fwd := decide (0 ≤ wrap56 (newP - oldP))
  (listed s t).foldl
    (fun acc n =>
      let e := entry s t n
      let hit := if (eTarget e) % 256 = 0 then passes oldC (tblCount s t) (eTarget e) fwd else passes oldP newP (eTarget e) fwd
      if eArmed e && dirAllows e fwd && hit then (if heldNow s t e then notePassed acc t n fwd else lateOrMiss acc t n fwd) else acc)
    (crossSets s t oldC (tblCount s t) fwd true)

/-- The direction by which R72 judges an entry: its own, or the present direction of motion for DIR 0b10. -/
def judgeFwd (s : State) (t : Tbl) (e : Nat) : Bool :=
  if eDir e = 0 then true else if eDir e = 1 then false else !tblReverse s t

/-- The entry's TARGET lies behind the counter, or at it (R72). -/
def behind (s : State) (t : Tbl) (e : Nat) : Bool :=
  let p := if eTarget e % 256 = 0 then tblCount s t else tblPos s t
  if judgeFwd s t e then decide (0 ≤ wrap56 (p - eTarget e)) else decide (wrap56 (p - eTarget e) ≤ 0)

/-- An entry as it takes part after arming: held, late, missed or waiting (R72). One that is armed while held and lies behind
the counter counts as passed at its release.
Log entry 104: DEDUCED, unsafe. -/
def judgeArmed (s : State) (t : Tbl) (n : Nat) : State :=
  let e := entry s t n
  let s := forgetPassed s t n
  if !eArmed e then s
  else if heldNow s t e then
    let s := setEntry s t n (withStatus e 4)
    if behind s t e then notePassed s t n (judgeFwd s t e) else s
  else if behind s t e then lateOrMiss s t n (judgeFwd s t e)
  else s

/-- Every armed entry that the present state holds shows STATUS held. -/
def holdAll (s : State) (t : Tbl) : State :=
  (listed s t).foldl (fun acc n => let e := entry acc t n
    if eArmed e && heldNow acc t e then setEntry acc t n (withStatus e 4) else acc) s

/-- What the end of a hold does with held entries (R88, R101): judges those passed, records them as missed, or leaves
every one armed. -/
inductive Release where
  | late | missed | keep
  deriving DecidableEq, Repr

/-- What a release does with an entry whose target was passed in direction `fwd`. -/
def releasePassed (s : State) (t : Tbl) (n : Nat) (fwd : Bool) (r : Release) : State :=
  match r with
  | .late => lateOrMiss s t n fwd
  | .missed => miss s t n fwd
  | .keep => s

/-- Entries that the present state no longer holds are released: one whose target was passed fires late or is missed, or is
recorded as missed; the rest stay armed and idle (R88, R101). -/
def releaseHeld (s : State) (t : Tbl) (r : Release) : State :=
  (listed s t).foldl
    (fun acc n =>
      let e := entry acc t n
      if eArmed e && decide (eStatus e = 4) && !heldNow acc t e then
        let p := passage acc t n
        let acc := forgetPassed (setEntry acc t n (withStatus e 0)) t n
        match p with
        | some fwd => releasePassed acc t n fwd r
        | none => acc
      else acc)
    s

/-- An output belongs to the table's die. -/
def pinOf (t : Tbl) (p : OutPin) : Bool :=
  match t, p with
  | .field, .lpo _ => true
  | .host, .lpo _ => false
  | .host, _ => true
  | .field, _ => false

/-- PULSE_CNT pulses end when the counter reaches their end or crosses back over their start (R1049). -/
def pulseCntEnds (s : State) (t : Tbl) (old new : Int) : State :=
  (s.pulses.filter (fun p => pinOf t p.pin)).foldl
    (fun acc p =>
      match p.endAt with
      | none => acc
      | some f =>
        let fin := passes old new f (!p.reverse)
        let back := if p.reverse then decide (0 < wrap56 (new - p.start)) && decide (wrap56 (old - p.start) ≤ 0)
                    else decide (wrap56 (new - p.start) < 0) && decide (0 ≤ wrap56 (old - p.start))
        if fin || back then pulseEnd acc p else acc)
    s

/-! ### Validity of an entry write (R67, R71, R149) -/

/-- The action accepts ARG in the table (R71). -/
def argOk (t : Tbl) (action arg : Nat) : Bool :=
  let outs := match t with | .field => 7 | .host => 3
  let f := t == .field
  if action = 0 then arg = 0
  else if 1 ≤ action ∧ action ≤ 5 then decide (arg ≤ outs)
  else if action = 6 ∨ action = 8 then f && decide (arg ≤ 7)
  else if action = 7 ∨ action = 0x0C then f && decide (arg = 0)
  else if action = 0x0B then arg = 0
  else if action = 0x10 ∨ action = 0x11 then !f && decide (arg ≤ 3)
  else if action = 0x12 then !f
  else if action = 0x13 then !f && decide (arg ≤ 7)
  else false

/-- The contents pass R67. -/
def entryOk (t : Tbl) (e : Nat) : Bool :=
  decide (eDir e ≠ 3) && argOk t (eAction e) (eArg e) && !(eMeas e && decide (eTarget e % 256 ≠ 0))

/-! ### Time event entries (R148 to R151, R1036) -/

def tArmed (e : Nat) : Bool := e.testBit 127
def tLate (e : Nat) : Bool := e.testBit 126
def tStatus (e : Nat) : Nat := bits e 125 123
def tAction (e : Nat) : Nat := bits e 119 112
def tArg (e : Nat) : Nat := bits e 111 104
def tWidth (e : Nat) : Nat := bits e 103 88
def tTag (e : Nat) : Nat := bits e 87 72
def tPeriod (e : Nat) : Nat := bits e 71 48
def tTarget (e : Nat) : Nat := bits e 47 0

/-- Actions a time event entry accepts, with their ARG (R149). -/
def timeEntryOk (e : Nat) : Bool :=
  [0, 1, 3, 4, 5, 6, 7, 8, 0x0B, 0x0C].contains (tAction e) && argOk .field (tAction e) (tArg e)

/-- Contents of a time entry. -/
def timeEntry (s : State) (n : Nat) : Nat := (tget 0 s.tEntries n).toNat

/-- Replace a time entry. -/
def setTimeEntry (s : State) (n e : Nat) : State := { s with tEntries := tset 0 s.tEntries n (BitVec.ofNat 128 e) }

/-- Signed 48-bit difference of field time from a target (R150). -/
def timePast (s : State) (e : Nat) : Int := toSigned 48 (ofSigned 48 ((s.fclk.time : Int) - (tTarget e : Int)))

/-- The entry after a fire or miss: disarmed when one-shot, else moved on by PERIOD: by one at a fire on time, past the
present field time otherwise (R148, R1036). -/
def timeAfter (s : State) (e status : Nat) (ordinary : Bool) : Nat :=
  let e := setBits e 125 123 status
  if tPeriod e = 0 then setBit e 127 false
  else
    let step : Int := (tPeriod e : Int) * 5
    let k : Int := if ordinary then 1 else if timePast s e < 0 then 1 else timePast s e / step + 1
    setBits e 47 0 (ofSigned 48 ((tTarget e : Int) + k * step))

/-- A time entry fires (R149); a position event that has driven the same output in this 5 ns cycle decides its level (R161). -/
def timeFire (s : State) (n : Nat) (late : Bool) : State :=
  let e := timeEntry s n
  let status := if late then 2 else 1
  let s := setTimeEntry s n (timeAfter s e status (!late))
  let s :=
    if tAction e = 7 then (if objN s 0x2240 1 = 2 then rephase s s.fclk.time else s)
    else if tAction e = 0x0C then eventMsg s (tTag e) (0x8000 + n) status
    else if drivesOut (tAction e) (tWidth e) && s.pos.drove.contains (outPin .field (tArg e)) then s
    else commonAct s .field (tAction e) (tArg e) (tWidth e) (tTag e)
  if late then posRec s .field (linePos s) (linePos s) (0x8000 + n) 2 (tTag e) else s

/-- A time entry is recorded as missed. -/
def timeMiss (s : State) (n : Nat) : State :=
  let e := timeEntry s n
  let s := setTimeEntry s n (timeAfter s e 3 false)
  posRec s .field (linePos s) (linePos s) (0x8000 + n) 3 (tTag e)

/-- A passed time target: fires late when LATE_OK is set, and otherwise is missed. -/
def timeLateOrMiss (s : State) (n : Nat) : State := if tLate (timeEntry s n) then timeFire s n true else timeMiss s n

/-- A forward step of field time from `old` passes armed targets: each fires late or is missed (R161). -/
def timeStepCompare (s : State) (old : Nat) : State :=
  (s.tEntries.map (fun p => p.1)).foldl
    (fun acc n =>
      let e := timeEntry s n
      let was := toSigned 48 (ofSigned 48 ((old : Int) - (tTarget e : Int)))
      if tArmed e && decide (was < 0) && decide (0 < timePast s e) then timeLateOrMiss acc n else acc)
    s

/-- Some position event entry on either die is armed (R105, R118). -/
def anyArmed (s : State) : Bool :=
  s.fEntries.any (fun p => eArmed p.2.toNat) || s.hMaster.any (fun p => eArmed p.2.toNat) ||
    s.replica.entries.any (fun p => eArmed p.2.toNat)

/-- Some time event entry is armed. -/
def anyTimeArmed (s : State) : Bool := s.tEntries.any (fun p => tArmed p.2.toNat)

end Sys2Proof.Machine
end

