-- ==== Sys2Proof/Machine/Clock.lean ====
section
/-! DEFINITION. Field time, the host PTP clock and its servo, the field-time replica, SYNC, LATCH and PPS, and the commands
of chapter 03 that no other unit shares. -/

namespace Sys2Proof.Machine

/-! ### The field clock (R113 to R121, R156) -/

/-- A rational held within `lo` and `hi`. -/
def clampR (lo hi q : Rat) : Rat := if q < lo then lo else if hi < q then hi else q

/-- 500 ppm and 1 ppm (R114, R115). -/
def ppm500 : Rat := 1 / 2000
def ppm1 : Rat := 1 / 1000000

/-- The correction in force: a slew's, the one in place of ρ, or ρ (R115, R117). -/
def applied (s : State) : Rat :=
  match s.fclk.slew with
  | some r => if 0 < r then ppm500 else if r < 0 then -ppm500 else s.fclk.rho
  | none => (match s.fclk.inPlace with | some q => q | none => s.fclk.rho)

/-- Cycles between altered cycles at correction `rho` with a nominal step of `n` ns (R113, R132); 0 alters none, and a tie goes to
the even number.
Log entry 113: DESIGN CHOICE, unsafe. -/
def alterEvery (rho : Rat) (n : Nat) : Nat :=
  if rho = 0 then 0 else (ratRne (1 / ((n : Rat) * (if rho < 0 then -rho else rho)))).toNat

/-- One cycle of the field clock: ns added and the cycles since the last altered one (R113). -/
def cycleAdd (s : State) : Nat × Nat :=
  let m := alterEvery (applied s) 5
  if m ≠ 0 ∧ m ≤ s.fclk.cycles + 1 then (if 0 < applied s then 6 else 4, 0) else (5, s.fclk.cycles + 1)

/-- Timed pulses on the outputs of a table's die run on by `n` units of 0.5 ns (R70). -/
def pulseTick (l : List Pulse) (t : Tbl) (n : Nat) : List Pulse :=
  l.map (fun p => if pinOf t p.pin && p.endAt.isNone then { p with left := p.left - n } else p)

/-- R110, R113: one 200 MHz cycle; timed pulses of the field die run on (R70) and a new 5 ns cycle has no output driven (R161). -/
def fieldTick (s : State) : State :=
  let c := s.fclk
  let r := cycleAdd s
  { s with
    pulses := pulseTick s.pulses .field 10
    pos := { s.pos with drove := [] }
    sync := { s.sync with left0 := s.sync.left0 - 5, left1 := s.sync.left1 - 5 }
    fclk := { c with
      time := (c.time + r.1) % 2 ^ 64
      ticks := c.ticks + 1
      ppsLeft := c.ppsLeft - 10
      cycles := r.2
      slew := c.slew.map (fun q => q - ((r.1 : Rat) - 5 * (1 + c.rho)))
      holdNs := if c.holdRun then c.holdNs + 5 else c.holdNs
      inState := if c.mode = .locked then 0 else c.inState + 5 } }

/-- The field clock's state changes: a notice goes out, and FREE-RUN runs the reaction of 0x3420:03 (R222, SM19). -/
def setFclk (s : State) (c : FieldClock) : State :=
  let old := fclkByte s
  let was := s.fclk.mode
  let c := if c.mode = was then c else { c with inRun := 0, outRun := 0, inState := 0 }
  let s := { s with fclk := c }
  let s := if fclkByte s = old then s else clockNoticeField s old
  if c.mode = was then s
  else if c.mode = .holdover then emcy s 0xFF04 0xFF 0
  else if c.mode = .freeRun then
    startReaction (emcy s 0xFF05 0xFF 0) (reactionOf (objN s 0x3420 3)) (objN s 0x3420 6) 19
  else s

/-- No drift frame for the loss timeout, or link lost on both ports (R156). -/
def fieldClockLoss (s : State) : State :=
  let c := { s.fclk with inPlace := none, inRun := 0, outRun := 0, fresh := true }
  if c.ref then s
  else
    match c.mode with
    | .locked => setFclk s { c with mode := .holdover, holdRun := true }
    | .holdover => { s with fclk := { c with holdRun := true } }
    | .freeRun => { s with fclk := c }

/-- A clock discontinuity record (R129, R893).
Log entry 10: DESIGN CHOICE, unsafe. -/
def discontinuity (clock cause before old new : Nat) : FaultRec :=
  mkRec 2 0 (leBytes 1 clock ++ leBytes 1 cause ++ leBytes 1 before ++ [0, 0, 0, 0, 0] ++ leBytes 8 old ++ leBytes 8 new)

/-- First grid point at or after `now` (R1045); a single shot whose start has passed makes no edge. -/
def gridAt (start period now : Nat) : Option Nat :=
  if period = 0 then (if now ≤ start then some start else none)
  else if now ≤ start then some start
  else some (start + (now - start + period - 1) / period * period)

/-- A Type 12 register (R324). -/
def busReg (s : State) (a : Nat) : Nat := tget 0 s.bus.regs a

/-- Replace a Type 12 register. -/
def setBusReg (s : State) (a v : Nat) : State := { s with bus := { s.bus with regs := tset 0 s.bus.regs a v } }

/-- SYNC0 is activated in cyclic operation with a cycle time below 25,000 ns (R1039). -/
def syncShort (s : State) : Bool :=
  (busReg s 0x0981).testBit 0 && (busReg s 0x0981).testBit 1 && decide (1 ≤ busReg s 0x09A0) && decide (busReg s 0x09A0 < 25000)

/-- SYNC1's period: a multiple of SYNC0's, or SYNC0's with a shift (R141).
Log entry 11: PRESUMED, unsafe. -/
def sync1Period (s : State) : Nat :=
  let c0 := busReg s 0x09A0
  if c0 = 0 then 0 else max 1 (busReg s 0x09A4 / c0) * c0

/-- The next grid points from the present field time (R1039, R1045).
Log entry 11: PRESUMED, unsafe. -/
def syncPlan (s : State) : State :=
  let act := busReg s 0x0981
  let on := act.testBit 0 && !syncShort s
  let start := busReg s 0x0990
  { s with sync := { s.sync with
      next0 := if on && act.testBit 1 then gridAt start (busReg s 0x09A0) s.fclk.time else none
      next1 := if on && act.testBit 2 then gridAt (start + busReg s 0x09A4) (sync1Period s) s.fclk.time else none } }

/-- First whole second at or after `t`, ns (R1045). -/
def wholeSecond (t : Nat) : Nat := (t + 999999999) / 1000000000 * 1000000000

/-- The field clock steps to `new` (R116, R119, R129, R161, R1045). -/
def fieldStep (s : State) (new cause : Nat) : State :=
  let old := s.fclk.time
  let before := fclkByte s
  let c := s.fclk
  let s := { s with
    fclk := { c with time := new, stepped := true, permit := false, slew := none, inPlace := none, drift := none, fresh := true,
                     fsteps := (c.fsteps + 1) % 256, lastStepAt := some new, ppsNext := wholeSecond new }
    sync := { s.sync with cycleStart := ((s.sync.cycleStart : Int) + new - old).toNat, rephase := none, deferred := false } }
  let s := bump (logField s (discontinuity 0 cause before old new)) 0x2222 2
  timeStepCompare (syncPlan s) old

/-- A write of the system-time offset, register 0x0920: the permitted step, or a slew (R116, R117, R119). The register holds an
offset, so the write moves field time by the value's change and by what a running slew has still to close.
Log entry 9: DEDUCED, unsafe. Log entry 117: DEDUCED, unsafe. -/
def offsetWrite (s : State) (value : Nat) : State :=
  let delta := toSigned 64 (value + 2 ^ 64 - busReg s 0x0920)
  let left : Rat := s.fclk.slew.getD 0
  let s := setBusReg s 0x0920 value
  if !s.fclk.stepped || s.fclk.permit then
    fieldStep s (ofSigned 64 ((s.fclk.time : Int) + ratRne left + delta)) (if s.fclk.stepped then 1 else 0)
  else if left + (delta : Rat) = 0 then { s with fclk := { s.fclk with slew := none, fresh := true } }
  else { s with fclk := { s.fclk with slew := some (left + (delta : Rat)) } }

/-- ρ after a drift frame with difference `d` and own time `t` since the last one (R115); without a positive `t` the change
is a free value (log entry 3).
Log entry 3: DESIGN CHOICE, safe. Log entry 9: DEDUCED, unsafe. -/
def driftRho (s : State) (d : Int) (t : Int) : State :=
  let c := s.fclk
  let prev : Int := if c.fresh then d else (match c.drift with | some p => p.1 | none => d)
  if 0 < t then
    let delta := clampR (-ppm1) ppm1 (((d - prev : Int) : Rat) / (t : Rat) + (d : Rat) / (16 * (t : Rat)))
    { s with fclk := { c with rho := clampR (-ppm500) ppm500 (c.rho + delta), inPlace := none } }
  else
    drawn { s with fclk := { c with rho := clampR (-ppm500) ppm500 (c.rho + clampR (-ppm1) ppm1 (freeRat s)), inPlace := none } }

/-- The correction in place of ρ while not LOCKED and outside the threshold (R115). -/
def driftInPlace (s : State) (d : Int) (t : Int) : State :=
  let c := s.fclk
  if 0 < t then { s with fclk := { c with inPlace := some (clampR (-ppm500) ppm500 (c.rho + (d : Rat) / (t : Rat))) } }
  else drawn { s with fclk := { c with inPlace := some (clampR (-ppm500) ppm500 (freeRat s)) } }

/-- A drift-compensation frame (R115, R156); the reference time has the propagation delay of register 0x0928 added (R324).
Log entry 9: DEDUCED, unsafe. Log entry 115: PRESUMED, unsafe. -/
def driftFrame (s : State) (reference : Nat) : State :=
  if s.fclk.ref then s
  else
    let own := s.fclk.time
    let d := toSigned 64 (reference + busReg s 0x0928 + 2 ^ 64 - own)
    let t : Int := match s.fclk.drift with | some p => (own : Int) - p.2 | none => 0
    let s := putI s 0x2220 4 (satS 32 (-d))
    let s := if (objN s 0x2221 3 : Int) * 1000000 < t then { s with fclk := { s.fclk with fresh := true } } else s
    let inside := decide (d.natAbs ≤ objN s 0x2221 2)
    let s := if s.fclk.mode ≠ .locked ∧ inside = false then driftInPlace s d t
             else if s.fclk.slew.isSome then { s with fclk := { s.fclk with inPlace := none } }
             else driftRho s d t
    let c : FieldClock := { s.fclk with drift := some (d, own), fresh := false, holdRun := (if s.fclk.mode = .holdover then false else s.fclk.holdRun), inRun := if inside then s.fclk.inRun + 1 else 0, outRun := if inside then 0 else s.fclk.outRun + 1 }
    if c.mode ≠ .locked ∧ 16 ≤ c.inRun then setFclk s { c with mode := .locked, never := false, holdNs := 0, holdRun := false }
    else if c.mode = .locked ∧ 16 ≤ c.outRun then setFclk s { c with mode := .holdover, holdRun := false }
    else { s with fclk := c }

/-- The reference role starts or ends (R121, R156). -/
def setRole (s : State) (on : Bool) : State :=
  if on && !s.fclk.ref then
    setFclk s { s.fclk with rho := 0, inPlace := none, never := false, ref := true, mode := .locked, holdNs := 0, holdRun := false, drift := none, fresh := true }
  else if !on && s.fclk.ref then setFclk s { s.fclk with rho := 0, ref := false, mode := .freeRun }
  else s

/-- Some stage set is armed with a time instant (R118). -/
def timeSetArmed (s : State) : Bool :=
  s.sets.any (fun p => p.2.mode == .armed && (match p.2.instant with | some (.time _) => true | _ => false))

/-- A write of 1 to 0x2222:01 (R118, R119). -/
def reacquireWrite (s : State) : State × Nat :=
  if anyArmed s || anyTimeArmed s || timeSetArmed s then (s, 0x08000022)
  else ({ s with fclk := { s.fclk with permit := true } }, 0)

/-- A checked time event entry takes effect and is judged as armed (R148, R168, R1036). -/
def timeEntrySet (s : State) (n e : Nat) : State :=
  let e := setBits (setBits e 125 123 (tStatus (timeEntry s n))) 122 120 0
  let s := setTimeEntry s n e
  if tArmed e && decide (0 < timePast s e) then timeLateOrMiss s n else s

/-- A checked write of a time event entry (R148, R149, R168, R1036). -/
def timeEntryWrite (s : State) (n e : Nat) : State × Nat :=
  if !timeEntryOk e then (s, 0x06090030)
  else if tArmed e && s.fclk.never && !s.fclk.ref then (s, 0x08000022)
  else (timeEntrySet s n e, 0)

/-! ### The host PTP clock (R111, R122 to R131, R157, R159) -/

/-- A value of 0x2281 as the host die holds it (R130). -/
def ptpCfg (s : State) (sub : Nat) : List Byte := tget (dfltOf 0x2281 sub) s.hclk.cfg sub

/-- R111: 2.5 ns of the host clock, corrected by the servo's rate adjustment. -/
def hostTick (s : State) : State :=
  let c := s.hclk
  let q : Rat := c.sub + 5 / 2 * (1 + c.y)
  { s with pulses := pulseTick s.pulses .host 5
           hclk := { c with ppsLeft := c.ppsLeft - 5, time := (c.time + q.floor.toNat) % 2 ^ 64, sub := q - (q.floor : Rat),
                            holdNs := if c.holdRun then c.holdNs + 5 / 2 else c.holdNs } }

/-- The host clock's state changes: a clock notice, and a log record with a host interrupt where the field clock sends an
emergency (R157, R222). -/
def setHclk (s : State) (c : HostClock) : State :=
  let old := hclkByte s
  let was := s.hclk.mode
  let c := if c.mode = was then c else { c with inRun := 0, outRun := 0 }
  let s := { s with hclk := c }
  let s := if hclkByte s = old then s else clockNoticeHost s old
  if c.mode = was then s
  else if c.mode = .holdover then hostIrq (logHost s (mkRec 9 0 (eventDetail (Config.eventCode 10).toNat 0))) 2
  else if c.mode = .freeRun then hostIrq (logHost s (mkRec 9 0 (eventDetail (Config.eventCode 11).toNat 0))) 2
  else s

/-- No Sync message for the loss timeout, or link lost on both ports (R157): the rate freezes and Σo clears for the return
(R159). -/
def hostClockLoss (s : State) : State :=
  let c := { s.hclk with sum := 0, inRun := 0, outRun := 0 }
  match c.mode with
  | .locked => setHclk s { c with mode := .holdover, holdRun := true }
  | .holdover => { s with hclk := { c with holdRun := true } }
  | .freeRun => { s with hclk := c }

/-- A gate list restarts at entry 0 at its next cycle start at or after `now` (R131). -/
def GateList.restart (g : GateList) (now : Nat) : GateList := { g with entry := 0, start := if g.cycle = 0 then none else gridAt g.base g.cycle now }

/-- The host PTP clock steps to `new` (R127, R129, R131, R165, R1045).
Log entry 10: DESIGN CHOICE, unsafe. -/
def hostStep (s : State) (new cause : Nat) : State :=
  let old := s.hclk.time
  let before := hclkByte s
  let s := { s with hclk := { s.hclk with time := new, sub := 0, sum := 0, gates := s.hclk.gates.map (fun g => g.restart new),
                                          ppsNext := wholeSecond new, steps := s.hclk.steps + 1 } }
  logHost s (discontinuity 1 cause before old new)

/-- Offset of the own clock from the master, from a Sync message's times and the delay exchange of the profile in force: the
delay request-response of profile 0, the peer delay of profiles 1 and 2 (R122, R124).
Log entry 119: PRESUMED, unsafe. -/
def ptpOffset (s : State) (m : PtpSync) : Int :=
  let path2 : Int :=
    if leNat (ptpCfg s 8) = 0 then ((m.ingress : Int) - m.origin) + ((m.d4 : Int) - m.d1) else ((m.d4 : Int) - m.d1) - ((m.d3 : Int) - m.d2)
  (m.origin : Int) + m.correction - m.ingress + rneDiv path2 2

/-- The servo at a Sync message with offset `o` and interval `dt` ns (R124 to R127, R157). At a sample that steps the clock the rate
adjustment stays as it was.
Log entry 9: DEDUCED, unsafe. Log entry 116: DESIGN CHOICE, unsafe. -/
def ptpSync (s : State) (o : Int) (dt : Nat) : State :=
  let limit : Rat := ((leNat (ptpCfg s 6) : Nat) : Rat) / 1000000000
  let kp := fRat (BitVec.ofNat 32 (leNat (ptpCfg s 1)))
  let ki := fRat (BitVec.ofNat 32 (leNat (ptpCfg s 2)))
  let s := { s with hclk := { s.hclk with offset := o } }
  let s :=
    if leNat (ptpCfg s 3) < o.natAbs then hostStep s (ofSigned 64 ((s.hclk.time : Int) + o)) 2
    else if dt = 0 then
      drawn { s with hclk := { s.hclk with y := clampR (-limit) limit (freeRat s) } }
    else
      let t : Rat := (dt : Rat)
      let top : Rat := if ki = 0 then 0 else limit * t / (if ki < 0 then -ki else ki)
      let sum : Rat := if ki = 0 then s.hclk.sum + (o : Rat) else clampR (-top) top (s.hclk.sum + (o : Rat))
      { s with hclk := { s.hclk with sum := sum, y := clampR (-limit) limit (kp * (o : Rat) / t + ki * sum / t) } }
  let inside := decide (o.natAbs ≤ leNat (ptpCfg s 5))
  let c : HostClock := { s.hclk with holdRun := (if s.hclk.mode = .holdover then false else s.hclk.holdRun), inRun := if inside then s.hclk.inRun + 1 else 0, outRun := if inside then 0 else s.hclk.outRun + 1 }
  if c.mode ≠ .locked ∧ 8 ≤ c.inRun then setHclk s { c with mode := .locked, never := false, holdNs := 0, holdRun := false, sum := 0 }
  else if c.mode = .locked ∧ 8 ≤ c.outRun then setHclk s { c with mode := .holdover, holdRun := false }
  else { s with hclk := c }

/-! ### The replica of field time (R132 to R137, R162, R1040) -/

/-- R132, R135: one tally symbol. -/
def replicaTick (s : State) : State :=
  let c := s.trep
  let rho : Rat := (c.rho : Rat) / 1000000000
  let m := alterEvery rho 4
  let r : Nat × Nat × Int :=
    if 0 < c.absorb then (5, c.symbols + 1, c.absorb - 1)
    else if c.absorb < 0 then (3, c.symbols + 1, c.absorb + 1)
    else if m ≠ 0 ∧ m ≤ c.symbols + 1 then (if 0 < rho then 5 else 3, 0, 0)
    else (4, c.symbols + 1, 0)
  { s with trep := { c with time := (c.time + r.1) % 2 ^ 64, symbols := r.2.1, absorb := r.2.2 } }

/-- A heartbeat's time record reaches the replica (R134 to R136, R162, R1040). -/
def replicaHeartbeat (s : State) (hb : FieldHb) (rArr : Nat) : State :=
  if !s.link.tallyLock then s
  else
    let c := s.trep
    let corr : Int := (hb.tSend : Int) + s.link.d - rArr
    let moved := c.invalid || decide (8 < corr.natAbs) || decide (c.fsteps ≠ some hb.fsteps.toNat)
    let c' : TimeReplica := { c with rho := hb.rho, fsteps := some hb.fsteps.toNat, invalid := false, stampInvalid := c.invalid, stepped := moved,
                                      steps := if c.fsteps.isSome && c.fsteps != some hb.fsteps.toNat then c.steps + 1 else c.steps }
    if moved then { s with trep := { c' with time := ofSigned 64 ((c.time : Int) + corr), absorb := 0 } }
    else { s with trep := { c' with absorb := corr } }

/-! ### Conversion (R138 to R140) -/

/-- Host and field steps at the capture of the pair with a sequence number. -/
def pairMark (s : State) (seq : Nat) : Nat × Nat :=
  match s.hclk.pairMarks.find? (fun m => m.1 == seq) with
  | some m => m.2
  | none => (s.hclk.steps, s.trep.steps)

/-- A host pair is received (R138, R140).
Log entry 10: DESIGN CHOICE, unsafe. -/
def takePair (s : State) (f p seq : Nat) : State :=
  { s with pairs := { s.pairs with p1 := s.pairs.p2, p2 := some (f, p, seq), mark1 := s.pairs.mark2, mark2 := pairMark s seq } }

/-- Host PTP time of a field time, none when the conversion is invalid: a host step or a field step lies between the two pairs, or
they are more than 1 ms apart (R139, R140).
Log entry 8: DESIGN CHOICE, safe. -/
def convert (s : State) (t : Nat) : Option Rat :=
  match s.pairs.p1, s.pairs.p2 with
  | some (f1, q1, _), some (f2, q2, _) =>
    if s.pairs.mark1 ≠ s.pairs.mark2 ∨ f2 ≤ f1 ∨ 1000000 < f2 - f1 then none
    else some ((q2 : Rat) + ((t : Rat) - (f2 : Rat)) * ((q2 : Rat) - (q1 : Rat)) / ((f2 : Rat) - (f1 : Rat)))
  | _, _ => none

/-- A write to 0x2282:03 (R140); without a valid conversion the time is a free value (log entry 3).
Log entry 3: DESIGN CHOICE, safe. Log entry 8: DESIGN CHOICE, safe. -/
def conversionWrite (s : State) (t : Nat) : State :=
  let s := putN s 0x2282 3 t
  match (if hostAnswers s then convert s t else none) with
  | some q => putN (putN s 0x2282 4 (ofSigned 64 (ratRne q))) 0x2282 5 0
  | none => drawn (putN (putN s 0x2282 4 (freeW s).toNat) 0x2282 5 (if hostAnswers s then 1 else 2))

/-! ### The control-cycle timer (R152 to R155) -/

/-- A SYNC edge at field time `t` re-phases a timer with source `n`; a negative phase is taken one SYNC cycle on
(R152).
Log entry 12: DEDUCED, unsafe. -/
def syncRephase (s : State) (n t period : Nat) : State :=
  if objN s 0x2240 1 ≠ n then s
  else
    let ph := objI s 0x2240 3
    if ph < 0 then (if period = 0 then s else rephase s ((t : Int) + ph + period).toNat)
    else rephase s (t + ph.toNat)

/-- Whether a control cycle starts now, and the timer after it (R152, R155): at the natural end of the running cycle, or at a
re-phase that shortens it by no more than 500 ppm. An earlier re-phase lets the running cycle end naturally and starts the next one
a period after its own point.
Log entry 12: DEDUCED, unsafe. -/
def cycleStarts (s : State) : State × Bool :=
  let p := objN s 0x2240 2
  let now := s.fclk.time
  let run := now - s.sync.cycleStart
  let first := decide (s.sync.cycles = 0)
  let go : State := { s with sync := { s.sync with cycleStart := now, cycleLen := if run = 0 ∨ first then p else run, cycles := s.sync.cycles + 1 } }
  let rephased : State := { go with sync := { go.sync with rephase := none, deferred := false } }
  match s.sync.rephase with
  | some r =>
    if s.sync.deferred || first then (if r ≤ now then (rephased, true) else (s, false))
    else if r - s.sync.cycleStart < p - p / 2000 then
      (if r + p ≤ now then (rephased, true) else ({ s with sync := { s.sync with rephase := some (r + p), deferred := true } }, false))
    else if r ≤ now then ((if run < p then bump rephased 0x2240 4 else rephased), true)
    else if p ≤ run then (go, true)
    else (s, false)
  | none => if first || decide (p ≤ run) then (go, true) else (s, false)

/-! ### The commands -/

/-- R110, R113. -/
def execFieldTimeTick (s : State) : Out := .next (if fieldClocks s then fieldTick s else s)

/-- R132. -/
def execReplicaSymbolTick (s : State) : Out := .next (if hostHw s then replicaTick s else s)

/-- R115. -/
def execDriftFrame (reference : BitVec 64) (s : State) : Out :=
  .next (if fieldClocks s then driftFrame s reference.toNat else s)

/-- R116, R117, R119. -/
def execSystemTimeOffsetWrite (value : BitVec 64) (s : State) : Out :=
  .next (if fieldClocks s then offsetWrite s value.toNat else s)

/-- R117: the written offset is reached, to the nanosecond that field time counts in.
Log entry 112: DESIGN CHOICE, unsafe. -/
def execSlewEnd (s : State) : Out :=
  .next (match s.fclk.slew with
    | some q => if rabs q < 1 then { s with fclk := { s.fclk with slew := none, fresh := true } } else s
    | none => s)

/-- R156, R157. -/
def execClockLossTimeout (clock : Die) (s : State) : Out :=
  .next (match clock with
    | .field => if fieldHw s then fieldClockLoss s else s
    | .host => if hostHw s then hostClockLoss s else s)

/-- R156, R157: the holdover timer reaches its limit. -/
def execHoldoverLimitExpiry (clock : Die) (s : State) : Out :=
  .next (match clock with
    | .field => if fieldHw s && s.fclk.mode == .holdover && s.fclk.holdRun then setFclk s { s.fclk with mode := .freeRun, holdRun := false } else s
    | .host => if hostHw s && s.hclk.mode == .holdover && s.hclk.holdRun then setHclk s { s.hclk with mode := .freeRun, holdRun := false } else s)

/-- R122, R124 to R127: a Sync message; only those of the selected master drive the servo (R157). -/
def execPtpSyncMessage (msg : PtpSync) (s : State) : Out :=
  .next (if hostHw s && msg.selected then ptpSync { s with hclk := { s.hclk with port := msg.port.val } } (ptpOffset s msg) msg.interval else s)

/-- Length of a SYNC pulse, ns: register 0x0982 in units of 10 ns (R141, R324).
Log entry 11: PRESUMED, unsafe. -/
def syncPulse (s : State) : Nat := 10 * busReg s 0x0982

/-- R141, R1045: the pulse of a SYNC output ends when its length is over. -/
def execSyncPulseEnd (output : Fin 2) (s : State) : Out :=
  .next (if output = 0 then (if s.sync.left0 = 0 then { s with sync := { s.sync with sync0 := false } } else s)
    else (if s.sync.left1 = 0 then { s with sync := { s.sync with sync1 := false } } else s))

/-- R89, R141, R152. -/
def execSync0Edge (s : State) : Out :=
  .next (match s.sync.next0 with
    | some g =>
      if fieldHw s && decide (g ≤ s.fclk.time) then
        let p := busReg s 0x09A0
        let n := { s with sync := { s.sync with sync0 := true, left0 := syncPulse s, next0 := if p = 0 then none else some (g + p) } }
        let n := if objB n 0x2260 1 then putN (putI n 0x2260 2 (linePos n)) 0x2260 3 g else n
        syncRephase n 0 g p
      else s
    | none => s)

/-- R141, R152. -/
def execSync1Edge (s : State) : Out :=
  .next (match s.sync.next1 with
    | some g =>
      if fieldHw s && decide (g ≤ s.fclk.time) then
        let p := sync1Period s
        syncRephase { s with sync := { s.sync with sync1 := true, left1 := syncPulse s, next1 := if p = 0 then none else some (g + p) } } 1 g p
      else s
    | none => s)

/-- R143, R144. -/
def execLatchEdge (input : Fin 2) (rising : Bool) (s : State) : Out :=
  .next (if fieldHw s then
      let k := 2 * input.val + (if rising then 0 else 1)
      putI (setBusReg s (0x09B0 + 8 * k) s.fclk.time) 0x2241 (k + 1) (linePos s)
    else s)

/-- Width of a PPS pulse in a clock state, in units of 0.5 ns (R146). -/
def ppsWidth (m : ClockMode) : Nat := match m with | .locked => 20000000 | .holdover => 200000000 | .freeRun => 600000000

/-- R145, R147, R1045: a PPS output rises at each whole second of its clock. -/
def execPpsSecond (clock : Die) (s : State) : Out :=
  .next (match clock with
    | .field =>
      if fieldClocks s && decide (s.fclk.ppsNext ≤ s.fclk.time) then
        { s with fclk := { s.fclk with pps := true, ppsLeft := max s.fclk.ppsLeft (ppsWidth s.fclk.mode), ppsNext := wholeSecond (s.fclk.time + 1) } }
      else s
    | .host =>
      if hostHw s && decide (s.hclk.ppsNext ≤ s.hclk.time) then
        { s with hclk := { s.hclk with pps := true, ppsLeft := max s.hclk.ppsLeft (ppsWidth s.hclk.mode), ppsNext := wholeSecond (s.hclk.time + 1) } }
      else s)

/-- R146: a PPS pulse ends when its width is over. -/
def execPpsPulseEnd (clock : Die) (s : State) : Out :=
  .next (match clock with
    | .field => if s.fclk.ppsLeft = 0 then { s with fclk := { s.fclk with pps := false } } else s
    | .host => if s.hclk.ppsLeft = 0 then { s with hclk := { s.hclk with pps := false } } else s)

/-- R150. -/
def execTimeEventFire (entry : Fin 64) (s : State) : Out :=
  .next (let e := timeEntry s entry.val
    if fieldHw s && tArmed e && decide (0 ≤ timePast s e) then timeFire s entry.val false else s)

/-- 2.5 ns of the host reference: 400 of them are 1 µs of LT, which wraps (R696; log entry 41).
Log entry 41: DESIGN CHOICE, unsafe. -/
def lanternTick (s : State) : State :=
  if s.lan.ltSub + 1 < 400 then { s with lan := { s.lan with ltSub := s.lan.ltSub + 1 } }
  else { s with lan := { s.lan with ltSub := 0, lt := wrap32 (s.lan.lt + 1) } }

/-- R111, R696: host PTP time, and Lantern's own time in every state in which the reference runs. -/
def execHostPtpTick (s : State) : Out :=
  .next (
    let s := if hostHw s || s.hboot.mode == .watch then lanternTick s else s
    if hostHw s then hostTick s else s)

/-- R157. -/
def execEthernetLinkLoss (s : State) : Out := .next (if hostHw s then hostClockLoss s else s)

end Sys2Proof.Machine
end

