-- ==== Sys2Proof/Machine/Motion.lean ====
section
/-! DEFINITION. Motion I/O (chapter 16): PWM, sigma-delta and SAR conversion, axis encoders, the trip path and the STO
inputs. -/

namespace Sys2Proof.Machine

/-! ### PWM (R764 to R771) -/

/-- PWM mode in force: 0 off, 1 centre, 2 edge (R769, R794). -/
def pwmMode (m : Motion) : Nat := m.live.mode

/-- TOP in force. -/
def pwmTop (m : Motion) : Nat := m.live.top

/-- Dead time in force, ns. -/
def pwmDead (m : Motion) : Nat := m.live.dead

/-- Minimum pulse in force, ns. -/
def pwmMin (m : Motion) : Nat := m.live.minPulse

/-- Coarse part of the compare of phase `ph` (R766). -/
def coarse (m : Motion) (ph : Nat) : Nat := lget 0 m.cmp ph / 32

/-- PWM period, ns (R765). -/
def pwmPeriod (mode top : Nat) : Nat := if mode = 1 then 2 * top * 5 else top * 5

/-- Steps of 5 ns in a period of the counter in force (R765). -/
def pwmSteps (m : Motion) : Nat := if m.live.mode = 1 then 2 * m.live.top else m.live.top

/-- The 16-bit PWM counter of an axis (R765). -/
def pwmCounter (s : State) (a : Nat) : Nat :=
  let m := ax s a
  let d := s.fclk.ticks - m.zeroAt
  if d ≤ m.live.top then d else if m.live.mode = 1 then 2 * m.live.top - d else m.live.top

/-- The 200 MHz cycle at which a synchronised counter restarts for the present control cycle (R770).
Log entry 20: DEDUCED, unsafe. -/
def pwmRestart (s : State) (a : Nat) : Option Nat :=
  let r := s.sync.startTick + (ax s a).live.offset
  if (ax s a).live.sync && decide (s.sync.cycles ≠ 0) && decide ((ax s a).zeroAt < r) then some r else none

/-- The 200 MHz cycle of the next counter zero, once it has come: the end of the period, or the restart when that is earlier (R765,
R770). -/
def nextZero (s : State) (a : Nat) : Option Nat :=
  let e := (ax s a).zeroAt + pwmSteps (ax s a)
  let z := match pwmRestart s a with | some r => min r e | none => e
  if z ≤ s.fclk.ticks then some z else none

/-- The counter has reached TOP, which in edge-aligned counting is its last step (R765). -/
def topReached (s : State) (a : Nat) : Bool :=
  let m := ax s a
  m.rising && decide ((if m.live.mode = 1 then m.zeroAt + m.live.top else m.zeroAt + m.live.top - 1) ≤ s.fclk.ticks)

/-- Level of output `k` of an axis after polarity (R764, R794). -/
def pwmLevel (m : Motion) (k : Nat) : Bool := lget false m.outs k != m.live.polarity.testBit k

/-- The outputs of an axis that does not drive duty: trip state 0 under an STO latch, else the trip state of A + 0x30:07;
all inactive until the first enable after a field-die reset (R771, R789, R801).
Log entry 16: DEDUCED, safe. -/
def idleOuts (m : Motion) : List Bool := tripOuts (!m.sto && m.everOn && decide (m.live.trip = 1))

/-- The axis drives its trip state; F_GDENn falls when that state is 0 (R771, R789).
Log entry 16: DEDUCED, safe. -/
def driveTrip (s : State) (a : Nat) : State :=
  let m := ax s a
  let outs := idleOuts m
  setAx s a { m with driving := false, outs := outs, gden := m.gden && outs != tripOuts false }

/-- Width after dead time, in ns, of the pulse on the high or low side of a phase; the fine delays of its two edges are
equal (R766, R768).
Log entry 17: DEDUCED, unsafe. -/
def pulseWidth (m : Motion) (ph : Nat) (high : Bool) : Int :=
  let c : Int := (min (coarse m ph) (pwmTop m) : Nat)
  let t : Int := (pwmTop m : Nat)
  let steps := if high then c else t - c
  (if pwmMode m = 1 then 2 * steps * 5 else steps * 5) - (pwmDead m : Int)

/-- A side's activating edge is made unless the pulse is shorter than the minimum (R768); 100 % and 0 % duty have no
pulse to suppress (R797).
Log entry 17: DEDUCED, unsafe. -/
def pulseKept (m : Motion) (ph : Nat) (high : Bool) : Bool :=
  let whole := if high then decide (pwmTop m < coarse m ph) else decide (coarse m ph = 0)
  whole || decide ((pwmMin m : Int) ≤ pulseWidth m ph high)

/-- The activating edge of the side that phase `ph` asks for (R767). -/
def activate (m : Motion) (ph : Nat) : Motion :=
  let high := lget false m.below ph
  if pulseKept m ph high then { m with outs := lset m.outs (2 * ph + (if high then 0 else 1)) true } else m

/-- The counter comes to stand below, or at or above, the compare of phase `ph` in cycle `now`: the deactivating edge is made at
once, the activating edge after the dead time (R766, R767). -/
def phaseWant (m : Motion) (now ph : Nat) (want : Bool) : Motion :=
  if lget false m.below ph = want then m
  else
    let m := { m with below := lset m.below ph want, edgeAt := lset m.edgeAt ph now }
    if !m.driving || pwmMode m = 0 then m
    else
      let m := { m with outs := lset m.outs (2 * ph + (if want then 1 else 0)) false }
      if pwmDead m = 0 then activate m ph else m

/-- All three phases follow the counter at zero or TOP. -/
def phasesAt (m : Motion) (now : Nat) (top : Bool) : Motion :=
  [0, 1, 2].foldl (fun m ph => phaseWant m now ph (if top then decide (pwmTop m < coarse m ph) else decide (0 < coarse m ph))) m

/-- The settings that wait for the next reload (R769). -/
def pwmShadow (s : State) (a : Nat) : PwmSet :=
  let o := fun (k : Nat) => objN s (axA a + 0x30) k
  { mode := o 1, top := o 2, reload := o 3, dead := o 4, offset := o 5, sync := decide (o 6 ≠ 0), trip := o 7, polarity := o 8, minPulse := o 9 }

/-- An axis that the control engine drives and nothing trips takes duty at the next reload (R771, R835).
Log entry 20: DEDUCED, unsafe. -/
def mayDrive (s : State) (a : Nat) : Bool :=
  let m := ax s a
  (ce s a).drive.running && m.gden && !m.trip && !m.sto && !torqueOff s a

/-- Loop overrun: a reload came before the axis's compare was written (R854). -/
def overrun (s : State) (a : Nat) : State :=
  let m := ax s a
  let s := bump (setAx s a { m with overruns := m.overruns + 1 }) 0x2242 2
  if 3 ≤ m.overruns + 1 then
    let mask := ((List.range 8).filter (fun i => (ce s i).drive.running)).foldl (fun k i => k + 2 ^ i) 0
    startReaction s .sto mask 22 (some 0x6010) (objN s 0x2242 2) a
  else s

/-- A reload point (R769): shadow values load, an axis just enabled begins to drive, and a missing compare is an
overrun. -/
def reload (s : State) (a : Nat) : State :=
  let m := ax s a
  let m := { m with cmp := m.shadow, live := pwmShadow s a, driving := m.driving || (mayDrive s a && decide (objN s (axA a + 0x30) 1 ≠ 0)) }
  let late := m.driving && !m.written
  let s := setAx s a m
  let s := if pwmMode m = 0 || !m.driving then driveTrip s a else s
  if late then overrun s a else s

/-- The reload point is selected; edge-aligned mode reloads only at zero (R769). -/
def reloads (s : State) (a : Nat) (top : Bool) : Bool :=
  let sel := (ax s a).live.reload
  if pwmMode (ax s a) = 2 then !top else sel = 2 || decide (sel = 1) == top

/-! ### Encoders (R780 to R785, R799) -/

/-- Encoder mode of the axis (R780). -/
def encMode (s : State) (a : Nat) : Nat := objN s (axA a + 0x32) 1

/-- Bit `i` of the encoder status replaced (A + 0x32:09). -/
def encBit (m : Motion) (i : Nat) (on : Bool) : Motion :=
  { m with encStatus := BitVec.ofNat 6 (setBit m.encStatus.toNat i on) }

/-- The status is published in its object. -/
def encPublish (s : State) (a : Nat) : State :=
  putN s (axA a + 0x32) 9 (ax s a).encStatus.toNat

/-- The 0x605E reaction of an axis: 0 ends torque at once, 1 and 2 stop on the 0x6084 and the 0x6085 ramp and then end in
Fault (R836). The mechanism is recorded (R888).
Log entry 27: PRESUMED, unsafe. -/
def faultOption (s : State) (a mech : Nat) (code : Option Nat) (detail : Nat) : State :=
  let s := match code with | some k => emcy s k a detail | none => s
  if !(ce s a).drive.running || !fieldUp s then s
  else
    let o := objN s (ciaI 0x605E a) 0
    let s := logField (putN s 0x3440 2 mech) (mkRec 7 mech (leBytes 1 (2 ^ a) ++ [0] ++ leBytes 2 (code.getD 0)) (axis := a))
    if o = 0 then
      let s := axisClear s a
      driveTrip (setCe s a { ce s a with drive := .fault }) a
    else if (ce s a).drive = .faultReaction then s
    else
      let s := flushFifo s a
      setCe s a { ce s a with drive := .faultReaction, setp := .stopping, stopFast := decide (o = 2) }

/-- A capture is invalid: the previous position stays, and the second in a row runs the 0x605E reaction (R799, R857). -/
def badCapture (s : State) (a : Nat) : State :=
  let m := encBit (ax s a) 0 false
  let s := encPublish (setAx s a { m with badCaptures := m.badCaptures + 1, fresh := false }) a
  if m.badCaptures + 1 = 2 then faultOption s a 0 none 0 else s

/-- A capture is valid: `inc` encoder increments (R785, R803). -/
def goodCapture (s : State) (a : Nat) (inc : Int) : State :=
  let m := encBit (ax s a) 0 true
  let s := putI (setAx s a { m with captured := toSigned 64 (ofSigned 64 (inc * 65536)), badCaptures := 0, fresh := true, freshAt := s.fclk.ticks }) (axA a + 0x32) 8 inc
  encPublish s a

/-- SAR channels of the sine and the cosine, A + 0x32:07 (R784). -/
def sinCosChannels (s : State) (a : Nat) : Nat × Nat := (bits (objN s (axA a + 0x32) 7) 2 0, bits (objN s (axA a + 0x32) 7) 6 4)

/-- The fine value of a sin/cos capture, from the SAR channels of A + 0x32:07 and the quarter the count stands in
(R784); the arctangent's rounding and zero level are not stated (log entry 3).
Log entry 3: DESIGN CHOICE, safe. Log entry 18: DESIGN CHOICE, unsafe. -/
def fineValue (s : State) (a : Nat) : Nat :=
  let c := sinCosChannels s a
  (Config.sinCosFine (lget 0 s.eng.adc c.1) (lget 0 s.eng.adc c.2) ((ax s a).scCount % 4).toNat).toNat

/-- A SAR channel that sin/cos captures await gives its result; a capture that has both forms its position (R776, R784). -/
def sinCosResult (s : State) (c : Nat) : State :=
  (List.range 8).foldl
    (fun s a =>
      let m := ax s a
      if !m.scWait.contains c || decide (s.fclk.ticks < m.sampledAt + 44) then s
      else
        let rest := m.scWait.filter (· ≠ c)
        let s := setAx s a { m with scWait := rest }
        if rest.isEmpty then goodCapture s a (m.scCount * 1024 + fineValue s a) else s) s

/-- The encoder capture at the sample point (R785): a count is captured at once, a sin/cos encoder then has its two channels converted
(R784), an absolute encoder starts its frame
unless one runs (R797) or the monoflop of SSI still holds (R782).
Log entry 18: DESIGN CHOICE, unsafe. -/
def encCapture (s : State) (a : Nat) : State :=
  let m := ax s a
  let mode := encMode s a
  if mode = 1 ∨ mode = 4 then
    let bad := m.capBad || m.encStatus.getLsbD 3
    let s := setAx s a { m with capBad := false, scWait := [] }
    if bad then badCapture s a
    else if mode = 1 then goodCapture s a m.encCount
    else setAx s a { ax s a with scWait := [(sinCosChannels s a).1, (sinCosChannels s a).2], scCount := m.encCount, fresh := false }
  else if mode = 2 ∨ mode = 3 then
    (if m.frameRun || decide (s.fclk.ticks < m.frameFree) then setAx s a { m with fresh := false }
     else setAx s a { m with frameRun := true, frameAt := s.fclk.ticks, fresh := false })
  else setAx s a { m with fresh := false }

/-- The axis sample point (R775): the sigma-delta window is centred on it (R774); the first one of a control cycle lets the engine
start (R813). -/
def samplePoint (s : State) (a : Nat) : State :=
  let s := if s.eng.sampled then s else { s with eng := { s.eng with sampleAt := s.fclk.time, sampled := true } }
  encCapture (setAx s a { ax s a with sampledAt := s.fclk.ticks, sdDue := decide (objN s (axA a + 0x31) 1 ≠ 0), inputsAt := s.fclk.ticks }) a

/-- Sample point `k` of A + 0x30:0A (R775). -/
def sampleAt (s : State) (a k : Nat) : State := if objN s (axA a + 0x30) 0x0A = k then samplePoint s a else s

/-- Fault of an incremental encoder: this capture is invalid, with 0x7305 (R796, R799). -/
def encFault (s : State) (a : Nat) : State :=
  let m := ax s a
  emcy (setAx s a { m with capBad := true }) 0x7305 a m.encStatus.toNat

/-- A quadrature error of an axis encoder; four within 100 µs are a fault (R54, R95, R781, R799). -/
def axisQuadError (s : State) (a : Nat) : State :=
  let m := ax s a
  let recent := (s.fclk.time :: m.qErrs).filter (fun t => decide (s.fclk.time ≤ t + 100000))
  let s := bump (setAx s a { m with qErrs := recent }) (axA a + 0x34) 2
  if 4 ≤ recent.length then encFault s a else s

/-- The count moves by one: an edge shows that the pair is whole again (log entry 33).
Log entry 33: DEDUCED, unsafe. -/
def axisCount (s : State) (a : Nat) (fwd : Bool) : State :=
  let m := encBit (ax s a) 3 false
  encPublish (setAx s a { m with encCount := m.encCount + (if fwd then 1 else -1) }) a

/-- Edges of an ABZ or sin/cos encoder (R781, R784).
Log entry 33: DEDUCED, unsafe. -/
def axisEdge (s : State) (axis : Nat) (a b : Bool) : State :=
  let m := ax s axis
  let n := setAx s axis { m with encA := a, encB := b }
  if a != m.encA && b != m.encB then axisQuadError n axis
  else if a != m.encA then axisCount n axis (a != b)
  else if b != m.encB then axisCount n axis (a == b)
  else n

/-- Gray code of `n` bits to binary. -/
def grayToBin : Nat → Nat → Nat
  | 0, _ => 0
  | k + 1, g => g ^^^ grayToBin k (g / 2)

/-- One step of the BiSS CRC register with polynomial x⁶ + x + 1 (R783). -/
def crc6Bit (c : Nat) (b : Bool) : Nat :=
  let out := c.testBit 5 != b
  (c * 2 % 64) ^^^ (if out then 3 else 0)

/-- CRC of the low `n` bits of `v`, most significant first. -/
def crc6 : Nat → Nat → Nat → Nat
  | 0, _, c => c
  | n + 1, v, c => crc6 n v (crc6Bit c (v.testBit n))

/-- 200 MHz cycles of `n` clock periods of a serial encoder, A + 0x32:03. -/
def serialTicks (s : State) (a n : Nat) : Nat := n * 200000 / max 1 (objN s (axA a + 0x32) 3)

/-- A failed absolute frame: counted, status bit `bit` set, 0x7300 (R796, R799). -/
def absFault (s : State) (a bit : Nat) : State :=
  let m := encBit { ax s a with frameRun := false } bit true
  let s := bump (setAx s a m) (axA a + 0x34) 4
  let s := badCapture s a
  emcy s 0x7300 a (ax s a).encStatus.toNat

/-! ### Trip path (R786 to R792) -/

/-- Input of comparator A or B, µV. -/
def cmpInput (m : Motion) (b : Bool) : Nat := if b then m.cmpIn.2 else m.cmpIn.1

/-- The input of an enabled comparator lies above its high or below its low threshold; a code k stands for k × 3.0 V / 1,023 (R786,
R792).
Log entry 19: DESIGN CHOICE, unsafe. -/
def cmpOutside (s : State) (a : Nat) (b : Bool) : Bool :=
  let w := objN s (axA a + 0x33) (if b then 2 else 1)
  let x := 1023 * cmpInput (ax s a) b
  (objN s (axA a + 0x33) 4).testBit (b2n b) && (decide (3000000 * bits w 25 16 < x) || decide (x < 3000000 * bits w 9 0))

/-- A comparator trip of an axis: trip latch, trip state, Fault (R789, R853). -/
def comparatorTrip (s : State) (a : Nat) (b : Bool) : State :=
  let detail := 2 ^ b2n b ||| (b2n (cmpOutside s a false) + 2 * b2n (cmpOutside s a true))
  let s := bump (setAx s a { ax s a with trip := true }) (axA a + 0x34) 1
  let s := driveTrip s a
  let s := if (ce s a).drive.running then setCe (axisClear s a) a { ce (axisClear s a) a with drive := .fault } else s
  emcy s 0x2320 a detail

/-- Clearing latches: the trip latch when both comparators lie inside their windows, the STO latch when no input that the axis names
demands torque-off (R792). -/
def clearLatchesOf (s : State) (a : Nat) : State :=
  let m := ax s a
  let m := { m with trip := m.trip && (cmpOutside s a false || cmpOutside s a true), sto := m.sto && stoInputs s a }
  if m.driving then setAx s a m else driveTrip (setAx s a m) a

/-- Software start of a conversion group (R778).
Log entry 18: DESIGN CHOICE, unsafe. -/
def adcStart (s : State) (g : Nat) : State := adcTrigger s g 4

/-- The first group converting whose next entry on channel `c` awaits a result: group and entry (R777). -/
def adcWaiting (s : State) (c : Nat) : Option (Nat × Nat) :=
  (List.range 8).findSome? (fun g =>
    match (ax s g).group with
    | none => none
    | some l => (l.find? (fun i => lget 0xFF (groupList s g) i = c)).map (fun i => (g, i)))

/-- 200 MHz cycle at which entry `i` of a converting group delivers: 220 ns after its start, and entries on one channel start 200 ns
apart (R776, R777). -/
def adcReady (s : State) (g i : Nat) : Nat :=
  let l := groupList s g
  (ax s g).groupStart.1 + 44 + 40 * ((l.take i).filter (fun c => decide (c = lget 0xFF l i))).length

/-- Result of one entry of a group; the last ends the conversion, and a held trigger starts the next (R776, R779). -/
def adcResult (s : State) (g i v : Nat) : State :=
  let m := ax s g
  let s := putN s (axA g + 0x38) (4 + i) v
  let rest := (m.group.getD []).filter (· ≠ i)
  if rest.isEmpty then
    (if m.heldTrigger ∧ ¬(groupList s g).isEmpty then
       setAx s g { m with heldTrigger := false, group := some (List.range (groupList s g).length), groupStart := (s.fclk.ticks, 5) }
     else setAx s g { m with group := none, heldTrigger := false })
  else setAx s g { m with group := some rest }

/-! ### The commands -/

/-- R769, R770, R775, R778: counter zero, at the end of a period or at a restart.
Log entry 20: DEDUCED, unsafe. -/
def execPwmCounterZero (axis : Fin 8) (s : State) : Out :=
  let a := axis.val
  .next (match fieldHw s, nextZero s a with
    | true, some z =>
      let s := setAx s a { ax s a with zeroAt := z }
      let s := if reloads s a false then reload s a else s
      let s := setAx s a (phasesAt { ax s a with rising := true } s.fclk.ticks false)
      let s := adcTrigger s a 1
      sampleAt s a 1
    | _, _ => s)

/-- R769, R775, R778: counter TOP. -/
def execPwmCounterTop (axis : Fin 8) (s : State) : Out :=
  let a := axis.val
  .next (if !fieldHw s || !topReached s a then s
    else
      let s := if reloads s a true then reload s a else s
      let m := { ax s a with rising := false }
      let s := setAx s a (if pwmMode m = 1 then phasesAt m s.fclk.ticks true else m)
      let s := adcTrigger s a 0
      sampleAt s a 0)

/-- The counter has crossed the coarse compare of a phase in its present half-period (R766). -/
def compareCrossed (s : State) (a c : Nat) : Bool :=
  let m := ax s a
  decide ((if m.rising || decide (pwmMode m ≠ 1) then m.zeroAt + c else m.zeroAt + 2 * pwmTop m - c) ≤ s.fclk.ticks)

/-- R766, R797: the counter crosses the coarse compare of a phase: upward the high side ends, downward it begins. -/
def execPwmCompareMatch (axis : Fin 8) (phase : Fin 3) (s : State) : Out :=
  let a := axis.val
  let m := ax s a
  let c := coarse m phase.val
  .next (if !fieldHw s || !compareCrossed s a c then s
    else if c = 0 ∨ pwmTop m < c then s
    else setAx s a (phaseWant m s.fclk.ticks phase.val (!(m.rising || decide (pwmMode m ≠ 1)))))

/-- R767, R768: the activating edge after the dead time. -/
def execDeadTimeExpiry (axis : Fin 8) (phase : Fin 3) (s : State) : Out :=
  let m := ax s axis.val
  let elapsed := decide (lget 0 m.edgeAt phase.val + pwmDead m / 5 ≤ s.fclk.ticks)
  .next (if fieldHw s && m.driving && decide (pwmMode m ≠ 0) && elapsed then setAx s axis.val (activate m phase.val) else s)

/-- Pairs of numbers from 0 to n that give n + 1 ways: (n + 1)(n + 2) / 2, none below 0. -/
def pairWays (n : Int) : Int := if n < 0 then 0 else (n + 1) * (n + 2) / 2

/-- Weight of bit `k` in a sinc3 window of ratio `r`: the ways to write k as a sum of three numbers below r (R773). -/
def sinc3Tap (r k : Nat) : Int := pairWays k - 3 * pairWays ((k : Int) - r) + 3 * pairWays ((k : Int) - 2 * r)

/-- Result of a sinc3 window of modulator bits, oldest first: a signed value of 3 × log2(OSR) bits, zero at half density (R773).
Log entry 148: DEDUCED, unsafe. -/
def sinc3 (r : Nat) (l : List Bool) : Int :=
  let half : Int := (r * r * r / 2 : Nat)
  min (half - 1) (((List.range (3 * r - 2)).map (fun k => if lget false l k then sinc3Tap r k else 0)).foldl (· + ·) 0 - half)

/-- The filter of an axis holds the window centred on the sample point: 1.5 × OSR clock periods and 50 ns later (R774). With a clock
from the modulator the time is the modulator's. -/
def sdReady (s : State) (a : Nat) : Bool :=
  let m := ax s a
  m.sdDue && (decide (objN s (axA a + 0x31) 2 ≠ 0) ||
    decide (m.sampledAt + (3 * objN s (axA a + 0x31) 4 * objN s (axA a + 0x31) 3 + 1) / 2 + 10 ≤ s.fclk.ticks))

/-- R773, R774: the windows of the enabled inputs give their results; one that differs from the held result ends a loss. -/
def execSdResultReady (axis : Fin 8) (u v w : List Bool) (s : State) : Out :=
  let a := axis.val
  let m := ax s a
  let en := objN s (axA a + 0x31) 1
  let osr := objN s (axA a + 0x31) 4
  let take := fun (i : Nat) (old : Int) (l : List Bool) => if en.testBit i then sinc3 osr l else old
  let r := (take 0 m.sd.1 u, take 1 m.sd.2.1 v, take 2 m.sd.2.2 w)
  let lost := m.sdLost.toNat
  let lost := if r.1 ≠ m.sd.1 then setBit lost 0 false else lost
  let lost := if r.2.1 ≠ m.sd.2.1 then setBit lost 1 false else lost
  let lost := if r.2.2 ≠ m.sd.2.2 then setBit lost 2 false else lost
  .next (if !fieldHw s || !sdReady s a then s
    else
      let s := setAx s a { m with sd := r, sdLost := BitVec.ofNat 3 lost, sdDue := false, inputsAt := s.fclk.ticks }
      putI (putI (putI s (axA a + 0x31) 5 r.1) (axA a + 0x31) 6 r.2.1) (axA a + 0x31) 7 r.2.2)

/-- R798, R856: a sigma-delta input is lost. -/
def execSdInputLost (input : Fin 24) (s : State) : Out :=
  let a := input.val / 3
  let m := ax s a
  .next (if !fieldHw s || !(objN s (axA a + 0x31) 1).testBit (input.val % 3) then s
    else
      let s := setAx s a { m with sdLost := BitVec.ofNat 3 (setBit m.sdLost.toNat (input.val % 3) true) }
      let s := emcy (bump s (axA a + 0x34) 5) 0x5210 a input.val
      startReaction s .sto (2 ^ a) 22 (axis := a))

/-- R776, R777, R779, R784: a SAR conversion delivers its result. -/
def execAdcConversionDone (channel : Fin 8) (value : BitVec 12) (s : State) : Out :=
  .next (if !fieldHw s then s
    else
      let put := { s with eng := { s.eng with adc := lset s.eng.adc channel.val value.toNat } }
      match adcWaiting s channel.val with
      | none => if (List.range 8).any (fun a => (ax s a).scWait.contains channel.val) then sinCosResult put channel.val else s
      | some (g, i) =>
        if s.fclk.ticks < adcReady s g i then s
        else adcResult put g i value.toNat)

/-- R782: an SSI frame ends; the monoflop then holds for 20 µs.
Log entry 150: DEDUCED, unsafe. -/
def execSsiFrameEnd (axis : Fin 8) (bits : Nat) (s : State) : Out :=
  let a := axis.val
  let m := ax s a
  .next (if !fieldHw s || encMode s a != 2 || !m.frameRun || decide (s.fclk.ticks < m.frameAt + serialTicks s a (objN s (axA a + 0x32) 4)) then s
    else
      let n := objN s (axA a + 0x32) 4
      let v := bits % 2 ^ n
      let v := if objN s (axA a + 0x32) 5 = 1 then grayToBin n v else v
      goodCapture (setAx s a (encBit (encBit { m with frameRun := false, frameFree := s.fclk.ticks + 4000 } 1 false) 2 false)) a v)

/-- R782, R799: the SSI encoder does not answer. -/
def execSsiTimeout (axis : Fin 8) (s : State) : Out :=
  .next (if fieldHw s && encMode s axis.val == 2 && (ax s axis.val).frameRun then absFault s axis.val 2 else s)

/-- R783: a BiSS-C frame ends; its position bits, error bit and warning bit stand before the 6 CRC bits.
Log entry 18: DESIGN CHOICE, unsafe. -/
def execBissFrameEnd (axis : Fin 8) (bits : Nat) (error warning : Bool) (crc : BitVec 6) (lineDelay : BitVec 16) (s : State) : Out :=
  let a := axis.val
  let m := ax s a
  let length := serialTicks s a (3 + objN s (axA a + 0x32) 4) + lineDelay.toNat / 5
  .next (if !fieldHw s || encMode s a != 3 || !m.frameRun || decide (s.fclk.ticks < m.frameAt + length) then s
    else
      let n := objN s (axA a + 0x32) 4 - 8
      let v := bits % 2 ^ n
      let word := v * 4 + 2 * b2n error + b2n warning
      let good := 63 - crc6 (n + 2) word 0 = crc.toNat
      let m := encBit (encBit m 4 error) 5 warning
      let s := putN (setAx s a m) (axA a + 0x32) 0x0A lineDelay.toNat
      if good then goodCapture (setAx s a (encBit (encBit { m with frameRun := false } 1 false) 2 false)) a v
      else absFault s a 1)

/-- R799: a line break of an ABZ or sin/cos encoder. -/
def execAxisEncoderLineBreak (axis : Fin 8) (s : State) : Out :=
  let a := axis.val
  .next (if fieldHw s && (encMode s a == 1 || encMode s a == 4) then
      encFault (encPublish (bump (setAx s a (encBit (ax s a) 3 true)) (axA a + 0x34) 3) a) a
    else s)

/-- R786, R789: a comparator's input has stood at `level` µV for `ns` ns. Outside the window of an enabled comparator, for longer than
its glitch filter, it trips the axis. -/
def execComparatorTrip (axis : Fin 8) (b : Bool) (level ns : Nat) (s : State) : Out :=
  let a := axis.val
  let m := ax s a
  let s1 := setAx s a { m with cmpIn := if b then (m.cmpIn.1, level) else (level, m.cmpIn.2) }
  .next (if fieldHw s && cmpOutside s1 a b && decide (5 * objN s (axA a + 0x33) 3 < ns) then comparatorTrip s1 a b else s1)

/-- The channels of STO input `n` differ. -/
def stoDiffers (s : State) (n : Nat) : Bool := s.saf.ch.getLsbD (2 * n) != s.saf.ch.getLsbD (2 * n + 1)

/-- An STO channel stands at a level; the discrepancy timer runs from the moment the channels of its input differ (R787, R791,
R797). -/
def stoChannel (s : State) (n : Nat) (b level : Bool) : State :=
  let t := { s with saf := { s.saf with ch := BitVec.ofNat 4 (setBit s.saf.ch.toNat (2 * n + b2n b) level) } }
  if stoDiffers t n && !stoDiffers s n then
    { t with saf := { t.saf with differAt := if n = 0 then (s.fclk.ticks, t.saf.differAt.2) else (t.saf.differAt.1, s.fclk.ticks) } }
  else t

/-- R787, R789: an STO channel changes level. -/
def execStoInputEdge (input : Fin 2) (channelB : Bool) (level : Bool) (s : State) : Out :=
  let t := stoChannel s input.val channelB level
  .next (if !fieldHw s || level then t
    else ((List.range 8).filter (fun a => namesSto t a input.val)).foldl (fun t a => tripSto t a false) t)

/-- R791: the channels of an input have differed for more than 20 ms. -/
def execStoDiscrepancyFault (input : Fin 2) (s : State) : Out :=
  let n := input.val
  let since := if n = 0 then s.saf.differAt.1 else s.saf.differAt.2
  .next (if !fieldHw s || !stoDiffers s n || decide (s.fclk.ticks ≤ since + 4000000) then s
    else
      let s := { s with saf := { s.saf with discrepancy := BitVec.ofNat 2 (setBit s.saf.discrepancy.toNat n true) } }
      ((List.range 8).filter (fun a => namesSto s a n)).foldl (fun s a => emcy (tripSto s a false) 0x5400 a (n + 1)) s)

end Sys2Proof.Machine
end

