-- ==== Sys2Proof/Machine/Crypto.lean ====
section
/-! DEFINITION. SHA-384 (FIPS 180-4) and the verification of ECDSA P-384 signatures (FIPS 186-5), by which a boot ROM judges an image and
Gallery a bundle (R641, R981, R984, R989, R998, R999). -/

namespace Sys2Proof.Machine

/-! ### SHA-384 -/

/-- A 64-bit word rotated right. -/
def ror64 (x n : Nat) : Nat := (x >>> n ||| x <<< (64 - n)) % 2 ^ 64

/-- The constants of the 80 rounds. -/
def shaK : List Nat :=
  [0x428a2f98d728ae22, 0x7137449123ef65cd, 0xb5c0fbcfec4d3b2f, 0xe9b5dba58189dbbc, 0x3956c25bf348b538, 0x59f111f1b605d019, 0x923f82a4af194f9b, 0xab1c5ed5da6d8118] ++
  [0xd807aa98a3030242, 0x12835b0145706fbe, 0x243185be4ee4b28c, 0x550c7dc3d5ffb4e2, 0x72be5d74f27b896f, 0x80deb1fe3b1696b1, 0x9bdc06a725c71235, 0xc19bf174cf692694] ++
  [0xe49b69c19ef14ad2, 0xefbe4786384f25e3, 0xfc19dc68b8cd5b5, 0x240ca1cc77ac9c65, 0x2de92c6f592b0275, 0x4a7484aa6ea6e483, 0x5cb0a9dcbd41fbd4, 0x76f988da831153b5] ++
  [0x983e5152ee66dfab, 0xa831c66d2db43210, 0xb00327c898fb213f, 0xbf597fc7beef0ee4, 0xc6e00bf33da88fc2, 0xd5a79147930aa725, 0x6ca6351e003826f, 0x142929670a0e6e70] ++
  [0x27b70a8546d22ffc, 0x2e1b21385c26c926, 0x4d2c6dfc5ac42aed, 0x53380d139d95b3df, 0x650a73548baf63de, 0x766a0abb3c77b2a8, 0x81c2c92e47edaee6, 0x92722c851482353b] ++
  [0xa2bfe8a14cf10364, 0xa81a664bbc423001, 0xc24b8b70d0f89791, 0xc76c51a30654be30, 0xd192e819d6ef5218, 0xd69906245565a910, 0xf40e35855771202a, 0x106aa07032bbd1b8] ++
  [0x19a4c116b8d2d0c8, 0x1e376c085141ab53, 0x2748774cdf8eeb99, 0x34b0bcb5e19b48a8, 0x391c0cb3c5c95a63, 0x4ed8aa4ae3418acb, 0x5b9cca4f7763e373, 0x682e6ff3d6b2b8a3] ++
  [0x748f82ee5defb2fc, 0x78a5636f43172f60, 0x84c87814a1f0ab72, 0x8cc702081a6439ec, 0x90befffa23631e28, 0xa4506cebde82bde9, 0xbef9a3f7b2c67915, 0xc67178f2e372532b] ++
  [0xca273eceea26619c, 0xd186b8c721c0c207, 0xeada7dd6cde0eb1e, 0xf57d4f7fee6ed178, 0x6f067aa72176fba, 0xa637dc5a2c898a6, 0x113f9804bef90dae, 0x1b710b35131c471b] ++
  [0x28db77f523047d84, 0x32caab7b40c72493, 0x3c9ebe0a15c9bebc, 0x431d67c49c100d4c, 0x4cc5d4becb3e42b6, 0x597f299cfc657e2a, 0x5fcb6fab3ad6faec, 0x6c44198c4a475817]

/-- The eight working words of SHA-384. -/
structure ShaRegs where
  a : Nat
  b : Nat
  c : Nat
  d : Nat
  e : Nat
  f : Nat
  g : Nat
  h : Nat
  deriving DecidableEq, Repr

/-- The initial hash value of SHA-384. -/
def sha384Init : ShaRegs :=
  { a := 0xcbbb9d5dc1059ed8, b := 0x629a292a367cd507, c := 0x9159015a3070dd17, d := 0x152fecd8f70e5939,
    e := 0x67332667ffc00b31, f := 0x8eb44a8768581511, g := 0xdb0c2e0d64f98fa7, h := 0x47b5481dbefa4fa4 }

/-- One round with constant `k` and message word `w`. -/
def shaRound (x : ShaRegs) (k w : Nat) : ShaRegs :=
  let s1 := ror64 x.e 14 ^^^ ror64 x.e 18 ^^^ ror64 x.e 41
  let ch := (x.e &&& x.f) ^^^ ((2 ^ 64 - 1 - x.e) &&& x.g)
  let t1 := x.h + s1 + ch + k + w
  let s0 := ror64 x.a 28 ^^^ ror64 x.a 34 ^^^ ror64 x.a 39
  let maj := (x.a &&& x.b) ^^^ (x.a &&& x.c) ^^^ (x.b &&& x.c)
  { a := (t1 + s0 + maj) % 2 ^ 64, b := x.a, c := x.b, d := x.c, e := (x.d + t1) % 2 ^ 64, f := x.e, g := x.f, h := x.g }

/-- The message word that follows sixteen. -/
def shaNext (w : List Nat) : Nat :=
  let x := w.getD 1 0
  let y := w.getD 14 0
  (w.getD 0 0 + (ror64 x 1 ^^^ ror64 x 8 ^^^ x >>> 7) + w.getD 9 0 + (ror64 y 19 ^^^ ror64 y 61 ^^^ y >>> 6)) % 2 ^ 64

/-- The rounds with the constants that remain; `w` is the next sixteen message words. -/
def shaRounds : List Nat → List Nat → ShaRegs → ShaRegs
  | [], _, x => x
  | k :: t, w, x => shaRounds t (w.drop 1 ++ [shaNext w]) (shaRound x k (w.headD 0))

/-- One block of sixteen message words. -/
def shaBlock (x : ShaRegs) (w : List Nat) : ShaRegs :=
  let y := shaRounds shaK w x
  let add := fun (m n : Nat) => (m + n) % 2 ^ 64
  { a := add x.a y.a, b := add x.b y.b, c := add x.c y.c, d := add x.d y.d, e := add x.e y.e, f := add x.f y.f, g := add x.g y.g, h := add x.h y.h }

/-- A number, most significant octet first. -/
def beNat (l : List Byte) : Nat := l.foldl (fun n b => 256 * n + b.toNat) 0

/-- `n` octets of a number, most significant first. -/
def beBytes (n v : Nat) : List Byte := ((List.range n).map (fun i => BitVec.ofNat 8 (v / 256 ^ i))).reverse

/-- The words of a list of octets, `n` words of eight. -/
def beWords : Nat → List Byte → List Nat
  | 0, _ => []
  | n + 1, l => beNat (l.take 8) :: beWords n (l.drop 8)

/-- The blocks of a padded message, `n` of them. -/
def shaBlocks : Nat → List Byte → ShaRegs → ShaRegs
  | 0, _, x => x
  | n + 1, l, x => shaBlocks n (l.drop 128) (shaBlock x (beWords 16 (l.take 128)))

/-- SHA-384 of octets, 48 octets. -/
def sha384 (m : List Byte) : List Byte :=
  let blocks := (m.length + 17 + 127) / 128
  let padded := m ++ [0x80] ++ List.replicate (128 * blocks - m.length - 17) 0 ++ beBytes 16 (8 * m.length)
  let x := shaBlocks blocks padded sha384Init
  [x.a, x.b, x.c, x.d, x.e, x.f].flatMap (beBytes 8)

/-! ### ECDSA P-384 -/

/-- The field of the curve. -/
def p384 : Nat := 2 ^ 384 - 2 ^ 128 - 2 ^ 96 + 2 ^ 32 - 1

/-- The order of its base point. -/
def n384 : Nat := 0xffffffffffffffffffffffffffffffffffffffffffffffffc7634d81f4372ddf581a0db248b0a77aecec196accc52973

/-- The constant term of the curve; the coefficient of x is -3. -/
def b384 : Nat := 0xb3312fa7e23ee7e4988e056be3f82d19181d9c6efe8141120314088f5013875ac656398d8a2ed19d2a85c8edd3ec2aef

/-- A point in Jacobian coordinates; `z` is 0 for the point at infinity. -/
structure Jac where
  x : Nat
  y : Nat
  z : Nat
  deriving DecidableEq, Repr

/-- The base point. -/
def g384 : Jac :=
  { x := 0xaa87ca22be8b05378eb1c71ef320ad746e1d3b628ba79b9859f741e082542a385502f25dbf55296c3a545e3872760ab7
    y := 0x3617de4a96262c6f5d9e98bf9292dc29f8f41dbd289a147ce9da3113b5f0b8c00a60b1ce1d7e819d7a431d7c90ea0e5f
    z := 1 }

/-- A difference modulo the field; both are below it. -/
def subP (a b : Nat) : Nat := (a + p384 - b) % p384

/-- A point doubled. -/
def jacDouble (a : Jac) : Jac :=
  let d := a.z * a.z % p384
  let g := a.y * a.y % p384
  let bt := a.x * g % p384
  let al := 3 * (subP a.x d * (a.x + d) % p384) % p384
  let x := subP (al * al % p384) (8 * bt % p384)
  { x := x, y := subP (al * subP (4 * bt % p384) x % p384) (8 * (g * g % p384) % p384),
    z := subP (subP ((a.y + a.z) * (a.y + a.z) % p384) g) d }

/-- The sum of two points. -/
def jacAdd (a b : Jac) : Jac :=
  if a.z = 0 then b
  else if b.z = 0 then a
  else
    let za := a.z * a.z % p384
    let zb := b.z * b.z % p384
    let u1 := a.x * zb % p384
    let u2 := b.x * za % p384
    let s1 := a.y * b.z % p384 * zb % p384
    let s2 := b.y * a.z % p384 * za % p384
    if u1 = u2 then (if s1 = s2 then jacDouble a else { x := 1, y := 1, z := 0 })
    else
      let h := subP u2 u1
      let r := subP s2 s1
      let hh := h * h % p384
      let hhh := h * hh % p384
      let v := u1 * hh % p384
      let x := subP (subP (r * r % p384) hhh) (2 * v % p384)
      { x := x, y := subP (r * subP v x % p384) (s1 * hhh % p384), z := h * a.z % p384 * b.z % p384 }

/-- `u` times one point plus `v` times another, over the `n` lowest bits of the factors. -/
def jacCombine (u v : Nat) (a b : Jac) : Nat → Jac
  | 0 => { x := 1, y := 1, z := 0 }
  | n + 1 =>
    let c := jacDouble (jacCombine (u / 2) (v / 2) a b n)
    let c := if u % 2 = 1 then jacAdd c a else c
    if v % 2 = 1 then jacAdd c b else c

/-- `a` to the power `e` modulo `m`, over the `n` lowest bits of `e`. -/
def powMod (m a e : Nat) : Nat → Nat
  | 0 => 1 % m
  | n + 1 =>
    let r := powMod m a (e / 2) n
    if e % 2 = 1 then r * r % m * a % m else r * r % m

/-- A point of the curve, not the one at infinity. -/
def onCurve (x y : Nat) : Bool :=
  decide (x < p384) && decide (y < p384) && decide (y * y % p384 = (x * x % p384 * x + 3 * (p384 - x) + b384) % p384)

/-- A signature (r, s) of a message verifies with a public key (x, y), 96 octets each, most significant octet first (R981). -/
def ecdsaOk (key signature message : List Byte) : Bool :=
  let x := beNat (key.take 48)
  let y := beNat (key.drop 48)
  let r := beNat (signature.take 48)
  let t := beNat (signature.drop 48)
  let e := beNat (sha384 message)
  let w := powMod n384 t (n384 - 2) 384
  let q := jacCombine (e * w % n384) (r * w % n384) g384 { x := x, y := y, z := 1 } 384
  let zz := q.z * q.z % p384
  onCurve x y && decide (0 < r) && decide (r < n384) && decide (0 < t) && decide (t < n384) && decide (q.z ≠ 0) &&
    (decide (r * zz % p384 = q.x) || (decide (r + n384 < p384) && decide ((r + n384) * zz % p384 = q.x)))

end Sys2Proof.Machine
end

