-- ==== Sys2Proof/Machine/Images.lean ====
section
/-! DEFINITION. Images, boot control records and model bundles as octets (R981 to R984, R998, R999), and the image a die runs. -/

namespace Sys2Proof.Machine

/-! ### Images (R981) -/

/-- The interface levels, build, stepping and slot that a LEVELS frame carries (R177). -/
structure Levels where
  rpl : BitVec 16
  dsl : BitVec 16
  qal : BitVec 16
  mbl : BitVec 16
  build : BitVec 32
  stepping : Byte
  slotB : Bool
  deriving DecidableEq, Repr

/-- The header fields of an image (R981). -/
structure Image where
  magic : Nat
  kind : Nat
  format : Nat
  levels : Levels
  steppings : List Byte
  bootLen : Nat
  mainLen : Nat
  partners : List (Nat × BitVec 32)
  bootDigest : List Byte
  mainDigest : List Byte
  key : List Byte
  signature : List Byte
  deriving DecidableEq, Repr

/-- Octets of a header. -/
def headerLen : Nat := 512

/-- The `n`-th entry of an image's partner table: KIND and BUILD. -/
def partnerAt (f : List Byte) (n : Nat) : Nat × BitVec 32 := (fieldN f (256 + 8 * n) 1, BitVec.ofNat 32 (fieldN f (260 + 8 * n) 4))

/-- The header of an image (R981). -/
def imageOf (f : List Byte) : Image :=
  let level := fun (o : Nat) => BitVec.ofNat 16 (fieldN f o 2)
  { magic := fieldN f 0 4, kind := fieldN f 4 1, format := fieldN f 5 1
    levels := { rpl := level 12, dsl := level 14, qal := level 16, mbl := level 18, build := BitVec.ofNat 32 (fieldN f 8 4), stepping := 0xB0, slotB := false }
    steppings := (slice f 20 8).takeWhile (fun b => b != 0), bootLen := fieldN f 28 4, mainLen := fieldN f 32 4
    partners := (List.range (min 16 (fieldN f 36 1))).map (partnerAt f)
    bootDigest := slice f 64 48, mainDigest := slice f 112 48, key := slice f 160 96, signature := slice f 384 96 }

/-- Octets of an image with this header: header, BOOT part, MAIN part. -/
def imageLen (i : Image) : Nat := headerLen + i.bootLen + i.mainLen

/-- MAGIC of an image. -/
def magicOk (f : List Byte) : Bool := decide ((imageOf f).magic = 0x4D494B49)

/-- MAGIC, FORMAT and KIND match the die (R984). -/
def kindOk (host : Bool) (f : List Byte) : Bool :=
  magicOk f && decide ((imageOf f).format = 1) && decide ((imageOf f).kind = if host then 1 else 2)

/-- The lengths keep R982. -/
def imageSizeOk (host : Bool) (f : List Byte) : Bool :=
  let i := imageOf f
  if host then decide (i.bootLen ≤ 4 * 2 ^ 20) && decide (i.mainLen ≤ 32 * 2 ^ 20) else decide (i.bootLen ≤ 1048576)

/-- A public key is the one the die's OTP names, and a signature verifies with it (R984, R990). -/
def signedOk (x : Storage) (key signature message : List Byte) : Bool :=
  x.keySet && decide (sha384 key = x.keyHash) && ecdsaOk key signature message

/-- The key and signature of an image (R984). -/
def keyOk (x : Storage) (f : List Byte) : Bool := signedOk x (imageOf f).key (imageOf f).signature (f.take 384)

/-- The image lists the die's stepping (R984).
Log entry 75: DESIGN CHOICE, unsafe. -/
def steppingOk (f : List Byte) : Bool := (imageOf f).steppings.contains 0xB0

/-- The BOOT part's digest matches (R984). -/
def bootPartOk (f : List Byte) : Bool :=
  let i := imageOf f
  decide (sha384 (slice f headerLen i.bootLen) = i.bootDigest)

/-- The MAIN part's digest matches; an image without one carries zero (R981, R984). -/
def mainPartOk (f : List Byte) : Bool :=
  let i := imageOf f
  if i.mainLen = 0 then i.mainDigest.all (fun b => b == 0) else decide (sha384 (slice f (headerLen + i.bootLen) i.mainLen) = i.mainDigest)

/-- A slot is accepted (R984). -/
def slotOk (host : Bool) (x : Storage) (f : List Byte) : Bool :=
  kindOk host f && imageSizeOk host f && steppingOk f && keyOk x f && bootPartOk f && mainPartOk f

/-- Slot A or B. -/
def slotImage (x : Storage) (b : Bool) : List Byte := if b then x.slotB else x.slotA

/-- Replace a slot's image. -/
def setSlotImage (x : Storage) (b : Bool) (f : List Byte) : Storage := if b then { x with slotB := f } else { x with slotA := f }

/-- The header of the image a die runs. -/
def runningImage (b : BootState) : Image := imageOf (slotImage b.store b.slotB)

/-! ### Boot control records (R983) -/

/-- The content of a boot control record. -/
structure Control where
  activeB : Bool := false
  trial : Option Bool := none
  tries : Nat := 0
  seq : Nat := 0
  deriving DecidableEq, Repr

/-- The 60 octets of a control record before its CRC-32 (R983). -/
def controlHead (c : Control) : List Byte :=
  leBytes 4 0x43424B49 ++ leBytes 1 (if c.activeB then 1 else 0) ++
    leBytes 1 (match c.trial with | none => 0xFF | some b => if b then 1 else 0) ++ leBytes 1 c.tries ++ [0] ++ leBytes 4 c.seq ++ List.replicate 48 0

/-- The 64 octets of a control record (R983).
Log entry 67: DEDUCED, unsafe. -/
def controlBytes (c : Control) : List Byte := controlHead c ++ leBytes 4 (crc32 (controlHead c)).toNat

/-- What a copy of the control record says; none where its CRC or its MAGIC fails (R983, R985).
Log entry 67: DEDUCED, unsafe. -/
def controlRead (b : List Byte) : Option Control :=
  if b.length = 64 ∧ (crc32 (b.take 60)).toNat = fieldN b 60 4 ∧ fieldN b 0 4 = 0x43424B49 then
    some { activeB := decide (fieldN b 4 1 = 1), trial := (match fieldN b 5 1 with | 0 => some false | 1 => some true | _ => none),
           tries := fieldN b 6 1, seq := fieldN b 8 4 }
  else none

/-- The valid copy with the higher SEQ (R985). -/
def controlOf (x : Storage) : Option Control :=
  match controlRead x.recA, controlRead x.recB with
  | some a, some b => some (if a.seq < b.seq then b else a)
  | some a, none => some a
  | none, b => b

/-- Copy A is the newer one: a write replaces B (R983). -/
def newerA (x : Storage) : Bool :=
  match controlRead x.recA, controlRead x.recB with
  | some a, some b => decide (b.seq ≤ a.seq)
  | some _, none => true
  | none, _ => false

/-- A write of the control record replaces the older copy, with SEQ increased by 1 (R983). -/
def writeControl (x : Storage) (c : Control) : Storage :=
  let r := controlBytes { c with seq := ((controlOf x).getD {}).seq + 1 }
  if newerA x then { x with recB := r } else { x with recA := r }

/-! ### Model bundles (R998, R999) -/

/-- A bundle, from its octets and the kernels that the microcode of its body stands for (R998).
Log entry 127: DESIGN CHOICE, safe. -/
def bundleOf (f : List Byte) (code : List (List Kernel)) : Bundle :=
  { magic := fieldN f 0 4, format := fieldN f 4 1, part := fieldN f 5 1, group := fieldN f 6 1, banks := fieldN f 7 1
    mbl := BitVec.ofNat 16 (fieldN f 8 2), entries := fieldN f 10 1, build := BitVec.ofNat 32 (fieldN f 12 4), name := (slice f 16 32).takeWhile (fun b => b != 0)
    maxSeg := fieldN f 48 4, maxLive := fieldN f 52 4, formats := BitVec.ofNat 32 (fieldN f 56 4), bodyLen := fieldN f 60 4, digest := slice f 64 48
    kvUsing := (List.range 16).map (fun e => (fieldN f (116 + 8 * e) 1).testBit 0)
    writesResult := (List.range 16).map (fun e => (fieldN f (116 + 8 * e) 1).testBit 1)
    signed := slice f 0 336, key := slice f 240 96, signature := slice f 336 96, body := f.drop headerLen, code := code }

/-- The header and body of a bundle keep R998.
Log entry 152: DEDUCED, unsafe. -/
def bundleSound (b : Bundle) : Bool :=
  decide (b.magic = 0x4E424B49) && decide (b.format = 1) && decide (b.part ≤ 2) && [1, 2, 4, 8].contains b.group && decide (1 ≤ b.banks) &&
    decide (b.banks ≤ 24) && decide (1 ≤ b.entries) && decide (b.entries ≤ 16) && decide (b.bodyLen ≤ b.banks * 2 ^ 23) &&
    decide (b.body.length = b.bodyLen) && decide (sha384 b.body = b.digest)

/-- The key and signature of a bundle, judged by the host die's OTP (R641, R990, R999). -/
def bundleSigned (x : Storage) (b : Bundle) : Bool := signedOk x b.key b.signature b.signed

end Sys2Proof.Machine
end

