-- ==== Sys2Proof/Machine/Lanes.lean ====
section
/-! DEFINITION. Rope's lanes: symbols, lane pairs and striping, the octets of a frame with its header and CRC, and reading a
frame back from the lanes (R171 to R177, R191). -/

namespace Sys2Proof.Machine

/-! ### Lane pairs (R171) -/

/-- The lane pairs in use: as many healthy ones as R171 gives, no wider than asked for. -/
def pairsOf (healthy : BitVec 4) (want : Nat) : List Nat :=
  let h := bitList healthy.toNat 4
  if decide (4 ≤ want) && h.length == 4 then [0, 1, 2, 3]
  else if decide (2 ≤ want) && h.contains 0 && h.contains 1 then [0, 1]
  else if decide (2 ≤ want) && h.contains 2 && h.contains 3 then [2, 3]
  else h.take 1

/-- The width they give. -/
def widthOf (healthy : BitVec 4) (want : Nat) : Nat := (pairsOf healthy want).length

/-- The active pairs of the link. -/
def activePairs (s : State) : List Nat := pairsOf s.link.healthy s.link.width

/-! ### The octets of a frame (R174 to R176) -/

/-- The 64-bit header of a frame (R176). -/
def headerNat (f : Frame) : Nat :=
  f.payload.length % 512 + 2 ^ 16 * (f.tag % 65536) + 2 ^ 32 * (f.crCount % 32) + 2 ^ 37 * (f.crClass % 8) + 2 ^ 40 * (f.ack.getD 0 % 256) +
    2 ^ 48 * (f.seq % 256) + 2 ^ 56 * b2n f.nak + 2 ^ 57 * b2n f.ack.isSome + 2 ^ 58 * b2n f.last + 2 ^ 59 * (f.kind % 4) + 2 ^ 61 * (f.cls % 8)

/-- Header, payload and the zero octets up to a multiple of 4 (R174). -/
def framePadded (f : Frame) : List Byte :=
  leBytes 8 (headerNat f) ++ f.payload ++ List.replicate ((4 - f.payload.length % 4) % 4) 0

/-- The octets of a frame between its start and end symbols (R174); header and CRC go least significant octet first (R6).
Log entry 122: PRESUMED, unsafe. -/
def frameOctetsOf (f : Frame) : List Byte := framePadded f ++ leBytes 4 (crc32 (framePadded f)).toNat

/-- The frame that octets spell, none when the CRC or the length is wrong (R174 to R176, R191). -/
def frameOfOctets (b : List Byte) : Option Frame :=
  let h := fieldN b 0 8
  let len := bits h 8 0
  let body := b.take (b.length - 4)
  if b.length < 12 ∨ b.length ≠ 12 + (len + 3) / 4 * 4 ∨ fieldN b (b.length - 4) 4 ≠ (crc32 body).toNat then none
  else
    some { cls := bits h 63 61, kind := bits h 60 59, last := bit h 58, seq := bits h 55 48, ack := if bit h 57 then some (bits h 47 40) else none,
           nak := bit h 56, crClass := bits h 39 37, crCount := bits h 36 32, tag := bits h 31 16, payload := slice b 8 len }

/-! ### Symbols and striping (R172, R173, R191) -/

/-- The octets that lane `k` of `w` carries: every octet i with i mod w = k (R173). -/
def stripe (w k : Nat) (b : List Byte) : List Byte := (b.zipIdx.filter (fun p => p.2 % w == k)).map (fun p => p.1)

/-- The symbols of a frame on each active lane: the start symbol, the lane's octets, the end symbol (R172, R173). -/
def laneSymbols (w : Nat) (f : Frame) : List (List Symbol) :=
  (List.range w).map (fun k => .start :: (stripe w k (frameOctetsOf f)).map .data ++ [.stop])

/-- The octets of one lane, none when a symbol inside the frame is no data symbol (R191). -/
def laneData : List Symbol → Option (List Byte)
  | [.stop] => some []
  | .data b :: t => (laneData t).map (fun l => b :: l)
  | _ => none

/-- The octets of one lane from its start symbol on. -/
def laneOctets : List Symbol → Option (List Byte)
  | .start :: t => laneData t
  | _ => none

/-- The frame that the active lanes carry, none on any case of R191: a bad code, a disparity error, a missing start or end symbol,
or a CRC mismatch. -/
def frameOfLanes (lanes : List (List Symbol)) : Option Frame :=
  let l := lanes.filterMap laneOctets
  let w := lanes.length
  let n := (l.headD []).length
  if l.length ≠ w ∨ w = 0 ∨ l.any (fun x => x.length ≠ n) = true then none
  else frameOfOctets ((List.range (n * w)).map (fun i => (l.getD (i % w) []).getD (i / w) 0))

/-- Code and disparity violations on each lane (R204). -/
def laneViolations (l : List Symbol) : Nat := (l.filter (fun x => x == .badCode || x == .badDisparity)).length

end Sys2Proof.Machine
end

