-- ==== Sys2Proof/Machine/Rope.lean ====
section
/-! DEFINITION. Rope: transmission, reception, acknowledgement and replay, credits, training and width, and heartbeats
(chapter 04). -/

namespace Sys2Proof.Machine

/-! ### Classes and credits (R178, R179, R185 to R190) -/

/-- Class maximum payload (R179). -/
def classMax (c : Nat) : Nat := if c = 0 then 64 else if c = 1 ∨ c = 2 then 128 else 256

/-- Receive buffers of each class (R179). -/
def classCredits : List Nat := [4, 4, 8, 8, 4, 8, 8, 2]

/-- The kind is allowed in the class (R179): 0 message, 1 request, 2 response. -/
def classKind (c k : Nat) : Bool :=
  if c = 1 ∨ c = 4 then k = 1 || k = 2
  else if c = 3 then decide (k ≤ 2)
  else k = 0

/-- A mirror message's frame (R182). -/
def isMirror (f : Frame) : Bool := f.cls == 0 && f.payload.length == 56

/-- OP of a dictionary frame (R183). -/
def Frame.op (f : Frame) : Nat := (f.payload.getD 3 0).toNat

/-- A request whose sender awaits a response (R187): a dictionary request that is not posted, or PREPARE or ARM of a stage set; an
S-status request gets none (R883), nor an apply confirmation (R302).
Log entry 121: DEDUCED, unsafe. -/
def expectsResponse (f : Frame) : Bool :=
  f.kind == 1 &&
    (if f.cls = 1 then fieldN f.payload 0 2 != 0x10 else if f.cls = 3 then f.op != 3 && f.op != 6 else if f.cls = 4 then f.payload.getD 0 0 != 5 else false)

/-- Local buffers for the responses to a class's requests (R187): the forward slots of R250 for the dictionary, one for each stage
set.
Log entry 120: DESIGN CHOICE, unsafe. -/
def respBuffers (c : Nat) : Nat := if c = 4 then 4 else 16

/-- A response buffer of the frame's class is free. -/
def bufferFree (e : RopeEnd) (f : Frame) : Bool :=
  !expectsResponse f || decide ((e.awaits.filter (fun a => a.1 == f.cls)).length < respBuffers f.cls)

/-- The levels let the frame cross (R203, R995): heartbeats alone while the RPL majors differ, classes 0, 2 and 6 under
INCOMPATIBLE. -/
def levelAllows (s : State) (f : Frame) : Bool :=
  if s.link.rplDiffers then f.cls == 0 && !isMirror f
  else if s.link.outcome = 3 then f.cls == 0 || f.cls == 2 || f.cls == 6
  else true

/-- The link lets a class frame cross: none before the level exchange is complete (R202). -/
def mayCross (s : State) (f : Frame) : Bool := !s.link.levelsDue && levelAllows s f

/-- A class crosses Rope now. -/
def crosses (s : State) (cls : Nat) : Bool := ropeUp s && mayCross s (mkFrame cls 0 0 [])

/-- The end may send the frame anew: with its class's credit, or for a response a response credit, and with a buffer for the response
it awaits (R185 to R187). -/
def sendable (e : RopeEnd) (f : Frame) : Bool :=
  (decide (0 < lget 0 e.credits f.cls) || (f.kind == 2 && decide (0 < e.respCredits))) && bufferFree e f

/-- The frame of class `c` that goes next: the first that the levels let cross, and when that one may not be sent, the first response
behind it (R180, R186, R190). -/
def headOf (s : State) (e : RopeEnd) (c : Nat) : Option Frame :=
  let l := e.queue.filter (fun f => f.cls == c && mayCross s f)
  match l with
  | [] => none
  | f :: t => if sendable e f then some f else t.find? (fun g => g.kind == 2 && f.kind != 2 && sendable e g)

/-- The next new frame by strict class priority (R178, R185, R195). -/
def nextNew (s : State) (e : RopeEnd) : Option Frame :=
  if 64 ≤ e.unacked.length then none else ((List.range 8).filterMap (headOf s e)).head?

/-- Nothing of the end is ready to be sent. -/
def idleEnd (s : State) (e : RopeEnd) : Bool := e.control.isEmpty && e.resend.isEmpty && (nextNew s e).isNone

/-- Credits returned in the next frame: class and count (R189). -/
def creditField (e : RopeEnd) : Nat × Nat :=
  match (List.range 8).find? (fun c => decide (0 < lget 0 e.owed c)) with
  | some c => (c, min 31 (lget 0 e.owed c))
  | none => (0, 0)

/-- Fill the acknowledgement and credit fields, which the end has then returned (R176, R189, R194). -/
def stampFields (e : RopeEnd) (f : Frame) : RopeEnd × Frame :=
  let r := creditField e
  ({ e with goodRun := 0, owed := lset e.owed r.1 (lget 0 e.owed r.1 - r.2) },
   { f with ack := some e.lastGood, crClass := r.1, crCount := r.2 })

/-- Spend a frame's credit and reserve the buffer of its response (R185 to R187). -/
def spend (e : RopeEnd) (f : Frame) : RopeEnd :=
  let e := if 0 < lget 0 e.credits f.cls then { e with credits := lset e.credits f.cls (lget 0 e.credits f.cls - 1) }
    else { e with respCredits := e.respCredits - 1, respOut := lset e.respOut f.cls (lget 0 e.respOut f.cls + 1) }
  if expectsResponse f then { e with awaits := e.awaits ++ [(f.cls, f.tag)] } else e

/-! ### Transmission (R133, R173, R178, R193) -/

/-- Octets of a field heartbeat (R133). -/
def fieldHeartbeat (s : State) : List Byte :=
  leBytes 8 s.fclk.time ++ leBytesI 4 (ppb (applied s)) ++ leBytes 1 (fclkByte s) ++ leBytes 1 s.fclk.fsteps ++
    leBytes 2 (match s.pairs.p2 with | some p => p.2.2 | none => 0)

/-- A field heartbeat carries the time record of the moment at which it leaves (R133). -/
def timed (s : State) (d : Die) (f : Frame) : Frame := if d = .field ∧ f.cls = 0 ∧ f.kind = 0 then { f with payload := fieldHeartbeat s } else f

/-- A frame goes onto the active lanes (R173). -/
def onLanes (s : State) (e : RopeEnd) (f : Frame) : RopeEnd := { e with wire := e.wire ++ [laneSymbols s.link.width f] }

/-- A LINK frame (R177). -/
def linkFrame (nak : Bool) : Frame := { mkFrame 0 3 1 [] with nak := nak }

/-- A LINK frame is queued unless one waits (R177, R189, R194). -/
def queueLink (s : State) (d : Die) (nak : Bool) : State :=
  let e := ropeEnd s d
  if !nak && e.control.any (fun g => g.tag == 1) then s else setEnd s d { e with control := e.control ++ [linkFrame nak] }

/-- Credits still owed go back in a LINK frame when nothing else is ready (R189). -/
def returnCredits (s : State) (d : Die) : State :=
  let e := ropeEnd s d
  if idleEnd s e && e.owed.any (fun n => decide (0 < n)) then queueLink s d false else s

/-- One frame leaves an end: link control first, then a replay with its own credit field, then new frames (R178, R189, R193). -/
def transmit (s : State) (d : Die) : State :=
  let e := ropeEnd s d
  let s := match e.control with
    | f :: t =>
      let r := stampFields e f
      setEnd s d (onLanes s { r.1 with control := t } r.2)
    | [] =>
      match e.resend with
      | f :: t => setEnd s d (onLanes s { e with resend := t, goodRun := 0 } (timed s d { f with ack := some e.lastGood }))
      | [] =>
        match nextNew s e with
        | none => s
        | some f0 =>
          let r := stampFields (spend e f0) (timed s d { f0 with seq := e.nextSeq })
          setEnd s d (onLanes s { r.1 with queue := e.queue.erase f0, nextSeq := (e.nextSeq + 1) % 256, unacked := e.unacked ++ [(r.2, 0)] } r.2)
  returnCredits s d

/-! ### Acknowledgement, replay and credits (R191 to R197) -/

/-- Sent frames that an ACK_SEQ covers, and the rest (R176). -/
def splitAcked (l : List (Frame × Nat)) (ack : Nat) : List (Frame × Nat) × List (Frame × Nat) :=
  match l.findIdx? (fun p => p.1.seq == ack) with
  | some i => (l.take (i + 1), l.drop (i + 1))
  | none => ([], l)

/-- A port request that waits ends without a value. -/
def waitDone (s : State) (w : PortWait) (status abort : Nat) : State :=
  portDone s w.entry.op w.entry.tag w.entry.index w.entry.sub status 0 abort [] w.entry.offset

/-- The posted write that an acknowledged frame ends completes with STATUS 1 (R214, R266). -/
def postedDone (s : State) (f : Frame) : State :=
  match s.portWaits.find? (fun w => w.posted && w.entry.tag == f.tag) with
  | some w => waitDone { s with portWaits := s.portWaits.erase w } w 1 0
  | none => s

/-- The request of a full reset (R972). -/
def isFullReset (f : Frame) : Bool := f.cls == 3 && f.kind == 1 && fieldN f.payload 0 2 == 0x3A40

/-- Frames of an end are acknowledged; posted port writes among them complete (R214, R266), and the delay of a full reset begins
(R972). -/
def acked (s : State) (d : Die) (ack : Nat) : State :=
  let e := ropeEnd s d
  let r := splitAcked e.unacked ack
  let s := setEnd s d { e with unacked := r.2, resend := e.resend.filter (fun f => !(r.1.any (fun p => p.1.seq == f.seq))) }
  match d with
  | .host => (r.1.filter (fun p => isPosted p.1)).foldl (fun s p => postedDone s p.1) s
  | .field => if r.1.any (fun p => isFullReset p.1) then { s with fboot := { s.fboot with askedAt := some s.fclk.ticks } } else s

/-- Credits come back: response credits spent on the class first (R186, R189).
Log entry 13: DESIGN CHOICE, unsafe. -/
def creditsBack (s : State) (d : Die) (c n : Nat) : State :=
  let e := ropeEnd s d
  let k := min n (lget 0 e.respOut c)
  setEnd s d { e with respCredits := e.respCredits + k, respOut := lset e.respOut c (lget 0 e.respOut c - k),
                      credits := lset e.credits c (lget 0 e.credits c + (n - k)) }

/-- The acknowledgement and credit fields of an arriving frame act on what this end has sent. -/
def takeFields (s : State) (d : Die) (f : Frame) : State :=
  let s := match f.ack with | some a => acked s d a | none => s
  if f.crCount = 0 then s else creditsBack s d f.crClass f.crCount

/-! ### Training and width (R171, R198 to R209, R1050) -/

/-- A retrain of a trained link starts (R198, R205, R206); frames on the lanes are lost and replayed at link UP.
Log entry 13: DESIGN CHOICE, unsafe. -/
def retrain (s : State) (want : Nat) (retest asked : Bool) : State :=
  if s.link.mode = .up then
    let s := bump s 0x3A01 3
    { s with link := { s.link with mode := .training, want := want, attempts := 1, retest := retest, hostAsked := asked, afresh := false }
             fend := { s.fend with wire := [] }, hend := { s.hend with wire := [] } }
  else s

/-- An end starts afresh: no frame in flight, sequence numbers and credits as after a reset (R1050). -/
def endFresh (e : RopeEnd) : RopeEnd :=
  { e with control := [], unacked := [], resend := [], nextSeq := 0, lastGood := 255, goodRun := 0, episode := false,
           credits := classCredits, respCredits := 2, respOut := List.replicate 8 0, owed := List.replicate 8 0, awaits := [], wire := [],
           degraded := false, inbox := e.inbox.map (fun f => { f with stale := true }) }

/-- Every port request that waits for the field die completes with abort 0x0800_0020 (R229, R280). -/
def portWaitsAbort (s : State) : State := s.portWaits.foldl (fun s w => waitDone s w 2 0x08000020) { s with portWaits := [] }

/-- A power request whose consent can no longer come is refused (R949).
Log entry 47: DESIGN CHOICE, unsafe. -/
def consentGone (s : State) : State :=
  let t := { s with pwr := { s.pwr with pendingWatch := none, wakePending := false, asker := none } }
  match s.pwr.pendingWatch, s.pwr.asker.bind (fun x => x.port) with
  | none, _ => s
  | some _, some e => portDone t e.op e.tag e.index e.sub 2 0 0x08000022 [] e.offset
  | some _, none => t

/-- Host frames that will not be delivered: mirror messages are reported undelivered (R46), port requests abort (R229, R280), and a
power request stays without consent. -/
def failHostFrames (s : State) (l : List Frame) : State :=
  consentGone <| portWaitsAbort { s with gal := { s.gal with undelivered := ((l.filter isMirror).map (fun f => fieldN f.payload 2 2)).reverse ++ s.gal.undelivered } }

/-- The link goes DOWN (R207, R229, R268, R1050). -/
def linkDown (s : State) : State :=
  if s.link.mode = .down then s
  else
    let lost := s.hend.unacked.map (fun p => p.1)
    let s := { s with link := { s.link with mode := .down, width := 0, healthy := 0, viol := [], attempts := 0, afresh := true, retest := true, hostAsked := false,
                                            kept := s.link.after.or s.link.kept, after := none }
                      fend := endFresh s.fend, hend := endFresh s.hend }
    linkNotice (failHostFrames s lost) 1

/-- The next lower width (R209). -/
def lowerWidth (w : Nat) : Nat := if w = 4 then 2 else if w = 2 then 1 else 0

/-- A pair fails during a retrain (R209); a request that came after step 7 now governs the next attempt (R206). -/
def retrainFail (s : State) : State :=
  if s.link.mode ≠ .training then s
  else if 3 ≤ s.link.attempts ∨ lowerWidth s.link.want = 0 ∨ s.link.healthy = 0 then linkDown s
  else { s with link := { s.link with want := lowerWidth s.link.want, attempts := s.link.attempts + 1, kept := s.link.after.or s.link.kept, after := none } }

/-- Pairs are faulty: the link retrains on the others, and with none left it is DOWN (R204, R205, R207). -/
def pairsFault (s : State) (faulty : BitVec 4) (asked : Bool) : State :=
  let s := { s with link := { s.link with healthy := s.link.healthy &&& ~~~faulty, viol := [] } }
  if s.link.healthy = 0 then linkDown s else retrain s s.link.width false asked

/-- A host retrain request is SUPERSEDED (R209): the field die records it while it runs, and ROPE_STATUS in any case. -/
def supersede (s : State) : State :=
  let s := { s with link := { s.link with superseded := true } }
  if fieldHw s then bump (putN s 0x3A02 2 2) 0x3A01 5 else s

/-- Upper TAG octet of RETRAIN_REQ (R177): the width asked for, or bit 15 with the faulty pairs. -/
def retrainHigh (width : BitVec 3) (faulty : Option (BitVec 4)) : Nat :=
  match faulty with
  | some m => 128 + m.toNat
  | none => width.toNat

/-- What the field die does with a RETRAIN_REQ frame by its TAG (R177, R205, R206). -/
def retrainAsked (s : State) (tag : Nat) : State :=
  if bit tag 15 then pairsFault s (BitVec.ofNat 4 (bits tag 11 8)) true else retrain s (bits tag 15 8) true true

/-- Go-back-N from the oldest unacknowledged frame; the fifth replay of one frame marks the link degraded and the field die
retrains (R193, R197). -/
def replay (s : State) (d : Die) : State :=
  let e := ropeEnd s d
  match e.unacked with
  | [] => s
  | (_, n) :: _ =>
    if 4 ≤ n then retrain (setEnd s d { e with degraded := true }) s.link.width false false
    else bump (setEnd s d { e with unacked := e.unacked.map (fun p => (p.1, p.2 + 1)), resend := e.unacked.map (fun p => p.1) }) 0x3A01 2

/-! ### Reception (R176, R180, R181, R191, R192) -/

/-- A frame leaves its receive buffer: its credit is owed unless the link has been DOWN since (R189, R1050). -/
def dispatched (s : State) (d : Die) (f : Frame) : State :=
  let e := ropeEnd s d
  if f.stale then s else returnCredits (setEnd s d { e with owed := lset e.owed f.cls (lget 0 e.owed f.cls + 1) }) d

/-- A bad frame outside an error episode: an episode begins and one NAK goes out (R191, R192).
Log entry 13: DESIGN CHOICE, unsafe. -/
def crcError (s : State) (d : Die) : State :=
  let s := bump s 0x3A01 1
  queueLink (setEnd s d { ropeEnd s d with episode := true }) d true

/-- The oldest frame of a die's receive buffers of the given sort, and the state with it dispatched (R189). -/
def takeIn (s : State) (d : Die) (p : Frame → Bool) : Option (Frame × State) :=
  match (ropeEnd s d).inbox.find? p with
  | some f => some (f, dispatched (setEnd s d { ropeEnd s d with inbox := (ropeEnd s d).inbox.erase f }) d f)
  | none => none

/-- A frame is delivered, at the host die with the replica's time (R134): a response gives its buffer to the request it answers
(R187), and the eighth good frame is acknowledged (R194). -/
def deliver (s : State) (d : Die) (f : Frame) : State :=
  let e := ropeEnd s d
  let f := match d with | .host => { f with arrived := s.trep.time } | .field => f
  let s := setEnd s d { e with inbox := e.inbox ++ [f], awaits := if f.kind = 2 then e.awaits.erase (f.cls, f.tag) else e.awaits }
  if 8 ≤ e.goodRun then queueLink s d false else s

/-- A class frame arrives whole and good, or bad with the sequence number it was sent with (R181, R191, R192). -/
def classIn (s : State) (d : Die) (f : Frame) (good : Bool) : State :=
  let e := ropeEnd s d
  let inOrder := f.seq == (e.lastGood + 1) % 256
  if e.episode && !inOrder then s
  else if !good || !inOrder then crcError s d
  else
    let s := setEnd s d { e with episode := false, lastGood := f.seq, goodRun := e.goodRun + 1 }
    let s := takeFields s d f
    let s := if decide (classMax f.cls < f.payload.length) || !classKind f.cls f.kind then bump (dispatched s d f) 0x3A01 6 else deliver s d f
    if f.nak then replay s d else s

/-- A LINK frame acts. -/
def linkIn (s : State) (d : Die) (f : Frame) : State :=
  let s := takeFields s d f
  if f.nak then replay s d else s

/-- A link-control frame that was sent to `d` arrives bad: the credits it carried are owed again, and a LEVELS frame is sent again.
Log entry 123: DESIGN CHOICE, unsafe. -/
def controlBad (s : State) (d : Die) (f : Frame) : State :=
  let e := ropeEnd s (otherDie d)
  let e := { e with owed := lset e.owed f.crClass (lget 0 e.owed f.crClass + f.crCount), control := if f.tag % 256 = 3 then e.control ++ [f] else e.control }
  let s := setEnd s (otherDie d) e
  if (ropeEnd s d).episode then s else crcError s d

/-- A link-control frame arrives good; a LEVELS frame is left to its own command. -/
def controlIn (s : State) (d : Die) (f : Frame) : State :=
  if f.tag % 256 = 1 then linkIn s d f else if f.tag % 256 = 2 ∧ d = .field then retrainAsked (takeFields s d f) f.tag else s

/-- The frame at the head of a die's lanes. -/
def wireHead (s : State) (src : Die) : Option Frame := (ropeEnd s src).wire.head?.bind frameOfLanes

/-- A die's lanes without their first frame. -/
def wireTail (s : State) (src : Die) : State := setEnd s src { ropeEnd s src with wire := (ropeEnd s src).wire.drop 1 }

/-- The frame at the head of the lanes towards `d` when it is the link-control frame with a code, and the state without it. -/
def takeControl (s : State) (d : Die) (code : Nat) : Option (Frame × State) :=
  match wireHead s (otherDie d) with
  | some f => if f.kind = 3 ∧ f.tag % 256 = code then some (f, wireTail s (otherDie d)) else none
  | none => none

/-- Code and disparity violations of each pair within the last 1 ms, with those that `lanes` show at `d` (R204). -/
def violationsWith (s : State) (d : Die) (lanes : List (List Symbol)) : Tab (List Nat) :=
  (lanes.zip (activePairs s)).foldl
    (fun t p =>
      let k := p.2 + 4 * b2n (d == .host)
      tset [] t k ((tget [] t k).filter (fun u => decide (s.fclk.time < u + 1000000)) ++ List.replicate (laneViolations p.1) s.fclk.time)) s.link.viol

/-- A pair that shows 16 violations within 1 ms is faulty: the field die retrains, the host die reports it by RETRAIN_REQ (R204,
R205). -/
def noteViolations (s : State) (d : Die) (lanes : List (List Symbol)) : State :=
  let v := violationsWith s d lanes
  let bad := (activePairs s).filter (fun p => decide (16 ≤ (tget [] v (p + 4 * b2n (d == .host))).length))
  let s := { s with link := { s.link with viol := v } }
  if bad.isEmpty then s
  else
    match d with
    | .field => pairsFault s (BitVec.ofNat 4 (maskOf bad)) false
    | .host => ropeControl { s with link := { s.link with viol := [] } } .host 2 (retrainHigh 0 (some (BitVec.ofNat 4 (maskOf bad))))

/-- The frame that arrives in place of the one sent. -/
def arrivalIn (s : State) (d : Die) (sent : Frame) (got : Option Frame) : State :=
  match got with
  | some f => if f.kind = 3 then controlIn s d f else classIn s d f true
  | none => if sent.kind = 3 then controlBad s d sent else classIn s d sent false

/-- The next frame on the lanes towards `d` arrives (R176, R191); a LEVELS frame that arrives as it was sent waits for its own
command. -/
def frameIn (s : State) (d : Die) (rx : Arrival) : State :=
  match rx, wireHead s (otherDie d) with
  | .stray l, _ =>
    let bad := l.any (fun x => x.any (fun y => y != .idle && y != .test))
    let s := noteViolations s d l
    if bad && !(ropeEnd s d).episode then crcError s d else s
  | .asSent, some f => if f.kind = 3 ∧ f.tag % 256 = 3 then s else arrivalIn (wireTail s (otherDie d)) d f (some f)
  | .damaged l, some f =>
    let s := arrivalIn (wireTail s (otherDie d)) d f (if l.length = s.link.width then frameOfLanes l else none)
    noteViolations s d l
  | _, none => s

/-! ### Loss of the partner's heartbeats (R1042) -/

/-- HRUN (R210): 0b100 while shutting down (R427, R951), 0b010 while booting, up to step 8 (R980), else [0] the runtime answers, never
under INCOMPATIBLE (R995). -/
def hrunByte (s : State) : Nat :=
  if s.hboot.pending.isSome then 4
  else if !hostUp s || !s.gal.ready then 2
  else b2n ((reg s (bDP + 0x28)).testBit 2 && decide (s.link.hostOutcome ≠ 3))

/-- Octets of a host heartbeat (R210). -/
def hostHeartbeat (s : State) : List Byte :=
  leBytes 8 s.trep.time ++ leBytes 8 s.hclk.time ++ leBytes 2 s.hclk.pairSeq ++ leBytes 1 (hclkByte s) ++ leBytes 1 (hrunByte s) ++
    leBytesI 8 s.hclk.offset

/-! ### The commands -/

/-- R178. -/
def execRopeFrameTransmit (side : Die) (s : State) : Out := .next (if ropeUp s then transmit s side else s)

/-- R177: a LINK frame. -/
def execLinkFrame (dst : Die) (s : State) : Out :=
  .next (if !ropeUp s then s
    else
      match takeControl s dst 1 with
      | some (f, s) => linkIn s dst f
      | none => s)

/-- R194. -/
def execAckDue (side : Die) (s : State) : Out :=
  .next (if ropeUp s && decide (0 < (ropeEnd s side).goodRun) then queueLink s side false else s)

/-- A heartbeat of the partner (R133, R210); one from before a loss of the link says nothing any more. -/
def isHeartbeat (f : Frame) : Bool := f.cls == 0 && !isMirror f && !f.stale

/-- An S-status message (R883). -/
def isSStatus (f : Frame) : Bool := f.cls == 1 && f.kind == 1 && fieldN f.payload 0 2 == 0x10

/-- The host die's request for consent to LANTERN-WATCH or OFF, and the field die's answer (R950): a class-3 write of 0x3602:01.
Log entry 47: DESIGN CHOICE, unsafe. -/
def isConsent (kind : Nat) (f : Frame) : Bool := f.cls == 3 && f.kind == kind && fieldN f.payload 0 2 == 0x3602

/-- A dictionary request of the host die, which its own command takes (R183). -/
def isDictRequest (f : Frame) : Bool := (f.cls == 1 || f.cls == 3) && f.kind == 1 && !isSStatus f && !isConsent 1 f

/-- A request of the master that the field die has forwarded (R248). -/
def isForward (f : Frame) : Bool := f.cls == 3 && f.kind == 1 && !fieldOwned (fieldN f.payload 0 2)

/-- A response of the host die to a forwarded request. -/
def isForwardAnswer (f : Frame) : Bool := f.cls == 3 && f.kind == 2

/-- A class-3 message of the field firmware that carries values of an index range: host entries (R63), the kept pair (R164), host PTP
settings (R130). -/
def isPush (lo hi : Nat) (f : Frame) : Bool := f.cls == 3 && f.kind == 0 && decide (lo ≤ fieldN f.payload 0 2) && decide (fieldN f.payload 0 2 ≤ hi)

/-- A fault-log record on class 2 (R895, R896), and any other class-2 record (R220). -/
def isFaultRecord (f : Frame) : Bool := f.cls == 2 && fieldN f.payload 0 2 == 6

/-- TAG of the class-4 frames of a set: the set and the number of its latest exchange.
Log entry 55: DESIGN CHOICE, unsafe. -/
def stageTag (s : State) (n : Nat) : Nat := (4 * (tget {} s.sets n).exchange + n) % 65536

/-- A class-4 frame of a set's latest exchange, by what it does.
Log entry 55: DESIGN CHOICE, unsafe. -/
def isStage (s : State) (op n : Nat) (f : Frame) : Bool :=
  f.cls == 4 && f.tag == stageTag s n && fieldN f.payload 0 1 == op && fieldN f.payload 1 1 == n

/-- A command of its own takes the frame at a die. -/
def ownCommand (s : State) (d : Die) (f : Frame) : Bool :=
  let staging := fun (l : List Nat) => l.any (fun op => (List.range 4).any (fun n => isStage s op n f))
  match d with
  | .field => isHeartbeat f || isMirror f || isSStatus f || isConsent 1 f || isDictRequest f || isForwardAnswer f || isFaultRecord f || f.cls == 5 ||
      staging [2, 4]
  | .host => isHeartbeat f || f.cls == 2 || isForward f || isFullReset f || isPush 0x2250 0x2257 f || isPush 0x2280 0x2281 f || isConsent 2 f ||
      staging [1, 3, 5]

/-- R189: the oldest delivered frame that no command of its own takes has been dispatched, and its credit is to be returned. -/
def execCreditReturn (side : Die) (s : State) : Out :=
  .next (match takeIn s side (fun f => !ownCommand s side f) with
    | some (_, t) => t
    | none => s)

/-- R196. -/
def execReplayTimeout (side : Die) (s : State) : Out := .next (if ropeUp s then replay s side else s)

/-- R204, R205, R207. -/
def execPairFault (pair : Fin 4) (s : State) : Out :=
  .next (if s.link.mode = .down ∨ s.link.healthy.getLsbD pair.val = false then s else pairsFault s (BitVec.twoPow 4 pair.val) false)

/-- R177, R205, R206, R209: a RETRAIN_REQ frame of the host die. A request while the link is not UP is SUPERSEDED at once, without a
frame; so is one that meets a request of the field die within 200 ns. -/
def execRetrainReqFrame (width : BitVec 3) (faulty : Option (BitVec 4)) (within200ns : Bool) (s : State) : Out :=
  .next (if !hostHw s then s
    else
      let s := match takeControl s .field 2 with | some (_, t) => t | none => s
      if s.link.mode ≠ .up ∨ within200ns = true then supersede s else retrainAsked s (2 + 256 * retrainHigh width faulty))

/-- R206: a checked write to 0x3A02:01. -/
def retrainWrite (s : State) (width : Nat) : State :=
  if s.link.mode = .up then retrain s width true false
  else { s with link := { s.link with kept := some width } }

/-- R209. -/
def execRetrainPairFail (pair : Fin 4) (s : State) : Out :=
  .next (retrainFail { s with link := { s.link with healthy := s.link.healthy &&& ~~~(BitVec.twoPow 4 pair.val) } })

/-- R207, R1050: a DOWN link is trained afresh. -/
def execTrainingAttempt (passing : BitVec 4) (s : State) : Out :=
  .next (if fieldHw s && hostHw s && s.link.mode == .down && decide (passing ≠ 0) && (decide (objN s 0x3A30 1 ≠ 1) || s.link.beacon) then
      { s with link := { s.link with mode := .training, healthy := passing, want := 4, attempts := 1, retest := true, afresh := true } }
    else s)

/-- The LEVELS payload of a die (R177, R203).
Log entry 55: DESIGN CHOICE, unsafe. -/
def levelsBytes (l : Levels) (fresh : Bool) : List Byte :=
  leBytes 2 l.rpl.toNat ++ leBytes 2 l.dsl.toNat ++ leBytes 2 l.qal.toNat ++ leBytes 2 l.mbl.toNat ++ leBytes 4 l.build.toNat ++
    [l.stepping] ++ leBytes 1 (b2n fresh + 2 * b2n l.slotB) ++ [0, 0]

/-- The levels that a LEVELS payload spells (R177). -/
def levelsIn (b : List Byte) : Levels :=
  let w := fun (o : Nat) => BitVec.ofNat 16 (fieldN b o 2)
  { rpl := w 0, dsl := w 2, qal := w 4, mbl := w 6, build := BitVec.ofNat 32 (fieldN b 8 4), stepping := b.getD 12 0, slotB := bit (fieldN b 13 1) 1 }

/-- FRESH of a LEVELS payload (R177). -/
def levelsFresh (b : List Byte) : Bool := bit (fieldN b 13 1) 0

/-- Levels of a die's running image; the boot ROM's recovery carries RPL 1.0 and nothing else (R1003). -/
def levelsOf (b : BootState) : Levels :=
  if b.mode = .running ∨ b.mode = .halted then { (runningImage b).levels with slotB := b.slotB }
  else { rpl := 0x0100, dsl := 0, qal := 0, mbl := 0, build := 0, stepping := 0xB0, slotB := false }

/-- Records and reports held while Rope was not UP go out (R895). -/
def flushHeld (s : State) : State :=
  let held := s.saf.hostHeld
  held.foldl (fun s r => ropeSend s .host (mkFrame 2 0 0 (leBytes 2 6 ++ [0, 0] ++ faultBytes r)))
    { s with saf := { s.saf with hostHeld := [] } }

/-- The link's own state once it is UP at width `w` (R198, R203, R204, R208). -/
def linkUpState (s : State) (healthy : BitVec 4) (w d : Nat) : State :=
  let levels := !s.link.fieldSeen || !s.link.hostSeen
  { s with link := { s.link with mode := .up, width := w, healthy := healthy, viol := [], d := d, kept := none, after := none, attempts := 0, retest := false,
                                 hostAsked := false, beacon := false, afresh := false, fieldSeen := true, hostSeen := true, levelsDue := s.link.levelsDue || levels,
                                 fieldHas := s.link.fieldHas && !levels, hostHas := s.link.hostHas && !levels,
                                 fresh := if levels then !s.link.fieldSeen else s.link.fresh,
                                 hostNew := if levels then !s.link.hostSeen else s.link.hostNew } }

/-- Credit counts that an end takes over at link UP after a retrain (R198): its buffers less the frames its partner has not received
or not dispatched; what frames on the lanes returned is counted so, and their replays return nothing again. -/
def exchanged (e partner : RopeEnd) : RopeEnd :=
  let out := fun (c : Nat) => (e.unacked.map (fun p => p.1) ++ partner.inbox.filter (fun f => !f.stale)).filter (fun f => f.cls == c)
  let resp := (List.range 8).map (fun c => min (lget 0 e.respOut c) ((out c).filter (fun f => f.kind == 2)).length)
  { e with credits := (List.range 8).map (fun c => lget 0 classCredits c - ((out c).length - lget 0 resp c)),
           respOut := resp, respCredits := 2 - resp.foldl (· + ·) 0, owed := List.replicate 8 0,
           unacked := e.unacked.map (fun p => ({ p.1 with crCount := 0 }, p.2)) }

/-- An end at link UP: nothing of link control waits, and every unacknowledged frame is replayed (R193, R198). -/
def endUp (e : RopeEnd) : RopeEnd := { e with control := [], episode := false, degraded := false, resend := e.unacked.map (fun p => p.1) }

/-- Both ends start over after a link that was DOWN; after a retrain they exchange sequence numbers and credit counts and replay
(R193, R198, R1050). -/
def linkUpEnds (s : State) (afresh : Bool) (fa ha : Nat) : State :=
  let s := if afresh then { s with fend := endFresh s.fend, hend := endFresh s.hend }
    else
      let s := acked (acked s .field ha) .host fa
      { s with fend := exchanged s.fend s.hend, hend := exchanged s.hend s.fend }
  { s with fend := endUp s.fend, hend := endUp s.hend }

/-- The LEVELS frames that are due and have not arrived, the record of a lower width, the link notice and the records held for the
field die (R203, R207, R268, R895, R993). -/
def linkUpNews (s : State) (afresh fresh degraded : Bool) (w : Nat) : State :=
  let s := if s.link.levelsDue && !s.link.hostHas then ropeControl s .field 3 0 (levelsBytes (levelsOf s.fboot) s.link.fresh) else s
  let s := if s.link.levelsDue && !s.link.fieldHas then ropeControl s .host 3 0 (levelsBytes (levelsOf s.hboot) false) else s
  let s := if degraded then emcy (bump s 0x3A01 4) 0xFF08 0xFF w else s
  let s := if afresh then linkNotice s (if fresh then 2 else 3) else s
  flushHeld s

/-- R198: training completes. A request that came after step 7 retrains the link right away (R206). -/
def linkTrained (s : State) (passing : BitVec 4) (d : Nat) : State :=
  let kept := s.link.kept
  let want := kept.getD s.link.want
  let healthy := if s.link.retest || s.link.afresh || kept.isSome then passing else s.link.healthy &&& passing
  let w := widthOf healthy want
  if w = 0 then linkDown { s with link := { s.link with mode := .training, healthy := healthy } }
  else
    let up := linkUpState s healthy w d
    let up := if s.link.hostAsked then putN up 0x3A02 2 1 else up
    let up := linkUpEnds up s.link.afresh s.fend.lastGood s.hend.lastGood
    let up := linkUpNews up s.link.afresh (!s.link.fieldSeen) (!s.link.afresh && decide (w < s.link.width) && decide (s.link.width ≤ want)) w
    match s.link.after with
    | some n => retrain up n true false
    | none => up

/-- R198; the host die trains Rope at step 7 of its boot or in recovery (R978, R1003).
Log entry 13: DESIGN CHOICE, unsafe. -/
def execLinkUp (passing : BitVec 4) (d : BitVec 16) (s : State) : Out :=
  .next (if fieldHw s && (hostUp s || s.hboot.mode == .recovery) && s.link.mode != .up then linkTrained s passing d.toNat else s)

/-- R201. -/
def execTallyLockAcquired (delay : BitVec 16) (s : State) : Out :=
  .next (if fieldHw s && hostHw s then { s with link := { s.link with tallyLock := true, tallyDelay := delay.toNat } } else s)

/-- The replica of field time is INVALID and flags every stamp (R162). -/
def tallyLost (s : State) : State :=
  { s with link := { s.link with tallyLock := false }, pos := { s.pos with edgeSymbols := [] },
           trep := { s.trep with invalid := true, stampInvalid := true } }

/-- R162. -/
def execTallyLockLoss (s : State) : Out := .next (if s.link.tallyLock then tallyLost s else s)

/-- R133. -/
def execFieldHeartbeatSend (s : State) : Out :=
  .next (if fieldHw s && s.link.mode != .down then ropeSend s .field (mkFrame 0 0 0 (fieldHeartbeat s)) else s)

/-- R138, R210. -/
def execHostHeartbeatSend (s : State) : Out :=
  .next (if hostHw s && s.link.mode != .down then
      let q := (s.hclk.pairSeq + 1) % 65536
      let s := { s with hclk := { s.hclk with pairSeq := q, pairMarks := ((q, s.hclk.steps, s.trep.steps) :: s.hclk.pairMarks).take 64 } }
      ropeSend s .host (mkFrame 0 0 0 (hostHeartbeat s))
    else s)

/-- Host heartbeats missed before one that arrives now (0x3A10:03).
Log entry 13: DESIGN CHOICE, unsafe. -/
def missedBeats (s : State) : Nat :=
  match s.fend.lastHb with
  | some t => (s.fclk.time - t + 50000) / 100000 - 1
  | none => 0

/-- The host heartbeat that a payload spells (R210). -/
def hostHbOf (b : List Byte) : HostHb :=
  { replica := fieldN b 0 8, ptp := fieldN b 8 8, seq := BitVec.ofNat 16 (fieldN b 16 2), clock := b.getD 18 0, hrun := b.getD 19 0,
    offset := leInt (slice b 20 8) }

/-- The field heartbeat that a payload spells (R133). -/
def fieldHbOf (b : List Byte) : FieldHb :=
  { tSend := fieldN b 0 8, rho := leInt (slice b 8 4), fstate := b.getD 12 0, fsteps := b.getD 13 0, pairAck := BitVec.ofNat 16 (fieldN b 14 2) }

/-- A host heartbeat at the field die (R138, R211, R1042): host-loss timing resumes with the first heartbeat after a watch (R952,
R958). -/
def hostBeat (s : State) (hb : HostHb) : State :=
  let s := if s.fend.timing then bump s 0x3A10 3 (missedBeats s) else s
  let last := hb.hrun.getLsbD 2 && decide (objN s 0x3A30 1 = 1)
  let s := if last then s else putN s 0x3A30 1 0
  let s := { s with fend := { s.fend with timing := !last, lost := false, awaiting := false, lastHb := some s.fclk.time }
                    pairs := { s.pairs with clock := hb.clock, hrun := hb.hrun, offset := hb.offset } }
  takePair s hb.replica hb.ptp hb.seq.toNat

/-- R211, R1042, R138. -/
def execHostHeartbeatReceive (s : State) : Out :=
  .next (match takeIn s .field isHeartbeat with
    | some (f, t) => if fieldHw s then hostBeat t (hostHbOf f.payload) else s
    | none => s)

/-- R134 to R136, R1042. -/
def execFieldHeartbeatReceive (s : State) : Out :=
  .next (match takeIn s .host isHeartbeat with
    | some (f, t) =>
      if !hostHw s then s
      else
        let hb := fieldHbOf f.payload
        replicaHeartbeat { t with hend := { t.hend with timing := true, lost := false, awaiting := false }
                                  hclk := { t.hclk with pairAck := hb.pairAck.toNat } } hb f.arrived
    | none => s)

/-- Class-3 reports of the replica reach the field firmware; until then the host die holds them (R995, R1038). -/
def reportsCross (s : State) : Bool := fieldUp s && crosses s 3

/-- R1038: a load report of the replica. -/
def execLoadReport (s : State) : Out :=
  .next (if reportsCross s && decide (0 < s.replica.loads) then
      bump { s with replica := { s.replica with loads := s.replica.loads - 1 } } 0x2203 3
    else s)

/-- R164, R165: the pushed host pair reaches the host die at its boot. -/
def execHostPairPush (s : State) : Out :=
  .next (match takeIn s .host (isPush 0x2280 0x2280) with
    | some (f, t) =>
      if !hostHw s then s
      else
        let w := fun (o : Nat) => fieldN f.payload o 8
        let t := hostStep t (ofSigned 64 ((w 16 : Int) + w 24 - w 8)) 3
        setHclk t { t.hclk with mode := .holdover, holdNs := 0, holdRun := true }
    | none => s)

/-- R130. -/
def execPtpConfigPush (s : State) : Out :=
  .next (match takeIn s .host (isPush 0x2281 0x2281) with
    | some (f, t) =>
      let sub := fieldN f.payload 2 1
      if hostHw s then { t with hclk := { t.hclk with cfg := tset (dfltOf 0x2281 sub) t.hclk.cfg sub (f.payload.drop 8) } } else s
    | none => s)

/-- R1038: the oldest fire report that the host die holds reaches the field firmware. -/
def execFireReport (s : State) : Out :=
  .next (match s.replica.fires with
    | (n, push, e) :: t =>
      if reportsCross s then
        let s := { s with replica := { s.replica with fires := t } }
        if push = tget 0 s.hostPush n % 65536 then { s with hMaster := tset 0 s.hMaster n e } else s
      else s
    | [] => s)

end Sys2Proof.Machine
end

