-- ==== Sys2Proof/Machine/Position.lean ====
section
/-! DEFINITION. Line position: counting, the predictor, encoder loss and return, index marks, the tally lane's replica,
follower mode, entry writes and the commands of chapter 02. -/

namespace Sys2Proof.Machine

/-! ### The predictor (R75 to R81) -/

/-- Two's complement reading of an integer part in 48 bits (R56, R57). -/
def wrap48 (i : Int) : Int := toSigned 48 (ofSigned 48 i)

/-- Exact value of a binary32 limit; none for an infinity (R76). -/
def finiteRat (x : F32) : Option Rat := if fExp x == 255 then none else some (fRat x)

/-- `a` held within ±`amax` (R75, R76). -/
def clampA (amax : F32) (a : Rat) : Rat :=
  match finiteRat amax with
  | none => a
  | some m => if m < a then m else if a < -m then -m else a

/-- Velocity over `w` edges from `t0` to `t1` ns, signed by the direction (R75, R76). -/
def slope (w : Nat) (t1 t0 : Nat) (fwd : Bool) : Rat :=
  let m : Rat := (w : Rat) * 1000000000 / (((t1 : Int) - (t0 : Int) : Int) : Rat)
  if fwd then m else -m

/-- The predictor at a counted edge in the given direction (R75 to R77).
Log entry 6: DESIGN CHOICE, unsafe. -/
def predictorEdge (s : State) (fwd : Bool) : State :=
  let w := objN s 0x2201 8
  let ts := (s.fclk.time :: s.pos.edges).take (2 * w + 1)
  let n := ts.length
  let s := { s with pos := { s.pos with edges := ts, edgeTime := s.fclk.time, synth := 0 } }
  if n < 2 then s
  else if n < 2 * w + 1 then
    let k := min w (n - 1)
    if ts.getD k 0 < s.fclk.time then
      { s with pos := { s.pos with v := slope k s.fclk.time (ts.getD k 0) fwd, a := 0 } }
    else drawn { s with pos := { s.pos with v := freeRat s, a := 0 } }
  else
    let tw := ts.getD w 0
    let t2 := ts.getD (2 * w) 0
    if tw < s.fclk.time ∧ t2 < tw then
      let v1 := slope w s.fclk.time tw fwd
      let v2 := slope w tw t2 fwd
      let d2 : Rat := ((s.fclk.time - t2 : Nat) : Rat) / 1000000000
      let d1 : Rat := ((s.fclk.time - tw : Nat) : Rat) / 1000000000
      let a := clampA (objF s 0x2201 9) ((v1 - v2) / (d2 / 2))
      { s with pos := { s.pos with v := v1 + a * d1 / 2, a := a } }
    else drawn { s with pos := { s.pos with v := freeRat s, a := 0 } }

/-- Square root of a rational, to 2^-40 of a unit (log entry 21).
Log entry 21: DESIGN CHOICE, unsafe. -/
def ratSqrt (q : Rat) : Rat := ((isqrt (q * ((2 ^ 80 : Nat) : Rat)).floor.toNat : Nat) : Rat) / ((2 ^ 40 : Nat) : Rat)

/-- Predicted time, when there is one, and status of a target, from a counter's integer part, the time of its last edge,
velocity and acceleration (R79 to R81).
Log entry 21: DESIGN CHOICE, unsafe. -/
def predictFrom (ok : Bool) (count : Int) (edgeTime : Nat) (vel acc : Rat) (target : Int) : Option Nat × Nat :=
  if !ok then (none, 2)
  else if vel = 0 then (none, 1)
  else
    let d0 : Rat := ((wrap56 (target - count * 256) : Int) : Rat) / 256
    let neg := decide (vel < 0)
    let d := if neg then -d0 else d0
    let v := rabs vel
    let a := if neg then -acc else acc
    if d < 0 then (none, 1)
    else if v * v + 2 * a * d < 0 then (none, 1)
    else
      let delta : Rat := if a = 0 then d / v else 2 * d / (v + ratSqrt (v * v + 2 * a * d))
      (some (((edgeTime : Int) + ratRne (delta * 1000000000)).toNat % 2 ^ 64), 0)

/-- The field die's predictor (R79 to R81). -/
def predict (s : State) (target : Int) : Option Nat × Nat :=
  predictFrom (decide (s.pos.mode = .measured)) s.pos.count s.pos.edgeTime s.pos.v s.pos.a target

/-- The host die's predictor, over the replica and the velocity and acceleration the tally lane carries (R84, R628). -/
def predictHost (s : State) (target : Int) : Option Nat × Nat :=
  predictFrom (!s.replica.held && decide (s.replica.pstate.toNat % 8 = 0)) s.replica.count s.replica.edgeTime (fRat s.replica.v) (fRat s.replica.a) target

/-! ### Moving the counter -/

/-- The symbol of an edge on the tally lane (R82). -/
def edgeSymbol (s : State) (fwd est : Bool) : Byte :=
  BitVec.ofNat 8 (128 + 64 * b2n (!fwd) + 32 * b2n est + 4 * (s.fclk.ticks % 8) + ofSigned 2 s.pos.count)

/-- The counter moves by one count, counted or synthetic: the fraction returns to zero, the edge goes onto the tally
lane, entries compare and PULSE_CNT pulses end (R59, R69, R83, R106). -/
def moveOne (s : State) (fwd est : Bool) : State :=
  let oldC := tblCount s .field
  let oldP := linePos s
  let n := { s with pos := { s.pos with count := wrap48 (s.pos.count + (if fwd then 1 else -1)), frac := 0, reverse := !fwd } }
  let n := if n.link.tallyLock then { n with pos := { n.pos with edgeSymbols := n.pos.edgeSymbols ++ [edgeSymbol n fwd est] } } else n
  let n := moveCompare n .field oldC (tblCount n .field) oldP (linePos n) fwd
  pulseCntEnds n .field oldP (linePos n)

/-- The counter takes the reading `p` (R56, R60). -/
def setReading (s : State) (p : Int) : State :=
  let c := p / 256
  let f := (p % 256).toNat
  { s with pos := { s.pos with count := wrap48 (if s.pos.reverse ∧ f ≠ 0 then c + 1 else c),
                               frac := if s.pos.reverse ∧ f ≠ 0 then 256 - f else f } }

/-- The counter steps to `p`: the step is kept in 0x2200:05 and recorded, and passed targets follow the step rules
(R101, R106, R109). -/
def stepTo (s : State) (p : Int) : State :=
  let oldC := tblCount s .field
  let oldP := linePos s
  let n := setReading s p
  let n := putI n 0x2200 5 (wrap56 (linePos n - oldP))
  let n := posRec n .field oldP (linePos n) 0 0 0
  let n := stepCompare n .field oldC oldP
  pulseCntEnds n .field oldP (linePos n)

/-! ### Position state (R94 to R103) -/

/-- The position state changes: a notice goes out, ESTIMATED and INVALID send their emergencies and run their reactions,
and the entries the state holds are held (R98, R99, R101, R222, R360, SM17). -/
def setPosMode (s : State) (m : PosMode) : State :=
  let old := posByte s
  let s := holdAll { s with pos := { s.pos with mode := m } } .field
  let s := if posByte s = old then s else positionNotice s old
  if m = .estimated then
    startReaction (emcy s 0xFF02 0xFF (ofSigned 32 s.pos.count)) (reactionOf (objN s 0x3420 2)) (objN s 0x3420 6) 17
  else if m = .invalid then
    startReaction (emcy s 0xFF03 0xFF (ofSigned 32 s.pos.count)) (reactionOf (objN s 0x3420 1)) (objN s 0x3420 6) 17
  else s

/-- The source is follower (R49). -/
def follower (s : State) : Bool := decide (objN s 0x2201 1 = 2)

/-- A synthetic edge of the estimate: the counter and 0x2200:06 advance; the edge that brings the travel to the limit is
counted first, then the state is INVALID (R97, R101, R103). -/
def estimateEdge (s : State) : State :=
  let s := moveOne s (decide (0 < s.pos.v)) true
  let s := bump { s with pos := { s.pos with synth := s.pos.synth + 1 } } 0x2200 6
  if s.pos.mode = .estimated ∧ objN s 0x2201 6 ≤ objN s 0x2200 6 then
    setPosMode { s with pos := { s.pos with byLoss := true } } .invalid
  else s

/-- `n` synthetic edges in order. -/
def estimateEdges : Nat → State → State
  | 0, s => s
  | n + 1, s => estimateEdges n (estimateEdge s)

/-- Synthetic edges whose time has passed: the m-th falls at t_k + m ÷ |v| (R97). -/
def dueEdges (s : State) : Nat :=
  let m := (rabs s.pos.v * (((s.fclk.time - s.pos.edgeTime : Nat) : Rat) / 1000000000)).floor.toNat
  m - s.pos.synth

/-- Encoder loss is declared: the velocity is frozen, and the state is ESTIMATED, or INVALID with a limit of zero; edges
already due are generated at once (R95, R97, R101, R102). -/
def encoderLoss (s : State) : State :=
  let s := { s with pos := { s.pos with encOk := false } }
  if s.pos.mode = .measured ∨ s.pos.mode = .rejoined ∨ s.pos.mode = .following then
    let s := putN { s with pos := { s.pos with a := 0, edges := [] } } 0x2200 6 0
    let s := if objN s 0x2201 6 = 0 then setPosMode { s with pos := { s.pos with byLoss := true } } .invalid
             else setPosMode s .estimated
    estimateEdges (dueEdges s) s
  else s

/-- A quadrature error leaves the counter unchanged and is counted; four within any 100 µs declare loss (R54, R95). -/
def quadratureError (s : State) : State :=
  let recent := (s.fclk.time :: s.pos.qErrs).filter (fun t => decide (s.fclk.time ≤ t + 100000))
  let s := bump { s with pos := { s.pos with qErrs := recent } } 0x2203 1
  if 4 ≤ recent.length then encoderLoss s else s

/-- A counted edge (R50, R51, R55): it counts while the encoder is valid and the state follows it. The first one after a reset
begins the expectation interval (R905).
Log entry 5: PRESUMED, unsafe. -/
def countEdge (s : State) (fwd : Bool) : State :=
  let fwd := fwd != objB s 0x2201 3
  if s.pos.mode = .measured ∨ s.pos.mode = .rejoined then
    let s := moveOne (predictorEdge s fwd) fwd false
    { s with saf := { s.saf with expectFrom := some (s.saf.expectFrom.getD s.pos.count) } }
  else s

/-- Return of the encoder (R96, R101). -/
def encoderReturn (s : State) : State :=
  let s := { s with pos := { s.pos with encOk := true, qErrs := [] } }
  match s.pos.mode with
  | .estimated =>
    let s := setPosMode { s with pos := { s.pos with edges := [] } } (if follower s then .following else .rejoined)
    releaseHeld s .field .late
  | .invalid =>
    let lost := s.pos.byLoss
    let s := setPosMode { s with pos := { s.pos with edges := [], byLoss := false } }
               (if follower s then .following else if lost then .rejoined else .measured)
    releaseHeld s .field (if lost then .missed else .keep)
  | _ => s

/-! ### Follower mode (R89 to R94, R358) -/

/-- A difference of 48.8 readings taken modulo the counter's width, with its fraction kept (R57, R58). -/
def wrapRat (q : Rat) : Rat := ((wrap56 q.floor : Int) : Rat) + (q - ((q.floor : Int) : Rat))

/-- Last sample interval, ns, and velocity in 48.8 units per ns.
Log entry 8: DESIGN CHOICE, safe. -/
def followRate (s : State) : Nat × Rat :=
  match s.pos.sample0, s.pos.sample1 with
  | some (p0, t0), some (p1, t1) =>
    if t1 < t0 then (t0 - t1, ((wrap56 (p0 - p1) : Int) : Rat) / ((t0 - t1 : Nat) : Rat)) else (0, 0)
  | _, _ => (0, 0)

/-- The published direction is forward; with no velocity, the present direction (R93). -/
def followFwd (s : State) : Bool :=
  let v := (followRate s).2
  if v = 0 then !s.pos.reverse else decide (0 < v)

/-- Position of the follower's line at the present field time: the extrapolation of R90, less what is still being closed
(R92), no further than two sample intervals past the sample (R91). -/
def followLine (s : State) : Rat :=
  match s.pos.sample0 with
  | none => ((linePos s : Int) : Rat)
  | some (p0, t0) =>
    let (iv, v) := followRate s
    let dt : Nat := min (s.fclk.time - t0) (2 * iv)
    let left : Rat := if iv = 0 then 0 else 1 - ((min (s.fclk.time - s.pos.closeFrom) iv : Nat) : Rat) / (iv : Rat)
    (p0 : Rat) + v * (dt : Rat) - ((s.pos.closeBy : Int) : Rat) * left

/-- A new sample: the follower steps forward at once past the threshold, or closes the difference over the next sample
interval; a sample behind it changes nothing (R92, R93). A lost follower is valid again at its second sample (R96, R101).
Log entry 106: DESIGN CHOICE, unsafe. -/
def followTake (s : State) (pos : Int) (time : Nat) : State :=
  let s := { s with pos := { s.pos with sample1 := s.pos.sample0, sample0 := some (pos, time), sampleLost := false,
                                        sampleRun := s.pos.sampleRun + 1, closeBy := 0, closeFrom := s.fclk.time } }
  let s := { s with pos := { s.pos with v := (followRate s).2 * 1000000000 / 256, a := 0 } }
  let fwd := followFwd s
  let ahead := if fwd then wrap56 (pos - linePos s) else wrap56 (linePos s - pos)
  let s :=
    if s.pos.sampleRun < 2 then s
    else if s.pos.mode = .estimated ∨ s.pos.mode = .invalid then encoderReturn s
    else s
  if s.pos.mode ≠ .following then s
  else
    let s := if (objN s 0x2201 0x0B : Int) * 256 < ahead then stepTo s pos else s
    if 0 < ahead then { s with pos := { s.pos with closeBy := wrap56 ((followLine s).floor - linePos s) } } else s

/-! ### Entry writes (R62 to R73) -/

/-- Written contents with STATUS as it was; a hold is judged afresh (R66).
Log entry 7: DEDUCED, unsafe. -/
def keepStatus (old new : Nat) : Nat := withStatus new (if eStatus old = 4 then 0 else eStatus old)

/-- A checked write of a field entry takes effect and is judged as armed (R68, R72).
Log entry 7: DEDUCED, unsafe. -/
def fieldEntrySet (s : State) (n e : Nat) : State :=
  judgeArmed (setEntry s .field n (keepStatus (entry s .field n) e)) .field n

/-- Contents of the master copy of a host entry. -/
def masterEntry (s : State) (n : Nat) : Nat := (tget 0 s.hMaster n).toNat

/-- The class-3 push of a host entry to the replica unit (R63, R1038). -/
def pushHostEntry (s : State) (n : Nat) : State :=
  ropeSend s .field (mkFrame 3 0 (tget 0 s.hostPush n % 65536)
    (leBytes 2 (0x2250 + n / 16) ++ leBytes 1 (n % 16 + 1) ++ [3, 0, 0, 0, 0] ++ leBytes 16 (masterEntry s n)))

/-- A checked write of a host entry: the master copy takes it and a numbered push crosses Rope (R63, R1038). -/
def hostEntrySet (s : State) (n e : Nat) : State :=
  let e := keepStatus (masterEntry s n) e
  pushHostEntry { s with hMaster := tset 0 s.hMaster n (BitVec.ofNat 128 e), hostPush := tset 0 s.hostPush n (tget 0 s.hostPush n + 1) } n

/-- A dictionary write of an entry with its abort code (R64, R67). -/
def entryWrite (s : State) (t : Tbl) (n e : Nat) : State × Nat :=
  match t with
  | .field =>
    if !entryOk .field e then (s, 0x06090030)
    else if 256 - objN s 0x2201 0x0A ≤ n then (s, 0x08000022)
    else (fieldEntrySet s n e, 0)
  | .host =>
    if 128 ≤ n then (s, 0x06020000)
    else if entryOk .host e then (hostEntrySet s n e, 0) else (s, 0x06090030)

/-! ### Preset and re-reference (R56, R105, R1037) -/

/-- Range check of a position value (R56). -/
def posRange (p : Int) : Nat :=
  if (2 ^ 55 : Int) ≤ p then 0x06090031 else if p < -(2 ^ 55 : Int) then 0x06090032 else 0

/-- Counts by which a preset or step moves the counter, added to the index reference (R100). -/
def moveIndexRef (s : State) (oldCount : Int) : State :=
  { s with pos := { s.pos with indexRef := s.pos.indexRef.map (fun r => wrap48 (r + s.pos.count - oldCount)) } }

/-- A write to 0x2202:01 (R105).
Log entry 7: DEDUCED, unsafe. -/
def presetWrite (s : State) (p : Int) : State × Nat :=
  if posRange p ≠ 0 then (s, posRange p)
  else if anyArmed s then (s, 0x08000022)
  else (moveIndexRef (setReading s p) s.pos.count, 0)

/-- A write to 0x2202:02 (R1037). -/
def rereferenceWrite (s : State) (p : Int) : State × Nat :=
  if posRange p ≠ 0 then (s, posRange p)
  else
    let mode := s.pos.mode
    let lost := s.pos.byLoss
    let old := s.pos.count
    let oldByte := posByte s
    let s := { s with pos := { s.pos with mode := if follower s then .following else .measured, byLoss := false } }
    let s := match mode with
      | .estimated => releaseHeld s .field .late
      | .invalid => releaseHeld s .field (if lost then .missed else .keep)
      | _ => s
    let s := moveIndexRef (stepTo s p) old
    let s := putN { s with pos := { s.pos with referenced := true } } 0x2200 6 0
    let s := if posByte s = oldByte then s else positionNotice s oldByte
    let ok := if follower s then !s.pos.sampleLost else s.pos.encOk
    (if ok then s else encoderLoss s, 0)

/-- A write to 0x2270:01 (R81); without a prediction the time is a free value (log entry 3).
Log entry 3: DESIGN CHOICE, safe. Log entry 8: DESIGN CHOICE, safe. -/
def queryWrite (s : State) (p : Int) : State × Nat :=
  if posRange p ≠ 0 then (s, posRange p)
  else
    let r := predict s p
    let s := putN (putI s 0x2270 1 p) 0x2270 3 r.2
    match r.1 with
    | some t => (putN s 0x2270 2 t, 0)
    | none => (drawn (putN s 0x2270 2 (freeW s).toNat), 0)

/-! ### Index marks (R100, R101, R1044) -/

/-- Deviation of the counter from the nearest expected index mark, in counts (R100).
Log entry 107: DESIGN CHOICE, unsafe. -/
def indexDeviation (s : State) (ref : Int) (interval : Nat) : Int :=
  let off := wrap48 (s.pos.count - ref)
  off - (off + (interval / 2 : Nat)) / (interval : Int) * (interval : Int)

/-- An index mark (R100, R101, R1044): reference and deviation are those of the counted integer.
Log entry 107: DESIGN CHOICE, unsafe. -/
def indexSeen (s : State) : State :=
  if objN s 0x2201 1 ≠ 0 then s
  else
    let interval := objN s 0x2201 4
    match s.pos.indexRef with
    | none =>
      let old := posByte s
      let s := { s with pos := { s.pos with indexRef := some s.pos.count, referenced := true } }
      let s := if s.pos.mode = .rejoined ∧ interval ≠ 0 then { s with pos := { s.pos with mode := .measured } } else s
      if posByte s = old then s else positionNotice s old
    | some r =>
      if interval = 0 then s
      else
        let dev := indexDeviation s r interval
        match s.pos.mode with
        | .rejoined => setPosMode (if dev = 0 then s else stepTo s (wrap56 (linePos s - dev * 256))) .measured
        | .measured =>
          if (objN s 0x2201 5 : Int) < dev ∨ dev < -(objN s 0x2201 5 : Int) then posRec s .field (linePos s) (linePos s) 0 1 0
          else if dev = 0 then s
          else stepTo s (wrap56 (linePos s - dev * 256))
        | _ => s

/-! ### The replica (R84 to R88) -/

/-- The replica moves by one count (R85). -/
def replicaMove (s : State) (fwd : Bool) : State :=
  let oldC := tblCount s .host
  let oldP := replicaPos s
  let n := { s with replica := { s.replica with count := wrap48 (s.replica.count + (if fwd then 1 else -1)), frac := 0,
                                                 reverse := !fwd, edgeTime := s.trep.time } }
  let n := moveCompare n .host oldC (tblCount n .host) oldP (replicaPos n) fwd
  pulseCntEnds n .host oldP (replicaPos n)

/-- The replica takes the reading `p` and reports the load; passed targets follow the step rules (R87, R1038). A load writes no step record.
Log entry 103: DESIGN CHOICE, unsafe. -/
def replicaLoad (s : State) (p : Int) : State :=
  let oldC := tblCount s .host
  let oldP := replicaPos s
  let c := p / 256
  let f := (p % 256).toNat
  let n := { s with replica := { s.replica with
      count := wrap48 (if s.replica.reverse ∧ f ≠ 0 then c + 1 else c)
      frac := if s.replica.reverse ∧ f ≠ 0 then 256 - f else f
      loads := s.replica.loads + 1 } }
  let n := stepCompare n .host oldC oldP
  pulseCntEnds n .host oldP (replicaPos n)

/-- A replica value disagrees with the frame's (R87). -/
def replicaDiffers (s : State) (p : Int) : Bool := decide (wrap56 p ≠ replicaPos s)

/-- Every armed host entry is judged as at arming (R72, R108). -/
def judgeHost (s : State) : State :=
  (listed s .host).foldl (fun acc n =>
    let e := entry acc .host n
    judgeArmed (if eArmed e && decide (eStatus e = 4) then setEntry acc .host n (withStatus e 0) else acc) .host n) s

/-- While frames or the reload still hold the host entries, the position state's own release leaves only its records: passages
under an INVALID entered by loss are missed, those before a first valid encoder are forgotten (R88, R101).
Log entry 105: DEDUCED, unsafe. -/
def settleHeld (s : State) (r : Release) : State :=
  (s.replica.passed).foldl
    (fun acc p =>
      let e := entry acc .host p.1
      if !eArmed e then forgetPassed acc .host p.1
      else
        let acc := releasePassed (forgetPassed acc .host p.1) .host p.1 p.2 r
        let e := entry acc .host p.1
        if eArmed e then setEntry acc .host p.1 (withStatus e 4) else acc)
    s

/-- The lane's position state byte changes on the host die: entries are held or released as on the field die (R98, R99,
R101). -/
def replicaState (s : State) (b : Byte) : State :=
  let old := s.replica.pstate.toNat % 8
  let new := b.toNat % 8
  let lost := s.replica.byLoss
  let s := { s with replica := { s.replica with pstate := b, byLoss := if new = 2 then (if old = 2 then lost else true) else false } }
  if new = old then s
  else if new = 1 ∨ new = 2 then holdAll s .host
  else if s.replica.held ∨ s.replica.reloadDue then (if old = 2 then settleHeld s (if lost then .missed else .keep) else s)
  else if old = 1 then releaseHeld s .host .late
  else if old = 2 then releaseHeld s .host (if lost then .missed else .keep)
  else s

/-! ### The tally lane's state frame (R84) -/

/-- One bit enters a CRC-16/CCITT register, most significant bit first (log entry 108).
Log entry 108: PRESUMED, unsafe. -/
def crc16Bit (c : BitVec 16) (b : Bool) : BitVec 16 :=
  if c.getLsbD 15 != b then (c <<< 1) ^^^ 0x1021 else c <<< 1

/-- CRC-16/CCITT over octets in ascending order, from all ones (R84).
Log entry 108: PRESUMED, unsafe. -/
def crc16 (l : List Byte) : BitVec 16 :=
  l.foldl (fun c b => [7, 6, 5, 4, 3, 2, 1, 0].foldl (fun c i => crc16Bit c (b.getLsbD i)) c) 0xFFFF

/-- The 128 bits of a state frame, as 16 octets (R84). -/
def frameOctets (position : Int) (v a : F32) (pstate : Byte) : List Byte :=
  leBytesI 7 position ++ leBytes 4 v.toNat ++ leBytes 4 a.toNat ++ [pstate]

/-- The 21 data symbols of a state frame: 7 bits each, least significant first, bit [7] zero (R84). -/
def frameSymbols (octets : List Byte) : List Byte :=
  let n := leNat octets + 2 ^ 128 * (crc16 octets).toNat
  (List.range 21).map (fun i => BitVec.ofNat 8 (n / 2 ^ (7 * i) % 128))

/-- The number that 7-bit symbols spell, least significant first. -/
def symbolNat : List Byte → Nat
  | [] => 0
  | b :: t => b.toNat % 128 + 128 * symbolNat t

/-- The content of received symbols, none when the CRC or the frame's form is wrong (R84, R87). -/
def frameRead (l : List Byte) : Option TallyFrame :=
  let n := symbolNat l
  let o := leBytes 16 n
  if l.length = 21 ∧ l.all (fun b => !b.getLsbD 7) = true ∧ bits n 143 128 = (crc16 o).toNat then
    some { position := fieldI o 0 7, v := BitVec.ofNat 32 (fieldN o 7 4), a := BitVec.ofNat 32 (fieldN o 11 4), pstate := BitVec.ofNat 8 (fieldN o 15 1) }
  else none

/-- Counts that edge symbols still on the lane will move the replica by (R83, R85). -/
def edgesUnderWay (s : State) : Int :=
  (s.pos.edgeSymbols.map (fun b => if b.getLsbD 6 then (-1 : Int) else 1)).foldl (· + ·) 0

/-- The state frame the field die sends: its position at the K28.5 symbol, less the edges whose symbols have still to be
applied, so that the frame meets the replica counter of the matching instant (R84, R87).
Log entry 109: DESIGN CHOICE, unsafe. -/
def frameSent (s : State) : List Byte :=
  frameSymbols (frameOctets (wrap56 (linePos s - 256 * edgesUnderWay s)) (fOfRat s.pos.v) (fOfRat s.pos.a) (BitVec.ofNat 8 (posByte s)))

/-- The hold for want of state frames ends: entries are released, the replica loads a differing position, and a reload's
entries are judged (R88, R108). -/
def holdEnds (s : State) (f : TallyFrame) : State :=
  let s := { s with replica := { s.replica with held := false, validRun := 0 } }
  let s := if s.replica.reloadDue || s.replica.judgeDue then s else releaseHeld s .host .late
  let s := if replicaDiffers s f.position then replicaLoad s f.position else s
  if s.replica.judgeDue && !s.replica.reloadDue then judgeHost { s with replica := { s.replica with judgeDue := false } } else s

/-- A state frame with a valid CRC (R84, R87, R88). -/
def stateFrameGood (s : State) (f : TallyFrame) : State :=
  let s := replicaState { s with replica := { s.replica with v := f.v, a := f.a } } f.pstate
  if s.replica.held then
    let s := { s with replica := { s.replica with validRun := s.replica.validRun + 1 } }
    if s.replica.validRun < 2 then s else holdEnds s f
  else if replicaDiffers s f.position then replicaLoad s f.position
  else s

/-- The replica unit installs a pushed entry; the last push of a reload ends the reload (R63, R108). -/
def installEntry (s : State) (n push : Nat) (e : BitVec 128) : State :=
  let s := { s with replica := { s.replica with entries := tset 0 s.replica.entries n e, pushes := tset 0 s.replica.pushes n push } }
  let s := judgeArmed s .host n
  if s.replica.reloadDue ∧ n = 127 ∧ s.replica.reloadPush = some push then
    let s := { s with replica := { s.replica with reloadDue := false, reloadPush := none } }
    if s.replica.held then { s with replica := { s.replica with judgeDue := true } } else judgeHost s
  else s

/-! ### Fractions (R59 to R61) -/

/-- The field fraction of the present 5 ns cycle, with its compares and the ends of PULSE_CNT pulses (R69, R1049). -/
def fieldFraction (s : State) : State :=
  let oldP := linePos s
  let n := { s with pos := { s.pos with frac := fraction s.pos.v (sinceEdge s) } }
  let n := moveCompare n .field (tblCount n .field) (tblCount n .field) oldP (linePos n) (!n.pos.reverse)
  pulseCntEnds n .field oldP (linePos n)

/-- The replica fraction of the present 5 ns cycle, with its compares and the ends of PULSE_CNT pulses (R69, R1049). -/
def replicaFraction (s : State) : State :=
  let oldP := replicaPos s
  let n := { s with replica := { s.replica with frac := fraction (fRat s.replica.v) ((s.trep.time - s.replica.edgeTime : Nat) : Rat) } }
  let n := moveCompare n .host (tblCount n .host) (tblCount n .host) oldP (replicaPos n) (!n.replica.reverse)
  pulseCntEnds n .host oldP (replicaPos n)

/-! ### The commands -/

/-- The level an input's filter gives: a new one only after `cycles` stable 200 MHz cycles reach the filter's length (R52). -/
def filtered (length : Nat) (old new : Bool) (cycles : Nat) : Bool := if length ≤ cycles then new else old

/-- R50, R51, R52, R54: levels at A and B, with the cycles for which each has been stable.
Log entry 5: PRESUMED, unsafe. -/
def execLineEncoderEdge (a b : Bool) (stableA stableB : Nat) (s : State) : Out :=
  let oa := s.pos.lvlA
  let ob := s.pos.lvlB
  let a := filtered (objN s 0x2201 2) oa a stableA
  let b := filtered (objN s 0x2201 2) ob b stableB
  let n := { s with pos := { s.pos with lvlA := a, lvlB := b } }
  .next (if !fieldHw s then s
    else if follower s then n
    else if objN s 0x2201 1 = 1 then (if a && !oa then countEdge n b else n)
    else if a != oa && b != ob then quadratureError n
    else if a != oa then countEdge n (a != b)
    else if b != ob then countEdge n (a == b)
    else n)

/-- R63, R108: a pushed entry reaches the replica unit. -/
def execHostEntryPush (s : State) : Out :=
  .next (match takeIn s .host (isPush 0x2250 0x2257) with
    | some (f, t) =>
      let w := fun (o n : Nat) => fieldN f.payload o n
      if hostHw s then installEntry t ((w 0 2 - 0x2250) * 16 + w 2 1 - 1) f.tag (BitVec.ofNat 128 (w 8 16)) else s
    | none => s)

/-- R874.
Log entry 83: DEDUCED, unsafe. -/
def execExpectationMiss (s : State) : Out :=
  .next (match s.saf.expectFrom with
    | none => s
    | some c =>
      let moved := wrap48 (s.pos.count - c)
      let adv := if s.pos.reverse then -moved else moved
      if !fieldUp s || decide (objN s 0x3414 1 = 0) || s.pos.mode == .invalid || decide (adv ≤ (objN s 0x3414 1 + objN s 0x3411 1 : Nat)) then s
      else
        let s := bump { s with saf := { s.saf with expectFrom := some s.pos.count } } 0x3450 7
        startReaction s (reactionOf (objN s 0x3414 2)) (objN s 0x3412 4) 10 (some 0xFF12) (ofSigned 32 adv))

/-- R59 to R61. -/
def execFractionTick (s : State) : Out :=
  .next (let s := if fieldHw s then fieldFraction s else s
    if hostHw s && s.link.tallyLock then replicaFraction s else s)

/-- R70, R1049: a timed pulse on an output ends when its WIDTH is over. -/
def execPulseUsEnd (pin : OutPin) (s : State) : Out :=
  .next (match s.pulses.find? (fun p => decide (p.pin = pin) && p.endAt.isNone && decide (p.left = 0)) with
    | some p => pulseEnd s p
    | none => s)

/-- R78.
Log entry 6: DESIGN CHOICE, unsafe. -/
def execStandstillTimeout (s : State) : Out :=
  .next (if s.pos.mode = .measured ∨ s.pos.mode = .rejoined then
      { s with pos := { s.pos with v := 0, a := 0, edges := [] } }
    else s)

/-- R85: an edge symbol of the tally lane. -/
def execReplicaEdgeApply (symbol : Byte) (s : State) : Out :=
  .next (let n := { s with pos := { s.pos with edgeSymbols := s.pos.edgeSymbols.erase symbol } }
    if hostHw s && s.link.tallyLock && symbol.getLsbD 7 then replicaMove n (!symbol.getLsbD 6) else s)

/-- R84, R87, R88: a state frame arrives as the field die has sent it, or with other symbols. -/
def execStateFrame (received : Option (List Byte)) (s : State) : Out :=
  .next (if !(hostHw s && s.link.tallyLock) then s
    else
      match frameRead (received.getD (frameSent s)) with
      | some f => stateFrameGood s f
      | none => { s with replica := { s.replica with validRun := 0 } })

/-- R88: no valid state frame for 1 µs. -/
def execStateFrameTimeout (s : State) : Out :=
  .next (if hostHw s then holdAll { s with replica := { s.replica with held := true, validRun := 0 } } .host else s)

/-- R90, R358: the newest SyncManager 2 sample. -/
def execFollowerSample (s : State) : Out :=
  .next (if !fieldUp s || !follower s then s
    else
      let p := objI s 0x2260 4
      let t := objN s 0x2260 5
      match s.pos.sample0 with
      | some (_, t0) => if t = t0 then s else if t < t0 then bump s 0x2203 6 else followTake s p t
      | none => followTake s p t)

/-- R90, R91, R93: the follower's line has reached the next count. -/
def execFollowerSyntheticEdge (s : State) : Out :=
  .next (if fieldHw s && s.pos.mode == .following then
      let fwd := followFwd s
      let next : Int := (s.pos.count + (if fwd then 1 else -1)) * 256
      let ahead : Rat := wrapRat (followLine s - (next : Rat))
      if (if fwd then 0 ≤ ahead else ahead ≤ 0) then
        moveOne { s with pos := { s.pos with edgeTime := s.fclk.time, synth := 0 } } fwd true
      else s
    else s)

/-- R94, R95. -/
def execFollowerSampleTimeout (s : State) : Out :=
  .next (if fieldHw s && follower s then
      encoderLoss { s with pos := { s.pos with sampleLost := true, sampleRun := 0 } }
    else s)

/-- R95: a line break on A or B; the follower, whose source is not the encoder, takes none.
Log entry 110: DESIGN CHOICE, unsafe. -/
def execLineBreak (s : State) : Out :=
  .next (if fieldHw s && !follower s then encoderLoss (bump { s with pos := { s.pos with broken := true } } 0x2203 2) else s)

/-- R96: no line break and no quadrature error for 100 µs. -/
def execEncoderValid (s : State) : Out :=
  .next (if fieldHw s && !follower s then
      let s := { s with pos := { s.pos with broken := false } }
      if s.pos.encOk then s else encoderReturn s
    else s)

/-- R97, R103. -/
def execEstimatedSyntheticEdge (s : State) : Out :=
  .next (if fieldHw s && (s.pos.mode == .estimated || (s.pos.mode == .invalid && s.pos.byLoss)) && decide (s.pos.v ≠ 0) then
      estimateEdge s
    else s)

/-- R52, R100: a level of Z that has been stable for the filter's length marks the index. -/
def execIndexMark (stable : Nat) (s : State) : Out :=
  .next (if fieldHw s && decide (objN s 0x2201 2 ≤ stable) then indexSeen s else s)

end Sys2Proof.Machine
end

