-- ==== Sys2Proof/Machine/Profile.lean ====
section
/-! DEFINITION. The profile generator (R820 to R822): jerk-limited time-optimal profiles over exact rationals, replanned
in each cycle from the present set-point (log entry 40). -/

namespace Sys2Proof.Machine

/-- A segment: duration, acceleration at its start, jerk. -/
abbrev Seg := Rat × Rat × Rat

/-- Position, velocity and acceleration after `T` seconds of a segment. -/
def segAt (p v : Rat) (x : Seg) (T : Rat) : Rat × Rat × Rat :=
  (p + v * T + x.2.1 * T * T / 2 + x.2.2 * T * T * T / 6, v + x.2.1 * T + x.2.2 * T * T / 2, x.2.1 + x.2.2 * T)

/-- State at `T` seconds along a plan; past its end the velocity stays and the acceleration is zero. -/
def planAt (p v : Rat) : List Seg → Rat → Rat × Rat × Rat
  | [], T => (p + v * T, v, 0)
  | x :: rest, T =>
    if T ≤ x.1 then segAt p v x T
    else planAt (segAt p v x x.1).1 (segAt p v x x.1).2.1 rest (T - x.1)

/-- Length of a plan. -/
def planTime (l : List Seg) : Rat := (l.map (fun x => x.1)).foldl (· + ·) 0

/-- Magnitude of a rational. -/
def qabs (q : Rat) : Rat := if q < 0 then -q else q

/-- Fastest change of velocity from `v` with acceleration `a` to `w` with none, under acceleration limit `A` and jerk
limit `J`, where 0 is no jerk limit (R820). -/
def velPhase (J A v a w : Rat) : List Seg :=
  if A ≤ 0 then [(1000000000, 0, 0)]
  else if J ≤ 0 then (if w = v then [] else [(qabs (w - v) / A, if v < w then A else -A, 0)])
  else
    let rest := w - (v + a * qabs a / (2 * J))
    let sg : Rat := if 0 < rest then 1 else if rest < 0 then -1 else 0
    if sg = 0 then (if a = 0 then [] else [(qabs a / J, a, if 0 < a then -J else J)])
    else
      let b := sg * a
      let d := sg * (w - v)
      let top := ratSqrt (J * d + b * b / 2)
      if top ≤ A then [((top - b) / J, a, sg * J), (top / J, sg * top, -(sg * J))]
      else
        let t1 := qabs (A - b) / J
        let d1 := (if b ≤ A then A * A - b * b else b * b - A * A) / (2 * J)
        let t2 := (d - d1 - A * A / (2 * J)) / A
        [(t1, a, if b ≤ A then sg * J else -(sg * J)), (if t2 < 0 then 0 else t2, sg * A, 0), (A / J, sg * A, -(sg * J))]

/-- Limit of a change of velocity: acceleration when speeding up, deceleration when slowing, the smaller through zero. -/
def accOf (acc dec v w : Rat) : Rat :=
  if v * w < 0 then (if acc < dec then acc else dec) else if qabs v ≤ qabs w then acc else dec

/-- Path through peak velocity `w` to standstill.
Log entry 40: DESIGN CHOICE, unsafe. -/
def peakPlan (J acc dec v a w cruise : Rat) : List Seg :=
  velPhase J (accOf acc dec v w) v a w ++ (if cruise = 0 then [] else [(cruise, 0, 0)]) ++ velPhase J dec w 0 0

/-- Distance of that path. -/
def peakDist (J acc dec v a w : Rat) : Rat :=
  let l := peakPlan J acc dec v a w 0
  (planAt 0 v l (planTime l)).1

/-- Bisection of the peak velocity for a distance.
Log entry 40: DESIGN CHOICE, unsafe. -/
def bisect (J acc dec v a dist : Rat) : Nat → Rat → Rat → Rat
  | 0, lo, _ => lo
  | n + 1, lo, hi =>
    let mid := (lo + hi) / 2
    if peakDist J acc dec v a mid ≤ dist then bisect J acc dec v a dist n mid hi else bisect J acc dec v a dist n lo mid

/-- Plan over distance `dist` to standstill within velocity `vmax` (R820, R821).
Log entry 40: DESIGN CHOICE, unsafe. -/
def movePlan (J acc dec vmax v a dist : Rat) : List Seg :=
  if vmax ≤ 0 then velPhase J dec v a 0
  else
    let up := peakDist J acc dec v a vmax
    let down := peakDist J acc dec v a (-vmax)
    if up ≤ dist then peakPlan J acc dec v a vmax ((dist - up) / vmax)
    else if dist ≤ down then peakPlan J acc dec v a (-vmax) ((down - dist) / vmax)
    else peakPlan J acc dec v a (bisect J acc dec v a dist 44 (-vmax) vmax) 0

/-- One cycle of `t` seconds towards `target`: position, velocity, acceleration, and whether it has been reached. -/
def moveStep (J acc dec vmax p v a target t : Rat) : (Rat × Rat × Rat) × Bool :=
  let l := movePlan J acc dec vmax v a (target - p)
  if planTime l ≤ t then ((target, 0, 0), true) else (planAt p v l t, false)

/-- One cycle towards velocity `w`. -/
def velStep (J acc dec p v a w t : Rat) : (Rat × Rat × Rat) × Bool :=
  let l := velPhase J (accOf acc dec v w) v a w
  let r := planAt p v l t
  if planTime l ≤ t then ((r.1, w, 0), true) else (r, false)

end Sys2Proof.Machine
end

