-- ==== Sys2Proof/Machine/Control.lean ====
section
/-! DEFINITION. The control engine (chapter 17): the cascade, set-points, gain regions, the plausibility model, CiA 402
states, homing and axis commands. -/

namespace Sys2Proof.Machine

/-! ### Units and objects of an axis (R803, R805) -/

/-- 48.16 steps of one axis unit. -/
def unit16 (s : State) (a : Nat) : Int := 65536 * 2 ^ objN s (axA a + 1) 0x0A

/-- A 48.16 position in axis units. -/
def unitsOf (s : State) (a : Nat) (p : Int) : Rat := (p : Rat) / (unit16 s a : Rat)

/-- The 48.16 position nearest to a number of axis units. -/
def fromUnits (s : State) (a : Nat) (q : Rat) : Int := toSigned 64 (ofSigned 64 (ratRne (q * (unit16 s a : Rat))))

/-- Integer axis-unit position (R805). -/
def intUnits (s : State) (a : Nat) (p : Int) : Int := p / unit16 s a

/-- Mode of operation, 0x6060 (R832). -/
def modeOf (s : State) (a : Nat) : Nat := objN s (ciaI 0x6060 a) 0

/-- A CiA 402 object of the axis. -/
def cN (s : State) (i a : Nat) (sub : Nat := 0) : Nat := objN s (ciaI i a) sub

/-- Seconds of a number of ns. -/
def secs (ns : Nat) : Rat := (ns : Rat) / 1000000000

/-- Sign of a binary32 value. -/
def fSign (x : F32) : Int := if fLt x 0 then -1 else if fLt 0 x then 1 else 0

/-- The value is an infinity or a NaN. -/
def fBad (x : F32) : Bool := fExp x == 255

/-- Largest of three. -/
def fMax3 (x y z : F32) : F32 := let m := if fLt x y then y else x; if fLt m z then z else m

/-- Smallest of three. -/
def fMin3 (x y z : F32) : F32 := let m := if fLt y x then y else x; if fLt z m then z else m

/-- A gain of a region record: fields at 0 KPP, 4 KVP, 8 KVI, 12 KCP, 16 KCI, 20 KVFF, 24 KAFF. -/
def gain (g : List Byte) (off : Nat) : F32 := BitVec.ofNat 32 (fieldN g off 4)

/-- Loop results run for an axis with torque (R806). -/
def passes? (s : State) (a : Nat) : Bool := (ce s a).drive.running && !torqueOff s a

/-! ### Gain regions (R824 to R827, R831) -/

/-- Breakpoint `i` of A + 0x00:05. -/
def breakpoint (s : State) (a i : Nat) : Rat := fRat (BitVec.ofNat 32 (fieldN (stored s (axA a) 5) (4 * i) 4))

/-- Regions move up while the value has reached the next breakpoint plus half the hysteresis. -/
def regionUp (s : State) (a : Nat) (x h : Rat) : Nat → Nat → Nat
  | 0, r => r
  | n + 1, r => if r < 7 ∧ breakpoint s a r + h / 2 ≤ x then regionUp s a x h n (r + 1) else r

/-- Regions move down while the value is below the breakpoint less half the hysteresis. -/
def regionDown (s : State) (a : Nat) (x h : Rat) : Nat → Nat → Nat
  | 0, r => r
  | n + 1, r => if 0 < r ∧ x < breakpoint s a (r - 1) - h / 2 then regionDown s a x h n (r - 1) else r

/-- The region that the source gives (R824, R825). -/
def regionNow (s : State) (a : Nat) : Nat :=
  let c := ce s a
  let src := objN s (axA a) 3
  if src = 0 then objN s (axA a) 4
  else if src = 3 then c.cmdRegion
  else
    let x := if src = 1 then qabs (fRat c.vAct) else unitsOf s a c.pAct
    let h := fRat (objF s (axA a) 6)
    regionDown s a x h 7 (regionUp s a x h 7 c.region)

/-- An integrator for the same output under other gains (R826). -/
def bumpless (kOld kNew e i : F32) : F32 := fSub (fAdd (fMul kOld e) i) (fMul kNew e)

/-- The active region and its gains take effect without a bump (R826, R827); a change of region clears the plausibility
model (R831). -/
def regionUpdate (s : State) (a : Nat) : State :=
  let c := ce s a
  let r := regionNow s a
  let g := stored s (axA a + 2) (r + 1)
  let old := c.gains
  let c := if g = old then c
    else { c with gains := g, iV := bumpless (gain old 4) (gain g 4) c.eV c.iV,
                  iD := bumpless (gain old 12) (gain g 12) c.eD c.iD, iQ := bumpless (gain old 12) (gain g 12) c.eQ c.iQ }
  if r = c.region then setCe s a c
  else bump (setCe s a { c with region := r, tl := 0, rf := 0, skipModel := true }) (axA a + 4) 0x0A

/-! ### Limits (R807, R820, R823, R841) -/

/-- imax (R807). -/
def imax (s : State) (a : Nat) : F32 :=
  let x : Rat := (cN s 0x6073 a : Rat) * (cN s 0x6075 a : Rat) / 1000000
  let y : Rat := (cN s 0x6072 a : Rat) * (cN s 0x6076 a : Rat) / 1000000
  fMin (fOfRat x) (fDiv (fOfRat y) (objF s (axA a + 1) 2))

/-- Largest set-point velocity: 0x607F, and under DEGRADE A + 0x00:07 (R820, R841). -/
def vLimit (s : State) (a : Nat) : Rat :=
  let v : Nat := cN s 0x607F a
  ((if (ce s a).reaction = .degrade then min v (objN s (axA a) 7) else v : Nat) : Rat)

/-- Jerk limit. -/
def jerk (s : State) (a : Nat) : Rat := (cN s 0x60A4 a 1 : Rat)

/-- Acceleration limit. -/
def accLim (s : State) (a : Nat) : Rat := (cN s 0x6083 a : Rat)

/-- Deceleration limit. -/
def decLim (s : State) (a : Nat) : Rat := (cN s 0x6084 a : Rat)

/-- Quick-stop deceleration. -/
def fastDec (s : State) (a : Nat) : Rat := (cN s 0x6085 a : Rat)

/-- A target within the software limits, and whether it was clamped (R823). -/
def softClamp (s : State) (a : Nat) (x : Int) : Int × Bool :=
  let lo := objI s (ciaI 0x607D a) 1
  let hi := objI s (ciaI 0x607D a) 2
  let y := clampI lo hi x
  (y, y != x)

/-- The position whose low 32 bits an I32 target carries, nearest to the set-point (R805).
Log entry 25: DESIGN CHOICE, unsafe. -/
def fullTarget (s : State) (a : Nat) (x : Int) : Int :=
  let cur := intUnits s a (ce s a).pSet
  cur + toSigned 32 (ofSigned 32 (x - cur))

/-- A clamped absolute target in axis units, with the limit flag. -/
def moveTarget (s : State) (a : Nat) (x : Int) : Int × Bool :=
  let r := softClamp s a x
  (fullTarget s a r.1, r.2)

/-- Control cycles in one SYNC0 cycle, N (R818). -/
def syncCycles (s : State) : Nat := max 1 (busReg s 0x09A0 / max 1 (objN s 0x2240 2))

/-- The SYNC0 cycle, in seconds; the control period while none is set. -/
def syncSecs (s : State) : Rat := secs (if busReg s 0x09A0 = 0 then objN s 0x2240 2 else busReg s 0x09A0)

/-- LIMIT_ACTIVE of A + 0x04:09. -/
def setLimit (c : AxisCtl) (on : Bool) : AxisCtl := { c with flags := BitVec.ofNat 6 (setBit c.flags.toNat 3 on) }

/-! ### CiA 402 transitions (R833 to R836, R841) -/

/-- The axis leaves torque without a fault: the set-point is held at the actual position, integrators and FIFO clear,
and the trip state is driven (R771, R812, R847). -/
def disableAxis (s : State) (a : Nat) (d : DriveState) : State :=
  let s := axisClear s a
  driveTrip (setCe s a { ce s a with drive := d, reaction := .none }) a

/-- Homing ended without a home position (R852).
Log entry 26: DESIGN CHOICE, unsafe. -/
def homingFailed (s : State) (a : Nat) : State :=
  if (ce s a).homing then
    emcy (setCe s a { ce s a with homing := false }) 0x8A00 a (cN s 0x6098 a)
  else s

/-- The first device condition of Operation enabled that fails, 0 when all hold (R833, R848).
Log entry 20: DEDUCED, unsafe. -/
def enableFails (s : State) (a : Nat) : Nat :=
  let m := ax s a
  if s.bus.al ≠ .op then 1
  else if stoInputs s a || safeSto s a || deviceSto s || decide (s.link.outcome = 3) then 2
  else if m.trip || m.sto then 3
  else if !(decide (s.link.outcome = 1) || (decide (s.link.outcome = 2) && decide (objN s 0x3A40 1 = 0x4F565244))) then 4
  else if m.sdLost ≠ 0 then 5
  else if !m.encStatus.getLsbD 0 then 6
  else 0

/-- The set-point source a mode starts with at rest. -/
def startSetp (s : State) (a : Nat) : Setpoint := if modeOf s a = 3 then .profile else .idle

/-- The transition to Operation enabled: refused with its first failing condition, or taken (R831, R834, R835). -/
def enableOperation (s : State) (a : Nat) : State :=
  let k := enableFails s a
  let c := ce s a
  if k ≠ 0 then putN (setCe s a { c with drive := .switchedOn }) (axA a + 4) 0x0C k
  else
    let m := ax s a
    let p := toSigned 64 (ofSigned 64 (m.captured + c.homeOff))
    let s := setAx s a { m with internalSto := false, gden := true, everOn := true, written := true, overruns := 0 }
    setCe s a { c with
      drive := .operationEnabled, reaction := .none, warn := false, pSet := p, pAct := p, pPrev := p, vSet := 0, aSet := 0,
      iV := 0, iD := 0, iQ := 0, eV := 0, eD := 0, eQ := 0, tl := 0, rf := 0, skipModel := true, plausRun := 0, outer := 0,
      iqRef := 0, flags := 0, setp := startSetp s a, tPrev := p, tNew := p, stale := 0,
      gains := stored s (axA a + 2) (c.region + 1) }

/-- No fault cause of the axis remains (R833). -/
def noFaultCause (s : State) (a : Nat) : Bool :=
  let m := ax s a
  !stoInputs s a && !safeSto s a && !deviceSto s && !cmpOutside s a false && !cmpOutside s a true && decide (m.sdLost = 0) &&
    (m.encStatus.getLsbD 0 || decide (m.badCaptures = 0))

/-- The over-temperature STO ends at a fault reset once the field die is below its grade maximum (R1026).
Log entry 43: DEDUCED, safe. -/
def coolReset (s : State) : State :=
  if s.saf.tempSto ∧ objI s 0x3A50 1 < gradeMax s then { s with saf := { s.saf with tempSto := false } } else s

/-- Fault reset (R833, R887). -/
def faultReset (s : State) (a : Nat) : State :=
  let s := coolReset s
  let c := ce s a
  if c.drive = .fault ∧ noFaultCause s a then
    let s := setCe s a { c with drive := .switchOnDisabled, reaction := .none, warn := false, flags := 0 }
    errorCleared (errorReg s) (putN s (ciaI 0x603F a) 0 0)
  else s

/-- Quick stop by the option 0x605A (R836, R847).
Log entry 27: PRESUMED, unsafe. -/
def quickStop (s : State) (a : Nat) : State :=
  let c := ce s a
  let o := cN s 0x605A a
  match c.drive with
  | .operationEnabled =>
    let s := homingFailed s a
    if o = 0 then disableAxis s a .switchOnDisabled
    else
      let s := flushFifo s a
      setCe s a { ce s a with drive := .quickStopActive, reaction := .none, setp := .stopping, stopFast := o == 2 || o == 6, homing := false }
  | .readyToSwitchOn => setCe s a { c with drive := .switchOnDisabled }
  | .switchedOn => setCe s a { c with drive := .switchOnDisabled }
  | _ => s

/-- A transition out of Operation enabled or Quick stop active by the controlword (R812, R887).
Log entry 27: PRESUMED, unsafe. -/
def leaveTo (s : State) (a : Nat) (d : DriveState) : State := disableAxis (homingFailed s a) a d

/-- Disable voltage. -/
def disableVoltage (s : State) (a : Nat) : State :=
  match (ce s a).drive with
  | .readyToSwitchOn => setCe s a { ce s a with drive := .switchOnDisabled }
  | .switchedOn => setCe s a { ce s a with drive := .switchOnDisabled }
  | .operationEnabled => leaveTo s a .switchOnDisabled
  | .quickStopActive => leaveTo s a .switchOnDisabled
  | _ => s

/-- Shutdown. -/
def shutdown (s : State) (a : Nat) : State :=
  match (ce s a).drive with
  | .switchOnDisabled => setCe s a { ce s a with drive := .readyToSwitchOn }
  | .switchedOn => setCe s a { ce s a with drive := .readyToSwitchOn }
  | .operationEnabled => leaveTo s a .readyToSwitchOn
  | _ => s

/-- Switch on, or disable operation. -/
def switchOn (s : State) (a : Nat) : State :=
  match (ce s a).drive with
  | .readyToSwitchOn => setCe s a { ce s a with drive := .switchedOn }
  | .operationEnabled => leaveTo s a .switchedOn
  | _ => s

/-- Enable operation: from Ready to switch on through Switched on, and from Quick stop active under options 5 and 6 or
after HOLD (R887). -/
def enableCommand (s : State) (a : Nat) : State :=
  let c := ce s a
  match c.drive with
  | .readyToSwitchOn => enableOperation s a
  | .switchedOn => enableOperation s a
  | .operationEnabled => if c.reaction = .none then s else setCe s a { c with reaction := .none, warn := false }
  | .quickStopActive =>
    if c.setp = .stopping then s
    else if c.reaction = .hold ∨ cN s 0x605A a = 5 ∨ cN s 0x605A a = 6 then
      setCe s a { c with drive := .operationEnabled, reaction := .none, setp := startSetp s a }
    else s
  | _ => s

/-! ### Homing (R837 to R839) -/

/-- The present position becomes home (R839). -/
def takeHome (s : State) (a : Nat) : State :=
  let c := ce s a
  let h := objI s (ciaI 0x607C a) 0 * unit16 s a
  let d := h - c.pAct
  setCe s a { c with pAct := h, pPrev := h, pSet := c.pSet + d, homeOff := c.homeOff + d, homed := true, homing := false }

/-- Homing starts (CiA 402 controlword bit 4 in mode 6). -/
def startHoming (s : State) (a : Nat) : State :=
  let c := ce s a
  let m := objI s (ciaI 0x6098 a) 0
  let s := setCe s a { c with homed := false, homing := true }
  if m = 37 then takeHome s a else setCe s a { ce s a with setp := .profile }

/-- Velocity of the running homing: negative for 33 and −1, positive for 34 and −2, at 0x6099:02. -/
def homingVel (s : State) (a : Nat) : Int :=
  let m := objI s (ciaI 0x6098 a) 0
  let v : Int := objN s (ciaI 0x6099 a) 2
  if m = 33 ∨ m = -1 then -v else v

/-- An index mark completes homing by methods 33 and 34; the axis then stops (R837, R839). -/
def axisIndex (s : State) (a : Nat) : State :=
  let c := ce s a
  let m := objI s (ciaI 0x6098 a) 0
  if c.homing ∧ enabled s a ∧ (m = 33 ∨ m = 34) then
    let p := toSigned 64 (ofSigned 64 ((if encMode s a = 4 then (ax s a).encCount * 1024 else (ax s a).encCount) * 65536 + c.homeOff))
    let s := setCe s a { c with pAct := p }
    let s := takeHome s a
    setCe s a { ce s a with setp := .stopping, stopFast := false }
  else s

/-! ### Set-points (R818 to R823, R842, R846) -/

/-- A CSP or CSV target is taken at a control-cycle start (R818, R846, R819).
Log entry 28: DEDUCED, unsafe. -/
def takeTarget (s : State) (a : Nat) : State :=
  let c := ce s a
  let mode := modeOf s a
  if c.drive ≠ .operationEnabled ∨ c.exec.isSome then s
  else if mode = 8 then
    let t := moveTarget s a (objI s (ciaI 0x607A a) 0)
    let new := t.1 * unit16 s a
    let c := setLimit c t.2
    match c.setp with
    | .interpolate => setCe s a { c with tPrev := c.pSet, tNew := new, tStep := 0, stale := 0 }
    | .idle => setCe s a { c with tPrev := c.pSet, tNew := new, tStep := 0, stale := 0, setp := .interpolate }
    | .approach => setCe s a { c with tNew := new }
    | .stopping => setCe s a (if c.stopFast then { c with tNew := new, setp := .approach } else { c with tNew := new })
    | _ => s
  else if mode = 9 then
    let new := objI s (ciaI 0x60FF a) 0 * 65536
    match c.setp with
    | .interpolate => setCe s a { c with tPrev := ratRne (fRat c.vSet * 65536), tNew := new, tStep := 0, stale := 0 }
    | .idle => setCe s a { c with tPrev := ratRne (fRat c.vSet * 65536), tNew := new, tStep := 0, stale := 0, setp := .interpolate }
    | .approach => setCe s a { c with tNew := new }
    | .stopping => setCe s a (if c.stopFast then { c with tNew := new, setp := .approach } else { c with tNew := new })
    | _ => s
  else s

/-- A completed command hands the set-point back to the mode (R846). -/
def resumeSetp (s : State) (a : Nat) : Setpoint :=
  let m := modeOf s a
  if m = 8 ∨ m = 9 then .approach else if m = 3 then .profile else .idle

/-- The executing command is complete (R844, R846).
Log entry 26: DESIGN CHOICE, unsafe. -/
def commandDone (s : State) (a : Nat) (next : Setpoint) : State :=
  bump (setCe s a { ce s a with exec := none, dwelling := false, setp := next }) (axA a + 5) 3

/-- A PP set-point starts. -/
def startMove (s : State) (a : Nat) (x : Int) : State :=
  let t := moveTarget s a x
  setCe s a { setLimit (ce s a) t.2 with target := t.1, setp := .profile }

/-- The set-point state after one cycle: position, velocity and acceleration in axis units. -/
def setState (s : State) (a : Nat) (r : Rat × Rat × Rat) : State :=
  setCe s a { ce s a with pSet := fromUnits s a r.1, vSet := fOfRat r.2.1, aSet := fOfRat r.2.2 }

/-- A stop has reached standstill: what follows depends on the state the axis is in (R819, R836, R841, R846). -/
def stopDone (s : State) (a : Nat) : State :=
  let c := ce s a
  match c.drive with
  | .quickStopActive =>
    if c.reaction = .hold then setCe s a { c with setp := .idle }
    else if cN s 0x605A a = 1 ∨ cN s 0x605A a = 2 then disableAxis s a .switchOnDisabled
    else setCe s a { c with setp := .idle }
  | .faultReaction =>
    if c.reaction = .ss1 then setCe s a { c with setp := .idle }
    else driveTrip (setCe (axisClear s a) a { ce (axisClear s a) a with drive := .fault }) a
  | _ => setCe s a { c with setp := if c.stopFast then .idle else if c.homed ∧ modeOf s a = 6 then .idle else resumeSetp s a }

/-- One cycle of the executing command (R842). -/
def commandStep (s : State) (a : Nat) (t : Rat) (cmd : AxisCmd) (start : Int) : State :=
  let c := ce s a
  let p := unitsOf s a c.pSet
  let v := fRat c.vSet
  let ac := fRat c.aSet
  let vm := min ((cN s 0x6081 a : Nat) : Rat) (vLimit s a)
  if c.dwelling then setState s a (p, 0, 0)
  else if cmd.kind = 1 ∨ cmd.kind = 2 then
    let goal : Rat := if cmd.kind = 2 ∧ cmd.target = 1 then unitsOf s a start else (cmd.value : Rat)
    let r := moveStep (jerk s a) (accLim s a) (decLim s a) vm p v ac goal t
    let s := setState s a r.1
    if !r.2 then s
    else if cmd.kind = 2 ∧ cmd.target ≠ 1 then setCe s a { ce s a with dwelling := true, dwellAt := s.fclk.ticks }
    else commandDone s a (resumeSetp s a)
  else if cmd.kind = 3 then
    let w : Rat := if vLimit s a < qabs (cmd.value : Rat) then (if cmd.value < 0 then -vLimit s a else vLimit s a) else (cmd.value : Rat)
    let r := velStep (jerk s a) (accLim s a) (decLim s a) p v ac w t
    let s := setState s a r.1
    if r.2 then commandDone (setCe s a { ce s a with runV := cmd.value }) a (if modeOf s a = 1 ∨ modeOf s a = 3 then .run else .approach) else s
  else
    let r := velStep (jerk s a) (decLim s a) (decLim s a) p v ac 0 t
    let s := setState s a r.1
    if r.2 then commandDone s a (resumeSetp s a) else s

/-- One cycle towards the latest CSP or CSV target under the profile limits (R846). -/
def approachStep (s : State) (a : Nat) (t : Rat) : State :=
  let c := ce s a
  let p := unitsOf s a c.pSet
  let v := fRat c.vSet
  let ac := fRat c.aSet
  let done := fun (s : State) => setCe s a { ce s a with setp := .interpolate, tPrev := (ce s a).tNew, tStep := syncCycles s, stale := 0 }
  if modeOf s a = 9 then
    let r := velStep (jerk s a) (accLim s a) (decLim s a) p v ac ((c.tNew : Rat) / 65536) t
    let s := setState s a (unitsOf s a c.pAct, r.1.2)
    if r.2 then done s else s
  else
    let vm := min ((cN s 0x6081 a : Nat) : Rat) (vLimit s a)
    let r := moveStep (jerk s a) (accLim s a) (decLim s a) vm p v ac (unitsOf s a c.tNew) t
    let s := setState s a r.1
    if r.2 then done s else s

/-- One cycle of CSP or CSV interpolation, or, once a SYNC0 cycle has passed without a new target, of extrapolation (R818, R819,
R823).
Log entry 22: DEDUCED, unsafe. -/
def interpolateStep (s : State) (a : Nat) (t : Rat) : State :=
  let c := ce s a
  let n := syncCycles s
  let lim := vLimit s a
  let slow := qabs (fRat c.vSet) - decLim s a * t
  let cap := if c.reaction = .degrade ∧ lim < slow then slow else lim
  let hold := fun (v : Rat) => if cap < qabs v then (if v < 0 then -cap else cap) else v
  let c := if c.stale = 0 ∧ n ≤ c.tStep then { c with stale := n } else c
  if 0 < c.stale then
    let s := setCe s a c
    let v := fRat c.vSet
    let s := setState s a (unitsOf s a c.pSet + v * t, v, 0)
    let k := (ce s a).stale - 1
    setCe s a { ce s a with stale := k, setp := if k = 0 then .stopping else .interpolate, stopFast := if k = 0 then true else (ce s a).stopFast }
  else if modeOf s a = 9 then
    let k := min n (c.tStep + 1)
    let w : Rat := ((c.tPrev : Rat) + ((c.tNew - c.tPrev : Int) : Rat) * k / n) / 65536
    let s := setCe s a { setLimit c (decide (cap < qabs w)) with tStep := k }
    setState s a (unitsOf s a c.pAct, hold w, 0)
  else
    let k := min n (c.tStep + 1)
    let w : Rat := unitsOf s a (c.tNew - c.tPrev) / syncSecs s
    let goal : Rat := unitsOf s a c.tPrev + unitsOf s a (c.tNew - c.tPrev) * k / n
    let s := setCe s a { setLimit c (c.flags.getLsbD 3 || decide (cap < qabs w)) with tStep := k }
    if cap < qabs w then setState s a (unitsOf s a c.pSet + hold w * t, hold w, 0)
    else setState s a (goal, w, 0)

/-- One cycle of the set-point (R818 to R823). The velocity of PV, of homing and of a run is the command's own (R820).
Log entry 151: DEDUCED, unsafe. -/
def setpointStep (s : State) (a : Nat) (t : Rat) : State :=
  let c := ce s a
  let p := unitsOf s a c.pSet
  let v := fRat c.vSet
  let ac := fRat c.aSet
  let mode := modeOf s a
  let halt := c.lastCw.testBit 8 && (mode == 1 || mode == 3 || mode == 6)
  match c.setp with
  | .idle => setCe s a { c with vSet := 0, aSet := 0, pSet := if mode = 9 ∨ mode = 10 then c.pAct else c.pSet }
  | .interpolate => interpolateStep s a t
  | .approach => approachStep s a t
  | .run =>
    let w : Rat := if vLimit s a < qabs (c.runV : Rat) then (if c.runV < 0 then -vLimit s a else vLimit s a) else (c.runV : Rat)
    setState s a (velStep (jerk s a) (accLim s a) (decLim s a) p v ac w t).1
  | .command => (match c.exec with | some e => commandStep s a t e.1 e.2 | none => setCe s a { c with setp := resumeSetp s a })
  | .stopping =>
    let d := if c.stopFast then fastDec s a else decLim s a
    let r := velStep (jerk s a) d d p v ac 0 t
    let s := setState s a r.1
    if r.2 then stopDone s a else s
  | .profile =>
    if halt then setState s a (velStep (jerk s a) (decLim s a) (decLim s a) p v ac 0 t).1
    else if mode = 6 then
      let w : Rat := (homingVel s a : Rat)
      let w : Rat := if vLimit s a < qabs w then (if w < 0 then -vLimit s a else vLimit s a) else w
      let r := velStep (jerk s a) (accLim s a) (decLim s a) p v ac w t
      setState s a r.1
    else if mode = 3 then
      let x := objI s (ciaI 0x60FF a) 0
      let lim := vLimit s a
      let w : Rat := if lim < qabs (x : Rat) then (if x < 0 then -lim else lim) else (x : Rat)
      setState s a (velStep (jerk s a) (accLim s a) (decLim s a) p v ac w t).1
    else
      let vm := min ((cN s 0x6081 a : Nat) : Rat) (vLimit s a)
      let r := moveStep (jerk s a) (accLim s a) (decLim s a) vm p v ac (c.target : Rat) t
      let s := setState s a r.1
      if r.2 then
        (match c.ppNext with
         | some x => startMove (setCe s a { ce s a with ppNext := none }) a x
         | none => setCe s a { ce s a with setp := .idle })
      else s

/-! ### The controlword -/

/-- The PP set-point handshake (CiA 402; ignored while a command executes, R846). -/
def ppSetpoint (s : State) (a cw : Nat) : State :=
  let c := ce s a
  if c.exec.isSome then s
  else
    let x := objI s (ciaI 0x607A a) 0
    let x := if cw.testBit 6 then (if c.setp = .profile then c.target else intUnits s a c.pSet) + x else x
    let s := setCe s a { c with ppAck := true }
    if cw.testBit 5 || c.setp != .profile then startMove s a x else setCe s a { ce s a with ppNext := some x }

/-- The mode-specific bits of a controlword in Operation enabled. -/
def modeBits (s : State) (a old cw : Nat) : State :=
  let rise := cw.testBit 4 && !old.testBit 4
  let mode := modeOf s a
  if !enabled s a then s
  else if mode = 1 then
    (if rise then ppSetpoint s a cw else if cw.testBit 4 then s else setCe s a { ce s a with ppAck := false })
  else if mode = 6 then
    (if rise && !(ce s a).exec.isSome then startHoming s a
     else if !cw.testBit 4 && (ce s a).homing then
       (let s := homingFailed s a; setCe s a { ce s a with setp := .stopping, stopFast := false })
     else s)
  else s

/-- A controlword takes effect (R833, R836, CiA 402).
Log entry 92: DEDUCED, unsafe. -/
def controlword (s : State) (a cw : Nat) : State :=
  let old := (ce s a).lastCw
  let s := setCe s a { ce s a with lastCw := cw }
  let s :=
    if cw.testBit 7 && !old.testBit 7 then faultReset s a
    else if !cw.testBit 1 then disableVoltage s a
    else if !cw.testBit 2 then quickStop s a
    else if !cw.testBit 0 then shutdown s a
    else if !cw.testBit 3 then switchOn s a
    else enableCommand s a
  modeBits s a old cw

/-- A supported mode is selected: the new mode starts from the present set-point (R822, R853); a running homing has then
failed.
Log entry 28: DEDUCED, unsafe. -/
def modeSelect (s : State) (a : Nat) : State :=
  let s := homingFailed s a
  let c := ce s a
  if c.drive ≠ .operationEnabled ∨ c.exec.isSome ∨ c.setp = .stopping then s
  else
    let mode := modeOf s a
    let still := fIsZero c.vSet && fIsZero c.aSet
    let next : Setpoint :=
      if mode = 3 then .profile
      else if mode = 10 then .idle
      else if still then .idle
      else if mode = 8 ∨ mode = 9 then .approach
      else .stopping
    let tn := if mode = 8 then (moveTarget s a (objI s (ciaI 0x607A a) 0)).1 * unit16 s a
              else if mode = 9 then objI s (ciaI 0x60FF a) 0 * 65536 else c.tNew
    setCe s a { c with setp := next, stopFast := false, tNew := tn, ppNext := none, ppAck := false }

/-! ### Axis commands (R842 to R847) -/

/-- Fields of an axis command body. -/
def bodyByte (m : MirrorMsg) (i : Nat) : Nat := m.body.toNat / 256 ^ i % 256

/-- Signed field of a command body. -/
def bodyI32 (m : MirrorMsg) (i : Nat) : Int := toSigned 32 (m.body.toNat / 256 ^ i % 2 ^ 32)

/-- The body is a valid command: a KIND and FLAGS of R842, and a REGION of 0 to 7 or 0xFF. -/
def commandBodyOk (m : MirrorMsg) : Bool :=
  decide (1 ≤ bodyByte m 0) && decide (bodyByte m 0 ≤ 5) && decide (bodyByte m 2 < 4) &&
    (decide (bodyByte m 3 < 8) || decide (bodyByte m 3 = 0xFF))

/-- An accepted result carries an axis command: it enters the FIFO, or its rejection's cause and detail (R221, R843). -/
def axisCommand (s : State) (m : MirrorMsg) : State × Option (Nat × Nat) :=
  let a := bodyByte m 1
  if 7 < a then (s, some (4, 0xFF))
  else
    let c := ce s a
    let no := fun (cause : Nat) => (bump s (axA a + 5) 4, some (cause, a))
    let mode := modeOf s a
    if !commandBodyOk m then no 4
    else if !objB s (axA a) 2 || !enabled s a || !(mode == 8 || mode == 9 || mode == 1 || mode == 3) then no 2
    else if 8 ≤ c.fifo.length then no 3
    else
      let cmd : AxisCmd :=
        { kind := bodyByte m 0, flags := bodyByte m 2, region := bodyByte m 3, value := bodyI32 m 4, relDelta := bodyI32 m 8,
          dwell := m.body.toNat / 256 ^ 12 % 65536, rtag := m.rtag.toNat, target := m.target.toNat, capPos := m.capPos,
          go := false, crossed := false }
      (setCe s a { c with fifo := c.fifo ++ [cmd] }, none)

/-- The line position has crossed the head command's release position, in the direction of motion, while the position
is not INVALID (R844, R845). -/
def headCrossed (s : State) (h : AxisCmd) : Bool :=
  let rel := wrap56 ((h.capPos / 256 + h.relDelta) * 256)
  let d := wrap56 (wrap56 (s.pos.count * 256) - rel)
  decide (s.pos.mode ≠ .invalid) && (if s.pos.reverse then decide (d ≤ 0) else decide (0 ≤ d))

/-- A released command starts to execute: its region, its target, its start position (R842). -/
def commandStart (s : State) (a : Nat) (h : AxisCmd) : State :=
  let c := ce s a
  let c := if h.region = 0xFF then c else { c with cmdRegion := h.region }
  let v := if h.flags.testBit 1 ∧ h.kind ≤ 2 then intUnits s a c.pSet + h.value else h.value
  let r := softClamp s a v
  let move := h.kind = 1 ∨ h.kind = 2
  let v := if move then fullTarget s a r.1 else h.value
  let c := setLimit c (c.flags.getLsbD 3 || (decide move && r.2))
  let s := setCe s a { c with fifo := c.fifo.drop 1, exec := some ({ h with value := v, target := 0 }, c.pSet), dwelling := false, setp := .command }
  if h.kind = 4 then commandDone s a c.setp else s

/-- The head command is released at a control-cycle start when every condition it names holds (R844). -/
def releaseCommand (s : State) (a : Nat) : State :=
  let c := ce s a
  match c.fifo with
  | [] => s
  | h :: t =>
    let h := { h with crossed := h.crossed || headCrossed s h }
    let s := setCe s a { c with fifo := h :: t }
    if enabled s a && c.exec.isNone && decide (c.setp ≠ .stopping) && (decide (h.target = 0) || decide (h.target ≤ s.fclk.time)) &&
        (decide (h.relDelta = 0) || (h.crossed && decide (s.pos.mode ≠ .invalid))) && (!h.flags.testBit 0 || h.go) then
      commandStart s a h
    else s

/-! ### The cascade (R806 to R815) -/

/-- Phase current `i` (R809). -/
def phaseCurrent (s : State) (a i : Nat) (raw : Int) : F32 :=
  fSub (fMul (fOfInt raw) (objF s (axA a + 1) 0x0B)) (BitVec.ofNat 32 (fieldN (stored s (axA a + 1) 0x0C) (4 * i) 4))

/-- The three phase currents (R808, R809).
Log entry 23: PRESUMED, unsafe. -/
def currents (s : State) (a : Nat) : F32 × F32 × F32 :=
  let m := ax s a
  let u := phaseCurrent s a 0 m.sd.1
  let v := phaseCurrent s a 1 m.sd.2.1
  let w := phaseCurrent s a 2 m.sd.2.2
  if objN s (axA a + 1) 0x0D = 2 then (u, v, fSub (fNegate u) v)
  else
    let mean := fDiv (fAdd (fAdd u v) w) (fOfInt 3)
    (fSub u mean, fSub v mean, fSub w mean)

/-- π, its half turns and the roots of the transforms, nearest binary32. -/
def f2Pi : F32 := 0x40C90FDB
def fSqrt3 : F32 := 0x3FDDB3D7
def fHalf : F32 := 0x3F000000

/-- Encoder increments per revolution, A + 0x01:08. -/
def incRev (s : State) (a : Nat) : Nat := objN s (axA a + 1) 8

/-- Velocity in rad/s (R828). -/
def radps (s : State) (a : Nat) : F32 :=
  fDiv (fMul (ce s a).vAct f2Pi) (fOfRat ((incRev s a : Rat) / ((2 ^ objN s (axA a + 1) 0x0A : Nat) : Rat)))

/-- From the sample point `from_` to the reload that takes the result, in ns (R769, R775, R810, R817). -/
def sampleWait (p : PwmSet) (from_ : Nat) : Nat :=
  let per := pwmPeriod p.mode p.top
  let sel := if p.mode = 2 then 0 else p.reload
  let off := 5 * p.offset
  if p.mode = 2 then (if from_ = 2 ∧ 0 < off then off else per)
  else if from_ = 2 then
    (if sel = 1 then off + p.top * 5 else if sel = 2 then (if 0 < off then off else p.top * 5) else if 0 < off then off else per)
  else if sel = 2 then p.top * 5
  else if sel = from_ then p.top * 5
  else per

/-- From the sample point to the reload that takes the result, plus a quarter period, in seconds (R810). -/
def tLead (s : State) (a : Nat) : Rat :=
  let p := (ax s a).live
  secs (sampleWait p (objN s (axA a + 0x30) 0x0A)) + secs (pwmPeriod p.mode p.top) / 4

/-- Electrical angle (R803, R806).
Log entry 23: PRESUMED, unsafe. -/
def elAngle (s : State) (a : Nat) : BitVec 32 :=
  let c := ce s a
  let rev : Rat := if incRev s a = 0 then 1 else (incRev s a : Rat)
  let pairs : Rat := (objN s (axA a + 1) 1 : Rat)
  let turns := (c.pAct : Rat) / 65536 / rev * pairs
  let lead := fRat c.vAct * ((2 ^ objN s (axA a + 1) 0x0A : Nat) : Rat) / rev * pairs * tLead s a
  BitVec.ofInt 32 ((turns * 4294967296).floor + (objN s (axA a + 1) 9 : Int) + (lead * 4294967296).floor)

/-- A proportional-integral controller with conditional integration and limit: output and integrator (R806). -/
def piStep (kp ki lim e i t : F32) : F32 × F32 :=
  let u := fClamp (fNegate lim) lim (fAdd (fMul kp e) i)
  (u, if fLt (fAbs u) lim || decide (fSign e ≠ fSign u) then fAdd i (fMul (fMul (fMul kp ki) e) t) else i)

/-- The plausibility model of an outer pass (R828 to R831). -/
def plausibility (s : State) (a : Nat) (t : F32) : State :=
  let c := ce s a
  let w := radps s a
  if !objB s (axA a + 3) 1 then setCe s a { c with wPrev := w, skipModel := true, plausRun := 0, flags := BitVec.ofNat 6 (setBit c.flags.toNat 1 false) }
  else if c.skipModel then setCe s a { c with wPrev := w, skipModel := false, plausRun := 0, tl := 0, rf := 0, flags := BitVec.ofNat 6 (setBit c.flags.toNat 1 false) }
  else
    let j := objF s (axA a + 1) 6
    let kt := objF s (axA a + 1) 2
    let b := objF s (axA a + 1) 7
    let g := objF s (axA a + 3) 6
    let al := objF s (axA a + 3) 2
    let pred := fAdd c.wPrev (fMul (fDiv t j) (fSub (fSub (fMul kt c.iQAct) (fMul b c.wPrev)) c.tl))
    let r := fSub w pred
    let tl := fAdd c.tl (fDiv (fMul (fMul g j) r) t)
    let rf := fAdd c.rf (fMul al (fSub (fAbs r) c.rf))
    let run := if fLt (objF s (axA a + 3) 4) rf then c.plausRun + 1 else 0
    let hit := decide (run = objN s (axA a + 3) 5)
    let fl := setBit c.flags.toNat 1 (fLt (objF s (axA a + 3) 3) rf)
    let fl := if hit then setBit fl 2 true else fl
    let s := setCe s a { c with wPrev := w, tl := tl, rf := rf, plausRun := run, flags := BitVec.ofNat 6 fl }
    if hit then startReaction s (reactionOf (objN s (axA a + 3) 7)) (2 ^ a) 20 (some 0x7320) rf.toNat a else s

/-- The outer pass: iq_ref from the position and velocity loops (R806, R807, R811). -/
def outerPass (s : State) (a : Nat) (t : F32) : State :=
  let c := ce s a
  let lim := imax s a
  if modeOf s a = 10 then
    let x : Rat := (objI s (ciaI 0x6071 a) 0 : Rat) * (cN s 0x6076 a : Rat) / 1000000
    setCe s a { c with iqRef := fClamp (fNegate lim) lim (fDiv (fOfRat x) (objF s (axA a + 1) 2)) }
  else
    let g := c.gains
    let pErr := fOfRat (unitsOf s a (toSigned 64 (ofSigned 64 (c.pSet - c.pAct))))
    let vRef := if modeOf s a = 9 then c.vSet else fAdd (fMul (gain g 0) pErr) (fMul (gain g 20) c.vSet)
    let vErr := fSub vRef c.vAct
    let iq := fClamp (fNegate lim) lim (fAdd (fAdd (fMul (gain g 4) vErr) c.iV) (fMul (gain g 24) c.aSet))
    let iV := if fLt (fAbs iq) lim || decide (fSign vErr ≠ fSign iq) then
        fAdd c.iV (fMul (fMul (fMul (gain g 4) (gain g 8)) vErr) t) else c.iV
    setCe s a { c with iqRef := iq, iV := iV, eV := vErr }

/-- One compare in 16.5 form (R766, R806).
Log entry 23: PRESUMED, unsafe. -/
def compareOf (top : Nat) (v m vdc : F32) : F32 × Nat :=
  let x := fMul (fOfInt top) (fAdd fHalf (fDiv (fSub v m) vdc))
  (x, (clampI 0 (2 ^ 21 - 1) (fToInt 32 (fMul x (fOfInt 32)))).toNat)

/-- The current pass; the compares go into the shadow registers at the end of the pass (R806, R809, R815). Answers
whether every value stayed finite. -/
def currentPass (s : State) (a : Nat) (t : F32) : State × Bool :=
  let c := ce s a
  let g := c.gains
  let i := currents s a
  let ia := i.1
  let ib := fDiv (fSub i.2.1 i.2.2) fSqrt3
  let th := elAngle s a
  let cs := Config.cosTurn th
  let sn := Config.sinTurn th
  let id := fAdd (fMul ia cs) (fMul ib sn)
  let iq := fSub (fMul ib cs) (fMul ia sn)
  let vdc := fMul (fOfInt (objN s (axA a + 0x38) (4 + objN s (axA a + 1) 0x0E))) (objF s (axA a + 1) 0x0F)
  let lim := fDiv vdc fSqrt3
  let we := fMul (radps s a) (fOfInt (objN s (axA a + 1) 1))
  let eD := fSub 0 id
  let eQ := fSub c.iqRef iq
  let d := piStep (gain g 12) (gain g 16) lim eD c.iD t
  let q := piStep (gain g 12) (gain g 16) lim eQ c.iQ t
  let vd := fSub d.1 (fMul (fMul we (objF s (axA a + 1) 5)) iq)
  let vq := fAdd q.1 (fMul (fMul we (objF s (axA a + 1) 4)) id)
  let mag := fSqrt (fAdd (fMul vd vd) (fMul vq vq))
  let k := fDiv lim mag
  let big := fLt lim mag
  let vd := if big then fMul vd k else vd
  let vq := if big then fMul vq k else vq
  let va := fSub (fMul vd cs) (fMul vq sn)
  let vb := fAdd (fMul vd sn) (fMul vq cs)
  let h := fMul va fHalf
  let r := fMul (fMul vb fSqrt3) fHalf
  let vu := va
  let vv := fSub r h
  let vw := fSub (fNegate h) r
  let m := fMul (fAdd (fMax3 vu vv vw) (fMin3 vu vv vw)) fHalf
  let mo := ax s a
  let top := pwmTop mo
  let cu := compareOf top vu m vdc
  let cv := compareOf top vv m vdc
  let cw := compareOf top vw m vdc
  let bad := [id, iq, vd, vq, cu.1, cv.1, cw.1, d.2, q.2].any fBad
  let s := setCe s a { c with iD := d.2, iQ := q.2, eD := eD, eQ := eQ, iDAct := id, iQAct := iq, vD := vd, vQ := vq }
  let s := setAx s a { mo with shadow := [cu.2, cv.2, cw.2], written := true, overruns := 0 }
  (s, !bad)

/-- The actual position and velocity of a pass (R814): from a capture that was available when the pass began, 150 cycles before its
end, else extrapolated.
Log entry 22: DEDUCED, unsafe. -/
def actual (s : State) (a : Nat) (t : Rat) : State :=
  let c := ce s a
  let m := ax s a
  if m.fresh && decide (m.freshAt + 150 ≤ s.eng.freeAt) then
    let s := setAx s a { m with fresh := false }
    let p := toSigned 64 (ofSigned 64 (m.captured + c.homeOff))
    let v := fOfRat (unitsOf s a (p - c.pPrev) / t)
    setCe s a { c with pAct := p, pPrev := p, vAct := v, flags := BitVec.ofNat 6 (setBit c.flags.toNat 0 false) }
  else
    let p := toSigned 64 (ofSigned 64 (c.pAct + fromUnits s a (fRat c.vAct * t)))
    bump (setCe s a { c with pAct := p, pPrev := p, flags := BitVec.ofNat 6 (setBit c.flags.toNat 0 true) }) (axA a + 4) 0x0B

/-- Standstill of SS1: ten cycles at or below A + 0x00:09 end in internal STO (R841). -/
def ss1Standstill (s : State) (a : Nat) : State :=
  let c := ce s a
  if c.reaction = .ss1 ∧ c.drive = .faultReaction then
    let slow := decide (qabs (fRat c.vAct) ≤ (objN s (axA a) 9 : Rat))
    let n := if slow then c.still + 1 else 0
    let s := setCe s a { c with still := n }
    if 10 ≤ n then tripSto s a true else s
  else s

/-- A non-finite value runs STO on the axis (R855).
Log entry 25: DESIGN CHOICE, unsafe. -/
def finiteCheck (s : State) (a : Nat) (ok : Bool) : State :=
  let c := ce s a
  if ok && !([c.vAct, c.vSet, c.aSet, c.iV, c.iD, c.iQ, c.iqRef, c.tl, c.rf, c.wPrev].any fBad) then s
  else startReaction s .sto (2 ^ a) 22 (some 0x6100) (objN s 0x2242 1) a

/-- The times for which the current of hard-stop homing and the following error have stood run on (R838, R858). -/
def standTimes (s : State) (a : Nat) : State :=
  let c := ce s a
  let push := c.homing && !fLt (fAbs c.iQAct) (objF s (axA a) 0x0A)
  let far := decide ((cN s 0x6065 a : Rat) < qabs (unitsOf s a (c.pSet - c.pAct)))
  setCe s a { c with pushNs := if push then c.pushNs + s.sync.cycleLen else 0, errNs := if far then c.errNs + s.sync.cycleLen else 0 }

/-- The pass of one axis (R806). -/
def axisPass (s : State) (a : Nat) : State :=
  let tq := secs s.sync.cycleLen
  let t := fOfRat tq
  let s := actual s a tq
  let s := setpointStep s a tq
  if !passes? s a then s
  else
    let n := (ce s a).outer
    let s := if n = 0 then outerPass (plausibility s a t) a t else s
    let s := setCe s a { ce s a with outer := (n + 1) % max 1 (objN s (axA a) 1) }
    if !passes? s a then s
    else
      let r := currentPass s a t
      let s := bump r.1 0x2242 1
      ss1Standstill (finiteCheck (standTimes s a) a r.2) a

/-- The last pass of a cycle ends: time from the sample point (R849). -/
def cycleEnd (s : State) : State :=
  let dt := s.fclk.time - s.eng.sampleAt
  let s := { s with eng := { s.eng with running := false } }
  putN (putN s 0x2242 3 dt) 0x2242 4 (max dt (objN s 0x2242 4))

/-- What the engine does at a control-cycle start: new targets and controlwords, regions and released commands (R818,
R826, R844). -/
def engineCycle (s : State) : State :=
  (List.range 8).foldl
    (fun s a =>
      let s := if s.bus.sm2Fresh then takeTarget s a else s
      let s := if (ce s a).drive.running then regionUpdate s a else s
      releaseCommand s a)
    s

/-! ### The commands -/

/-- R781, R784, R837: levels at A, B and Z of an axis encoder, with the cycles for which each has been stable; the filter is that of the
line encoder.
Log entry 33: DEDUCED, unsafe. -/
def execAxisEncoderEdge (axis : Fin 8) (a b z : Bool) (stableA stableB stableZ : Nat) (s : State) : Out :=
  let i := axis.val
  let m := ax s i
  let n := objN s (axA i + 0x32) 2
  let z := filtered n m.encZ z stableZ
  .next (if !fieldHw s || !(encMode s i == 1 || encMode s i == 4) then s
    else
      let s := axisEdge s i (filtered n m.encA a stableA) (filtered n m.encB b stableB)
      let s := setAx s i { ax s i with encZ := z }
      if z && !m.encZ then axisIndex s i else s)

/-- The current inputs of an axis are available: its enabled sigma-delta inputs have given their results, or are lost (R798, R813). -/
def inputsHere (s : State) (a : Nat) : Bool :=
  let m := ax s a
  !m.sdDue || decide (objN s (axA a + 0x31) 1 &&& (7 - m.sdLost.toNat) = 0)

/-- R813: after the first sample point of a control cycle, with the current inputs of the first axis available, the passes of the axes
with torque start in ascending order; R859: a halted firmware starts none. -/
def execControlEngineStart (s : State) : Out :=
  let todo := (List.range 8).filter (passes? s)
  .next (if !fieldUp s || !s.eng.sampled || s.eng.started || !(todo.take 1).all (inputsHere s) then s
    else
      let s := todo.foldl (fun s a => setAx s a { ax s a with written := false }) s
      { s with eng := { s.eng with todo := todo, running := !todo.isEmpty, started := true } })

/-- The 200 MHz cycle at which the pass of an axis begins: the end of the previous pass, or the arrival of its inputs (R813). -/
def passBegin (s : State) (a : Nat) : Nat := max s.eng.freeAt (ax s a).inputsAt

/-- R806, R813: the pass of the next axis in order is over: 150 engine cycles after it began. -/
def execAxisPass (axis : Fin 8) (s : State) : Out :=
  let a := axis.val
  .next (if !fieldUp s || (s.eng.todo.filter (passes? s)).head? ≠ some a || !inputsHere s a || decide (s.fclk.ticks < passBegin s a + 150) then s
    else
      let s := { s with eng := { s.eng with todo := s.eng.todo.filter (fun i => decide (a < i)), freeAt := passBegin s a + 150 } }
      let s := axisPass s a
      if (s.eng.todo.filter (passes? s)).isEmpty then cycleEnd s else s)

/-- R841: the SS1 time limit A + 0x00:08 is over. -/
def execSs1TimeLimit (axis : Fin 8) (s : State) : Out :=
  let a := axis.val
  let c := ce s a
  .next (if fieldHw s && decide (c.reaction = .ss1) && decide (c.drive = .faultReaction) &&
      decide (c.ss1At + 200000 * objN s (axA a) 8 ≤ s.fclk.ticks) then tripSto s a true else s)

/-- R858: the following error has stood beyond 0x6065 for longer than 0x6066. -/
def execFollowingErrorTimeout (axis : Fin 8) (s : State) : Out :=
  let a := axis.val
  let c := ce s a
  let e := unitsOf s a (c.pSet - c.pAct)
  .next (if fieldUp s && c.drive.running && decide ((cN s 0x6065 a : Rat) < qabs e) && decide (1000000 * cN s 0x6066 a < c.errNs) then
      faultOption (homingFailed s a) a 21 (some 0x8611) (ofSigned 32 e.floor)
    else s)

/-- R819: no target came for a SYNC0 cycle, whose interpolation is over. -/
def execCspTargetTimeout (axis : Fin 8) (s : State) : Out :=
  let a := axis.val
  let c := ce s a
  .next (if fieldUp s && enabled s a && decide (c.setp = .interpolate) && decide (c.stale = 0) && decide (syncCycles s ≤ c.tStep) then
      setCe s a { c with stale := syncCycles s }
    else s)

/-- R838: the current has stood at or above A + 0x00:0A for 20 ms. -/
def execHardStopHome (axis : Fin 8) (s : State) : Out :=
  let a := axis.val
  let c := ce s a
  let m := objI s (ciaI 0x6098 a) 0
  .next (if fieldUp s && enabled s a && c.homing && (decide (m = -1) || decide (m = -2)) && decide (20000000 ≤ c.pushNs) then
      let s := takeHome s a
      setCe s a { ce s a with pSet := (ce s a).pAct, vSet := 0, aSet := 0, setp := .idle }
    else s)

/-- R842: the return move of a KIND 0x02 command starts after its DWELL. -/
def execAxisCommandDwellEnd (axis : Fin 8) (s : State) : Out :=
  let a := axis.val
  let c := ce s a
  .next (match c.exec with
    | some (cmd, start) => if fieldUp s && c.dwelling && decide (c.dwellAt + 200000 * cmd.dwell ≤ s.fclk.ticks) then setCe s a { c with exec := some ({ cmd with target := 1 }, start), dwelling := false } else s
    | none => s)

/-- R833 to R835. -/
def execControlwordEnableOperation (axis : Fin 8) (s : State) : Out :=
  .next (if fieldUp s then enableCommand s axis.val else s)

/-- R833, R887. -/
def execControlwordFaultReset (axis : Fin 8) (s : State) : Out :=
  .next (if fieldUp s then faultReset s axis.val else s)

/-- R836, R847. -/
def execControlwordQuickStop (axis : Fin 8) (s : State) : Out :=
  .next (if fieldUp s then quickStop s axis.val else s)

/-- R812, R847: the axis leaves Operation enabled for Switched on, or Quick stop active for Switch on disabled. -/
def execControlwordDisable (axis : Fin 8) (s : State) : Out :=
  let d := (ce s axis.val).drive
  .next (if !fieldUp s then s
    else if d = .operationEnabled then leaveTo s axis.val .switchedOn
    else if d = .quickStopActive then leaveTo s axis.val .switchOnDisabled
    else s)

end Sys2Proof.Machine
end

