-- ==== Sys2Proof/Machine/Flags.lean ====
section
/-! DEFINITION. Status words and flag bytes: the statusword, the latch byte, the control engine's flags, the safety summary
and the position and clock state bytes' companions. -/

namespace Sys2Proof.Machine

/-- Bits 0 to 3, 5 and 6 of the statusword by drive state (CiA 402, R833; log entry 45).
Log entry 45: PRESUMED, unsafe. -/
def DriveState.bits : DriveState → Nat
  | .switchOnDisabled => 0x40 | .readyToSwitchOn => 0x21 | .switchedOn => 0x23 | .operationEnabled => 0x27
  | .quickStopActive => 0x07 | .faultReaction => 0x0F | .fault => 0x08

/-- Following error in axis units, 0x60F4 (R850). -/
def followingError (s : State) (a : Nat) : Int := (unitsOf s a ((ce s a).pSet - (ce s a).pAct)).floor

/-- Statusword bit 10, target reached: the set-point rests at its target (log entry 45).
Log entry 45: PRESUMED, unsafe. -/
def targetReached (s : State) (a : Nat) : Bool :=
  let c := ce s a
  if modeOf s a = 6 then !c.homing
  else if modeOf s a = 3 then decide (fRat c.vSet = ((objI s (ciaI 0x60FF a) 0 : Int) : Rat))
  else c.setp == .idle && c.exec.isNone

/-- Statusword bit 12: set-point acknowledge in mode 1, homing attained in mode 6, follows the command in modes 8 to 10
(R839; log entry 45).
Log entry 45: PRESUMED, unsafe. -/
def statusBit12 (s : State) (a : Nat) : Bool :=
  let c := ce s a
  let m := modeOf s a
  if m = 1 then c.ppAck else if m = 6 then c.homed else if m = 3 then decide (fRat c.vSet = 0) else enabled s a && c.setp == .interpolate || m == 10 && enabled s a

/-- Statusword bit 13: homing error in mode 6, else following error (log entry 45).
Log entry 45: PRESUMED, unsafe. -/
def statusBit13 (s : State) (a : Nat) : Bool :=
  if modeOf s a = 6 then decide (cN s 0x603F a = 0x8A00)
  else decide ((cN s 0x6065 a : Int) < (followingError s a).natAbs)

/-- The statusword, 0x6041 (R823, R829, R839 to R841).
Log entry 45: PRESUMED, unsafe. -/
def statusword (s : State) (a : Nat) : Nat :=
  let c := ce s a
  c.drive.bits + 16 * b2n (ax s a).gden + 128 * b2n c.warn + 256 * b2n (c.flags.getLsbD 1) + 512 * b2n (s.bus.al == .op) +
    1024 * b2n (targetReached s a) + 2048 * b2n (c.flags.getLsbD 3 || c.reaction == .degrade) + 4096 * b2n (statusBit12 s a) +
    8192 * b2n (statusBit13 s a) + 16384 * b2n c.exec.isSome

/-- Latches, A + 0x33:07 (R794, R802). -/
def latchByte (s : State) (a : Nat) : Nat :=
  let m := ax s a
  b2n m.trip + 2 * b2n m.sto + 4 * b2n (s.saf.discrepancy.getLsbD 0) + 8 * b2n (s.saf.discrepancy.getLsbD 1) + 16 * b2n (torqueOff s a)

/-- Flags of A + 0x04:09 (R848). -/
def ceFlags (s : State) (a : Nat) : Nat :=
  let c := ce s a
  c.flags.toNat % 16 + 16 * b2n (c.reaction == .degrade) + 32 * b2n (c.reaction == .ss1 && c.drive == .faultReaction)

/-- Safety summary, 0x3400:01 (R897). -/
def safetySummary (s : State) : Nat :=
  b2n ((List.range 8).any (torqueOff s)) + 2 * b2n ((List.range 8).any (fun a => (ce s a).reaction != .none)) + 4 * b2n (objB s 0x3413 1)

/-- Reaction in force per axis, 0x3440:01 (R888). -/
def reactionBytes (s : State) : List Byte := (List.range 8).map (fun a => BitVec.ofNat 8 (ce s a).reaction.code)

/-- Axes in Operation enabled, 0x2242:05 (R849). -/
def enabledMask (s : State) : Nat := ((List.range 8).filter (enabled s)).foldl (fun m a => m + 2 ^ a) 0

/-- A quantity in per mille of a rated one given in thousandths of its unit, 0x6077 and 0x6078 (log entry 46).
Log entry 46: DESIGN CHOICE, unsafe. -/
def perMille (x : F32) (rated : Nat) : Int := if fBad x || rated = 0 then 0 else satS 16 (ratRne (fRat x * 1000000 / (rated : Rat)))

end Sys2Proof.Machine
end

