-- ==== Sys2Proof/Machine/Formats.lean ====
section
/-! DEFINITION. Gallery's arithmetic: the number formats and their conversions (R548, R549, R553, R554), the accumulators of the
matrix unit (R551, R552) and the functions of the vector unit (R555). -/

namespace Sys2Proof.Machine

/-! ### Formats -/

/-- Exponent bits, fraction bits and bias of a floating format. -/
def fltShape : ETy → Option (Nat × Nat × Nat)
  | .e4m3 => some (4, 3, 7)
  | .e5m2 => some (5, 2, 15)
  | .f16 => some (5, 10, 15)
  | .bf16 => some (8, 7, 127)
  | .f32 => some (8, 23, 127)
  | _ => none

/-- Bits of an element. -/
def elemBits : ETy → Nat
  | .i4 => 4
  | .i8 => 8 | .u8 => 8 | .e4m3 => 8 | .e5m2 => 8
  | .i16 => 16 | .f16 => 16 | .bf16 => 16
  | .i32 => 32 | .f32 => 32

/-- Elements of a channel group of 64 octets (R557). -/
def groupElems (t : ETy) : Nat := 512 / elemBits t

/-- Limits of an integer format. -/
def intLimits : ETy → Int × Int
  | .i4 => (-8, 7)
  | .i8 => (-128, 127)
  | .u8 => (0, 255)
  | .i16 => (-32768, 32767)
  | _ => (-2147483648, 2147483647)

/-- A value in the vector unit: of an integer format, exact, or FP32. -/
inductive Val where
  | exact (q : Rat)
  | flt (x : F32)
  deriving DecidableEq, Repr

/-- An element's value: FP8, FP16 and BF16 stand in FP32 exactly, subnormals included (R552).
Log entry 128: PRESUMED, unsafe. -/
def decodeFlt (t : ETy) (v : Nat) : F32 :=
  match fltShape t with
  | none => 0
  | some (e, m, bias) =>
    if t = .f32 then BitVec.ofNat 32 v
    else
      let neg := v.testBit (e + m)
      let ex := v / 2 ^ m % 2 ^ e
      let fr := v % 2 ^ m
      if ex = 2 ^ e - 1 ∧ t ≠ .e4m3 then (if fr = 0 then fInf neg else fNaN)
      else if t = .e4m3 ∧ ex = 15 ∧ fr = 7 then fNaN
      else
        let a : Rat := if ex = 0 then (fr : Rat) * pow2 (1 - (bias : Int) - m) else ((2 ^ m + fr : Nat) : Rat) * pow2 ((ex : Int) - bias - m)
        fOfRatS neg (if neg then -a else a)

/-- Pattern of the largest finite value of a format: ±448, ±57,344, ±65,504 for FP8 and FP16 (R554). -/
def fltMax (t : ETy) (e m : Nat) : Nat := if t = .e4m3 then 0x7E else (2 ^ e - 1) * 2 ^ m - 1

/-- Conversion of FP32 to a floating format: to nearest with ties to even; a finite overflow, and an infinity to E4M3, saturate; a NaN
stays NaN (R554). -/
def encodeFlt (t : ETy) (x : F32) : Nat :=
  match fltShape t with
  | none => 0
  | some (e, m, bias) =>
    if t = .f32 then x.toNat
    else
      let sign := b2n (fNeg x) * 2 ^ (e + m)
      if fIsNaN x then
        (if t = .e4m3 then 0x7F else (2 ^ e - 1) * 2 ^ m + 2 ^ (m - 1) + Config.nanPayload.toNat % 2 ^ (m - 1))
      else if fIsInf x then sign + (if t = .e4m3 then fltMax t e m else (2 ^ e - 1) * 2 ^ m)
      else
        let q := fRat x
        let a : Rat := if q < 0 then -q else q
        if a = 0 then sign
        else
          let least : Int := 1 - (bias : Int)
          let k : Int := if ratExp a < least then least else ratExp a
          let r := ratRne (a / pow2 (k - m))
          let body : Int := if a < pow2 least then r else (k + bias - 1) * 2 ^ m + r
          sign + min body.toNat (fltMax t e m)

/-- The value of an element's bits. -/
def decodeElem (t : ETy) (v : Nat) : Val :=
  match t with
  | .u8 => .exact (v % 256 : Nat)
  | .i4 => .exact (toSigned 4 v)
  | .i8 => .exact (toSigned 8 v)
  | .i16 => .exact (toSigned 16 v)
  | .i32 => .exact (toSigned 32 v)
  | _ => .flt (decodeFlt t v)

/-- A value in FP32. -/
def toF32 : Val → F32
  | .exact q => fOfRat q
  | .flt x => x

/-- The value of a finite number; a NaN and an infinity have none. -/
def toRat : Val → Option Rat
  | .exact q => some q
  | .flt x => if fIsNaN x || fIsInf x then none else some (fRat x)

/-- The constant of a channel: one for the tensor or one per channel (R553). -/
def perChannel (l : List (BitVec 32)) (c : Nat) : Option (BitVec 32) := if l.length ≤ 1 then l.head? else l[c]?

/-- Bits of an integer in a format. -/
def encodeInt (t : ETy) (i : Int) : Nat := ofSigned (elemBits t) i

/-- Requantisation: clamp(round_half_even((acc + bias) × scale) + zp, lo, hi) (R553). -/
def requant (t : ETy) (p : Post) (bias scale : Rat) (acc : Rat) : Int :=
  let lim := intLimits t
  let c := p.clip.getD lim
  clampI lim.1 lim.2 (clampI c.1 c.2 (ratRne ((acc + bias) * scale) + p.zp))

/-- What an accumulator becomes in the output's format (R553, R554). A scale that is no finite number, and a NaN that goes to an
integer, have no stated result.
Log entry 129: DESIGN CHOICE, safe. -/
def finishElem (t : ETy) (p : Post) (c : Nat) (v : Val) : Nat :=
  let scale := perChannel p.scale c
  let sc : Option Rat := match scale with | none => some 1 | some x => toRat (.flt x)
  match fltShape t, v with
  | none, .exact q =>
    let b : Rat := match perChannel p.bias c with | some b => (b.toInt : Rat) | none => 0
    (match sc with
     | some k => encodeInt t (requant t p b k q)
     | none => (Config.openElem q.num.natAbs (scale.getD 0)).toNat % 2 ^ elemBits t)
  | none, .flt x =>
    let y := match perChannel p.bias c with | some b => fAdd x b | none => x
    (match toRat (.flt y), sc with
     | some q, some k => encodeInt t (requant t p 0 k q)
     | none, some _ =>
       if fIsInf y then encodeInt t (let l := p.clip.getD (intLimits t); if fNeg y then l.1 else l.2)
       else (Config.openElem y.toNat (scale.getD 0)).toNat % 2 ^ elemBits t
     | _, none => (Config.openElem y.toNat (scale.getD 0)).toNat % 2 ^ elemBits t)
  | some _, .exact q =>
    let b : Rat := match perChannel p.bias c with | some b => (b.toInt : Rat) | none => 0
    (match sc with
     | some k => encodeFlt t (fOfRat ((q + b) * k))
     | none => encodeFlt t (fMul (fOfRat (q + b)) (scale.getD 0)))
  | some _, .flt x =>
    let y := match perChannel p.bias c with | some b => fAdd x b | none => x
    encodeFlt t (match scale with | some k => fMul y k | none => y)

/-! ### Accumulators (R548, R551, R552) -/

/-- A product formed exactly and added into FP32 with one rounding (R552). -/
def fFma (acc x y : F32) : F32 :=
  let s := fNeg x != fNeg y
  if fIsNaN x || fIsNaN y || fIsNaN acc then fNaN
  else if (fIsInf x && fIsZero y) || (fIsZero x && fIsInf y) then fNaN
  else if fIsInf x || fIsInf y then (if fIsInf acc && fNeg acc != s then fNaN else fInf s)
  else if fIsInf acc then acc
  else fOfRatS (s && fNeg acc) (fRat x * fRat y + fRat acc)

/-- A saturating step of the INT32 accumulator: the value and whether it has saturated (R551). -/
def macInt (acc : Int × Bool) (p : Int) : Int × Bool :=
  let v := acc.1 + p
  (satS 32 v, acc.2 || decide (satS 32 v ≠ v))

/-- The integer a value of an integer format is. -/
def toInt32 : Val → Int
  | .exact q => ratRne q
  | .flt x => fToInt 32 x

/-- The sum of products in the accumulator of the operands' kind, in the order of the list, and whether it saturated (R551, R552). -/
def accumulate (flt : Bool) (l : List (Val × Val)) : Val × Bool :=
  if flt then (.flt (l.foldl (fun a p => fFma a (toF32 p.1) (toF32 p.2)) 0), false)
  else
    let r := l.foldl (fun a p => macInt a (toInt32 p.1 * toInt32 p.2)) ((0 : Int), false)
    (.exact r.1, r.2)

/-- The matrix unit's operand pairs, activation and weight (R548), and FP32 pairs, which the vector unit takes (R549, R566). -/
def pairTaken (x w : ETy) (vector : Bool) : Bool :=
  match x, w with
  | .i8, .i8 | .i8, .u8 | .u8, .i8 | .u8, .u8 | .i8, .i4 | .u8, .i4 | .i4, .i4 => true
  | .e4m3, .e4m3 | .e4m3, .e5m2 | .e5m2, .e4m3 | .e5m2, .e5m2 => true
  | .f16, .f16 | .bf16, .bf16 => true
  | .f32, .f32 => vector
  | _, _ => false

/-- Input channels per pass, Kt (R548). -/
def passK (x w : ETy) : Nat :=
  if x = .i4 ∧ w = .i4 then 128 else if x = .f16 ∨ x = .bf16 then 16 else if x = .f32 then 1 else 64

/-- The greater, or the lesser, of two values; which a NaN beside a number gives is not stated. -/
def pickVal (greater : Bool) (x y : Val) : Val :=
  match x, y with
  | .exact a, .exact b => if greater then (if a < b then y else x) else (if b < a then y else x)
  | _, _ =>
    let a := toF32 x
    let b := toF32 y
    if fIsNaN a || fIsNaN b then .flt (Config.nanPick a b)
    else if greater then .flt (if fLt a b then b else a) else .flt (if fLt b a then b else a)

/-! ### Functions of the vector unit (R555) -/

/-- Binary places of the fixed-point evaluation. -/
def fixBits : Nat := 320

/-- A real number in fixed point. -/
def toFix (q : Rat) : Int := (q * ((2 ^ fixBits : Nat) : Rat)).floor

/-- Product in fixed point. -/
def fixMul (a b : Int) : Int := a * b / (2 ^ fixBits : Nat)

/-- The sum of `n` terms of a series in fixed point; `next` gives the term after term `i`. -/
def fixSum (next : Nat → Int → Int) : Nat → Nat → Int → Int
  | 0, _, _ => 0
  | n + 1, i, t => t + fixSum next n (i + 1) (next i t)

/-- The natural logarithm of 2: the sum of 1 / (k 2^k). -/
def fixLn2 : Int := ((List.range 330).map (fun k => (2 ^ fixBits : Int) / ((k + 1 : Nat) * 2 ^ (k + 1) : Nat))).foldl (· + ·) 0

/-- The arctangent of 1 / d. -/
def fixAtan (d : Nat) : Int :=
  ((List.range 160).map (fun k => (if k % 2 = 0 then 1 else -1) * ((2 ^ fixBits : Int) / ((2 * k + 1) * d ^ (2 * k + 1) : Nat)))).foldl (· + ·) 0

/-- π: 16 arctan(1/5) − 4 arctan(1/239). -/
def fixPi : Int := 16 * fixAtan 5 - 4 * fixAtan 239

/-- The root of a nonnegative fixed-point number below 2^64. -/
def fixSqrt (a : Int) : Int := isqrt (a.toNat * 2 ^ fixBits)

/-- A fixed-point number as a rational. -/
def ofFix (a : Int) : Rat := (a : Rat) / ((2 ^ fixBits : Nat) : Rat)

/-- e^q to far more places than R555 asks. -/
def expRat (q : Rat) : Rat :=
  let x := toFix q
  let k := (2 * x + fixLn2) / (2 * fixLn2)
  let r := x - k * fixLn2
  ofFix (fixSum (fun i t => fixMul t r / (i + 1 : Nat)) 80 0 (2 ^ fixBits)) * pow2 k

/-- The logistic function. -/
def sigmoidRat (q : Rat) : Rat := if 200 < q then 1 else if q < -200 then 0 else 1 / (1 + expRat (-q))

/-- The hyperbolic tangent. -/
def tanhRat (q : Rat) : Rat :=
  if 100 < q then 1 else if q < -100 then -1
  else
    let e := expRat (2 * q)
    (e - 1) / (e + 1)

/-- The normal distribution function, from the series of its density (|q| ≤ 14). -/
def normalRat (q : Rat) : Rat :=
  if 14 < q then 1 else if q < -14 then 0
  else
    let x := toFix q
    let x2 := fixMul x x
    let sum := fixSum (fun i t => fixMul t x2 / (2 * i + 3 : Nat)) 900 0 x
    1 / 2 + ofFix (fixMul (toFix (expRat (-(q * q) / 2))) sum) / ofFix (fixSqrt (2 * fixPi))

/-- GELU: x Φ(x), or its form by the hyperbolic tangent; the spec names no form.
Log entry 130: DESIGN CHOICE, safe. -/
def geluRat (q : Rat) : Rat :=
  if Config.geluTanh then q * sigmoidRat (2 * ofFix (fixSqrt (2 * (2 ^ (2 * fixBits) : Int) / fixPi)) * (q + 44715 / 1000000 * q * q * q))
  else q * normalRat q

/-- A result of the vector unit's functions: any FP32 number within 2^−16 of the exact value, relatively; any at all below 2^−100
(R555). `kind` and `x` alone decide which, so that every core gives the same (R556).
Log entry 130: DESIGN CHOICE, safe. -/
def within (kind : Nat) (x : F32) (e : Rat) : F32 :=
  let v := Config.actValue kind x
  let a : Rat := if e < 0 then -e else e
  let d := fRat v - e
  if a < pow2 (-100) then v
  else if !(fIsNaN v) && !(fIsInf v) && decide ((if d < 0 then -d else d) ≤ a * (pow2 (-16) + pow2 (-60))) then v else fOfRat e

/-- e^x in FP32. -/
def gExp (x : F32) : F32 :=
  if fIsNaN x then fNaN
  else if fIsInf x then (if fNeg x then Config.actValue 0 x else x)
  else if fRat x < -200 then Config.actValue 0 x
  else if 200 < fRat x then fInf false
  else within 0 x (expRat (fRat x))

/-- An activation (R555, R569). -/
def actVal (f : ActFn) (v : Val) : Val :=
  let x := toF32 v
  let q := fRat x
  let real := fun (k : Nat) (up down : F32) (e : Rat) =>
    if fIsNaN x then fNaN else if fIsInf x then (if fNeg x then down else up) else within k x e
  match f with
  | .relu => pickVal true (match v with | .exact _ => .exact 0 | .flt _ => .flt 0) v
  | .relu6 =>
    (match v with
     | .exact _ => pickVal false (.exact 6) (pickVal true (.exact 0) v)
     | .flt _ => pickVal false (.flt (fOfInt 6)) (pickVal true (.flt 0) v))
  | .leaky a => if fLt x 0 then .flt (fMul a x) else v
  | .clip lo hi => pickVal false (.flt hi) (pickVal true (.flt lo) (.flt x))
  | .sigmoid => .flt (real 1 (fOfInt 1) (Config.actValue 1 x) (sigmoidRat q))
  | .tanh => .flt (real 2 (fOfInt 1) (fOfInt (-1)) (tanhRat q))
  | .exp => .flt (gExp x)
  | .silu => .flt (real 3 x (Config.actValue 3 x) (q * sigmoidRat q))
  | .gelu => .flt (real 4 x (Config.actValue 4 x) (geluRat q))

end Sys2Proof.Machine
end

