-- ==== Sys2Proof/Machine/Tensor.lean ====
section
/-! DEFINITION. Gallery's tensors in Pocket and the operators of its matrix and vector units (chapter 11: Tensor layouts, Mapping of
operators, Stripes). Every operator is a function of the Pocket of one core. -/

namespace Sys2Proof.Machine

/-! ### Pocket and tensors in it (R545, R557, R570) -/

/-- Octets of Pocket (R545). -/
def pocketSize : Nat := 2 ^ 21

/-- Octets of a Pocket.
Log entry 149: DESIGN CHOICE, unsafe. -/
def pkRead (p : Tab Byte) (a n : Nat) : List Byte := (List.range n).map (fun i => tget 0 p ((a + i) % pocketSize))

/-- Write octets of a Pocket. -/
def pkWrite (p : Tab Byte) (a : Nat) (l : List Byte) : Tab Byte :=
  l.zipIdx.foldl (fun p e => tset 0 p ((a + e.2) % pocketSize) e.1) p

/-- Octets of a pixel: its channels padded to whole channel groups (R557). -/
def pixelBytes (ty : ETy) (c : Nat) : Nat := (c * elemBits ty + 511) / 512 * 64

/-- Rows of a striped tensor of height `h` that member `j` of a group of `g` holds: j × ceil(h / g) up to the next (R570). -/
def stripeRows (g j h : Nat) : Nat × Nat :=
  let st := (h + g - 1) / max 1 g
  (min (j * st) h, min ((j + 1) * st) h)

/-- Address of a pixel in the Pocket of member `j`: its own rows, or the halo rows a neighbour sent (R557, R570, R571). -/
def pixelAt (g j : Nat) (t : Tensor) (n y x : Nat) : Nat :=
  let px := pixelBytes t.ty t.c
  if !t.striped then t.addr + ((n * t.h + y) * t.w + x) * px
  else
    let r := stripeRows g j t.h
    if y < r.1 then t.aboveAddr + ((n * t.above + (y + t.above - r.1)) * t.w + x) * px
    else if r.2 ≤ y then t.belowAddr + ((n * t.below + (y - r.2)) * t.w + x) * px
    else t.addr + ((n * (r.2 - r.1) + (y - r.1)) * t.w + x) * px

/-- Bits of element `i` of a run of elements; two INT4 stand in an octet, the first in bits [3:0]. -/
def packedElem (ty : ETy) (read : Nat → Nat → List Byte) (at_ i : Nat) : Nat :=
  if ty = .i4 then leNat (read (at_ + i / 2) 1) / 16 ^ (i % 2) % 16
  else leNat (read (at_ + i * (elemBits ty / 8)) (elemBits ty / 8))

/-- Octets of a run of elements. -/
def packElems (ty : ETy) : List Nat → List Byte
  | a :: b :: t => if ty = .i4 then BitVec.ofNat 8 (a % 16 + 16 * (b % 16)) :: packElems ty t
                   else leBytes (elemBits ty / 8) a ++ (leBytes (elemBits ty / 8) b ++ packElems ty t)
  | [a] => if ty = .i4 then [BitVec.ofNat 8 (a % 16)] else leBytes (elemBits ty / 8) a
  | [] => []

/-- An element's bits. -/
def rawAt (p : Tab Byte) (g j : Nat) (t : Tensor) (n y x c : Nat) : Nat :=
  packedElem t.ty (pkRead p) (pixelAt g j t n y x) c

/-- An element's value. -/
def elemAt (p : Tab Byte) (g j : Nat) (t : Tensor) (n y x c : Nat) : Val := decodeElem t.ty (rawAt p g j t n y x c)

/-- The value of padding: zero, or the zero point of an integer type (R557, R565). -/
def fillVal (t : Tensor) : Val := if (fltShape t.ty).isSome then .flt 0 else .exact t.fill

/-- The bits of padding. -/
def fillBits (t : Tensor) : Nat := if (fltShape t.ty).isSome then 0 else encodeInt t.ty t.fill

/-- Rows of an output that a member computes (R570). -/
def ownRows (g j : Nat) (t : Tensor) : List Nat :=
  if t.striped then let r := stripeRows g j t.h; (List.range (r.2 - r.1)).map (fun i => r.1 + i) else List.range t.h

/-- Channels of an output that a member computes, padding included: all of them, or its share of the channel groups (R557, R574).
Log entry 133: DESIGN CHOICE, safe. -/
def ownChannels (g j : Nat) (split : Bool) (t : Tensor) : List Nat :=
  let e := groupElems t.ty
  let groups := (t.c + e - 1) / e
  let per := if split then (groups + g - 1) / max 1 g else groups
  let lo := if split then min (j * per) groups else 0
  let hi := min (lo + per) groups
  (List.range ((hi - lo) * e)).map (fun i => lo * e + i)

/-- Write bits of elements from channel `c` of a pixel on. -/
def putElems (p : Tab Byte) (g j : Nat) (t : Tensor) (n y x c : Nat) (l : List Nat) : Tab Byte :=
  pkWrite p (pixelAt g j t n y x + c * elemBits t.ty / 8) (packElems t.ty l)

/-- An output tensor is computed: every element a member owns, then the padding of its channel groups; `f` gives an element's bits and
whether an accumulator saturated (R551, R557). -/
def produce (p : Tab Byte) (g j : Nat) (split : Bool) (out : Tensor) (f : Nat → Nat → Nat → Nat → Nat × Bool) : Tab Byte × Bool :=
  let chans := ownChannels g j split out
  let sites := ((List.range out.n).map (fun n => ((ownRows g j out).map (fun y => (List.range out.w).map (fun x => (n, y, x)))).flatten)).flatten
  sites.foldl
    (fun acc e =>
      let vs := chans.map (fun c => if c < out.c then f e.1 e.2.1 e.2.2 c else (fillBits out, false))
      (putElems acc.1 g j out e.1 e.2.1 e.2.2 (chans.headD 0) (vs.map (fun v => v.1)), acc.2 || vs.any (fun v => v.2)))
    (p, false)

/-! ### Matrix products and convolutions (R561 to R567) -/

/-- Products of one pass or several, padded with zeros to a multiple of Kt (R561). -/
def padProducts (kt : Nat) (flt : Bool) (l : List (Val × Val)) : List (Val × Val) :=
  let z : Val := if flt then .flt 0 else .exact 0
  l ++ List.replicate ((kt - l.length % max 1 kt) % max 1 kt) (z, z)

/-- Taps of a window in raster order. -/
def taps (win : Window) : List (Nat × Nat) := ((List.range win.kh).map (fun y => (List.range win.kw).map (fun x => (y, x)))).flatten

/-- An input element at a signed place: padding outside the image (R565). -/
def paddedAt (p : Tab Byte) (g j : Nat) (t : Tensor) (n : Nat) (y x : Int) (c : Nat) : Val :=
  if 0 ≤ y ∧ y < t.h ∧ 0 ≤ x ∧ x < t.w then elemAt p g j t n y.toNat x.toNat c else fillVal t

/-- The input is small enough for the taps to be folded into one channel group (R564). -/
def foldsTaps (x : Tensor) (cin : Nat) (win : Window) : Bool :=
  decide (1 < win.kh * win.kw) && decide (cin * win.kh * win.kw ≤ groupElems x.ty)

/-- The operand pairs of an output element: tap after tap, each a 1 × 1 product of the input shifted by the tap's offset times the
dilation (R562, R563), or all taps folded into one product (R564). A weight stands at tap, input channel, output channel.
Log entry 134: DESIGN CHOICE, unsafe. -/
def convProducts (p : Tab Byte) (g j : Nat) (x w : Tensor) (cin first : Nat) (flt fold : Bool) (sites : List (Nat × Int × Int)) (n co : Nat) :
    List (Val × Val) :=
  let kt := passK x.ty w.ty
  let one := fun (e : Nat × Int × Int) =>
    (List.range cin).map (fun c => (paddedAt p g j x n e.2.1 e.2.2 (first + c), elemAt p 1 0 w e.1 0 c co))
  if fold then padProducts kt flt (sites.map one).flatten else (sites.map (fun e => padProducts kt flt (one e))).flatten

/-- The input places of an output pixel's taps: the tap's number, row and column (R562, R563, R565). -/
def convSites (win : Window) (oy ox : Nat) : List (Nat × Int × Int) :=
  (taps win).zipIdx.map (fun t =>
    (t.2, ((oy * win.sy + t.1.1 * win.dy : Nat) : Int) - win.top, ((ox * win.sx + t.1.2 * win.dx : Nat) : Int) - win.left))

/-- The input places of an output pixel of a transposed convolution: the taps of its phase (R567). -/
def deconvSites (win : Window) (oy ox : Nat) : List (Nat × Int × Int) :=
  (taps win).zipIdx.filterMap (fun t =>
    let y := ((oy + win.top : Nat) : Int) - (t.1.1 * win.dy : Nat)
    let x := ((ox + win.left : Nat) : Int) - (t.1.2 * win.dx : Nat)
    if y % win.sy = 0 ∧ x % win.sx = 0 then some (t.2, y / win.sy, x / win.sx) else none)

/-- A window that convolution accepts (R565). -/
def windowTaken (win : Window) : Bool :=
  decide (1 ≤ win.kh) && decide (win.kh ≤ 11) && decide (1 ≤ win.kw) && decide (win.kw ≤ 11) &&
    decide (1 ≤ win.sy) && decide (win.sy ≤ 4) && decide (1 ≤ win.sx) && decide (win.sx ≤ 4) &&
    decide (1 ≤ win.dy) && decide (win.dy ≤ 8) && decide (1 ≤ win.dx) && decide (win.dx ≤ 8) &&
    decide (win.top ≤ win.dy * (win.kh - 1)) && decide (win.bottom ≤ win.dy * (win.kh - 1)) &&
    decide (win.left ≤ win.dx * (win.kw - 1)) && decide (win.right ≤ win.dx * (win.kw - 1))

/-- A convolution: each group its own product (R566); a kernel of 1 × 1 is the matrix product of R561 and R562. -/
def convolve (p : Tab Byte) (g j : Nat) (split : Bool) (x w out : Tensor) (win : Window) (groups : Nat) (post : Post) : Tab Byte × Bool :=
  let k := max 1 groups
  let cin := x.c / k
  let flt := (fltShape w.ty).isSome
  if !windowTaken win || !pairTaken x.ty w.ty (decide (k = x.c)) then (p, false)
  else
    produce p g j split out (fun n y xx co =>
      let r := accumulate flt
        (convProducts p g j x w cin (co / max 1 (out.c / k) * cin) flt (foldsTaps x cin win) (convSites win y xx) n co)
      (finishElem out.ty post co r.1, r.2))

/-- A transposed convolution, stride 2 to 4: one ordinary convolution for each output phase (R567). -/
def deconvolve (p : Tab Byte) (g j : Nat) (split : Bool) (x w out : Tensor) (win : Window) (post : Post) : Tab Byte × Bool :=
  let flt := (fltShape w.ty).isSome
  if !windowTaken win || decide (win.sy < 2) || decide (win.sx < 2) || !pairTaken x.ty w.ty false then (p, false)
  else
    produce p g j split out (fun n y xx co =>
      let r := accumulate flt (convProducts p g j x w x.c 0 flt false (deconvSites win y xx) n co)
      (finishElem out.ty post co r.1, r.2))

/-! ### Pooling (R568) -/

/-- The sum of values: INT32 saturating, or FP32, in the order of the list. -/
def sumVals (l : List Val) : Val × Bool :=
  match l with
  | .flt _ :: _ => (.flt (l.foldl (fun a v => fAdd a (toF32 v)) 0), false)
  | _ =>
    let r := l.foldl (fun a v => macInt a (toInt32 v)) ((0 : Int), false)
    (.exact r.1, r.2)

/-- A value divided by a count. -/
def overCount (v : Val) (n : Nat) : Val :=
  match v with
  | .exact q => .exact (q / n)
  | .flt x => .flt (fDiv x (fOfInt n))

/-- The greatest of values. -/
def maxVals (d : Val) : List Val → Val
  | [] => d
  | v :: t => t.foldl (pickVal true) v

/-- The pooled value of a window's elements inside the image; `pad` positions lie outside it.
Log entry 131: DESIGN CHOICE, unsafe. -/
def poolVals (kind : PoolKind) (fill : Val) (l : List Val) (pad : Nat) : Val × Bool :=
  match kind with
  | .max => (maxVals fill l, false)
  | .avg countPad =>
    let r := sumVals (if countPad then l ++ List.replicate pad fill else l)
    (overCount r.1 (max 1 (l.length + if countPad then pad else 0)), r.2)

/-- Max and average pooling, windows and strides 1 to 8 (R568). -/
def poolOp (p : Tab Byte) (g j : Nat) (split : Bool) (kind : PoolKind) (x out : Tensor) (win : Window) (post : Post) : Tab Byte × Bool :=
  if win.kh = 0 ∨ 8 < win.kh ∨ win.kw = 0 ∨ 8 < win.kw ∨ win.sy = 0 ∨ 8 < win.sy ∨ win.sx = 0 ∨ 8 < win.sx then (p, false)
  else
    produce p g j split out (fun n y xx c =>
      let sites := convSites { win with dy := 1, dx := 1 } y xx
      let inside := sites.filter (fun e => decide (0 ≤ e.2.1 ∧ e.2.1 < (x.h : Int) ∧ 0 ≤ e.2.2 ∧ e.2.2 < (x.w : Int)))
      let r := poolVals kind (fillVal x) (inside.map (fun e => elemAt p g j x n e.2.1.toNat e.2.2.toNat c)) (sites.length - inside.length)
      (finishElem out.ty post c r.1, r.2))

/-- Global pooling over any size (R568). -/
def globalPoolOp (p : Tab Byte) (g j : Nat) (split : Bool) (kind : PoolKind) (x out : Tensor) (post : Post) : Tab Byte × Bool :=
  produce p g j split out (fun n _ _ c =>
    let l := ((List.range x.h).map (fun y => (List.range x.w).map (fun xx => elemAt p g j x n y xx c))).flatten
    let r := poolVals kind (fillVal x) l 0
    (finishElem out.ty post c r.1, r.2))

/-! ### The other operators (R569) -/

/-- An index into a tensor that is broadcast along a dimension of size 1. -/
def bcast (size i : Nat) : Nat := if size = 1 then 0 else i

/-- An elementwise operation; integers in INT32.
Log entry 131: DESIGN CHOICE, unsafe. -/
def binVal (op : BinOp) (x y : Val) : Val :=
  match op, x, y with
  | .max, _, _ => pickVal true x y
  | .min, _, _ => pickVal false x y
  | .add, .exact a, .exact b => .exact (satS 32 (ratRne (a + b)))
  | .sub, .exact a, .exact b => .exact (satS 32 (ratRne (a - b)))
  | .mul, .exact a, .exact b => .exact (satS 32 (ratRne (a * b)))
  | .add, _, _ => .flt (fAdd (toF32 x) (toF32 y))
  | .sub, _, _ => .flt (fSub (toF32 x) (toF32 y))
  | .mul, _, _ => .flt (fMul (toF32 x) (toF32 y))

/-- Elementwise operators with broadcast along any dimension. -/
def zipOp (p : Tab Byte) (g j : Nat) (split : Bool) (op : BinOp) (x y out : Tensor) (post : Post) : Tab Byte × Bool :=
  let at_ := fun (t : Tensor) (n r q c : Nat) => elemAt p g j t (bcast t.n n) (bcast t.h r) (bcast t.w q) (bcast t.c c)
  produce p g j split out (fun n r q c => (finishElem out.ty post c (binVal op (at_ x n r q c) (at_ y n r q c)), false))

/-- Activations and type conversion, element by element. -/
def mapOp (p : Tab Byte) (g j : Nat) (split : Bool) (f : Val → Val) (x out : Tensor) (post : Post) : Tab Byte × Bool :=
  produce p g j split out (fun n r q c => (finishElem out.ty post c (f (elemAt p g j x n r q c)), false))

/-- The sum of FP32 numbers, in the order of the list. -/
def sumF (l : List F32) : F32 := l.foldl fAdd 0

/-- Element `c` of a pixel after a normalisation along C, in FP32.
Log entry 131: DESIGN CHOICE, unsafe. -/
def normVal (kind : NormKind) (l : List F32) (c : Nat) : F32 :=
  let n := fOfInt l.length
  let x := l.getD c 0
  match kind with
  | .softmax =>
    let m := toF32 (maxVals (.flt 0) (l.map Val.flt))
    fDiv (gExp (fSub x m)) (sumF (l.map (fun v => gExp (fSub v m))))
  | .layer gamma beta eps =>
    let mean := fDiv (sumF l) n
    let var := fDiv (sumF (l.map (fun v => fMul (fSub v mean) (fSub v mean)))) n
    fAdd (fMul (fDiv (fSub x mean) (fSqrt (fAdd var eps))) (gamma.getD c 0x3F800000)) (beta.getD c 0)
  | .rms gamma eps =>
    fMul (fDiv x (fSqrt (fAdd (fDiv (sumF (l.map (fun v => fMul v v))) n) eps))) (gamma.getD c 0x3F800000)

/-- Softmax, layer norm and RMS norm. -/
def normOp (p : Tab Byte) (g j : Nat) (split : Bool) (kind : NormKind) (x out : Tensor) (post : Post) : Tab Byte × Bool :=
  produce p g j split out (fun n r q c =>
    (finishElem out.ty post c (.flt (normVal kind ((List.range x.c).map (fun k => toF32 (elemAt p g j x n r q k))) c)), false))

/-- Place of the greatest value, the first of equals. -/
def argmaxVals (l : List Val) : Nat :=
  (l.zipIdx.foldl (fun (a : Option (Val × Nat)) e =>
    match a with
    | none => some e
    | some b => if pickVal true b.1 e.1 = b.1 then a else some e) none).elim 0 (fun e => e.2)

/-- Reduction of the elements along one dimension. -/
def redVals (op : RedOp) (l : List Val) : Val × Bool :=
  match op with
  | .sum => sumVals l
  | .mean => let r := sumVals l; (overCount r.1 (max 1 l.length), r.2)
  | .max => (maxVals (.exact 0) l, false)
  | .argmax => (.exact (argmaxVals l : Nat), false)

/-- Reductions along C, H or W. -/
def reduceOp (p : Tab Byte) (g j : Nat) (split : Bool) (op : RedOp) (axis : Axis) (x out : Tensor) (post : Post) : Tab Byte × Bool :=
  produce p g j split out (fun n r q c =>
    let l := match axis with
      | .c => (List.range x.c).map (fun k => elemAt p g j x n r q k)
      | .h => (List.range x.h).map (fun k => elemAt p g j x n k q c)
      | .w => (List.range x.w).map (fun k => elemAt p g j x n r k c)
    let v := redVals op l
    (finishElem out.ty post c v.1, v.2))

/-- Where sample `i` of an output of size `m` lies in an input of size `n`. -/
def resizeAt (n m i : Nat) : Rat :=
  if Config.resizeHalf then ((2 * i + 1 : Nat) : Rat) * n / (2 * max 1 m : Nat) - 1 / 2 else ((i * n : Nat) : Rat) / (max 1 m : Nat)

/-- Nearest and bilinear resize, scale factors 1/4 to 4; a bilinear sample is computed exactly and rounded once.
Log entry 131: DESIGN CHOICE, unsafe. -/
def resizeOp (p : Tab Byte) (g j : Nat) (split : Bool) (bilinear : Bool) (x out : Tensor) (post : Post) : Tab Byte × Bool :=
  let bad := fun (n m : Nat) => decide (4 * m < n) || decide (4 * n < m)
  if bad x.h out.h || bad x.w out.w then (p, false)
  else
    let hold := fun (n : Nat) (i : Int) => (clampI 0 (n - 1) i).toNat
    produce p g j split out (fun n r q c =>
      let y := resizeAt x.h out.h r
      let z := resizeAt x.w out.w q
      let v := if bilinear then
          let at_ := fun (a b : Int) => elemAt p g j x n (hold x.h (y.floor + a)) (hold x.w (z.floor + b)) c
          let l := [(at_ 0 0, (1 - (y - y.floor)) * (1 - (z - z.floor))), (at_ 0 1, (1 - (y - y.floor)) * (z - z.floor)),
                    (at_ 1 0, (y - y.floor) * (1 - (z - z.floor))), (at_ 1 1, (y - y.floor) * (z - z.floor))]
          let qs := l.map (fun e => (toRat e.1).map (fun v => v * e.2))
          (if qs.all (fun e => e.isSome) then
            let sum : Rat := (qs.filterMap id).foldl (· + ·) 0
            if (fltShape x.ty).isSome then Val.flt (fOfRat sum) else Val.exact sum
          else Val.flt (sumF (l.map (fun e => fMul (toF32 e.1) (fOfRat e.2)))))
        else elemAt p g j x n (hold x.h (if Config.resizeHalf then (y + 1 / 2).floor else y.floor)) (hold x.w (if Config.resizeHalf then (z + 1 / 2).floor else z.floor)) c
      (finishElem out.ty post c v, false))

/-- Concatenate and slice along C: channels move from `src` to `dst`, the others stay. -/
def channelsOp (p : Tab Byte) (g j : Nat) (split : Bool) (x out : Tensor) (src dst count : Nat) : Tab Byte × Bool :=
  produce p g j split out (fun n r q c =>
    (if dst ≤ c ∧ c < dst + count then rawAt p g j x n r q (c - dst + src) else rawAt p g j out n r q c, false))

/-! ### Layouts and sources of the stream unit (R558, R559) -/

/-- Element of an NCHW tensor in DRAM. -/
def nchwElem (t : Tensor) (read : Nat → Nat → List Byte) (n y x c : Nat) : Nat :=
  packedElem t.ty read 0 (((n * t.c + c) * t.h + y) * t.w + x)

/-- A 16-bit sample in the type it is converted to: bits [15:8] for INT8 (R559).
Log entry 135: DESIGN CHOICE, unsafe. -/
def wideSample (ty : ETy) (v : Nat) : Nat :=
  if elemBits ty = 8 ∧ (fltShape ty).isNone then v / 256
  else if (fltShape ty).isSome then encodeFlt ty (fOfInt v) else v % 2 ^ elemBits ty

/-- Element of a Grotto surface: pixel (x, y), channel c (R468, R472, R498, R559). -/
def surfElem (fmt : SurfFmt) (ty : ETy) (stride h : Nat) (read : Nat → Nat → List Byte) (y x c : Nat) : Nat :=
  match fmt with
  | .y8 | .conf8 => leNat (read (y * stride + x) 1)
  | .y16 | .disp16 => wideSample ty (leNat (read (y * stride + 2 * x) 2))
  | .rgb888 => leNat (read (y * stride + 3 * x + c) 1)
  | .yuv444p => leNat (read ((c * h + y) * stride + x) 1)
  | .flow16 => leNat (read (y * stride + 4 * x + 2 * c) 2)

/-- A tensor is filled by the stream unit, element by element. -/
def fillTensor (p : Tab Byte) (g j : Nat) (dst : Tensor) (f : Nat → Nat → Nat → Nat → Nat) : Tab Byte :=
  (produce p g j false dst (fun n y x c => (f n y x c, false))).1

/-! ### Halo rows and gathers (R571, R572, R574) -/

/-- Octets of rows `lo` to `hi − 1` of a striped tensor that member `j` holds, image after image. -/
def rowOctets (p : Tab Byte) (g j : Nat) (t : Tensor) (lo hi : Nat) : List Byte :=
  ((List.range t.n).map (fun n => ((List.range (hi - lo)).map (fun i => pkRead p (pixelAt g j t n (lo + i) 0) (t.w * pixelBytes t.ty t.c))).flatten)).flatten

/-- The rows member `j` sends to the member after it (its last ones) and to the one before it (its first ones), at most its stripe
(R571, R572).
Log entry 155: DEDUCED, unsafe. -/
def haloRows (g j : Nat) (t : Tensor) (down : Bool) : Nat × Nat :=
  let r := stripeRows g j t.h
  if down then (max r.1 (r.2 - t.above), r.2) else (r.1, min r.2 (r.1 + t.below))

/-- Halo rows arrive in the region the receiving member's kernel reserves for them (R571). -/
def putHalo (p : Tab Byte) (t : Tensor) (down : Bool) (l : List Byte) : Tab Byte := pkWrite p (if down then t.aboveAddr else t.belowAddr) l

/-- Member `j`'s share of a non-striped layer's output goes into member 0's Pocket (R574). -/
def gatherInto (zero own : Tab Byte) (g j : Nat) (t : Tensor) : Tab Byte :=
  let cs := ownChannels g j true t
  let sites := ((List.range t.n).map (fun n => ((List.range t.h).map (fun y => (List.range t.w).map (fun x => (n, y, x)))).flatten)).flatten
  sites.foldl (fun z e => putElems z g 0 t e.1 e.2.1 e.2.2 (cs.headD 0) (cs.map (fun c => rawAt own g j t e.1 e.2.1 e.2.2 c))) zero

end Sys2Proof.Machine
end

