-- ==== Sys2Proof/Machine/Attention.lean ====
section
/-! DEFINITION. Attention and the append step (chapter 13: Attention forms, Appending by scatter). -/

namespace Sys2Proof.Machine

/-! ### Formats and limits (R656, R657) -/

/-- Head dimensions and head counts the kernel takes (R656). -/
def headsTaken (qHeads kvHeads hd : Nat) : Bool :=
  (hd == 32 || hd == 64 || hd == 128 || hd == 256) && [1, 2, 4, 8, 16, 32, 64].any (fun r => decide (qHeads = r * kvHeads)) && decide (0 < kvHeads)

/-- Formats of queries (R657). -/
def queryTaken : ETy → Bool
  | .f16 | .bf16 | .e4m3 | .e5m2 => true
  | _ => false

/-- Formats of stored keys and values (R657). -/
def storedTaken : ETy → Bool
  | .f16 | .bf16 | .e4m3 | .i8 => true
  | _ => false

/-! ### Rotary position embedding (R659) -/

/-- A head rotated by its position: pair i turns by position × frequency i.
Log entry 132: DESIGN CHOICE, safe. -/
def rotate (r : Option Rope) (pos : Nat) (l : List F32) : List F32 :=
  match r with
  | none => l
  | some r =>
    let half := l.length / 2
    l.zipIdx.map (fun e =>
      let i := if r.halves then e.2 % max 1 half else e.2 / 2
      let first := if r.halves then decide (e.2 < half) else decide (e.2 % 2 = 0)
      let other := l.getD (if r.halves then (if first then e.2 + half else e.2 - half) else (if first then e.2 + 1 else e.2 - 1)) 0
      let c := Config.rotCos pos (r.freqs.getD i 0)
      let s := Config.rotSin pos (r.freqs.getD i 0)
      if first then fSub (fMul e.1 c) (fMul other s) else fAdd (fMul other s) (fMul e.1 c))

/-! ### Token records (R657, R662, R675, R678) -/

/-- A head's elements of a token of a Pocket tensor: tokens along W, heads × elements along C. -/
def headElems (p : Tab Byte) (t : Tensor) (token head hd : Nat) : List F32 :=
  (List.range hd).map (fun d => toF32 (elemAt p 1 0 t 0 0 token (head * hd + d)))

/-- Bits of a stored key or value: in an INT8 pool, a multiple of the token's and head's FP16 scale (R657). -/
def storedElem (ty : ETy) (scale x : F32) : Nat :=
  if ty ≠ .i8 then encodeFlt ty x
  else
    match toRat (.flt x), toRat (.flt scale) with
    | some a, some b => if b = 0 then (Config.openElem x.toNat scale).toNat % 256 else encodeInt .i8 (clampI (-128) 127 (ratRne (a / b)))
    | _, _ => (Config.openElem x.toNat scale).toNat % 256

/-- A token record: the keys of all heads, their values, and the scales of an INT8 pool.
Log entry 136: DESIGN CHOICE, unsafe. -/
def tokenRecord (p : Tab Byte) (a : Append) (bytes pos i : Nat) : List Byte :=
  let scale := fun (h : Nat) => toF32 (elemAt p 1 0 a.scales 0 0 i h)
  let heads := List.range a.kvHeads
  let k := (heads.map (fun h => (rotate a.rope pos (headElems p a.k i h a.headDim)).map (storedElem a.kvTy (scale h)))).flatten
  let v := (heads.map (fun h => (headElems p a.v i h a.headDim).map (storedElem a.kvTy (scale h)))).flatten
  let sc := if a.kvTy = .i8 then heads.map (fun h => rawAt p 1 0 a.scales 0 0 i h) else []
  fitTo bytes (packElems a.kvTy k ++ packElems a.kvTy v ++ (sc.map (leBytes 2)).flatten)

/-- Position of appended token `i`: LENGTH onward; none where the sequence is full (R678). -/
def appendPos (s : State) (p : Nat) (x : KvSeq) (i : Nat) : Option Nat :=
  let r := appended s p x i
  if (appended s p x (i + 1)).1 = r.1 + 1 then some r.1 else none

/-- What a job holds of entry `e` of its batch. -/
def batchHold (s : State) (queue e : Nat) : Option KvPending := (s.kv.pending.filter (fun k => k.queue = queue))[e]?

/-- The sequence as the job's release saw it (R689). -/
def heldSeq (s : State) (k : KvPending) : KvSeq := { kvSeq s k.pool k.seq with length := k.length, start := k.start }

/-- The append step: new tokens at LENGTH onward, or, where a dropped sequence is rebuilt, the tokens from START on (R659, R675,
R678, R682). -/
def appendTokens (s : State) (queue : Nat) (p : Tab Byte) (a : Append) : List (Nat × Nat × List Byte) :=
  match batchHold s queue a.entry with
  | none => []
  | some k =>
    if !storedTaken a.kvTy then []
    else
      let bytes := poolN s k.pool 5
      let n := if a.rebuild then (if k.recompute then k.length - k.start else 0) else k.append
      (List.range n).filterMap (fun i =>
        (if a.rebuild then some (k.start + i) else appendPos s k.pool (heldSeq s k) i).map (fun pos =>
          (k.seq, pos, tokenRecord p a bytes pos i)))

/-! ### The attention kernel (R655 to R659) -/

/-- Running maximum, running sum and value sum of a head (R658). -/
structure Softmax where
  top : Option F32 := none
  sum : F32 := 0
  acc : List F32
  deriving DecidableEq, Repr

/-- One block of keys and values joins the running sums; each item is a score and a value (R658). -/
def softBlock (r : Softmax) (l : List (F32 × List F32)) : Softmax :=
  match l with
  | [] => r
  | h :: t =>
    let inBlock := t.foldl (fun m e => toF32 (pickVal true (.flt m) (.flt e.1))) h.1
    let top := match r.top with | some m => toF32 (pickVal true (.flt m) (.flt inBlock)) | none => inBlock
    let keep := match r.top with | some m => gExp (fSub m top) | none => 0
    let ps := l.map (fun e => (gExp (fSub e.1 top), e.2))
    { top := some top
      sum := ps.foldl (fun a e => fAdd a e.1) (fMul r.sum keep)
      acc := r.acc.zipIdx.map (fun a => ps.foldl (fun b e => fFma b e.1 (e.2.getD a.2 0)) (fMul a.1 keep)) }

/-- Blocks of 64 tokens (R658). -/
def blocks64 {α : Type} : Nat → List α → List (List α)
  | 0, _ => []
  | n + 1, l => if l.isEmpty then [] else l.take 64 :: blocks64 n (l.drop 64)

/-- A head's attention over keys with their values: the score is the scaled dot product, the positions that the mask excludes are
absent (R655, R658). -/
def attendHead (scale : F32) (q : List F32) (kv : List (List F32 × List F32)) : List F32 :=
  let items := kv.map (fun e => (fMul ((q.zip e.1).foldl (fun a p => fFma a p.1 p.2) 0) scale, e.2))
  let r := (blocks64 items.length items).foldl softBlock { acc := q.map (fun _ => (0 : F32)) }
  r.acc.map (fun x => fDiv x r.sum)

/-- Keys and values of a head in a token record (R657). -/
def recordHead (ty : ETy) (kvHeads hd h : Nat) (b : List Byte) : List F32 × List F32 :=
  let n := kvHeads * hd
  let size := elemBits ty / 8
  let read := fun (i : Nat) => decodeElem ty (fieldN b (i * size) size)
  let scale := decodeFlt .f16 (fieldN b (2 * n * size + 2 * h) 2)
  let val := fun (i : Nat) => if ty = .i8 then fMul (toF32 (read i)) scale else toF32 (read i)
  ((List.range hd).map (fun d => val (h * hd + d)), (List.range hd).map (fun d => val (n + h * hd + d)))

/-- Positions a sequence offers a query at `pos` (R655, R678, R689): its tokens and, but for cross-attention, those the job appends. -/
def attended (s : State) (k : KvPending) (form : AttnForm) (pos : Nat) : List Nat :=
  let r := appended s k.pool (heldSeq s k) k.append
  let range := fun (a b : Nat) => (List.range (b - a)).map (fun i => a + i)
  match form with
  | .cross => range k.start k.length
  | _ => range r.2.1 (min (pos + 1) r.1)

/-- The record of a token: the job's own pending one, or the one in its page; and whether a word of it is poisoned (R675, R690). -/
def tokenBytes (s : State) (k : KvPending) (mine : List (Nat × Nat × List Byte)) (t : Nat) : List Byte × Bool :=
  match (mine.filter (fun e => e.1 = k.seq && e.2.1 = t)).getLast? with
  | some e => (e.2.2, false)
  | none =>
    match tokenAt s k.pool (kvSeq s k.pool k.seq) t with
    | some a => (cavRead s a (poolN s k.pool 5), cavPoisoned s a (poolN s k.pool 5))
    | none => ([], false)

/-- What an attention kernel gives: Pocket, Cavern lines read, and whether a poisoned word was read. -/
structure AttnOut where
  pocket : Tab Byte
  lines : Nat
  poisoned : Bool
  deriving DecidableEq, Repr

/-- An attention kernel over a batch entry or, in the bidirectional form, over tensors in Pocket; query head h takes key-value head
h / ratio (R655, R656). -/
def attendOp (s : State) (queue g j : Nat) (split : Bool) (p : Tab Byte) (mine : List (Nat × Nat × List Byte)) (a : Attend) : AttnOut :=
  let taken := headsTaken a.qHeads a.kvHeads a.headDim && queryTaken a.q.ty
  let ratio := a.qHeads / max 1 a.kvHeads
  let put := fun (kv : Nat → Nat → List (List F32 × List F32)) (pos : Nat → Nat) =>
    (produce p g j split a.out (fun _ _ i c =>
      let h := c / max 1 a.headDim
      let q := rotate a.rope (pos i) (headElems p a.q i h a.headDim)
      (finishElem a.out.ty a.post c (.flt ((attendHead a.scale q (kv i (h / max 1 ratio))).getD (c % max 1 a.headDim) 0)), false))).1
  if !taken then { pocket := p, lines := 0, poisoned := false }
  else if a.form = .bidirectional then
    { pocket := put (fun _ h => (List.range a.k.w).map (fun t => (headElems p a.k t h a.headDim, headElems p a.v t h a.headDim))) id
      lines := 0, poisoned := false }
  else
    match batchHold s queue a.entry with
    | none => { pocket := p, lines := 0, poisoned := false }
    | some k =>
      if !storedTaken a.kvTy then { pocket := p, lines := 0, poisoned := false }
      else
        let pos := fun (i : Nat) => if a.form = .cross then i else k.length + i
        let all := attended s k a.form (pos (a.q.w - 1))
        let recs := all.map (fun t => (t, tokenBytes s k mine t))
        { pocket := put (fun i h => ((recs.filter (fun e => (attended s k a.form (pos i)).contains e.1)).map
            (fun e => recordHead a.kvTy a.kvHeads a.headDim h e.2.1))) pos
          lines := all.length * ((poolN s k.pool 5 + 63) / 64)
          poisoned := recs.any (fun e => e.2.2) }

end Sys2Proof.Machine
end

