-- ==== Sys2Proof/Machine/Kernels.lean ====
section
/-! DEFINITION. What one member of a core group does in one kernel: stream transfers, operators, the append step, attention, halo rows
and gathers, and the signature of a copy (chapters 11, 13 and 18). -/

namespace Sys2Proof.Machine

/-- A kernel under way on one member: the machine, the copy, whether an accumulator saturated, the status it leaves its job, the lines
it moved. -/
structure KernelRun where
  s : State
  copy : Copy
  sat : Bool := false
  status : Nat := 0
  cav : Nat := 0
  dram : Nat := 0

/-- Who runs it: queue, copy, job, kernel, group size, member. -/
structure KernelCtx where
  queue : Nat
  copy : Nat
  job : Job
  kernel : Nat
  g : Nat
  j : Nat

/-- The first status that a kernel's faults give stands. -/
def kFault (r : KernelRun) (status : Nat) : KernelRun := { r with status := if r.status = 0 then status else r.status }

/-- Pocket of member `j`. -/
def pocketOf (s : State) (c : Copy) (j : Nat) : Tab Byte := (core' s (c.first + j)).pocket

/-- Replace the Pocket of member `j`. -/
def setPocket (s : State) (c : Copy) (j : Nat) (p : Tab Byte) : State := setCore s (c.first + j) { core' s (c.first + j) with pocket := p }

/-! ### Cavern (R575, R577 to R579, R589, R690) -/

/-- Some word of a bank belongs to an enabled pool. -/
def poolBank (s : State) (bank : Nat) : Bool :=
  (List.range 4).any (fun p => objB s (0x2A00 + p) 1 && (poolN s p 3).testBit bank)

/-- The partition owns every bank that the octets touch (R39, R578). -/
def ownsBanks (s : State) (part a n : Nat) : Bool :=
  let m := objN s 0x2801 (part % 3 + 1)
  m.testBit (a / 2 ^ 23) && m.testBit ((a + n - 1) / 2 ^ 23)

/-- An access to a bank that the partition does not own: the job ends WINDOW_FAULT and a record is left (R578). -/
def foreignAccess (r : KernelRun) (x : KernelCtx) (a : Nat) : KernelRun :=
  kFault { r with s := logHost r.s (mkRec 9 13 (leBytes 2 (Config.eventCode 9).toNat ++ leBytes 4 (a / 2 ^ 23)) (part := x.job.part)) } 2

/-- A load from Cavern: zeros from a foreign bank; a poisoned word ends the job MEMORY_ECC, and loses the sequences of a pool's page
(R578, R589, R690). The second copy of a job sees its own stores. -/
def cavLoad (r : KernelRun) (x : KernelCtx) (a n : Nat) : KernelRun × List Byte :=
  if !ownsBanks r.s x.job.part a n then (foreignAccess r x a, List.replicate n 0)
  else
    let b := (List.range n).map (fun i => (tget none r.copy.own (a + i)).getD (tget 0 r.s.gal.cavern (a + i)))
    let r := { r with cav := r.cav + (linesOf a n).length }
    if !cavPoisoned r.s a n then (r, b)
    else (kFault { r with s := if poolBank r.s (a / 2 ^ 23) then kvLose r.s x.queue else r.s } 4, b)

/-! ### Stores and their signature (R435, R878, R879) -/

/-- A copy's stores enter its record (R879). -/
def noteStores (r : KernelRun) (x : KernelCtx) (l : List (Nat × Nat × List Byte)) : KernelRun :=
  { r with copy := { r.copy with
    stores := r.copy.stores ++ l.map (fun e => { kernel := x.kernel, member := x.j, line := e.1, mask := e.2.1, data := e.2.2 }) } }

/-- Octets that a copy's signature takes of one store.
Log entry 137: DESIGN CHOICE, unsafe. -/
def storeOctets (k : KernelStore) : List Byte := leBytes 8 k.line ++ leBytes 8 k.mask ++ k.data

/-- The signature of a copy: CRC-64 over its stores in kernel program order, its appended KV octets and its result word (R879).
Log entry 137: DESIGN CHOICE, unsafe. -/
def copySignature (c : Copy) : BitVec 64 :=
  let l := c.stores.mergeSort (fun x y => decide (x.kernel < y.kernel) || (decide (x.kernel = y.kernel) && decide (x.member ≤ y.member)))
  crc64 ((l.map storeOctets).flatten ++ ((memberTokens c 0).map (fun e => e.2.2)).flatten ++ leBytes 8 c.result.toNat)

/-- A store to Cavern; a foreign bank discards it (R578). Only the primary copy's reach memory (R878). -/
def cavStore (r : KernelRun) (x : KernelCtx) (a : Nat) (l : List Byte) : KernelRun :=
  if !ownsBanks r.s x.job.part a l.length then foreignAccess r x a
  else
    let r := noteStores { r with cav := r.cav + (linesOf a l.length).length } x (lineStores a l)
    if x.copy = 0 then { r with s := cavWrite r.s a l }
    else { r with copy := { r.copy with own := l.zipIdx.foldl (fun t e => tset none t (a + e.2) (some e.1)) r.copy.own } }

/-- A store to DRAM, line by line (R432, R436, R579, R878). -/
def dramStore (r : KernelRun) (x : KernelCtx) (a : Nat) (l : List Byte) : KernelRun :=
  let ls := lineStores a l
  let r := noteStores { r with dram := r.dram + ls.length } x ls
  if x.copy ≠ 0 then r
  else
    ls.foldl (fun r e =>
      let p := postStore r.s (jobOrigin x.queue x.job) e.1 e.2.1 e.2.2
      { r with s := if p.2 then p.1 else jobLateFault p.1 x.queue x.job.seq }) r

/-- A load from DRAM, which B jobs alone make (R579, R580); a refused or poisoned line ends the job WINDOW_FAULT (R402, R419). -/
def dramLoad (r : KernelRun) (x : KernelCtx) (a n : Nat) : KernelRun × Option (List Byte) :=
  if x.job.part ≠ 2 then (r, none)
  else
    let w := jobOrigin x.queue x.job
    let e := engLoad r.s w a n
    let k := (linesOf a n).length
    let r := { r with s := countLine e.1 w.tag k, dram := r.dram + k }
    (if e.2.2.1 && e.2.2.2 then r else kFault r 2, some e.2.1)

/-! ### The stream unit (R558 to R560, R575) -/

/-- Where a place lies: 0 Cavern, 1 Grotto, 2 DRAM, with its address. A bank that the slot does not have is no bank at all.
Log entry 127: DESIGN CHOICE, safe. -/
def placeAt (s : State) (j : Job) : Place → Nat × Nat
  | .slotBank k off => (0, ((bitList (mslot s j.slot).banks.toNat 24)[k]?.getD 24) * 2 ^ 23 + off % 2 ^ 23)
  | .cavern bank off => (0, bank * 2 ^ 23 + off % 2 ^ 23)
  | .grotto a => (1, a)
  | .input off => (2, j.desc.inAddr + off)
  | .output off => (2, j.desc.outAddr + off)
  | .dram a => (2, a)

/-- Octets are loaded from a place, `extra` further on; a load that the partition does not make gives none. -/
def streamLoad (r : KernelRun) (x : KernelCtx) (src : Place) (extra n : Nat) : KernelRun × Option (List Byte) :=
  let at_ := placeAt r.s x.job src
  if at_.1 = 0 then (let e := cavLoad r x (at_.2 + extra) n; (e.1, some e.2))
  else if at_.1 = 1 then (r, some (grottoRead r.s (at_.2 + extra) n))
  else dramLoad r x (at_.2 + extra) n

/-- The loads that all members request are read once and delivered to every member's Pocket (R575). -/
def multicastLoads (r : KernelRun) (x : KernelCtx) (l : List (Place × Nat × Nat)) : KernelRun :=
  l.foldl
    (fun r e =>
      let d := streamLoad r x e.1 0 e.2.2
      match d.2 with
      | none => d.1
      | some b => { d.1 with s := (List.range x.g).foldl (fun s i => setPocket s d.1.copy i (pkWrite (pocketOf s d.1.copy i) e.2.1 b)) d.1.s })
    r

/-! ### Operations of a kernel -/

/-- Pocket and saturation after an operator of the matrix or vector unit. -/
def opResult (r : KernelRun) (x : KernelCtx) (e : Tab Byte × Bool) : KernelRun :=
  { r with s := setPocket r.s r.copy x.j e.1, sat := r.sat || e.2 }

/-- One operation on one member (R558 to R569, R574, R616, R655 to R659). -/
def kernelOp (x : KernelCtx) (share : Share) (r : KernelRun) (op : KernelOp) : KernelRun :=
  let p := pocketOf r.s r.copy x.j
  let split := share == .channels
  let put := opResult r x
  match op with
  | .load src step addr len =>
    let d := streamLoad r x src (x.j * step) len
    (match d.2 with | some b => opResult d.1 x (pkWrite p addr b, false) | none => d.1)
  | .loadNchw src dst =>
    if (placeAt r.s x.job src).1 ≠ 2 then r
    else
      let d := streamLoad r x src 0 ((dst.n * dst.c * dst.h * dst.w * elemBits dst.ty + 7) / 8)
      (match d.2 with | some b => opResult d.1 x (fillTensor p x.g x.j dst (nchwElem dst (slice b)), false) | none => d.1)
  | .loadSurface base stride fmt dst =>
    put (fillTensor p x.g x.j dst (fun _ y q c => surfElem fmt dst.ty stride dst.h (fun o n => grottoRead r.s (base + o) n) y q c), false)
  | .store addr len dst step =>
    let at_ := placeAt r.s x.job dst
    let b := pkRead p addr len
    if len = 0 ∨ at_.1 = 1 then r
    else if at_.1 = 0 then cavStore r x (at_.2 + x.j * step) b else dramStore r x (at_.2 + x.j * step) b
  | .conv a w out win groups post => put (convolve p x.g x.j split a w out win groups post)
  | .deconv a w out win post => put (deconvolve p x.g x.j split a w out win post)
  | .pool kind a out win post => put (poolOp p x.g x.j split kind a out win post)
  | .globalPool kind a out post => put (globalPoolOp p x.g x.j split kind a out post)
  | .zip b a y out post => put (zipOp p x.g x.j split b a y out post)
  | .act f a out post => put (mapOp p x.g x.j split (actVal f) a out post)
  | .norm kind a out post => put (normOp p x.g x.j split kind a out post)
  | .reduce b axis a out post => put (reduceOp p x.g x.j split b axis a out post)
  | .resize bi a out post => put (resizeOp p x.g x.j split bi a out post)
  | .channels a out src dst count => put (channelsOp p x.g x.j split a out src dst count)
  | .convert a out post => put (mapOp p x.g x.j split id a out post)
  | .append a =>
    { r with copy := { r.copy with tokens := r.copy.tokens ++ (appendTokens r.s x.queue p a).map (fun e => (x.j, e)) } }
  | .attend a =>
    let o := attendOp r.s x.queue x.g x.j split p (memberTokens r.copy x.j) a
    let r := opResult { r with cav := r.cav + o.lines } x (o.pocket, false)
    if o.poisoned then kFault { r with s := kvLose r.s x.queue } 4 else r
  | .result addr =>
    let w := ((mslot r.s x.job.slot).bundle.map (fun b => b.writesResult.getD x.job.desc.entry false)).getD false
    if x.j = 0 ∧ w then { r with copy := { r.copy with result := BitVec.ofNat 64 (leNat (pkRead p addr 8)) } } else r

/-- The operations of a kernel on one member. -/
def kernelOps (x : KernelCtx) (k : Kernel) (r : KernelRun) : KernelRun :=
  if k.share = .first ∧ x.j ≠ 0 then r else k.ops.foldl (kernelOp x k.share) r

/-! ### Halo rows and gathers between members (R571 to R574) -/

/-- Rows of a striped tensor go to the neighbour on one side, inside the group (R571, R572). -/
def sendHalo (x : KernelCtx) (t : Tensor) (down : Bool) (r : KernelRun) : KernelRun :=
  let to_ := if down then x.j + 1 else x.j - 1
  if (down ∧ x.g ≤ x.j + 1) ∨ (down = false ∧ x.j = 0) then r
  else
    let rows := haloRows x.g x.j t down
    let b := rowOctets (pocketOf r.s r.copy x.j) x.g x.j t rows.1 rows.2
    { r with s := setPocket r.s r.copy to_ (putHalo (pocketOf r.s r.copy to_) t down b)
             copy := { r.copy with heard := r.copy.heard ++ [(x.kernel + 1, x.j, to_)] } }

/-- What a member sends at the end of a kernel; a send waits for nobody (R573, R574). -/
def kernelSends (x : KernelCtx) (k : Kernel) (r : KernelRun) : KernelRun :=
  let r := k.sends.foldl (fun r t => sendHalo x t false (sendHalo x t true r)) r
  match k.gather with
  | none => r
  | some t =>
    if x.j = 0 then r
    else
      { r with s := setPocket r.s r.copy 0 (gatherInto (pocketOf r.s r.copy 0) (pocketOf r.s r.copy x.j) x.g x.j t)
               copy := { r.copy with heard := r.copy.heard ++ [(x.kernel + 1, x.j, 0)] } }

/-- Members whose rows or channels member `j` must have before kernel `k` (R571, R573, R574). -/
def sendersTo (code : List Kernel) (g k j : Nat) : List Nat :=
  match k with
  | 0 => []
  | n + 1 =>
    match code[n]? with
    | none => []
    | some p =>
      (if p.sends.isEmpty then [] else (if j = 0 then [] else [j - 1]) ++ (if j + 1 < g then [j + 1] else [])) ++
        (if p.gather.isSome ∧ j = 0 then (List.range g).filter (fun i => decide (i ≠ 0)) else [])

/-- All that member `j` waits for before kernel `k` has arrived (R573). -/
def haloHere (c : Copy) (code : List Kernel) (g k j : Nat) : Bool :=
  (sendersTo code g k j).all (fun i => c.heard.contains (k, i, j))

/-- A kernel runs on a member: its multicast loads when it is the first there, its operations, its sends. -/
def runKernel (x : KernelCtx) (k : Kernel) (r : KernelRun) : KernelRun :=
  let r := if r.copy.steps.all (fun n => decide (n = x.kernel)) then multicastLoads r x k.multicast else r
  kernelSends x k (kernelOps x k r)

end Sys2Proof.Machine
end

