-- ==== Sys2Proof/Machine/Operands.lean ====
section
/-! DEFINITION. Operand forms that commands carry as octets: job descriptors. -/

namespace Sys2Proof.Machine

/-- The job descriptor that 64 octets spell (R603). -/
def descOf (b : List Byte) : Desc :=
  { op := fieldN b 0 1, flags := fieldN b 1 1, entry := fieldN b 3 1, userTag := fieldN b 4 4, inAddr := fieldN b 8 8,
    outAddr := fieldN b 16 8, wait0 := fieldN b 24 2, gen0 := fieldN b 26 2, wait1 := fieldN b 28 2, gen1 := fieldN b 30 2,
    deadline := fieldN b 32 8, rtag := fieldN b 40 2, dlKind := fieldN b 42 1, emit := fieldN b 43 1, delta := fieldI b 44 4,
    body := BitVec.ofNat 128 (fieldN b 48 16),
    reservedZero := decide (fieldN b 1 1 / 8 = 0) && decide (fieldN b 2 1 = 0) && decide (bits (fieldN b 24 2) 14 10 = 0) &&
      decide (bits (fieldN b 28 2) 14 10 = 0) && decide (fieldN b 43 1 / 8 = 0) }

/-- The descriptor's own fields are listed and reserved fields are zero (R605). -/
def Desc.wellFormed (d : Desc) : Bool :=
  (d.op == 1 || d.op == 2) && decide (d.dlKind ≤ 2) && decide (d.emit % 4 ≠ 3) && d.reservedZero

end Sys2Proof.Machine
end

