-- ==== Sys2Proof/Machine/Gallery.lean ====
section
/-! DEFINITION. Gallery's queues, scheduling, preemption, budgets and model slots, and the key-value commands (chapters 11
to 13). -/

namespace Sys2Proof.Machine

/-! ### Clocks, classes and groups (R546, R547, R620, R627, R634) -/

/-- B jobs are deferred by the governor (R631, R940). -/
def bDeferred (s : State) : Bool := decide (3 ≤ s.pwr.level)

/-- Gallery clock of D and B work at the governor's level, MHz (R940). -/
def galleryMhz (s : State) : Nat := if 5 ≤ s.pwr.level then 600 else if s.pwr.level = 4 then 900 else 1200

/-- Share of B core-µs per frame at levels 1 and 2; none at level 0 (R940, R941). -/
def bShare (s : State) : Option Nat :=
  if s.pwr.level = 0 then none else if s.pwr.level = 1 then some (4 * objN s 0x2800 2) else some (2 * objN s 0x2800 2)

/-- Rank of a partition: S, D, B, and a D that has spent its budget (R634). -/
def partRank (s : State) (p : Nat) : Nat := if p = 0 then 0 else if p = 1 then (if s.gal.dDemoted then 3 else 1) else 2

/-- Deadline of a job as field time; none when it has none or its position is unreachable (R628). -/
def deadlineTime (s : State) (d : Desc) : Option Nat :=
  if d.dlKind = 1 then some d.deadline
  else if d.dlKind = 2 then (predictHost s (toSigned 56 d.deadline)).1
  else none

/-- Aligned groups of size `g`: their first cores. -/
def groupsOf (g : Nat) : List Nat := (List.range (8 / max 1 g)).map (fun k => k * g)

/-- Cores of a group. -/
def groupCores (f g : Nat) : List Nat := (List.range g).map (fun i => f + i)

/-- Group size of a job: its bundle's (R546). -/
def groupSize (s : State) (j : Job) : Nat := ((mslot s j.slot).bundle.map (fun b => b.group)).getD 1

/-- First free aligned group of a size that avoids some cores. -/
def freeGroup (s : State) (g : Nat) (avoid : List Nat) : Option Nat :=
  (groupsOf g).find? (fun f => (groupCores f g).all (fun i => (core' s i).busy.isNone && !avoid.contains i))

/-- Kernels of a job: those of its entry point in its bundle (R604). -/
def jobCode (s : State) (j : Job) : List Kernel := ((mslot s j.slot).bundle.map (fun b => b.code.getD j.desc.entry [])).getD []

/-- The first copy of a job that waits to be resumed (R626). -/
def preemptedCopy (j : Job) : Option Nat := j.copies.findIdx? (fun c => c.mode == .preempted)

/-- Queues with a head job. -/
def jobQueues (s : State) : List Nat := (s.gal.queues.filter (fun e => e.2.job.isSome)).map (fun e => e.1)

/-- Queues and copies of the jobs that run on a group. -/
def groupJobs (s : State) (f g : Nat) : List (Nat × Nat) := ((groupCores f g).filterMap (fun i => (core' s i).busy)).eraseDups

/-- Banks a job needs: its slot's and its pool's (R865). -/
def jobBanks (s : State) (j : Job) : Nat :=
  (mslot s j.slot).banks.toNat ||| (match j.kv with | some (p, _) => poolN s p 3 | none => 0)

/-- A released or preempted job may be dispatched now, but for its group (R593, R631, R646, R685, R865, R941). -/
def jobReady (s : State) (q : Nat) (j : Job) : Bool :=
  (j.mode == .released || ((j.mode == .running || j.mode == .preempted) && (preemptedCopy j).isSome)) && !j.frameWait && s.gal.ready && !s.gal.rehash &&
    decide (jobBanks s j &&& s.gal.clearing.toNat = 0) &&
    (decide (j.part ≠ 2) || (!bDeferred s && (match bShare s with | some m => decide (s.gal.spentB < m) | none => true))) &&
    decide (q < 4096)

/-- The round-robin distance of a client from the last one served (R627). -/
def rrKey (s : State) (c : Nat) : Nat := (c + 255 - s.gal.lastB) % 256

/-- Order of ready jobs as a list of keys, smaller first (R627, R634). -/
def jobKey (s : State) (j : Job) : List Nat :=
  partRank s j.part ::
    (if j.part = 0 then [j.relTime]
     else if j.part = 1 then (match deadlineTime s j.desc with | some t => [0, t, j.relTime] | none => [1, 0, j.relTime])
     else [rrKey s j.client, j.relTime])

/-- Lexicographic order of keys. -/
def keyBefore : List Nat → List Nat → Bool
  | a :: s, b :: t => decide (a < b) || (decide (a = b) && keyBefore s t)
  | _, _ => false

/-! ### Stores and the end of a job (R435, R623, R881) -/

/-- Stores of a job that are not yet accepted. -/
def jobStores (s : State) (q : Nat) (j : Job) : Bool :=
  s.mem.stores.any (fun p => decide (p.who.agent = .gallery) && decide (p.who.queue = q) && decide (p.who.unit = j.seq))

/-- A job stops with a status: it completes when its stores are accepted. -/
def stopJob (s : State) (q status : Nat) : State :=
  match (que s q).job with
  | none => s
  | some j =>
    if jobStores s q j then
      setJob (freeCores s q) q { j with mode := .finished, status := status, copies := j.copies.map (fun c => { c with mode := .ended, victim := false }) }
    else completeJob s q status 0

/-! ### Taking a descriptor (R597, R598, R601, R604 to R606) -/

/-- The queue may take a descriptor. -/
def canTake (s : State) (q : Nat) : Bool :=
  let c := reg s (nqReg q 0x10)
  let used := (reg s (nqReg q 0x20) + 65536 - reg s (nqReg q 0x24) % 65536) % 65536
  hostUp s && c.testBit 0 && decide (4 ≤ bits c 11 8) && decide (bits c 11 8 ≤ 12) && decide (4 ≤ bits c 15 12) && decide (bits c 15 12 ≤ 12) &&
    (queueSettings s q).testBit 0 && !(que s q).stopped && (que s q).job.isNone &&
    decide (reg s (nqReg q 0x18) % 65536 ≠ reg s (nqReg q 0x1C)) && decide (used < 2 ^ bits c 15 12)

/-- State of a wait at the take (R606).
Log entry 34: DESIGN CHOICE, unsafe. -/
def waitAtTake (s : State) (w gen : Nat) : WaitMode :=
  if !w.testBit 15 then .none
  else
    let f := flag s (w % 1024)
    if f.set && f.mode == .valid && decide (gen ≠ 0) && decide (gen = f.gen) then .satisfied else .open_

/-- A taken descriptor becomes the queue's head job. -/
def takeJob (s : State) (q : Nat) (d : Desc) : State :=
  let c := queueClient s q
  let slot := clientSlot s c
  let run := decide (d.op = 1)
  let b := if slot < 4 then (mslot s slot).bundle else none
  let kvu := run && (b.map (fun b => b.kvUsing.getD d.entry false)).getD false
  let u := que s q
  let j : Job :=
    { desc := d, slot := if run ∧ slot < 4 then slot else 0xFF, client := c, part := clientPart s c, seq := u.seq, mode := .waiting,
      w0 := waitAtTake s d.wait0 d.gen0, w1 := waitAtTake s d.wait1 d.gen1,
      held := d.flags.testBit 0, stamp := none, countFrom := s.trep.time, relTime := 0, group := 0, first := 0, copies := [],
      preemptions := 0, status := 0, flags := 0, coreUs := 0,
      engineNs := 0, cavernLines := 0, dramLines := 0, energyNj := 0, fullAcct := clientFull s c,
      kv := if kvu then some (bits d.userTag 9 8, bits d.userTag 7 0) else none, secondFirst := false, reserve := [],
      frameWait := false, winGen := s.mem.pwinGen }
  let s := setQue s q { u with job := some j, seq := wrap32 (u.seq + 1) }
  let s := if j.slot < 4 then setSlot s j.slot { mslot s j.slot with inUse := (mslot s j.slot).inUse + 1 } else s
  let noEntry := run && (match b with | some b => decide (b.entries ≤ d.entry) | none => false)
  if !d.wellFormed || (j.part == 2 && d.emit % 4 == 2) || noEntry then completeJob s q 9 0
  else if !run then completeJob s q 0 0
  else if decide (4 ≤ slot) || b.isNone || (mslot s slot).mode == .failed then completeJob s q 8 0
  else jobAdvance s q

/-- The queue fetches its next descriptor (R598, R652). -/
def takeNext (s : State) (q : Nat) : State :=
  let head := reg s (nqReg q 0x1C)
  let w : Origin := { agent := .gallery, tag := partTag (clientPart s (queueClient s q)), client := queueClient s q, queue := q, unit := (que s q).seq }
  let r := engLoad s w (reg s (nqReg q 0) + 64 * (head % 2 ^ bits (reg s (nqReg q 0x10)) 11 8)) 64
  if !r.2.2.1 then bufFault r.1 q
  else
    let s := takeJob (setReg r.1 (nqReg q 0x1C) ((head + 1) % 65536)) q (descOf r.2.1)
    if r.2.2.2 then s
    else
      match (que s q).job with
      | some _ => completeJob s q 2 0
      | none => s

/-! ### Dispatch and preemption (R619 to R631) -/

/-- Cores of a group start a copy: a change of partition clears Pocket first, but not at a resumption, which restores the live state
(R547, R581, R582). -/
def startCores (s : State) (q ci part f g : Nat) (resume : Bool) (saved : List (List (Nat × List Byte))) : State :=
  (List.range g).foldl
    (fun s j =>
      let c := core' s (f + j)
      let clear := c.lastPart.isNone || (decide (c.lastPart ≠ some part) && !resume)
      let p := (lget [] saved j).foldl (fun p e => pkWrite p e.1 e.2) (if clear then [] else c.pocket)
      setCore s (f + j) { busy := some (q, ci), lastPart := some part, pocket := p, mhz := if part = 0 then 1200 else galleryMhz s }) s

/-- Copy `ci` of the job of queue `q` starts, or resumes, on the group from core `f` on. -/
def startCopy (s : State) (q g ci f : Nat) : State :=
  match (que s q).job with
  | none => s
  | some j =>
    let c := j.copies.getD ci {}
    let resume := c.mode == .preempted
    let s := startCores s q ci j.part f g resume c.saved
    let c := { c with first := f, mode := if (jobCode s j).isEmpty then .ended else .running, victim := false, saved := [],
                      steps := if resume then c.steps else List.replicate g 0 }
    let copies := j.copies.set ci c
    setJob s q { j with mode := if copies.all (fun c => c.mode == .ended) then .finished else .running, group := g, first := f, reserve := [], copies := copies }

/-- The job of queue `q` starts, or resumes a copy, on the groups named: copy and first core. -/
def startJob (s : State) (q : Nat) (j : Job) (g : Nat) (l : List (Nat × Nat)) : State :=
  let s := if j.part = 2 then { s with gal := { s.gal with lastB := j.client } } else s
  let s := if j.mode = .released then setJob s q { j with copies := l.map (fun _ => {}) } else s
  l.foldl (fun s e => startCopy s q g e.1 e.2) s

/-- Copy `ci` of the job of queue `q` is asked to stop at its next allowed boundary; its watchdog starts with the granule in force, and
its cores return to full clock (R622, R623, R650). -/
def requestPreemption (s : State) (e : Nat × Nat) : State :=
  match (que s e.1).job with
  | none => s
  | some j =>
    let c := j.copies.getD e.2 {}
    if c.mode ≠ .running ∨ c.victim then s
    else
      let s := setJob s e.1 { j with copies := j.copies.set e.2 { c with victim := true, expiry := s.trep.time + 1000 * objN s 0x2800 1 } }
      (List.range 8).foldl (fun s i => if (core' s i).busy = some e then setCore s i { core' s i with mhz := 1200 } else s) s

/-- Highest class among the jobs of a group, and their earliest release: the choice of R620 takes the largest. -/
def groupRank (s : State) (f g : Nat) : Nat × Nat :=
  ((groupJobs s f g).filterMap (fun e => (que s e.1).job)).foldl
    (fun a j => (min a.1 (partRank s j.part), min a.2 j.relTime)) (9, 2 ^ 64)

/-- Cores that other jobs' preemption requests are vacating. -/
def reservedCores (s : State) (q : Nat) : List Nat :=
  (((jobQueues s).filter (· ≠ q)).filterMap (fun k => (que s k).job.map (fun j => (j.reserve.map (fun f => groupCores f (groupSize s j))).flatten))).flatten

/-- Groups that a job of partition `part` may vacate (R620, R621). -/
def victimGroups (s : State) (q part g : Nat) (avoid : List Nat) : List Nat :=
  (groupsOf g).filter (fun f =>
    let js := (groupJobs s f g).filterMap (fun e => (que s e.1).job)
    !js.isEmpty && (groupCores f g).all (fun i => !avoid.contains i && !(reservedCores s q).contains i) &&
      js.all (fun j => if part = 0 then decide (j.part ≠ 0) else decide (j.part = 2)))

/-- The group to vacate.
Log entry 34: DESIGN CHOICE, unsafe. -/
def chooseVictim (s : State) (g : Nat) : List Nat → Option Nat
  | [] => none
  | f :: t =>
    match chooseVictim s g t with
    | none => some f
    | some h =>
      let a := groupRank s f g
      let b := groupRank s h g
      some (if a.1 < b.1 ∨ (a.1 = b.1 ∧ a.2 < b.2) then h else f)

/-- A released S or D job without a free group asks for one (R620, R621, R634); a duplicated job asks for both its
groups. -/
def preemptFor (s : State) (q : Nat) (j : Job) (g : Nat) (want : Nat) : State :=
  if !j.reserve.isEmpty || decide (j.part = 2) || (decide (j.part = 1) && s.gal.dDemoted) then s
  else
    let v1 := chooseVictim s g (victimGroups s q j.part g [])
    match v1 with
    | none => s
    | some f =>
      let v2 := if want ≤ 1 then none else chooseVictim s g (victimGroups s q j.part g (groupCores f g))
      let l := f :: (match v2 with | some f2 => [f2] | none => [])
      l.foldl (fun s f => (groupJobs s f g).foldl requestPreemption s) (setJob s q { j with reserve := l })

/-- Some job that is ordered before queue `q`'s could start now and could not once `q`'s holds the cores (R625, R627). -/
def mustYield (s : State) (q : Nat) (j : Job) (cores : List Nat) : Bool :=
  (jobQueues s).any (fun k =>
    decide (k ≠ q) &&
      (match (que s k).job with
       | some i => jobReady s k i && keyBefore (jobKey s i) (jobKey s j) &&
           (freeGroup s (groupSize s i) []).isSome && (freeGroup s (groupSize s i) cores).isNone
       | none => false))

/-- The job of queue `q` is dispatched if it may be, asks for a preemption, or ends EXPIRED, SLOT_INVALID or with the
fault of its prefetch (R614, R620, R625, R629, R630, R691).
Log entry 34: DESIGN CHOICE, unsafe. -/
def dispatchJob (s : State) (q : Nat) : State :=
  match (que s q).job with
  | none => s
  | some j =>
    if j.mode = .released ∧ j.status ≠ 0 ∧ j.frameWait = false then completeJob s q j.status 0
    else if !jobReady s q j then s
    else if j.mode = .released ∧ (mslot s j.slot).mode = .failed then completeJob s q 8 0
    else if j.mode = .released ∧ (queueSettings s q).testBit 2 ∧ deadlinePassed s j.desc then completeJob s q 0x0C 0
    else
      let g := groupSize s j
      let dup := (queueSettings s q).testBit 3 && j.part == 0 && j.mode == .released
      match freeGroup s g [] with
      | none => preemptFor s q j g (if dup then 2 else 1)
      | some f =>
        if !dup then (if mustYield s q j (groupCores f g) then s else startJob s q j g [((preemptedCopy j).getD 0, f)])
        else
          (match freeGroup s g (groupCores f g) with
           | some f2 =>
             if mustYield s q j (groupCores f g ++ groupCores f2 g) then s else startJob s q j g [(0, f), (1, f2)]
           | none => preemptFor s q j g 1)

/-! ### Kernel boundaries (R551, R578, R582, R587 to R590, R632 to R634) -/

/-- Core time is spent by a partition, and crossing a nonzero budget is counted (R632 to R634).
Log entry 35: DESIGN CHOICE, safe. -/
def spendTime (s : State) (part us : Nat) : State :=
  let g := s.gal
  if part = 0 then
    let s := { s with gal := { g with spentS := g.spentS + us } }
    if objN s 0x2800 3 ≠ 0 ∧ objN s 0x2800 3 ≤ s.gal.spentS ∧ s.gal.sOver = false then
      let s := bump { s with gal := { s.gal with sOver := true } } 0x2800 5
      logHost s (mkRec 9 15 (leBytes 2 (Config.eventCode 8).toNat ++ leBytes 4 (objN s 0x2800 5)) (part := 0))
    else s
  else if part = 1 then
    let s := { s with gal := { g with spentD := g.spentD + us } }
    if objN s 0x2800 4 ≠ 0 ∧ objN s 0x2800 4 ≤ s.gal.spentD ∧ s.gal.dDemoted = false then
      bump { s with gal := { s.gal with dDemoted := true } } 0x2800 6
    else s
  else { s with gal := { g with spentB := g.spentB + us } }

/-- A bit of GAL_ECC_STATUS is set and its object counts (R584, R585, R587). -/
def galEcc (s : State) (bit_ : Nat) : State :=
  bump { s with gal := { s.gal with eccStatus := s.gal.eccStatus ||| BitVec.ofNat 4 (2 ^ bit_) } } 0x28F0 (2 + bit_)

/-- An uncorrectable Cavern word: it is poisoned, and a verified slot that holds it becomes FAILED (R589, R642). -/
def cavernPoison (s : State) (bank word : Nat) : State :=
  let s := galEcc s 3
  let s := { s with gal := { s.gal with poison := (bank * 2 ^ 20 + word) :: s.gal.poison.filter (· ≠ bank * 2 ^ 20 + word) } }
  (List.range 4).foldl
    (fun s n =>
      let x := mslot s n
      if x.banks.toNat.testBit bank && (x.mode == .ready || x.mode == .bound || x.mode == .previous) then
        setSlot s n { x with mode := .failed, cause := 6, verified := false }
      else s) s

/-- Memory errors that a kernel met. -/
def kernelEcc (s : State) (q : Nat) (i : KernelEnd) : State :=
  let s := match i.pocket with | .corrected => galEcc s 0 | .uncorrectable => galEcc s 1 | .clean => s
  match i.cavern with
  | .corrected => galEcc s 2
  | .uncorrectable =>
    let s := drawn (cavernPoison s i.cavernBank ((freeW s).toNat % 2 ^ 20))
    if poolBank s i.cavernBank then kvLose s q else s
  | .clean => s

/-- Status that the memory errors a kernel met leave its job: none when it may go on (R588 to R590). -/
def eccStatus (i : KernelEnd) : Nat :=
  if i.pocket = .uncorrectable ∨ i.cavern = .uncorrectable ∨ i.halo = .uncorrectable then 4 else 0

/-- The job's use is counted (R613, R636, R638). -/
def addUse (j : Job) (us : Nat) (r : KernelRun) : Job :=
  { j with coreUs := j.coreUs + us, engineNs := j.engineNs + 1000 * us, cavernLines := j.cavernLines + r.cav,
           dramLines := j.dramLines + r.dram, flags := if r.sat then setBit j.flags 0 true else j.flags }

/-- Cores of a copy. -/
def copyCores (j : Job) (ci : Nat) : List Nat := groupCores (j.copies.getD ci {}).first j.group

/-- One copy of a job ends with a status (R881). -/
def endCopy (j : Job) (ci status : Nat) (c : Copy) : Job :=
  let copies := j.copies.set ci { c with mode := .ended, victim := false, status := status }
  { j with copies := copies, mode := if copies.all (fun c => c.mode == .ended) then .finished else j.mode,
           secondFirst := j.secondFirst || (decide (ci = 1) && (j.copies.getD 0 {}).mode != .ended) }

/-- A preempted copy leaves its cores; its live state is in its partition's banks (R582, R622). -/
def preemptCopy (s : State) (q : Nat) (j : Job) (ci : Nat) (c : Copy) (live : List (Nat × Nat)) : State :=
  let saved := (List.range j.group).map (fun i => live.map (fun e => (e.1, pkRead (pocketOf s c i) e.1 e.2)))
  let copies := j.copies.set ci { c with mode := .preempted, victim := false, saved := saved }
  let s := (List.range 8).foldl (fun s i => if (core' s i).busy = some (q, ci) then setCore s i { core' s i with busy := none } else s) s
  bump (setJob s q { j with mode := if copies.any (fun c => c.mode == .running) then .running else .preempted, copies := copies,
                            preemptions := (j.preemptions + 1) % 65536, flags := setBit j.flags 6 true }) 0x2802 2

/-- Jobs of B are asked to stop as for a D request (R631, R941). -/
def preemptAllB (s : State) : State :=
  (jobQueues s).foldl (fun s q => match (que s q).job with | some j => if j.part = 2 then requestPreemption s (q, 0) else s | none => s) s

/-- The queue's unit lets its job be preempted at the end of a kernel (R619). -/
def mayStopAt (s : State) (q : Nat) (k : Kernel) : Bool := k.preemptible && (k.layerEnd || !(queueSettings s q).testBit 1)

/-- A member that has reached an allowed boundary waits there for the others while its group is being preempted (R586). -/
def waitsAtBoundary (s : State) (q : Nat) (c : Copy) (code : List Kernel) (k : Nat) : Bool :=
  c.victim && decide (0 < k) && (code[k - 1]?.any (mayStopAt s q)) && c.steps.any (fun n => decide (n < k)) && c.steps.all (fun n => decide (n ≤ k))

/-- Member `j` of a copy may complete its next kernel: what neighbours send has arrived, every member has requested its multicast
loads, and it does not wait at a boundary (R571, R573, R575, R586). -/
def memberMay (s : State) (q : Nat) (c : Copy) (code : List Kernel) (g j : Nat) (kn : Kernel) : Bool :=
  let k := lget 0 c.steps j
  haloHere c code g k j && (kn.multicast.isEmpty || c.steps.all (fun n => decide (k ≤ n))) && !waitsAtBoundary s q c code k

/-- The clock of a group at a boundary that all its members share (R547, R586, R622). -/
def groupClock (s : State) (j : Job) (ci : Nat) (victim : Bool) : State :=
  (copyCores j ci).foldl (fun s k => setCore s k { core' s k with mhz := if j.part = 0 ∨ victim then 1200 else galleryMhz s }) s

/-- After member `m` has completed kernel `k`: the copy ends, its group is preempted, or it goes on (R582, R622, R631). -/
def afterKernel (s : State) (q ci : Nat) (j : Job) (c : Copy) (k : Nat) (kn : Kernel) (count status : Nat) : State :=
  if status ≠ 0 ∨ j.status ≠ 0 then setJob s q (endCopy j ci status c)
  else if c.steps.any (fun n => decide (n ≠ k + 1)) then setJob s q { j with copies := j.copies.set ci c }
  else if count ≤ k + 1 then setJob s q (endCopy j ci 0 c)
  else
    let spent := decide (j.part = 2) && (match bShare s with | some m => decide (m ≤ s.gal.spentB) | none => false)
    let c := { c with victim := c.victim || spent, heard := c.heard.filter (fun e => decide (k < e.1)) }
    let s := groupClock s j ci c.victim
    if c.victim && mayStopAt s q kn then preemptCopy s q j ci c kn.live else setJob s q { j with copies := j.copies.set ci c }

/-- Member `m` of a copy of queue `q`'s job completes its next kernel.
Log entry 35: DESIGN CHOICE, safe. -/
def boundary (s : State) (q ci m : Nat) (i : KernelEnd) : State :=
  match (que s q).job with
  | none => s
  | some j =>
    let code := jobCode s j
    match j.copies[ci]?, code[lget 0 ((j.copies.getD ci {}).steps) m]? with
    | some c, some kn =>
      let k := lget 0 c.steps m
      if c.mode ≠ .running ∨ j.group ≤ m ∨ memberMay s q c code j.group m kn = false then s
      else
        let s := kernelEcc (spendTime s j.part i.coreUs) q i
        let x : KernelCtx := { queue := q, copy := ci, job := j, kernel := k, g := j.group, j := m }
        let r := runKernel x kn { s := s, copy := c, status := eccStatus i }
        let s := r.s
        let s := if i.pocket = .uncorrectable then setCore s (c.first + m) { core' s (c.first + m) with lastPart := none } else s
        let j := addUse ((que s q).job.getD j) i.coreUs r
        afterKernel s q ci j { r.copy with steps := r.copy.steps.set m (k + 1) } k kn code.length r.status
    | _, _ => s

/-! ### The end of a job (R615, R616, R880, R881) -/

/-- Status of a job from its copies, and whether they were compared equal: both signatures and both result words (R880, R881). -/
def finalStatus (j : Job) : Nat × Bool :=
  let c := j.copies.getD 0 {}
  if j.status ≠ 0 then (j.status, false)
  else
    match j.copies[1]? with
    | none => (c.status, false)
    | some d =>
      if c.status = 0 ∧ d.status = 0 then (if c.result = d.result ∧ copySignature c = copySignature d then (0, true) else (0x0B, false))
      else if c.status = 0 then (d.status, false) else if d.status = 0 then (c.status, false)
      else (if j.secondFirst then d.status else c.status, false)

/-! ### Model slots (R640 to R643, R999) -/

/-- Banks held by the other slots and the enabled pools. -/
def heldBanks (s : State) (n : Nat) : Nat :=
  let a := ((List.range 4).filter (· ≠ n)).foldl (fun a k => a ||| (mslot s k).banks.toNat) 0
  ((List.range 4).filter (fun p => objB s (0x2A00 + p) 1)).foldl (fun a p => a ||| poolN s p 3) a

/-- The lowest free banks of a bundle's partition (R640). -/
def claimBanks (s : State) (n : Nat) (b : Bundle) : List Nat :=
  (((List.range 24).filter (fun k => (objN s 0x2801 (b.part % 3 + 1)).testBit k && !(heldBanks s n).testBit k))).take b.banks

/-- A slot that a rollback would swap back to is unloaded or overwritten: the undo record becomes invalid (R310). -/
def undoSlot (s : State) (n : Nat) : State :=
  match s.undo with
  | some l => if l.any (fun e => (e.1 == 0x2814 || e.1 == 0x2815) && leNat e.2.2 == n) then { s with undo := none } else s
  | none => s

/-- A load of slot `n` starts (R640, R642). -/
def slotLoad (s : State) (n : Nat) (b : Bundle) : State :=
  let x := mslot s n
  if (x.mode == .empty || x.mode == .ready || x.mode == .failed) && decide (x.inUse = 0) then
    let l := claimBanks (setSlot s n {}) n b
    let s := { s with gal := { s.gal with poison := s.gal.poison.filter (fun w => !l.contains (w / 2 ^ 20)) } }
    setSlot (undoSlot s n) n { mode := .loading, bundle := some b, banks := BitVec.ofNat 24 (if l.length < b.banks then 0 else maskOf l) }
  else s

/-- MBL major of the host image (R641, R999). -/
def hostMblMajor (s : State) : Nat := (runningImage s.hboot).levels.mbl.toNat / 256

/-- Cause of a load's failure, 0 none (R641, R990, R999).
Log entry 86: DEDUCED, unsafe. Log entry 152: DEDUCED, unsafe. -/
def loadCause (s : State) (x : Slot) (b : Bundle) (ecc : EccResult) : Nat :=
  if !bundleSigned s.hboot.store b || !bundleSound b then 1
  else if b.mbl.toNat / 256 ≠ hostMblMajor s then 2
  else if b.formats.toNat / 128 ≠ 0 then 3
  else if popCount x.banks.toNat 24 < b.banks then 4
  else if 524288 < b.maxLive then 5
  else if ecc = .uncorrectable then 6 else 0

/-- The bundle's body stands in the slot's banks, the lowest-numbered first (R640, R642). -/
def slotBody (s : State) (x : Slot) (b : Bundle) : State :=
  let l := bitList x.banks.toNat 24
  let c := b.body.zipIdx.foldl (fun t e => tset 0 t (lget 24 l (e.2 / 2 ^ 23) * 2 ^ 23 + e.2 % 2 ^ 23) e.1) s.gal.cavern
  { s with gal := { s.gal with cavern := c } }

/-- A copy and hash finish: READY or FAILED (R641, R642). -/
def slotLoaded (s : State) (n : Nat) (ecc : EccResult) : State :=
  let x := mslot s n
  match x.mode, x.bundle with
  | .loading, some b =>
    let s := match ecc with | .corrected => galEcc s 2 | .uncorrectable => galEcc s 3 | .clean => s
    let c := loadCause s x b ecc
    if c = 0 then setSlot (slotBody s x b) n { x with mode := .ready, cause := 0, verified := true }
    else setSlot s n { x with mode := .failed, cause := c, banks := 0, verified := false }
  | _, _ => s

/-- A set that waits for its instant names slot `n` in a binding (R642). -/
def armedNames (s : State) (n : Nat) : Bool :=
  s.sets.any (fun e => e.2.mode == .armed && e.2.entries.any (fun x => (x.1 == 0x2814 || x.1 == 0x2815) && leNat x.2.2 == n))

/-- Some client is bound to slot `n`. -/
def slotBound (s : State) (n : Nat) : Bool := (List.range 256).any (fun c => decide (clientSlot s c = n))

/-! ### The commands -/

/-- R599. -/
def execNqDoorbell (queue : Fin 4096) (value : BitVec 32) (s : State) : Out :=
  .next (if hostUp s then setReg s (nqReg queue.val 0x18) (value.toNat % 65536) else s)

/-- R597, R598, R601, R604 to R606. -/
def execDescriptorTake (queue : Fin 4096) (s : State) : Out :=
  .next (if canTake s queue.val then takeNext s queue.val else s)

/-- The limit of NQ_WAIT_MS has passed for a job that is not held (R608).
Log entry 143: DESIGN CHOICE, unsafe. -/
def waitLimitPassed (s : State) (q : Nat) (j : Job) : Bool :=
  !j.held && decide (j.countFrom + 1000000 * (reg s (nqReg q 0x34) % 65536) ≤ s.trep.time)

/-- R608: a held job's time does not count. -/
def execWaitTimeout (queue : Fin 4096) (s : State) : Out :=
  .next (match (que s queue.val).job with
    | some j =>
      if hostUp s && j.mode == .waiting && waitLimitPassed s queue.val j && (j.w0 == .open_ || j.w1 == .open_) then completeJob s queue.val 7 0 else s
    | none => s)

/-- R609. -/
def execNqRelease (queue : Fin 4096) (value : BitVec 32) (s : State) : Out :=
  .next (if hostUp s && value == 1 then jobRelease s queue.val else s)

/-- The head job ends CANCELLED if it has not been dispatched (R599). -/
def cancelHead (s : State) (q : Nat) : State :=
  match (que s q).job with
  | some j => if j.mode == .waiting || j.mode == .released then completeJob s q 0x0A 0 else s
  | none => s

/-- A write of NQ_CTRL (R599, R652, R653).
Log entry 37: DEDUCED, unsafe. -/
def queueCtrl (s : State) (q ctrl : Nat) : State :=
  let s := setReg s (nqReg q 0x10) (ctrl % 65536 / 256 * 256 + ctrl % 4)
  if !ctrl.testBit 0 then s
  else
    let l := (que s q).aborted
    let s := setQue s q { que s q with aborted := [], stopped := false }
    l.foldl (fun s j => writeRecord s q (jobOrigin q j) (recordBytes s q j 1 j.flags 0) (j.desc.flags.testBit 1)) s

/-- R599: the head job ends CANCELLED if it has not been dispatched. -/
def execNqCancel (queue : Fin 4096) (value : BitVec 32) (s : State) : Out :=
  .next (if hostUp s && value == 1 then cancelHead s queue.val else s)

/-- R652, R653: a write of NQ_CTRL; enabling first writes the pending ABORTED_BY_RESET records. -/
def execQueueEnable (queue : Fin 4096) (ctrl : BitVec 32) (s : State) : Out :=
  .next (if hostUp s then queueCtrl s queue.val ctrl.toNat else s)

/-- R620, R625 to R631. -/
def execJobDispatch (queue : Fin 4096) (s : State) : Out := .next (if hostUp s then dispatchJob s queue.val else s)

/-- R582. -/
def execKernelBoundary (queue : Fin 4096) (copy : Fin 2) (member : Fin 8) (info : KernelEnd) (s : State) : Out :=
  .next (if hostUp s then boundary s queue.val copy.val member.val info else s)

/-- R623: the victim is aborted, its cores clear Pocket, a record is written.
Log entry 35: DESIGN CHOICE, safe. Log entry 143: DESIGN CHOICE, unsafe. -/
def execPreemptionWatchdogExpiry (queue : Fin 4096) (s : State) : Out :=
  let q := queue.val
  .next (match (que s q).job with
    | some j =>
      if hostUp s && j.copies.any (fun c => c.mode == .running && c.victim && decide (c.expiry ≤ s.trep.time)) then
        let on := (List.range 8).filter (fun k => (core' s k).busy.any (fun b => b.1 == q))
        let s := on.foldl (fun s k => setCore s k { core' s k with pocket := [], lastPart := none }) s
        let s := logHost s (mkRec 9 14 (leBytes 2 (Config.eventCode 7).toNat ++ leBytes 4 q) (part := j.part) (tag := j.desc.rtag))
        stopJob s q 5
      else s
    | none => s)

/-- R615, R616, R880, R881: the job ends once its stores are accepted (R435). -/
def execJobComplete (queue : Fin 4096) (s : State) : Out :=
  let q := queue.val
  .next (match (que s q).job with
    | some j =>
      if hostUp s && j.mode == .finished && !jobStores s q j then
        let r := finalStatus j
        completeJob (setJob s q { j with flags := setBit j.flags 5 r.2 }) q r.1 (j.copies.getD 0 {}).result
      else s
    | none => s)

/-- Field time at which the frame that contains the present time began: a whole multiple of the frame length (R632). -/
def frameBegin (s : State) : Nat := s.trep.time / (1000 * objN s 0x2800 2) * (1000 * objN s 0x2800 2)

/-- R632, R635: a frame begins once its field time has come. -/
def execGalleryFrameStart (s : State) : Out :=
  .next (if hostUp s && decide (frameBegin s ≠ s.gal.frameAt) then
      { s with gal := { s.gal with spentS := 0, spentD := 0, spentB := 0, sOver := false, dDemoted := false, frameAt := frameBegin s } }
    else s)

/-- The octets of the bundle that stands at a DRAM address. -/
def dramBundleAt (s : State) (a : Nat) : List Byte :=
  let b := bundleOf (dramRead s a headerLen) []
  dramRead s a (headerLen + min b.bodyLen (b.banks * 2 ^ 23))

/-- R640: a load that the state table does not allow changes nothing (R643).
Log entry 77: DEDUCED, unsafe. -/
def execModelLoadFromDram (slot : Fin 4) (address : BitVec 64) (code : List (List Kernel)) (s : State) : Out :=
  .next (if hostUp s && engineMapped s address.toNat then slotLoad s slot.val (bundleOf (dramBundleAt s address.toNat) code) else s)

/-- R641. -/
def execModelLoadComplete (slot : Fin 4) (cavern : EccResult) (s : State) : Out :=
  .next (if hostUp s then slotLoaded s slot.val cavern else s)

/-- The state table allows an unload of slot `n` (R642). -/
def mayUnload (s : State) (n : Nat) : Bool :=
  let x := mslot s n
  (x.mode == .ready || x.mode == .previous || x.mode == .failed) && decide (x.inUse = 0) && !slotBound s n && !armedNames s n

/-- The state table allows a load of slot `n` (R642). -/
def mayLoad (s : State) (n : Nat) : Bool :=
  let x := mslot s n
  (x.mode == .empty || x.mode == .ready || x.mode == .failed) && decide (x.inUse = 0)

/-- R642, R643. -/
def execModelUnload (slot : Fin 4) (value : Byte) (s : State) : Out :=
  let n := slot.val
  .next (if hostUp s && value == 1 && mayUnload s n then setSlot (undoSlot s n) n {} else s)

/-- R591. -/
def execCavernScrub (bank : Fin 24) (word : Nat) (ecc : EccResult) (s : State) : Out :=
  .next (if !hostUp s || !s.gal.ready then s
    else match ecc with
      | .clean => s
      | .corrected => galEcc s 2
      | .uncorrectable => cavernPoison s bank.val (word % 2 ^ 20))

/-- R593. -/
def execCavernInitDone (s : State) : Out :=
  .next (if hostHw s then { s with gal := { s.gal with ready := true, poison := [], cavern := [] } } else s)

/-- R865. -/
def execBankClearDone (bank : Fin 24) (s : State) : Out :=
  let b := bank.val
  .next (if hostUp s && s.gal.clearing.getLsbD b then
      { s with gal := { s.gal with clearing := BitVec.ofNat 24 (setBit s.gal.clearing.toNat b false),
                                   cavern := s.gal.cavern.filter (fun e => e.1 / 2 ^ 23 ≠ b),
                                   poison := s.gal.poison.filter (fun w => w / 2 ^ 20 ≠ b) } }
    else s)

/-- R668, R669. -/
def execKvOpen (pool : Fin 4) (seq : Fin 8192) (s : State) : Out := .next (if hostUp s then kvOpenSeq s pool.val seq.val else s)

/-- R668, R685: the waiting jobs of the pool try again. -/
def execKvClose (pool : Fin 4) (seq : Fin 8192) (s : State) : Out :=
  .next (if hostUp s then kvRetry (kvCloseSeq s pool.val seq.val) pool.val else s)

/-- R668. -/
def execKvPin (pool : Fin 4) (seq : Fin 8192) (s : State) : Out := .next (if hostUp s then kvPinSeq s pool.val seq.val true else s)

/-- R668. -/
def execKvUnpin (pool : Fin 4) (seq : Fin 8192) (s : State) : Out := .next (if hostUp s then kvPinSeq s pool.val seq.val false else s)

/-- R668. -/
def execKvPrefetch (pool : Fin 4) (seq : Fin 8192) (s : State) : Out := .next (if hostUp s then kvPrefetchSeq s pool.val seq.val else s)

/-- R668, R685. -/
def execKvReset (pool : Fin 4) (seq : Fin 8192) (s : State) : Out :=
  .next (if hostUp s then kvRetry (kvResetSeq s pool.val seq.val) pool.val else s)

/-- R686. -/
def execKvWinDataAccess (write : Option (BitVec 64)) (s : State) : Out :=
  .next (if hostUp s then winAccess s (write.map (fun v => v.toNat)) else s)

end Sys2Proof.Machine
end

