-- ==== Sys2Proof/Machine/Loss.lean ====
section
/-! DEFINITION. Loss of a die: the host-loss reaction, sets and forwarded requests that the loss ends, and the host's view of
a lost field die. -/

namespace Sys2Proof.Machine

/-- An entry makes a host part: host-owned, a pushed host replica entry, or host PTP settings (R293). -/
def hostEntry (e : Nat × Nat × List Byte) : Bool :=
  !fieldOwned e.1 || (decide (0x2250 ≤ e.1) && decide (e.1 ≤ 0x2257)) || e.1 == 0x2281

/-- The set has a host part. -/
def StageSet.hasHostPart (x : StageSet) : Bool := x.entries.any hostEntry

/-- Stage set `i`. -/
def stg (s : State) (i : Nat) : StageSet := tget {} s.sets i

/-- Replace stage set `i`. -/
def setStg (s : State) (i : Nat) (x : StageSet) : State := { s with sets := tset {} s.sets i x }

/-- An SDO answer goes to the master while its mailbox carries CoE (R254). -/
def sdoAnswer (s : State) (i sub abort : Nat) (value : List Byte) : State :=
  if coeUp s then { s with bus := { s.bus with sdoSent := { index := i, sub := sub, abort := abort, value := value } :: s.bus.sdoSent } }
  else s

/-- A response frame of the field die (R183, R218): the object, the OP, the abort code and the data. -/
def fieldResponse (s : State) (cls tag i sub op abort : Nat) (data : List Byte) (last : Bool := true) : State :=
  ropeSend s .field (mkFrame cls 2 tag (leBytes 2 i ++ leBytes 1 sub ++ leBytes 1 op ++ leBytes 4 abort ++ data) last)

/-- The outcome of a write goes to whoever awaits it.
Log entry 54: DEDUCED, unsafe. -/
def answerWrite (s : State) (who : Asker) (i sub abort : Nat) : State :=
  match who with
  | .nobody => s
  | .master => sdoAnswer s i sub abort []
  | .frame cls tag => fieldResponse s cls tag i sub 2 abort []

/-- The awaited write of a set ends with an abort code, 0 for done (R293, R312). -/
def setAnswer (s : State) (i abort : Nat) : State :=
  let x := stg s i
  answerWrite (setStg s i { x with waiter := .nobody }) x.waiter x.waitOn.1 x.waitOn.2 abort

/-- A set enters FAILED with a rule code, an entry and a die; the host releases what it reserved, and an awaited write aborts
(R292, R293, R296, R312). -/
def failSet (s : State) (i rule entry die : Nat) : State :=
  setAnswer (bump (setStg s i { stg s i with mode := .failed, rule := rule, failEntry := entry, failDie := die, hostReserved := false,
                                             shadow := none }) 0x2100 9) i 0x08000022

/-- The set is between CHECKING and ARMED. -/
def StageSet.pendingOne (x : StageSet) : Bool :=
  x.mode == .checking || x.mode == .checked || x.mode == .arming || x.mode == .armed

/-- Sets with a host part that are CHECKING to ARMED fail with HOST_DOWN (R315, R1002). -/
def setsHostDown (s : State) : State :=
  (List.range 4).foldl (fun s i => if (stg s i).pendingOne && (stg s i).hasHostPart then failSet s i 0x0B 0xFFFF 0 else s) s

/-- Every forwarded request awaiting an answer aborts (R44, R279). -/
def forwardsAbort (s : State) : State :=
  let s := s.bus.forwards.foldl (fun s f => sdoAnswer s f.index f.sub 0x08000022 []) s
  { s with bus := { s.bus with forwards := [],
                               transfer := s.bus.transfer.filter (fun t => fieldOwned t.index) } }

/-- The field die declares the host lost (R43, R44, R211, R371): sets and forwards end, emergency 0xFF01 goes out and the
reaction of 0x3A10:02 runs on every axis (R886). -/
def hostLost (s : State) : State :=
  let s := { s with fend := { s.fend with lost := true, timing := false, awaiting := false } }
  startReaction (forwardsAbort (setsHostDown s)) (reactionOf (objN s 0x3A10 2)) 0xFF 8 (some 0xFF01) (objN s 0x3A10 2)

/-- The host die declares the field lost (R46, R213, R229, R268): pending mirror messages are reported undelivered, posted
writes abort, an interrupt is raised and link notice 0x04 is written. -/
def fieldLost (s : State) : State :=
  let s := { s with hend := { s.hend with lost := true, timing := false, awaiting := false } }
  let gone := fun (f : Frame) => isMirror f || isPosted f || isDictRequest f
  let l := s.hend.unacked.map (fun p => p.1) ++ s.hend.queue.filter gone
  let s := { s with hend := { s.hend with queue := s.hend.queue.filter (fun f => !gone f), unacked := [], resend := [] } }
  linkNotice (hostIrq (failHostFrames s l) 1) 4

/-- R43: no timing while 0x3A30:01 reads 1 (R952). -/
def execHeartbeatTimeout (s : State) : Out :=
  .next (if fieldUp s && s.fend.timing && !s.fend.lost && decide (objN s 0x3A30 1 ≠ 1) then hostLost s else s)

/-- R213. -/
def execFieldHeartbeatTimeout (s : State) : Out :=
  .next (if hostHw s && s.hend.timing && !s.hend.lost then fieldLost s else s)

/-- R958, R1042: the partner is declared lost once; after a wake beacon 0x3A30:01 becomes 2. -/
def execPartnerBootTimeout (die : Die) (s : State) : Out :=
  .next (match die with
    | .field => if fieldUp s && s.fend.awaiting && !s.fend.lost then hostLost (if objN s 0x3A30 1 = 1 then putN s 0x3A30 1 2 else s) else s
    | .host => if hostHw s && s.hend.awaiting && !s.hend.lost then fieldLost s else s)

end Sys2Proof.Machine
end

