-- ==== Sys2Proof/Machine/Reset.lean ====
section
/-! DEFINITION. What each reset reaches (R36): host-only warm, full and cold resets of the host die, resets of the field die,
the keep regions' checksum pass, and the saved values that a boot loads. -/

namespace Sys2Proof.Machine

/-! ### Saved values (R244 to R246) -/

/-- What a store holds at boot: nothing, values, or copies that all fail (R246). -/
inductive SavedRead where
  | absent
  | lost
  | values (v : List (Nat × List Byte))
  deriving DecidableEq, Repr

/-- The CRC-32 stored with a copy's values (R245).
Log entry 78: DEDUCED, safe. -/
def savedCrc (v : List (Nat × List Byte)) : BitVec 32 := crc32 (v.flatMap (fun e => leBytes 4 e.1 ++ e.2))

/-- The newest copy that passes its CRC. -/
def readSaved (x : SavedStore) : SavedRead :=
  match [x.a, x.b].filterMap id with
  | [] => .absent
  | l =>
    match (l.filter (fun c => c.crc == savedCrc c.values)).foldl (fun (a : Option SavedCopy) c =>
        some (match a with | some d => if d.order < c.order then c else d | none => c)) none with
    | some c => .values c.values
    | none => .lost

/-- Saved values go into the objects they were saved from.
Log entry 78: DEDUCED, safe. -/
def loadSaved (s : State) (v : List (Nat × List Byte)) : State := v.foldl (fun s e => putObj s (e.1 / 256) (e.1 % 256) e.2) s

/-! ### Keep regions (R421 to R429) -/

/-- Base and size of keep region `n`. -/
def keepRegion (s : State) (n : Nat) : Nat × Nat := (reg s (bKEEP + 0x20 * n), reg s (bKEEP + 0x20 * n + 8))

/-- Regions with a nonzero size. -/
def keepSet (s : State) : List Nat := (List.range 8).filter (fun n => decide ((keepRegion s n).2 ≠ 0))

/-- The setting follows R421. -/
def keepOk (s : State) : Bool :=
  let l := (keepSet s).map (keepRegion s)
  l.all (fun r => decide (r.1 % 0x200000 = 0) && decide (r.2 % 0x200000 = 0) && decide (dramBase ≤ r.1) && decide (r.1 + r.2 ≤ dramBase + dramSize s)) &&
    decide ((l.map (fun r => r.2)).foldl (· + ·) 0 ≤ 2 ^ 30) &&
    (keepSet s).all (fun n => (keepSet s).all (fun m =>
      n == m || decide ((keepRegion s n).1 + (keepRegion s n).2 ≤ (keepRegion s m).1) || decide ((keepRegion s m).1 + (keepRegion s m).2 ≤ (keepRegion s n).1)))

/-- Regions that the checksum pass covers: none of a setting that breaks R421 (R423). -/
def keepValid (s : State) : List Nat := if keepOk s then keepSet s else []

/-- Checksum of a region (R424). -/
def keepSum (s : State) (n : Nat) : Nat := (crc64 (dramRead s (keepRegion s n).1 (keepRegion s n).2)).toNat

/-- Step 4 of R425: checksums are taken, and DRAM outside the regions loses its contents (R430). -/
def keepEnter (s : State) : State :=
  let v := keepValid s
  let s := v.foldl (fun s n => setReg s (bKEEP + 0x20 * n + 0x10) (keepSum s n)) s
  let s := setReg s (bKEEP + 0x100) (maskOf v * 256)
  dramLose { s with mem := { s.mem with keepTaken := BitVec.ofNat 8 (maskOf v), selfRefresh := true } } (v.map (keepRegion s))

/-- R428: after reboot a region is valid when its checksum still matches and no uncorrectable error was found. -/
def keepLeave (s : State) (bad : List Nat) : State :=
  let v := (bitList s.mem.keepTaken.toNat 8).filter (fun n => !bad.contains n && decide (reg s (bKEEP + 0x20 * n + 0x10) = keepSum s n))
  setReg { s with mem := { s.mem with selfRefresh := false, keepTaken := 0 } } (bKEEP + 0x100) (maskOf (bitList s.mem.keepTaken.toNat 8) * 256 + maskOf v)

/-! ### The host die -/

/-- Reach of a host reset (R36, R953, R970, R972). -/
inductive Reach where
  | warm | full | wake | cold
  deriving DecidableEq, Repr

/-- Pins of the host die. -/
def pinOnHost : OutPin → Bool
  | .lpo _ => false | .hlpo _ => true | .trig _ => true | .strb _ => true

/-- Outputs and pulses of one die become inactive. -/
def dropPins (s : State) (host : Bool) : State :=
  { s with pins := s.pins.filter (fun p => pinOnHost p != host), pulses := s.pulses.filter (fun p => pinOnHost p.pin != host) }

/-- Jobs that a reset stops and the queue reports at its next enable (R592, R653).
Log entry 37: DEDUCED, unsafe. -/
def abortedOf (x : Queue) : List Job :=
  match x.job with
  | some j => if j.mode = .waiting ∨ j.mode = .released then x.aborted else x.aborted ++ [j]
  | none => x.aborted

/-- Gallery at a host reset: slots, banks and poison stay with Cavern (R592, R646, R654).
Log entry 74: DEDUCED, unsafe. -/
def galReset (g : Gallery) (r : Reach) : Gallery :=
  if r = .warm then
    { queues := (g.queues.map (fun e => (e.1, ({ seq := e.2.seq, aborted := abortedOf e.2 } : Queue)))).filter (fun e => e.2 ≠ {}),
      slots := g.slots.map (fun e => (e.1, { e.2 with inUse := 0 })), clearing := g.clearing, poison := g.poison, cavern := g.cavern, rehash := true }
  else {}

/-- The key-value unit at a host reset: pending appends are discarded and no sequence has users; a page on its way to
Sump stays in its frame (R677, R692, R693). -/
def kvReset (s : State) (r : Reach) : State :=
  if r = .warm then
    let s := s.kv.pending.foldl kvDiscardOne s
    let here := fun (e : Pte) => if e.loc = .moving then { e with loc := .cavern, sump := 0 } else e
    let idle := fun (x : Pool) => { x with seqs := x.seqs.map (fun q => (q.1, { q.2 with users := 0 })), ptes := x.ptes.map (fun t => (t.1, here t.2)) }
    { s with kv := { pools := s.kv.pools.map (fun e => (e.1, idle e.2)) } }
  else { s with kv := {} }

/-- The first 64 class-2 frames of a queue, and how many are dropped (R228). -/
def trimClass2 : Nat → List Frame → List Frame × Nat
  | _, [] => ([], 0)
  | n, f :: t =>
    if f.cls = 2 then (match n with
      | 0 => let r := trimClass2 0 t; (r.1, r.2 + 1)
      | m + 1 => let r := trimClass2 m t; (f :: r.1, r.2))
    else let r := trimClass2 n t; (f :: r.1, r.2)

/-- The link as a reset of one die leaves it: DOWN, with an exchange of levels due (R202, R993, R1050). -/
def linkReset (l : Link) : Link :=
  { l with mode := .down, width := 0, healthy := 0, tallyLock := false, attempts := 0, afresh := true, retest := true, hostAsked := false }

/-- The host die enters reset (R36, R425, R490, R543, R592, R653, R692, R729, R953, R969). What its software held is gone;
the field die sees the link go down, its sets with a host part fail and forwarded requests abort (R279, R315).
Log entry 14: DEDUCED, unsafe. Log entry 38: DESIGN CHOICE, unsafe. -/
def hostReset (s : State) (r : Reach) (cause : Nat) : State :=
  let s := if r = .warm then keepEnter { s with mem := { s.mem with stores := [] } } else dramLose s []
  let keepRegs := r == .warm || r == .wake
  let s := resetRegs s (fun a => keepRegs && isKeepReg a)
  let s := if r = .wake then setReg s (bKEEP + 0x100) 0 else s
  let s := kvReset (forwardsAbort (setsHostDown s)) r
  let q := trimClass2 64 s.fend.queue
  let s := bump s 0x3A01 7 q.2
  let lanKept := r == .warm || r == .wake
  let s := dropPins s true
  { s with
    hobj := tkeep (fun k => lanKept && decide (0x2C00 * 256 ≤ k) && decide (k < 0x2E00 * 256)) s.hobj
    pairs := if keepRegs then s.pairs else { s.pairs with p1 := none, p2 := none }
    replica := {}, hclk := { never := if r = .warm then s.hclk.never else true, steps := s.hclk.steps }, trep := { steps := s.trep.steps }
    hend := {}, fend := { endFresh s.fend with queue := q.1 }
    link := { linkReset s.link with hostSeen := false, superseded := false, hostOutcome := 0 }
    hostSlots := [], fwdValue := none, portXfer := none, portWaits := [], fieldXfers := []
    sets := s.sets.map (fun e => (e.1, { e.2 with shadow := none, hostReserved := false }))
    mem := { cells := s.mem.cells, losses := s.mem.losses, poison := s.mem.poison, fittedGib := s.mem.fittedGib, keepTaken := if r = .warm then s.mem.keepTaken else 0, selfRefresh := decide (r = .warm) }
    streams := [], trig := [], flags := [], graphs := [], runOrder := 0, engines := []
    gal := galReset s.gal r
    lan := if lanKept then s.lan else {}
    comp := { hpd := s.comp.hpd }, hostInts := []
    saf := { s.saf with hostLog := [], hostHeld := [], seqHost := 0 }
    pwr := { s.pwr with mode := .active, level := 0, samples := [], last := [], overRun := 0, sinceChange := 100, deltaP := [], raise := none, fast := false,
                        thermal := false, failed := 0, overRecord := 10000, pendingWatch := none, wakePending := false, asker := none, rising := none,
                        energy := if r = .cold then [] else s.pwr.energy }
    hboot := { s.hboot with mode := if s.hboot.hold = 0 then .rom else .held, cause := cause, pending := none, error := 0, stage := 0, full := false,
                            cold := s.hboot.cold || decide (r ≠ .warm), aliveRun := false, limitRun := decide (s.hboot.hold = 0), debugOk := false, trial := false } }

/-- A reset source of the host die asks for a host-only warm reset; the first source before the reset is entered gives the
cause (R970, R1002). A die that is not running or is already in reset takes none. -/
def hostAsk (s : State) (cause : Nat) : State :=
  if (s.hboot.mode = .running ∨ s.hboot.mode = .rom ∨ s.hboot.mode = .recovery) ∧ s.hboot.pending.isNone then
    { s with hboot := { s.hboot with pending := some cause } }
  else s

/-! ### The field die -/

/-- Functional safety at a field-die reset: what stands in flash, on the STO inputs and at the host die stays (R894, R901,
R905). -/
def safReset (x : Safety) : Safety :=
  { ch := x.ch, flash := x.flash, hostLog := x.hostLog, hostHeld := x.hostHeld, seqHost := x.seqHost, logHalt := x.logHalt || x.halted }

/-- What stands at the inputs of the axes is no state of the die: the comparator inputs stay (R786). -/
def axisInputs (t : Tab Motion) : Tab Motion := (t.map (fun e => (e.1, ({ cmpIn := e.2.cmpIn } : Motion)))).filter (fun e => e.2 ≠ {})

/-- The field die is reset (R36, R37, R318, R373, R905): outputs inactive, every axis in torque-off, every unit at its reset
values, the link down. The host entries are held until their reload (R108); the push numbers go on, so that no earlier report
matches a later push (R1038).
Log entry 80: DEDUCED, unsafe. Log entry 111: DESIGN CHOICE, safe. -/
def fieldReset (s : State) (cause : Nat) : State :=
  let s := tallyLost (linkDown s)
  let cause := if s.saf.halted then 7 else cause
  let s := dropPins s false
  let s := holdAll { s with replica := { s.replica with held := true, validRun := 0, reloadDue := true, reloadPush := none, judgeDue := false } } .host
  { s with
    fieldXfers := [], fobj := [], pos := {}, fEntries := [], hMaster := [], tEntries := [], fclk := {}, pairs := {}, sync := {}
    fend := {}, link := { linkReset s.link with fieldSeen := false, outcome := 0, hostOutcome := 0, kept := none, after := none, rplDiffers := false, levelsDue := false, fresh := false }
    sets := (s.sets.map (fun e => (e.1, ({ shadow := e.2.shadow, exchange := e.2.exchange } : StageSet)))).filter (fun e => e.2 ≠ {}), undo := none, keptHost := []
    bus := { port0 := s.bus.port0, port1 := s.bus.port1 }
    axes := axisInputs s.axes, ctl := [], eng := {}, saf := safReset s.saf
    fboot := { s.fboot with mode := if s.fboot.hold = 0 then .rom else .held, cause := cause, pending := none, error := 0, stage := 0, debugOk := false, trial := false, askedAt := none } }

end Sys2Proof.Machine
end

