-- ==== Sys2Proof/Machine/Power.lean ====
section
/-! DEFINITION. Supplies, rails, meters, the budget governor, power states, wake sources and temperatures (chapters 20 and
22). -/

namespace Sys2Proof.Machine

/-! ### Clocks, core rails and phases (R934, R940) -/

/-- Clock of the application cores in force, MHz (R35, R940). -/
def appMhz (s : State) : Nat := if 7 ≤ s.pwr.level then 1000 else if s.pwr.level = 6 then 1600 else 2200

/-- Highest clock of the tensor cores in force, MHz: that of the governor's level, and the full clock of a core on an S job (R547,
R940, R946). -/
def npuMhz (s : State) : Nat := s.gal.cores.foldl (fun m c => if c.2.busy.isSome then max m c.2.mhz else m) (galleryMhz s)

/-- Voltage of a core rail, mV: the boot voltage until the host image runs, then the one that its clock in force takes, which no rule
states (R932, R934, R935).
Log entry 126: DESIGN CHOICE, unsafe. -/
def railMv (s : State) (npu : Bool) : Nat :=
  if !s.pwr.pgood then 0
  else if !hostUp s then 750
  else if npu then 550 + (Config.coreMv 1 (npuMhz s)).toNat % 351
  else 550 + (Config.coreMv 0 (appMhz s)).toNat % 401

/-- Active phases after a sample of the rail: of `n` phases of 7.5 A each, all but one are shed below 20 % of the rated current and all
restored above 30 % (R934).
Log entry 126: DESIGN CHOICE, unsafe. -/
def phasesAfter (n active mw mv : Nat) : Nat :=
  let rated := 7500 * n * mv
  if 100 * 1000 * mw < 20 * rated then 1 else if 30 * rated < 100 * 1000 * mw then n else active

/-- Both controllers follow a sample of domains 1 and 2 (R934, R937). -/
def shedPhases (s : State) (mw : List Nat) : State :=
  { s with pwr := { s.pwr with active0 := phasesAfter s.pwr.phases0 s.pwr.active0 (lget 0 mw 1) (railMv s false),
                               active1 := phasesAfter s.pwr.phases1 s.pwr.active1 (lget 0 mw 2) (railMv s true) } }

/-! ### Meters (R937, R938, R636) -/

/-- P_lim, mW (R939). -/
def pLim (s : State) : Nat := let p := objN s 0x3600 1; if p = 0 then 6000 else if p = 2 then 15000 else 10000

/-- Jobs that run, with their cores. -/
def runningJobs (s : State) : List (Nat × Nat) :=
  (jobQueues s).filterMap (fun q =>
    let n := ((List.range 8).filter (fun i => (core' s i).busy.any (fun b => b.1 == q))).length
    if n = 0 then none else some (q, n))

/-- Cavern lines that a queue's job has moved. -/
def movedLines (s : State) (q : Nat) : Nat := match (que s q).job with | some j => j.cavernLines | none => 0

/-- A 1 µs sample of domain 2 is divided among the running jobs by core count, and the Cavern share of a sample of domain 3, which no
rule gives, by the Cavern lines they have moved; a full-mode job counts its part (R636, R938).
Log entry 35: DESIGN CHOICE, safe. -/
def shareEnergy (s : State) (nj sram : Nat) : State :=
  let l := runningJobs s
  let cores := (l.map (fun e => e.2)).foldl (· + ·) 0
  let lines := (l.map (fun e => movedLines s e.1)).foldl (· + ·) 0
  let cav := (freeW s).toNat % (sram + 1)
  l.foldl (fun s e =>
    match (que s e.1).job with
    | some j => if j.fullAcct then setJob s e.1 { j with energyNj := j.energyNj + nj * e.2 / cores + cav * j.cavernLines / lines } else s
    | none => s) (drawn s)

/-- One sample of every domain: energy accumulates in nJ, and the last 1 ms and 10 ms are kept.
Log entry 38: DESIGN CHOICE, unsafe. -/
def meters (s : State) (mw : List Nat) : State :=
  let add := fun (p : Power) (d : Nat) =>
    { p with energy := tset 0 p.energy d ((tget 0 p.energy d + lget 0 mw d) % 2 ^ 64),
             last := tset [] p.last d ((lget 0 mw d :: tget [] p.last d).take 1000) }
  let p := (List.range 11).foldl add s.pwr
  shareEnergy { s with pwr := { p with samples := (lget 0 mw 0 :: p.samples).take 10000 } } (lget 0 mw 2) (lget 0 mw 3)

/-! ### The governor (R940 to R947) -/

/-- Sum and number of the kept samples of domain 0: their quotient is the 10 ms average.
Log entry 38: DESIGN CHOICE, unsafe. -/
def avg10 (s : State) : Nat × Nat := (s.pwr.samples.foldl (· + ·) 0, max 1 s.pwr.samples.length)

/-- The 10 ms average in whole mW. -/
def avgMw (s : State) : Nat := (avg10 s).1 / (avg10 s).2

/-- The average, or the thermal input, is above the limit (R942, R945). -/
def overLimit (s : State) : Bool := s.pwr.thermal || decide (pLim s * (avg10 s).2 < (avg10 s).1)

/-- The governor takes a level: at level 3 and above running B jobs are asked to stop (R631, R940). -/
def setLevel (s : State) (n : Nat) : State :=
  let s := { s with pwr := { s.pwr with level := n, sinceChange := 0 } }
  if 3 ≤ n then preemptAllB s else s

/-- 20 samples in a row above 1.5 × P_lim take the governor to level 3 at once (R944). -/
def fastPath (s : State) (mw0 : Nat) : State :=
  let n := if 3 * pLim s < 2 * mw0 then s.pwr.overRun + 1 else 0
  let s := { s with pwr := { s.pwr with overRun := n } }
  if 20 ≤ n ∧ s.pwr.level < 3 then
    let s := setLevel (bump s 0x3601 2) 3
    { s with pwr := { s.pwr with fast := true } }
  else s

/-- ΔP recorded for the present level; zero after the fast path (R942, R944). -/
def deltaOf (s : State) : Nat := if s.pwr.fast ∧ s.pwr.level = 3 then 0 else tget 0 s.pwr.deltaP s.pwr.level

/-- Lowest level: 3 while the meter of domain 0 has failed (R967). -/
def floorLevel (s : State) : Nat := if s.pwr.failed.getLsbD 0 then 3 else 0

/-- ΔP of the last raise, 10 ms after it (R942). -/
def recordDelta (s : State) : State :=
  match s.pwr.raise with
  | some (l, a, n) => if 100 ≤ n then { s with pwr := { s.pwr with raise := none, deltaP := tset 0 s.pwr.deltaP l (a - avgMw s) } } else s
  | none => s

/-- One 100 µs period of the governor goes by. -/
def governed (p : Power) : Power :=
  { p with sinceChange := min 100000 (p.sinceChange + 1), overRecord := min 100000 (p.overRecord + 1), raise := p.raise.map (fun r => (r.1, r.2.1, r.2.2 + 1)) }

/-- One decision of the governor (R942, R943, R947). A level change comes after the record of the ΔP that has come due. -/
def govern (s : State) : State :=
  let s := { s with pwr := governed s.pwr }
  let r := recordDelta s
  let above := overLimit s
  let a := avg10 s
  if above ∧ s.pwr.level = 7 then
    let s := bump s 0x3601 4
    if 10000 ≤ s.pwr.overRecord then
      let s := logHost s (mkRec 9 0 (leBytes 2 (Config.eventCode 6).toNat ++ leBytes 4 (objN s 0x3601 4)))
      { s with pwr := { s.pwr with overRecord := 0 } }
    else s
  else if above ∧ 100 ≤ s.pwr.sinceChange then
    let s := setLevel (bump r 0x3601 2) (s.pwr.level + 1)
    { s with pwr := { s.pwr with raise := some (s.pwr.level, avgMw s, 0) } }
  else if !above ∧ 100 ≤ s.pwr.sinceChange ∧ floorLevel s < s.pwr.level ∧ 100 * (a.1 + deltaOf r * a.2) < 95 * pLim s * a.2 then
    let s := setLevel r (s.pwr.level - 1)
    { s with pwr := { s.pwr with fast := s.pwr.fast && decide (3 ≤ s.pwr.level) } }
  else s

/-! ### Rails (R932, R935, R936) -/

/-- Every rail good. -/
def railsAll : BitVec 15 := 0x7FFF

/-- The rails of LANTERN-WATCH: VDD_AON and VDD_AONIO. -/
def railsWatch : BitVec 15 := 0x4008

/-- The host rails rise, from step 1 or at a wake from step 4, and host reset is released: the boot ROM runs (R935, R957). -/
def hostRelease (s : State) (cause : Nat) : State :=
  { s with
    pwr := { s.pwr with rails := railsAll, pgood := true, rising := some (decide (cause ≠ 8)), mode := .active, active0 := s.pwr.phases0, active1 := s.pwr.phases1 }
    hboot := { s.hboot with mode := if s.hboot.hold = 0 then .rom else .held, cause := cause, limitRun := decide (s.hboot.hold = 0) } }

/-- The host die enters reset and every rail falls (R930, R936, R966, R1030). -/
def hostFall (s : State) : State :=
  let s := hostReset s .cold 2
  { s with pwr := { s.pwr with rails := 0, pgood := false } }

/-- The host die enters OFF (R954, R965, R968). -/
def hostOff (s : State) (cause : Nat) : State :=
  let s := hostFall s
  { s with pwr := { s.pwr with mode := .off, offCause := cause, wakeBits := 0, energy := [] },
           hboot := { s.hboot with mode := .off, limitRun := false } }

/-! ### Wake (R955 to R960) -/

/-- A wake in LANTERN-WATCH: the rails rise from step 4 and the die boots with cause 0x08; the sources are recorded.
Log entry 39: DEDUCED, unsafe. -/
def wakeUp (s : State) (mask : Nat) : State :=
  let s := putN s 0x3620 2 mask
  hostRelease { s with pwr := { s.pwr with wakeBits := BitVec.ofNat 5 mask, wakePending := false } } 8

/-- The host die enters LANTERN-WATCH or OFF (R951, R953, R954, R964). -/
def enterLow (s : State) (off : Bool) : State :=
  let kept := [1, 3].map (fun k => (0x3620, k, stored s 0x3620 k))
  let pending := s.pwr.wakePending
  let mask := s.pwr.wakeBits.toNat
  if off then hostOff s 0
  else
    let s := hostReset s .wake 8
    let s := kept.foldl (fun s e => putObj s e.1 e.2.1 e.2.2) s
    let s := { s with pwr := { s.pwr with mode := .watch, rails := railsWatch, pgood := false }, hboot := { s.hboot with mode := .watch, limitRun := false } }
    if pending then wakeUp s mask else s

/-- Wake source `b` becomes true (R955, R960, R964). -/
def wakeSource (s : State) (b : Nat) : State :=
  let m := s.pwr.wakeBits.toNat ||| 2 ^ b
  if !(objN s 0x3620 1).testBit b then s
  else if s.hboot.mode = .watch then wakeUp s (2 ^ b)
  else if s.pwr.pendingWatch = some false then
    { s with pwr := { s.pwr with wakePending := true, wakeBits := BitVec.ofNat 5 (if s.pwr.wakePending then m else 2 ^ b) } }
  else if s.hboot.mode = .rom ∧ s.hboot.cause = 8 then putN { s with pwr := { s.pwr with wakeBits := BitVec.ofNat 5 m } } 0x3620 2 m
  else s

/-- A queue-enable object 0x2860 to 0x287F is true; an object that is not listed reads its default, false (R233). -/
def queueEnabled (s : State) : Bool :=
  s.hobj.any (fun e => decide (0x2860 * 256 < e.1) && decide (e.1 < 0x2880 * 256) && decide (0 < e.1 % 256) && decide (e.1 % 256 ≤ 128) &&
    (leNat e.2).testBit 0)

/-- Conditions that refuse LANTERN-WATCH, but for the wake sources (R949). -/
def watchBlocked (s : State) : Bool :=
  queueEnabled s ||
    (List.range 16).any (fun i => objB s (0x2410 + i) 1) || (List.range 8).any (fun g => objB s (0x2600 + g) 1) ||
    (reg s bCOMP).testBit 0 || (List.range 4).any (fun i => (stg s i).pendingOne && (stg s i).hasHostPart)

/-- A request for LANTERN-WATCH or OFF is accepted and asks for consent on class 3, or changes nothing (R949 to R951, R954).
Log entry 47: DESIGN CHOICE, unsafe. -/
def askLow (s : State) (off : Bool) : State :=
  if !hostUp s || s.pwr.pendingWatch.isSome || watchBlocked s || (!off && decide (objN s 0x3620 1 % 32 = 0)) then s
  else
    ropeSend { s with pwr := { s.pwr with pendingWatch := some off, wakePending := false, wakeBits := 0 } } .host
      (mkFrame 3 1 0 (leBytes 2 0x3602 ++ [1, 2, 0, 0, 0, 0] ++ leBytes 1 (if off then 3 else 2)))

/-! ### The commands: meters and governor -/

/-- R937, R944. -/
def execMeterSample (mw : List Nat) (s : State) : Out :=
  .next (if s.pwr.mode == .off then s else fastPath (shedPhases (meters s mw) mw) (lget 0 mw 0))

/-- R942, R943, R945, R947. -/
def execGovernorTick (s : State) : Out := .next (if hostUp s then govern s else s)

/-- R942: ΔP of the new level, 10 ms after the raise. -/
def execGovernorDeltaP (s : State) : Out := .next (recordDelta s)

/-! ### The commands: power states -/

/-- A request for ACTIVE (R948, R949).
Log entry 85: DEDUCED, unsafe. -/
def askActive (s : State) : State := if hostUp s then putN { s with pwr := { s.pwr with mode := .active } } 0x3602 1 0 else s

/-- R948, R949.
Log entry 85: DEDUCED, unsafe. -/
def execPowerRequestActive (s : State) : Out := .next (askActive s)

/-- INSPECT-IDLE: composition and DisplayPort are off (R948). -/
def displayOff (s : State) : State :=
  let s := { s with comp := { s.comp with training := false, dpOut := [] } }
  setReg s (bCOMP + 0x44) (setBit (reg s (bCOMP + 0x44)) 1 false)

/-- A request for INSPECT-IDLE and whether it is met (R948, R949). Whether a hart of cluster 1 runs is not part of the state, so it is
a free value (log entry 3).
Log entry 3: DESIGN CHOICE, safe. Log entry 38: DESIGN CHOICE, unsafe. -/
def askIdle (s : State) : State × Bool :=
  if !hostUp s || (reg s bCOMP).testBit 0 then (s, false)
  else if Config.freeBool s.freeCtr then (drawn s, false)
  else (drawn (putN (displayOff { s with pwr := { s.pwr with mode := .inspectIdle } }) 0x3602 1 1), true)

/-- R948, R949.
Log entry 38: DESIGN CHOICE, unsafe. -/
def execPowerRequestInspectIdle (s : State) : Out := .next (askIdle s).1

/-- R949, R951. -/
def execPowerRequestLanternWatch (s : State) : Out := .next (askLow s false)

/-- R954. -/
def execPowerRequestOff (s : State) : Out := .next (askLow s true)

/-! ### The commands: wake -/

/-- The field die sends K28.5 training sets on lane pair 0: while the link is DOWN, and over a watch only as the field wake (R952,
R955, R956, R964). -/
def fieldBeacons (s : State) : Bool := fieldHw s && s.link.mode == .down && (decide (objN s 0x3A30 1 ≠ 1) || s.link.beacon)

/-- R955. -/
def execWakeBeacon (s : State) : Out := .next (if fieldBeacons s then wakeSource s 1 else s)

/-- R954, R955: a low level on H_WAKE_L also leaves OFF. -/
def execHWakeLLow (s : State) : Out :=
  .next (if s.hboot.mode = .off then (if s.hboot.hold = 0 then hostRelease s 2 else s) else wakeSource s 2)

/-- R955. -/
def execWakeTimerExpiry (s : State) : Out := .next (if objN s 0x3620 3 = 0 then s else wakeSource s 3)

/-- R952, R956, R958: the field die sends the beacon and waits for the host. -/
def execWakeHostCommand (value : Byte) (s : State) : Out :=
  .next (if fieldUp s && value == 1 && decide (objN s 0x3A30 1 = 1) then
      { s with fend := { s.fend with awaiting := true }, link := { s.link with beacon := true } }
    else s)

/-- R957: the host Rope end's beacon lets the field die train. -/
def execFieldBeaconDetect (s : State) : Out :=
  .next (if fieldHw s && hostHw s && s.link.mode == .down then
      { s with fend := { s.fend with awaiting := s.fend.awaiting || decide (objN s 0x3A30 1 = 1) }, link := { s.link with beacon := true } }
    else s)

/-! ### The commands: rails, sensors and temperatures -/

/-- The rails rise, this one with them: at a wake VDD_AON and VDD_AONIO are on already (R935, R957). -/
def railRises (s : State) (rail : Nat) : Bool :=
  match s.pwr.rising with
  | some whole => whole || !railsWatch.getLsbD rail
  | none => false

/-- R965: one retry, then OFF with cause 1. -/
def execRailPowerGoodFailure (rail : Fin 15) (s : State) : Out :=
  .next (if !railRises s rail.val then s
    else if s.pwr.pgFails = 0 then { s with pwr := { s.pwr with pgFails := 1 } }
    else let s := hostOff s 1; { s with pwr := { s.pwr with pgFails := 0 } })

/-- R966. -/
def execRailPowerGoodLoss (rail : Fin 15) (s : State) : Out :=
  .next (if (s.pwr.mode = .active ∨ s.pwr.mode = .inspectIdle) ∧ s.pwr.pgood ∧ s.pwr.rails.getLsbD rail.val then
      let s := { s with hboot := { s.hboot with hold := setBit s.hboot.hold 0 true } }
      hostFall s
    else s)

/-- R967. -/
def execMeterSenseFailure (domain : Fin 11) (s : State) : Out :=
  .next (if s.pwr.mode == .off then s
    else
      let s := { s with pwr := { s.pwr with failed := s.pwr.failed ||| BitVec.twoPow 11 domain.val } }
      if domain.val = 0 ∧ s.pwr.level < 3 then setLevel (bump s 0x3601 2) 3 else s)

/-- R945, R968, R1024. -/
def execHostTempSample (tenths : Int) (s : State) : Out :=
  .next (if s.pwr.mode == .off then s
    else
      let th := decide (gradeMax s - 50 < tenths) || (s.pwr.thermal && !decide (tenths < gradeMax s - 100))
      let s := putI { s with pwr := { s.pwr with temp := tenths, thermal := th } } 0x3621 1 tenths
      if gradeMax s + 100 < tenths then hostOff s 2 else s)

/-- R1024 to R1027.
Log entry 43: DEDUCED, safe. -/
def execFieldTempSample (tenths : Int) (s : State) : Out :=
  .next (if !fieldHw s then s
    else
      let s := errorBit (putI s 0x3A50 1 tenths) 3 (decide (gradeMax s - 50 < tenths))
      if gradeMax s + 100 < tenths ∧ s.saf.tempSto = false then
        let d := ofSigned 32 tenths
        let s := stoAll { s with saf := { s.saf with tempSto := true } }
        logField (emcy s 0x4210 0xFF d) (mkRec 9 0 (leBytes 2 (Config.eventCode 4).toNat ++ leBytes 4 d) (reaction := 5))
      else s)

end Sys2Proof.Machine
end

