-- ==== Sys2Proof/Machine/Isp.lean ====
section
/-! DEFINITION. The image signal processor (R448, R465 to R468): the samples of a received line, the stages, and the planes of an
output. A frame is a list of rows of pixels, and a pixel the list of its channels, one for mono and RAW, else three. -/

namespace Sys2Proof.Machine

/-- Samples of a RAW line, right-aligned (CSI-2 packing; R448, R468).
Log entry 50: DEDUCED, unsafe. -/
def rawSamples (dt : Nat) : List Byte → List Nat
  | a :: b :: c :: d :: e :: f :: g :: t =>
    if dt = 0x2B then
      [a.toNat * 4 + e.toNat % 4, b.toNat * 4 + e.toNat / 4 % 4, c.toNat * 4 + e.toNat / 16 % 4, d.toNat * 4 + e.toNat / 64] ++ rawSamples dt (f :: g :: t)
    else if dt = 0x2C then [a.toNat * 16 + c.toNat % 16, b.toNat * 16 + c.toNat / 16] ++ rawSamples dt (d :: e :: f :: g :: t)
    else if dt = 0x2D then
      [a.toNat * 64 + e.toNat % 64, b.toNat * 64 + e.toNat / 64 + f.toNat % 16 * 4, c.toNat * 64 + f.toNat / 16 + g.toNat % 4 * 16, d.toNat * 64 + g.toNat / 4] ++ rawSamples dt t
    else a.toNat :: rawSamples dt (b :: c :: d :: e :: f :: g :: t)
  | [a, b, c, d, e] =>
    if dt = 0x2B then [a.toNat * 4 + e.toNat % 4, b.toNat * 4 + e.toNat / 4 % 4, c.toNat * 4 + e.toNat / 16 % 4, d.toNat * 4 + e.toNat / 64]
    else if dt = 0x2C then [a.toNat * 16 + c.toNat % 16, b.toNat * 16 + c.toNat / 16]
    else if dt = 0x2A then [a.toNat, b.toNat, c.toNat, d.toNat, e.toNat] else []
  | [a, b, c] => if dt = 0x2C then [a.toNat * 16 + c.toNat % 16, b.toNat * 16 + c.toNat / 16] else if dt = 0x2A then [a.toNat, b.toNat, c.toNat] else []
  | [a, b, c, d, e, f] =>
    if dt = 0x2C then [a.toNat * 16 + c.toNat % 16, b.toNat * 16 + c.toNat / 16, d.toNat * 16 + f.toNat % 16, e.toNat * 16 + f.toNat / 16]
    else if dt = 0x2A then [a, b, c, d, e, f].map (fun x => x.toNat) else []
  | l => if dt = 0x2A then l.map (fun x => x.toNat) else []

/-- Planes of a format: octets of one line and lines (R468, R472). -/
def planesOf (fmt w h : Nat) : List (Nat × Nat) :=
  if fmt = 1 then [(w, h)] else if fmt = 3 then [(3 * w, h)] else if fmt = 4 then [(w, h), (w, h), (w, h)]
  else if fmt = 5 then [(w, h), (w, h / 2)] else [(2 * w, h)]

/-! ### Arithmetic -/

/-- A quotient of whole numbers, rounded as the part rounds: down or up, which no rule states (R465).
Log entry 156: DESIGN CHOICE, safe. -/
def ispQuot (stage num den : Nat) : Nat := num / den + (if num % den ≠ 0 ∧ Config.ispRound stage num den = true then 1 else 0)

/-- A value held to 16 bits. -/
def sat16 (v : Nat) : Nat := min v 65535

/-- Word `k` of 16 bits of a parameter. -/
def parWord (v k : Nat) : Nat := v / 2 ^ (16 * k) % 65536

/-- Every pixel of an image, with its place. -/
def mapPixels (g : Nat → Nat → List Nat → List Nat) (m : List (List (List Nat))) : List (List (List Nat)) :=
  (m.zipIdx).map (fun r => (r.1.zipIdx).map (fun p => g r.2 p.2 p.1))

/-- Channel `c` of the pixel at row `y` and column `x`; what stands for a place outside the frame is open.
Log entry 156: DESIGN CHOICE, safe. -/
def ispPixel (m : List (List (List Nat))) (c : Nat) (y x : Int) : Nat :=
  if y < 0 ∨ x < 0 then (Config.outsidePixel m c y x).toNat
  else
    match (m[y.toNat]?).bind (fun r => r[x.toNat]?) with
    | some p => lget 0 p c
    | none => (Config.outsidePixel m c y x).toNat

/-- The 5 × 5 values about a place. -/
def window5 (m : List (List (List Nat))) (c y x : Nat) : List Nat :=
  ([-2, -1, 0, 1, 2] : List Int).flatMap (fun j => ([-2, -1, 0, 1, 2] : List Int).map (fun i => ispPixel m c (y + j) (x + i)))

/-! ### The stages (R465) -/

/-- Which of the four words of a per-channel parameter belongs to a place of the CFA tile, an order that no rule states.
Log entry 156: DESIGN CHOICE, safe. -/
def cfaWord (cfa y x : Nat) : Nat := (Config.cfaOrder cfa (y % 2 * 2 + x % 2)).toNat

/-- Black level: the offset is subtracted and the result held at 0. -/
def blackLevel (cfa offsets : Nat) (m : List (List (List Nat))) : List (List (List Nat)) :=
  mapPixels (fun y x p => p.map (fun v => v - parWord offsets (cfaWord cfa y x))) m

/-- The median of eight values: between the fourth and the fifth.
Log entry 156: DESIGN CHOICE, safe. -/
def median8 (l : List Nat) : Nat :=
  let o := l.mergeSort (· ≤ ·)
  let a := lget 0 o 3
  let b := lget 0 o 4
  max a (min b (Config.between a b).toNat)

/-- Defective pixel: one that differs from the median of its 8 same-colour neighbours by more than the threshold takes the
median; same colour means the same place of the CFA tile.
Log entry 29: DESIGN CHOICE, unsafe. -/
def defectivePixel (cfa threshold : Nat) (m : List (List (List Nat))) : List (List (List Nat)) :=
  if threshold = 0 then m
  else
    let d : Int := if cfa = 0 then 1 else 2
    mapPixels (fun y x p => p.map (fun v =>
      let near := [(-d, -d), (-d, 0), (-d, d), (0, -d), (0, d), (d, -d), (d, 0), (d, d)].map (fun o => ispPixel m 0 (y + o.1) (x + o.2))
      let k := median8 near
      if threshold < max v k - min v k then k else v)) m

/-- Weight and cell of a place along one side of the 17-point grid: cell, and distance from its first point of `n - 1`. -/
def gridCell (n k : Nat) : Nat × Nat := if n ≤ 1 then (0, 0) else (min 15 (16 * k / (n - 1)), 16 * k - min 15 (16 * k / (n - 1)) * (n - 1))

/-- Lens shading: the gain interpolated on the 17 × 17 grid, whose first and last points stand on the frame's first and last
pixels, row by row with the four CFA channels innermost.
Log entry 29: DESIGN CHOICE, unsafe. -/
def lensShading (cfa grid width height : Nat) (m : List (List (List Nat))) : List (List (List Nat)) :=
  let w := max 1 (width - 1)
  let h := max 1 (height - 1)
  mapPixels (fun y x p => p.map (fun v =>
    let i := gridCell height y
    let j := gridCell width x
    let g := fun a b => parWord grid (((i.1 + a) * 17 + j.1 + b) * 4 + cfaWord cfa y x)
    let gain := (g 0 0 * (w - j.2) + g 0 1 * j.2) * (h - i.2) + (g 1 0 * (w - j.2) + g 1 1 * j.2) * i.2
    sat16 (ispQuot 2 (v * gain) (4096 * w * h)))) m

/-- Demosaic: an edge-directed function of the 5 × 5 samples about the pixel, which no rule gives; mono passes unchanged.
Log entry 156: DESIGN CHOICE, safe. -/
def demosaic (cfa : Nat) (m : List (List (List Nat))) : List (List (List Nat)) :=
  if cfa = 0 then m
  else
    mapPixels (fun y x _ =>
      let v := (Config.demosaic cfa (y % 2 * 2 + x % 2) (window5 m 0 y x)).toNat
      [parWord v 0, parWord v 1, parWord v 2]) m

/-- White balance: a gain for each channel; which of the four words a channel takes is open.
Log entry 156: DESIGN CHOICE, safe. -/
def whiteBalance (gains : Nat) (m : List (List (List Nat))) : List (List (List Nat)) :=
  mapPixels (fun _ _ p => (p.zipIdx).map (fun v =>
    sat16 (ispQuot 4 (v.1 * parWord gains (Config.balanceWord (if p.length = 1 then 3 else v.2)).toNat) 4096))) m

/-- A 16-bit word as a signed number. -/
def signed16 (v : Nat) : Int := if v % 65536 < 32768 then (v % 65536 : Int) else (v % 65536 : Int) - 65536

/-- Colour matrix: 3 × 3 and an offset on RGB, held to 16 bits.
Log entry 156: DESIGN CHOICE, safe. -/
def colourMatrix (par : Nat) (m : List (List (List Nat))) : List (List (List Nat)) :=
  mapPixels (fun _ _ p =>
    if p.length ≠ 3 then p
    else (List.range 3).map (fun c =>
      let sum : Int := ((List.range 3).map (fun k => signed16 (parWord par (3 * c + k)) * (lget 0 p k : Int))).foldl (· + ·) 0
      let q := sum.fdiv 4096 + (if sum % 4096 ≠ 0 ∧ Config.ispRound 5 sum.toNat sum.natAbs = true then 1 else 0) + signed16 (parWord par (9 + c))
      sat16 q.toNat)) m

/-- Tone: the 257-point curve, linearly interpolated, on every channel. -/
def toneCurve (curve : Nat) (m : List (List (List Nat))) : List (List (List Nat)) :=
  mapPixels (fun _ _ p => p.map (fun v =>
    let k := v / 256
    sat16 (ispQuot 6 (parWord curve k * (256 - v % 256) + parWord curve (k + 1) * (v % 256)) 256))) m

/-- Noise reduction: an edge-preserving function of the 5 × 5 values about the pixel, which no rule gives; strength 0 disables it.
Log entry 156: DESIGN CHOICE, safe. -/
def noiseReduction (strength : Nat) (m : List (List (List Nat))) : List (List (List Nat)) :=
  if strength = 0 then m
  else mapPixels (fun y x p => (List.range p.length).map (fun c => (Config.noiseReduce strength (window5 m c y x)).toNat)) m

/-! ### A frame through the stages (R448, R465, R466, R470) -/

/-- A sample width of a RAW type. -/
def rawBits (dt : Nat) : Nat := if dt = 0x2B then 10 else if dt = 0x2C then 12 else if dt = 0x2D then 14 else 8

/-- The type enters at the tone stage (R448). -/
def entersAtTone (dt : Nat) : Bool := dt == 0x1E || dt == 0x24

/-- Pixels of a YUV422 line, in the order U Y V Y (log entry 50).
Log entry 50: DEDUCED, unsafe. -/
def yuvPixels : List Byte → List (List Nat)
  | u :: y0 :: v :: y1 :: t => [y0.toNat, u.toNat, v.toNat] :: [y1.toNat, u.toNat, v.toNat] :: yuvPixels t
  | _ => []

/-- Pixels of an RGB888 line, in the order B G R (log entry 50).
Log entry 50: DEDUCED, unsafe. -/
def rgbPixels : List Byte → List (List Nat)
  | b :: g :: r :: t => [r.toNat, g.toNat, b.toNat] :: rgbPixels t
  | _ => []

/-- The unprocessed samples of a line, right-aligned. -/
def linePixels (dt : Nat) (data : List Byte) : List (List Nat) :=
  if dt = 0x1E then yuvPixels data else if dt = 0x24 then rgbPixels data else (rawSamples dt data).map (fun v => [v])

/-- Samples as the pipe takes them: left-aligned in 16 bits, as the upper 8 bits of Y8 need (R468).
Log entry 29: DESIGN CHOICE, unsafe. -/
def toSixteen (dt : Nat) (m : List (List (List Nat))) : List (List (List Nat)) :=
  mapPixels (fun _ _ p => p.map (fun v => v * 2 ^ (16 - rawBits dt) % 65536)) m

/-- The stages of R465 in table order, each passed over where its bypass bit is set or it stands before the type's entry. -/
def ispStages (par : Nat → Nat → Nat) (m : List (List (List Nat))) : List (List (List Nat)) :=
  let dt := par 0x2410 4
  let cfa := par 0x2410 0x0D
  let on := fun (k : Nat) (g : List (List (List Nat)) → List (List (List Nat))) (m : List (List (List Nat))) =>
    if (par 0x2430 8).testBit k ∨ (entersAtTone dt = true ∧ k < 5) then m else g m
  let m := on 0 (blackLevel cfa (par 0x2430 1)) (toSixteen dt m)
  let m := on 1 (defectivePixel cfa (par 0x2430 2)) m
  let m := on 2 (lensShading cfa (par 0x2430 3) (par 0x2410 5) (par 0x2410 6)) m
  let m := if entersAtTone dt then m else demosaic cfa m
  let m := on 3 (whiteBalance (par 0x2430 4)) m
  let m := on 4 (colourMatrix (par 0x2430 5)) m
  let m := on 5 (toneCurve (par 0x2430 6)) m
  on 6 (noiseReduction (par 0x2430 7)) m

/-- Crop of an image. -/
def cropImage (x y w h : Nat) (m : List (List (List Nat))) : List (List (List Nat)) := ((m.drop y).take h).map (fun r => (r.drop x).take w)

/-- Averages of `dv` × `dh` pixels; rows not yet whole are left out. -/
def decimateImage (dh dv : Nat) (m : List (List (List Nat))) : List (List (List Nat)) :=
  (List.range (m.length / dv)).map (fun y =>
    (List.range ((m.headD []).length / dh)).map (fun x =>
      let block := ((m.drop (y * dv)).take dv).flatMap (fun r => (r.drop (x * dh)).take dh)
      (List.range ((block.headD []).length)).map (fun c => ispQuot 8 ((block.map (fun p => lget 0 p c)).foldl (· + ·) 0) (dh * dv))))

/-- Luma of a pixel on 16 bits; of RGB by BT.601, whose rounding no rule states (R468).
Log entry 156: DESIGN CHOICE, safe. -/
def lumaOf (yuv : Bool) (p : List Nat) : Nat :=
  if yuv || decide (p.length ≠ 3) then lget 0 p 0
  else oneOf (nextTo (lumaQ (lget 0 p 0) (lget 0 p 1) (lget 0 p 2))) (Config.luma16 (lget 0 p 0) (lget 0 p 1) (lget 0 p 2)).toNat

/-- R, G and B of a pixel on 8 bits.
Log entry 156: DESIGN CHOICE, safe. -/
def rgb8 (yuv : Bool) (p : List Nat) : List Nat :=
  if p.length ≠ 3 then List.replicate 3 (lget 0 p 0 / 256)
  else if yuv then
    let e := fun (k : Nat) => lget 0 p k / 256
    let v := bt601Rgb (Config.yuvRgb (e 0) (e 1) (e 2)) (e 0) (e 1) (e 2)
    [v.1, v.2.1, v.2.2]
  else p.map (· / 256)

/-- Y, U and V of a pixel on 8 bits, BT.601 full range.
Log entry 156: DESIGN CHOICE, safe. -/
def yuv8 (yuv : Bool) (p : List Nat) : List Nat :=
  if p.length ≠ 3 then [lget 0 p 0 / 256, 128, 128]
  else if yuv then p.map (· / 256)
  else
    let v := (Config.rgbYuv (lget 0 p 0) (lget 0 p 1) (lget 0 p 2)).toNat
    let q := chromaQ 256 (lget 0 p 0) (lget 0 p 1) (lget 0 p 2)
    [lumaOf yuv p / 256, oneOf (nextTo q.1) (v / 256 % 256), oneOf (nextTo q.2) (v / 65536 % 256)]

/-- Octets of the planes of an image in a format (R468). -/
def formatPlanes (yuv : Bool) (fmt : Nat) (m : List (List (List Nat))) : List (List (List Byte)) :=
  let each := fun (g : List Nat → List Byte) => m.map (fun r => r.flatMap g)
  match fmt with
  | 1 => [each (fun p => leBytes 1 (lumaOf yuv p / 256))]
  | 2 => [each (fun p => leBytes 2 (lumaOf yuv p))]
  | 3 => [each (fun p => (rgb8 yuv p).flatMap (leBytes 1))]
  | 4 => (List.range 3).map (fun k => each (fun p => leBytes 1 (lget 0 (yuv8 yuv p) k)))
  | 5 =>
    let chroma := decimateImage 2 2 (m.map (fun r => r.map (fun p => (yuv8 yuv p).drop 1)))
    [each (fun p => leBytes 1 (lget 0 (yuv8 yuv p) 0)), chroma.map (fun r => r.flatMap (fun p => p.flatMap (leBytes 1)))]
  | _ => [each (fun p => leBytes 2 (lget 0 p 0))]

/-- The planes of an output whose settings stand from object `o` on: RAW16 takes the unprocessed samples, every other format the
processed pixels (R466 to R468). -/
def ispOutput (par : Nat → Nat → Nat) (o : Nat) (lines : List (List Byte)) : List (List (List Byte)) :=
  let dt := par 0x2410 4
  let raw := lines.map (linePixels dt)
  let m := if par o 2 = 0 then raw else ispStages par raw
  let dec := par o 7
  formatPlanes (dt == 0x1E) (par o 2) (decimateImage (2 ^ (dec % 4)) (2 ^ (dec / 4 % 4)) (cropImage (par o 3) (par o 4) (par o 5) (par o 6) m))

end Sys2Proof.Machine
end

