-- ==== Sys2Proof/Machine/Cameras.lean ====
section
/-! DEFINITION. Cameras, the ISP's outputs and frame records (chapter 09). -/

namespace Sys2Proof.Machine

/-! ### Ports and streams (R446 to R456) -/

/-- Data types the front end accepts (R448). -/
def csiTypes : List Nat := [0x12, 0x1E, 0x24, 0x2A, 0x2B, 0x2C, 0x2D]

/-- Port `p` carries images: enabled, and not port 3 in event mode (R451). -/
def portImages (s : State) (p : Nat) : Bool := hostUp s && objB s (0x2400 + p) 1 && !(p == 3 && decide (objN s 0x2403 5 = 1))

/-- A bit of the port status (0x2400 + p:07). -/
def portBit (s : State) (p i : Nat) : State := putN s (0x2400 + p) 7 (setBit (objN s (0x2400 + p) 7) i true)

/-- Control register of a stream's record ring (R480). -/
def recCtrl (s : State) (i : Nat) : Nat := reg s (bCAM + 0x100 * i + 8)

/-- Streams that capture from a port and virtual channel (R453, R456). -/
def streamsOf (s : State) (p vc : Nat) : List Nat :=
  (List.range 16).filter (fun i => objB s (0x2410 + i) 1 && decide (objN s (0x2410 + i) 2 = p) && decide (objN s (0x2410 + i) 3 = vc))

/-- A setting of an open frame (R470). -/
def parN (f : OpenFrame) (obj sub : Nat) : Nat := tget 0 f.par (obj * 256 + sub)

/-- Streams with an open frame on a port and virtual channel, by the values that the frame started with (R307, R487). -/
def openOn (s : State) (p vc : Nat) : List Nat :=
  (List.range 16).filter (fun i => (stm s i).frame.any (fun f => decide (parN f 0x2410 2 = p) && decide (parN f 0x2410 3 = vc)))

/-- Port `p` delivers packets of a frame that is open, whatever has been set since (R307, R487). -/
def portOpen (s : State) (p : Nat) : Bool :=
  portImages s p || (hostUp s && (List.range 16).any (fun i => (stm s i).frame.any (fun f => decide (parN f 0x2410 2 = p))))

/-! ### Stamps (R457 to R463) -/

/-- The stamp of an untriggered frame: the frame start moved back by the offset, the position along the replica's velocity
(R462).
Log entry 29: DESIGN CHOICE, unsafe. -/
def frameStartStamp (s : State) (i : Nat) : Stamp :=
  let off := objI s (0x2410 + i) 0x0A
  let st := stampNow s 0 true
  let back := (fRat s.replica.v * 256 * (off : Rat) / 1000000000).floor
  { st with position := wrap56 (st.position - back), time := ((st.time : Int) - off).toNat }

/-- The stamp of a frame without a pending stamp (R461). -/
def missingStamp (s : State) : Stamp := { stampNow s 0 false with noStamp := true, invalid := true }

/-- The oldest pending stamp of trigger `n` inside the match window of stream `i`; older ones are missed exposures (R460).
Answers the FIFO with the stream's uses marked, how many were missed, and the stamp. A stamp whose exposure start has not come for
the stream gives the replica's position and time at the frame start.
Log entry 140: DESIGN CHOICE, unsafe. -/
def matchStamp (s : State) (i window : Nat) : List PendingStamp → List PendingStamp × Nat × Option (Stamp × Tab Nat)
  | [] => ([], 0, none)
  | p :: t =>
    if p.used.contains i then
      let r := matchStamp s i window t
      (p :: r.1, r.2.1, r.2.2)
    else
      let q := { p with used := i :: p.used }
      if s.trep.time < p.edge + window then
        let st := ((p.taken.find? (fun e => e.1 = i)).map (fun e => e.2)).getD (stampNow s p.tag false)
        let par := ((p.pars.find? (fun e => e.1 = i)).map (fun e => e.2)).getD (camPar s i)
        (q :: t, 0, some (st, par))
      else
        let r := matchStamp s i window t
        (q :: r.1, r.2.1 + 1, r.2.2)

/-- The stamp and settings of a frame that starts on stream `i` (R460 to R462, R470). -/
def frameStamp (s : State) (i : Nat) : State × Stamp × Tab Nat :=
  let n := objN s (0x2410 + i) 7
  if n = 0xFF then (s, frameStartStamp s i, camPar s i)
  else
    let r := matchStamp s i (objN s (0x2410 + i) 9 * 1000) (tget [] s.trig n)
    let fifo := r.1.filter (fun p => (boundTo s n).any (fun k => !p.used.contains k))
    let s := bump { s with trig := tset [] s.trig n fifo } (0x2490 + i) 8 r.2.1
    match r.2.2 with
    | some (st, par) => (s, st, par)
    | none => (bump s (0x2490 + i) 7, missingStamp s, camPar s i)

/-! ### Outputs (R466 to R479) -/

/-- The record of the frame that last filled a DRAM buffer has been consumed (R479). -/
def dramConsumed (s : State) (i : Nat) (e : Nat × Option Nat) : Bool :=
  match e.2 with
  | some c => decide ((reg s (bCAM + 0x100 * i + 0x0C) + 65536 - c) % 65536 < 32768)
  | none => false

/-- DRAM buffer `k` may be filled. -/
def dramReady (s : State) (i k mode : Nat) : Bool :=
  decide (mode = 1) || (stm s i).dramHeld.all (fun e => decide (e.1 ≠ k) || dramConsumed s i e)

/-- The next Grotto buffer enters FILLING with its flag clear, or the output is dropped (R475, R476, R487). -/
def takeBuffer (s : State) (i : Nat) (par : Tab Nat) : State × Option Nat × Bool :=
  if tget 0 par (0x2450 * 256 + 1) = 0 then (s, none, false)
  else
    let b := (stm s i).nextBuf % max 1 (tget 0 par (0x2450 * 256 + 0x0A))
    let f := tget 0 par (0x2450 * 256 + 0x0B) + b
    if (flag s f).mode = .free then
      let s := setFlag s f { flag s f with set := false, mode := .filling, stamp := none }
      (setStm s i { stm s i with nextBuf := (b + 1) % max 1 (tget 0 par (0x2450 * 256 + 0x0A)) }, some b, false)
    else (bump s (0x2490 + i) 2, none, true)

/-- The next DRAM buffer is taken, or the output is dropped (R479, R487). -/
def takeDram (s : State) (i : Nat) (par : Tab Nat) : State × Option Nat × Bool :=
  if tget 0 par (0x2470 * 256 + 1) = 0 then (s, none, false)
  else
    let n := max 1 (tget 0 par (0x2470 * 256 + 0x0B))
    let k := (stm s i).nextDram % n
    if dramReady s i k (tget 0 par (0x2470 * 256 + 0x0C)) then
      let x := stm s i
      (setStm s i { x with nextDram := (k + 1) % n, dramHeld := (x.dramHeld.filter (fun e => e.1 ≠ k)) ++ [(k, none)] }, some k, false)
    else (bump s (0x2490 + i) 3, none, true)

/-- The originator of a stream's stores: the partition of its frame graph, or B (R478). -/
def camOrigin (s : State) (i g : Nat) : Origin :=
  { agent := .camera, tag := if g < 8 then partTag (graphField s g 2 1) else .b, client := i, queue := 0xFFFF, unit := (stm s i).seq }

/-- Lines of the planes of an output before plane `k`. -/
def planeTop (f : OpenFrame) (o k : Nat) : Nat :=
  (((planesOf (parN f o 2) 0 (parN f o 6 / 2 ^ (parN f o 7 / 4 % 4))).take k).map (fun p => p.2)).foldl (· + ·) 0

/-- The planes of an output, whose settings stand from object `o` on, are written row by row: `put` takes plane, row and octets. -/
def writePlanes (s : State) (f : OpenFrame) (o : Nat) (put : State → Nat → Nat → List Byte → State) : State :=
  ((ispOutput (fun obj sub => parN f obj sub) o f.image).zipIdx).foldl
    (fun s p => (p.1.zipIdx).foldl (fun s r => put s p.2 r.2 r.1) s) s

/-- The image goes to the DRAM output (R466, R478). -/
def dramImage (s : State) (i : Nat) (f : OpenFrame) : State :=
  match f.dram with
  | none => s
  | some k =>
    let o := 0x2470
    writePlanes s f o (fun s p r b =>
      (engStore s (camOrigin s i (parN f 0x2410 0x0B)) (parN f o 8 + k * parN f o 9 + (planeTop f o p + r) * parN f o 0x0A) b).1)

/-- A line length rounded up to whole lines of 64 octets (R472). -/
def strideOf (n : Nat) : Nat := (n + 63) / 64 * 64

/-- First octet of buffer `b` of a stream's Grotto output: block first block + b × blocks per buffer (R471). -/
def bufferBase (f : OpenFrame) (b : Nat) : Nat := (parN f 0x2450 8 + b * parN f 0x2450 9) * 65536

/-- The image goes to the Grotto output: each plane starts where the one before it ends (R471, R472). -/
def grottoImage (s : State) (f : OpenFrame) : State :=
  match f.buffer with
  | none => s
  | some b =>
    let o := 0x2450
    writePlanes s f o (fun s p r l => grottoWrite s (bufferBase f b + (planeTop f o p + r) * strideOf l.length) l)

/-- What a Grotto buffer of a frame holds: first octet, format, width and height (R466, R471). -/
def bufferImage (f : OpenFrame) (b : Nat) : Nat × Nat × Nat × Nat :=
  let o := 0x2450
  (bufferBase f b, parN f o 2, parN f o 5 / 2 ^ (parN f o 7 % 4), parN f o 6 / 2 ^ (parN f o 7 / 4 % 4))

/-- The embedded lines follow the image lines of the DRAM output. -/
def embLines (s : State) (i : Nat) (f : OpenFrame) : State :=
  match f.dram with
  | none => s
  | some k =>
    let o := 0x2470
    let h := parN f o 6 / 2 ^ (parN f o 7 / 4 % 4)
    let rows := ((planesOf (parN f o 2) 0 h).map (fun p => p.2)).foldl (· + ·) 0
    ((List.range f.emb.length).zip f.emb).foldl
      (fun s e => (engStore s (camOrigin s i (parN f 0x2410 0x0B)) (parN f o 8 + k * parN f o 9 + (rows + e.1) * parN f o 0x0A) e.2).1) s

/-! ### Completion (R475, R482 to R484, R513, R515) -/

/-- The 32 octets of a frame record (R482). -/
def frameBytes (i : Nat) (f : OpenFrame) : List Byte :=
  let fl := setBit (setBit (setBit (setBit f.flags 5 f.stamp.noStamp) 6 f.stamp.stepped) 7 f.stamp.invalid) 8 f.stamp.fs
  leBytes 1 i ++ leBytes 1 (f.buffer.getD 0xFF) ++ leBytes 2 fl ++ leBytes 4 f.seq ++ leBytesI 8 f.stamp.position ++ leBytes 8 f.stamp.time ++
    leBytes 2 f.stamp.tag ++ [f.stamp.pstate] ++ leBytes 1 (f.dram.getD 0xFF) ++ leBytes 4 f.lines

/-- The frame's record enters the stream's ring, or is counted as dropped when the ring is full (R480, R483, R484). -/
def frameRecord (s : State) (i : Nat) (f : OpenFrame) : State :=
  let rec_ := frameBytes i f
  let s := putObj s (0x2490 + i) 0x0A rec_
  let ctrl := recCtrl s i
  let tail := reg s (bCAM + 0x100 * i + 0x10)
  let used := (tail + 65536 - reg s (bCAM + 0x100 * i + 0x0C) % 65536) % 65536
  let mark := fun (s : State) (c : Nat) =>
    match f.dram with
    | some k => setStm s i { stm s i with dramHeld := (stm s i).dramHeld.map (fun e => if e.1 = k then (k, some c) else e) }
    | none => s
  if ringOn ctrl && decide (used < ringSize ctrl) then
    let r := engStore s (camOrigin s i (parN f 0x2410 0x0B)) (reg s (bCAM + 0x100 * i) + 32 * (tail % ringSize ctrl)) rec_
    let s := mark (setReg r.1 (bCAM + 0x100 * i + 0x10) ((tail + 1) % 65536)) ((tail + 1) % 65536)
    if ctrl.testBit 1 then hostIrq s (0x10 + 0x100 * i) else s
  else mark (bump s (0x2490 + i) 9) tail

/-- The oldest unused VALID buffer of a stream for a graph. -/
def oldestOf (s : State) (g st : Nat) : Option (Nat × Nat) :=
  (gph s g).fresh.find? (fun p => p.1 = st && (flag s p.2).mode == .valid)

/-- Stream-frame starts of a graph: one bound stream starts at its buffer, two are paired (R513, R515). -/
def streamStart (s : State) (g : Nat) : State :=
  if !graphStarts s g 0 then s
  else
    match graphStreams s g with
    | [a] =>
      (match oldestOf s g a with
       | some x => graphRequest (useFresh s g [x]) g { source := 0, cams := [x.2] }
       | none => s)
    | [a, b] =>
      (match oldestOf s g a, oldestOf s g b with
       | some x, some y =>
         let sx := ((flag s x.2).stamp).getD (stampNow s 0 true)
         let sy := ((flag s y.2).stamp).getD (stampNow s 0 true)
         let d := wrap56 (sx.position - sy.position)
         if (graphField s g 4 4 : Int) < (if d < 0 then -d else d) then
           let old := if sy.time < sx.time then y else x
           noRun (useFresh s g [old]) g 3 [old.2]
         else graphRequest (useFresh s g [x, y]) g { source := 0, cams := [x.2, y.2] }
       | _, _ => s)
    | _ => s

/-- A published buffer is offered to the graph its stream names (R513, R530). -/
def offerBuffer (s : State) (i g f : Nat) : State :=
  if 8 ≤ g || !objB s (0x2600 + g) 1 then s
  else streamStart (setGph s g { gph s g with fresh := (gph s g).fresh ++ [(i, f)] }) g

/-- A frame is finished: the ISP's outputs of the lines received are written, its buffer is published or freed, its record written
(R465, R475, R483, R488, R489; log entry 29).
Log entry 29: DESIGN CHOICE, unsafe. -/
def finishFrame (s : State) (i : Nat) (f : OpenFrame) : State :=
  let short := f.flags.testBit 2
  let keep := !short && !(f.flags.testBit 4 && decide (parN f 0x2410 0x0C = 0))
  let s := embLines (dramImage (grottoImage s f) i f) i f
  let s := if short then bump s (0x2490 + i) 4 else if keep && (f.buffer.isSome || f.dram.isSome) then bump s (0x2490 + i) 1 else s
  let s := if f.flags.testBit 3 then bump s (0x2490 + i) 5 else s
  let s := frameRecord s i f
  match f.buffer with
  | none => s
  | some b =>
    let k := parN f 0x2450 0x0B + b
    if keep then offerBuffer (publish s k f.stamp f.seq (parN f 0x2450 0x0C) (frameBytes i f) (bufferImage f b)) i (parN f 0x2410 0x0B) k
    else setFlag s k { flag s k with mode := .free }

/-- The open frame of a stream ends, SHORT when its frame end is missing; a SHORT frame with no earlier one unfinished is
finished at once (R488). -/
def endFrame (s : State) (i : Nat) (short : Bool) : State :=
  let x := stm s i
  match x.frame with
  | none => s
  | some f =>
    let f := if short then { f with flags := setBit f.flags 2 true } else f
    if short && x.finishing.isEmpty then finishFrame (setStm s i { x with frame := none }) i f
    else setStm s i { x with frame := none, finishing := x.finishing ++ [f] }

/-- A frame opens on stream `i` (R454, R460 to R462, R475, R479). -/
def openFrame (s : State) (i : Nat) : State :=
  if !ringOn (recCtrl s i) then s
  else
    let s := endFrame s i true
    let r := frameStamp s i
    let b := takeBuffer r.1 i r.2.2
    let d := takeDram b.1 i r.2.2
    let x := stm d.1 i
    setStm d.1 i { x with seq := wrap32 (x.seq + 1),
                          frame := some { stamp := r.2.1, buffer := b.2.1, dram := d.2.1, flags := b2n b.2.2 + 2 * b2n d.2.2, lines := 0, par := r.2.2, seq := x.seq } }

/-- A long packet of stream `i` (R448, R487, R489). -/
def lineOf (s : State) (i dt : Nat) (corrected crcOk : Bool) (data : List Byte) : State :=
  match (stm s i).frame with
  | none => s
  | some f =>
    let f := if corrected then { f with flags := setBit f.flags 9 true } else f
    let f := if crcOk then f else { f with flags := setBit f.flags 4 true }
    let s := if crcOk then s else bump s (0x2490 + i) 6
    if dt = 0x12 then setStm s i { stm s i with frame := some { f with emb := f.emb ++ [data] } }
    else if dt ≠ parN f 0x2410 4 then s
    else if parN f 0x2410 6 ≤ f.lines then setStm s i { stm s i with frame := some { f with flags := setBit f.flags 3 true } }
    else
      setStm s i { stm s i with frame := some { f with lines := f.lines + 1, image := f.image ++ [data] } }

/-! ### The commands -/

/-- R454, R487, R488: a frame-start packet ends open frames of its streams SHORT, and opens one on each enabled stream. -/
def execCsiFrameStart (port : Fin 4) (vc : Fin 16) (s : State) : Out :=
  .next (if !portOpen s port.val then s
    else
      let s := portBit s port.val 0
      if 3 < vc.val then portBit s port.val 3
      else
        let s := (openOn s port.val vc.val).foldl (fun s i => endFrame s i true) s
        if portImages s port.val then (streamsOf s port.val vc.val).foldl openFrame s else s)

/-- R448, R452: a long packet. -/
def execCsiLinePacket (port : Fin 4) (vc : Fin 16) (dataType : Byte) (header : EccResult) (crcOk : Bool) (data : List Byte) (s : State) : Out :=
  .next (if !portOpen s port.val then s
    else
      let s := portBit s port.val 0
      if 3 < vc.val || decide (header = .uncorrectable) || !csiTypes.contains dataType.toNat then portBit s port.val 3
      else (openOn s port.val vc.val).foldl (fun s i => lineOf s i dataType.toNat (decide (header = .corrected)) crcOk data) s)

/-- R454: a frame-end packet. -/
def execCsiFrameEnd (port : Fin 4) (vc : Fin 16) (s : State) : Out :=
  .next (if !portOpen s port.val then s
    else if 3 < vc.val then portBit s port.val 3
    else (openOn s port.val vc.val).foldl (fun s i => endFrame s i false) s)

/-- R450. -/
def execCsiDeskewDone (port : Fin 4) (s : State) : Out :=
  .next (if hostUp s && objB s (0x2400 + port.val) 1 then portBit s port.val 1 else s)

/-- R488. -/
def execStopStateTimeout (port : Fin 4) (s : State) : Out :=
  .next (if !portOpen s port.val then s
    else
      ((List.range 16).filter (fun i => ((stm s i).frame.map (fun f => decide (parN f 0x2410 2 = port.val))).getD false)).foldl
        (fun s i => endFrame s i true) (portBit s port.val 2))

/-- The exposure delay of a stream at a trigger edge, by the values of the edge (R458, R470). -/
def exposureDelay (p : PendingStamp) (i : Nat) : Nat := tget 0 (((p.pars.find? (fun e => e.1 = i)).map (fun e => e.2)).getD []) (0x2410 * 256 + 8)

/-- R457 to R459: the exposure of the oldest trigger edge without a stamp of this stream starts, its exposure delay after the edge. -/
def execStampCapture (stream : Fin 16) (s : State) : Out :=
  let i := stream.val
  let n := objN s (0x2410 + i) 7
  let q := tget [] s.trig n
  let due := fun (p : PendingStamp) => !p.taken.any (fun e => e.1 = i) && !p.used.contains i
  .next (if !hostUp s || decide (n = 0xFF) then s
    else
      match q.findIdx? due with
      | none => s
      | some k =>
        if (q[k]?).all (fun p => decide (p.edge + exposureDelay p i ≤ s.trep.time)) then
          { s with trig := tset [] s.trig n (q.modify k (fun p => { p with taken := p.taken ++ [(i, stampNow s p.tag false)] })) }
        else s)

/-- R469, R475, R483: the outputs of the oldest ended frame are complete; SHORT frames behind it follow at once. -/
def execIspOutputComplete (stream : Fin 16) (s : State) : Out :=
  let i := stream.val
  let x := stm s i
  .next (if !hostUp s then s
    else
      match x.finishing with
      | [] => s
      | f :: t =>
        let shorts := t.takeWhile (fun g => g.flags.testBit 2)
        let s := setStm s i { x with finishing := t.drop shorts.length }
        shorts.foldl (fun s g => finishFrame s i g) (finishFrame s i f))

end Sys2Proof.Machine
end

