-- ==== Sys2Proof/Machine/Lantern.lean ====
section
/-! DEFINITION. Lantern (chapter 14): event words, the input map, spikes and their queues, neurons, projections, hint
sets and wake. -/

namespace Sys2Proof.Machine

/-! ### Where Lantern stands -/

/-- Lantern is powered and clocked: the host die is out of reset, or in LANTERN-WATCH (R695, R721). -/
def lanOn (s : State) : Bool := hostHw s || s.hboot.mode == .watch

/-- Lantern takes events (R731). -/
def lanTakes (s : State) : Bool := lanOn s && objB s 0x2C00 1

/-- Octets of population `p` (R723). -/
def popOf (s : State) (p : Nat) : List Byte := stored s 0x2C02 (p + 1)

/-- Fields of a population (R723).
Log entry 24: DEDUCED, unsafe. -/
def popCore (d : List Byte) : Nat := fieldN d 0 1
def popParam (d : List Byte) : Nat := fieldN d 1 1
def popFirst (d : List Byte) : Nat := fieldN d 2 2
def popWidth (d : List Byte) : Nat := fieldN d 4 2
def popHeight (d : List Byte) : Nat := fieldN d 6 2

/-- Neurons of a population. -/
def popSize (d : List Byte) : Nat := popWidth d * popHeight d

/-- Octets of projection `j` (R723). -/
def projOf (s : State) (j : Nat) : List Byte := stored s 0x2C03 (j + 1)

/-- Projection `j` is used and not disabled by an error (R711, R712, R728). -/
def projLive (s : State) (j : Nat) : Bool :=
  (fieldN (projOf s j) 0 1 == 1 || fieldN (projOf s j) 0 1 == 2) && !s.lan.disabled.contains j

/-- Projections from a source whose target population lies in core `c`, ascending. -/
def projsInto (s : State) (source c : Nat) : List Nat :=
  (List.range 64).filter (fun j => projLive s j && decide (fieldN (projOf s j) 1 1 = source) &&
    decide (popCore (popOf s (fieldN (projOf s j) 2 1)) = c) && decide (popWidth (popOf s (fieldN (projOf s j) 2 1)) ≠ 0))

/-- Cells of the input map: across and down (R705). -/
def mapWidth (s : State) : Nat := (objN s 0x2C00 3 + 2 ^ objN s 0x2C00 5 - 1) / 2 ^ objN s 0x2C00 5
def mapHeight (s : State) : Nat := (objN s 0x2C00 4 + 2 ^ objN s 0x2C00 5 - 1) / 2 ^ objN s 0x2C00 5

/-- Present tick (R708).
Log entry 41: DESIGN CHOICE, unsafe. Log entry 146: DEDUCED, unsafe. -/
def lanTick (s : State) : Nat := s.lan.lt / 2 ^ objN s 0x2C00 7

/-! ### Routing (R714, R715) -/

/-- A spike enters the queue of core `c`, or is dropped and counted. -/
def enqueueSpike (s : State) (k : Spike) (c : Nat) : State :=
  let q := tget [] s.lan.queues c
  if q.length < 4096 then { s with lan := { s.lan with queues := tset [] s.lan.queues c (q ++ [k]) } }
  else bump { s with lan := { s.lan with overflow := true } } 0x2C10 0x0B

/-- A spike goes to every core with a projection from its source. -/
def routeSpike (s : State) (k : Spike) : State :=
  (List.range 4).foldl (fun s c => if (projsInto s k.source c).isEmpty then s else enqueueSpike s k c) s

/-! ### Events (R698, R699, R705, R706) -/

/-- One event at column `x` of the current row. -/
def lanEvent (s : State) (on : Bool) (x : Nat) : State :=
  match s.lan.row with
  | none => bump s 0x2C10 2
  | some y =>
    if objN s 0x2C00 3 ≤ x ∨ objN s 0x2C00 4 ≤ y then bump s 0x2C10 2
    else routeSpike (bump s 0x2C10 1) { source := if on then 0x80 else 0x81, x := x / 2 ^ objN s 0x2C00 5, y := y / 2 ^ objN s 0x2C00 5 }

/-- One event word (R698). -/
def eventWord (s : State) (w : Nat) : State :=
  let on := w.testBit 13
  match bits w 15 14 with
  | 0 => { s with lan := { s.lan with row := some (bits w 10 0) } }
  | 1 => lanEvent s on (bits w 10 0)
  | 2 => (bitList (bits w 3 0) 4).foldl (fun s i => lanEvent s on (4 * bits w 12 4 + i)) s
  | _ => bump s 0x2C10 3

/-! ### Neurons (R707 to R710) -/

/-- A neuron's stored state. -/
def neuron (s : State) (c n : Nat) : Neuron := tget {} s.lan.neurons (c * 16384 + n)

/-- Replace a neuron's stored state. -/
def setNeuron (s : State) (c n : Nat) (x : Neuron) : State :=
  { s with lan := { s.lan with neurons := tset {} s.lan.neurons (c * 16384 + n) x } }

/-- Ticks since the last update, or 65,535 if more (R709). -/
def ticksSince (s : State) (t : Nat) : Nat :=
  let m := 2 ^ (32 - objN s 0x2C00 7)
  min 65535 ((lanTick s + m - t % m) % m)

/-- Leak and refractory time over `n` ticks (R709). -/
def leaked (d : List Byte) (n : Nat) (x : Neuron) : Neuron :=
  let m := x.v.natAbs - fieldN d 6 1 * n
  { x with v := if x.v < 0 then -(m : Int) else (m : Int), refr := x.refr - n }

/-- Integration of weight `w`; answers whether the neuron spikes (R709).
Log entry 94: DESIGN CHOICE, unsafe. -/
def integrate (d : List Byte) (w : Int) (x : Neuron) : Neuron × Bool :=
  if 0 < x.refr then (x, false)
  else
    let k := fieldN d 7 1
    let v := clampI (fieldI d 4 2) 32767 (x.v + w * (2 ^ bits k 2 0 : Nat))
    if fieldI d 0 2 ≤ v then ({ x with v := if k.testBit 3 then v - fieldI d 0 2 else fieldI d 2 2, refr := bits k 7 4 }, true)
    else ({ x with v := v }, false)

/-! ### Outputs (R716 to R720) -/

/-- Count a spike of a hint population in its graphs' period (R717). -/
def countHint (s : State) (p m : Nat) : State :=
  ((List.range 8).filter (fun g => fieldN (stored s (0x2C08 + g) 1) 0 1 = p)).foldl
    (fun s g => { s with lan := { s.lan with hintCounts := tset 0 s.lan.hintCounts (g * 65536 + m) (tget 0 s.lan.hintCounts (g * 65536 + m) + 1) } }) s

/-- Lantern asserts wake and restarts the count (R719, R720). -/
def lanWake (s : State) : State :=
  let s := bump { s with lan := { s.lan with wakeTimes := [], wake := s.lan.wake ||| 1#2 } } 0x2C10 7
  wakeSource s 0

/-- A spike of the wake population is counted over the sliding window (R719). -/
def countWake (s : State) (p : Nat) : State :=
  if p ≠ objN s 0x2C05 1 then s
  else
    let l := (s.lan.lt :: s.lan.wakeTimes).filter (fun t => decide ((s.lan.lt + 2 ^ 32 - t) % 2 ^ 32 < objN s 0x2C05 3))
    let s := { s with lan := { s.lan with wakeTimes := l } }
    if objN s 0x2C05 2 ≤ l.length then lanWake s else s

/-! ### Synaptic operations (R709, R711, R712) -/

/-- One synaptic operation on neuron `m` of population `p` with weight `w`. -/
def synapse (s : State) (p m : Nat) (w : Int) : State :=
  let d := popOf s p
  let c := popCore d
  let n := popFirst d + m
  let par := stored s 0x2C01 (popParam d + 1)
  let x := neuron s c n
  let r := integrate par w (leaked par (ticksSince s x.tick) x)
  let s := setNeuron (bump s 0x2C10 4) c n { r.1 with tick := lanTick s }
  if r.2 then countWake (countHint (routeSpike (bump s 0x2C10 5) { source := p, x := m % popWidth d, y := m / popWidth d }) p m) p
  else s

/-- Weight of tap `k` in a kernel at `off`, low nibble first (R711).
Log entry 52: DEDUCED, unsafe. -/
def kernelWeight (mem : List Byte) (off k : Nat) : Int :=
  let b := fieldN mem (off + k / 2) 1
  toSigned 4 (if k % 2 = 0 then b % 16 else b / 16)

/-- Targets of a spike over a kernel projection: neuron and weight, in raster order (R711).
Log entry 52: DEDUCED, unsafe. -/
def kernelTargets (d mem pop : List Byte) (k : Spike) : List (Nat × Int) :=
  let kh := fieldN d 3 1
  let kw := fieldN d 4 1
  let st := fieldN d 5 1
  let taps := fun (pos half size t : Nat) => if t * st ≤ pos + half ∧ pos + half < t * st + size then some (pos + half - t * st) else none
  (List.range (popSize pop)).filterMap (fun m =>
    match taps k.x (kw / 2) kw (m % popWidth pop), taps k.y (kh / 2) kh (m / popWidth pop) with
    | some i, some j => some (m, kernelWeight mem (fieldN d 8 4) (j * kw + i))
    | _, _ => none)

/-- Targets of a spike over an explicit projection, in stored order; `m` is the source neuron and `n` the size of the
source (R712).
Log entry 24: DEDUCED, unsafe. -/
def explicitTargets (d mem : List Byte) (m n : Nat) : List (Nat × Int) :=
  let off := fieldN d 8 4
  let a := fieldN mem (off + 4 * m) 4
  let b := fieldN mem (off + 4 * (m + 1)) 4
  (List.range (b - a)).map (fun i =>
    let w := fieldN mem (off + 4 * (n + 1) + 4 * (a + i)) 4
    (bits w 15 0, toSigned 4 (bits w 31 28)))

/-- Targets of a spike over projection `j`. -/
def targetsOf (s : State) (j : Nat) (k : Spike) : List (Nat × Int) :=
  let d := projOf s j
  let pop := popOf s (fieldN d 2 1)
  if fieldN d 0 1 = 1 then kernelTargets d (stored s 0x2C04 (popCore pop + 1)) pop k
  else if k.source < 64 then
    let src := popOf s k.source
    explicitTargets d (stored s 0x2C04 (popCore src + 1)) (k.y * popWidth src + k.x) (popSize src)
  else explicitTargets d (stored s 0x2C04 (popCore pop + 1)) (k.y * mapWidth s + k.x) (mapWidth s * mapHeight s)

/-- The operations of one spike over projection `j`. -/
def runProjection (s : State) (k : Spike) (j : Nat) : State :=
  (targetsOf s j k).foldl (fun s t => synapse s (fieldN (projOf s j) 2 1) t.1 t.2) s

/-- An uncorrectable error of connection memory disables projection `j` (R728).
Log entry 94: DESIGN CHOICE, unsafe. -/
def connFault (s : State) (j : Nat) : State :=
  let s := drawn (logHost s (mkRec 8 23 (Config.memoryCode 4 :: leBytes 8 (freeW s).toNat)))
  let s := bump { s with lan := { s.lan with disabled := j :: s.lan.disabled, uncorrectable := true } } 0x2C10 9
  if s.hboot.mode = .watch then wakeSource { s with lan := { s.lan with wake := s.lan.wake ||| 2#2 } } 4 else s

/-- An error in the state of the first neuron the spike reaches: corrected, or that neuron's V becomes 0 (R726, R727).
Log entry 94: DESIGN CHOICE, unsafe. -/
def neuronEcc (s : State) (e : EccResult) (k : Spike) (js : List Nat) : State :=
  match e with
  | .clean => s
  | .corrected => bump s 0x2C10 8
  | .uncorrectable =>
    match js.flatMap (fun j => (targetsOf s j k).map (fun t => (fieldN (projOf s j) 2 1, t.1))) with
    | [] => s
    | t :: _ =>
      let d := popOf s t.1
      let n := popFirst d + t.2
      setNeuron (bump (bump s 0x2C10 9) 0x2C10 0x0A) (popCore d) n { neuron s (popCore d) n with v := 0 }

/-! ### Hint sets (R717, R718, R725) -/

/-- Place a neuron and its count by descending count, then raster order. -/
def rankIn (x : Nat × Nat) : List (Nat × Nat) → List (Nat × Nat)
  | [] => [x]
  | y :: t => if y.2 < x.2 then x :: y :: t else y :: rankIn x t

/-- The hint set of graph `g` at the end of a period.
Log entry 94: DESIGN CHOICE, unsafe. -/
def hintSetOf (s : State) (g : Nat) : Option HintSet :=
  let d := stored s (0x2C08 + g) 1
  let pop := popOf s (fieldN d 0 1)
  if fieldN d 0 1 = 0xFF ∨ popWidth pop = 0 then none
  else
    let l := ((List.range (popSize pop)).map (fun m => (m, tget 0 s.lan.hintCounts (g * 65536 + m)))).filter
      (fun x => decide (0 < x.2) && decide (fieldN d 10 2 ≤ x.2))
    match (l.foldl (fun acc x => rankIn x acc) []).take 16 with
    | [] => none
    | r => some { lt := s.lan.lt, regions := r.map (fun x =>
        (fieldN d 2 2 + x.1 % popWidth pop * fieldN d 6 2, fieldN d 4 2 + x.1 / popWidth pop * fieldN d 8 2, fieldN d 6 2, fieldN d 8 2, x.2)) }

/-! ### The commands -/

/-- The AER port acknowledges a word: a transition of H_AER_ACK in two-phase mode, a pulse that ends low in four-phase mode (R700). -/
def aerAck (s : State) : State :=
  { s with lan := { s.lan with acked := true, ackLevel := if objN s 0x2C00 6 = 0 then !s.lan.ackLevel else false } }

/-- R698 to R700, R731: a word on the AER port. -/
def execAerWord (word : BitVec 16) (s : State) : Out :=
  .next (if lanTakes s && decide (objN s 0x2C00 2 = 0) then eventWord (aerAck s) word.toNat
    else { s with lan := { s.lan with acked := false } })

/-- Little-endian 16-bit words of a payload (R703). -/
def wordsOf : List Byte → List (BitVec 16)
  | a :: b :: t => (b ++ a) :: wordsOf t
  | _ => []

/-- R703, R704, R731: an event packet on CSI-2 port 3 enters the FIFO whole, and the input stage expands it.
Log entry 145: DESIGN CHOICE, unsafe. -/
def execLanternCsiPacket (port : Fin 4) (vc : Fin 16) (dataType : Byte) (crcOk : Bool) (data : List Byte) (s : State) : Out :=
  .next (if !(lanTakes s && decide (objN s 0x2C00 2 = 1) && decide (port.val = 3)) then s
    else
      let w := wordsOf data
      if vc.val ≠ 0 ∨ dataType ≠ 0x30 ∨ !crcOk ∨ 4096 < s.lan.fifo.length + w.length then bump s 0x2C10 2
      else
        let s := { s with lan := { s.lan with fifo := s.lan.fifo ++ w } }
        let s := s.lan.fifo.foldl (fun s w => eventWord s w.toNat) s
        { s with lan := { s.lan with fifo := [] } })

/-- R709 to R715, R726 to R728: core `core` serves the head of its queue. -/
def execSynapticOperation (core : Fin 4) (neuron conn : EccResult) (s : State) : Out :=
  let c := core.val
  .next (match lanTakes s, tget [] s.lan.queues c with
    | true, k :: t =>
      let s := { s with lan := { s.lan with queues := tset [] s.lan.queues c t } }
      let js := projsInto s k.source c
      let s := if conn = .corrected then bump s 0x2C10 8 else s
      let bad := if conn = .uncorrectable then js.take 1 else []
      let s := bad.foldl (fun s j => connFault s j) s
      let js := js.drop bad.length
      js.foldl (fun s j => runProjection s k j) (neuronEcc s neuron k js)
    | _, _ => s)

/-- The hint period is over at the present LT (R717). -/
def hintPeriodOver (s : State) : Bool := decide (objN s 0x2C05 4 ≤ (s.lan.lt + 2 ^ 32 - s.lan.hintFrom) % 2 ^ 32)

/-- R717, R718, R725: the hint period ends; only the newest set of each graph is kept. -/
def execHintPeriodEnd (s : State) : Out :=
  .next (if !lanTakes s || !hintPeriodOver s then s
    else
      let s1 := (List.range 8).foldl
        (fun (a : State) g =>
          match hintSetOf a g with
          | some h => bump { a with lan := { a.lan with kept := a.lan.kept.filter (fun x => x.1 ≠ g) ++ [(g, h)] } } 0x2C10 6
          | none => a) s
      { s1 with lan := { s1.lan with hintCounts := [], hintFrom := s1.lan.lt } })

end Sys2Proof.Machine
end

