-- ==== Sys2Proof/Machine/Compose.lean ====
section
/-! DEFINITION. Layer composition and video output (chapter 15). -/

namespace Sys2Proof.Machine

/-! ### Settings in force -/

/-- A composition object as latched at the frame start (R750). -/
def compN (s : State) (i sub : Nat) : Nat := leNat (tget (dfltOf i sub) s.comp.live (okey i sub))

/-- A signed composition object as latched. -/
def compI (s : State) (i sub : Nat) : Int := leInt (tget (dfltOf i sub) s.comp.live (okey i sub))

/-- Object of layer `l` in force. -/
def layN (s : State) (l sub : Nat) : Nat := compN s (0x2E00 + l) sub

/-- The composition objects of the store. -/
def compObjects (s : State) : Tab (List Byte) := tkeep (fun k => decide (0x2E00 * 256 ≤ k) && decide (k < 0x2E13 * 256)) s.hobj

/-- Destination width and height: a graphic layer does not scale (R740). -/
def destW (s : State) (l : Nat) : Nat := if l < 2 then layN s l 0x0C else layN s l 8
def destH (s : State) (l : Nat) : Nat := if l < 2 then layN s l 0x0D else layN s l 9

/-- Active width and height (R746). -/
def actW (s : State) : Nat := compN s 0x2E10 2
def actH (s : State) : Nat := compN s 0x2E10 6

/-- Enabled layers from the bottom up (R732). -/
def layerStack (s : State) : List Nat :=
  (List.range 6).flatMap (fun z => (List.range 6).filter (fun l => decide (layN s l 1 ≠ 0) && decide (layN s l 3 = z)))

/-- Destination coordinate of an output column or line within layer `l`, when it lies in the destination rectangle. -/
def inDest (origin : Int) (size : Nat) (p : Nat) : Option Nat :=
  let d := (p : Int) - origin
  if 0 ≤ d ∧ d < size then some d.toNat else none

/-- Where pixel (x, y) of the output lies in layer `l` (R738). -/
def layerAt (s : State) (l x y : Nat) : Option (Nat × Nat) :=
  match inDest (compI s (0x2E00 + l) 0x0A) (destW s l) x, inDest (compI s (0x2E00 + l) 0x0B) (destH s l) y with
  | some a, some b => some (a, b)
  | _, _ => none

/-! ### Source pixels (R734, R735, R472) -/

/-- Addresses of the octets of source pixel (px, py) of layer `l`. -/
def pixelAddrs (s : State) (l px py : Nat) : List Nat :=
  let base := lget 0 s.comp.latched l
  let stride := layN s l 4
  let h := layN s l 5
  let row := base + py * stride
  match layN s l 2 with
  | 1 => [row + px]
  | 2 => [row + 2 * px, row + 2 * px + 1]
  | 3 => [row + 3 * px, row + 3 * px + 1, row + 3 * px + 2]
  | 4 => [row + px, row + h * stride + px, row + 2 * h * stride + px]
  | 5 => [row + px, base + (h + py / 2) * stride + px / 2 * 2, base + (h + py / 2) * stride + px / 2 * 2 + 1]
  | 0x20 => [row + 4 * px, row + 4 * px + 1, row + 4 * px + 2, row + 4 * px + 3]
  | _ => [row + 2 * px, row + 2 * px + 1]

/-- The originator of the engine's accesses: partition B (R733, R752). -/
def compOrigin (s : State) : Origin := { agent := .composition, tag := .b, client := 0, queue := 0xFFFF, unit := s.comp.frame }

/-- One octet as the engine reads it: a refused load gives zero (R761). -/
def compByte (s : State) (a : Nat) : Nat :=
  if (accessCause s (compOrigin s) (a / 64 * 64) false).isNone then (dramGet s a).toNat else 0

/-- Red, green and blue of a 24-bit word. -/
def rgbOf (w : Nat) : Nat × Nat × Nat := (w / 65536 % 256, w / 256 % 256, w % 256)

/-- R, G and B of a YUV pixel by BT.601 full range (R735).
Log entry 95: DESIGN CHOICE, safe. -/
def yuvOf (y u v : Nat) : Nat × Nat × Nat := bt601Rgb (Config.yuvRgb y u v) y u v

/-- Alpha, R, G and B of a source pixel (R735, R737). -/
def sourcePixel (s : State) (l px py : Nat) : Nat × Nat × Nat × Nat :=
  let b := (pixelAddrs s l px py).map (compByte s)
  let o := fun i => lget 0 b i
  match layN s l 2 with
  | 1 => (255, o 0, o 0, o 0)
  | 2 => let y := min 255 ((o 0 + 256 * o 1) / 2 ^ layN s l 0x10); (255, y, y, y)
  | 3 => (255, o 0, o 1, o 2)
  | 4 => (255, yuvOf (o 0) (o 1) (o 2))
  | 5 => (255, yuvOf (o 0) (o 1) (o 2))
  | 0x20 => (o 3, o 2, o 1, o 0)
  | _ => (255, rgbOf (Config.rgb565 (BitVec.ofNat 16 (o 0 + 256 * o 1))).toNat)

/-! ### Scaling (R740, R741) -/

/-- Crop offsets and weights that destination coordinate `x` takes in one direction: below 1 the pixels whose centres lie in the
footprint, the ends with their part (R741).
Log entry 147: DEDUCED, unsafe. -/
def footprint (crop dest x : Nat) : List (Nat × Rat) :=
  if dest = 0 ∨ crop = 0 then []
  else if crop ≤ dest then
    let p : Rat := ((2 * x + 1) * crop : Nat) / (2 * dest : Nat) - 1 / 2
    let f := p.floor
    let at_ := fun (i : Int) => (clampI 0 ((crop : Int) - 1) i).toNat
    if p - f = 0 then [(at_ f, 1)] else [(at_ f, 1 - (p - f)), (at_ (f + 1), p - f)]
  else
    let lo : Rat := (x * crop : Nat) / (dest : Nat)
    let hi : Rat := ((x + 1) * crop : Nat) / (dest : Nat)
    let l : List Nat := (List.range crop).filter (fun (i : Nat) => decide ((i : Rat) + 1 / 2 < hi) && decide (lo ≤ (i : Rat) + 1 / 2))
    let part := fun (i : Nat) => min hi ((i : Rat) + 1) - max lo (i : Rat)
    let all := (l.map part).foldl (· + ·) 0
    l.map (fun (i : Nat) => (i, part i / all))

/-- Weighted mean of one channel of the converted source pixels; the free octet `fr` chooses the rounding, which no rule states
(R737, R741).
Log entry 95: DESIGN CHOICE, safe. -/
def blendTaps (taps : List (Nat × Rat)) (fr : Byte) : Nat := oneOf (nextTo ((taps.map (fun t => t.2 * (t.1 : Rat))).foldl (· + ·) 0)) fr.toNat

/-- Alpha, R, G and B of layer `l` at destination coordinate (x, y); only video layers, which have no alpha, scale. -/
def layerPixel (s : State) (l x y : Nat) (fr : List Byte) : Nat × Nat × Nat × Nat :=
  let fx := footprint (layN s l 8) (destW s l) x
  let fy := footprint (layN s l 9) (destH s l) y
  let taps := fy.flatMap (fun b => fx.map (fun a => (sourcePixel s l (layN s l 6 + a.1) (layN s l 7 + b.1), a.2 * b.2)))
  match taps with
  | [t] => t.1
  | _ =>
    let mean := fun (f : Nat × Nat × Nat × Nat → Nat) (i : Nat) => blendTaps (taps.map (fun t => (f t.1, t.2))) (lget 0 fr (3 * x + i))
    let red := mean (fun p => p.2.1) 0
    if layN s l 2 ≤ 2 then (255, red, red, red) else (255, red, mean (fun p => p.2.2.1) 1, mean (fun p => p.2.2.2) 2)

/-! ### Key, alpha and blending (R737, R738, R760) -/

/-- Alpha of a layer's pixel (R737). -/
def keyAlpha (s : State) (l : Nat) (p : Nat × Nat × Nat × Nat) : Nat :=
  let w := p.2.1 * 65536 + p.2.2.1 * 256 + p.2.2.2
  if (layN s l 0x0F).testBit 24 ∧ (w ^^^ layN s l 0x0F) &&& layN s l 0x11 &&& 0xFFFFFF = 0 then 0
  else (p.1 * layN s l 0x0E + 127) / 255

/-- One channel over the picture below it (R738). -/
def mix (a src below : Nat) : Nat := (a * src + (255 - a) * below + 127) / 255

/-- One pixel of a layer over the picture below. -/
def mixPixel (a : Nat) (c below : Nat × Nat × Nat) : Nat × Nat × Nat :=
  (mix a c.1 below.1, mix a c.2.1 below.2.1, mix a c.2.2 below.2.2)

/-- Pixel (x, y) of the composed picture; `late` marks the layers that show the underflow colour (R738, R760).
Log entry 95: DESIGN CHOICE, safe. -/
def compPixel (s : State) (late : BitVec 6) (fr : List Byte) (x y : Nat) : Nat × Nat × Nat :=
  (layerStack s).foldl
    (fun below l =>
      match layerAt s l x y with
      | none => below
      | some d =>
        if late.getLsbD l then mixPixel ((255 * layN s l 0x0E + 127) / 255) (rgbOf (compN s 0x2E10 0x0B)) below
        else
          let p := layerPixel s l d.1 d.2 (fr.drop (12288 * l))
          mixPixel (keyAlpha s l p) p.2 below)
    (rgbOf (compN s 0x2E10 0x0D))

/-! ### Fetches and the occlusion skip (R742 to R745) -/

/-- The OPAQUE layer `m` wholly covers the part of the tile of (x, y) that lies in the active area. -/
def covers (s : State) (m x y : Nat) : Bool :=
  let tx := x / 64 * 64
  let ty := y / 64 * 64
  (layerAt s m tx ty).isSome && (layerAt s m (min (tx + 63) (actW s - 1)) (min (ty + 63) (actH s - 1))).isSome

/-- The engine fetches nothing of layer `l` for the tile of (x, y) (R744). -/
def tileSkipped (s : State) (l x y : Nat) : Bool :=
  ((layerStack s).dropWhile (· ≠ l)).any (fun m => m ≠ l && decide (layN s m 0x12 ≠ 0) && covers s m x y)

/-- 64-octet units of layer `l` that output line `y` needs, of all its visible pixels or of the unskipped ones. -/
def lineUnits (s : State) (l y : Nat) (skip : Bool) : List Nat :=
  ((List.range (actW s)).flatMap (fun x =>
    match layerAt s l x y with
    | none => []
    | some d =>
      if skip && tileSkipped s l x y then []
      else
        (footprint (layN s l 9) (destH s l) d.2).flatMap (fun b => (footprint (layN s l 8) (destW s l) d.1).flatMap (fun a =>
          (pixelAddrs s l (layN s l 6 + a.1) (layN s l 7 + b.1)).map (fun q => q / 64 * 64))))).dedup

/-- Octets of a frame that the skip saves (R745). -/
def savedOctets (s : State) : Nat :=
  64 * ((layerStack s).map (fun l =>
    let all := ((List.range (actH s)).flatMap (fun y => lineUnits s l y false)).dedup
    let need := (List.range (actH s)).flatMap (fun y => lineUnits s l y true)
    (all.filter (fun u => !need.contains u)).length)).foldl (· + ·) 0

/-- Fetch the units that line `y` is the first to need; answers how many loads were refused or poisoned (R761). -/
def fetchLine (s : State) (y : Nat) : State × Nat :=
  ((layerStack s).flatMap (fun l =>
    let before := if y = 0 then [] else lineUnits s l (y - 1) true
    (lineUnits s l y true).filter (fun u => !before.contains u))).foldl
    (fun acc u =>
      let r := engLoad (countLine acc.1 .b 1) (compOrigin s) u 64
      (r.1, if r.2.2.1 && r.2.2.2 then acc.2 else acc.2 + 1)) (s, 0)

/-! ### Interrupts and DisplayPort -/

/-- Set a COMP_IRQ bit, and raise the interrupt when it is enabled (R756).
Log entry 96: DESIGN CHOICE, safe. -/
def compIrq (s : State) (b : Nat) : State :=
  let s := setReg s (bCOMP + 4) (setBit (reg s (bCOMP + 4)) b true)
  if (reg s (bCOMP + 8)).testBit b then hostIrq s 40 else s

/-- The engine runs; in INSPECT-IDLE it is off (R948). -/
def compRuns (s : State) : Bool := hostUp s && s.pwr.mode != .inspectIdle && (reg s bCOMP).testBit 0

/-- DisplayPort shows video: enabled, a sink present and its link trained (R749, R762).
Log entry 53: DESIGN CHOICE, unsafe. -/
def dpVideo (s : State) : Bool := compRuns s && (reg s bCOMP).testBit 1 && s.comp.hpd && (reg s (bCOMP + 0x44)).testBit 1

/-- A pixel in the output's bits per channel (R739). -/
def dpPixel (s : State) (p : Nat × Nat × Nat) : Nat × Nat × Nat :=
  if compN s 0x2E10 0x0C = 6 then (p.1 / 4, p.2.1 / 4, p.2.2 / 4) else p

/-! ### Write-back (R752 to R755) -/

/-- The 32 octets of a write-back record (R755). -/
def wbBytes (w : WbFrame) : List Byte :=
  leBytes 1 w.buffer ++ leBytes 1 w.flags ++ [0, 0] ++ leBytes 4 w.seq ++ leBytes 8 w.time ++ leBytes 4 w.lines ++ List.replicate 12 0

/-- A record enters the ring when it is enabled and has room (R755, R480). -/
def wbRecord (s : State) (w : WbFrame) : State :=
  let ctrl := reg s (bCOMP + 0x108)
  let tail := reg s (bCOMP + 0x110)
  let used := (tail + 65536 - reg s (bCOMP + 0x10C) % 65536) % 65536
  let room := ringOn ctrl && decide (used < ringSize ctrl)
  let count := if room then (tail + 1) % 65536 else tail
  let s := { s with comp := { s.comp with wbHeld := s.comp.wbHeld.map (fun e => if e.1 = w.buffer then (e.1, some count) else e) } }
  let s := if room then setReg (engStore s (compOrigin s) (reg s (bCOMP + 0x100) + 32 * (tail % ringSize ctrl)) (wbBytes w)).1 (bCOMP + 0x110) count else s
  let s := if room ∧ ctrl.testBit 1 then hostIrq s 40 else s
  compIrq s 1

/-- A frame's write-back is dropped and its record written (R753, R755). -/
def wbDrop (s : State) (flags : Nat) : State :=
  wbRecord (bump s 0x2E20 3) { buffer := 0xFF, flags := setBit flags 1 true, seq := s.comp.frame, time := s.comp.startTime, lines := s.comp.underLines }

/-- The next buffer may be filled (R754). -/
def wbReady (s : State) (k : Nat) : Bool :=
  decide (compN s 0x2E12 7 = 1) || s.comp.wbHeld.all (fun e => decide (e.1 ≠ k) ||
    (match e.2 with | some c => decide ((reg s (bCOMP + 0x10C) + 65536 - c) % 65536 < 32768) | none => false))

/-- Start the write-back of every Nth frame (R752, R754). -/
def wbStart (s : State) : State :=
  if !(reg s bCOMP).testBit 2 || decide (s.comp.frame % max 1 (compN s 0x2E12 3) ≠ 0) then s
  else
    let n := max 1 (compN s 0x2E12 6)
    let k := s.comp.wbNext % n
    if wbReady s k then
      { s with comp := { s.comp with
          wb := some { buffer := k, flags := 0, seq := s.comp.frame, time := s.comp.startTime, lines := 0 }
          wbNext := (k + 1) % n, wbHeld := s.comp.wbHeld.filter (fun e => e.1 ≠ k) ++ [(k, none)] } }
    else wbDrop s 0

/-- The originator of a frame's write-back stores (R752). -/
def wbOrigin (frame : Nat) : Origin := { agent := .composition, tag := .b, client := 0, queue := 0xFFFF, unit := frame }

/-- Some store of a write-back frame is not yet accepted (R755). -/
def wbStores (s : State) (w : WbFrame) : Bool := s.mem.stores.any (fun p => p.who == wbOrigin w.seq)

/-- Line `y` of the composed picture goes to the frame's buffer (R752). -/
def wbLine (s : State) (y : Nat) : State :=
  match s.comp.wb with
  | none => s
  | some w =>
    let base := compN s 0x2E12 2 + w.buffer * compN s 0x2E12 4
    let stride := compN s 0x2E12 5
    let put := fun (s : State) (row : Nat) (b : List Byte) =>
      (lineStores (base + row * stride) b).foldl (fun s e => (postStore s (wbOrigin w.seq) e.1 e.2.1 e.2.2).1) s
    match compN s 0x2E12 1 with
    | 3 => put s y (s.comp.out.flatMap (fun p => [BitVec.ofNat 8 p.1, BitVec.ofNat 8 p.2.1, BitVec.ofNat 8 p.2.2]))
    | 0x20 => put s y (s.comp.out.flatMap (fun p => [BitVec.ofNat 8 p.2.2, BitVec.ofNat 8 p.2.1, BitVec.ofNat 8 p.1, 0xFF]))
    | 5 =>
      let s := put s y (s.comp.out.map (fun p => BitVec.ofNat 8 (oneOf (nextTo (lumaQ p.1 p.2.1 p.2.2)) (Config.rgbLuma p.1 p.2.1 p.2.2).toNat)))
      if y % 2 = 1 then drawn (put s (actH s + y / 2) (fitTo (actW s / 2 * 2) (Config.freeOctets s.freeCtr (actW s / 2 * 2)))) else s
    | _ => s

/-! ### The commands -/

/-- R750 to R752: an output frame starts. -/
def execCompFrameStart (s : State) : Out :=
  .next (if !compRuns s then s
    else
      let ended := match s.comp.wb with | some w => s.comp.wbEnded ++ [w] | none => s.comp.wbEnded
      let s := { s with comp := { s.comp with
          frame := wrap32 (s.comp.frame + 1), line := 0, live := compObjects s, underLines := 0, startTime := s.trep.time, underflow := 0
          latched := (List.range 6).map (fun l => reg s (bCOMP + 0x10 + 8 * l)), wb := none, wbEnded := ended } }
      let s := bump (bump s 0x2E20 1) 0x2E20 5 (savedOctets s)
      wbStart (compIrq s 0))

/-- R737 to R739, R742 to R745, R753, R760, R761: one output line. -/
def execCompLineStart (late : BitVec 6) (fault : Bool) (fifoOverflow : Bool) (s : State) : Out :=
  .next (if !compRuns s || decide (actH s ≤ s.comp.line) then s
    else
      let y := s.comp.line
      let late := BitVec.ofNat 6 (((layerStack s).filter (fun l => late.getLsbD l && (List.range (actW s)).any (fun x => (layerAt s l x y).isSome))).foldl
        (fun a l => a + 2 ^ l) 0)
      let r := fetchLine s y
      let bad := if fault then max 1 r.2 else r.2
      let s := if bad = 0 then r.1 else bump r.1 0x2E20 4 bad
      let fr := fitTo (12288 * 6) (Config.freeOctets s.freeCtr (12288 * 6))
      let out := (List.range (actW s)).map (fun x => compPixel s late fr x y)
      let under := decide (late ≠ 0)
      let s := drawn { s with comp := { s.comp with
          out := out, underflow := late, line := y + 1, underLines := s.comp.underLines + b2n under
          dpOut := if dpVideo s then out.map (dpPixel s) else []
          wb := s.comp.wb.map (fun w => { w with
            lines := w.lines + b2n under
            flags := setBit (setBit w.flags 0 (w.flags.testBit 0 || under)) 2 (w.flags.testBit 2 || decide (0 < bad)) }) } }
      let s := if under then compIrq (bump s 0x2E20 2) 2 else s
      match s.comp.wb, fifoOverflow with
      | some w, true => wbDrop { s with comp := { s.comp with wb := none, wbHeld := s.comp.wbHeld.filter (fun e => e.1 ≠ w.buffer) } } w.flags
      | _, _ => wbLine s y)

/-- R755: the record of the oldest write-back frame that has ended, once every store of it is accepted; the frame on output has ended
when its last line is composed. -/
def execWritebackFrameDone (s : State) : Out :=
  .next (if !hostUp s then s
    else
      match s.comp.wbEnded, s.comp.wb with
      | w :: t, _ => if wbStores s w then s else wbRecord { s with comp := { s.comp with wbEnded := t } } w
      | [], some w =>
        if decide (s.comp.line < actH s) || wbStores s w then s else wbRecord { s with comp := { s.comp with wb := none } } w
      | [], none => s)

/-- R751: a layer's source address is written. -/
def execCompLayerAddrWrite (layer : Fin 6) (value : BitVec 64) (s : State) : Out :=
  .next (if hostUp s then setReg s (bCOMP + 0x10 + 8 * layer.val) value.toNat else s)

/-- R749: a write of COMP_DP_CMD. -/
def execDpTrainCommand (value : BitVec 32) (s : State) : Out :=
  .next (if hostUp s && s.pwr.mode != .inspectIdle && value.getLsbD 0 then
      let st := setBit (reg s (bCOMP + 0x44)) 1 false
      { setReg s (bCOMP + 0x44) st with comp := { s.comp with training := true } }
    else s)

/-- R749: link training ends; its result stands in COMP_DP_STATUS.
Log entry 53: DESIGN CHOICE, unsafe. -/
def execDpLinkTrainingDone (ok : Bool) (lanes rate : BitVec 2) (s : State) : Out :=
  .next (if hostUp s && s.comp.training then
      let st := setBits (setBits (setBit (reg s (bCOMP + 0x44)) 1 ok) 3 2 lanes.toNat) 5 4 rate.toNat
      { setReg s (bCOMP + 0x44) st with comp := { s.comp with training := false } }
    else s)

/-- R749, R756: an AUX request runs; its reply stands in COMP_AUX_CMD and a read's octets in COMP_AUX_DATA. -/
def execAuxCommand (value : BitVec 32) (reply : BitVec 3) (data : List Byte) (s : State) : Out :=
  .next (if !hostUp s then s
    else
      let v := value.toNat
      let n := bits v 7 4 + 1
      let s := setReg s (bCOMP + 0x48) (setBits (setBit v 3 true) 2 0 reply.toNat)
      if v.testBit 28 then
        (List.range 4).foldl (fun s i =>
          let k := min 4 (n - 4 * i)
          setReg s (bCOMP + 0x50 + 4 * i) (leNat (slice (fitTo n data) (4 * i) k ++ (leBytes 4 (reg s (bCOMP + 0x50 + 4 * i))).drop k))) s
      else s)

/-- R762: the sink goes; the output stops. -/
def execHpdFall (s : State) : Out :=
  .next (
    let s := { s with comp := { s.comp with hpd := false, training := false, dpOut := [] } }
    if hostUp s then compIrq (setReg s (bCOMP + 0x44) (setBit (reg s (bCOMP + 0x44)) 1 false)) 3 else s)

/-- R762: a sink comes; video waits for a training command. -/
def execHpdRise (s : State) : Out :=
  .next (
    let s := { s with comp := { s.comp with hpd := true } }
    if hostUp s then compIrq s 3 else s)

end Sys2Proof.Machine
end

