-- ==== Sys2Proof/Machine/Engines.lean ====
section
/-! DEFINITION. What the vision engines compute on the surfaces of a run (chapter 10: Operations and parameters, Data formats, Coarse
results and refinement). Where a rule states an operation but not its last place, the engine's own octet (an operand) stands if it is
one of the values next to the exact one; where a rule names only a method, it stands as it is. -/

namespace Sys2Proof.Machine

/-! ### Surfaces (R468, R472, R498, R506, R508) -/

/-- A copy of a surface: in Grotto or DRAM, its first octet, format, size, stride and pyramid levels. -/
structure Surf where
  grotto : Bool
  base : Nat
  fmt : Nat
  w : Nat
  h : Nat
  stride : Nat
  levels : Nat
  deriving DecidableEq, Repr

/-- Octets of an element of a format (R468, R498). -/
def fmtBytes (fmt : Nat) : Nat := if fmt = 2 ∨ fmt = 0 ∨ fmt = 0x11 then 2 else if fmt = 3 then 3 else if fmt = 0x10 then 4 else 1

/-- Width, height and stride of level `l` of a pyramid (R498). -/
def levelSize (x : Surf) (l : Nat) : Nat × Nat × Nat :=
  let w := (x.w + 2 ^ l - 1) / 2 ^ l
  let h := (x.h + 2 ^ l - 1) / 2 ^ l
  (w, h, strideOf (w * fmtBytes x.fmt))

/-- First octet of level `l` inside a pyramid. -/
def levelBase (x : Surf) (l : Nat) : Nat := ((List.range l).map (fun k => (levelSize x k).2.1 * (levelSize x k).2.2)).foldl (· + ·) 0

/-- Octets of a surface. -/
def surfaceSize (x : Surf) : Nat :=
  if x.fmt = 0x15 then levelBase x (x.levels + 1)
  else if x.fmt = 0x13 then 64 + 40 * x.w
  else if x.fmt = 0x14 then 64 + 1024 + 8 * (x.w * x.h)
  else if x.fmt = 4 then 3 * x.h * x.stride
  else x.h * x.stride

/-- One channel's sample of an image (R468). -/
def pixelOf (b : List Byte) (fmt stride y x c : Nat) : Nat :=
  if fmt = 2 ∨ fmt = 0 ∨ fmt = 0x11 then fieldN b (y * stride + 2 * x) 2
  else if fmt = 3 then fieldN b (y * stride + 3 * x + c) 1
  else fieldN b (y * stride + x) 1

/-- Channels of an image format. -/
def fmtChannels (fmt : Nat) : Nat := if fmt = 3 then 3 else 1

/-- An image of rows of samples, each row padded to the stride; 16-bit formats take two octets a sample. -/
def imageBytes (fmt stride : Nat) (rows : List (List Nat)) : List Byte :=
  (rows.map (fun r => fitTo stride ((r.map (leBytes (if fmt = 2 ∨ fmt = 0 ∨ fmt = 0x11 then 2 else 1))).flatten))).flatten

/-! ### Warp (R496) -/

/-- A pixel of the input, or the border: a constant, or the nearest pixel. -/
def borderAt (src : Surf) (b : List Byte) (border value : Nat) (y x : Int) (c : Nat) : Nat :=
  if 0 ≤ y ∧ y < src.h ∧ 0 ≤ x ∧ x < src.w then pixelOf b src.fmt src.stride y.toNat x.toNat c
  else if border = 0 then value % (if fmtBytes src.fmt = 2 then 65536 else 256)
  else pixelOf b src.fmt src.stride (clampI 0 (src.h - 1) y).toNat (clampI 0 (src.w - 1) x).toNat c

/-- Whole numbers within half of a coordinate. -/
def nearestTo (q : Rat) : List Int :=
  if q - q.floor < 1 / 2 then [q.floor] else if 1 / 2 < q - q.floor then [q.floor + 1] else [q.floor, q.floor + 1]

/-- Values a sample at a coordinate may have: the nearest pixel, or the bilinear value rounded either way. -/
def warpValues (src : Surf) (b : List Byte) (interp border value : Nat) (y x : Rat) (c : Nat) : List Nat :=
  if interp = 0 then ((nearestTo y).map (fun j => (nearestTo x).map (fun i => borderAt src b border value j i c))).flatten
  else
    let fy := y - y.floor
    let fx := x - x.floor
    let p := fun (j i : Int) => ((borderAt src b border value (y.floor + j) (x.floor + i) c : Nat) : Rat)
    nextTo ((1 - fy) * ((1 - fx) * p 0 0 + fx * p 0 1) + fy * ((1 - fx) * p 1 0 + fx * p 1 1))

/-- Where the perspective matrix takes an output pixel: input coordinates; none where they are no numbers (R496). -/
def perspectiveAt (prm : List Byte) (x y : Nat) : Option (Rat × Rat) :=
  let m := fun (k : Nat) => (BitVec.ofNat 32 (fieldN prm (4 * k) 4) : F32)
  if (List.range 9).any (fun k => fIsNaN (m k) || fIsInf (m k)) then none
  else
    let row := fun (k : Nat) => fRat (m k) * (x : Rat) + fRat (m (k + 1)) * (y : Rat) + fRat (m (k + 2))
    if row 6 = 0 then none else some (row 3 / row 6, row 0 / row 6)

/-- The grid vector at an output pixel, interpolated between grid points; 10.5 fixed point (R496, R498). -/
def remapAt (prm : List Byte) (grid : Surf) (gb : List Byte) (x y : Nat) : Option (Rat × Rat) :=
  let d := fieldN prm 40 1
  if d = 0 then none
  else
    let g := fun (off j i : Nat) => ((fieldI gb (min j (grid.h - 1) * grid.stride + 4 * min i (grid.w - 1) + off) 2 : Int) : Rat) / 32
    let fy : Rat := ((y % d : Nat) : Rat) / d
    let fx : Rat := ((x % d : Nat) : Rat) / d
    let v := fun (off : Nat) =>
      (1 - fy) * ((1 - fx) * g off (y / d) (x / d) + fx * g off (y / d) (x / d + 1)) +
        fy * ((1 - fx) * g off (y / d + 1) (x / d) + fx * g off (y / d + 1) (x / d + 1))
    some ((y : Rat) + v 2, (x : Rat) + v 0)

/-- The output of a warp node. -/
def warpOut (op : Nat) (prm : List Byte) (src : Surf) (b : List Byte) (grid : Surf) (gb : List Byte) (out : Surf) (engine : List Byte) : List Byte :=
  imageBytes out.fmt out.stride ((List.range out.h).map (fun y => ((List.range out.w).map (fun x =>
    let at_ := if op = 0 then perspectiveAt prm x y else remapAt prm grid gb x y
    (List.range (fmtChannels out.fmt)).map (fun c =>
      let own := pixelOf engine out.fmt out.stride y x c
      match at_ with
      | some p => oneOf (warpValues src b (fieldN prm 36 1) (fieldN prm 37 1) (fieldN prm 38 2) p.1 p.2 c) own
      | none => own))).flatten))

/-! ### Pyramid (R496, R498) -/

/-- The binomial weights [1 4 6 4 1]. -/
def binomial (i : Nat) : Nat := lget 0 [1, 4, 6, 4, 1] i

/-- The next level: the 5-tap filter in each direction, then every second pixel; a tap outside the level has no stated value. -/
def nextLevel (fmt w h stride w' h' stride' : Nat) (b engine : List Byte) : List Byte :=
  imageBytes fmt stride' ((List.range h').map (fun y => (List.range w').map (fun x =>
    let own := pixelOf engine fmt stride' y x 0
    if 2 ≤ 2 * y ∧ 2 * y + 2 < h ∧ 2 ≤ 2 * x ∧ 2 * x + 2 < w then
      let sum : Nat := ((List.range 5).map (fun j => ((List.range 5).map (fun i =>
        binomial j * binomial i * pixelOf b fmt stride (2 * y + j - 2) (2 * x + i - 2) 0)).foldl (· + ·) 0)).foldl (· + ·) 0
      oneOf (nextTo ((sum : Rat) / 256)) own
    else own)))

/-- The levels of a pyramid after the first `n` octets; `fmt` is the input's format. -/
def pyramidLevels (fmt : Nat) (out : Surf) (engine : List Byte) : Nat → Nat → List Byte → List Byte
  | 0, _, _ => []
  | n + 1, l, prev =>
    let x : Surf := { out with fmt := fmt }
    let a := levelSize x l
    let e := levelSize x (l + 1)
    let b := nextLevel fmt a.1 a.2.1 a.2.2 e.1 e.2.1 e.2.2 prev (engine.drop (levelBase x (l + 1)))
    b ++ pyramidLevels fmt out engine n (l + 1) b

/-- The output of a pyramid node: level 0 is a copy of the input. -/
def pyramidOut (src : Surf) (b : List Byte) (out : Surf) (engine : List Byte) : List Byte :=
  let e := levelSize { out with fmt := src.fmt } 0
  let l0 := imageBytes src.fmt e.2.2 ((List.range e.2.1).map (fun y => (List.range e.1).map (fun x => pixelOf b src.fmt src.stride y x 0)))
  l0 ++ pyramidLevels src.fmt out engine out.levels 0 l0

/-! ### Statistics (R496, R498) -/

/-- The value a pixel counts with: its channel, or the luma of an RGB pixel. -/
def statValue (fmt ch : Nat) (b : List Byte) (stride y x : Nat) : Nat :=
  if fmt ≠ 3 then pixelOf b fmt stride y x 0
  else if ch < 3 then pixelOf b fmt stride y x ch
  else (let p := pixelOf b fmt stride y x
    oneOf (nextTo (lumaQ (p 0) (p 1) (p 2))) (Config.rgbLuma (p 0) (p 1) (p 2)).toNat)

/-- Count, sum, sum of squares, least and greatest of values. -/
def statSums (l : List Nat) : Nat × Nat × Nat × Nat × Nat :=
  (l.length, l.foldl (· + ·) 0, (l.map (fun v => v * v)).foldl (· + ·) 0, l.foldl min (l.headD 0), l.foldl max 0)

/-- The STATREC of an image: totals, 256 histogram bins and the tiles in raster order; a tile's mean may be rounded either way. -/
def statOut (prm : List Byte) (src : Surf) (b : List Byte) (engine : List Byte) : List Byte :=
  let k := 2 ^ fieldN prm 0 1
  let val := fun (y x : Nat) => statValue src.fmt (fieldN prm 1 1) b src.stride y x
  let region := fun (y0 y1 x0 x1 : Nat) => ((List.range (y1 - y0)).map (fun j => (List.range (x1 - x0)).map (fun i => val (y0 + j) (x0 + i)))).flatten
  let all := region 0 src.h 0 src.w
  let t := statSums all
  let tx := (src.w + k - 1) / k
  let ty := (src.h + k - 1) / k
  let shift := if fmtBytes src.fmt = 2 then 256 else 1
  let head := leBytes 4 t.1 ++ leBytes 8 t.2.1 ++ leBytes 8 t.2.2.1 ++ leBytes 2 t.2.2.2.1 ++ leBytes 2 t.2.2.2.2 ++ leBytes 2 tx ++ leBytes 2 ty
  let bins := ((List.range 256).map (fun i => leBytes 4 ((all.filter (fun v => v / shift % 256 = i)).length))).flatten
  let tile := fun (n : Nat) =>
    let j := n / max 1 tx * k
    let i := n % max 1 tx * k
    let m := statSums (region j (min (j + k) src.h) i (min (i + k) src.w))
    leBytes 2 (oneOf (nextTo ((m.2.1 : Rat) / (max 1 m.1 : Nat))) (fieldN engine (1088 + 8 * n) 2)) ++ leBytes 2 m.2.2.2.1 ++ leBytes 2 m.2.2.2.2 ++ [0, 0]
  fitTo 64 head ++ bins ++ ((List.range (tx * ty)).map tile).flatten

/-! ### Features (R496 to R498, R512) -/

/-- A corner lies inside a hint region: x, y, width, height. -/
def inRegion (r : Nat × Nat × Nat × Nat × Nat) (x y : Nat) : Bool :=
  decide (r.1 ≤ x) && decide (x < r.1 + r.2.2.1) && decide (r.2.1 ≤ y) && decide (y < r.2.1 + r.2.2.2.1)

/-- One corner stands before another: the higher score, then raster order (R497). -/
def cornerBefore (a b : Corner) : Bool :=
  decide (b.score < a.score) || (decide (a.score = b.score) && (decide (a.y < b.y) || (decide (a.y = b.y) && decide (a.x < b.x))))

/-- Corners that no stronger one within the suppression window displaces (R496, R497). -/
def suppressed (nms : Nat) (l : List Corner) : List Corner :=
  let near := fun (a b : Nat) => decide (a ≤ b + nms / 2) && decide (b ≤ a + nms / 2)
  l.filter (fun c => !l.any (fun d => near d.x c.x && near d.y c.y && cornerBefore d c))

/-- Corners that a features node keeps: inside the hint regions for a hint-aware node, which detects none in a run without a region,
after non-maximum suppression, the MAX highest scoring (R497, R512).
Log entry 142: DEDUCED, unsafe. -/
def keptCorners (prm : List Byte) (aware : Bool) (hints : List (Nat × Nat × Nat × Nat × Nat)) (l : List Corner) : List Corner :=
  let l := if !aware then l else l.filter (fun c => hints.any (fun r => inRegion r c.x c.y))
  ((suppressed (fieldN prm 4 1) l).mergeSort (fun a b => cornerBefore a b || a == b)).take (fieldN prm 2 2)

/-- The FEATLIST of corners (R498). -/
def featOut (l : List Corner) : List Byte :=
  fitTo 64 (leBytes 4 l.length) ++
    (l.map (fun c => leBytes 2 c.x ++ leBytes 2 c.y ++ leBytes 2 c.score ++ [c.orient, 0] ++ fitTo 32 c.descriptor)).flatten

/-! ### Refinement (R499 to R504) -/

/-- Elements of refinement tile `t` of an output of `w` by `h`: 32 × 32 in raster order (R499). -/
def tileElems (w h t : Nat) : List (Nat × Nat) :=
  let tx := (w + 31) / 32
  let y0 := t / max 1 tx * 32
  let x0 := t % max 1 tx * 32
  ((List.range (min 32 (h - y0))).map (fun j => (List.range (min 32 (w - x0))).map (fun i => (y0 + j, x0 + i)))).flatten

/-- Mean coarse confidence of a tile. -/
def tileMean (conf : List Nat) (w h t : Nat) : Rat :=
  let l := tileElems w h t
  (((l.map (fun e => lget 0 conf (e.1 * w + e.2) % 128)).foldl (· + ·) 0 : Nat) : Rat) / (max 1 l.length : Nat)

/-- A tile overlaps a hint region; `unit` is the size of an element in level-0 pixels. -/
def tileHinted (hints : List (Nat × Nat × Nat × Nat × Nat)) (unit w h t : Nat) : Bool :=
  (tileElems w h t).any (fun e => hints.any (fun r =>
    decide (r.1 < (e.2 + 1) * unit) && decide (e.2 * unit < r.1 + r.2.2.1) && decide (r.2.1 < (e.1 + 1) * unit) && decide (e.1 * unit < r.2.1 + r.2.2.2.1)))

/-- Candidate tiles in the order of refinement: those that overlap a hint region first, then ascending mean confidence, then raster
order (R499, R500). -/
def refineOrder (prm : List Byte) (hints : List (Nat × Nat × Nat × Nat × Nat)) (unit : Nat) (conf : List Nat) (w h : Nat) : List Nat :=
  let all := List.range ((w + 31) / 32 * ((h + 31) / 32))
  let cand := all.filter (fun t => decide (tileMean conf w h t < fieldN prm 44 1))
  cand.mergeSort (fun a b =>
    let ha := tileHinted hints unit w h a
    let hb := tileHinted hints unit w h b
    if ha != hb then ha
    else decide (tileMean conf w h a < tileMean conf w h b) || (decide (tileMean conf w h a = tileMean conf w h b) && decide (a ≤ b)))

/-- Tiles that are refined: the first candidates, as many as REFINE_TILES and the time allow (R501). -/
def refinedTiles (prm : List Byte) (order : List Nat) (inTime : Option Nat) : List Nat :=
  let n := min (fieldN prm 40 2) order.length
  order.take (match inTime with | some k => min k n | none => n)

/-- The elements of the refined tiles. -/
def refinedElems (w h : Nat) (tiles : List Nat) : List Nat := (tiles.map (fun t => (tileElems w h t).map (fun e => e.1 * w + e.2))).flatten

/-- A CONF8 surface: refined elements carry bit 7 (R498, R503). -/
def confOut (out : Surf) (refined : List Nat) (coarse fine : List Nat) : List Byte :=
  imageBytes out.fmt out.stride ((List.range out.h).map (fun y => (List.range out.w).map (fun x =>
    let i := y * out.w + x
    if refined.contains i then 128 + lget 0 fine i % 128 else lget 0 coarse i % 128)))

/-- The flow or disparity surface: refined elements, and the upsampled coarse value of the others (R503). -/
def fieldOut (out : Surf) (refined : List Nat) (coarse fine : List Nat) : List Byte :=
  let n := fmtBytes out.fmt
  ((List.range out.h).map (fun y => fitTo out.stride ((List.range out.w).map (fun x =>
    let i := y * out.w + x
    leBytes n (if refined.contains i then lget 0 fine i else lget 0 coarse i))).flatten)).flatten

end Sys2Proof.Machine
end

