-- ==== Sys2Proof/Machine/Vision.lean ====
section
/-! DEFINITION. The sequencer of the frame graphs: run starts, nodes, hints and run records (chapter 10). -/

namespace Sys2Proof.Machine

/-! ### Descriptors (R505 to R512) -/

/-- A node of an S graph runs. -/
def sNodeRuns (s : State) : Bool :=
  s.graphs.any (fun g => match g.2.run with | some r => decide (r.part = 0) && r.nodes.contains .running | none => false)

/-- The vision clock in force, MHz: that of the governor's level, and the full clock while a node of an S graph runs (R494, R940, R946). -/
def visionMhz (s : State) : Nat := if sNodeRuns s || decide (s.pwr.level < 4) then 800 else if s.pwr.level = 4 then 600 else 400

/-- A surface entry's field. -/
def surfField (d : List Byte) (i off n : Nat) : Nat := fieldN d (64 + 32 * i + off) n

/-- A node entry's field. -/
def nodeField (d : List Byte) (n off len : Nat) : Nat := fieldN d (1088 + 64 * n + off) len

/-- Nodes of a descriptor. -/
def nodeCount (d : List Byte) : Nat := fieldN d 0 1

/-- Surfaces that node `n` reads: surface and PREV (R509, R510). -/
def nodeInputs (d : List Byte) (n : Nat) : List (Nat × Bool) :=
  ([8, 9, 10].map (fun o => nodeField d n o 1)).filterMap (fun b => if b = 0xFF then none else some (b % 32, b.testBit 7))

/-- Surfaces that node `n` writes. -/
def nodeOutputs (d : List Byte) (n : Nat) : List Nat :=
  ([11, 12].map (fun o => nodeField d n o 1)).filterMap (fun b => if b = 0xFF then none else some (b % 32))

/-- Some node reads surface `i` with PREV (R510, R527). -/
def prevRead (d : List Byte) (i : Nat) : Bool :=
  (List.range (nodeCount d)).any (fun n => (nodeInputs d n).contains (i, true))

/-- Camera surface `i` is read by some node. -/
def camNeeded (d : List Byte) (i : Nat) : Bool :=
  decide (surfField d i 0 1 = 1)

/-- The copy of surface `i` that a run of graph `g` writes, and the one before it (R508, R510). -/
def copyOf (s : State) (g : Nat) (d : List Byte) (i : Nat) (prev : Bool) : Nat :=
  let c := max 1 (surfField d i 2 1)
  let k := tget 0 (gph s g).copies i % c
  if prev then (k + c - 1) % c else k

/-- Flag of a copy of a Grotto surface (R508). -/
def copyFlag (d : List Byte) (i c : Nat) : Nat := surfField d i 16 2 + c

/-- Grotto surfaces that some node of the descriptor writes, ascending. -/
def grottoOutputs (d : List Byte) : List Nat :=
  (List.range 32).filter (fun i => decide (surfField d i 0 1 = 2) && (List.range (nodeCount d)).any (fun n => (nodeOutputs d n).contains i))

/-! ### Run start (R513 to R518, R522, R525) -/

/-- The hint set a run takes: the kept one when it is younger than HINT_AGE (R525). -/
def freshHint (s : State) (g : Nat) : Option HintSet :=
  match (gph s g).hint with
  | some h => if (s.lan.lt + 2 ^ 32 - h.lt % 2 ^ 32) % 2 ^ 32 < graphField s g 12 4 then some h else none
  | none => none

/-- The camera flags a start would bind, surface 0 first (R507, R513). -/
def startCams (s : State) (g : Nat) (st : Start) : List Nat :=
  if st.source = 0 then st.cams else (newestCams s g).map (fun p => p.2)

/-- The head start of an idle graph begins a run, or leaves a record (R514, R517, R518, R522).
Log entry 32: DEDUCED, unsafe. -/
def beginRun (s : State) (g : Nat) : State :=
  let x := gph s g
  match x.run, x.pending with
  | none, st :: rest =>
    let d := stored s (0x2600 + g) 2
    let cams := (startCams s g st).filter (fun f => (flag s f).mode == .valid)
    let taken := if st.source = 0 then [] else (newestCams s g)
    let s := useFresh (setGph s g { x with pending := rest }) g taken
    let need := ([0, 1].filter (camNeeded d)).length
    if cams.length < need then noRun s g 2 cams
    else if (grottoOutputs d).any (fun i => decide ((flag s (copyFlag d i (copyOf s g d i false))).mode ≠ .free)) then noRun s g 4 cams
    else
      let stamp := (cams.filterMap (fun f => (flag s f).stamp)).foldl
        (fun (a : Option Stamp) y => some (match a with | some z => earlier z y | none => y)) none
      let run : Run :=
        { seq := x.seq, order := s.runOrder, desc := d, part := fieldN d 2 1, nodes := List.replicate (nodeCount d) .waiting,
          cams := (List.range 2).map (fun i => if camNeeded d i then cams[(([0, 1].filter (camNeeded d)).idxOf i)]? else none),
          stamp := stamp.getD (stampNow s 0 true), flags := 0, tiles := 0, status := 0, failNode := 0xFF, startTime := s.trep.time,
          hint := freshHint s g, winGen := s.mem.pwinGen }
      let run := { run with flags := if run.hint.isSome then 32 else 0 }
      setGph { s with runOrder := s.runOrder + 1 } g { gph s g with run := some run, seq := wrap32 (x.seq + 1) }
  | _, _ => s

/-! ### Nodes (R519 to R521, R526, R530) -/

/-- Instances of engine place `e` (R493). -/
def engineInstances (e : Nat) : Nat := lget 0 [2, 2, 1, 1, 1, 2] e

/-- Work on engine place `e`: graph × 32 + node. -/
def engineWork (s : State) (e : Nat) : List Nat := tget [] s.engines e

/-- An engine place is left by a node. -/
def leaveEngines (s : State) (w : Nat) : State :=
  (List.range 6).foldl (fun s e => { s with engines := tset [] s.engines e ((engineWork s e).filter (· ≠ w)) }) s

/-- An input of a run is VALID: a camera buffer, a Grotto copy, or a DRAM copy, which carries no state (R519, R531). -/
def inputValid (s : State) (g : Nat) (r : Run) (i : Nat × Bool) : Bool :=
  let k := surfField r.desc i.1 0 1
  if k = 1 then (match lget none r.cams i.1 with | some f => (flag s f).mode == .valid | none => false)
  else if k = 2 then (flag s (copyFlag r.desc i.1 (copyOf s g r.desc i.1 i.2))).mode == .valid
  else true

/-- Node `n` of a run is ready (R519). -/
def nodeReady (s : State) (g : Nat) (r : Run) (n : Nat) : Bool :=
  decide (r.status = 0) && lget .skipped r.nodes n == .waiting &&
    (bitList (nodeField r.desc n 4 4) 32).all (fun p => lget .skipped r.nodes p == .done) &&
    (nodeInputs r.desc n).all (inputValid s g r)

/-- Nodes ready for engine code `e + 1`, with their rank by R520: partition, run start, graph, node. -/
def readyNodes (s : State) (e : Nat) : List (Nat × Nat × Nat × Nat) :=
  ((List.range 8).map (fun g =>
    match (gph s g).run with
    | none => []
    | some r =>
      ((List.range r.nodes.length).filter (fun n => nodeField r.desc n 0 1 = e + 1 && nodeReady s g r n)).map
        (fun n => (r.part, r.order, g, n)))).flatten

/-- The first of two candidates by R520. -/
def nodeBefore (x y : Nat × Nat × Nat × Nat) : Bool :=
  decide (x.1 < y.1) || (decide (x.1 = y.1) && (decide (x.2.1 < y.2.1) || (decide (x.2.1 = y.2.1) &&
    (decide (x.2.2.1 < y.2.2.1) || (decide (x.2.2.1 = y.2.2.1) && decide (x.2.2.2 < y.2.2.2))))))

/-- The best candidate. -/
def bestNode : List (Nat × Nat × Nat × Nat) → Option (Nat × Nat × Nat × Nat)
  | [] => none
  | x :: t => match bestNode t with | some y => some (if nodeBefore y x then y else x) | none => some x

/-- A node starts: its Grotto copies enter FILLING with their flags cleared (R526). -/
def startNode (s : State) (g n : Nat) (r : Run) : State :=
  let s := (nodeOutputs r.desc n).foldl
    (fun s i =>
      if surfField r.desc i 0 1 = 2 then
        let f := copyFlag r.desc i (copyOf s g r.desc i false)
        setFlag s f { flag s f with set := false, mode := .filling, hold := 0, stamp := none }
      else s) s
  setGph s g { gph s g with run := some { r with nodes := r.nodes.set n .running } }

/-- Nodes of a run that can still read surface `i`. -/
def readersLeft (r : Run) (i : Nat) : Bool :=
  (List.range r.nodes.length).any
    (fun n => (lget .skipped r.nodes n == .waiting || lget .skipped r.nodes n == .running) && (nodeInputs r.desc n).any (fun p => p.1 = i))

/-- The run releases the camera buffers that no node will read any more (R530). -/
def releaseRead (s : State) (g : Nat) : State :=
  match (gph s g).run with
  | none => s
  | some r =>
    [0, 1].foldl
      (fun s i =>
        match (gph s g).run with
        | none => s
        | some r' =>
          (match lget none r'.cams i with
           | some f => if readersLeft r i then s
                       else flagRelease (setGph s g { gph s g with run := some { r' with cams := r'.cams.set i none } }) f
           | none => s)) s

/-- Stores of a run that have not been accepted (R524, R433). -/
def runStores (s : State) (g : Nat) (r : Run) : Bool :=
  s.mem.stores.any (fun p => decide (p.who.agent = .vision) && decide (p.who.client = g) && decide (p.who.unit = r.seq))

/-- The copies of a run at its end: FILLING ones become FREE, those without consumers become FREE now or a run later, and
the next run writes the next copy (R527, R537). -/
def endCopies (s : State) (g : Nat) (d : List Byte) : State :=
  let free := fun (s : State) (i c : Nat) =>
    let f := copyFlag d i c
    setFlag s f { flag s f with mode := .free, hold := 0 }
  let s := (grottoOutputs d).foldl
    (fun s i =>
      let c := copyOf s g d i false
      let s := if (flag s (copyFlag d i c)).mode = .filling then free s i c else s
      if surfField d i 3 1 ≠ 0 then s
      else if prevRead d i then
        (let p := copyOf s g d i true
         if (flag s (copyFlag d i p)).mode = .valid then free s i p else s)
      else if (flag s (copyFlag d i c)).mode = .valid then free s i c else s) s
  (List.range 32).foldl
    (fun s i =>
      if surfField d i 0 1 = 0 then s
      else setGph s g { gph s g with copies := tset 0 (gph s g).copies i ((copyOf s g d i false + 1) % max 1 (surfField d i 2 1)) }) s

/-- A run ends: copies, counters, record, camera buffers; the graph is idle (R524, R533). -/
def endRun (s : State) (g : Nat) (r : Run) : State :=
  let s := endCopies s g r.desc
  let s := if r.status = 0 then bump s (0x2610 + g) 1 else if r.status = 5 then bump s (0x2610 + g) 3 else s
  let s := if r.flags.testBit 0 then bump s (0x2610 + g) 4 else s
  let done := (r.nodes.filter (fun n => n == .done)).length
  let s := visRecord s g r.part r.seq
    (runBytes g r.status r.flags r.seq r.stamp ((s.trep.time - r.startTime) / 1000) r.tiles done r.failNode)
  let s := (r.cams.filterMap id).foldl flagRelease s
  setGph s g { gph s g with run := none }

/-- The run of graph `g` ends when no node is left and its stores are accepted (R524). -/
def runTryEnd (s : State) (g : Nat) : State :=
  match (gph s g).run with
  | none => s
  | some r =>
    if r.nodes.any (fun n => n == .waiting || n == .running) || runStores s g r then s else endRun s g r

/-- A run fails: its first status stands, and its waiting nodes are skipped (R537 to R541).
Log entry 32: DEDUCED, unsafe. -/
def failRun (r : Run) (status node : Nat) : Run :=
  { r with status := if r.status = 0 then status else r.status, failNode := if r.status = 0 then node else r.failNode,
           nodes := r.nodes.map (fun n => if n = .waiting then .skipped else n) }

/-- A node's copies become VALID with the run's stamp and sequence (R526, R542). -/
def publishCopies (s : State) (g n : Nat) (r : Run) : State :=
  (nodeOutputs r.desc n).foldl
    (fun s i =>
      if surfField r.desc i 0 1 = 2 then
        publish s (copyFlag r.desc i (copyOf s g r.desc i false)) r.stamp r.seq (surfField r.desc i 3 1)
      else s) s

/-- Stores of a run that have not been accepted. -/
def runStoreCount (s : State) (g : Nat) (r : Run) : Nat :=
  (s.mem.stores.filter (fun p => decide (p.who.agent = .vision) && decide (p.who.client = g) && decide (p.who.unit = r.seq))).length

/-- A completed node's copies become VALID once its stores are accepted (R526). -/
def publishNode (s : State) (g n : Nat) (r : Run) : State :=
  let k := runStoreCount s g r
  if k = 0 then publishCopies s g n r
  else
    match (gph s g).run with
    | some r' => setGph s g { gph s g with run := some { r' with posted := r'.posted ++ [(n, k)] } }
    | none => s

/-- A store of a run has been accepted: nodes whose last store it was publish their copies, and the run may end (R524, R526). -/
def runStoreTaken (s : State) (g unit : Nat) : State :=
  match (gph s g).run with
  | none => s
  | some r =>
    if r.seq ≠ unit then s
    else
      let due := (r.posted.filter (fun e => e.2 ≤ 1)).map (fun e => e.1)
      let s := setGph s g { gph s g with run := some { r with posted := (r.posted.filter (fun e => 1 < e.2)).map (fun e => (e.1, e.2 - 1)) } }
      runTryEnd (due.foldl (fun s n => publishCopies s g n r) s) g

/-- Node of a run whose DRAM output covers a line, the issuer of a store to it (R540). -/
def nodeOfLine (s : State) (g : Nat) (r : Run) (line : Nat) : Nat :=
  ((List.range r.nodes.length).find? (fun n =>
    (nodeOutputs r.desc n).any (fun i =>
      let base := surfField r.desc i 24 8 + copyOf s g r.desc i false * surfField r.desc i 20 4
      decide (surfField r.desc i 0 1 = 3) && decide (base ≤ line) && decide (line < base + max 64 (surfField r.desc i 20 4))))).getD 0xFF

/-- A store of the run failed after issue: LATE_STORE_FAULT (R540). -/
def runLateFault (s : State) (g line : Nat) : State :=
  match (gph s g).run with
  | none => s
  | some r => setGph s g { gph s g with run := some (failRun r 7 (nodeOfLine s g r line)) }

/-! ### What a node reads, computes and writes (R493 to R504, R510, R539) -/

/-- The surface a descriptor's entry names in a run: a camera buffer, or a copy in Grotto or DRAM (R506 to R508, R510). -/
def surfaceOf (s : State) (g : Nat) (r : Run) (i : Nat) (prev : Bool) : Surf :=
  let d := r.desc
  let c := copyOf s g d i prev
  if surfField d i 0 1 = 1 then
    let m := (flag s ((lget none r.cams i).getD 0)).image
    { grotto := true, base := m.1, fmt := m.2.1, w := m.2.2.1, h := m.2.2.2, stride := strideOf (m.2.2.1 * fmtBytes m.2.1), levels := 0 }
  else
    { grotto := decide (surfField d i 0 1 = 2)
      base := if surfField d i 0 1 = 2 then (surfField d i 12 2 + c * surfField d i 14 2) * 65536 else surfField d i 24 8 + c * surfField d i 20 4
      fmt := surfField d i 1 1, w := surfField d i 4 2, h := surfField d i 6 2, stride := surfField d i 8 4, levels := surfField d i 18 1 }

/-- Octets of a surface; a DRAM load that fails its window check or reads poison is marked (R402, R419, R539). -/
def readSurface (s : State) (g : Nat) (r : Run) (x : Surf) : State × List Byte × Bool :=
  if x.grotto then (s, grottoRead s x.base (surfaceSize x), true)
  else
    let w := runOrigin r.part g r.seq
    let e := engLoad s w x.base (surfaceSize x)
    (countLine e.1 w.tag (linesOf x.base (surfaceSize x)).length, e.2.1, e.2.2.1 && e.2.2.2)

/-- Every input of a node is read: surfaces with their octets, and whether all loads passed. -/
def readInputs (s : State) (g n : Nat) (r : Run) : State × List (Surf × List Byte) × Bool :=
  (nodeInputs r.desc n).foldl
    (fun acc i =>
      let x := surfaceOf acc.1 g r i.1 i.2
      let e := readSurface acc.1 g r x
      (e.1, acc.2.1 ++ [(x, e.2.1)], acc.2.2 && e.2.2))
    (s, [], true)

/-- A node refines (R502). -/
def nodeRefines (r : Run) (n : Nat) : Bool := (nodeField r.desc n 2 1).testBit 0 && decide (nodeField r.desc n 56 2 ≠ 0)

/-- Hint regions that a hint-aware node uses (R500, R512). -/
def nodeHints (r : Run) (n : Nat) : List (Nat × Nat × Nat × Nat × Nat) :=
  if (nodeField r.desc n 2 1).testBit 1 then (r.hint.map (fun h => h.regions)).getD [] else []

/-- Engine parameters of a node (R509). -/
def nodeParams (r : Run) (n : Nat) : List Byte := slice r.desc (1104 + 64 * n) 48

/-- Candidate tiles of a node in the order of refinement (R499, R500), for its output's size. -/
def nodeOrder (r : Run) (n : Nat) (info : NodeEnd) (w h : Nat) : List Nat :=
  let unit := if nodeField r.desc n 0 1 = 3 then nodeField r.desc n 16 1 else 1
  if nodeRefines r n then refineOrder (nodeParams r n) (nodeHints r n) unit info.conf w h else []

/-- Tiles that a node refines (R501). -/
def nodeTiles (r : Run) (n : Nat) (info : NodeEnd) (w h : Nat) : List Nat :=
  refinedTiles (nodeParams r n) (nodeOrder r n info w h) ((r.timed.find? (fun e => e.1 = n)).map (fun e => e.2))

/-- Octets of output `k` of a node, from its inputs and what its engine found (R496 to R498, R503, R512). -/
def nodeOut (r : Run) (n : Nat) (info : NodeEnd) (ins : List (Surf × List Byte)) (out : Surf) (k : Nat) : List Byte :=
  let prm := nodeParams r n
  let src := ins.headD (out, [])
  let own := lget [] info.engine k
  match nodeField r.desc n 0 1 with
  | 1 =>
    let grid := ins.getD 1 src
    warpOut (nodeField r.desc n 1 1) prm src.1 src.2 grid.1 grid.2 out own
  | 2 => pyramidOut src.1 src.2 out own
  | 3 | 4 =>
    let el := refinedElems out.w out.h (nodeTiles r n info out.w out.h)
    if k = 0 then fieldOut out el info.coarse info.fine else confOut out el info.conf info.fineConf
  | 5 => featOut (keptCorners prm ((nodeField r.desc n 2 1).testBit 1) (nodeHints r n) info.corners)
  | _ => statOut prm src.1 src.2 own

/-- Octets go to a surface: at once to Grotto, posted line by line to DRAM; a refused line ends the run LATE_STORE_FAULT (R523, R526,
R540). -/
def writeSurface (s : State) (g : Nat) (r : Run) (x : Surf) (b : List Byte) : State :=
  if x.grotto then grottoWrite s x.base b
  else
    (lineStores x.base b).foldl
      (fun s e => let p := postStore s (runOrigin r.part g r.seq) e.1 e.2.1 e.2.2; if p.2 then p.1 else runLateFault p.1 g e.1) s

/-- Every output of a node is written. -/
def writeOutputs (s : State) (g n : Nat) (r : Run) (info : NodeEnd) (ins : List (Surf × List Byte)) : State :=
  (nodeOutputs r.desc n).zipIdx.foldl
    (fun s e => let x := surfaceOf s g r e.1 false; writeSurface s g r x (fitTo (surfaceSize x) (nodeOut r n info ins x e.2))) s

/-! ### The commands -/

/-- R528. -/
def execVisFlagRelease (value : BitVec 32) (s : State) : Out :=
  .next (if hostUp s then flagRelease s (value.toNat % 1024) else s)

/-- R513: a software start. -/
def execVisGraphStart (value : BitVec 32) (s : State) : Out :=
  let g := value.toNat % 8
  .next (if hostUp s && graphStarts s g 2 then graphRequest s g { source := 2 } else s)

/-- R518. -/
def execRunStart (graph : Fin 8) (s : State) : Out :=
  .next (if hostUp s then beginRun s graph.val else s)

/-- R519, R520: the first ready node goes to a free instance. -/
def execNodeDispatch (engine : Fin 6) (s : State) : Out :=
  let e := engine.val
  .next (if !hostUp s || decide (engineInstances e ≤ (engineWork s e).length) then s
    else
      match bestNode (readyNodes s e) with
      | none => s
      | some (_, _, g, n) =>
        (match (gph s g).run with
         | some r => { startNode s g n r with engines := tset [] s.engines e (engineWork s e ++ [32 * g + n]) }
         | none => s))

/-- R497 to R504, R526, R530, R539, R541. -/
def execNodeComplete (graph : Fin 8) (node : Fin 32) (info : NodeEnd) (s : State) : Out :=
  let g := graph.val
  let n := node.val
  .next (match (gph s g).run with
    | none => s
    | some r =>
      if !hostUp s || lget .skipped r.nodes n != .running then s
      else
        let x := surfaceOf s g r ((nodeOutputs r.desc n).headD 0) false
        let tiles := nodeTiles r n info x.w x.h
        let e := readInputs s g n r
        let r := { r with nodes := r.nodes.set n .done,
                          tiles := (r.tiles + tiles.length) % 65536,
                          flags := if tiles.length < (nodeOrder r n info x.w x.h).length then setBit r.flags 0 true else r.flags }
        let r := if info.grotto = .uncorrectable then failRun r 9 n else if !e.2.2 then failRun r 6 n else r
        let s := leaveEngines (setGph e.1 g { gph e.1 g with run := some r }) (32 * g + n)
        let s := writeOutputs s g n r info e.2.1
        let s := if info.grotto = .corrected then bump s 0x2620 3 else s
        let s := if info.grotto = .uncorrectable then
            drawn (logHost (bump s 0x2620 4) (mkRec 8 23 (Config.memoryCode 3 :: leBytes 8 (freeW s).toNat) (part := r.part)))
          else s
        runTryEnd (releaseRead (publishNode s g n r) g) g)

/-- R537. -/
def execNodeTimeLimit (graph : Fin 8) (node : Fin 32) (s : State) : Out :=
  let g := graph.val
  let n := node.val
  .next (match (gph s g).run with
    | none => s
    | some r =>
      if !hostUp s || lget .skipped r.nodes n != .running then s
      else
        let s := setGph s g { gph s g with run := some (failRun { r with nodes := r.nodes.set n .skipped } 5 n) }
        runTryEnd (releaseRead (leaveEngines s (32 * g + n)) g) g)

/-- R538: the run ends as R537 describes; its running nodes stop.
Log entry 32: DEDUCED, unsafe. -/
def execRunLimitExpiry (graph : Fin 8) (s : State) : Out :=
  let g := graph.val
  .next (match (gph s g).run with
    | none => s
    | some r =>
      if !hostUp s || decide (fieldN r.desc 8 4 = 0) || decide (s.trep.time < r.startTime + 1000 * fieldN r.desc 8 4) then s
      else
        let on := (List.range r.nodes.length).filter (fun n => lget .skipped r.nodes n == .running)
        let r' := failRun { r with nodes := r.nodes.map (fun m => if m = .running then .skipped else m) } 8 (on.headD 0xFF)
        let s := on.foldl (fun s n => leaveEngines s (32 * g + n)) (setGph s g { gph s g with run := some r' })
        runTryEnd (releaseRead s g) g)

/-- R501: the refinement time of a node has passed with `tiles` tiles done, the one in progress included.
Log entry 32: DEDUCED, unsafe. -/
def execRefineTimeLimit (graph : Fin 8) (node : Fin 32) (tiles : Nat) (s : State) : Out :=
  let g := graph.val
  .next (match (gph s g).run with
    | none => s
    | some r =>
      if hostUp s && lget .skipped r.nodes node.val == .running && nodeRefines r node.val && !r.timed.any (fun e => e.1 == node.val) then
        setGph s g { gph s g with run := some { r with timed := r.timed ++ [(node.val, tiles)] } }
      else s)

/-- R513, R525: the newest hint set is kept, and starts a run where the graph's START names it. -/
def execHintSetArrival (graph : Fin 8) (s : State) : Out :=
  let g := graph.val
  .next (match (s.lan.kept.filter (fun h => h.1 = g)).getLast? with
    | none => s
    | some h =>
      if !hostUp s then s
      else
        let s := setGph { s with lan := { s.lan with kept := s.lan.kept.filter (fun h => h.1 ≠ g) } } g { gph s g with hint := some h.2 }
        if graphStarts s g 3 then graphRequest s g { source := 3 } else s)

end Sys2Proof.Machine
end

