-- ==== Sys2Proof/Machine/Regs.lean ====
section
/-! DEFINITION. The registers as a load reads them: stored ones, and those that follow the state of a unit. -/

namespace Sys2Proof.Machine

/-- Block SYSCTL (R1000). -/
def readSysctl (s : State) (o : Nat) : Nat :=
  if o = 0 then s.hboot.cause
  else if o = 4 then
    (if hostUp s then 3 else s.hboot.stage % 4) + 4 * b2n s.hboot.slotB + 8 * b2n s.hboot.trial + 256 * (s.hboot.error % 256)
  else if o = 8 then b2n s.hboot.store.keySet + 2 * b2n s.hboot.store.debugLock
  else 0

/-- Link state code (R223, R224). -/
def LinkMode.code : LinkMode → Nat
  | .down => 0 | .training => 1 | .up => 2

/-- ROPE_STATUS (R224). -/
def ropeStatus (s : State) : Nat :=
  s.link.mode.code + 4 * (if s.link.width = 4 then 3 else s.link.width % 4) + 16 * b2n s.link.tallyLock +
    32 * b2n (s.hend.timing && !s.hend.lost) + 64 * (s.link.hostOutcome % 4) + 256 * b2n s.link.superseded

/-- DP_STATUS (R259). -/
def dpStatus (s : State) : Nat :=
  reg s (bDP + 0x2C) &&& 12 ||| (b2n (portRunning s) + 2 * b2n (decide (16 ≤ s.hostSlots.length)))

/-- NQ_STATUS of a queue (R599). -/
def nqStatus (s : State) (q : Nat) : Nat :=
  let size := 2 ^ bits (reg s (nqReg q 0x10)) 15 12
  let used := (reg s (nqReg q 0x20) + 65536 - reg s (nqReg q 0x24) % 65536) % 65536
  let j := (que s q).job
  b2n (j.any (fun j => j.mode == .running)) + 2 * b2n (j.any (fun j => j.held)) +
    4 * b2n (j.any (fun j => j.w0 == .open_ || j.w1 == .open_ || j.frameWait)) + (reg s (nqReg q 0x14) &&& 8) + 16 * b2n (decide (size ≤ used))

/-- GAL_CLOCK (R584). -/
def galClock (s : State) : Nat :=
  maskOf ((List.range 8).filter (fun i => (core' s i).busy.isSome)) +
    65536 * ((List.range 8).foldl (fun m i => if (core' s i).busy.isSome then max m (core' s i).mhz else m) 0)

/-- LAN_STATUS (R722). -/
def lanStatus (s : State) : Nat :=
  let on := objB s 0x2C00 1
  let receiving := on && (objN s 0x2C00 2 == 0 || (objB s 0x2403 1 && objN s 0x2403 5 == 1))
  (if !on then 0 else if s.hboot.mode = .watch then 1 else 2) + 4 * b2n receiving + 8 * b2n s.lan.overflow +
    16 * b2n s.lan.uncorrectable

/-- PMU_STATE (R961). -/
def pmuState (s : State) : Nat := (if s.pwr.mode = .inspectIdle then 1 else 0) + 256 * (s.pwr.offCause % 256)

/-- The fabric record in slot `k` of FAB's circular buffer (R438). -/
def fabSlot (s : State) (k : Nat) : List Byte :=
  match (s.mem.fab.zipIdx).find? (fun p => decide ((s.mem.fabCount + 63 * 2 ^ 32 - 1 - p.2) % 64 = k)) with
  | some p => p.1.bytes
  | none => List.replicate 32 0

/-- The 32-bit word a load reads at offset `o` of a block. FAB_COUNT and MC_CE_COUNT are given no offset (log entry 42).
Log entry 42: PRESUMED, unsafe. Log entry 91: DEDUCED, unsafe. -/
def readWord (s : State) (name : String) (base o : Nat) : Nat :=
  let word := reg s (base + o / 4 * 4) % 2 ^ 32
  let wide := if o % 8 = 4 then reg s (base + o / 8 * 8) / 2 ^ 32 % 2 ^ 32 else reg s (base + o / 8 * 8) % 2 ^ 32
  match name with
  | "SYSCTL" => readSysctl s o
  | "ROPE" => if o = 0 then ropeStatus s else 0
  | "DP" => if o = 0x2C then dpStatus s else if o < 8 ∨ (0x10 ≤ o ∧ o < 0x18) ∨ (0x20 ≤ o ∧ o < 0x28) then wide else word
  | "FAB" => if 0x1000 ≤ o ∧ o < 0x1800 then fieldN (fabSlot s ((o - 0x1000) / 32)) (o % 32) 4 else if o = 0 then s.mem.fabCount % 2 ^ 32 else 0
  | "MC" => if o = 0 then b2n s.mem.ecc else if o = 4 then s.mem.ceCount % 2 ^ 32 else 0
  | "KEEP" => if o < 0x100 then wide else word
  | "PWIN" =>
    if o < 0x400 then bits (tget 0 s.mem.pwinLive (o / 16)).toNat (o % 16 * 8 + 31) (o % 16 * 8)
    else if o < 0x800 then bits (tget 0 s.mem.pwinShadow ((o - 0x400) / 16)).toNat (o % 16 * 8 + 31) (o % 16 * 8)
    else 0
  | "PMU" =>
    if o = 0 then pmuState s
    else if o = 4 then s.pwr.level % 8 + 8 * b2n s.pwr.thermal
    else if o = 8 then s.pwr.rails.toNat
    else if o = 0x0C then s.pwr.wakeBits.toNat
    else if 0x100 ≤ o ∧ o < 0x158 then tget 0 s.pwr.energy ((o - 0x100) / 8) / (if o % 8 = 4 then 2 ^ 32 else 1) % 2 ^ 32
    else 0
  | "APLIC_M" => aplicRead s true o
  | "APLIC_S" => aplicRead s false o
  | "IMSIC_M" => 0
  | "IMSIC_S" => 0
  | "NQ" =>
    let p := o % 4096
    if p = 0x14 then nqStatus s (o / 4096) else if p < 0x10 ∨ (0x28 ≤ p ∧ p < 0x30) then wide else word
  | "GAL" =>
    if o = 0 then galClock s
    else if o = 4 then s.gal.eccStatus.toNat
    else if o = 8 then b2n s.gal.ready
    else if o = 0x8008 then s.kv.winRead.toNat % 2 ^ 32
    else if o = 0x800C then s.kv.winRead.toNat / 2 ^ 32
    else word
  | "CAM" => if o % 0x100 < 8 then wide else word
  | "VIS" =>
    if 0x100 ≤ o ∧ o < 0x180 then maskOf ((List.range 32).filter (fun j => (flag s ((o - 0x100) / 4 * 32 + j)).set))
    else if 0x1000 ≤ o ∧ o < 0x2000 then (flag s ((o - 0x1000) / 4)).gen % 65536
    else if o < 8 then wide else word
  | "LAN" => if o = 0 then lanStatus s else if o = 4 then s.lan.wake.toNat else if o = 8 then s.lan.lt else 0
  | "COMP" =>
    if o = 0x0C then s.comp.frame % 2 ^ 32
    else if o = 0x44 then word / 2 * 2 % 64 + b2n s.comp.hpd
    else if (0x10 ≤ o ∧ o < 0x40) ∨ (0x100 ≤ o ∧ o < 0x108) then wide else word
  | _ => word

end Sys2Proof.Machine
end

