-- ==== Sys2Proof/Machine/Live.lean ====
section
/-! DEFINITION. The value a read of an object returns: an object that follows the state of a unit reads from it, every
other one from its store (R238). -/

namespace Sys2Proof.Machine

/-- Levels and build of an image, as 0x2001 and 0x2002 number them (R277). -/
def levelOf (l : Levels) (sub : Nat) : List Byte :=
  match sub with
  | 1 => leBytes 2 l.rpl.toNat
  | 2 => leBytes 2 l.dsl.toNat
  | 3 => leBytes 2 l.qal.toNat
  | 4 => leBytes 2 l.mbl.toNat
  | 5 => leBytes 4 l.build.toNat
  | _ => leBytes 1 (b2n l.slotB)

/-- Code of a stage set's state (R313). -/
def SetMode.code : SetMode → Nat
  | .idle => 0 | .opened => 1 | .checking => 2 | .checked => 3 | .arming => 4 | .armed => 5 | .applied => 6 | .failed => 7

/-- Code of a set's owner (R313). -/
def ownerCode : Option Source → Nat
  | none => 0 | some .master => 1 | some .port => 2 | some .device => 3

/-- Bytes of a set's entries (R286). -/
def entryBytes (l : List (Nat × Nat × List Byte)) : Nat := l.foldl (fun n e => n + 8 + (e.2.2.length + 3) / 4 * 4) 0

/-- Live values of a stage set (R313). -/
def liveSet (s : State) (i sub : Nat) : Option (List Byte) :=
  let x := stg s i
  match sub with
  | 2 => some (leBytes 1 x.mode.code)
  | 3 => some (leBytes 1 (ownerCode x.owner))
  | 4 => some (leBytes 2 x.entries.length)
  | 5 => some (leBytes 4 (entryBytes x.entries))
  | 9 => some (leBytes 8 (match x.instant with | some (.time t) => t | _ => 0))
  | 0x0A => some (leBytesI 8 (match x.instant with | some (.position p) => p | _ => 0))
  | 0x0B => some (leBytes 1 x.rule)
  | 0x0C => some (leBytes 2 x.failEntry)
  | 0x0D => some (leBytes 1 x.failDie)
  | 0x0E => some (leBytes 8 x.appliedTime)
  | 0x0F => some (leBytesI 8 x.appliedPos)
  | 0x10 => some (leBytes 1 (b2n x.late + 2 * b2n x.hostLate + 4 * b2n x.isRollback))
  | _ => none

/-- Live values of one axis's control engine and motion I/O (R794, R848). -/
def liveAxis (s : State) (a off sub : Nat) : Option (List Byte) :=
  let c := ce s a
  if off = 4 then
    match sub with
    | 1 => some (leBytes 1 c.region)
    | 2 => some (leBytes 4 c.rf.toNat)
    | 3 => some (leBytes 4 c.tl.toNat)
    | 4 => some (leBytes 4 c.iqRef.toNat)
    | 5 => some (leBytes 4 c.iDAct.toNat)
    | 6 => some (leBytes 4 c.iQAct.toNat)
    | 7 => some (leBytes 4 c.vD.toNat)
    | 8 => some (leBytes 4 c.vQ.toNat)
    | 9 => some (leBytes 2 (ceFlags s a))
    | _ => none
  else if off = 5 then
    match sub with
    | 1 => some (leBytes 1 c.fifo.length)
    | 2 => some (leBytes 2 (match c.fifo with | h :: _ => h.rtag | [] => 0))
    | _ => none
  else if off = 0x33 ∧ sub = 7 then some (leBytes 1 (latchByte s a))
  else none

/-- Live CiA 402 values (R850). -/
def liveCia (s : State) (a i : Nat) : Option (List Byte) :=
  let c := ce s a
  match i with
  | 0x6041 => some (leBytes 2 (statusword s a))
  | 0x6061 => some (leBytes 1 (modeOf s a))
  | 0x6064 => some (leBytesI 4 (intUnits s a c.pAct))
  | 0x606C => some (leBytesI 4 (fToInt 32 c.vAct))
  | 0x6077 => some (leBytesI 2 (perMille (fMul (objF s (axA a + 1) 2) c.iQAct) (cN s 0x6076 a)))
  | 0x6078 => some (leBytesI 2 (perMille c.iQAct (cN s 0x6075 a)))
  | 0x60F4 => some (leBytesI 4 (followingError s a))
  | _ => none

/-- Live Rope and boot values of the field die (R223, R1001). -/
def liveRope (s : State) (i sub : Nat) : Option (List Byte) :=
  match i, sub with
  | 0x3A00, 1 => some (leBytes 1 s.link.mode.code)
  | 0x3A00, 2 => some (leBytes 1 s.link.width)
  | 0x3A00, 3 => some (leBytes 1 s.link.healthy.toNat)
  | 0x3A00, 4 => some (leBytes 2 s.link.d)
  | 0x3A00, 5 => some (leBytes 2 s.link.tallyDelay)
  | 0x3A40, 2 => some (leBytes 1 s.link.outcome)
  | 0x3A40, 5 => some (leBytes 1 s.fboot.cause)
  | 0x3A40, 6 => some (leBytes 1 (b2n s.fboot.slotB))
  | 0x3A40, 7 => some (leBytes 1 (if s.fboot.trial then b2n s.fboot.slotB else 0xFF))
  | 0x3A40, 8 => some (leBytes 1 (b2n s.fboot.store.debugLock))
  | _, _ => none

/-- Live values of position and clocks (R104, R160). -/
def livePos (s : State) (i sub : Nat) : Option (List Byte) :=
  match i, sub with
  | 0x2200, 1 => some (leBytesI 8 (linePos s))
  | 0x2200, 2 => some (leBytes 1 (posByte s))
  | 0x2200, 3 => some (leBytes 4 (fOfRat s.pos.v).toNat)
  | 0x2200, 4 => some (leBytes 4 (fOfRat s.pos.a).toNat)
  | 0x2220, 1 => some (leBytes 8 s.fclk.time)
  | 0x2220, 2 => some (leBytes 1 (fclkByte s))
  | 0x2220, 3 => some (leBytesI 4 (ppb (applied s)))
  | 0x2220, 5 => some (leBytes 4 (if s.fclk.mode = .locked then 0 else s.fclk.inState / 1000000))
  | 0x2242, 5 => some (leBytes 1 (enabledMask s))
  | 0x2280, 1 => some (leBytes 8 (match s.pairs.p2 with | some p => p.2.1 | none => 0))
  | 0x2280, 2 => some [s.pairs.clock]
  | 0x2280, 3 => some (leBytesI 8 s.pairs.offset)
  | 0x2280, 4 => some (leBytes 8 (match s.pairs.p2 with | some p => p.1 | none => 0))
  | 0x2280, 5 => some (leBytes 8 (match s.pairs.p2 with | some p => p.2.1 | none => 0))
  | _, _ => none

/-- Live communication and fieldbus values (R275, R329, R338, R369). -/
def liveBus (s : State) (i sub : Nat) : Option (List Byte) :=
  let img := runningImage s.fboot
  match i, sub with
  | 0x1001, 0 => some (leBytes 1 (errorReg s))
  | 0x100A, 0 => some (Config.imageVersion img.levels.build)
  | 0x1018, 3 => some (leBytes 4 (0xB00000 + img.levels.dsl.toNat))
  | 0x1C32, 2 => some (leBytes 4 (busReg s 0x09A0))
  | 0x1C33, 2 => some (leBytes 4 (busReg s 0x09A0))
  | 0x1E10, 1 => some (leBytesI 8 s.bus.answer.1)
  | 0x1E10, 2 => some (leBytes 8 s.bus.answer.2.1)
  | 0x1E10, 3 => some [s.bus.answer.2.2.1]
  | 0x1E10, 4 => some [s.bus.answer.2.2.2]
  | _, _ => none

/-- Live host values: versions, boot, Gallery, key-value pools, power and the fault log (R277, R642, R687, R897, R962). -/
def liveHost (s : State) (i sub : Nat) : Option (List Byte) :=
  match i, sub with
  | 0x2000, 2 => some (leBytes 1 (b2n s.gradeI))
  | 0x2000, 3 => some (leBytes 2 (Config.schemaObjects (runningImage s.hboot).levels.build).toNat)
  | 0x2001, _ => if 1 ≤ sub then some (levelOf (levelsOf s.hboot) sub) else none
  | 0x2003, 1 => some (leBytes 1 s.link.hostOutcome)
  | 0x2005, 4 => some (leBytes 1 (b2n s.hboot.slotB))
  | 0x2005, 5 => some (leBytes 1 (if s.hboot.trial then b2n s.hboot.slotB else 0xFF))
  | 0x2005, 6 => some (leBytes 1 s.hboot.cause)
  | 0x2620, 1 => some (leBytes 2 (visionMhz s))
  | 0x2802, 1 => some (leBytes 1 (b2n (bDeferred s)))
  | 0x28F0, 1 => some (leBytes 2 (npuMhz s))
  | 0x28F0, 8 => some (leBytes 1 (b2n s.gal.ready))
  | 0x3600, 2 => some (leBytes 4 (pLim s))
  | 0x3601, 1 => some (leBytes 1 s.pwr.level)
  | 0x3602, 2 => some (leBytes 1 (match s.pwr.mode with | .active => 0 | .inspectIdle => 1 | .watch => 2 | .off => 3))
  | 0x3800, 1 => some (leBytes 2 s.saf.hostLog.length)
  | 0x3800, 5 => some (match s.saf.hostLog[objN s 0x3800 4]? with | some r => faultBytes r | none => List.replicate 64 0)
  | _, _ => none

/-- Mean of the last 1 ms of samples of a domain (R962). -/
def meanMw (l : List Nat) : Nat := if l.isEmpty then 0 else l.foldl (· + ·) 0 / l.length

/-- Live value of an object, none when its store holds it. -/
def live? (s : State) (i sub : Nat) : Option (List Byte) :=
  if 0x2110 ≤ i ∧ i < 0x2114 then liveSet s (i - 0x2110) sub
  else if i = 0x2100 ∧ sub = 2 then some (leBytes 1 (b2n s.undo.isSome))
  else if 0x3000 ≤ i ∧ i < 0x3200 then liveAxis s ((i - 0x3000) / 0x40) ((i - 0x3000) % 0x40) sub
  else if i = 0x3400 ∧ sub = 1 then some (leBytes 1 (safetySummary s))
  else if i = 0x3440 ∧ sub = 1 then some (reactionBytes s)
  else if 0x6000 ≤ i ∧ i < 0xA000 then (if sub = 0 then liveCia s ((i - 0x6000) / 0x800) ((i - 0x6000) % 0x800 + 0x6000) else none)
  else if 0x2210 ≤ i ∧ i < 0x2220 then (if 1 ≤ sub then some (leBytes 16 (entry s .field ((i - 0x2210) * 16 + sub - 1))) else none)
  else if 0x2250 ≤ i ∧ i < 0x2258 then (if 1 ≤ sub then some (leBytes 16 (masterEntry s ((i - 0x2250) * 16 + sub - 1))) else none)
  else if 0x2230 ≤ i ∧ i < 0x2234 then (if 1 ≤ sub then some (leBytes 16 (timeEntry s ((i - 0x2230) * 16 + sub - 1))) else none)
  else if 0x2200 ≤ i ∧ i < 0x2300 then livePos s i sub
  else if 0x3A00 ≤ i ∧ i < 0x3B00 then liveRope s i sub
  else if i < 0x2000 then liveBus s i sub
  else if 0x28A0 ≤ i ∧ i < 0x28A4 then
    let x := mslot s (i - 0x28A0)
    match sub with
    | 1 => some (leBytes 1 (match x.mode with | .empty => 0 | .loading => 1 | .ready => 2 | .bound => 3 | .previous => 4 | .failed => 5))
    | 2 => some (leBytes 1 ((x.bundle.map (fun b => b.part)).getD 0))
    | 3 => some (leBytes 4 x.banks.toNat)
    | 4 => some (leBytes 1 ((x.bundle.map (fun b => b.group)).getD 0))
    | 5 => some ((x.bundle.map (fun b => b.name)).getD [])
    | 6 => some (leBytes 4 ((x.bundle.map (fun b => b.build.toNat)).getD 0))
    | 7 => some (leBytes 2 ((x.bundle.map (fun b => b.mbl.toNat)).getD 0))
    | 8 => some (fitTo 48 (if x.mode = .loading ∨ x.banks = 0 then [] else (x.bundle.map (fun b => b.digest)).getD []))
    | 0x0B => some (leBytes 1 x.cause)
    | 0x0C => some (leBytes 2 x.inUse)
    | 0x0D => some (leBytes 4 ((x.bundle.map (fun b => b.maxSeg)).getD 0))
    | _ => none
  else if 0x2A10 ≤ i ∧ i < 0x2A14 then
    let p := i - 0x2A10
    match sub with
    | 1 => some (leBytes 1 (poolPart s p))
    | 2 => some (leBytes 4 (headerPages s p))
    | 3 => some (leBytes 4 (freeFrames s p).length)
    | 4 => some (leBytes 2 (seqCount s p (fun q => q.mode == .opened)))
    | _ => none
  else if i = 0x3610 ∧ 1 ≤ sub ∧ sub ≤ 11 then some (leBytes 8 (tget 0 s.pwr.energy (sub - 1)))
  else if i = 0x3611 ∧ 1 ≤ sub ∧ sub ≤ 11 then some (leBytes 4 (meanMw (tget [] s.pwr.last (sub - 1))))
  else liveHost s i sub

/-- The bits of octet `k` of an object that are not reserved (R8): the settings of a queue (chapter 12), a Lantern projection and hint
map (R723), a gain record (R825) and a frame-graph descriptor (R505, R506, R509, R510). -/
def keptBits (i sub k : Nat) : Byte :=
  if 0x2860 ≤ i ∧ i < 0x2880 then (if k = 0 then 15 else 0)
  else if i = 0x2C03 then (if k = 6 ∨ k = 7 then 0 else 255)
  else if 0x2C08 ≤ i ∧ i < 0x2C10 then (if k = 1 then 0 else 255)
  else if 0x3000 ≤ i ∧ i < 0x3200 ∧ i % 0x40 = 2 then (if 28 ≤ k then 0 else 255)
  else if 0x2600 ≤ i ∧ i < 0x2608 ∧ sub = 2 then
    (if k < 64 then (if k = 1 ∨ 16 ≤ k then 0 else if k = 3 then 15 else 255)
     else if k < 1088 then (if (k - 64) % 32 = 19 then 0 else 255)
     else
       let o := (k - 1088) % 64
       if o = 2 then 3 else if o = 3 ∨ o = 13 then 0 else 255)
  else 255

/-- A value with its reserved bits zero (R8). -/
def unreserved (i sub : Nat) (b : List Byte) : List Byte :=
  if (0x2860 ≤ i ∧ i < 0x2880) ∨ i = 0x2C03 ∨ (0x2C08 ≤ i ∧ i < 0x2C10) ∨ (0x3000 ≤ i ∧ i < 0x3200 ∧ i % 0x40 = 2) ∨ (0x2600 ≤ i ∧ i < 0x2608 ∧ sub = 2) then
    b.zipIdx.map (fun p => p.1 &&& keptBits i sub p.2)
  else b

/-- The value of an object (R238). -/
def live (s : State) (i sub : Nat) : List Byte :=
  match live? s i sub with
  | some b => b
  | none => unreserved i sub (stored s i sub)

/-! ### The emulated configuration data (R350, R351) -/

/-- Checksum of words 0 to 6: CRC-8 over x^8 + x^2 + x + 1, started at 255 (R350).
Log entry 139: PRESUMED, unsafe. -/
def configCrc (words : List Nat) : Nat :=
  (words.flatMap (leBytes 2)).foldl (fun c b => (List.range 8).foldl (fun c _ => if 128 ≤ c then (2 * c) % 256 ^^^ 7 else 2 * c) (c ^^^ b.toNat)) 255

/-- Words 0 to 6 of the configuration data (R350, R354). -/
def configHead (s : State) : List Nat :=
  [(Config.imageWord 0).toNat, (Config.imageWord 1).toNat, 100, (Config.imageWord 3).toNat, s.bus.station.toNat, (Config.imageWord 5).toNat,
    (Config.imageWord 6).toNat]

/-- Word `w` of the emulated configuration data: alias and checksum follow the alias in force, and the serial number reads
zero on every unit (R350, R351, R354). Words that the rule's table does not list are the field image's.
Log entry 139: PRESUMED, unsafe. -/
def configWord (s : State) (w : Nat) : Nat :=
  if w < 7 then (configHead s).getD w 0
  else if w = 7 then configCrc (configHead s)
  else if w = 8 then 0x0D57
  else if w = 9 then 0
  else if w = 10 then 0x7480
  else if w = 11 then 0
  else if w = 12 ∨ w = 13 then (leNat (live s 0x1018 3) / 65536 ^ (w - 12)) % 65536
  else if w = 14 ∨ w = 15 then 0
  else if w = 0x15 ∨ w = 0x17 then 1024
  else if w = 0x19 ∨ w = 0x1B then 512
  else if w = 0x1C then 12
  else (Config.imageWord w).toNat

end Sys2Proof.Machine
end

