-- ==== Sys2Proof/Machine/Effects.lean ====
section
/-! DEFINITION. What a value does when it becomes the value of its object: the chapters' state conditions on direct writes,
and the effects of values that a stage set applies. -/

namespace Sys2Proof.Machine

/-! ### PDO mapping (R328 to R333) -/

/-- A PDO mapping entry that R330 to R332 admit in the direction: empty, padding, or a mappable object at its length. -/
def mapOk (dir : PdoDir) (v : Nat) : Bool :=
  let i := v / 65536
  let sub := v / 256 % 256
  let len := v % 256
  decide (v = 0) || decide (i = 0) ||
    (match row? i sub with
     | some r => r.pdo == dir && decide (len = 8 * r.ty.size)
     | none => false)

/-- A PDO that may be assigned: none, or one of the eight of its direction (R329). -/
def assignOk (rx : Bool) (v : Nat) : Bool :=
  decide (v = 0) || (if rx then decide (0x1600 ≤ v) && decide (v ≤ 0x1607) else decide (0x1A00 ≤ v) && decide (v ≤ 0x1A07))

/-- Mapped entries of SyncManager 2 (receive) or 3 (transmit), in order: index, subindex, length in bits. -/
def mapped (s : State) (rx : Bool) : List (Nat × Nat × Nat) :=
  let pdos := ((List.range 8).map (fun k => objN s (if rx then 0x1C12 else 0x1C13) (k + 1))).filter (· ≠ 0)
  let entries := (pdos.map (fun p => (List.range 32).map (fun k => objN s p (k + 1)))).flatten
  (entries.filter (· ≠ 0)).map (fun v => (v / 65536, v / 256 % 256, v % 256))

/-- The object is mapped in an active receive PDO while the AL state is SAFEOP or OP (R235). -/
def heldByPdo (s : State) (i sub : Nat) : Bool :=
  (s.bus.al == .safeop || s.bus.al == .op) && (mapped s true).any (fun e => e.1 == i && e.2.1 == sub)

/-! ### Host PTP settings and the motion override -/

/-- A write of 0x2281 is pushed to the host die (R130). -/
def pushPtp (s : State) (sub : Nat) : State :=
  ropeSend s .field (mkFrame 3 0 0 (leBytes 2 0x2281 ++ leBytes 1 sub ++ [3, 0, 0, 0, 0] ++ stored s 0x2281 sub))

/-- A write to 0x3A40:01 (R997). -/
def overrideWrite (s : State) (v : Nat) : State × Nat :=
  if v ≠ 0x4F565244 then (s, 0x06090030)
  else if s.link.outcome ≠ 2 then (s, 0x08000022)
  else (putN s 0x3A40 1 v, 0)

/-- A write to 0x3602:01 (R948, R949, R951, R954); a request that awaits consent is answered with it.
Log entry 47: DESIGN CHOICE, unsafe. Log entry 85: DEDUCED, unsafe. -/
def powerWrite (s : State) (v : Nat) : State × Nat :=
  let code := fun (b : Bool) => if b then 0 else 0x08000022
  let low := fun (off : Bool) => (askLow s off, code (s.pwr.pendingWatch.isNone && (askLow s off).pwr.pendingWatch.isSome))
  if v = 0 then (askActive s, code (hostUp s))
  else if v = 1 then ((askIdle s).1, code (askIdle s).2)
  else low (v != 2)

/-! ### A direct write's effect (the last row of R235) -/

/-- The axis of a CiA 402 index and the index of axis 0.
Log entry 49: DEDUCED, unsafe. -/
def ciaAxis (i : Nat) : Nat × Nat := ((i - 0x6000) / 0x800, (i - 0x6000) % 0x800 + 0x6000)

/-- A position or time event entry. -/
def isEvent (i : Nat) : Bool :=
  (decide (0x2210 ≤ i) && decide (i < 0x2220)) || (decide (0x2250 ≤ i) && decide (i < 0x2258)) || (decide (0x2230 ≤ i) && decide (i < 0x2234))

/-- A checked value becomes the object's value, with the effect its chapter gives a write, or the chapter's state condition
refuses it.
Log entry 92: DEDUCED, unsafe. -/
def applyValue (s : State) (i sub : Nat) (data : List Byte) : State × Nat :=
  let v := leNat data
  let put := putObj s i sub data
  if 0x2210 ≤ i ∧ i < 0x2220 then entryWrite s .field ((i - 0x2210) * 16 + sub - 1) v
  else if 0x2250 ≤ i ∧ i < 0x2258 then entryWrite s .host ((i - 0x2250) * 16 + sub - 1) v
  else if 0x2230 ≤ i ∧ i < 0x2234 then timeEntryWrite s ((i - 0x2230) * 16 + sub - 1) v
  else if i = 0x2221 ∧ sub = 4 then (setRole put (decide (v ≠ 0)), 0)
  else if i = 0x2270 ∧ sub = 1 then queryWrite s (leInt data)
  else if i = 0x2282 ∧ sub = 3 then (conversionWrite s v, 0)
  else if i = 0x2281 then (pushPtp put sub, 0)
  else if i = 0x2100 ∧ sub = 8 then (if objN s 0x2100 7 ≠ 0 ∧ objN s 0x2100 7 ≤ v then (s, 0x06090031) else (put, 0))
  else if i = 0x3A40 ∧ sub = 1 then overrideWrite s v
  else if i = 0x3602 ∧ sub = 1 then powerWrite s v
  else if 0x1600 ≤ i ∧ i < 0x1608 then (if mapOk .rx v then (put, 0) else (s, 0x06040041))
  else if 0x1A00 ≤ i ∧ i < 0x1A08 then (if mapOk .tx v then (put, 0) else (s, 0x06040041))
  else if i = 0x1C12 ∨ i = 0x1C13 then (if assignOk (i = 0x1C12) v then (put, 0) else (s, 0x06090030))
  else if 0x6000 ≤ i ∧ i < 0xA000 ∧ (ciaAxis i).2 = 0x6040 then (controlword put (ciaAxis i).1 v, 0)
  else if 0x6000 ≤ i ∧ i < 0xA000 ∧ (ciaAxis i).2 = 0x6060 then (modeSelect put (ciaAxis i).1, 0)
  else if 0x6000 ≤ i ∧ i < 0xA000 ∧ (ciaAxis i).2 = 0x6098 ∧ (v = 33 ∨ v = 34) ∧
      (encMode s (ciaAxis i).1 = 2 ∨ encMode s (ciaAxis i).1 = 3) then (s, 0x06090030)
  else (put, 0)

/-! ### Effects of an apply -/

/-- Model bindings name slots anew: BOUND and PREVIOUS (R642). -/
def rebind (s : State) : State :=
  (List.range 4).foldl
    (fun s n =>
      let x := mslot s n
      if slotBound s n then (if x.mode = .ready ∨ x.mode = .previous then setSlot s n { x with mode := .bound } else s)
      else if x.mode = .bound then setSlot s n { x with mode := .previous }
      else s) s

/-- Partition that holds Cavern bank `k`, 3 when none does. -/
def bankPart (s : State) (k : Nat) : Nat :=
  if (objN s 0x2801 1).testBit k then 0 else if (objN s 0x2801 2).testBit k then 1 else if (objN s 0x2801 3).testBit k then 2 else 3

/-- Banks that moved from one partition to another are cleared before their next use (R865). -/
def clearMoved (old s : State) : State :=
  let l := (List.range 24).filter (fun k => decide (bankPart old k < 3) && decide (bankPart s k < 3) && decide (bankPart old k ≠ bankPart s k))
  { s with gal := { s.gal with clearing := s.gal.clearing ||| BitVec.ofNat 24 (maskOf l) } }

/-- The supervisor writes the shadow window table from 0x2801:06 and switches it to live; work units that started before keep
the table they started under (R379, R400, R404). -/
def switchWindows (s : State) : State :=
  let d := stored s 0x2801 6
  let t := (List.range 64).foldl (fun (t : Tab (BitVec 128)) k =>
    let e := fieldN d (16 * k) 16
    tset 0 t k (BitVec.ofNat 128 (bits e 75 69 * 2 ^ 69 + bits e 55 0))) []
  { s with mem := { s.mem with pwinOld := (s.mem.pwinGen, s.mem.pwinLive) :: s.mem.pwinOld, pwinShadow := t, pwinLive := t,
                               pwinGen := s.mem.pwinGen + 1 } }

/-- Neurons of a changed population restart (ch. 14, When things meet). -/
def restartPop (s : State) (p : Nat) : State :=
  let d := popOf s p
  (List.range (popSize d)).foldl (fun s k => setNeuron s (popCore d) (popFirst d + k) { v := 0, tick := lanTick s, refr := 0 }) s

/-- Core whose connection memory holds the data of a projection (R711, R712).
Log entry 24: DEDUCED, unsafe. -/
def projCore (s : State) (j : Nat) : Nat :=
  let d := projOf s j
  popCore (popOf s (if fieldN d 0 1 = 2 ∧ fieldN d 1 1 < 64 then fieldN d 1 1 else fieldN d 2 1))

/-- Lantern's part of an apply: the port starts anew, changed populations restart, reloaded projections work again (R695, R699, R722,
R725, R728).
Log entry 94: DESIGN CHOICE, unsafe. -/
def lanternApply (old s : State) (touched : List (Nat × Nat)) : State :=
  let s := if objB s 0x2C00 1 && !objB old 0x2C00 1 then { s with lan := { s.lan with row := none, overflow := false, hintFrom := s.lan.lt, hintCounts := [] } } else s
  let s := if objN s 0x2C00 2 ≠ objN old 0x2C00 2 then { s with lan := { s.lan with row := none } } else s
  let s := (touched.filter (fun t => t.1 == 0x2C02)).foldl
    (fun s t =>
      let o := popOf old (t.2 - 1)
      let n := popOf s (t.2 - 1)
      if popCore o = popCore n ∧ popFirst o = popFirst n ∧ popWidth o = popWidth n ∧ popHeight o = popHeight n then s else restartPop s (t.2 - 1)) s
  { s with lan := { s.lan with disabled := s.lan.disabled.filter (fun j =>
      !(touched.contains (0x2C03, j + 1) || touched.contains (0x2C04, projCore s j + 1))) } }

/-- What follows once every host entry of a set has its new value. -/
def hostSettle (old s : State) (touched : List (Nat × Nat)) : State :=
  let has := fun (i : Nat) => touched.any (fun t => t.1 == i)
  let s := if has 0x2814 || has 0x2815 then rebind s else s
  let s := if has 0x2801 then clearMoved old s else s
  let s := if touched.contains (0x2801, 6) then switchWindows s else s
  let s := if touched.any (fun t => decide (0x2C00 ≤ t.1) && decide (t.1 < 0x2D00)) then lanternApply old s touched else s
  let s := if touched.contains (0x3600, 1) && decide (objN old 0x3600 1 ≠ objN s 0x3600 1) then { s with pwr := { s.pwr with deltaP := [] } } else s
  if touched.contains (0x3602, 1) then (powerWrite (putObj s 0x3602 1 (stored old 0x3602 1)) (objN s 0x3602 1)).1 else s

/-- An entry whose application has an effect beyond its value. -/
def activeEntry (e : Nat × Nat × List Byte) : Bool :=
  isEvent e.1 || decide (e.1 = 0x2221) || decide (e.1 = 0x2270) || decide (e.1 = 0x2282) ||
    (decide (0x6000 ≤ e.1) && decide (e.1 < 0xA000) && (decide ((ciaAxis e.1).2 = 0x6040) || decide ((ciaAxis e.1).2 = 0x6060)))

/-- The field part of a set becomes live: values first, then the entries that act (R302, R1033). The field master copies of
host entries and 0x2281 change here without a push: the host die holds their shadows. -/
def fieldSwitch (s : State) (l : List (Nat × Nat × List Byte)) : State :=
  let f := l.filter (fun e => fieldOwned e.1)
  let s := (f.filter (fun e => !activeEntry e)).foldl (fun s e => putObj s e.1 e.2.1 e.2.2) s
  (f.filter activeEntry).foldl
    (fun s e =>
      if 0x2250 ≤ e.1 ∧ e.1 < 0x2258 then
        let n := (e.1 - 0x2250) * 16 + e.2.1 - 1
        { s with hMaster := tset 0 s.hMaster n (BitVec.ofNat 128 (keepStatus (masterEntry s n) (leNat e.2.2))), hostPush := tset 0 s.hostPush n (tget 0 s.hostPush n + 1) }
      else if 0x2210 ≤ e.1 ∧ e.1 < 0x2220 then fieldEntrySet s ((e.1 - 0x2210) * 16 + e.2.1 - 1) (leNat e.2.2)
      else if 0x2230 ≤ e.1 ∧ e.1 < 0x2234 then timeEntrySet s ((e.1 - 0x2230) * 16 + e.2.1 - 1) (leNat e.2.2)
      else (applyValue s e.1 e.2.1 e.2.2).1) s

/-- The host part of a set becomes live on the host die (R302, R303). `pushed` says that the field die has already counted its
host entries' pushes. -/
def hostSwitch (s : State) (l : List (Nat × Nat × List Byte)) (pushed : Bool) : State :=
  let h := l.filter (fun e => !fieldOwned e.1)
  let old := s
  let s := h.foldl (fun s e => putObj s e.1 e.2.1 e.2.2) s
  let s := hostSettle old s (h.map (fun e => (e.1, e.2.1)))
  let s := (l.filter (fun e => e.1 == 0x2281)).foldl
    (fun s e => { s with hclk := { s.hclk with cfg := tset (dfltOf 0x2281 e.2.1) s.hclk.cfg e.2.1 e.2.2 } }) s
  (l.filter (fun e => decide (0x2250 ≤ e.1) && decide (e.1 < 0x2258))).foldl
    (fun s e =>
      let n := (e.1 - 0x2250) * 16 + e.2.1 - 1
      installEntry s n ((tget 0 s.hostPush n + (if pushed then 0 else 1)) % 65536) (BitVec.ofNat 128 (keepStatus (tget 0 s.replica.entries n).toNat (leNat e.2.2)))) s

end Sys2Proof.Machine
end

