-- ==== Sys2Proof/Machine/RulesField.lean ====
section
/-! DEFINITION. What a write checks of a value (R235), and the consistency rules that the field die judges of a stage set
(R294, R349, R795, R851, R898). -/

namespace Sys2Proof.Machine

/-! ### The value rows of R235 -/

/-- A stage-set entry: index, subindex, value (R286). -/
abbrev SEntry := Nat × Nat × List Byte

/-- The structure that an object's value must have beyond its length: event entries (R67, R149), group channel lists (R777),
the control period's step (R153), the exposure delay's step (R458) and the predictor's window (R75). -/
def structureOk (i sub : Nat) (data : List Byte) : Bool :=
  if 0x2210 ≤ i ∧ i < 0x2220 then entryOk .field (leNat data)
  else if 0x2250 ≤ i ∧ i < 0x2258 then entryOk .host (leNat data)
  else if 0x2230 ≤ i ∧ i < 0x2234 then timeEntryOk (leNat data)
  else if 0x3000 ≤ i ∧ i < 0x3200 ∧ i % 0x40 = 0x38 ∧ sub = 1 then data.all (fun b => decide (b.toNat ≤ 7) || b == 0xFF)
  else if i = 0x2240 ∧ sub = 2 then decide (leNat data % 5 = 0)
  else if 0x2410 ≤ i ∧ i < 0x2420 ∧ sub = 8 then decide (leNat data % 5 = 0)
  else if i = 0x2201 ∧ sub = 8 then decide (leNat data = 2 ^ Nat.log2 (leNat data))
  else true

/-- The length matches the type (R235). -/
def lengthOk (t : Ty) (n : Nat) : Bool :=
  match t with
  | .vstr hi => decide (n ≤ hi)
  | .dom lo hi => decide (lo ≤ n) && decide (n ≤ hi)
  | t => decide (n = t.size)

/-- The number that octets spell in a type. -/
def numberOf (t : Ty) (data : List Byte) : Int := if t.signed then leInt data else (leNat data : Int)

/-- Range rows of R235: 0, too high or too low. -/
def rangeAbort (r : Row) (i sub : Nat) (data : List Byte) : Nat :=
  match r.chk with
  | .rng lo hi => if hi < numberOf r.ty data then 0x06090031 else if numberOf r.ty data < lo then 0x06090032 else 0
  | .frng lo hi =>
    let x : F32 := BitVec.ofNat 32 (leNat data)
    if fLt hi x then 0x06090031 else if fLt x lo then 0x06090032 else 0
  | _ => if (i = 0x2202 ∧ (sub = 1 ∨ sub = 2)) ∨ (i = 0x2270 ∧ sub = 1) then posRange (leInt data) else 0

/-- The rows of R235 that judge a value: length, allowed, maximum, minimum. The abort code, 0 when all pass. -/
def valueAbort (r : Row) (i sub : Nat) (data : List Byte) : Nat :=
  if !lengthOk r.ty data.length then 0x06070010
  else if r.ty = .bool ∧ 1 < leNat data then 0x06090030
  else if r.ty = .f32 ∧ fIsNaN (BitVec.ofNat 32 (leNat data)) then 0x06090030
  else if (match r.chk with | .enum l => !l.contains (numberOf r.ty data) | _ => false) then 0x06090030
  else if !structureOk i sub data then 0x06090030
  else rangeAbort r i sub data

/-! ### Judging a set (R294) -/

/-- The values a set would leave behind. -/
def candidate (s : State) (l : List SEntry) : State := l.foldl (fun s e => putObj s e.1 e.2.1 e.2.2) s

/-- A rule: what it says of an entry, given the state, the values the set would leave, and the set's number. -/
abbrev RuleBody := State → State → Nat → SEntry → Bool

/-- The entry changes its object's value.
Log entry 90: DEDUCED, unsafe. -/
def changes (s : State) (e : SEntry) : Bool := live s e.1 e.2.1 != e.2.2

/-- The per-axis offset of an index of chapters 16 and 17, none for any other index. -/
def axisOff (i : Nat) : Option (Nat × Nat) :=
  if 0x3000 ≤ i ∧ i < 0x3200 then some ((i - 0x3000) / 0x40, (i - 0x3000) % 0x40) else none

/-- The entry names offset `o` of an axis, from subindex `lo` to `hi`. -/
def names (e : SEntry) (o lo hi : Nat) : Bool :=
  match axisOff e.1 with
  | some x => x.2 == o && decide (lo ≤ e.2.1) && decide (e.2.1 ≤ hi)
  | none => false

/-- Axis of an entry of chapters 16 and 17. -/
def entryAxis (e : SEntry) : Nat := ((axisOff e.1).map (fun x => x.1)).getD 0

/-- Rule 0x02. -/
def ruleOverlap : RuleBody := fun s _ n e =>
  s.sets.any (fun p => p.1 != n && (p.2.mode == .checked || p.2.mode == .arming || p.2.mode == .armed) &&
    p.2.entries.any (fun x => x.1 == e.1 && x.2.1 == e.2.1))

/-- Rule 0x03 for field-owned objects: the chapters' state conditions. A save or restore is refused while a set is being
checked (R278; log entry 48).
Log entry 48: DESIGN CHOICE, unsafe. -/
def ruleFieldState : RuleBody := fun s c _ e =>
  let v := leNat e.2.2
  if 0x2210 ≤ e.1 ∧ e.1 < 0x2220 then decide (256 - objN c 0x2201 0x0A ≤ (e.1 - 0x2210) * 16 + e.2.1 - 1)
  else if 0x2230 ≤ e.1 ∧ e.1 < 0x2234 then tArmed v && s.fclk.never && !s.fclk.ref
  else if e.1 = 0x3A40 then decide (s.link.outcome ≠ 2)
  else if e.1 = 0x2100 ∧ e.2.1 = 8 then decide (objN c 0x2100 7 ≠ 0) && decide (objN c 0x2100 7 ≤ v)
  else if e.1 = 0x1010 ∨ e.1 = 0x1011 then true
  else if 0x6000 ≤ e.1 ∧ e.1 < 0xA000 ∧ (ciaAxis e.1).2 = 0x6098 then
    (v == 33 || v == 34) && (encMode c (ciaAxis e.1).1 == 2 || encMode c (ciaAxis e.1).1 == 3)
  else false

/-- Rule 0x04 (R154). -/
def ruleCycle : RuleBody := fun s c _ e =>
  e.1 == 0x2240 && (e.2.1 == 1 || e.2.1 == 2) &&
    (let src := objN c 0x2240 1
     let cycle := if src = 0 then busReg s 0x09A0 else sync1Period s
     decide (src < 2) && decide (cycle % max 1 (objN c 0x2240 2) ≠ 0))

/-- Rule 0x08: the objects marked D (R848). -/
def ruleAxisEnabled : RuleBody := fun s _ _ e =>
  (names e 0 1 1 || names e 1 1 0x0F) && enabled s (entryAxis e) && changes s e

/-- Rule 0x09. -/
def rulePosArmed : RuleBody := fun s _ _ e =>
  e.1 == 0x2201 && decide (1 ≤ e.2.1) && decide (e.2.1 ≤ 3) && changes s e && anyArmed s

/-- Rule 0x0A: the entries that the new size gives back to writes hold no armed command. -/
def ruleReserved : RuleBody := fun s c _ e =>
  e.1 == 0x2201 && e.2.1 == 0x0A &&
    (List.range 256).any (fun n => decide (256 - objN s 0x2201 0x0A ≤ n) && decide (n < 256 - objN c 0x2201 0x0A) && eArmed (entry s .field n))

/-- Rule 0x0B (R248). -/
def ruleHostDown : RuleBody := fun s _ _ e => hostEntry e && !hostAnswers s

/-- Rule 0x40 (R349): control-engine objects of R848 and CiA 402 objects of R850 (log entry 49).
Log entry 49: DEDUCED, unsafe. -/
def ruleAlState : RuleBody := fun s _ _ e =>
  (s.bus.al == .init || s.bus.al == .boot) &&
    ((match axisOff e.1 with | some x => decide (x.2 < 0x30) | none => false) || (decide (0x6000 ≤ e.1) && decide (e.1 < 0xA000)))

/-- Rule 0x56 (R795). -/
def ruleMioEnabled : RuleBody := fun s _ _ e =>
  (names e 0x30 1 2 || names e 0x30 7 7 || names e 0x31 0 255 || names e 0x32 0 255) && enabled s (entryAxis e) && changes s e

/-- An axis's control period and PWM period divide neither way (R770). -/
def periodsBreak (c : State) (a : Nat) : Bool :=
  let mode := objN c (axA a + 0x30) 1
  let per := pwmPeriod mode (objN c (axA a + 0x30) 2)
  let cyc := objN c 0x2240 2
  decide (mode ≠ 0) && objB c (axA a + 0x30) 6 && decide (cyc % max 1 per ≠ 0) && decide (per % max 1 cyc ≠ 0)

/-- PWM settings of an axis break R765 or R770, or dead time plus minimum pulse reach half the period. -/
def pwmBreaks (c : State) (a : Nat) : Bool :=
  let mode := objN c (axA a + 0x30) 1
  let top := objN c (axA a + 0x30) 2
  decide (top < 100) || periodsBreak c a ||
    (decide (mode ≠ 0) && decide (pwmPeriod mode top ≤ 2 * (objN c (axA a + 0x30) 4 + objN c (axA a + 0x30) 9)))

/-- Sigma-delta settings break R772 or R773. -/
def sdBreaks (c : State) (a : Nat) : Bool :=
  let d := objN c (axA a + 0x31) 3
  let osr := objN c (axA a + 0x31) 4
  decide (d < 8) || decide (40 < d) || decide (osr < 16) || decide (256 < osr) || decide (osr % 8 ≠ 0)

/-- Encoder settings break R780. -/
def encBreaks (c : State) (a : Nat) : Bool :=
  let mode := objN c (axA a + 0x32) 1
  let khz := objN c (axA a + 0x32) 3
  let n := objN c (axA a + 0x32) 4
  (mode == 2 || mode == 3) && (decide (khz < 100) || decide (10000 < khz) || decide (n < 8) || decide ((if mode = 2 then 40 else 64) < n))

/-- A sin/cos channel of axis `a` lies in the list of an enabled conversion group. -/
def sinCosClash (c : State) (a : Nat) : Bool :=
  let w := objN c (axA a + 0x32) 7
  encMode c a == 4 && (List.range 8).any (fun g =>
    decide (objN c (axA g + 0x38) 2 ≠ 0) && ((groupList c g).contains (bits w 2 0) || (groupList c g).contains (bits w 6 4)))

/-- Rule 0x57 (R795). -/
def ruleMioConfig : RuleBody := fun _ c _ e =>
  let a := entryAxis e
  (names e 0x30 0 255 && pwmBreaks c a) || (names e 0x31 0 255 && sdBreaks c a) || (names e 0x32 0 255 && encBreaks c a) ||
    ((names e 0x32 1 1 || names e 0x32 7 7) && sinCosClash c a) || (names e 0x38 1 2 && (List.range 8).any (sinCosClash c)) ||
    (e.1 == 0x2240 && e.2.1 == 2 && (List.range 8).any (periodsBreak c))

/-- An enabled axis breaks R817. -/
def timingBreaks (s c : State) (a : Nat) : Bool :=
  let n := ((List.range 8).filter (enabled s)).length
  let mode := objN c (axA a + 0x30) 1
  enabled s a && decide (mode ≠ 0) && decide (sampleWait (pwmShadow c a) (objN c (axA a + 0x30) 0x0A) < 3000 + 750 * n)

/-- Rule 0x58 (R851). -/
def ruleCeTiming : RuleBody := fun s c _ e =>
  (names e 0x30 0 255 && timingBreaks s c (entryAxis e)) || (e.1 == 0x2240 && (List.range 8).any (timingBreaks s c))

/-- A binary32 word that is negative or not finite. -/
def badGain (x : F32) : Bool := fBad x || fLt x 0

/-- Rule 0x59 (R851). -/
def ruleCeGains : RuleBody := fun _ _ _ e =>
  let f := fun k => BitVec.ofNat 32 (fieldN e.2.2 (4 * k) 4)
  if names e 2 1 8 then (List.range 8).any (fun k => badGain (f k))
  else if names e 0 5 5 then (List.range 6).any (fun k => !fLt (f k) (f (k + 1)))
  else names e 0 6 6 && fLt (f 0) 0

/-- Rule 0x5A (R851): Kt, L_d, L_q, J and the increments per revolution are positive. -/
def ruleCeMotor : RuleBody := fun _ _ _ e =>
  let x : F32 := BitVec.ofNat 32 (leNat e.2.2)
  if names e 1 2 7 then fBad x || ([2, 4, 5, 6].contains e.2.1 && !fLt 0 x)
  else if names e 1 8 8 then decide (leNat e.2.2 = 0)
  else if names e 1 0x0B 0x0B || names e 1 0x0F 0x0F then fBad x
  else names e 1 0x0C 0x0C && (List.range 3).any (fun k => fBad (BitVec.ofNat 32 (fieldN e.2.2 (4 * k) 4)))

/-- Rule 0x5B (R851). -/
def ruleCeProfile : RuleBody := fun _ c _ e =>
  decide (0x6000 ≤ e.1) && decide (e.1 < 0xA000) &&
    (let x := ciaAxis e.1
     ([0x6083, 0x6084, 0x6085].contains x.2 && decide (leNat e.2.2 = 0)) ||
       ([0x6081, 0x607F].contains x.2 && decide (cN c 0x607F x.1 < cN c 0x6081 x.1)))

/-- Rule 0x5D (R898). -/
def ruleExpect : RuleBody := fun _ c _ e =>
  ((e.1 == 0x3414 || e.1 == 0x3411) && e.2.1 == 1) && decide (objN c 0x3414 1 ≠ 0) && decide (objN c 0x3411 1 = 0)

/-- The rules the field die judges entry by entry, in ascending code. -/
def fieldRules : List (Nat × RuleBody) := [
  (0x02, ruleOverlap), (0x03, ruleFieldState), (0x04, ruleCycle), (0x08, ruleAxisEnabled), (0x09, rulePosArmed), (0x0A, ruleReserved),
  (0x0B, ruleHostDown), (0x40, ruleAlState), (0x56, ruleMioEnabled), (0x57, ruleMioConfig), (0x58, ruleCeTiming), (0x59, ruleCeGains),
  (0x5A, ruleCeMotor), (0x5B, ruleCeProfile), (0x5D, ruleExpect)]

/-- Rule 0x01: the second entry of the first pair that names one object. -/
def duplicateEntry (l : List SEntry) : Option Nat :=
  (List.range l.length).find? (fun k =>
    match l[k]? with
    | some e => (l.take k).any (fun x => x.1 == e.1 && x.2.1 == e.2.1)
    | none => false)

/-- The first failing rule of a list and the first entry that fails it. -/
def firstFailing (rules : List (Nat × RuleBody)) (s : State) (n : Nat) (l : List SEntry) : Option (Nat × Nat) :=
  let c := candidate s l
  rules.findSome? (fun r => (l.findIdx? (fun e => r.2 s c n e)).map (fun k => (r.1, k)))

/-- What the field die finds of set `n`: the first failing rule's code and entry (R294). -/
def judgeField (s : State) (n : Nat) : Option (Nat × Nat) :=
  let l := (stg s n).entries
  match duplicateEntry l with
  | some k => some (0x01, k)
  | none => firstFailing fieldRules s n l

end Sys2Proof.Machine
end

