-- ==== Sys2Proof/Machine/RulesHost.lean ====
section
/-! DEFINITION. The consistency rules that the host die judges of a stage set when it takes PREPARE (R294 to R296, R486, R535,
R687, R724, R758, R877). -/

namespace Sys2Proof.Machine

/-! ### Model slots and partitions (rules 0x03, 0x05 to 0x07, 0x47 to 0x4A, 0x5C) -/

/-- The entry binds a client to a slot (R645): the slot named. -/
def bindsSlot (e : SEntry) : Option Nat :=
  if (e.1 = 0x2814 ∨ e.1 = 0x2815) ∧ leNat e.2.2 < 4 then some (leNat e.2.2) else none

/-- The client an entry of a per-client object speaks of. -/
def entryClient (e : SEntry) : Nat := e.1 % 2 * 128 + e.2.1 - 1

/-- Rule 0x03 for host-owned objects: reservations a period cannot hold (R406), and power requests that R949 refuses. -/
def ruleHostState : RuleBody := fun s c _ e =>
  if e.1 = 0x2801 ∧ (e.2.1 = 4 ∨ e.2.1 = 5) then decide (1600 < objN c 0x2801 4 + objN c 0x2801 5)
  else if e.1 = 0x3602 ∧ e.2.1 = 1 then
    let v := leNat e.2.2
    (v == 1 && (reg s bCOMP).testBit 0) || (v == 2 && (watchBlocked s || decide (objN c 0x3620 1 % 32 = 0))) || (v == 3 && watchBlocked s)
  else false

/-- Rule 0x05. -/
def ruleSlotReady : RuleBody := fun s _ _ e =>
  match bindsSlot e with
  | some n =>
    let x := mslot s n
    !((x.mode == .ready || x.mode == .bound || x.mode == .previous) && x.verified && !s.gal.rehash)
  | none => false

/-- Rule 0x06. -/
def ruleSlotLevel : RuleBody := fun s _ _ e =>
  match bindsSlot e with
  | some n =>
    (match (mslot s n).bundle with
     | some b => decide (b.mbl.toNat / 256 ≠ hostMblMajor s)
     | none => false)
  | none => false

/-- Rule 0x07: the banks that partitions and resident slots claim. -/
def ruleCavern : RuleBody := fun s c _ e =>
  e.1 == 0x2801 && decide (1 ≤ e.2.1) && decide (e.2.1 ≤ 3) &&
    decide (24 < popCount ((List.range 4).foldl (fun m n => m ||| (mslot s n).banks.toNat) (objN c 0x2801 1 ||| objN c 0x2801 2 ||| objN c 0x2801 3)) 32)

/-- The longest segment of slot `n` passes the granule at 1,200 MHz. -/
def granuleBreaks (s c : State) (n : Nat) : Bool :=
  match (mslot s n).bundle with
  | some b => decide (1200 * objN c 0x2800 1 < b.maxSeg)
  | none => false

/-- Rule 0x47. -/
def ruleGranule : RuleBody := fun s c _ e =>
  match bindsSlot e with
  | some n => granuleBreaks s c n
  | none => e.1 == 0x2800 && e.2.1 == 1 && (List.range 4).any (fun n => slotBound c n && granuleBreaks s c n)

/-- Rule 0x48. -/
def ruleBudget : RuleBody := fun _ c _ e =>
  e.1 == 0x2800 && decide (2 ≤ e.2.1) && decide (e.2.1 ≤ 4) && decide (8 * objN c 0x2800 2 < objN c 0x2800 3 + objN c 0x2800 4)

/-- Client `k`'s binding breaks R645. -/
def bindingBreaks (s c : State) (k : Nat) : Bool :=
  match (mslot s (clientSlot c k)).bundle with
  | some b => decide (clientSlot c k < 4) && decide (b.part ≠ clientPart c k)
  | none => false

/-- Rule 0x49. -/
def ruleSlotPartition : RuleBody := fun s c _ e =>
  (e.1 == 0x2810 || e.1 == 0x2811 || e.1 == 0x2814 || e.1 == 0x2815) && bindingBreaks s c (entryClient e)

/-- Partition masks overlap, or a resident slot's banks lie outside its partition's mask. -/
def masksBreak (s c : State) : Bool :=
  let m := fun k => objN c 0x2801 k
  decide (m 1 &&& m 2 ≠ 0) || decide (m 1 &&& m 3 ≠ 0) || decide (m 2 &&& m 3 ≠ 0) ||
    (List.range 4).any (fun n =>
      match (mslot s n).bundle with
      | some b => decide ((mslot s n).banks.toNat &&& m (b.part % 3 + 1) ≠ (mslot s n).banks.toNat)
      | none => false)

/-- Rule 0x4A. -/
def ruleBankMask : RuleBody := fun s c _ e => e.1 == 0x2801 && decide (1 ≤ e.2.1) && decide (e.2.1 ≤ 3) && masksBreak s c

/-- Queue `q` is duplicated and bound to a slot of group size 8 (R877). -/
def dupBreaks (s c : State) (q : Nat) : Bool :=
  (queueSettings c q).testBit 3 &&
    (match (mslot s (clientSlot c (queueClient c q))).bundle with
     | some b => decide (clientSlot c (queueClient c q) < 4) && decide (b.group = 8)
     | none => false)

/-- Rule 0x5C. -/
def ruleDupGroup : RuleBody := fun s c _ e =>
  if 0x2840 ≤ e.1 ∧ e.1 < 0x2880 then dupBreaks s c (e.1 % 32 * 128 + e.2.1 - 1)
  else (e.1 == 0x2814 || e.1 == 0x2815) && (List.range 4096).any (fun q => queueClient c q == entryClient e && dupBreaks s c q)

/-! ### Grotto space (rules 0x41, 0x42, 0x45) -/

/-- Two ranges [a, a + n) and [b, b + m) meet. -/
def meets (x y : Nat × Nat) : Bool := decide (x.1 < y.1 + y.2) && decide (y.1 < x.1 + x.2) && decide (0 < x.2) && decide (0 < y.2)

/-- Some two of a list of ranges meet. -/
def anyMeet : List (Nat × Nat) → Bool
  | [] => false
  | x :: t => t.any (meets x) || anyMeet t

/-- An output of a stream is enabled (R485). -/
def outOn (c : State) (base i : Nat) : Bool := objB c (base + i) 1

/-- Blocks of a stream's Grotto output (R471). -/
def camBlocks (c : State) (i : Nat) : Nat × Nat := (objN c (0x2450 + i) 8, objN c (0x2450 + i) 9 * objN c (0x2450 + i) 0x0A)

/-- Flags of a stream's Grotto output (R471). -/
def camFlags (c : State) (i : Nat) : Nat × Nat := (objN c (0x2450 + i) 0x0B, objN c (0x2450 + i) 0x0A)

/-- Streams with an enabled Grotto output. -/
def camOuts (c : State) : List Nat := (List.range 16).filter (outOn c 0x2450)

/-- Descriptor of a graph. -/
def graphDesc (c : State) (g : Nat) : List Byte := stored c (0x2600 + g) 2

/-- Enabled graphs. -/
def graphsOn (c : State) : List Nat := (List.range 8).filter (fun g => objB c (0x2600 + g) 1)

/-- Grotto surfaces of a descriptor (R506). -/
def grottoSurfaces (d : List Byte) : List Nat := (List.range 32).filter (fun i => surfField d i 0 1 == 2)

/-- Blocks of a Grotto surface's copies (R508). -/
def surfBlocks (d : List Byte) (i : Nat) : Nat × Nat := (surfField d i 12 2, surfField d i 14 2 * surfField d i 2 1)

/-- Flags of a Grotto surface's copies (R508). -/
def surfFlags (d : List Byte) (i : Nat) : Nat × Nat := (surfField d i 16 2, surfField d i 2 1)

/-- Blocks that enabled graphs claim. -/
def graphBlocks (c : State) : List (Nat × Nat) := (graphsOn c).flatMap (fun g => (grottoSurfaces (graphDesc c g)).map (surfBlocks (graphDesc c g)))

/-- Flags that enabled graphs claim. -/
def graphFlags (c : State) : List (Nat × Nat) := (graphsOn c).flatMap (fun g => (grottoSurfaces (graphDesc c g)).map (surfFlags (graphDesc c g)))

/-- Output size after crop and decimation, across and down (R466, R467). -/
def outSize (c : State) (base i : Nat) : Nat × Nat :=
  let d := objN c (base + i) 7
  (objN c (base + i) 5 / 2 ^ (d % 4), objN c (base + i) 6 / 2 ^ (d / 4 % 4))

/-- A line rounded up to 64 octets (R472). -/
def up64 (n : Nat) : Nat := (n + 63) / 64 * 64

/-- Octets of a buffer of a Grotto output (R472). -/
def bufferBytes (c : State) (i : Nat) : Nat :=
  let z := outSize c 0x2450 i
  ((planesOf (objN c (0x2450 + i) 2) z.1 z.2).map (fun p => up64 p.1 * p.2)).foldl (· + ·) 0

/-- Rule 0x41 (R486). -/
def ruleGrottoSpace : RuleBody := fun _ c _ e =>
  let i := e.1 - 0x2450
  decide (0x2450 ≤ e.1) && decide (e.1 < 0x2460) && outOn c 0x2450 i &&
    (decide (384 < (camBlocks c i).1 + (camBlocks c i).2) ||
     decide (objN c (0x2450 + i) 9 < (bufferBytes c i + 65535) / 65536) ||
     ((camOuts c).filter (· ≠ i)).any (fun k => meets (camBlocks c i) (camBlocks c k)) || (graphBlocks c).any (meets (camBlocks c i)))

/-- Rule 0x42 (R486). -/
def ruleFlagConflict : RuleBody := fun _ c _ e =>
  let i := e.1 - 0x2450
  decide (0x2450 ≤ e.1) && decide (e.1 < 0x2460) && outOn c 0x2450 i &&
    (((camOuts c).filter (· ≠ i)).any (fun k => meets (camFlags c i) (camFlags c k)) || (graphFlags c).any (meets (camFlags c i)))

/-! ### Streams (rule 0x43) -/

/-- A stream on a Bayer sensor: a RAW data type with a colour filter array. -/
def bayer (c : State) (i : Nat) : Bool := decide (0x2A ≤ objN c (0x2410 + i) 4) && decide (objN c (0x2410 + i) 0x0D ≠ 0)

/-- An enabled output breaks R467 or R468, or its crop leaves the frame. Mono streams of RAW data types use RAW16, Y8 and Y16 alone
(log entry 50).
Log entry 50: DEDUCED, unsafe. -/
def outputBreaks (c : State) (base i : Nat) : Bool :=
  let f := fun k => objN c (base + i) k
  let d := f 7
  outOn c base i &&
    ((bayer c i && (decide (f 3 % 2 ≠ 0) || decide (f 4 % 2 ≠ 0) || decide (f 5 % 2 ≠ 0) || decide (f 6 % 2 ≠ 0))) ||
     decide (f 5 % 2 ^ (d % 4) ≠ 0) || decide (f 6 % 2 ^ (d / 4 % 4) ≠ 0) ||
     (decide (0x2A ≤ objN c (0x2410 + i) 4) && decide (objN c (0x2410 + i) 0x0D = 0) && decide (2 < f 2)) ||
     decide (objN c (0x2410 + i) 5 < f 3 + f 5) || decide (objN c (0x2410 + i) 6 < f 4 + f 6))

/-- An enabled stream breaks R453, R455, R467, R468 or names an unusable port. -/
def streamBreaks (c : State) (i : Nat) : Bool :=
  let f := fun k => objN c (0x2410 + i) k
  objB c (0x2410 + i) 1 &&
    (((List.range 16).filter (· ≠ i)).any (fun k => objB c (0x2410 + k) 1 && [2, 3, 4].all (fun x => objN c (0x2410 + k) x == f x)) ||
     decide (8192 < f 5) || decide (16383 < f 6) || decide (3 < f 2) || !objB c (0x2400 + f 2) 1 || (f 2 == 3 && decide (objN c 0x2403 5 = 1)) ||
     outputBreaks c 0x2450 i || outputBreaks c 0x2470 i)

/-- Rule 0x43 (R486). -/
def ruleStream : RuleBody := fun _ c _ e =>
  if 0x2410 ≤ e.1 ∧ e.1 < 0x2490 then streamBreaks c (e.1 % 16)
  else decide (0x2400 ≤ e.1) && decide (e.1 < 0x2404) && (List.range 16).any (fun i => decide (objN c (0x2410 + i) 2 = e.1 - 0x2400) && streamBreaks c i)

/-! ### Frame graphs (rules 0x44 to 0x46) -/

/-- Enabled streams that name a graph, ascending (R507). -/
def streamsNaming (c : State) (g : Nat) : List Nat :=
  (List.range 16).filter (fun i => objB c (0x2410 + i) 1 && decide (objN c (0x2410 + i) 0x0B = g))

/-- Camera surfaces of a descriptor, ascending. -/
def camSurfaces (d : List Byte) : List Nat := (List.range 32).filter (fun i => surfField d i 0 1 == 1)

/-- The stream bound to a camera surface (R507). -/
def surfStream (c : State) (g i : Nat) : Option Nat := (streamsNaming c g)[(camSurfaces (graphDesc c g)).idxOf i]?

/-- A surface named by an input or output octet, none for 0xFF (R510). -/
def namedSurf (b : Nat) : Option Nat := if b = 0xFF then none else some (b % 32)

/-- Input `k` and output `k` of a node (R509). -/
def inOf (d : List Byte) (n k : Nat) : Option Nat := namedSurf (nodeField d n (8 + k) 1)
def outOf (d : List Byte) (n k : Nat) : Option Nat := namedSurf (nodeField d n (11 + k) 1)

/-- Format and size of a surface; a camera surface has those of its stream's Grotto output (R507). -/
def surfShape (c : State) (g i : Nat) : Option (Nat × Nat × Nat) :=
  let d := graphDesc c g
  if surfField d i 0 1 = 1 then
    (surfStream c g i).map (fun st => (objN c (0x2450 + st) 2, outSize c 0x2450 st))
  else some (surfField d i 1 1, surfField d i 4 2, surfField d i 6 2)

/-- Octets that one copy of a Grotto surface needs (R472, R498, R506); the log entry 51 gives the reading for STATREC and
PYRAMID.
Log entry 51: DEDUCED, unsafe. -/
def surfBytes (c : State) (g i : Nat) : Nat :=
  let d := graphDesc c g
  let f := surfField d i 1 1
  let w := surfField d i 4 2
  let h := surfField d i 6 2
  let st := surfField d i 8 4
  let writer := (List.range (nodeCount d)).find? (fun n => outOf d n 0 == some i)
  if f = 0x13 then 64 + 40 * w
  else if f = 0x14 then
    let t := 2 ^ ((writer.map (fun n => nodeField d n 16 1)).getD 8)
    64 + 1024 + 8 * (((w + t - 1) / t) * ((h + t - 1) / t))
  else if f = 0x15 then
    let fmt := (writer.bind (fun n => (inOf d n 0).bind (surfShape c g))).map (fun x => x.1)
    let px := if fmt = some 2 then 2 else 1
    ((List.range (surfField d i 18 1 + 1)).map (fun l => up64 ((w + 2 ^ l - 1) / 2 ^ l * px) * ((h + 2 ^ l - 1) / 2 ^ l))).foldl (· + ·) 0
  else if f = 4 then 3 * st * h
  else if f = 5 then st * h + st * (h / 2)
  else st * h

/-- The formats that an engine's input `k` accepts (R493, R496). -/
def inputFormats (engine op k : Nat) : List Nat :=
  match engine, op, k with
  | 1, _, 0 => [1, 2, 3]
  | 1, 1, 1 => [0x10]
  | 2, 0, 0 => [1, 2]
  | 3, 0, 0 => [0x15]
  | 3, 0, 1 => [0x15]
  | 4, 0, 0 => [1, 2]
  | 4, 0, 1 => [1, 2]
  | 5, 0, 0 => [1, 2]
  | 6, 0, 0 => [1, 2, 3]
  | _, _, _ => []

/-- The format that an engine's output `k` has; warp's is its input's (R493, R496). -/
def outputFormat (engine k : Nat) (input : Option Nat) : Option Nat :=
  match engine, k with
  | 1, 0 => input
  | 2, 0 => some 0x15
  | 3, 0 => some 0x10
  | 3, 1 => some 0x12
  | 4, 0 => some 0x11
  | 4, 1 => some 0x12
  | 5, 0 => some 0x13
  | 6, 0 => some 0x14
  | _, _ => none

/-- The engine has the operation (R496). -/
def opOk (engine op : Nat) : Bool := (engine == 1 && decide (op ≤ 1)) || (decide (2 ≤ engine) && decide (engine ≤ 6) && op == 0)

/-- Parameters of a node lie in the ranges of R496 and R499. -/
def paramsOk (d : List Byte) (n : Nat) : Bool :=
  let p := fun off len => nodeField d n (16 + off) len
  let refine := decide (p 44 1 ≤ 127)
  match nodeField d n 0 1 with
  | 1 => decide (p 36 1 ≤ 1) && decide (p 37 1 ≤ 1) && (nodeField d n 1 1 != 1 || [4, 8, 16].contains (p 40 1))
  | 3 => (p 0 1 == 4 || p 0 1 == 8) && decide (1 ≤ p 2 1) && decide (p 2 1 ≤ 8) && [5, 7, 9].contains (p 3 1) && refine
  | 4 => [64, 128, 256].contains (p 0 2) && decide (p 2 1 ≤ p 3 1) && (p 4 1 == 4 || p 4 1 == 8) && refine
  | 5 => decide (1 ≤ p 2 2) && decide (p 2 2 ≤ 8192) && (p 4 1 == 3 || p 4 1 == 5)
  | 6 => decide (5 ≤ p 0 1) && decide (p 0 1 ≤ 8) && decide (p 1 1 ≤ 3)
  | _ => true

/-- Sizes of a node lie in the limits of R493: warp judges its output, every other engine its first input. -/
def sizeOk (c : State) (g n : Nat) : Bool :=
  let d := graphDesc c g
  let e := nodeField d n 0 1
  match (if e = 1 then outOf d n 0 else inOf d n 0).bind (surfShape c g) with
  | none => true
  | some (_, w, h) =>
    if e = 4 then decide (w ≤ 4096) && ((inOf d n 1).bind (surfShape c g) == (inOf d n 0).bind (surfShape c g))
    else if e = 3 then decide (w ≤ 4096) && decide (h ≤ 4096)
    else decide (w ≤ 8192) && decide (h ≤ 8192)

/-- Formats of a node match R493, R496 and R498; those of camera surfaces are rule 0x46's. -/
def formatsOk (c : State) (g n : Nat) : Bool :=
  let d := graphDesc c g
  let e := nodeField d n 0 1
  let op := nodeField d n 1 1
  let fmt := fun i => (surfShape c g i).map (fun x => x.1)
  (List.range 3).all (fun k =>
    let want := inputFormats e op k
    match inOf d n k with
    | none => want.isEmpty
    | some i => want.isEmpty || surfField d i 0 1 == 1 || (match fmt i with | some f => want.contains f | none => true)) &&
  (List.range 2).all (fun k =>
    match outOf d n k, outputFormat e k ((inOf d n 0).bind fmt) with
    | some i, some f => fmt i == some f
    | _, _ => true) && (outOf d n 0).isSome

/-- A surface entry lies in the limits of R506 and R507. -/
def surfOk (d : List Byte) (i : Nat) : Bool :=
  let k := surfField d i 0 1
  if k = 0 then true
  else if k = 1 then decide (i < 2)
  else decide (k ≤ 3) && decide (1 ≤ surfField d i 2 1) && decide (surfField d i 2 1 ≤ 4) && decide (surfField d i 3 1 ≤ 8) &&
    decide (surfField d i 8 4 % 64 = 0) && decide (surfField d i 12 2 ≤ 383) && decide (surfField d i 16 2 ≤ 1023) &&
    (surfField d i 1 1 != 0x15 || (decide (1 ≤ surfField d i 18 1) && decide (surfField d i 18 1 ≤ 7))) &&
    (k != 3 || (decide (surfField d i 20 4 % 64 = 0) && decide (surfField d i 24 8 % 64 = 0)))

/-- A node entry passes R511 and the limits of R493 and R496. -/
def nodeOk (c : State) (g n : Nat) : Bool :=
  let d := graphDesc c g
  let raw := fun k => nodeField d n (8 + k) 1
  opOk (nodeField d n 0 1) (nodeField d n 1 1) && decide (nodeField d n 4 4 < 2 ^ n) &&
    (List.range 3).all (fun k =>
      match inOf d n k with
      | none => true
      | some i => surfField d i 0 1 != 0 && (!(raw k).testBit 7 || (surfField d i 0 1 != 1 && decide (2 ≤ surfField d i 2 1)))) &&
    (List.range 2).all (fun k =>
      match outOf d n k with
      | none => true
      | some i => surfField d i 0 1 != 0 && surfField d i 0 1 != 1) &&
    formatsOk c g n && paramsOk d n && sizeOk c g n

/-- Every surface written by the nodes of a descriptor, in node order. -/
def written (d : List Byte) : List Nat := (List.range (nodeCount d)).flatMap (fun n => [outOf d n 0, outOf d n 1].filterMap id)

/-- A graph's descriptor is valid (R505, R506, R511). -/
def graphOk (c : State) (g : Nat) : Bool :=
  let d := graphDesc c g
  decide (1 ≤ nodeCount d) && decide (nodeCount d ≤ 32) && decide (fieldN d 2 1 ≤ 2) && (List.range 32).all (surfOk d) &&
    (List.range (nodeCount d)).all (nodeOk c g) && (written d).all (fun i => (written d).count i == 1)

/-- The graph an entry of chapter 10 speaks of, when the set leaves it enabled. -/
def entryGraph (c : State) (e : SEntry) : Option Nat :=
  if 0x2600 ≤ e.1 ∧ e.1 < 0x2608 ∧ objB c e.1 1 then some (e.1 - 0x2600) else none

/-- Rule 0x44 (R535). -/
def ruleGraph : RuleBody := fun _ c _ e => match entryGraph c e with | some g => !graphOk c g | none => false

/-- Rule 0x45 (R535). -/
def ruleGraphSpace : RuleBody := fun _ c _ e =>
  match entryGraph c e with
  | some g =>
    let d := graphDesc c g
    anyMeet (graphBlocks c) || anyMeet (graphFlags c) ||
      (grottoSurfaces d).any (fun i =>
        decide (384 < (surfBlocks d i).1 + (surfBlocks d i).2) || decide (surfField d i 14 2 * 65536 < surfBytes c g i))
  | none => false

/-- Camera surfaces of an enabled graph do not match its streams (R535). -/
def graphInputBreaks (c : State) (g : Nat) : Bool :=
  let d := graphDesc c g
  decide ((camSurfaces d).length ≠ (streamsNaming c g).length) ||
    (List.range (nodeCount d)).any (fun n => (List.range 3).any (fun k =>
      match inOf d n k with
      | some i =>
        surfField d i 0 1 == 1 &&
          (match surfStream c g i with
           | some st => !(inputFormats (nodeField d n 0 1) (nodeField d n 1 1) k).contains (objN c (0x2450 + st) 2)
           | none => false)
      | none => false))

/-- Rule 0x46 (R535). -/
def ruleGraphInput : RuleBody := fun _ c _ e =>
  match entryGraph c e with
  | some g => graphInputBreaks c g
  | none =>
    ((decide (0x2410 ≤ e.1) && decide (e.1 < 0x2420) && (e.2.1 == 1 || e.2.1 == 0x0B)) || (decide (0x2450 ≤ e.1) && decide (e.1 < 0x2460) && e.2.1 == 2)) &&
      (graphsOn c).any (graphInputBreaks c)

/-! ### Key-value pools (rules 0x4B to 0x4E) -/

/-- Enabled pools. -/
def poolsOn (c : State) : List Nat := (List.range 4).filter (fun p => objB c (0x2A00 + p) 1)

/-- The pool an entry speaks of, when the set leaves it enabled. -/
def entryPool (c : State) (e : SEntry) : Option Nat :=
  if 0x2A00 ≤ e.1 ∧ e.1 < 0x2A04 ∧ objB c e.1 1 then some (e.1 - 0x2A00) else none

/-- A pool's banks lie outside one partition's mask, or meet a slot's or another pool's (R660). -/
def poolBanksBreak (s c : State) (p : Nat) : Bool :=
  let m := poolN c p 3
  !([1, 2, 3].any (fun k => decide (m &&& objN c 0x2801 k = m))) || (List.range 4).any (fun n => decide (m &&& (mslot s n).banks.toNat ≠ 0)) ||
    ((poolsOn c).filter (· ≠ p)).any (fun q => decide (m &&& poolN c q 3 ≠ 0))

/-- Rule 0x4B. -/
def ruleKvBanks : RuleBody := fun s c _ e =>
  match entryPool c e with
  | some p => poolBanksBreak s c p
  | none => e.1 == 0x2801 && decide (1 ≤ e.2.1) && decide (e.2.1 ≤ 3) && (poolsOn c).any (poolBanksBreak s c)

/-- A window entry of 0x2801:06 grants B loads and stores over a range (R400). -/
def windowGrants (c : State) (base size : Nat) : Bool :=
  let d := stored c 0x2801 6
  (List.range 64).any (fun k =>
    let v := fieldN d (16 * k) 16
    v.testBit 75 && v.testBit 74 && v.testBit 73 && v.testBit 71 && decide (bits v 27 0 ≤ base / 4096) && decide ((base + size - 1) / 4096 ≤ bits v 55 28))

/-- A pool's mode is not its partition's, or its Sump lies outside a window for B (R661). -/
def poolModeBreaks (c : State) (p : Nat) : Bool :=
  let size := poolN c p 0x0A * pageSize c p
  (decide (poolPart c p ≠ 2) && decide (poolN c p 2 ≠ 0)) || decide (2 < poolN c p 2) ||
    (poolN c p 2 == 2 && decide (size ≠ 0) && !windowGrants c (poolN c p 9) size)

/-- Rule 0x4C. -/
def ruleKvMode : RuleBody := fun _ c _ e =>
  match entryPool c e with
  | some p => poolModeBreaks c p
  | none => e.1 == 0x2801 && (e.2.1 == 6 || decide (e.2.1 ≤ 3)) && (poolsOn c).any (poolModeBreaks c)

/-- A list of bucket limits rises strictly and holds powers of two from 64 to 65,536 (R673). -/
def bucketsOk : List Nat → Bool
  | [] => true
  | [x] => decide (64 ≤ x) && decide (x ≤ 65536) && decide (2 ^ Nat.log2 x = x)
  | x :: y :: t => decide (64 ≤ x) && decide (2 ^ Nat.log2 x = x) && decide (x < y) && bucketsOk (y :: t)

/-- Rule 0x4D (R662 to R664, R673). -/
def ruleKvHeader : RuleBody := fun _ c _ e =>
  match entryPool c e with
  | some p =>
    decide (frameCount c p = 0) || decide (poolN c p 5 % 64 ≠ 0) || decide (pageSize c p < poolN c p 5) || !bucketsOk (buckets c p) ||
      decide (65536 < ((poolsOn c).map (fun q => poolN c q 6)).foldl (· + ·) 0) || decide (8192 < ((poolsOn c).map (fun q => poolN c q 7)).foldl (· + ·) 0)
  | none => false

/-- Rule 0x4E. -/
def ruleKvBusy : RuleBody := fun s _ _ e =>
  decide (0x2A00 ≤ e.1) && decide (e.1 < 0x2A04) && changes s e && decide (seqCount s (e.1 - 0x2A00) (fun q => q.mode == .opened) ≠ 0)

/-! ### Lantern (rules 0x4F to 0x51) -/

/-- Population `p` is used (R723). -/
def popUsed (c : State) (p : Nat) : Bool := decide (p < 64) && decide (popWidth (popOf c p) ≠ 0)

/-- Populations in use. -/
def popsUsed (c : State) : List Nat := (List.range 64).filter (popUsed c)

/-- Neurons of a population, in one numbering over the four cores. -/
def popRange (c : State) (p : Nat) : Nat × Nat := (popCore (popOf c p) * 16384 + popFirst (popOf c p), popSize (popOf c p))

/-- Width and height of a projection's source grid: a population, or the input map for ON and OFF. -/
def sourceGrid (c : State) (d : List Byte) : Nat × Nat :=
  let k := fieldN d 1 1
  if k < 64 then (popWidth (popOf c k), popHeight (popOf c k)) else (mapWidth c, mapHeight c)

/-- Core, offset and octets of a projection's data (R711, R712; an explicit projection from ON or OFF uses its target's core, log
entry 24). -/
def projData (c : State) (j : Nat) : Nat × Nat × Nat :=
  let d := projOf c j
  let g := sourceGrid c d
  let dst := popCore (popOf c (fieldN d 2 1))
  if fieldN d 0 1 = 1 then (dst, fieldN d 8 4, (fieldN d 3 1 * fieldN d 4 1 + 1) / 2)
  else (if fieldN d 1 1 < 64 then popCore (popOf c (fieldN d 1 1)) else dst, fieldN d 8 4, 4 * (g.1 * g.2 + 1) + 4 * fieldN d 12 4)

/-- Projections in use. -/
def projsUsed (c : State) : List Nat := (List.range 64).filter (fun j => fieldN (projOf c j) 0 1 == 1 || fieldN (projOf c j) 0 1 == 2)

/-- Fan-out words of an explicit projection. -/
def fanWords (c : State) (j : Nat) : List Nat :=
  let x := projData c j
  let g := sourceGrid c (projOf c j)
  let mem := stored c 0x2C04 (x.1 + 1)
  (List.range (fieldN (projOf c j) 12 4)).map (fun i => bits (fieldN mem (x.2.1 + 4 * (g.1 * g.2 + 1) + 4 * i) 4) 15 0)

/-- The index of an explicit projection rises from 0 to its count and its words name neurons of the target (R712; log
entry 52). -/
def indexOk (c : State) (j : Nat) : Bool :=
  let x := projData c j
  let d := projOf c j
  let g := sourceGrid c d
  let mem := stored c 0x2C04 (x.1 + 1)
  let ix := fun m => fieldN mem (x.2.1 + 4 * m) 4
  (List.range (g.1 * g.2)).all (fun m => decide (ix m ≤ ix (m + 1))) && decide (ix (g.1 * g.2) = fieldN d 12 4) &&
    (fanWords c j).all (fun t => decide (t < popSize (popOf c (fieldN d 2 1))))

/-- A projection names used populations and its kernel or index matches them (R711, R712; log entry 52).
Log entry 52: DEDUCED, unsafe. -/
def projOk (c : State) (j : Nat) : Bool :=
  let d := projOf c j
  let src := fieldN d 1 1
  let dst := popOf c (fieldN d 2 1)
  let g := sourceGrid c d
  let st := fieldN d 5 1
  popUsed c (fieldN d 2 1) && (popUsed c src || src == 0x80 || src == 0x81) &&
    (if fieldN d 0 1 = 1 then
      decide (1 ≤ fieldN d 3 1) && decide (fieldN d 3 1 ≤ 11) && decide (1 ≤ fieldN d 4 1) && decide (fieldN d 4 1 ≤ 11) && (st == 1 || st == 2) &&
        decide (popWidth dst = (g.1 + st - 1) / max 1 st) && decide (popHeight dst = (g.2 + st - 1) / max 1 st)
     else indexOk c j)

/-- Lantern memory breaks rule 0x4F. -/
def lanternMemoryBreaks (c : State) : Bool :=
  (popsUsed c).any (fun p => decide (3 < popCore (popOf c p)) || decide (16384 < popFirst (popOf c p) + popSize (popOf c p))) ||
    anyMeet ((popsUsed c).map (popRange c)) ||
    (projsUsed c).any (fun j => decide (393216 < (projData c j).2.1 + (projData c j).2.2)) ||
    anyMeet ((projsUsed c).map (fun j => ((projData c j).1 * 2 ^ 40 + (projData c j).2.1, (projData c j).2.2))) ||
    (projsUsed c).any (fun j => !projOk c j)

/-- An entry that lays out Lantern's memory: the map's size, populations, projections or connection memory. -/
def lanternLayout (e : SEntry) : Bool :=
  (e.1 == 0x2C00 && decide (3 ≤ e.2.1) && decide (e.2.1 ≤ 5)) || e.1 == 0x2C02 || e.1 == 0x2C03 || e.1 == 0x2C04

/-- Rule 0x4F. -/
def ruleLanternMemory : RuleBody := fun _ c _ e => lanternLayout e && lanternMemoryBreaks c

/-- Largest number of times a value stands in a list. -/
def mostCommon (l : List Nat) : Nat := l.foldl (fun m x => max m (l.count x)) 0

/-- Fan-in of population `p`'s busiest neuron (R713). -/
def fanIn (c : State) (p : Nat) : Nat :=
  let js := (projsUsed c).filter (fun j => fieldN (projOf c j) 2 1 == p)
  ((js.filter (fun j => fieldN (projOf c j) 0 1 == 1)).map (fun j => fieldN (projOf c j) 3 1 * fieldN (projOf c j) 4 1)).foldl (· + ·) 0 +
    mostCommon ((js.filter (fun j => fieldN (projOf c j) 0 1 == 2)).flatMap (fanWords c))

/-- Rule 0x50. -/
def ruleFanIn : RuleBody := fun _ c _ e => lanternLayout e && (popsUsed c).any (fun p => decide (128 < fanIn c p))

/-- Rule 0x51. -/
def ruleLanternPort : RuleBody := fun _ c _ e =>
  ((e.1 == 0x2C00 && e.2.1 == 2) || e.1 == 0x2403) && decide (objN c 0x2C00 2 = 1) &&
      !(objB c 0x2403 1 && decide (objN c 0x2403 5 = 1) && decide (objN c 0x2403 2 = 2)) ||
    (decide (0x2C08 ≤ e.1) && decide (e.1 < 0x2C10) && decide (fieldN e.2.2 0 1 ≠ 0xFF) && !popUsed c (fieldN e.2.2 0 1)) ||
    (e.1 == 0x2C05 && e.2.1 == 1 && decide (leNat e.2.2 ≠ 0xFF) && !popUsed c (leNat e.2.2)) ||
    (e.1 == 0x2C02 && ((List.range 8).any (fun g => decide (fieldN (stored c (0x2C08 + g) 1) 0 1 ≠ 0xFF) && !popUsed c (fieldN (stored c (0x2C08 + g) 1) 0 1)) ||
      (decide (objN c 0x2C05 1 ≠ 0xFF) && !popUsed c (objN c 0x2C05 1))))

/-! ### Composition (rules 0x52 to 0x55) -/

/-- An enabled layer breaks R732, R734, R735, R736 or R742. -/
def layerBreaks (c : State) (l : Nat) : Bool :=
  let f := fun k => objN c (0x2E00 + l) k
  objB c (0x2E00 + l) 1 &&
    (decide (5 < f 3) || ((List.range 6).filter (· ≠ l)).any (fun k => objB c (0x2E00 + k) 1 && decide (objN c (0x2E00 + k) 3 = f 3)) ||
     decide (f 4 % 64 ≠ 0) || !((if l < 2 then [1, 2, 3, 4, 5] else [1, 3, 0x20, 0x21]).contains (f 2)) ||
     (f 2 == 5 && [6, 7, 8, 9].any (fun k => decide (f k % 2 ≠ 0))) ||
     [8, 9].any (fun k => decide (f k = 0) || decide (4096 < f k)))

/-- The layer an entry speaks of. -/
def entryLayer (e : SEntry) : Option Nat := if 0x2E00 ≤ e.1 ∧ e.1 < 0x2E06 then some (e.1 - 0x2E00) else none

/-- Rule 0x52. -/
def ruleLayer : RuleBody := fun _ c _ e => match entryLayer e with | some l => layerBreaks c l | none => false

/-- Rule 0x53 (R743). -/
def ruleOpaque : RuleBody := fun _ c _ e =>
  match entryLayer e with
  | some l => objB c (0x2E00 + l) 0x12 && (decide (objN c (0x2E00 + l) 0x0E ≠ 255) || (objN c (0x2E00 + l) 0x0F).testBit 24 || decide (objN c (0x2E00 + l) 2 = 0x20))
  | none => false

/-- Rule 0x54 (R740). -/
def ruleScale : RuleBody := fun _ c _ e =>
  match entryLayer e with
  | some l =>
    let f := fun k => objN c (0x2E00 + l) k
    decide (l < 2) && objB c (0x2E00 + l) 1 &&
      (decide (8 * f 8 < f 0x0C) || decide (8 * f 9 < f 0x0D) || decide (4 * f 0x0C < f 8) || decide ((if 2048 < f 8 then 2 else 4) * f 0x0D < f 9))
  | none => false

/-- DisplayPort is enabled and trained, and the timing passes what its link carries (R747, R748; log entry 53).
Log entry 53: DESIGN CHOICE, unsafe. -/
def dpBreaks (s c : State) : Bool :=
  let st := reg s (bCOMP + 0x44)
  let kbps := lget 0 [1620000, 2700000, 5400000] (bits st 5 4)
  (reg s bCOMP).testBit 1 &&
    (decide (2560 < objN c 0x2E10 2) || decide (1600 < objN c 0x2E10 6) ||
     (st.testBit 1 && decide (8 * bits st 3 2 * kbps < 10 * objN c 0x2E10 1 * 3 * objN c 0x2E10 0x0C)))

/-- Rule 0x55. -/
def ruleTiming : RuleBody := fun s c _ e =>
  e.1 == 0x2E10 &&
    (decide (objN c 0x2E10 1 < 25000) || decide (360000 < objN c 0x2E10 1) ||
     [2, 6].any (fun k => decide (objN c 0x2E10 k < 64) || decide (4096 < objN c 0x2E10 k)) || dpBreaks s c)

/-! ### The host's vote -/

/-- The rules the host die judges entry by entry, in ascending code. -/
def hostRules : List (Nat × RuleBody) := [
  (0x03, ruleHostState), (0x05, ruleSlotReady), (0x06, ruleSlotLevel), (0x07, ruleCavern), (0x41, ruleGrottoSpace), (0x42, ruleFlagConflict),
  (0x43, ruleStream), (0x44, ruleGraph), (0x45, ruleGraphSpace), (0x46, ruleGraphInput), (0x47, ruleGranule), (0x48, ruleBudget),
  (0x49, ruleSlotPartition), (0x4A, ruleBankMask), (0x4B, ruleKvBanks), (0x4C, ruleKvMode), (0x4D, ruleKvHeader), (0x4E, ruleKvBusy),
  (0x4F, ruleLanternMemory), (0x50, ruleFanIn), (0x51, ruleLanternPort), (0x52, ruleLayer), (0x53, ruleOpaque), (0x54, ruleScale),
  (0x55, ruleTiming), (0x5C, ruleDupGroup)]

/-- What the host die finds of set `n`: the first failing rule's code and entry (R296). -/
def judgeHostPart (s : State) (n : Nat) : Option (Nat × Nat) := firstFailing hostRules s n (stg s n).entries

end Sys2Proof.Machine
end

