-- ==== Sys2Proof/Machine/Staging.lean ====
section
/-! DEFINITION. Stage sets (chapter 06): appends, CHECK and the host's vote, ARM and its instant, the apply on both dies, undo
and rollback. -/

namespace Sys2Proof.Machine

/-! ### Sources and answers (R290 to R293) -/

/-- The set may be opened (R292). -/
def SetMode.closed (m : SetMode) : Bool := m == .idle || m == .applied || m == .failed

/-- The set's owner sends the command (R291). -/
def owns (x : StageSet) (src : Source) : Bool := x.owner == some src

/-- Who awaits the outcome of a command of the table by its source; a command of the port comes as a class-1 confirmed write
(R239), and the row carries no tag (log entry 54).
Log entry 54: DEDUCED, unsafe. -/
def askerOf : Source → Asker
  | .master => .master | .port => .frame 1 0 | .device => .nobody

/-- The source reaches the field firmware: the master by CoE, a source of the dies while the firmware runs (R254, R343). -/
def sourceUp (s : State) : Source → Bool
  | .master => coeUp s
  | _ => fieldUp s

/-- A write that ends at once is answered; one that waits on its set is answered by the set.
Log entry 57: DEDUCED, unsafe. -/
def settle (r : State × Option Nat) (who : Asker) (i sub : Nat) : State :=
  match r.2 with
  | some c => answerWrite r.1 who i sub c
  | none => r.1

/-- A class-4 frame: what it does and its set (log entry 55).
Log entry 55: DESIGN CHOICE, unsafe. -/
def stageFrame (s : State) (d : Die) (kind op n : Nat) (more : List Byte := []) : State :=
  ropeSend s d (mkFrame 4 kind (stageTag s n) (leBytes 1 op ++ leBytes 1 n ++ more))

/-- A request of the field die to the host die about a set opens a new exchange (R292).
Log entry 55: DESIGN CHOICE, unsafe. -/
def stageAsk (s : State) (op n : Nat) : State := stageFrame (setStg s n { stg s n with exchange := (stg s n).exchange + 1 }) .field 1 op n

/-! ### OPEN and append (R284 to R287) -/

/-- OPEN (R292). A shadow that the host die still holds for the last apply stays with it. -/
def stageOpen (s : State) (src : Source) (n : Nat) : State × Nat :=
  if (stg s n).mode.closed then (setStg s n { mode := .opened, owner := some src, shadow := (stg s n).shadow, exchange := (stg s n).exchange }, 0) else (s, 0x08000022)

/-- The entries that octets spell, and whether the last one is whole (R286).
Log entry 89: DEDUCED, unsafe. -/
def parseEntries : Nat → List Byte → List SEntry × Bool
  | 0, _ => ([], true)
  | k + 1, b =>
    if b.isEmpty then ([], true)
    else
      let len := fieldN b 4 2
      let size := 8 + (len + 3) / 4 * 4
      if b.length < 8 ∨ b.length < size then ([], false)
      else
        let r := parseEntries k (b.drop size)
        ((fieldN b 0 2, fieldN b 2 1, slice b 8 len) :: r.1, r.2)

/-- The checks of one entry at its append (R285, R287): 0 when all pass. -/
def entryAbort (s : State) (e : SEntry) : Nat :=
  match row? e.1 e.2.1 with
  | none => 0x06020000
  | some r =>
    if r.acc = .ro then 0x06010002
    else if r.acc = .rwp ∨ r.acc = .wo then 0x06010000
    else if heldByPdo s e.1 e.2.1 then 0x08000021
    else valueAbort r e.1 e.2.1 e.2.2

/-- Entries go into the set one by one up to the first that fails (R287). -/
def addEntries (s : State) (n : Nat) : List SEntry → State × Nat
  | [] => (s, 0)
  | e :: t =>
    if entryAbort s e ≠ 0 then (s, entryAbort s e)
    else addEntries (setStg s n { stg s n with entries := (stg s n).entries ++ [e] }) n t

/-- An append (R284, R287).
Log entry 48: DESIGN CHOICE, unsafe. Log entry 89: DEDUCED, unsafe. -/
def stageAppend (s : State) (src : Source) (n : Nat) (data : List Byte) : State × Nat :=
  let x := stg s n
  let p := parseEntries data.length data
  if x.mode ≠ .opened ∨ owns x src = false then (s, 0x08000022)
  else if 1024 < x.entries.length + p.1.length ∨ 65536 < entryBytes x.entries + entryBytes p.1 then (s, 0x08000022)
  else
    let r := addEntries s n p.1
    (r.1, if r.2 ≠ 0 then r.2 else if p.2 then 0 else 0x06090030)

/-! ### Apply instants (R297 to R300) -/

/-- The arm lead in ns. -/
def armLead (s : State) : Nat := 1000 * objN s 0x2100 6

/-- Ceiling of a rational. -/
def ceilI (q : Rat) : Int := -(-q).floor

/-- The first gap position ahead of the counter by at least v × arm lead (R297, R298). -/
def gapAhead (s : State) : Int :=
  let pitch : Rat := (objN s 0x2100 7 : Rat)
  let phase : Rat := (objN s 0x2100 8 : Rat)
  let p : Rat := (linePos s : Rat) / 256
  let reach := rabs s.pos.v * (armLead s : Rat) / 1000000000
  let k : Int :=
    if s.pos.v = 0 then ((p - phase) / pitch).floor + 1
    else if s.pos.v < 0 then ((p - reach - phase) / pitch).floor
    else ceilI ((p + reach - phase) / pitch)
  wrap56 (((objN s 0x2100 8 : Int) + k * (objN s 0x2100 7 : Int)) * 256)

/-- The first SYNC0 edge at least the arm lead ahead, none when SYNC0 makes no such edge (R297). -/
def syncAhead (s : State) : Option Nat :=
  match s.sync.next0 with
  | none => none
  | some t =>
    let goal := s.fclk.time + armLead s
    let per := busReg s 0x09A0
    if goal ≤ t then some t else if per = 0 then none else some (t + (goal - t + per - 1) / per * per)

/-- The instant a kind and value resolve to, none when the kind is unusable (R297 to R299). The time kind is kind 1, named Time.
Log entry 141: DEDUCED, unsafe. -/
def resolveInstant (s : State) (kind : Nat) (value : Int) : Option Instant :=
  let noPos := decide (s.pos.mode = .invalid)
  match kind with
  | 0 => some (.time (s.fclk.time + armLead s))
  | 1 => if s.fclk.never && !objB s 0x2221 4 then none else some (.time (ofSigned 64 value))
  | 2 => if noPos || decide (value % 256 ≠ 0) then none else some (.position (wrap56 value))
  | 3 => if noPos || decide (objN s 0x2100 7 = 0) then none else some (.position (gapAhead s))
  | 4 => (syncAhead s).map .time
  | _ => none

/-- The instant lies at least the arm lead ahead (R294, R300). -/
def leadHolds (s : State) (t : Instant) : Bool :=
  match t with
  | .time t => decide (s.fclk.time + armLead s ≤ t)
  | .position p =>
    match predict s p with
    | (some t, 0) => decide (s.fclk.time + armLead s ≤ t)
    | _ => true

/-! ### Applying (R302 to R310) -/

/-- The earlier value of an entry's object: what the host die recorded when it has already switched, else the present one.
Log entry 90: DEDUCED, unsafe. -/
def earlierValue (s : State) (x : StageSet) (e : SEntry) : SEntry :=
  match x.hostOld.find? (fun o => o.1 == e.1 && o.2.1 == e.2.1) with
  | some o => o
  | none => (e.1, e.2.1, live s e.1 e.2.1)

/-- The field die applies an armed set (R302, R309, R310, R316): undo record, field part, applied time and position, and the
apply confirmation to the host die.
Log entry 90: DEDUCED, unsafe. -/
def applySet (s : State) (n : Nat) (late : Bool) : State :=
  let x := stg s n
  let undo := x.entries.map (earlierValue s x)
  let s := fieldSwitch s x.entries
  let s := setStg s n { stg s n with mode := .applied, late := late, appliedTime := s.fclk.time, appliedPos := linePos s, hostReserved := false }
  let s := putN { s with undo := some undo, keptHost := x.entries.filter (fun e => !fieldOwned e.1) } 0x2100 1 n
  let s := if late then bump s 0x2100 0x0A else s
  if x.hasHostPart then stageFrame s .field 1 5 n (leBytes 8 s.fclk.time ++ leBytesI 8 (linePos s)) else s

/-- A counter has passed a position instant, or stands on it, by the present direction of motion (R72, R305). -/
def instantBehind (s : State) (t : Tbl) (p : Int) : Bool :=
  let d := wrap56 (tblCount s t - p)
  if tblReverse s t then decide (d ≤ 0) else decide (0 ≤ d)

/-- The set is armed; an instant that has gone by already applies it at once and late, as a LATE_OK entry would (R72, R305).
Log entry 88: DEDUCED, unsafe. -/
def becomeArmed (s : State) (n : Nat) (t : Instant) : State :=
  let s := setAnswer (setStg s n { stg s n with mode := .armed, rule := 0, instant := some t, due := none }) n 0
  match t with
  | .time u => if u < s.fclk.time then applySet s n true else s
  | .position p =>
    if !instantBehind s .field p then s
    else if s.pos.mode = .invalid then setStg s n { stg s n with due := some true } else applySet s n true

/-- ARM of a checked set with an instant kind and value (R292, R293, R297 to R300). The write in `waiter` awaits the outcome. -/
def armSet (s : State) (n kind : Nat) (value : Int) : State :=
  let back := fun (s : State) (code : Nat) => setAnswer (setStg s n { stg s n with mode := .checked, rule := code, instant := none }) n 0x08000022
  match resolveInstant s kind value with
  | none => back s 0x0E
  | some t =>
    if !leadHolds s t then back s 0x0D
    else if (stg s n).hasHostPart then stageAsk (setStg s n { stg s n with mode := .arming, instant := some t }) 3 n
    else becomeArmed s n t

/-- The set passed every rule (R292); a rollback goes on to ARM by itself (R311). -/
def becomeChecked (s : State) (n : Nat) : State :=
  let x := stg s n
  let s := setStg s n { x with mode := .checked, rule := 0, failEntry := 0xFFFF, failDie := 0 }
  if x.isRollback && x.waiter != .nobody then armSet s n (objN s 0x2100 4) (objI s 0x2100 5) else setAnswer s n 0

/-- CHECK of a set whose entries are frozen (R292, R294).
Log entry 48: DESIGN CHOICE, unsafe. Log entry 49: DEDUCED, unsafe. Log entry 87: DEDUCED, unsafe. -/
def checkSet (s : State) (n : Nat) : State :=
  match judgeField s n with
  | some (r, k) => failSet s n r k 0
  | none => if (stg s n).hasHostPart then stageAsk s 1 n else becomeChecked s n

/-- CHECK (R292, R293). -/
def stageCheck (s : State) (src : Source) (n : Nat) (who : Asker) (on : Nat × Nat) : State × Option Nat :=
  let x := stg s n
  if x.mode ≠ .opened ∨ owns x src = false then (s, some 0x08000022)
  else (checkSet (setStg s n { x with mode := .checking, waiter := who, waitOn := on }) n, none)

/-- ARM (R292, R293). -/
def stageArm (s : State) (src : Source) (n : Nat) (who : Asker) (on : Nat × Nat) : State × Option Nat :=
  let x := stg s n
  if x.mode ≠ .checked ∨ owns x src = false then (s, some 0x08000022)
  else (armSet (setStg s n { x with waiter := who, waitOn := on }) n (objN s (0x2110 + n) 7) (objI s (0x2110 + n) 8), none)

/-- A set returns to IDLE without its entries (R292). -/
def discardSet (s : State) (n : Nat) : State :=
  setStg s n { stg s n with mode := .idle, owner := none, entries := [], hostReserved := false, shadow := none }

/-- CANCEL (R292, R308).
Log entry 89: DEDUCED, unsafe. -/
def stageCancel (s : State) (src : Source) (n : Nat) (hostConfirms : Bool) : State × Nat :=
  let x := stg s n
  let mine := owns x src || x.mode == .failed
  if mine && (x.mode == .opened || x.mode == .checked || x.mode == .failed) then (discardSet s n, 0)
  else if mine && x.mode == .armed && (match x.instant with | some t => leadHolds s t | none => false) && (!x.hasHostPart || hostConfirms) then
    (discardSet s n, 0)
  else (s, 0x08000022)

/-- A write of 1 to 0x2100:03 (R311, R312).
Log entry 89: DEDUCED, unsafe. -/
def rollbackWrite (s : State) (who : Asker) (on : Nat × Nat) : State × Option Nat :=
  match (List.range 4).find? (fun n => (stg s n).mode.closed) with
  | none => (s, some 0x08000022)
  | some n =>
    let x : StageSet := { mode := .checking, owner := some .device, entries := s.undo.getD [], isRollback := true, waiter := who, waitOn := on,
                          shadow := (stg s n).shadow, exchange := (stg s n).exchange }
    let s := setStg s n x
    (if s.undo.isNone then failSet s n 0x0F 0xFFFF 0 else checkSet s n, none)

/-- The command octet of 0x2110 + n:01 (R290). -/
def stageCommand (s : State) (src : Source) (n code : Nat) (who : Asker) : State × Option Nat :=
  let on := (0x2110 + n, 1)
  let now := fun (r : State × Nat) => (r.1, some r.2)
  match code with
  | 1 => now (stageOpen s src n)
  | 2 => stageCheck s src n who on
  | 3 => stageArm s src n who on
  | 4 => now (stageCancel s src n (hostAnswers s))
  | _ => (s, some 0x06090030)

/-! ### The host die's part -/

/-- The host die switches the shadow it holds (R303, R304, R317); `late` says that the apply confirmation brought it. -/
def hostApplySet (s : State) (n : Nat) (late : Bool) : State :=
  let x := stg s n
  match x.shadow with
  | none => s
  | some (l, _) =>
    let old := (l.filter (fun e => !fieldOwned e.1)).map (fun e => (e.1, e.2.1, live s e.1 e.2.1))
    let s := hostSwitch s l (x.mode == .applied)
    let s := setStg s n { stg s n with shadow := none, hostOld := old, hostLate := late }
    if late then bump s 0x2100 0x0A else s

/-- The host die's own timebase cannot show the instant: its replica is INVALID (R317). -/
def replicaBlind (s : State) : Instant → Bool
  | .time _ => s.trep.invalid
  | .position _ => s.replica.held

/-- The replica has reached the instant, or its counter has crossed it (R303, R304). -/
def replicaReached (s : State) (due : Bool) : Instant → Bool
  | .time t => !s.trep.invalid && decide (t ≤ s.trep.time)
  | .position _ => !s.replica.held && due

/-! ### AL states (R348, R349) -/

/-- Entry into INIT or BOOT: sets of the master up to CHECKED are cancelled, and armed sets that rule 0x40 speaks of fail. -/
def alSets (s : State) : State :=
  (List.range 4).foldl
    (fun s n =>
      let x := stg s n
      if x.owner == some .master && (x.mode == .opened || x.mode == .checking || x.mode == .checked) then discardSet (setAnswer s n 0x08000022) n
      else if x.mode == .armed then
        (match x.entries.findIdx? (ruleAlState s s n) with
         | some k => failSet s n 0x40 k 0
         | none => s)
      else s) s

/-! ### The commands -/

/-- R292. -/
def execStageOpen (src : Source) (set : Fin 4) (s : State) : Out :=
  .next (if sourceUp s src then
      let r := stageOpen s src set.val
      answerWrite r.1 (askerOf src) (0x2110 + set.val) 1 r.2
    else s)

/-- R287. -/
def execStageAppend (src : Source) (set : Fin 4) (data : List Byte) (s : State) : Out :=
  .next (if sourceUp s src then
      let r := stageAppend s src set.val data
      answerWrite r.1 (askerOf src) (0x2110 + set.val) 6 r.2
    else s)

/-- R292 to R294. -/
def execStageCheck (src : Source) (set : Fin 4) (s : State) : Out :=
  .next (if sourceUp s src then settle (stageCheck s src set.val (askerOf src) (0x2110 + set.val, 1)) (askerOf src) (0x2110 + set.val) 1 else s)

/-- R292, R293, R297 to R300. -/
def execStageArm (src : Source) (set : Fin 4) (s : State) : Out :=
  .next (if sourceUp s src then settle (stageArm s src set.val (askerOf src) (0x2110 + set.val, 1)) (askerOf src) (0x2110 + set.val) 1 else s)

/-- R308. -/
def execStageCancel (src : Source) (set : Fin 4) (hostConfirms : Bool) (s : State) : Out :=
  .next (if sourceUp s src then
      let r := stageCancel s src set.val hostConfirms
      answerWrite r.1 (askerOf src) (0x2110 + set.val) 1 r.2
    else s)

/-- R311, R312: the master's write; any other value is not allowed (R235). -/
def execRollback (value : Byte) (s : State) : Out :=
  .next (if !coeUp s then s
    else if value == 1 then settle (rollbackWrite s .master (0x2100, 3)) .master 0x2100 3
    else answerWrite s .master 0x2100 3 0x06090030)

/-- R296: the host die checks its entries, reserves and casts its vote. -/
def execStagingPrepare (set : Fin 4) (s : State) : Out :=
  .next (match takeIn s .host (isStage s 1 set.val) with
    | some (_, t) =>
      let x := stg t set.val
      if !hostUp s then s
      else if x.mode != .checking then t
      else
        (match judgeHostPart t set.val with
         | some (r, k) => stageFrame t .host 2 2 set.val (leBytes 1 0 ++ leBytes 1 r ++ leBytes 2 k)
         | none => stageFrame (setStg t set.val { x with hostReserved := true }) .host 2 2 set.val (leBytes 1 1 ++ leBytes 1 0 ++ leBytes 2 0xFFFF))
    | none => s)

/-- R292, R296. -/
def execHostVote (set : Fin 4) (s : State) : Out :=
  .next (match takeIn s .field (isStage s 2 set.val) with
    | some (f, t) =>
      let w := fun (o n : Nat) => fieldN f.payload o n
      if !fieldUp s then s
      else if (stg t set.val).mode != .checking then t
      else if w 2 1 = 1 then becomeChecked t set.val
      else failSet t set.val (w 3 1) (w 4 2) 1
    | none => s)

/-- R294, rule 0x0C.
Log entry 87: DEDUCED, unsafe. -/
def execHostVoteTimeout (set : Fin 4) (s : State) : Out :=
  .next (let x := stg s set.val
    if fieldUp s && x.mode == .checking && x.hasHostPart then failSet s set.val 0x0C 0xFFFF 0 else s)

/-- R292: the host die loads its shadow values and confirms. -/
def execStagingArmMessage (set : Fin 4) (s : State) : Out :=
  .next (match takeIn s .host (isStage s 3 set.val) with
    | some (_, u) =>
      let x := stg u set.val
      (match x.instant with
       | some t =>
         if !hostUp s then s
         else if x.mode != .arming then u
         else
           stageFrame (setStg u set.val { x with shadow := some (x.entries.filter hostEntry, t),
                                                 hostDue := (match t with | .position p => instantBehind u .host p | .time _ => false) }) .host 2 4 set.val
       | none => u)
    | none => s)

/-- R292. -/
def execHostArmConfirm (set : Fin 4) (s : State) : Out :=
  .next (match takeIn s .field (isStage s 4 set.val) with
    | some (_, u) =>
      let x := stg u set.val
      (match x.instant with
       | some t => if !fieldUp s then s else if x.mode != .arming then u else becomeArmed u set.val t
       | none => u)
    | none => s)

/-- R292: the set returns to CHECKED and the write aborts (R293).
Log entry 87: DEDUCED, unsafe. -/
def execArmConfirmTimeout (set : Fin 4) (s : State) : Out :=
  .next (let x := stg s set.val
    if fieldUp s && x.mode == .arming then
      setAnswer (setStg s set.val { x with mode := .checked, rule := 0x0C, instant := none, shadow := none }) set.val 0x08000022
    else s)

/-- An armed set applies when its instant has come: a time instant once field time has reached it, a position instant once the
counter has crossed it and position is not INVALID. It is late when a step or a return passed it (R302 to R306).
Log entry 88: DEDUCED, unsafe. -/
def applyDue (s : State) (n : Nat) : State :=
  let x := stg s n
  if x.mode ≠ .armed then s
  else
    match x.instant with
    | some (.time t) => if t ≤ s.fclk.time then applySet s n (match s.fclk.lastStepAt with | some u => decide (t < u) | none => false) else s
    | some (.position _) =>
      (match x.due with
       | some late => if s.pos.mode = .invalid then s else applySet s n late
       | none => s)
    | none => s

/-- R301 to R306: sets armed for the same instant apply in ascending number, those below this one first. -/
def execApplyInstant (set : Fin 4) (s : State) : Out :=
  .next (if fieldHw s then
      applyDue ((List.range set.val).foldl (fun s n => if (stg s n).instant = (stg s set.val).instant then applyDue s n else s) s) set.val
    else s)

/-- R292, R303, R304, R307: the host die switches the shadows of an armed set; PWIN's live table follows (R400). -/
def execHostApply (set : Fin 4) (s : State) : Out :=
  .next (match (stg s set.val).shadow with
    | some (_, t) =>
      if hostUp s && (stg s set.val).mode != .arming && replicaReached s (stg s set.val).hostDue t then hostApplySet s set.val false else s
    | none => s)

/-- R317: with its replica INVALID, the host die applies at the field die's confirmation, late. -/
def execApplyConfirmation (set : Fin 4) (s : State) : Out :=
  .next (match takeIn s .host (isStage s 5 set.val) with
    | some (_, u) =>
      if !hostUp s then s
      else
        (match (stg u set.val).shadow with
         | some (_, t) => if (stg u set.val).mode == .applied && replicaBlind u t then hostApplySet u set.val true else u
         | none => u)
    | none => s)

/-- R319. -/
def execInstantHoldTimeout (set : Fin 4) (s : State) : Out :=
  .next (let x := stg s set.val
    match x.instant with
    | some (.position _) => if fieldUp s && x.mode == .armed && s.pos.mode == .invalid then failSet s set.val 0x0E 0xFFFF 0 else s
    | _ => s)

end Sys2Proof.Machine
end

