-- ==== Sys2Proof/Machine/Al.lean ====
section
/-! DEFINITION. The AL states of the fieldbus slave (R343 to R349): what each transition checks, and what leaving and entering a
state does. -/

namespace Sys2Proof.Machine

/-! ### Transitions -/

/-- The AL state changes: leaving OP runs a reaction on every enabled axis with emergency 0xFF0A (R345), entering PREOP sends the
queued emergencies (R361), entering INIT or BOOT acts on stage sets and ends the mailbox (R254, R348, R349), and BOOT asserts
internal STO (R343). -/
def setAl (s : State) (dest : AlState) (code : Nat) (error : Bool) (r : Reaction) : State :=
  let old := s.bus.al
  let s := { s with bus := { s.bus with al := dest, code := code, error := error, sm2Seen := if dest = .safeop then false else s.bus.sm2Seen,
                                        transfer := if dest = .init ∨ dest = .boot then none else s.bus.transfer } }
  let s := if old = .op ∧ dest ≠ .op then startReaction s r (enabledMask s) 0 (some 0xFF0A) r.code else s
  let s := if old ≠ .preop ∧ dest = .preop then emcyFlush s else s
  let s := if old ≠ dest ∧ (dest = .init ∨ dest = .boot) then alSets s else s
  if old ≠ .boot ∧ dest = .boot then stoAll s else s

/-- The reaction of 0x1E00:01 (R345).
Log entry 93: DEDUCED, unsafe. -/
def leaveReaction (s : State) : Reaction := reactionOf (objN s 0x1E00 1)

/-- The standard allows the transition; BOOT is reached from INIT and left to INIT (R346). -/
def alAllowed (a b : AlState) : Bool :=
  match a, b with
  | .init, .init => true | .init, .preop => true | .init, .boot => true
  | .preop, .init => true | .preop, .preop => true | .preop, .safeop => true
  | .safeop, .init => true | .safeop, .preop => true | .safeop, .safeop => true | .safeop, .op => true
  | .op, .init => true | .op, .preop => true | .op, .safeop => true | .op, .op => true
  | .boot, .init => true | .boot, .boot => true
  | _, _ => false

/-- Length of SyncManager `n`, the default where the master has not written it (R325).
Log entry 93: DEDUCED, unsafe. -/
def smLength (s : State) (n dflt : Nat) : Nat := if busReg s (0x0802 + 8 * n) = 0 then dflt else busReg s (0x0802 + 8 * n)

/-- Both mailboxes lie within R325. -/
def mailboxesOk (s : State) : Bool := [0, 1].all (fun n => decide (128 ≤ smLength s n 512) && decide (smLength s n 512 ≤ 1024))

/-- Every mapped object starts on a byte, from bit offset `at_` on (R332). -/
def aligned : Nat → List (Nat × Nat × Nat) → Bool
  | _, [] => true
  | at_, e :: t => (e.1 == 0 || decide (at_ % 8 = 0)) && aligned (at_ + e.2.2) t

/-- Bytes of a mapping. -/
def mappedBytes (l : List (Nat × Nat × Nat)) : Nat := ((l.map (fun e => e.2.2)).foldl (· + ·) 0 + 7) / 8

/-- Mapping, size and mode of SyncManager 2 (receive) or 3 (transmit) match R328 to R334. -/
def processOk (s : State) (rx : Bool) : Bool :=
  let l := mapped s rx
  let n := if rx then 2 else 3
  aligned 0 l && decide (mappedBytes l ≤ 1024) && l.all (fun e => e.1 == 0 || mapOk (if rx then .rx else .tx) (e.1 * 65536 + e.2.1 * 256 + e.2.2)) &&
    decide (smLength s n (mappedBytes l) = mappedBytes l) && decide (busReg s (0x0804 + 8 * n) % 4 = 0)

/-- Assigned PDOs of a direction. -/
def pdosOf (s : State) (rx : Bool) : List Nat := ((List.range 8).map (fun k => objN s (if rx then 0x1C12 else 0x1C13) (k + 1))).filter (· ≠ 0)

/-- The PDO maps the object. -/
def pdoMaps (s : State) (pdo i sub : Nat) : Bool := (List.range 32).any (fun k => decide (objN s pdo (k + 1) / 256 = i * 256 + sub))

/-- Publisher and follower settings are consistent (R356, R357). -/
def followerOk (s : State) : Bool :=
  !(objB s 0x2260 1 && decide (objN s 0x2201 1 = 2)) &&
    (pdosOf s false).all (fun p => pdoMaps s p 0x2260 2 == pdoMaps s p 0x2260 3) &&
    (pdosOf s true).all (fun p => pdoMaps s p 0x2260 4 == pdoMaps s p 0x2260 5)

/-- SYNC cycle that the control period must divide (R154). -/
def sourceCycle (s : State) : Nat := if objN s 0x2240 1 = 0 then busReg s 0x09A0 else if objN s 0x2240 1 = 1 then sync1Period s else 0

/-- The AL status code of the first failing check of PREOP to SAFEOP, 0 when all pass (R346). -/
def safeopCode (s : State) : Nat :=
  if s.link.outcome = 3 then 0x8001
  else if !processOk s true then 0x001D
  else if !processOk s false then 0x001E
  else if 0 < busReg s 0x09A0 ∧ busReg s 0x09A0 < 25000 then 0x0035
  else if sourceCycle s % max 1 (objN s 0x2240 2) ≠ 0 then 0x0030
  else if !followerOk s then 0x8004
  else 0

/-- The AL status code that refuses a request, 0 when it is granted (R346).
Log entry 93: DEDUCED, unsafe. -/
def alCode (s : State) (dest : AlState) : Nat :=
  let from_ := s.bus.al
  if !alAllowed from_ dest || (s.bus.romOnly && dest != .init && dest != .boot) then 0x0011
  else if from_ = .init ∧ dest = .preop ∧ mailboxesOk s = false then 0x0016
  else if from_ = .preop ∧ dest = .safeop then safeopCode s
  else if from_ = .safeop ∧ dest = .op ∧ s.bus.sm2Seen = false then 0x8005
  else 0

/-- The slave answers AL requests: its firmware runs, or its boot ROM in recovery (R1004). -/
def slaveUp (s : State) : Bool := fieldUp s || s.fboot.mode == .recovery

/-- A request that passes or is refused; a refusal sets the error flag and the code and leaves the state. -/
def alRequest (s : State) (dest : AlState) : State :=
  if alCode s dest = 0 then setAl s dest 0 false (leaveReaction s)
  else { s with bus := { s.bus with code := alCode s dest, error := true } }

end Sys2Proof.Machine
end

