-- ==== Sys2Proof/Machine/Boot.lean ====
section
/-! DEFINITION. Boot, reset and firmware levels (chapter 21), with the supply, crystal and oscillator events of chapters 20 and
22: reset sources, image slots and control records, installation, trial and commit, both dies' boots and the level exchange. -/

namespace Sys2Proof.Machine

/-! ### Slots (R984 to R990, R1005) -/

/-- Error of a slot that is not accepted, as SYSCTL_BOOT_STATUS numbers them, 0 for a reason without a number (R1000).
Log entry 67: DEDUCED, unsafe. -/
def slotError (x : Storage) (f : List Byte) : Nat :=
  if !magicOk f then 0 else if !keyOk x f then 2 else if !steppingOk f then 3 else if !(bootPartOk f && mainPartOk f) then 4 else 0

/-- What a boot ROM's choice comes to (R985): the slot, whether it is a trial, the error field and the storage behind it. -/
structure Choice where
  slot : Option Bool
  trial : Bool
  error : Nat
  defaulted : Bool
  store : Storage
  deriving DecidableEq, Repr

/-- The choice of a slot (R985, R1005).
Log entry 67: DEDUCED, unsafe. Log entry 72: DEDUCED, unsafe. -/
def chooseSlot (host : Bool) (x : Storage) : Choice :=
  let defaulted := (controlOf x).isNone
  let x := if defaulted then writeControl x {} else x
  let c := (controlOf x).getD {}
  let trying := if 0 < c.tries then c.trial else none
  let x := match trying with | some _ => writeControl x { c with tries := c.tries - 1 } | none => x
  let order := match trying with | some t => [t, c.activeB] | none => [c.activeB, !c.activeB]
  let slot := order.find? (fun b => slotOk host x (slotImage x b))
  let first := order.headD false
  { slot := slot, trial := trying.isSome && slot == trying,
    error := if slot.isNone then 6 else if defaulted then 1 else if slot == some first then 0 else slotError x (slotImage x first),
    defaulted := defaulted, store := x }

/-- The running trial image becomes ACTIVE (R988).
Log entry 72: DEDUCED, unsafe. -/
def commitTrial (b : BootState) : BootState :=
  if b.trial then
    { b with trial := false, store := writeControl b.store { (controlOf b.store).getD {} with activeB := b.slotB, trial := none, tries := 0 } }
  else b

/-- A write to a commit object with its abort code (R988).
Log entry 72: DEDUCED, unsafe. -/
def commitWrite (b : BootState) (v : Nat) : BootState × Nat :=
  if v ≠ 1 then (b, 0x06090030) else if b.trial then (commitTrial b, 0) else (b, 0x08000022)

/-- Status of an installation, as 0x2006:02 numbers them (R986, R1001); the MAIN part's digest is not read back.
Log entry 67: DEDUCED, unsafe. -/
def installStatus (host : Bool) (x : Storage) (i : List Byte) (stored : Bool) : Nat :=
  if !kindOk host i then 5
  else if !imageSizeOk host i then 6
  else if !stored then 7
  else if !keyOk x i || !bootPartOk i then 3
  else if !steppingOk i then 4
  else 2

/-- Installing an image (R986): it goes into the slot that is not ACTIVE; one that fails a check or the write leaves the
control record unchanged.
Log entry 67: DEDUCED, unsafe. -/
def install (host : Bool) (x : Storage) (i : List Byte) (stored : Bool) : Storage × Nat :=
  let c := (controlOf x).getD {}
  let status := installStatus host x i stored
  if status = 5 ∨ status = 6 then (x, status)
  else
    let x := setSlotImage x (!c.activeB) (if stored then i else [])
    (if status = 2 then writeControl x { c with trial := some (!c.activeB), tries := 1 } else x, status)

/-- An image that a boot ROM in recovery receives goes into slot A, which becomes ACTIVE (R1003, R1004). -/
def recoverSlot (host : Bool) (x : Storage) (i : List Byte) (stored : Bool) : Storage × Nat :=
  let status := installStatus host x i stored
  if status = 5 ∨ status = 6 then (x, status)
  else
    let x := setSlotImage x false (if stored then i else [])
    (if status = 2 then writeControl x { (controlOf x).getD {} with activeB := false, trial := none, tries := 0 } else x, status)

/-! ### Supplies and clocks -/

/-- Set or clear a hold on the host die: 0 supply low, 1 supply high, 2 crystal stopped.
Log entry 70: DEDUCED, unsafe. -/
def hostHold (s : State) (bit : Nat) (on : Bool) : State :=
  { s with hboot := { s.hboot with hold := setBit s.hboot.hold bit on } }

/-- Set or clear a hold on the field die: 0 supply low, 1 supply high, 2 oscillator stopped. -/
def fieldHold (s : State) (bit : Nat) (on : Bool) : State :=
  { s with fboot := { s.fboot with hold := setBit s.fboot.hold bit on } }

/-- The field die is held in reset with internal STO on every axis (R931, R1029, R1031). -/
def fieldHeld (s : State) (bit cause : Nat) : State := fieldReset (fieldHold (stoAll s) bit true) cause

/-- A hold on the field die ends; with none left its boot ROM runs. -/
def fieldUnheld (s : State) (bit : Nat) : State :=
  if !s.fboot.hold.testBit bit then s
  else
    let s := fieldHold s bit false
    if s.fboot.hold = 0 then { s with fboot := { s.fboot with mode := .rom } } else s

/-- A hold on the host die ends; with none left the rails rise and its boot ROM runs. -/
def hostUnheld (s : State) (bit cause : Nat) : State :=
  if !s.hboot.hold.testBit bit then s
  else
    let s := hostHold s bit false
    if s.hboot.hold = 0 ∧ s.hboot.mode ≠ .off then hostRelease s cause else s

/-- R933, R970: both dies start from power-on; flash, OTP, fitted memory, straps and levels of inputs remain, and DRAM has lost
its contents.
Log entry 71: DESIGN CHOICE, unsafe. -/
def execPowerOn (hBoot mp0 mp1 : BitVec 2) (s : State) : Out :=
  .next { ({} : State) with
    fboot := { mode := .rom, cause := 1, store := s.fboot.store }
    hboot := { mode := .rom, cause := 1, store := s.hboot.store, limitRun := true }
    hBoot := hBoot, gradeI := s.gradeI, fsaved := s.fsaved, hsaved := s.hsaved
    bus := { port0 := s.bus.port0, port1 := s.bus.port1 }
    saf := { flash := s.saf.flash, ch := s.saf.ch }
    mem := { fittedGib := s.mem.fittedGib, losses := [] :: s.mem.losses }
    comp := { hpd := s.comp.hpd }
    pwr := { rails := railsAll, pgood := true, phases0 := mp0.toNat + 1, phases1 := mp1.toNat + 1, active0 := mp0.toNat + 1, active1 := mp1.toNat + 1, rising := some true }
    freeCtr := s.freeCtr, pending := s.pending }

/-- R930, R935, R970.
Log entry 70: DEDUCED, unsafe. -/
def execHostVinRise (s : State) : Out :=
  .next (if s.hboot.hold.testBit 0 || s.hboot.mode == .off || s.hboot.mode == .unpowered then
      let s := hostHold s 0 false
      if s.hboot.hold = 0 then hostRelease s 2 else s
    else s)

/-- R930.
Log entry 70: DEDUCED, unsafe. -/
def execHostVinLow (s : State) : Out :=
  .next (let s := hostHold s 0 true
    if s.hboot.mode = .off then s else hostFall s)

/-- R1030. -/
def execHostVinHigh (s : State) : Out :=
  .next (let s := hostHold s 1 true
    if s.hboot.mode = .off then s else hostFall s)

/-- R1030: a host power-on. -/
def execHostVinHighRelease (s : State) : Out := .next (hostUnheld s 1 2)

/-- R1031.
Log entry 39: DEDUCED, unsafe. -/
def execHostCrystalStop (s : State) : Out :=
  .next (let s := hostHold s 2 true
    if s.hboot.mode = .off then s else hostReset s .cold 2)

/-- R1031: which cause the reset then reads is not stated (log entry 3).
Log entry 3: DESIGN CHOICE, safe. Log entry 39: DEDUCED, unsafe. Log entry 69: DESIGN CHOICE, safe. -/
def execHostCrystalRestart (s : State) : Out :=
  .next (if s.hboot.hold.testBit 2 then hostUnheld (drawn s) 2 ((freeW s).toNat % 256) else s)

/-- R931. -/
def execFieldVinLow (s : State) : Out := .next (fieldHeld s 0 2)

/-- R931, R970. -/
def execFieldVinRise (s : State) : Out := .next (fieldUnheld s 0)

/-- R1029. -/
def execFieldVinHigh (s : State) : Out := .next (fieldHeld s 1 8)

/-- R1029. -/
def execFieldVinHighRelease (s : State) : Out := .next (fieldUnheld s 1)

/-- R1031: which cause the reset then reads is not stated (log entry 3).
Log entry 3: DESIGN CHOICE, safe. Log entry 69: DESIGN CHOICE, safe. -/
def execTcxoStop (s : State) : Out := .next (fieldHeld (drawn s) 2 ((freeW s).toNat % 256))

/-- R1031. -/
def execTcxoRestart (s : State) : Out := .next (fieldUnheld s 2)

/-! ### Reset sources (R970 to R976) -/

/-- R970. -/
def execHResetLLow (s : State) : Out := .next (hostAsk s 3)

/-- R970. -/
def execFResetLLow (s : State) : Out :=
  .next (if s.fboot.mode = .unpowered ∨ s.fboot.mode = .held then s else fieldReset s 3)

/-- R425 to R427, R971, R972: the requested reset is entered. -/
def execHostWarmReset (s : State) : Out :=
  .next (match s.hboot.pending with
    | some c => hostReset s (if s.hboot.full then .full else .warm) c
    | none => s)

/-- A write to 0x2005:02 with its abort code. -/
def resetRequestWrite (s : State) (v : Nat) : State × Nat := if v = 1 then (hostAsk s 6, 0) else (s, 0x06090030)

/-- R970. -/
def execHostResetRequest (value : Byte) (s : State) : Out :=
  .next (if hostUp s then
      let r := resetRequestWrite s value.toNat
      sdoAnswer r.1 0x2005 2 r.2 []
    else s)

/-- A write of 0x02 to 0x3A40:03 with its abort code: a full-reset request goes to the host die on class 3 (R972). -/
def fullResetWrite (s : State) : State × Nat :=
  if !hostAnswers s then (s, 0x08000022)
  else
    (ropeSend { s with fboot := { s.fboot with pending := some 5 } } .field
      (mkFrame 3 1 0 (leBytes 2 0x3A40 ++ leBytes 1 3 ++ leBytes 1 2 ++ [0, 0, 0, 0] ++ leBytes 1 2)), 0)

/-- R970: the write is answered, and the field die resets. -/
def execFieldOnlyResetCommand (s : State) : Out :=
  .next (if fieldUp s then fieldReset (sdoAnswer s 0x3A40 3 0 []) 4 else s)

/-- R972. -/
def execFullResetCommand (s : State) : Out :=
  .next (if fieldUp s then
      let r := fullResetWrite s
      sdoAnswer r.1 0x3A40 3 r.2 []
    else s)

/-- R972. -/
def execFullResetRequest (s : State) : Out :=
  .next (match takeIn s .host isFullReset with
    | some (_, t) =>
      let t := hostAsk t 7
      if t.hboot.pending.isSome then { t with hboot := { t.hboot with full := true } } else t
    | none => s)

/-- R972: 1 ms after the request was acknowledged. -/
def execFullResetDelayExpiry (s : State) : Out :=
  .next (match s.fboot.pending, s.fboot.askedAt with
    | some c, some t => if t + 200000 ≤ s.fclk.ticks then fieldReset s c else s
    | _, _ => s)

/-- R974 to R976. -/
def execRopeAlive (_value : BitVec 32) (s : State) : Out :=
  .next (if hostUp s then { s with hboot := { s.hboot with aliveRun := true, limitRun := false } } else s)

/-- R973, R1002: no reset once LANTERN-WATCH has been entered. -/
def execAliveExpiry (s : State) : Out :=
  .next (if hostUp s && s.hboot.aliveRun && decide (objN s 0x2005 1 ≠ 0) then hostAsk s 5 else s)

/-- R976. -/
def execBootLimitExpiry (s : State) : Out := .next (if s.hboot.limitRun then hostAsk s 9 else s)

/-- R380. -/
def execSupervisorLockstepMismatch (s : State) : Out := .next (hostAsk s 4)

/-! ### Trial, commit and installation -/

/-- R988. -/
def execCommitHostTrial (value : Byte) (s : State) : Out :=
  .next (if hostUp s then
      let r := commitWrite s.hboot value.toNat
      sdoAnswer { s with hboot := r.1 } 0x2005 3 r.2 []
    else s)

/-- R988. -/
def execCommitFieldTrial (value : Byte) (s : State) : Out :=
  .next (if fieldUp s then
      let r := commitWrite s.fboot value.toNat
      sdoAnswer { s with fboot := r.1 } 0x3A40 4 r.2 []
    else s)

/-- The image that stands at a DRAM address: its header, and its parts while their lengths keep R982.
Log entry 77: DEDUCED, unsafe. -/
def dramImageAt (s : State) (a : Nat) : List Byte :=
  let h := dramRead s a headerLen
  if kindOk true h && imageSizeOk true h then dramRead s a (imageLen (imageOf h)) else h

/-- R986: the image that stands at the DRAM address is installed, with its outcome in 0x2006:02; an address that is not DRAM holds
no image.
Log entry 77: DEDUCED, unsafe. -/
def execInstallHostImage (address : BitVec 64) (stored : Bool) (s : State) : Out :=
  .next (if hostUp s then
      let r := install true s.hboot.store (if engineMapped s address.toNat then dramImageAt s address.toNat else []) stored
      sdoAnswer (putN { s with hboot := { s.hboot with store := r.1 } } 0x2006 2 r.2) 0x2006 1 0 []
    else s)

/-- R997. -/
def execMotionOverrideWrite (value : BitVec 32) (s : State) : Out :=
  .next (if fieldUp s then
      let r := overrideWrite s value.toNat
      sdoAnswer r.1 0x3A40 1 r.2 []
    else s)

/-! ### The host die's boot (R978, R1003) -/

/-- The Sump of a pool lies in a keep region that KEEP_STATUS shows valid.
Log entry 73: DEDUCED, unsafe. -/
def sumpKept (s : State) (p : Nat) : Bool :=
  (bitList (reg s (bKEEP + 0x100)) 8).any (fun n =>
    decide ((keepRegion s n).1 ≤ poolN s p 9) && decide (poolN s p 9 + poolN s p 0x0A * pageSize s p ≤ (keepRegion s n).1 + (keepRegion s n).2))

/-- Spilled sequences whose Sump was not kept become DROPPED (R692).
Log entry 73: DEDUCED, unsafe. -/
def dropSpilled (s : State) : State :=
  let fix := fun (p : Nat) (x : Pool) =>
    { x with seqs := (x.seqs.map (fun (q : Nat × KvSeq) => (q.1, if q.2.spilled && !sumpKept s p then { q.2 with mode := .dropped, spilled := false } else q.2))) }
  { s with kv := { s.kv with pools := s.kv.pools.map (fun e => (e.1, fix e.1 e.2)) } }

/-- The octets that stand in a slot's banks where its body went. -/
def slotOctets (s : State) (x : Slot) (n : Nat) : List Byte :=
  let l := bitList x.banks.toNat 24
  (List.range n).map (fun k => tget 0 s.gal.cavern (lget 24 l (k / 2 ^ 23) * 2 ^ 23 + k % 2 ^ 23))

/-- The body that stands in a slot's banks has its digest, and no word of those banks is poisoned (R646). -/
def slotIntact (s : State) (x : Slot) : Bool :=
  (match x.bundle with | some b => decide (sha384 (slotOctets s x b.bodyLen) = b.digest) | none => false) &&
    !s.gal.poison.any (fun w => x.banks.getLsbD (w / 2 ^ 20))

/-- Every model slot that is not EMPTY is hashed again: one that fails, or whose load the reset cut short, becomes FAILED with
cause 0x06 (R646).
Log entry 74: DEDUCED, unsafe. -/
def rehashSlots (s : State) : State :=
  let s := (List.range 4).foldl (fun s n =>
    let x := mslot s n
    if x.mode = .empty ∨ x.mode = .failed then s
    else if x.mode ≠ .loading ∧ slotIntact s x = true then s
    else setSlot s n { x with mode := .failed, cause := 6, verified := false }) s
  { s with gal := { s.gal with ready := true, rehash := false } }

/-- Values of the host store come into force (R245, R246).
Log entry 93: DEDUCED, unsafe. -/
def hostLoad (s : State) : State :=
  match readSaved s.hsaved with
  | .absent => s
  | .lost => logHost s (mkRec 9 0 (eventDetail (Config.eventCode 1).toNat 3))
  | .values v => hostSettle s (loadSaved s v) (v.map (fun e => (e.1 / 256, e.1 % 256)))

/-- The boot ROM enters recovery, which stops the boot limit (R976, R1003). -/
def hostRecovery (s : State) (error : Nat) : State :=
  { s with hboot := { s.hboot with mode := .recovery, error := error, limitRun := false } }

/-- The chosen host image boots (R978).
Log entry 68: DEDUCED, unsafe. -/
def hostStart (s : State) (b : Bool) (dramOk : Bool) (badKeep : List (Fin 8)) : State :=
  if !dramOk then { s with hboot := { s.hboot with error := 5, stage := 1, slotB := b } }
  else
    let s := keepLeave s (badKeep.map (fun n => n.val))
    let s := { s with mem := { s.mem with trained := true }, pwr := { s.pwr with pgFails := 0, failed := 0 },
                      hboot := { s.hboot with mode := .running, slotB := b, stage := 3, cold := false } }
    let s := hostLoad s
    let s := dropSpilled s
    if s.gal.rehash then rehashSlots s else s

/-- R978 to R980, R985, R1003, R1005. -/
def execHostBoot (dramOk : Bool) (badKeep : List (Fin 8)) (s : State) : Out :=
  .next (if s.hboot.mode ≠ .rom then s
    else if s.hBoot = 3 then hostRecovery { s with pwr := { s.pwr with rising := none } } 0
    else
      let c := chooseSlot true s.hboot.store
      let s := { s with hboot := { s.hboot with store := c.store, error := c.error, trial := c.trial }, pwr := { s.pwr with rising := none } }
      match c.slot with
      | none => hostRecovery s 6
      | some b => hostStart s b dramOk badKeep)

/-! ### The field die's boot (R977, R1004) -/

/-- Values of the field store come into force (R245, R246). -/
def fieldLoad (s : State) : State :=
  match readSaved s.fsaved with
  | .absent => s
  | .lost => emcy (logField s (mkRec 9 0 (eventDetail (Config.eventCode 1).toNat 2))) 0xFF06 0xFF 2
  | .values v =>
    let s := loadSaved s v
    setRole s (objB s 0x2221 4)

/-- The chosen field image boots: saved values, the records of what the reset found, the emulated SYNC impulse length and the
field wake (R350, R901, R956, R977). -/
def fieldStart (s : State) (b : Bool) (defaulted : Bool) : State :=
  let s := { s with fboot := { s.fboot with mode := .running, slotB := b }, link := { s.link with beacon := true } }
  let s := setBusReg { s with saf := { s.saf with refreshAt := some s.fclk.ticks } } 0x0982 (configWord s 2)
  let s := if defaulted then logField s (mkRec 9 0 (eventDetail (Config.eventCode 2).toNat 0)) else s
  let s := if s.saf.logHalt then logField { s with saf := { s.saf with logHalt := false } } (mkRec 9 1 (eventDetail (Config.eventCode 3).toNat 0)) else s
  fieldLoad s

/-- R977, R985, R1004, R1005. -/
def execFieldBoot (s : State) : Out :=
  .next (if s.fboot.mode ≠ .rom then s
    else
      let c := chooseSlot false s.fboot.store
      let s := { s with fboot := { s.fboot with store := c.store, error := c.error, trial := c.trial } }
      match c.slot with
      | none => { s with fboot := { s.fboot with mode := .recovery }, bus := { s.bus with romOnly := true } }
      | some b => fieldStart s b c.defaulted)

/-! ### Interface levels (R993 to R997) -/

/-- A partner table lists an image by KIND and BUILD (R994).
Log entry 75: DESIGN CHOICE, unsafe. -/
def lists (i : Image) (kind : Nat) (build : BitVec 32) : Bool := i.partners.any (fun p => p.1 == kind && p.2 == build)

/-- The outcome of the field die's levels and the host die's (R994).
Log entry 75: DESIGN CHOICE, unsafe. -/
def levelOutcome (s : State) (f h : Levels) : Nat :=
  let major := fun (v : BitVec 16) => v.toNat / 256
  if major f.rpl ≠ major h.rpl ∨ major f.dsl ≠ major h.dsl ∨ major f.qal ≠ major h.qal ∨ major f.mbl ≠ major h.mbl ∨ f.stepping ≠ h.stepping then 3
  else if lists (runningImage s.hboot) 2 f.build || lists (runningImage s.fboot) 1 h.build then 1
  else 2

/-- FIELD SAFE STANDBY begins (R996): SAFEOP or OP is left for PREOP, and every enabled axis runs the stricter of 0x1E00:01 and
SS1. -/
def safeStandby (s : State) : State :=
  let r := if (leaveReaction s).rank < Reaction.ss1.rank then .ss1 else leaveReaction s
  if s.bus.al = .op then setAl s .preop 0x8001 true r
  else
    let s := startReaction s r (enabledMask s) 0
    if s.bus.al = .safeop then setAl s .preop 0x8001 true r else s

/-- Host values that the field die keeps are reloaded after a host reset (R316).
Log entry 76: DEDUCED, unsafe. -/
def reloadKept (s : State) : State :=
  hostSettle s (s.keptHost.foldl (fun s e => putObj s e.1 e.2.1 e.2.2) s) (s.keptHost.map (fun e => (e.1, e.2.1)))

/-- The kept host pair goes to a booted host die in a class-3 message, with the field time of the push (R164). -/
def pushPair (s : State) : State :=
  match s.pairs.p2 with
  | some (f, p, _) =>
    ropeSend s .field (mkFrame 3 0 0 (leBytes 2 0x2280 ++ [4, 3, 0, 0, 0, 0] ++ leBytes 8 f ++ leBytes 8 p ++ leBytes 8 s.fclk.time))
  | none => s

/-- Pushes that follow a level exchange: all host entries (R108), and at a host boot 0x2281 (R130) and the kept pair (R164).
Log entry 76: DEDUCED, unsafe. -/
def pushAll (s : State) : State :=
  let s := (List.range 128).foldl (fun s n => pushHostEntry { s with hostPush := tset 0 s.hostPush n (tget 0 s.hostPush n + 1) } n) s
  let s := { s with replica := { s.replica with reloadPush := some (tget 0 s.hostPush 127 % 65536) } }
  if s.link.hostNew then pushPair ((List.range 9).foldl (fun s k => pushPtp s (k + 1)) s) else s

/-- The field die takes the host die's levels (R223, R994 to R997, R1002, with the commit of R988). -/
def fieldLevels (s : State) (h : Levels) : State :=
  let f := levelsOf s.fboot
  let o := levelOutcome s f h
  let s := { s with link := { s.link with outcome := o, rplDiffers := decide (f.rpl.toNat / 256 ≠ h.rpl.toNat / 256), fieldHas := true } }
  let s := putN (putN s 0x3A00 6 h.rpl.toNat) 0x3A40 1 0
  if o = 3 then safeStandby (setsHostDown s)
  else
    let s : State := { s with fboot := commitTrial s.fboot }
    if o = 2 then emcy s 0xFF07 0xFF h.build.toNat else s

/-- The host die takes the field die's levels (R277, R994, with the commit of R988, and R318 after a field-die reset). -/
def hostLevels (s : State) (f : Levels) (fresh : Bool) : State :=
  let o := levelOutcome s f (levelsOf s.hboot)
  let s := { s with link := { s.link with hostOutcome := o, hostHas := true }, replica := { s.replica with reloadDue := true }
                    sets := if fresh then s.sets.map (fun e => (e.1, { e.2 with shadow := none })) else s.sets }
  let s := (List.range 6).foldl (fun s k => putObj s 0x2002 (k + 1) (levelOf f (k + 1))) s
  if o = 3 then s else { s with hboot := commitTrial s.hboot }

/-- With both frames received the exchange is complete, and the pushes follow it (R108, R130, R164, R202, R316). -/
def levelsDone (s : State) : State :=
  if s.link.fieldHas && s.link.hostHas then
    let s := { s with link := { s.link with levelsDue := false } }
    if s.link.outcome = 3 then s else pushAll (reloadKept s)
  else s

/-- R177, R202, R993 to R997: the LEVELS frame at the head of the lanes towards a die. -/
def execLevelsFrame (dst : Die) (s : State) : Out :=
  .next (if !(ropeUp s && s.link.levelsDue) then s
    else
      match takeControl s dst 3 with
      | some (f, s) =>
        let s := takeFields s dst f
        levelsDone (match dst with
          | .field => fieldLevels s (levelsIn f.payload)
          | .host => hostLevels s (levelsIn f.payload) (levelsFresh f.payload))
      | none => s)

end Sys2Proof.Machine
end

