-- ==== Sys2Proof/Machine/Dictionary.lean ====
section
/-! DEFINITION. The object dictionary (chapter 05): reads and writes of objects, complete access, saving and restoring, the
dictionary frames that reach the field die, the master's SDO services, and the forwarding of host-owned requests. -/

namespace Sys2Proof.Machine

/-! ### Writes of field-owned objects (R235, R239) -/

/-- The object is safety-relevant (R239).
Log entry 58: DEDUCED, unsafe. -/
def safeObj (i sub : Nat) : Bool :=
  (decide (0x3400 ≤ i) && decide (i < 0x3500)) || (decide (0x6000 ≤ i) && decide (i < 0xA000)) || (decide (0x2100 ≤ i) && decide (i < 0x2200)) ||
    (match row? i sub with | some r => r.safe | none => false)

/-- The save and load signatures of 0x1010 and 0x1011 (R243). -/
def saveSignature : Nat := 0x65766173
def loadSignature : Nat := 0x64616F6C

/-- The object is saved (R242). -/
def savedObj (i sub : Nat) : Bool :=
  match row? i sub with
  | some r => (r.acc == .rw || r.acc == .rws || r.acc == .rwp) && !r.vol && !isEvent i
  | none => false

/-- A save overwrites the older copy (R245).
Log entry 78: DEDUCED, safe. -/
def saveInto (x : SavedStore) (v : List (Nat × List Byte)) : SavedStore :=
  match x.a, x.b with
  | none, b => { a := some { values := v, crc := savedCrc v, order := (b.map (fun c => c.order + 1)).getD 0 }, b := b }
  | some a, none => { a := some a, b := some { values := v, crc := savedCrc v, order := a.order + 1 } }
  | some a, some b =>
    if a.order < b.order then { a := some { values := v, crc := savedCrc v, order := b.order + 1 }, b := some b }
    else { a := some a, b := some { values := v, crc := savedCrc v, order := a.order + 1 } }

/-- Present values of a store's saved objects, those at their defaults left out (R242, R244).
Log entry 78: DEDUCED, safe. -/
def savedValues (t : Tab (List Byte)) : List (Nat × List Byte) := t.filter (fun e => savedObj (e.1 / 256) (e.1 % 256))

/-- Some set is CHECKING to ARMED (R278). -/
def setUnderWay (s : State) : Bool := (List.range 4).any (fun n => (stg s n).pendingOne)

/-- A write to a subindex of 0x1010, or of 0x1011 when `restore` is set (R243 to R247, R278). -/
def storeWrite (s : State) (restore : Bool) (sub v : Nat) : State × Nat :=
  let field := fun (s : State) => if restore then { s with fsaved := {} } else { s with fsaved := saveInto s.fsaved (savedValues s.fobj) }
  let host := fun (s : State) => if restore then { s with hsaved := {} } else { s with hsaved := saveInto s.hsaved (savedValues s.hobj) }
  if v ≠ (if restore then loadSignature else saveSignature) then (s, 0x08000020)
  else if !restore && setUnderWay s then (s, 0x08000022)
  else if sub = 2 then (field s, 0)
  else if sub = 3 then (if hostAnswers s then (host s, 0) else (s, 0x08000022))
  else if hostAnswers s then (host (field s), 0) else (field s, 0x08000020)

/-- A write of 1 to 0x3A30:02 sends the field wake while the host watches (R956). -/
def wakeWrite (s : State) : State :=
  if objN s 0x3A30 1 = 1 then { s with fend := { s.fend with awaiting := true }, link := { s.link with beacon := true } } else s

/-- What a checked write does: a command of its chapter, or the object's new value. No code says that a stage set will answer. -/
def writeAct (s : State) (src : Source) (who : Asker) (i sub : Nat) (data : List Byte) : State × Option Nat :=
  let v := leNat data
  let now := fun (r : State × Nat) => (r.1, some r.2)
  let done := fun (s : State) => (s, some 0)
  if i = 0x1010 then now (storeWrite s false sub v)
  else if i = 0x1011 then now (storeWrite s true sub v)
  else if i = 0x2100 ∧ sub = 3 then rollbackWrite s who (i, sub)
  else if 0x2110 ≤ i ∧ i < 0x2114 ∧ sub = 1 then stageCommand s src (i - 0x2110) v who
  else if 0x2110 ≤ i ∧ i < 0x2114 ∧ sub = 6 then now (stageAppend s src (i - 0x2110) data)
  else if i = 0x2202 ∧ sub = 1 then now (presetWrite s (leInt data))
  else if i = 0x2202 ∧ sub = 2 then now (rereferenceWrite s (leInt data))
  else if i = 0x2222 ∧ sub = 1 then now (reacquireWrite s)
  else if i = 0x3A02 ∧ sub = 1 then done (retrainWrite s v)
  else if i = 0x3A20 ∧ sub = 2 then done (putN s 0x3A20 1 0)
  else if i = 0x3A30 ∧ sub = 2 then done (wakeWrite s)
  else if i = 0x3A40 ∧ sub = 3 then (if v = 1 then done (fieldReset s 4) else now (fullResetWrite s))
  else if i = 0x3A40 ∧ sub = 4 then now ({ s with fboot := (commitWrite s.fboot v).1 }, (commitWrite s.fboot v).2)
  else if 0x3000 ≤ i ∧ i < 0x3200 ∧ i % 0x40 = 0x33 ∧ sub = 8 then done (clearLatchesOf s ((i - 0x3000) / 0x40))
  else if 0x3000 ≤ i ∧ i < 0x3200 ∧ i % 0x40 = 0x38 ∧ sub = 3 then done (adcStart s ((i - 0x3000) / 0x40))
  else if 0x3000 ≤ i ∧ i < 0x3200 ∧ i % 0x40 = 5 ∧ sub = 5 then done (flushFifo s ((i - 0x3000) / 0x40))
  else now (applyValue s i sub data)

/-- The checks of R235 before the state conditions, in their order; 0 when all pass. -/
def writeAbort (s : State) (i sub : Nat) (data : List Byte) : Nat :=
  match row? i sub with
  | none => 0x06020000
  | some r =>
    if r.acc = .ro then 0x06010002
    else if r.acc = .rws then 0x06010000
    else if r.acc = .rwp ∧ s.bus.al ≠ .preop ∧ s.bus.al ≠ .boot then 0x08000022
    else if heldByPdo s i sub then 0x08000021
    else valueAbort r i sub data

/-- A direct write that reaches the field firmware (R235, R237, R252). -/
def writeField (s : State) (src : Source) (who : Asker) (i sub : Nat) (data : List Byte) : State × Option Nat :=
  if fieldOwned i = false then (s, some 0x06020000)
  else if writeAbort s i sub data ≠ 0 then (s, some (writeAbort s i sub data))
  else writeAct s src who i sub data

/-- A read that reaches the field firmware or the runtime: the abort code, 0 on success, and the value (R236, R238). -/
def readValue (s : State) (i sub : Nat) : Nat × List Byte :=
  match row? i sub with
  | none => (0x06020000, [])
  | some r => if r.acc = .wo then (0x06010001, []) else (0, live s i sub)

/-! ### Complete access (R253) -/

/-- Subindexes that a complete access from `sub` covers.
Log entry 56: PRESUMED, unsafe. -/
def completeSubs (i sub : Nat) : List Nat :=
  match highest i with
  | some h => ((List.range (h + 1)).filter (fun k => decide (sub ≤ k))).filter (fun k => (row? i k).isSome)
  | none => []

/-- A complete access starts at subindex 0 or 1 of a record or array. -/
def completeOk (i sub : Nat) : Bool := (highest i).isSome && decide (sub ≤ 1)

/-- Complete read: the values one after the other, subindex 0 in 16 bits (log entry 56).
Log entry 56: PRESUMED, unsafe. -/
def readComplete (s : State) (i sub : Nat) : Nat × List Byte :=
  if !completeOk i sub then (0x06020000, [])
  else (completeSubs i sub).foldl
    (fun (acc : Nat × List Byte) k =>
      if acc.1 ≠ 0 then acc
      else
        let r := readValue s i k
        if r.1 ≠ 0 then (r.1, []) else (0, acc.2 ++ (if k = 0 then r.2 ++ [0] else r.2))) (0, [])

/-- Complete write with a writer of single objects: every value is written, or none is (R237).
Log entry 56: PRESUMED, unsafe. -/
def writeComplete (w : State → Nat → Nat → List Byte → State × Option Nat) (s : State) (i sub : Nat) (data : List Byte) : State × Nat :=
  if !completeOk i sub then (s, 0x06020000)
  else
    let r := (completeSubs i sub).foldl
      (fun (acc : State × List Byte × Nat) k =>
        let n := if k = 0 then 2 else osize i k
        if acc.2.2 ≠ 0 then acc
        else if acc.2.1.length < n then (acc.1, [], 0x06070010)
        else if k = 0 then (acc.1, acc.2.1.drop n, if acc.2.1.take n = live s i 0 ++ [0] then 0 else 0x06010002)
        else
          let t := w acc.1 i k (acc.2.1.take n)
          (t.1, acc.2.1.drop n, t.2.getD 0)) (s, data, 0)
    if r.2.2 ≠ 0 then (s, r.2.2) else if r.2.1.isEmpty then (r.1, 0) else (s, 0x06070010)

/-- A read, single or complete. -/
def readAny (s : State) (i sub : Nat) (complete : Bool) : Nat × List Byte := if complete then readComplete s i sub else readValue s i sub

/-- A write to a field-owned object, single or complete. -/
def writeAny (s : State) (src : Source) (who : Asker) (i sub : Nat) (complete : Bool) (data : List Byte) : State × Option Nat :=
  if complete then
    let r := writeComplete (fun s i k d => writeField s src who i k d) s i sub data
    (r.1, some r.2)
  else writeField s src who i sub data

/-- A write that a row of the table names: it is checked and answered as the master's, and as the port's without an answer in the
states that carry no CoE (R254; log entry 57).
Log entry 57: DEDUCED, unsafe. -/
def objectWrite (s : State) (i sub : Nat) (data : List Byte) : State :=
  if coeUp s then settle (writeField s .master .master i sub data) .master i sub
  else if fieldUp s then settle (writeField s .port .nobody i sub data) .nobody i sub
  else s

/-! ### Dictionary frames at the field die (R181, R202, R215 to R219, R995) -/

/-- A late reject (R216, R217, R219, R893). -/
def lateReject (s : State) (tag i sub abort : Nat) : State :=
  let s := bump s 0x3A20 1
  let r := leBytes 2 1 ++ leBytes 2 tag ++ leBytes 2 i ++ leBytes 1 sub ++ [0] ++ leBytes 4 abort ++ leBytes 8 s.fclk.time ++ leBytes 4 (objN s 0x3A20 1)
  logField (class2 (putObj s 0x3A20 3 r) r) (mkRec 4 0 r (tag := tag))

/-- A value cut into pieces of at most `n` octets, at least one. -/
def cut : Nat → Nat → List Byte → List (List Byte)
  | 0, _, b => [b]
  | f + 1, n, b => if b.length ≤ n then [b] else b.take n :: cut f n (b.drop n)

/-- Octets of a class's data part (R183). -/
def dataMax (cls : Nat) : Nat := if cls = 1 then 120 else 248

/-- A dictionary request as the field firmware reads it from a frame (R183); an OP of 128 and more asks for complete access.
Log entry 124: DESIGN CHOICE, unsafe. -/
structure DictReq where
  cls : Nat
  tag : Nat
  index : Nat
  sub : Nat
  op : Nat
  complete : Bool
  last : Bool
  data : List Byte
  deriving DecidableEq, Repr

/-- The request that a frame carries. -/
def dictReq (f : Frame) : DictReq :=
  { cls := f.cls, tag := f.tag, index := fieldN f.payload 0 2, sub := fieldN f.payload 2 1, op := f.op % 128, complete := decide (128 ≤ f.op),
    last := f.last, data := f.payload.drop 8 }

/-- The oldest dictionary request of a class at the field end, when its OP is among `ops`, and the state after its dispatch: requests
of one class are taken in their order (R180, R215). -/
def takeRequest (s : State) (cls : Nat) (ops : List Nat) : Option (State × DictReq) :=
  match takeIn s .field (fun f => f.cls == cls && isDictRequest f) with
  | some (f, t) => if fieldUp s && ops.contains (dictReq f).op then some (t, dictReq f) else none
  | none => none

/-- The octets that segments before this request have brought (R184). -/
def segmentsOf (s : State) (q : DictReq) : List Byte :=
  match s.fieldXfers.find? (fun x => x.cls == q.cls && x.tag == q.tag) with
  | some x => if x.index = q.index ∧ x.sub = q.sub then x.data else []
  | none => []

/-- A segment joins its transfer; the last one ends it. -/
def segmentIn (s : State) (q : DictReq) : State :=
  let rest := s.fieldXfers.filter (fun x => !(x.cls == q.cls && x.tag == q.tag))
  { s with fieldXfers := if q.last then rest else rest ++ [{ cls := q.cls, tag := q.tag, index := q.index, sub := q.sub, data := segmentsOf s q ++ q.data }] }

/-- R184, R214 to R217, R239: the oldest dictionary request of class 3, if it is a posted write. A write to a safety-relevant object is
never posted, and one that is, is rejected (log entry 58).
Log entry 58: DEDUCED, unsafe. -/
def execPostedWriteReceive (s : State) : Out :=
  .next (match takeRequest s 3 [3, 6] with
    | none => s
    | some (t, q) =>
      let whole := segmentsOf t q ++ q.data
      let t := segmentIn t q
      if !q.last then t
      else if safeObj q.index q.sub then lateReject t q.tag q.index q.sub 0x08000022
      else
        let r := writeAny t .port .nobody q.index q.sub q.complete whole
        match r.2 with
        | some c => if c = 0 then r.1 else lateReject r.1 q.tag q.index q.sub c
        | none => r.1)

/-- R184, R218: the oldest dictionary request of a class, if it is a confirmed write. A segment before the last gets a receipt, which
refuses an object that does not exist. -/
def execConfirmedWriteReceive (cls : Fin 8) (s : State) : Out :=
  .next (match takeRequest s cls.val [2, 5] with
    | none => s
    | some (t, q) =>
      let whole := segmentsOf t q ++ q.data
      let abort := if fieldOwned q.index && (row? q.index q.sub).isSome then 0 else 0x06020000
      if !q.last then fieldResponse (if abort = 0 then segmentIn t q else t) q.cls q.tag q.index q.sub q.op abort []
      else settle (writeAny (segmentIn t q) .port (.frame q.cls q.tag) q.index q.sub q.complete whole) (.frame q.cls q.tag) q.index q.sub)

/-- R9, R183, R184, R215: the oldest dictionary request of class 3, if it is a read; a value longer than the class carries is answered
in segments. -/
def execReadRequestReceive (s : State) : Out :=
  .next (match takeRequest s 3 [1, 4] with
    | none => s
    | some (t, q) =>
      let r := if fieldOwned q.index then readAny t q.index q.sub q.complete else (0x06020000, [])
      let l := cut r.2.length 248 r.2
      let op := if l.length = 1 then 1 else 4
      (l.zipIdx).foldl (fun s p => fieldResponse s 3 q.tag q.index q.sub op r.1 p.1 (decide (p.2 + 1 = l.length))) t)

/-! ### Forwarding to the host die (R248 to R250, R255) -/

/-- The next forward tag of the field die; tags from 0x8000 on are the port's own requests (log entry 59).
Log entry 59: DESIGN CHOICE, unsafe. -/
def takeTag (s : State) : State × Nat :=
  ({ s with bus := { s.bus with nextTag := (s.bus.nextTag + 1) % 0x8000 } }, s.bus.nextTag)

/-- One class-3 request frame of a forwarded request; complete access as an OP of 128 and more.
Log entry 124: DESIGN CHOICE, unsafe. -/
def forwardOne (s : State) (i sub op : Nat) (complete : Bool) (data : List Byte) (last answers : Bool) : State :=
  let r := takeTag s
  let s := r.1
  let s := { s with bus := { s.bus with forwards := s.bus.forwards ++ [{ tag := r.2, index := i, sub := sub, op := op, answers := answers, complete := complete }] } }
  ropeSend s .field (mkFrame 3 1 r.2 (leBytes 2 i ++ leBytes 1 sub ++ leBytes 1 (op + 128 * b2n complete) ++ [0, 0, 0, 0] ++ data) last)

/-- A transfer's first segment leaves out one tag, so that the host die knows it from a further segment (log entry 59).
Log entry 59: DESIGN CHOICE, unsafe. -/
def startTag (s : State) (start : Bool) : State := if start then (takeTag s).1 else s

/-- A forwarded request: a value longer than 248 octets, or a segment of one, crosses as OP 0x05 frames (R184, R255).
Log entry 59: DESIGN CHOICE, unsafe. -/
def forwardSend (s : State) (i sub op : Nat) (complete : Bool) (data : List Byte) (start segment last : Bool) : State :=
  let l := cut data.length 248 data
  let op := if segment || decide (1 < l.length) then 5 else op
  (l.zipIdx).foldl (fun s p => forwardOne s i sub op complete p.1 (last && decide (p.2 + 1 = l.length)) (decide (p.2 + 1 = l.length))) (startTag s start)

/-! ### SDO services (R253 to R257) -/

/-- Octets that a normal SDO response or request carries in the mailbox: its length less the mailbox, CoE and SDO headers (log
entry 60).
Log entry 60: PRESUMED, unsafe. -/
def sdoRoom (s : State) : Nat := smLength s 1 512 - 16

/-- Octets that an SDO segment carries.
Log entry 60: PRESUMED, unsafe. -/
def sdoSegRoom (s : State) : Nat := smLength s 1 512 - 9

/-- The running segmented transfer ends. -/
def endTransfer (s : State) : State := { s with bus := { s.bus with transfer := none } }

/-- An upload is answered: whole, or as far as the mailbox holds with the rest as segments.
Log entry 79: DESIGN CHOICE, unsafe. -/
def uploadAnswer (s : State) (i sub : Nat) (complete : Bool) (value : List Byte) : State :=
  if value.length ≤ sdoRoom s then sdoAnswer (endTransfer s) i sub 0 value
  else
    sdoAnswer { s with bus := { s.bus with transfer := some { index := i, sub := sub, complete := complete, upload := true, total := value.length, toggle := false, data := value.drop (sdoRoom s) } } }
      i sub 0 (value.take (sdoRoom s))

/-- R235, R248, R253: a download that is whole, or the start of a segmented one. -/
def execSdoDownload (index : BitVec 16) (sub : Byte) (complete : Bool) (total : Nat) (data : List Byte) (s : State) : Out :=
  .next (let i := index.toNat
    let k := sub.toNat
    if !coeUp s then s
    else
      let s := endTransfer s
      let start := { s with bus := { s.bus with transfer := some { index := i, sub := k, complete := complete, upload := false, total := total, toggle := false, data := data } } }
      if total < data.length then sdoAnswer s i k 0x06070010 []
      else if fieldOwned i then
        (if data.length < total then sdoAnswer start i k 0 [] else settle (writeAny s .master .master i k complete data) .master i k)
      else if !hostAnswers s then sdoAnswer s i k 0x08000022 []
      else if data.length < total then forwardSend start i k 2 complete data true true false
      else forwardSend s i k 2 complete data true false true)

/-- R248, R253. -/
def execSdoUpload (index : BitVec 16) (sub : Byte) (complete : Bool) (s : State) : Out :=
  .next (let i := index.toNat
    let k := sub.toNat
    if !coeUp s then s
    else
      let s := endTransfer s
      if fieldOwned i then
        let r := readAny s i k complete
        if r.1 = 0 then uploadAnswer s i k complete r.2 else sdoAnswer s i k r.1 []
      else if !hostAnswers s then sdoAnswer s i k 0x08000022 []
      else forwardSend s i k 1 complete [] true false true)

/-- R255, R256. -/
def execSdoDownloadSegment (toggle last : Bool) (data : List Byte) (s : State) : Out :=
  .next (if !coeUp s then s
    else
      match s.bus.transfer with
      | none => sdoAnswer s 0 0 0x05040001 []
      | some t =>
        let got := t.data ++ data
        if t.upload then sdoAnswer (endTransfer s) t.index t.sub 0x05040001 []
        else if toggle ≠ t.toggle then sdoAnswer (endTransfer s) t.index t.sub 0x05030000 []
        else if t.total < got.length ∨ (last = true ∧ got.length < t.total) then sdoAnswer (endTransfer s) t.index t.sub 0x06070010 []
        else
          let more := { s with bus := { s.bus with transfer := if last then none else some { t with toggle := !t.toggle, data := got } } }
          if fieldOwned t.index then
            (if last then settle (writeAny more .master .master t.index t.sub t.complete got) .master t.index t.sub
             else sdoAnswer more t.index t.sub 0 [])
          else if !hostAnswers s then sdoAnswer (endTransfer s) t.index t.sub 0x08000022 []
          else forwardSend more t.index t.sub 2 t.complete data false true last)

/-- R256.
Log entry 79: DESIGN CHOICE, unsafe. -/
def execSdoUploadSegment (toggle : Bool) (s : State) : Out :=
  .next (if !coeUp s then s
    else
      match s.bus.transfer with
      | none => sdoAnswer s 0 0 0x05040001 []
      | some t =>
        if !t.upload then sdoAnswer (endTransfer s) t.index t.sub 0x05040001 []
        else if toggle ≠ t.toggle then sdoAnswer (endTransfer s) t.index t.sub 0x05030000 []
        else
          let rest := t.data.drop (sdoSegRoom s)
          sdoAnswer { s with bus := { s.bus with transfer := if rest.isEmpty then none else some { t with toggle := !t.toggle, data := rest } } }
            t.index t.sub 0 (t.data.take (sdoSegRoom s)))

/-- R256. -/
def execSdoUnknownSpecifier (_specifier : Byte) (s : State) : Out :=
  .next (if !coeUp s then s
    else
      match s.bus.transfer with
      | some t => sdoAnswer (endTransfer s) t.index t.sub 0x05040001 []
      | none => sdoAnswer s 0 0 0x05040001 [])

/-- Indexes of the field image's schema, ascending (R257). -/
def fieldIndexes : List Nat :=
  ((rowsField.map (fun r => (List.range r.count).map (fun k => r.base + k * r.stride))).flatten.mergeSort (· ≤ ·)).eraseDups

/-- The field-owned part of the object dictionary list. -/
def odList : List Byte := (fieldIndexes.map (leBytes 2)).flatten

/-- CiA 301 code of a type (log entry 60).
Log entry 60: PRESUMED, unsafe. -/
def Ty.code : Ty → Nat
  | .bool => 1 | .i16 => 3 | .i32 => 4 | .u8 => 5 | .u16 => 6 | .u32 => 7 | .f32 => 8 | .vstr _ => 9 | .dom _ _ => 15 | .i64 => 0x15 | .u64 => 0x1B

/-- An object description: index, type, highest subindex and object code, 7 for a variable and 9 for a record or array (log entry
60); the name is a free value.
Log entry 60: PRESUMED, unsafe. -/
def objectDescription (s : State) (i : Nat) : List Byte :=
  let t := match row? i 0, row? i 1 with | _, some r => r.ty.code | some r, none => r.ty.code | none, none => 0
  leBytes 2 i ++ leBytes 2 t ++ leBytes 1 ((highest i).getD 0) ++ leBytes 1 (if (highest i).isSome then 9 else 7) ++
    Config.freeOctets s.freeCtr ((freeW s).toNat % 41)

/-- Access rights in an entry description: reading and writing in PREOP, SAFEOP and OP, and the PDO directions (log entry 60).
Log entry 60: PRESUMED, unsafe. -/
def accessBits (r : Row) : Nat :=
  (if r.acc = .wo then 0 else 7) + (match r.acc with | .rw => 0x38 | .wo => 0x38 | .rwp => 8 | _ => 0) +
    (match r.pdo with | .rx => 64 | .tx => 128 | .no => 0)

/-- An entry description: index, subindex, type, bits and access.
Log entry 60: PRESUMED, unsafe. -/
def entryDescription (r : Row) (i sub : Nat) : List Byte :=
  leBytes 2 i ++ leBytes 1 sub ++ [0] ++ leBytes 2 r.ty.code ++ leBytes 2 (8 * r.ty.size) ++ leBytes 2 (accessBits r)

/-- R257: the host's part is asked for while it answers. -/
def execSdoInfoOdList (s : State) : Out :=
  .next (if !coeUp s then s
    else if hostAnswers s then forwardSend s 0 0 0 false [] true false true
    else sdoAnswer s 0 0 0 odList)

/-- R257. -/
def execSdoInfoObjectDescription (index : BitVec 16) (s : State) : Out :=
  .next (let i := index.toNat
    if !coeUp s then s
    else if fieldOwned i then
      (if rowsField.any (fun r => r.hasIndex i) then sdoAnswer (drawn s) i 0 0 (objectDescription s i) else sdoAnswer s i 0 0x06020000 [])
    else if hostAnswers s then forwardSend s i 0 0 false [] true false true
    else sdoAnswer s i 0 0x08000022 [])

/-- R257. -/
def execSdoInfoEntryDescription (index : BitVec 16) (sub : Byte) (s : State) : Out :=
  .next (let i := index.toNat
    let k := sub.toNat
    if !coeUp s then s
    else if fieldOwned i then
      (match row? i k with
       | some r => sdoAnswer s i k 0 (entryDescription r i k)
       | none => sdoAnswer s i k 0x06020000 [])
    else if hostAnswers s then forwardSend s i k 0 false [] true false true
    else sdoAnswer s i k 0x08000022 [])

/-- R321; protocol 3 is CoE and 4 is FoE in a Type 12 mailbox (log entry 60).
Log entry 60: PRESUMED, unsafe. -/
def execMailboxUnsupported (protocol : Byte) (s : State) : Out :=
  .next (if fieldUp s && s.bus.al != .init && protocol != 3 && protocol != 4 then { s with bus := { s.bus with mbxErrors := 2 :: s.bus.mbxErrors } } else s)

/-- R243 to R247, R278.
Log entry 57: DEDUCED, unsafe. -/
def execStoreParameters (sub : Byte) (value : BitVec 32) (s : State) : Out := .next (objectWrite s 0x1010 sub.toNat (leBytes 4 value.toNat))

/-- R243, R246, R247.
Log entry 57: DEDUCED, unsafe. -/
def execRestoreDefaults (sub : Byte) (value : BitVec 32) (s : State) : Out := .next (objectWrite s 0x1011 sub.toNat (leBytes 4 value.toNat))

/-- The forwarded request with a tag ends: a segment that is refused ends its whole transfer (R1047). -/
def forwardEnd (s : State) (f : Forward) (abort : Nat) : State :=
  let gone := fun (g : Forward) => g.tag == f.tag || (decide (abort ≠ 0) && f.op == 5 && g.op == 5 && g.index == f.index && g.sub == f.sub)
  let t := if abort = 0 then s.bus.transfer else s.bus.transfer.filter (fun t => t.index != f.index)
  { s with bus := { s.bus with forwards := s.bus.forwards.filter (fun g => !gone g), transfer := t } }

/-- An answer to the master's forwarded request: the last frame of it completes the request (R184, R249).
Log entry 79: DESIGN CHOICE, unsafe. -/
def forwardDone (s : State) (f : Forward) (abort : Nat) (data : List Byte) (last : Bool) : State :=
  let abort := if f.index = 0 ∨ rowsHost.any (fun r => r.hasIndex f.index) = true then abort else 0x06020000
  if abort = 0 ∧ last = false then
    { s with bus := { s.bus with forwards := s.bus.forwards.map (fun g => if g.tag = f.tag then { g with got := data } else g) } }
  else
    let s := forwardEnd s f abort
    if abort ≠ 0 then sdoAnswer s f.index f.sub abort []
    else if f.op = 1 then uploadAnswer s f.index f.sub f.complete data
    else if f.op = 0 then sdoAnswer s f.index f.sub 0 (if f.index = 0 then odList ++ data else data)
    else if f.answers then sdoAnswer s f.index f.sub 0 [] else s

/-- R249, R253, R257, R1047: the oldest response to a forwarded request that the field die has received; one to a request that has
expired is dropped.
Log entry 79: DESIGN CHOICE, unsafe. -/
def execForwardAnswerArrival (s : State) : Out :=
  .next (match takeIn s .field isForwardAnswer with
    | none => s
    | some (r, t) =>
      if !fieldUp s then s
      else
        let s := t
        match s.bus.forwards.find? (fun f => f.tag == r.tag) with
        | none => s
        | some f => forwardDone s f (fieldN r.payload 4 4) (f.got ++ r.payload.drop 8) r.last)

end Sys2Proof.Machine
end

