-- ==== Sys2Proof/Machine/Port.lean ====
section
/-! DEFINITION. The dictionary port (chapter 05): fetching H2D entries, requests to both dies, forwarded requests to the runtime
and its answers, and the class-2 records that reach the host die. -/

namespace Sys2Proof.Machine

/-! ### H2D entries (R260, R263, R264) -/

/-- The fields of a 32-octet H2D entry. -/
def h2dOf (b : List Byte) : H2d :=
  { type := fieldN b 0 1, op := fieldN b 1 1, tag := fieldN b 2 2, index := fieldN b 4 2, sub := fieldN b 6 1, flags := fieldN b 7 1,
    length := fieldN b 8 4, abort := fieldN b 12 4, data := slice b 16 8, offset := fieldN b 24 4 }

/-- The INLINE flag. -/
def H2d.isInline (e : H2d) : Bool := e.flags.testBit 0

/-- The COMPLETE flag. -/
def H2d.isComplete (e : H2d) : Bool := e.flags.testBit 1

/-- Size of the H2D ring. -/
def h2dSize (s : State) : Nat := 2 ^ bits (reg s (bDP + 0x28)) 11 8

/-- The next H2D entry, fetched, with DP_H2D_HEAD advanced; none while the port is stopped or the ring is empty. -/
def h2dNext (s : State) : Option (State × H2d) :=
  let head := reg s (bDP + 0x0C)
  if !portRunning s || decide (head = reg s (bDP + 8) % 65536) then none
  else
    let r := engLoad s portOrigin (reg s bDP + 32 * (head % h2dSize s)) 32
    some (setReg r.1 (bDP + 0x0C) ((head + 1) % 65536), h2dOf r.2.1)

/-- The next entry when it is a request of the given OP and a slot is free for its completion (R263). -/
def portRequest (s : State) (op : Nat) : Option (State × H2d) :=
  match h2dNext s with
  | some (t, e) => if e.type = 1 ∧ e.op = op ∧ d2hFree s = true then some (t, e) else none
  | none => none

/-- A request completes without a value. -/
def portEnd (s : State) (e : H2d) (abort : Nat) : State :=
  portDone s e.op e.tag e.index e.sub (if abort = 0 then 0 else 2) 0 abort [] e.offset

/-- The port could not reach a buffer (R271). -/
def portBufFault (s : State) : State := setReg s (bDP + 0x2C) (setBit (reg s (bDP + 0x2C)) 2 true)

/-- The value of a write entry: the abort code, 0 when it could be read, and the octets (R264, R271, R1046). -/
def portData (s : State) (e : H2d) : State × Nat × List Byte :=
  if e.isInline then (if 8 < e.length then (s, 0x06070010, []) else (s, 0, e.data.take e.length))
  else
    let r := engLoad s portOrigin (leNat e.data) e.length
    if r.2.2.1 then (r.1, 0, r.2.1) else (portBufFault r.1, 0x06060000, [])

/-- A read completes with its value, or with its full length when it does not fit (R1046). -/
def portReturn (s : State) (e : H2d) (value : List Byte) : State :=
  let room := if e.isInline then min 8 e.length else e.length
  if (e.isInline = true ∧ 8 < e.length) then portEnd s e 0x06070010
  else if room < value.length then portDone s e.op e.tag e.index e.sub 2 value.length 0x06070010 [] e.offset
  else if e.isInline then portDone s e.op e.tag e.index e.sub 0 value.length 0 value e.offset
  else
    let r := engStore s portOrigin (leNat e.data) value
    if r.2 then portDone r.1 e.op e.tag e.index e.sub 0 value.length 0 [] e.offset
    else portEnd (portBufFault r.1) e 0x06060000

/-- The port takes a request for the field die: it waits through training and the level exchange (R200, R278), and ends at once while
the link is DOWN, the field die is lost or the levels shut its class out (R280, R995).
Log entry 76: DEDUCED, unsafe. -/
def fieldReach (s : State) (cls : Nat) : Bool := s.link.mode != .down && !s.hend.lost && levelAllows s (mkFrame cls 0 0 [])

/-! ### Forwarded requests at the host die (R250, R251, R1047) -/

/-- Free forward slots. -/
def freeSlots (s : State) : List Nat := (List.range 16).filter (fun k => !s.hostSlots.any (fun x => x.slot == k))

/-- The TYPE 0x02 entry of a forwarded request (R265). -/
def forwardEntry (s : State) (x : HostSlot) : List Byte :=
  let r := x.req
  let source := 1 * b2n (!r.fromPort) + 2 * b2n r.fromPort + 4 * b2n r.complete + 8 * b2n r.segment + 16 * b2n (r.segment && r.last)
  d2hEntry 2 r.op.toNat x.tag r.index.toNat r.sub.toNat source r.data.length 0
    (if r.data.length ≤ 8 then r.data else leBytes 8 (reg s (bDP + 0x20) + 256 * x.slot)) r.offset

/-- One forwarded entry takes a slot and reaches the runtime.
Log entry 61: DESIGN CHOICE, unsafe. -/
def forwardIn (s : State) (slot tag : Nat) (req : FwdReq) (value : List Byte) (port : Option H2d) : State :=
  let x : HostSlot := { slot := slot, tag := tag, req := req, value := value, port := port }
  let s := { s with hostSlots := s.hostSlots ++ [x] }
  let s := if req.data.length ≤ 8 then s else (engStore s portOrigin (reg s (bDP + 0x20) + 256 * slot) req.data).1
  d2hPut s (forwardEntry s x)

/-- A response of the runtime to a forwarded request of the master crosses on class 3, a longer value as segments (R183, R184, R255). -/
def answerMaster (s : State) (tag i sub op abort : Nat) (data : List Byte) : State :=
  let l := cut data.length 248 data
  let op := if l.length = 1 then op else 4
  (l.zipIdx).foldl (fun s p => ropeSend s .host
    (mkFrame 3 2 tag (leBytes 2 i ++ leBytes 1 sub ++ leBytes 1 op ++ leBytes 4 abort ++ p.1) (decide (p.2 + 1 = l.length)))) s

/-- A forwarded request as the host die reads it from its frame (R183, R265, R1047). -/
def forwardReq (f : Frame) (sofar : Nat) : FwdReq :=
  let op := f.op % 128
  let seg := op == 5
  { fromPort := false, op := BitVec.ofNat 8 op, index := BitVec.ofNat 16 (fieldN f.payload 0 2), sub := BitVec.ofNat 8 (fieldN f.payload 2 1),
    complete := decide (128 ≤ f.op), segment := seg, last := seg && f.last, offset := if seg then sofar else 0, data := f.payload.drop 8 }

/-- The octets that a forwarded segment follows: none when its transfer was refused (R1047; log entry 59).
Log entry 59: DESIGN CHOICE, unsafe. -/
def forwardSofar (s : State) (f : Frame) : Option (List Byte) :=
  match s.fwdValue with
  | some (t, d) => if f.tag = t ∧ f.op % 128 = 5 then d else some []
  | none => some []

/-- R250, R255, R1047: the oldest forwarded request that the host die has received takes a forward slot; without a free D2H slot it
waits (log entry 61).
Log entry 61: DESIGN CHOICE, unsafe. -/
def execForwardedRequestArrival (s : State) : Out :=
  .next (match takeIn s .host isForward with
    | none => s
    | some (f, t) =>
      if !(hostUp s && portRunning s && d2hFree s) then s
      else
        let s := t
        let d := forwardSofar s f
        let req := forwardReq f (d.getD []).length
        let whole := d.map (fun d => d ++ req.data)
        let next := fun (w : Option (List Byte)) => if req.segment && !req.last then some ((f.tag + 1) % 0x8000, w) else none
        match freeSlots s, whole with
        | k :: _, some w => forwardIn { s with fwdValue := next w } k f.tag req w none
        | _, _ => answerMaster { s with fwdValue := next none } f.tag req.index.toNat req.sub.toNat req.op.toNat 0x05040005 [])

/-- A request of the port's own for a host-owned object goes to the runtime, a value longer than 256 octets in segments (R251,
R278, R1047); it needs a slot and a D2H entry for each. -/
def forwardPort (s : State) (e : H2d) (data : List Byte) : State :=
  let l := cut data.length 256 data
  if !(reg s (bDP + 0x28)).testBit 2 then portEnd s e 0x08000022
  else if (freeSlots s).length < l.length ∨ d2hSize s < d2hUsed s + d2hReserved s + l.length + 1 then portEnd s e 0x05040005
  else
    let seg := decide (1 < l.length)
    ((l.zipIdx).zip (freeSlots s)).foldl (fun (s : State) p =>
      let req : FwdReq := { fromPort := true, op := BitVec.ofNat 8 (if seg then 5 else e.op), index := BitVec.ofNat 16 e.index, sub := BitVec.ofNat 8 e.sub,
                            complete := e.isComplete, segment := seg, last := decide (p.1.2 + 1 = l.length), offset := e.offset + 256 * p.1.2, data := p.1.1 }
      forwardIn s p.2 (0x8000 + p.2) req data (some e)) s

/-! ### Requests of the port (R239, R263 to R268, R280) -/

/-- A dictionary request frame of the port (R183, R184). -/
def portFrame (s : State) (e : H2d) (cls op : Nat) (data : List Byte) (last : Bool) : State :=
  ropeSend s .host (mkFrame cls 1 e.tag (leBytes 2 e.index ++ leBytes 1 e.sub ++ leBytes 1 (op + 128 * b2n e.isComplete) ++ [0, 0, 0, 0] ++ data) last)

/-- A request waits for its completion. -/
def portAwait (s : State) (w : PortWait) : State := { s with portWaits := s.portWaits ++ [w] }

/-- A read, whole or of a segment: the field die answers with the whole value (R184; log entry 125).
Log entry 125: DESIGN CHOICE, unsafe. -/
def portReadOf (s : State) (e : H2d) : State :=
  if fieldOwned e.index = false then forwardPort s e []
  else if !fieldReach s 3 then portEnd s e 0x08000020
  else portFrame (portAwait s { entry := e, cls := 3 }) e 3 1 [] true

/-- A confirmed write of a value, in class 1 for a safety-relevant object and else in class 3; a longer one goes segment by segment
(R184, R218, R239). -/
def portWriteOf (s : State) (e : H2d) (value : List Byte) : State :=
  let cls := if safeObj e.index e.sub then 1 else 3
  if fieldOwned e.index = false then forwardPort s e value
  else if !fieldReach s cls then portEnd s e 0x08000020
  else
    let l := cut value.length (dataMax cls) value
    portFrame (portAwait s { entry := e, cls := cls, rest := l.drop 1 }) e cls (if l.length = 1 then 2 else 5) (l.headD []) (decide (l.length = 1))

/-- A posted write: class-3 frames with the write tag, or a confirmed write for a safety-relevant object (R184, R214, R267). -/
def portPostOf (s : State) (e : H2d) (value : List Byte) : State :=
  if fieldOwned e.index = false then forwardPort s e value
  else if safeObj e.index e.sub then portWriteOf s e value
  else if !fieldReach s 3 then portEnd s e 0x08000020
  else
    let l := cut value.length 248 value
    let op := if l.length = 1 then 3 else 6
    (l.zipIdx).foldl (fun s p => portFrame s e 3 op p.1 (decide (p.2 + 1 = l.length))) (portAwait s { entry := e, cls := 3, posted := true })

/-- The value of a read reaches its buffer: for a read of a segment the part from OFFSET on, as long as the buffer holds (R264). -/
def portReadDone (s : State) (e : H2d) (value : List Byte) : State :=
  portReturn s e (if e.op = 4 then (value.drop e.offset).take (if e.isInline then min 8 e.length else e.length) else value)

/-- A response to a port request (R184, R215, R218): a read is complete with its last segment, a confirmed write with the response to
its last one. -/
def portAnswered (s : State) (w : PortWait) (f : Frame) : State :=
  let s := { s with portWaits := s.portWaits.erase w }
  let abort := fieldN f.payload 4 4
  let data := f.payload.drop 8
  if abort ≠ 0 then portEnd s w.entry abort
  else if w.entry.op = 1 ∨ w.entry.op = 4 then
    (if f.last then portReadDone s w.entry (w.got ++ data) else portAwait s { w with got := w.got ++ data })
  else
    match w.rest with
    | [] => portEnd s w.entry 0
    | b :: t => portFrame (portAwait s { w with rest := t }) w.entry w.cls 5 b t.isEmpty

/-- Responses that have arrived for the port's requests are taken at once (R187). -/
def portResponses (s : State) : State :=
  s.hend.inbox.foldl
    (fun (s : State) f =>
      match s.portWaits.find? (fun w => !w.posted && w.cls == f.cls && w.entry.tag == f.tag && w.entry.index == fieldN f.payload 0 2) with
      | some w =>
        if f.kind = 2 ∧ (f.cls = 1 ∨ f.cls = 3) then
          portAnswered (dispatched { s with hend := { s.hend with inbox := s.hend.inbox.erase f } } .host f) w f
        else s
      | none => s) s

/-- R175, R176, R180, R181, R191: the next frame on the lanes towards a die arrives. -/
def execRopeFrameReceive (dst : Die) (rx : Arrival) (s : State) : Out :=
  .next (if ropeUp s then portResponses (frameIn s dst rx) else s)

/-- Longest segment that does not end a value (log entry 62).
Log entry 62: DEDUCED, unsafe. -/
def segMax (e : H2d) : Nat := if fieldOwned e.index = false then 256 else if safeObj e.index e.sub then 120 else 248

/-- A write segment: the first has OFFSET 0 and each further one continues the value; one shorter than the longest segment, or
one that completes the object's size, is the last, and the whole value is then written once (R184; log entry 62).
Log entry 62: DEDUCED, unsafe. -/
def portSegment (s : State) (e : H2d) (piece : List Byte) : State :=
  let sofar := if e.offset = 0 then some [] else
    match s.portXfer with
    | some t => if t.index = e.index ∧ t.sub = e.sub ∧ t.data.length = e.offset then some t.data else none
    | none => none
  match sofar with
  | none => portEnd { s with portXfer := none } e 0x06070010
  | some d =>
    let all := d ++ piece
    if piece.length < segMax e ∨ osize e.index e.sub ≤ all.length then portWriteOf { s with portXfer := none } e all
    else portEnd { s with portXfer := some { index := e.index, sub := e.sub, data := all } } e 0

/-- R264. -/
def execPortRead (s : State) : Out :=
  .next (match portRequest s 1 with
    | some (t, e) => portReadOf t e
    | none => s)

/-- R218, R264. -/
def execPortConfirmedWrite (s : State) : Out :=
  .next (match portRequest s 2 with
    | some (t, e) =>
      let d := portData t e
      if d.2.1 ≠ 0 then portEnd d.1 e d.2.1 else portWriteOf d.1 e d.2.2
    | none => s)

/-- R214, R267. -/
def execPortPostedWrite (s : State) : Out :=
  .next (match portRequest s 3 with
    | some (t, e) =>
      let d := portData t e
      if d.2.1 ≠ 0 then portEnd d.1 e d.2.1 else portPostOf d.1 e d.2.2
    | none => s)

/-- R183, R264: a segment of the value from OFFSET on, as long as the buffer holds. -/
def execPortReadSegment (s : State) : Out :=
  .next (match portRequest s 4 with
    | some (t, e) => portReadOf t e
    | none => s)

/-- R184, R264.
Log entry 62: DEDUCED, unsafe. -/
def execPortWriteSegment (s : State) : Out :=
  .next (match portRequest s 5 with
    | some (t, e) =>
      let d := portData t e
      if d.2.1 ≠ 0 then portEnd d.1 e d.2.1 else portSegment d.1 e d.2.2
    | none => s)

/-- R271. -/
def execPortUnknownEntry (s : State) : Out :=
  .next (match h2dNext s with
    | some (t, e) => if e.type = 2 ∨ (e.type = 1 ∧ 1 ≤ e.op ∧ e.op ≤ 5) ∨ d2hFree s = false then s else portEnd t e 0x05040001
    | none => s)

/-! ### Host-owned objects and the runtime's answers (R248 to R252, R278, R1047) -/

/-- What a write to a host-owned object does: the commands of the boot and model objects, or the object's new value with its
chapter's effect. A write to 0x2006:01 or to 0x28A0+n:09 starts what INSTALL_HOST_IMAGE and MODEL_LOAD_FROM_DRAM then carry out.
Log entry 77: DEDUCED, unsafe. -/
def hostAct (s : State) (i sub : Nat) (data : List Byte) : State × Nat :=
  let v := leNat data
  if i = 0x2005 ∧ sub = 2 then resetRequestWrite s v
  else if i = 0x2005 ∧ sub = 3 then ({ s with hboot := (commitWrite s.hboot v).1 }, (commitWrite s.hboot v).2)
  else if i = 0x2006 ∧ sub = 1 then (putN s 0x2006 2 1, 0)
  else if 0x28A0 ≤ i ∧ i < 0x28A4 ∧ sub = 9 then (s, if mayLoad s (i - 0x28A0) then 0 else 0x08000022)
  else if 0x28A0 ≤ i ∧ i < 0x28A4 ∧ sub = 0x0A then
    (if mayUnload s (i - 0x28A0) then (setSlot (undoSlot s (i - 0x28A0)) (i - 0x28A0) {}, 0) else (s, 0x08000022))
  else
    let r := applyValue s i sub data
    if r.2 = 0 ∧ ¬(i = 0x3602 ∧ sub = 1) then (hostSettle s r.1 [(i, sub)], 0) else r

/-- A write that reaches the runtime (R235). -/
def writeHost (s : State) (i sub : Nat) (data : List Byte) : State × Option Nat :=
  if fieldOwned i then (s, some 0x06020000)
  else if writeAbort s i sub data ≠ 0 then (s, some (writeAbort s i sub data))
  else ((hostAct s i sub data).1, some (hostAct s i sub data).2)

/-- A write of the runtime's, single or complete, with its abort code. -/
def writeHostAny (s : State) (i sub : Nat) (complete : Bool) (data : List Byte) : State × Nat :=
  if complete then writeComplete writeHost s i sub data else ((writeHost s i sub data).1, (writeHost s i sub data).2.getD 0)

/-- OP codes of writes. -/
def writeOp (op : Nat) : Bool := op == 2 || op == 3 || op == 5

/-- The runtime's answer to a forwarded entry: with no abort, a whole write takes effect; the requester gets the outcome, one of a
power request once the field die has answered it (R949), and an answer after the 50 ms limit is discarded and counted in 0x2004:02
(R278, R1047). -/
def forwardAnswered (s : State) (x : HostSlot) (abort : Nat) (data : List Byte) : State :=
  let r := x.req
  let s := { s with hostSlots := s.hostSlots.filter (fun y => y.slot != x.slot) }
  let late := x.expired || (x.port.isNone && !r.fromPort && !s.bus.forwards.any (fun f => f.tag == x.tag))
  if late then bump s 0x2004 2
  else
    let s := bump s 0x2004 3
    let asked := s.pwr.pendingWatch.isSome
    let i := r.index.toNat
    let k := r.sub.toNat
    let abort := if abort = 0 ∧ rowsHost.any (fun r => r.hasIndex i) = false ∧ i ≠ 0 then 0x06020000 else abort
    let s := if abort ≠ 0 ∧ x.port.isNone = true then { s with fwdValue := s.fwdValue.map (fun p => (p.1, none)) } else s
    let w := if writeOp r.op.toNat && (!r.segment || r.last) && decide (abort = 0) then writeHostAny s i k r.complete x.value else (s, abort)
    let s := w.1
    let abort := w.2
    let ends := !r.segment || r.last || decide (abort ≠ 0)
    if abort = 0 ∧ asked = false ∧ s.pwr.pendingWatch.isSome = true then { s with pwr := { s.pwr with asker := some x } }
    else
    match x.port with
    | some e =>
      if !ends then s
      else
        let s := if abort = 0 then s else { s with hostSlots := s.hostSlots.map (fun y => if y.port = some e then { y with expired := true } else y) }
        if abort ≠ 0 then portEnd s e abort else if writeOp r.op.toNat then portEnd s e 0 else portReturn s e data
    | none => if r.fromPort then s else answerMaster s x.tag i k r.op.toNat abort data

/-- R1047: a TYPE 0x02 entry of the H2D ring. -/
def execPortForwardAnswer (s : State) : Out :=
  .next (match h2dNext s with
    | none => s
    | some (t, e) =>
      if e.type ≠ 2 then s
      else
        match t.hostSlots.find? (fun x => x.tag == e.tag) with
        | none => t
        | some x =>
          let d := if e.abort = 0 ∧ writeOp x.req.op.toNat = false then portData t e else (t, 0, [])
          if d.2.1 ≠ 0 then forwardAnswered d.1 x d.2.1 [] else forwardAnswered d.1 x e.abort d.2.2)

/-- R249: the limit expires, at the field die for the master's requests and at the port for its own. -/
def execForwardTimeout (tag : BitVec 16) (s : State) : Out :=
  .next (match s.bus.forwards.find? (fun f => f.tag == tag.toNat) with
    | some f => if fieldUp s then sdoAnswer (forwardEnd s f 0x08000022) f.index f.sub 0x08000022 [] else s
    | none =>
      match s.hostSlots.find? (fun x => x.tag == tag.toNat && x.port.isSome && !x.expired) with
      | none => s
      | some x =>
        let s := { s with hostSlots := s.hostSlots.map (fun y => if y.port = x.port then { y with expired := true } else y) }
        (match x.port with | some e => portEnd s e 0x08000022 | none => s))

/-! ### Consent to LANTERN-WATCH and OFF (R949 to R951) -/

/-- R950 to R952: the field die consents unless 0x3A30:03 is 0 and an axis is enabled. -/
def execWatchConsentRequest (s : State) : Out :=
  .next (match takeIn s .field (isConsent 1) with
    | some (f, t) =>
      let answer := fun (s : State) (abort : Nat) => fieldResponse s 3 f.tag 0x3602 1 2 abort []
      if !fieldUp s then s
      else if decide (objN s 0x3A30 3 = 0) && anyEnabled s then answer t 0x08000022
      else answer (putN { t with fend := { t.fend with timing := false } } 0x3A30 1 1) 0
    | none => s)

/-- The write that asked for a power state is answered: to the port, or to the master, at once when the entry takes the link down
(R949, R951). -/
def powerAnswer (s : State) (abort : Nat) : State :=
  match s.pwr.asker with
  | none => s
  | some x =>
    let i := x.req.index.toNat
    match x.port, s.bus.forwards.find? (fun f => f.tag == x.tag) with
    | some e, _ => portEnd s e abort
    | none, some f => if abort = 0 then forwardDone s f 0 [] true else answerMaster s x.tag i x.req.sub.toNat x.req.op.toNat abort []
    | none, none => bump s 0x2004 2

/-- The last heartbeat before LANTERN-WATCH or OFF, with HRUN[2] = 1, reaches the field die (R951). -/
def lastBeat (s : State) : State := if ropeUp s && fieldHw s then hostBeat s { hostHbOf (hostHeartbeat s) with hrun := 4 } else s

/-- R949, R951: consent enters the state; a refusal ends the request. -/
def execWatchConsentReply (s : State) : Out :=
  .next (match takeIn s .host (isConsent 2) with
    | some (f, t) =>
      if !hostUp s then s
      else
        match t.pwr.pendingWatch with
        | none => t
        | some off =>
          if fieldN f.payload 4 4 = 0 then enterLow (lastBeat (powerAnswer { t with pwr := { t.pwr with pendingWatch := none } } 0)) off
          else
            let t := powerAnswer t 0x08000022
            { t with pwr := { t.pwr with pendingWatch := none, wakePending := false, asker := none } }
    | none => s)

/-! ### Class-2 records at the host die (R266, R269, R272, R895, R896) -/

/-- The record that 64 octets spell (R892). -/
def recOf (b : List Byte) : FaultRec :=
  { type := BitVec.ofNat 16 (fieldN b 0 2), source := BitVec.ofNat 8 (fieldN b 2 1), reaction := BitVec.ofNat 8 (fieldN b 3 1), seq := BitVec.ofNat 32 (fieldN b 4 4),
    time := fieldN b 8 8, position := leInt (slice b 16 8), mech := BitVec.ofNat 16 (fieldN b 24 2), axis := BitVec.ofNat 8 (fieldN b 26 1),
    part := BitVec.ofNat 8 (fieldN b 27 1), tag := BitVec.ofNat 16 (fieldN b 28 2), detail := slice b 32 32 }

/-- A fault-log record joins the host copy. -/
def hostRecord (s : State) (r : FaultRec) : State := bump (hostCopy s r) 0x3800 2

/-- A late reject, or another record but a fault-log one, at the port (R266, R269, R272). -/
def portRecord (s : State) (p : List Byte) : State :=
  let w := fun (o n : Nat) => fieldN p o n
  if w 0 2 = 1 then d2hEvent s (d2hEntry 3 0 (w 2 2) (w 4 2) (w 6 1) 0 0 (w 8 4) (slice p 12 8) (w 20 4))
  else if 2 ≤ w 0 2 ∧ w 0 2 ≤ 5 then d2hRecord s p
  else s

/-- R269, R272. -/
def execClass2RecordReceive (s : State) : Out :=
  .next (match takeIn s .host (fun f => f.cls == 2 && !isFaultRecord f) with
    | some (f, t) => if hostUp s then portRecord t f.payload else s
    | none => s)

/-- A record of the host die joins the log of record; an S budget overrun runs its reaction (R129, R889, R894). -/
def fieldRecord (s : State) (r : FaultRec) : State :=
  let s := { s with saf := { s.saf with log := (r :: s.saf.log).take 1024, unwritten := s.saf.unwritten ++ [r] } }
  let s := if r.type = 2 ∧ r.detail.getD 0 0 = 1 then bump s 0x2222 2 else s
  if r.type = 9 ∧ r.mech = 15 then
    let n := fieldN r.detail 2 4
    startReaction { s with saf := { s.saf with sOverFrames := n } } (reactionOf (objN s 0x3420 5)) (objN s 0x3420 6) 15 (some 0xFF13) n (part := 0)
  else s

/-- R889 to R896. -/
def execFaultLogRecordReceive (dst : Die) (s : State) : Out :=
  .next (match takeIn s dst isFaultRecord with
    | some (f, t) =>
      let r := recOf (f.payload.drop 4)
      (match dst with
       | .host => if hostUp s then hostRecord t r else s
       | .field => if fieldUp s then fieldRecord t r else s)
    | none => s)

/-- R354: the host die pushes the alias that it stores.
Log entry 81: DEDUCED, unsafe. -/
def execAliasPush (s : State) : Out :=
  .next (if fieldUp s && hostUp s && crosses s 3 then { s with bus := { s.bus with station := s.hboot.store.station } } else s)

/-- An S-status message at the field die (R884). -/
def takeSStatus (s : State) (p : List Byte) : State :=
  let w := fun (o n : Nat) => fieldN p o n
  let s := logField (bump s 0x3450 8) (mkRec 6 11 (slice p 0 24) (part := 0) (tag := w 6 2))
  startReaction s (reactionOf (objN s 0x3420 4)) (objN s 0x3420 6) 11 (some 0xFF11) (w 2 2 * 65536 + w 4 1) (part := 0) (tag := w 6 2)

/-- R883, R884. -/
def execSStatusMessage (s : State) : Out :=
  .next (match takeIn s .field isSStatus with
    | some (f, t) => if fieldUp s then takeSStatus t f.payload else s
    | none => s)

end Sys2Proof.Machine
end

