-- ==== Sys2Proof/Machine/Fieldbus.lean ====
section
/-! DEFINITION. The fieldbus slave and what reaches the field firmware through it (chapter 07): AL requests, process data,
in-frame answers, results and the result-age monitor (chapter 18), the safety connection, configuration data and file access;
with the control-cycle start, and the rows that write one object. -/

namespace Sys2Proof.Machine

/-! ### Process data (R328 to R337) -/

/-- Bit offsets of mapped entries. -/
def withOffsets : Nat → List (Nat × Nat × Nat) → List (Nat × Nat × Nat × Nat)
  | _, [] => []
  | o, e :: t => (o, e) :: withOffsets (o + e.2.2) t

/-- Bits of a mapping, as one number. -/
def packed (l : List (Nat × Nat)) : Nat := (l.foldr (fun (p : Nat × Nat) (acc : Nat) => p.1 % 2 ^ p.2 + acc * 2 ^ p.2) 0)

/-- The SyncManager 3 buffer takes the present inputs; the in-frame answers do not pass through it (R336, R338, R374). -/
def sm3Refresh (s : State) : State :=
  if s.bus.sm3Stopped || !(s.bus.al == .safeop || s.bus.al == .op) then s
  else
    let l := mapped s false
    let v := packed (l.map (fun e => (if e.1 = 0 ∨ e.1 = 0x1E10 then 0 else leNat (live s e.1 e.2.1), e.2.2)))
    { s with bus := { s.bus with sm3 := leBytes (mappedBytes l) v } }

/-- One received output value goes into its object; a value that R235 would refuse leaves it unchanged (log entry 63).
Log entry 63: DEDUCED, unsafe. -/
def outputValue (s : State) (v : Nat) (e : Nat × Nat × Nat × Nat) : State :=
  let i := e.2.1
  let sub := e.2.2.1
  let data := leBytes (e.2.2.2 / 8) (v / 2 ^ e.1)
  match row? i sub with
  | some r => if i ≠ 0 ∧ valueAbort r i sub data = 0 then putObj s i sub data else s
  | none => s

/-- R335, R343, R346: a complete buffer counts for SAFEOP to OP, and in OP its values go into their objects; a short one is
counted in 0x1C32:0C. -/
def execSm2BufferComplete (data : List Byte) (s : State) : Out :=
  .next (if !(fieldUp s && (s.bus.al == .safeop || s.bus.al == .op)) then s
    else if data.length ≠ mappedBytes (mapped s true) then bump s 0x1C32 0x0C
    else if s.bus.al = .safeop then { s with bus := { s.bus with sm2Seen := true } }
    else
      let s := (withOffsets 0 (mapped s true)).foldl (fun s e => outputValue s (leNat data) e) s
      { s with bus := { s.bus with sm2 := data, sm2Seen := true, sm2Fresh := true } })

/-- R347. -/
def execSm2WatchdogExpiry (s : State) : Out :=
  .next (if fieldUp s && s.bus.al == .op then setAl s .safeop 0x001B true (leaveReaction s) else s)

/-- Mapped controlwords and modes act at a control-cycle start (R335).
Log entry 63: DEDUCED, unsafe. Log entry 92: DEDUCED, unsafe. -/
def outputsTaken (s : State) : State :=
  (mapped s true).foldl
    (fun s e =>
      if 0x6000 ≤ e.1 ∧ e.1 < 0xA000 then
        let c := ciaAxis e.1
        if c.2 = 0x6040 then controlword s c.1 (cN s 0x6040 c.1) else if c.2 = 0x6060 then modeSelect s c.1 else s
      else s) s

/-- What a started control cycle does: the buffered outputs, the converter groups and sample points that it triggers, the
engine's part, the inputs, and the refresh of the trip-path watchdog (R336, R775, R778, R844, R902). -/
def cycleWork (s : State) : State :=
  let s := if s.bus.sm2Fresh then outputsTaken s else s
  let s := engineCycle s
  let s := { s with bus := { s.bus with sm2Fresh := false }, eng := { s.eng with sampled := false, started := false },
                    sync := { s.sync with startTick := s.fclk.ticks }, saf := { s.saf with refreshAt := some s.fclk.ticks } }
  let s := (List.range 8).foldl (fun s a => sampleAt (adcTrigger s a 2) a 2) s
  sm3Refresh s

/-- R152 to R155, R336, R844. -/
def execControlCycleStart (s : State) : Out :=
  .next (if !fieldUp s then s
    else
      let r := cycleStarts s
      if r.2 then cycleWork r.1 else r.1)

/-! ### In-frame answers (R322, R338) -/

/-- Link summary, 0x1E10:04 (R369). -/
def linkSummary (s : State) : Nat := b2n (hostAnswers s) + 2 * b2n (ropeUp s) + 4 * (s.link.outcome % 4)

/-- A port has link. -/
def portLink (s : State) (p : Fin 2) : Bool := if p = 0 then s.bus.port0 else s.bus.port1

/-- The inputs that a frame takes as it passes: the SyncManager 3 buffer, with the captured answers in their mapped bytes (R338, R370). -/
def frameInputs (s : State) : List Byte :=
  (withOffsets 0 (mapped s false)).foldl
    (fun l e => if e.2.1 = 0x1E10 then l.take (e.1 / 8) ++ fitTo (e.2.2.2 / 8) (live s 0x1E10 e.2.2.1) ++ l.drop (e.1 / 8 + e.2.2.2 / 8) else l) s.bus.sm3

/-- R338: the answers of a frame are captured at its delimiter, and it leaves with the inputs of SAFEOP and OP (R343). -/
def execFrameStartDelimiter (port : Fin 2) (s : State) : Out :=
  .next (if fieldHw s && portLink s port then
      let s := { s with bus := { s.bus with answer := (linePos s, s.fclk.time, BitVec.ofNat 8 (posByte s), BitVec.ofNat 8 (linkSummary s)) } }
      { s with bus := { s.bus with frameIn := if s.bus.al = .safeop ∨ s.bus.al = .op then frameInputs s else [] } }
    else s)

/-- R156, R322. -/
def execFieldbusPortLinkChange (port : Fin 2) (up : Bool) (s : State) : Out :=
  .next (let had := s.bus.port0 || s.bus.port1
    let s := if port = 0 then { s with bus := { s.bus with port0 := up } } else { s with bus := { s.bus with port1 := up } }
    if fieldHw s && had && !(s.bus.port0 || s.bus.port1) then fieldClockLoss s else s)

/-! ### AL requests (R343 to R348, R970, R1004) -/

/-- R346. -/
def execAlRequestPreop (s : State) : Out := .next (if slaveUp s then alRequest s .preop else s)

/-- R346. -/
def execAlRequestSafeop (s : State) : Out := .next (if slaveUp s then alRequest s .safeop else s)

/-- R346. -/
def execAlRequestOp (s : State) : Out := .next (if slaveUp s then alRequest s .op else s)

/-- R346. -/
def execAlRequestBoot (s : State) : Out := .next (if slaveUp s then alRequest s .boot else s)

/-- R346, R970, R1004: BOOT to INIT after a complete IKF write resets the field die. -/
def execAlRequestInit (s : State) : Out :=
  .next (if !slaveUp s then s
    else if s.bus.al = .boot ∧ s.bus.ikfDone = true then fieldReset s 6
    else alRequest s .init)

/-! ### Type 12 registers (R324, R355, R1039) -/

/-- Octets of a writable register of the distributed-clock unit.
Log entry 11: PRESUMED, unsafe. -/
def regSize (a : Nat) : Nat :=
  if a = 0x0981 ∨ a = 0x09A8 ∨ a = 0x09A9 then 1
  else if a = 0x0990 then 8
  else if a = 0x09A0 ∨ a = 0x09A4 ∨ a = 0x0928 then 4
  else 2

/-- Registers that the master reads and does not write: receive times, system time, its difference, and latch times. -/
def readOnlyReg (a : Nat) : Bool :=
  (decide (0x0900 ≤ a) && decide (a < 0x0920)) || (decide (0x092C ≤ a) && decide (a < 0x0930)) || (decide (0x09B0 ≤ a) && decide (a < 0x09D0))

/-- A cycle time too short to make edges, arising in SAFEOP or OP (R1039). -/
def syncFault (s : State) : State :=
  if !syncShort s then s
  else if s.bus.al = .op then setAl s .safeop 0x0035 true (leaveReaction s)
  else if s.bus.al = .safeop then { s with bus := { s.bus with code := 0x0035, error := true } }
  else s

/-- R324, R1039, R1045: any register of the Type 12 map that the master writes; one that fixes the SYNC grid plans it anew.
Log entry 11: PRESUMED, unsafe. -/
def execSyncConfigWrite (register : BitVec 16) (value : BitVec 64) (s : State) : Out :=
  .next (let a := register.toNat
    let v := value.toNat % 256 ^ regSize a
    if !fieldHw s || readOnlyReg a then s
    else if a = 0x0010 then { s with bus := { s.bus with address := BitVec.ofNat 16 v } }
    else if a = 0x0920 then offsetWrite s value.toNat
    else
      let s := setBusReg s a v
      if a = 0x0981 ∨ a = 0x0990 ∨ a = 0x09A0 ∨ a = 0x09A4 then syncFault (syncPlan s) else s)

/-! ### Results and the result-age monitor (R73, R182, R339 to R342, R867 to R874) -/

/-- Partition of a result, as an index of its limits; a value the message does not define counts as B (log entry 64).
Log entry 64: DESIGN CHOICE, unsafe. -/
def partOf (m : MirrorMsg) : Nat := min m.part.toNat 2

/-- Time age, ns (R868). -/
def timeAge (s : State) (m : MirrorMsg) : Int := (s.fclk.time : Int) - (m.capTime : Int)

/-- Count age (R868). -/
def countAge (s : State) (m : MirrorMsg) : Int :=
  (if s.pos.reverse then wrap56 (m.capPos - linePos s) else wrap56 (linePos s - m.capPos)) / 256

/-- Cause of the first failing check, 0 when the result is accepted (R869 to R871). -/
def ageCause (s : State) (m : MirrorMsg) : Nat :=
  let p := partOf m
  let countLimit := objN s 0x3411 (p + 1)
  if m.flags.getLsbD 0 || m.flags.getLsbD 1 then 1
  else if (match s.fclk.lastStepAt with | some u => decide (m.capTime < u) | none => false) then 2
  else if timeAge s m < -10 then 3
  else if ((objN s 0x3410 (p + 1) * 1000 : Nat) : Int) < timeAge s m then 4
  else if countLimit ≠ 0 ∧ s.pos.mode = .invalid then 5
  else if countLimit ≠ 0 ∧ (countLimit : Int) < countAge s m then 6
  else if p = 0 ∧ objB s 0x3413 1 = true ∧ m.flags.getLsbD 2 = false then 7
  else 0

/-- Subindex of 0x3450 that counts a cause (R897). -/
def ageCounter (cause : Nat) : Nat :=
  if cause = 0 then 1 else if cause ≤ 2 then 2 else if cause = 3 then 3 else if cause = 4 then 4 else if cause ≤ 6 then 5 else 6

/-- The monitor's decision is counted, and an accepted S result restarts the expectation interval (R872 to R874). -/
def ageCount (s : State) (m : MirrorMsg) : State :=
  let s := bump s 0x3450 (ageCounter (ageCause s m))
  if ageCause s m = 0 ∧ partOf m = 0 then { s with saf := { s.saf with expectFrom := some (m.capPos / 256) } } else s

/-- A result goes into its slot (R340 to R342), and the SyncManager 3 buffer follows (R336).
Log entry 84: DEDUCED, unsafe. -/
def placeResult (s : State) (m : MirrorMsg) (rejected full : Bool) : State :=
  let k := m.rtag.toNat % 8 + 1
  let seq := (fieldN (stored s 0x1E20 k) 2 2 + 1) % 65536
  let flags := m.flags.toNat % 8 + 8 * b2n (decide (m.mtype ≠ 0)) + 16 * b2n rejected + 32 * b2n full
  sm3Refresh (putObj s 0x1E20 k
    (leBytes 2 m.rtag.toNat ++ leBytes 2 seq ++ [m.part] ++ leBytes 1 flags ++ [0, 0] ++ leBytesI 8 m.capPos ++ leBytes 8 m.result.toNat))

/-- A rejected result with a command (R872). -/
def ageReject (s : State) (m : MirrorMsg) (cause : Nat) : State :=
  let r := reactionOf (objN s 0x3412 (partOf m + 1))
  let d := leBytes 1 cause ++ List.replicate 7 0 ++ leBytesI 8 (timeAge s m) ++ leBytesI 8 (countAge s m)
  let s := logField s (mkRec 5 10 d (part := m.part.toNat) (tag := m.rtag.toNat))
  let s := commandRejected s m 6 cause
  startReaction s r (objN s 0x3412 4) 10 (if r = .none then none else some 0xFF10) (m.rtag.toNat * 65536 + m.part.toNat * 256 + cause)
    (part := m.part.toNat) (tag := m.rtag.toNat)

/-- Contents of a position event entry that a position command arms (R182). -/
def commandEntry (m : MirrorMsg) : Nat :=
  setBits (m.body.toNat % 2 ^ 72 * 2 ^ 56 + m.target.toNat % 2 ^ 56) 71 56 m.rtag.toNat

/-- Reserved entries that are not armed, lowest first (R64, R73). -/
def freeReserved (s : State) : List Nat :=
  ((List.range 256).filter (fun n => decide (256 - objN s 0x2201 0x0A ≤ n))).filter (fun n => !eArmed (entry s .field n))

/-- A position command: refused with a cause, or armed in a reserved entry (R73).
Log entry 84: DEDUCED, unsafe. -/
def positionCommand (s : State) (m : MirrorMsg) : State × Option (Nat × Nat) :=
  let e := commandEntry m
  if !entryOk .field e then (s, some (4, 0xFF))
  else
    match freeReserved s with
    | [] => (s, some (1, 0xFF))
    | n :: _ => (fieldEntrySet s n e, none)

/-- The command of an accepted result (R73, R843, R995). -/
def mirrorCommand (s : State) (m : MirrorMsg) : State × Option (Nat × Nat) :=
  if s.link.outcome = 2 ∧ objN s 0x3A40 1 ≠ 0x4F565244 then (s, some (5, 0xFF))
  else if m.mtype = 1 then positionCommand s m
  else if m.mtype = 2 then axisCommand s m
  else (s, some (4, 0xFF))

/-- The message that the payload of R182 spells. -/
def mirrorOf (b : List Byte) : MirrorMsg :=
  let w := fun (o n : Nat) => fieldN b o n
  { mtype := BitVec.ofNat 16 (w 0 2), rtag := BitVec.ofNat 16 (w 2 2), part := b.getD 4 0, flags := b.getD 5 0, capPos := leInt (slice b 8 8),
    capTime := w 16 8, target := BitVec.ofNat 64 (w 24 8), body := BitVec.ofNat 128 (w 32 16), result := BitVec.ofNat 64 (w 48 8) }

/-- A mirror message at the field die: judged by the monitor, its command carried out, its result placed (R25, R340 to R342, R867 to
R873). -/
def takeMirror (s : State) (m : MirrorMsg) : State :=
  let cause := ageCause s m
  let s := ageCount s m
  if cause ≠ 0 then placeResult (ageReject s m cause) m true false
  else
    let r := mirrorCommand s m
    match r.2 with
    | some (c, d) => placeResult (commandRejected r.1 m c d) m false (decide (c = 1))
    | none => placeResult r.1 m false false

/-- R25, R340 to R342, R867 to R873. -/
def execMirrorMessage (s : State) : Out :=
  .next (match takeIn s .field isMirror with
    | some (f, t) => if fieldUp s then takeMirror t (mirrorOf f.payload) else s
    | none => s)

/-- R339 to R342, R873.
Log entry 84: DEDUCED, unsafe. -/
def execClass5Result (s : State) : Out :=
  .next (match takeIn s .field (fun f => f.cls == 5) with
    | some (f, t) =>
      let m := mirrorOf f.payload
      if fieldUp s then placeResult (ageCount t m) { m with mtype := 0 } (decide (ageCause t m ≠ 0)) false else s
    | none => s)

/-! ### The safety connection (R362 to R367) -/

/-- The safe inputs (R364).
Log entry 65: DESIGN CHOICE, safe. -/
def safeInputs (s : State) : List Byte :=
  [BitVec.ofNat 8 (maskOf ((List.range 8).filter (torqueOff s))),
   BitVec.ofNat 8 (maskOf ((List.range 8).filter (fun a => (ce s a).reaction == .ss1 && (ce s a).drive == .faultReaction)))]

/-- The input frame carries the safe inputs; its command, check and connection octets are free values (log entry 65).
Log entry 65: DESIGN CHOICE, safe. -/
def inputFrame (s : State) : State :=
  let f := fitTo 7 (Config.freeOctets s.freeCtr 7)
  drawn (putObj s 0x1E41 2 (f.take 1 ++ safeInputs s ++ f.drop 3))

/-- The safe outputs act on the axes: STO, SS1 or release (R363). -/
def applySafe (s : State) : State :=
  (List.range 8).foldl (fun s a => if safeSto s a then tripSto s a false else if safeSs1 s a then reactAxis s a .ss1 else s) s

/-- R362 to R366; outside data state the fail-safe value holds (R365).
Log entry 65: DESIGN CHOICE, safe. -/
def execSafetyFrame (address : BitVec 16) (connState : Byte) (outputs : BitVec 16) (frame : List Byte) (s : State) : Out :=
  .next (if !fieldUp s || address == 0 || decide (objN s 0x1E40 1 ≠ address.toNat) || decide (4 < connState.toNat) then s
    else
      let s := putN (putObj s 0x1E41 1 (fitTo 7 frame)) 0x1E40 3 connState.toNat
      let s := { s with bus := { s.bus with safeOut := if connState = 4 then outputs else 0 } }
      inputFrame (applySafe s))

/-- R365, R367, SM07.
Log entry 65: DESIGN CHOICE, safe. -/
def execSafetyWatchdogExpiry (s : State) : Out :=
  .next (if !fieldUp s || decide (objN s 0x1E40 3 ≠ 4) then s
    else
      let mask := enabledMask s
      let s := putN { s with bus := { s.bus with safeOut := 0 } } 0x1E40 3 0
      let s := emcy (putN s 0x3440 2 7) 0xFF09 0xFF 0
      let s := logField s (mkRec 7 7 (leBytes 1 mask ++ leBytes 1 5 ++ leBytes 2 0xFF09) (reaction := 5))
      inputFrame (applySafe s))

/-! ### Configuration data (R352, R353) -/

/-- R352, R353.
Log entry 81: DEDUCED, unsafe. -/
def execAliasWrite (word value : BitVec 16) (s : State) : Out :=
  .next (if !slaveUp s then s
    else if word ≠ 4 ∨ hostAnswers s = false then { s with bus := { s.bus with eepromError := true } }
    else { s with bus := { s.bus with station := value, eepromError := false }, hboot := { s.hboot with store := { s.hboot.store with station := value } } })

/-! ### File access (R326, R327, R894, R986, R987, R1003, R1004) -/

/-- A file transfer ends: 0 done, or an FoE error.
Log entry 82: DEDUCED, unsafe. -/
def foeAnswer (s : State) (code : Nat) : State := { s with bus := { s.bus with foeSent := code :: s.bus.foeSent } }

/-- FoE error of an installation's status (R987).
Log entry 82: DEDUCED, unsafe. -/
def foeStatus (status : Nat) : Nat := if status = 2 then 0 else if status = 6 then 0x8003 else 0x800B

/-- The mailbox carries FoE: not in INIT. -/
def foeUp (s : State) : Bool := slaveUp s && s.bus.al != .init

/-- R326, R986, R1004. -/
def execFoeWriteIkf (password : BitVec 32) (file : List Byte) (stored : Bool) (s : State) : Out :=
  .next (if !foeUp s then s
    else if password ≠ 0 then foeAnswer s 0x8002
    else if s.bus.al ≠ .boot then foeAnswer s 0x8008
    else
      let r := if s.bus.romOnly then recoverSlot false s.fboot.store file stored else install false s.fboot.store file stored
      foeAnswer { s with fboot := { s.fboot with store := r.1 }, bus := { s.bus with ikfDone := s.bus.ikfDone || decide (r.2 = 2) } } (foeStatus r.2))

/-- R326, R986, R1003, R1004: the relay reaches a host die that runs, or whose boot ROM is in recovery.
Log entry 82: DEDUCED, unsafe. -/
def execFoeWriteIkh (password : BitVec 32) (file : List Byte) (stored : Bool) (s : State) : Out :=
  .next (if !foeUp s then s
    else if s.bus.romOnly then foeAnswer s 0x8001
    else if password ≠ 0 then foeAnswer s 0x8002
    else if s.bus.al ≠ .boot then foeAnswer s 0x8008
    else if !crosses s 6 then foeAnswer s 0x800B
    else if s.hboot.mode = .recovery then
      let r := recoverSlot true s.hboot.store file stored
      let h := { s.hboot with store := r.1 }
      foeAnswer { s with hboot := if r.2 = 2 then { h with mode := .rom, limitRun := true, error := 0 } else h } (foeStatus r.2)
    else if hostUp s then
      let r := install true s.hboot.store file stored
      foeAnswer (putN { s with hboot := { s.hboot with store := r.1 } } 0x2006 2 r.2) (foeStatus r.2)
    else foeAnswer s 0x800B)

/-- R326, R327, R640.
Log entry 82: DEDUCED, unsafe. -/
def execFoeWriteIkm (password : BitVec 32) (slot : Fin 4) (file : List Byte) (code : List (List Kernel)) (s : State) : Out :=
  .next (if !foeUp s then s
    else if s.bus.romOnly then foeAnswer s 0x8001
    else if password ≠ 0 then foeAnswer s 0x8002
    else if s.bus.al = .boot then foeAnswer s 0x8009
    else if slotBound s slot.val || armedNames s slot.val || !mayLoad s slot.val then foeAnswer s 0x8002
    else if crosses s 6 && hostUp s then foeAnswer (slotLoad s slot.val (bundleOf file code)) 0
    else foeAnswer s 0x800B)

/-- R326, R894: the flash ring, then the records not yet written, oldest first. -/
def execFoeReadLog (password : BitVec 32) (s : State) : Out :=
  .next (if !foeUp s then s
    else if s.bus.romOnly then foeAnswer s 0x8001
    else if password ≠ 0 then foeAnswer s 0x8002
    else foeAnswer { s with bus := { s.bus with foeData := ((s.saf.flash ++ s.saf.unwritten).map faultBytes).flatten } } 0)

/-! ### Rows that write one object (log entry 57) -/

/-- R206: after step 7 of a running training the request waits for link UP. -/
def execRetrainRequestWrite (width : Byte) (afterStep7 : Bool) (s : State) : Out :=
  .next (let t := objectWrite s 0x3A02 1 [width]
    if afterStep7 && fieldUp s && s.link.mode == .training && decide (writeAbort s 0x3A02 1 [width] = 0) then
      { t with link := { t.link with kept := s.link.kept, after := some width.toNat } }
    else t)

/-- R63, R64, R67, R68, R72. -/
def execPositionEntryWrite (onHost : Bool) (entry : Fin 256) (contents : BitVec 128) (s : State) : Out :=
  .next (let n := entry.val
    if onHost = true ∧ 128 ≤ n then answerWrite s .master (0x2250 + n / 16) (n % 16 + 1) 0x06020000
    else objectWrite s ((if onHost then 0x2250 else 0x2210) + n / 16) (n % 16 + 1) (leBytes 16 contents.toNat))

/-- R79 to R81. -/
def execPredictorQuery (target : BitVec 64) (s : State) : Out := .next (objectWrite s 0x2270 1 (leBytes 8 target.toNat))

/-- R105. -/
def execPresetCounter (value : BitVec 64) (s : State) : Out := .next (objectWrite s 0x2202 1 (leBytes 8 value.toNat))

/-- R1037. -/
def execReReference (value : BitVec 64) (s : State) : Out := .next (objectWrite s 0x2202 2 (leBytes 8 value.toNat))

/-- R118, R119. -/
def execReacquireCommand (value : Byte) (s : State) : Out := .next (objectWrite s 0x2222 1 [value])

/-- R121, R156. -/
def execReferenceRoleWrite (value : Byte) (s : State) : Out := .next (objectWrite s 0x2221 4 [value])

/-- R139, R140. -/
def execConversionQuery (time : BitVec 64) (s : State) : Out := .next (objectWrite s 0x2282 3 (leBytes 8 time.toNat))

/-- R148 to R151, R1036. -/
def execTimeEntryWrite (entry : Fin 64) (contents : BitVec 128) (s : State) : Out :=
  .next (objectWrite s (0x2230 + entry.val / 16) (entry.val % 16 + 1) (leBytes 16 contents.toNat))

/-- R778. -/
def execAdcSoftwareStart (group : Fin 8) (value : Byte) (s : State) : Out := .next (objectWrite s (axA group.val + 0x38) 3 [value])

/-- R792. -/
def execClearLatches (axis : Fin 8) (value : Byte) (s : State) : Out := .next (objectWrite s (axA axis.val + 0x33) 8 [value])

/-- R847. -/
def execAxisCommandFlush (axis : Fin 8) (value : Byte) (s : State) : Out := .next (objectWrite s (axA axis.val + 5) 5 [value])

/-- R822, R832. -/
def execModeOfOperationWrite (axis : Fin 8) (value : Byte) (s : State) : Out := .next (objectWrite s (ciaI 0x6060 axis.val) 0 [value])

end Sys2Proof.Machine
end

