-- ==== Sys2Proof/Machine/Memory.lean ====
section
/-! DEFINITION. Host memory (chapter 08): engine loads and stores, late faults, the register blocks, core accesses and
the patrol scrubber. -/

namespace Sys2Proof.Machine

/-! ### Error-correcting code (R411 to R420, R445) -/

/-- An error is corrected: counted, with one record when the cycle's count reaches 1,000 (R414, R445). -/
def ceOne (s : State) : State :=
  let s := { s with mem := { s.mem with ceCount := wrap32 (s.mem.ceCount + 1), ceCycle := s.mem.ceCycle + 1 } }
  if s.mem.ceCycle = 1000 then logHost s (mkRec 9 23 (eventDetail (Config.eventCode 5).toNat s.mem.ceCount)) else s

/-- A line becomes poisoned (R415). -/
def poisonLine (s : State) (line : Nat) : State :=
  { s with mem := { s.mem with poison := if s.mem.poison.contains line then s.mem.poison else line :: s.mem.poison } }

/-- What a read of a line finds: nothing without inline ECC (R413, R415, R420). -/
def eccRead (s : State) (line : Nat) (e : EccResult) : State :=
  if !s.mem.ecc || !inDram s line then s
  else match e with
    | .clean => s
    | .corrected => ceOne s
    | .uncorrectable => poisonLine s line

/-! ### Engine stores and their late faults (R432 to R440) -/

/-- A RAS interrupt at a hart's supervisor-level file, identity 1 (R439). -/
def rasRaise (s : State) (hart : Nat) : State :=
  imsicSet { s with mem := { s.mem with ras := s.mem.ras ||| BitVec.ofNat 8 (2 ^ hart) } } (imsicFile false hart 0) 1

/-- The work unit of a store that failed after issue ends with its fault status (R436, R440); the port sets BUF_FAULT
(R271), and a composition frame's write-back and a camera frame have no such status. -/
def lateFault (s : State) (w : Origin) (line : Nat) : State :=
  match w.agent with
  | .gallery => jobLateFault s w.queue w.unit
  | .vision => runTryEnd (runLateFault s w.client line) w.client
  | .port => setReg s (bDP + 0x2C) (setBit (reg s (bDP + 0x2C)) 2 true)
  | .core => rasRaise s w.client
  | _ => s

/-- Octets of a line merged under a byte mask (R392). -/
def mergeLine (s : State) (line mask : Nat) (data : List Byte) : State :=
  (bitList mask 64).foldl (fun s i => dramSet s (line + i) (lget 0 data i)) s

/-- A store that a running Gallery job issues enters the signature of each of its copies (R879). -/
def signStore (s : State) (w : Origin) (line mask : Nat) (data : List Byte) : State :=
  match w.agent, (que s w.queue).job with
  | .gallery, some j =>
    if j.seq ≠ w.unit then s
    else
      setJob s w.queue { j with copies := j.copies.map (fun c => if c.mode = .ended then c else
        { c with stores := c.stores ++ [{ kernel := c.steps.headD 0, member := 0, line := line, mask := mask, data := fitTo 64 data }] }) }
  | _, _ => s

/-- The Gallery job that a load failed for ends WINDOW_FAULT at its next kernel boundary (R402, R419). -/
def loadFault (s : State) (w : Origin) : State :=
  match w.agent, (que s w.queue).job with
  | .gallery, some j =>
    if j.seq = w.unit ∧ j.status = 0 then setJob s w.queue { j with status := 2 } else s
  | _, _ => s

/-! ### Register blocks (R384 to R387, R443) -/

/-- The blocks of the MMIO region: base, size, name, and whether only the supervisor writes them. -/
def mmioBlocks : List (Nat × Nat × String × Bool) := [
  (0x40000000, 0x10000, "SYSCTL", true), (0x40010000, 0x10000, "ROPE", false), (0x40020000, 0x10000, "DP", false),
  (0x40030000, 0x10000, "FAB", false), (0x40040000, 0x10000, "MC", true), (0x40050000, 0x10000, "KEEP", true),
  (0x40060000, 0x10000, "PWIN", true), (0x40070000, 0x10000, "PMU", true), (0x41000000, 0x1000000, "NQ", false),
  (0x42000000, 0x10000, "GAL", false), (0x43000000, 0x10000, "CAM", false), (0x43010000, 0x10000, "VIS", false),
  (0x43020000, 0x10000, "LAN", false), (0x43030000, 0x10000, "COMP", false), (0x43040000, 0x10000, "HPOS", false),
  (0x44000000, 0x4000, "APLIC_M", false), (0x44010000, 0x4000, "APLIC_S", false), (0x45000000, 0x8000, "IMSIC_M", false),
  (0x46000000, 0x20000, "IMSIC_S", false), (0x47000000, 0x10000, "ETH0", false), (0x47010000, 0x10000, "ETH1", false),
  (0x47020000, 0x10000, "PTP", false), (0x48000000, 0x10000, "PCIE", false), (0x49000000, 0x10000, "EMMC", false),
  (0x49010000, 0x10000, "XSPI", false), (0x4A000000, 0x40000, "I2C", false), (0x4A040000, 0x20000, "SPI", false),
  (0x4A060000, 0x40000, "UART", false), (0x4A0A0000, 0x10000, "GPIO", false), (0x4F000000, 0x10000, "DBG", false),
  (0x50000000, 0x10000000, "PCIE_CFG", false), (0x60000000, 0x20000000, "PCIE_MEM32", false)]

/-- The block an address lies in. -/
def blockAt (a : Nat) : Option (Nat × Nat × String × Bool) := mmioBlocks.find? (fun b => decide (b.1 ≤ a) && decide (a < b.1 + b.2.1))

/-- The address lies in the peripheral region (R381). -/
def inMmio (a : Nat) : Bool := decide (0x40000000 ≤ a) && decide (a < 0x80000000)

/-- The address lies in the 64-bit PCIe window (R381). -/
def inPcie (a : Nat) : Bool := decide (0x400000000 ≤ a) && decide (a < 0x800000000)

/-- A core's access raises an access fault (R378, R383, R385, R418). -/
def coreFaults (s : State) (hart : Nat) : State := { s with mem := { s.mem with coreFault := some hart } }

/-- A core's access completes. -/
def coreOk (s : State) : State := { s with mem := { s.mem with coreFault := none } }

/-- A record of a core's access (R438). -/
def coreRec (cause hart line mask : Nat) : FabRec :=
  { cause := cause, agent := 0, part := 3, client := hart, queue := 0xFFFF, unit := 0, line := line, mask := mask }

/-- A 32-bit write to one half of a 64-bit register at `base`. -/
def setHalf (s : State) (base a v : Nat) : State :=
  setReg s base (if a = base then setBits (reg s base) 31 0 v else setBits (reg s base) 63 32 v)

/-- Write one to clear the bits of `m`. -/
def w1c (s : State) (a m v : Nat) : State := setReg s a (reg s a - (reg s a &&& m &&& v))

/-- Block DP (R258, R259). -/
def writeDp (s : State) (o v : Nat) : State :=
  if o = 0 ∨ o = 4 then setHalf s bDP (bDP + o) v
  else if o = 0x10 ∨ o = 0x14 then setHalf s (bDP + 0x10) (bDP + o) v
  else if o = 0x20 ∨ o = 0x24 then setHalf s (bDP + 0x20) (bDP + o) v
  else if o = 8 ∨ o = 0x18 then setReg s (bDP + o) (v % 65536)
  else if o = 0x28 then setReg s (bDP + o) (v % 65536 / 256 * 256 + v % 8)
  else if o = 0x2C then w1c s (bDP + o) 12 v
  else s

/-- Block NQ, page of queue `q` (R599). -/
def writeNq (s : State) (q o v : Nat) : State :=
  let r := nqReg q
  if o = 0 ∨ o = 4 then setHalf s (r 0) (r o) v
  else if o = 8 ∨ o = 0xC then setHalf s (r 8) (r o) v
  else if o = 0x28 ∨ o = 0x2C then setHalf s (r 0x28) (r o) v
  else if o = 0x10 then queueCtrl s q v
  else if o = 0x14 then w1c s (r o) 8 v
  else if o = 0x18 ∨ o = 0x24 ∨ o = 0x34 then setReg s (r o) (v % 65536)
  else if o = 0x30 then setReg s (r o) (v % 2048)
  else if o = 0x38 then (if v = 1 then jobRelease s q else s)
  else if o = 0x3C then (if v = 1 then cancelHead s q else s)
  else s

/-- KV_CMD: the command, pool and sequence it names (R668, R686). -/
def kvCommand (s : State) (v : Nat) : State :=
  let p := bits v 27 26
  let q := bits v 12 0
  match bits v 31 28 with
  | 1 => kvOpenSeq s p q
  | 2 => kvRetry (kvCloseSeq s p q) p
  | 3 => kvPinSeq s p q true
  | 4 => kvPinSeq s p q false
  | 5 => kvPrefetchSeq s p q
  | 6 => kvRetry (kvResetSeq s p q) p
  | _ => kvResult s 5

/-- Block GAL (R584, R686). -/
def writeGal (s : State) (o v : Nat) : State :=
  if o = 4 then { s with gal := { s.gal with eccStatus := s.gal.eccStatus &&& ~~~(BitVec.ofNat 4 v) } }
  else if o = 0x8000 then setReg s (bGAL + o) (setBits (v % 2 ^ 24) 31 28 (bits v 31 28))
  else if o = 0x8008 then winAccess s (some v)
  else if o = 0x8010 then kvCommand s v
  else if o = 0x8014 then setReg s (bGAL + o) (v % 2 ^ 17)
  else s

/-- A record ring's registers at `base` (R480, R532, R756). -/
def writeRing (s : State) (base o v : Nat) : State :=
  if o = 0 ∨ o = 4 then setHalf s base (base + o) v
  else if o = 8 then setReg s (base + o) (bits v 11 8 * 256 + v % 4)
  else if o = 0x0C then setReg s (base + o) (v % 65536)
  else s

/-- Block VIS (R532). -/
def writeVis (s : State) (o v : Nat) : State :=
  if o = 0x20 then (if graphStarts s (v % 8) 2 then graphRequest s (v % 8) { source := 2 } else s)
  else if o = 0x24 then flagRelease s (v % 1024)
  else writeRing s bVIS o v

/-- Block COMP (R756). -/
def writeComp (s : State) (o v : Nat) : State :=
  if o = 0 then setReg s bCOMP (v % 8)
  else if o = 4 then w1c s (bCOMP + 4) 15 v
  else if o = 8 then setReg s (bCOMP + 8) (v % 16)
  else if 0x10 ≤ o ∧ o < 0x40 then setHalf s (bCOMP + o / 8 * 8) (bCOMP + o) v
  else if o = 0x40 then
    (if v.testBit 0 then { setReg s (bCOMP + 0x44) (setBit (reg s (bCOMP + 0x44)) 1 false) with comp := { s.comp with training := true } } else s)
  else if o = 0x48 then setReg s (bCOMP + o) (v / 16 * 16)
  else if 0x50 ≤ o ∧ o < 0x60 then setReg s (bCOMP + o) v
  else if 0x100 ≤ o then writeRing s (bCOMP + 0x100) (o - 0x100) v
  else s

/-- Block PWIN: the live table at 0x000 and the shadow table at 0x400, 16 octets an entry (R400; log entry 42).
Log entry 42: PRESUMED, unsafe. -/
def writePwin (s : State) (o v : Nat) : State :=
  if 0x400 ≤ o ∧ o < 0x800 then
    let k := (o - 0x400) / 16
    let w := o % 16 / 4
    let e := setBits (tget 0 s.mem.pwinShadow k).toNat (32 * w + 31) (32 * w) v
    { s with mem := { s.mem with pwinShadow := tset 0 s.mem.pwinShadow k (BitVec.ofNat 128 (bits e 75 69 * 2 ^ 69 + bits e 55 0)) } }
  else s

/-- Block MC: MC_CTRL stands at offset 0 (log entry 42); a change of ECC_EN after training is ignored and leaves a
record (R411, R443).
Log entry 42: PRESUMED, unsafe. -/
def writeMc (s : State) (hart o v : Nat) : State :=
  if !s.mem.trained then (if o = 0 then { s with mem := { s.mem with ecc := v.testBit 0 } } else s)
  else if o = 0 ∧ v.testBit 0 = s.mem.ecc then s
  else fabFault s (coreRec 6 hart ((bMC + o) / 64 * 64) (15 * 2 ^ (o % 64)))

/-- One 32-bit write at offset `o` of a block; none for a block whose registers no chapter gives.
Log entry 97: DEDUCED, safe. -/
def writeBlock (s : State) (name : String) (hart o v : Nat) : Option State :=
  match name with
  | "SYSCTL" => some s
  | "FAB" => some s
  | "ROPE" => some (if o = 0 ∧ v.testBit 8 then { s with link := { s.link with superseded := false } } else s)
  | "DP" => some (writeDp s o v)
  | "MC" => some (writeMc s hart o v)
  | "KEEP" =>
    some (if o < 0x100 ∧ o % 0x20 < 0x10 then setHalf s (bKEEP + o / 8 * 8) (bKEEP + o) v else s)
  | "PWIN" => some (writePwin s o v)
  | "PMU" => some (if o = 0x0C then { s with pwr := { s.pwr with wakeBits := s.pwr.wakeBits &&& ~~~(BitVec.ofNat 5 v) } } else s)
  | "NQ" => some (writeNq s (o / 4096) (o % 4096) v)
  | "GAL" => some (writeGal s o v)
  | "CAM" => some (if o / 0x100 < 16 then writeRing s (bCAM + o / 0x100 * 0x100) (o % 0x100) v else s)
  | "VIS" => some (writeVis s o v)
  | "LAN" => some (if o = 4 then { s with lan := { s.lan with wake := s.lan.wake &&& ~~~(BitVec.ofNat 2 v) } } else s)
  | "COMP" => some (writeComp s o v)
  | "APLIC_M" => some (aplicWrite s true o v)
  | "APLIC_S" => some (aplicWrite s false o v)
  | "IMSIC_M" => some (imsicWrite s (o / 4096) (o % 4096) v)
  | "IMSIC_S" => some (imsicWrite s (8 + o / 4096) (o % 4096) v)
  | _ => none

/-- A write of 4 or 8 octets to a block: the low word, then the high word; KV_WIN_DATA takes one access (R385, R386). -/
def writeWide (s : State) (name : String) (hart o size : Nat) (v : Nat) : Option State :=
  if name = "GAL" ∧ o = 0x8008 ∧ size = 8 then some (winAccess s (some v))
  else
    match writeBlock s name hart o (v % 2 ^ 32) with
    | none => none
    | some t => if size = 8 then writeBlock t name hart (o + 4) (v / 2 ^ 32) else some t

/-! ### The commands -/

/-- R383, R389, R401, R402, R415, R419: an engine load. -/
def execEngineLoad (who : Origin) (address : BitVec 40) (length : Nat) (ecc : EccResult) (s : State) : Out :=
  .next (if !hostHw s then s
    else
      let a := address.toNat
      let s := if length = 0 then s else eccRead s (a / 64 * 64) ecc
      let r := engLoad s who a length
      let s := countLine r.1 who.tag (linesOf a length).length
      let s := { s with mem := { s.mem with loaded := r.2.1 } }
      if r.2.2.1 && r.2.2.2 then s else loadFault s who)

/-- R391, R401, R403, R432, R434, R436: an engine store to one line is checked and posted. -/
def execEngineStore (who : Origin) (address : BitVec 40) (mask : BitVec 64) (data : List Byte) (s : State) : Out :=
  .next (if !hostHw s then s
    else
      let line := address.toNat / 64 * 64
      let r := postStore (signStore s who line mask.toNat data) who line mask.toNat data
      if r.2 then r.1 else lateFault r.1 who line)

/-- An accepted store tells the run that issued it, or lets a page leave its frame and the jobs of its pool try again (R524, R526,
R683, R685). -/
def storeTaken (s : State) (w : Origin) : State :=
  if w.agent = .vision then runStoreTaken s w.client w.unit
  else if w = spillOrigin (w.unit / 65536) (w.unit % 65536) then kvRetry (spillTaken s w.unit) (w.unit / 65536)
  else s

/-- What the acceptance of a store does to memory: a full line heals poison, a merge may meet an error (R417, R433, R436, R437). -/
def storeMerged (s : State) (p : PendingStore) (ecc : EccResult) : State :=
  let s := mergeLine s p.line p.mask p.data
  if p.mask % 2 ^ 64 = 2 ^ 64 - 1 then { s with mem := { s.mem with poison := s.mem.poison.filter (· ≠ p.line) } }
  else if !s.mem.ecc then s
  else match ecc with
    | .clean => s
    | .corrected => ceOne s
    | .uncorrectable => lateFault (fabFault (poisonLine s p.line) (fabOf p.who 1 p.line p.mask)) p.who p.line

/-- R433, R436, R437, R417: the oldest posted store is accepted, or fails in its merge. -/
def execStoreAccept (ecc : EccResult) (s : State) : Out :=
  .next (match hostHw s, s.mem.stores with
    | true, p :: t => storeTaken (storeMerged { s with mem := { s.mem with stores := t } } p ecc) p.who
    | _, _ => s)

/-- R438, R439: a core store failed after retirement; its line and mask are not named. -/
def execCoreLateStoreFault (hart : Fin 8) (s : State) : Out :=
  .next (if !hostHw s then s
    else
      let s := rasRaise s hart.val
      let w := (freeW s).toNat
      drawn (fabFault s (coreRec 1 hart.val (w % 2 ^ 34 * 64) (Config.freeWord (s.freeCtr + 1)).toNat)))

/-- R378, R383, R385, R387, R443: a core's or the supervisor's write.
Log entry 97: DEDUCED, safe. -/
def execRegisterWrite (supervisor : Bool) (hart : Fin 8) (address : BitVec 40) (size : Nat) (value : BitVec 64) (s : State) : Out :=
  let a := address.toNat
  let v := value.toNat
  let mask := (2 ^ size - 1) * 2 ^ (a % 64)
  if !hostHw s then .next s
  else if inMmio a then
    if !(decide (size = 4) || decide (size = 8)) || decide (a % size ≠ 0) then .next (coreFaults s hart.val)
    else
      match blockAt a with
      | none => .next (fabFault (coreOk s) (coreRec 4 hart.val (a / 64 * 64) mask))
      | some b =>
        if b.2.2.2 && !supervisor then .next (fabFault (coreFaults s hart.val) (coreRec 6 hart.val (a / 64 * 64) mask))
        else
          match writeWide (coreOk s) b.2.2.1 hart.val (a - b.1) size (if size = 8 then v else v % 2 ^ 32) with
          | some t => .next t
          | none => .refused (.deviceUnspecified b.2.2.1)
  else if inPcie a then .refused (.deviceUnspecified "PCIE_MEM64")
  else if (linesOf a size).all (fun l => inDram s l) then .next (dramWrite (coreOk s) a (leBytes size v))
  else .next (coreFaults s hart.val)

/-- R405, R407: a period of the bandwidth reservation ends; nothing is carried over. -/
def execBandwidthPeriod (s : State) : Out :=
  .next { s with mem := { s.mem with usedS := 0, usedD := 0, usedB := 0 } }

/-- R416, R445: the scrubber reads a line; at the end of a cycle the cycle's count restarts. -/
def execPatrolScrub (line : BitVec 40) (ecc : EccResult) (cycleEnd : Bool) (s : State) : Out :=
  .next (if !hostHw s || !s.mem.ecc || !s.mem.trained || s.mem.selfRefresh then s
    else
      let s := eccRead s (line.toNat / 64 * 64) ecc
      if cycleEnd then { s with mem := { s.mem with ceCycle := 0 } } else s)

/-- What a core load leaves: the octets it read, 8 from memory and 4 from a register.
Log entry 91: DEDUCED, unsafe. -/
def coreRead (s : State) (data : List Byte) : State := { coreOk s with mem := { (coreOk s).mem with loaded := data } }

/-- R383, R385, R387, R418, R686: a core load. The boot ROM's contents are not stated.
Log entry 91: DEDUCED, unsafe. -/
def execCoreLoad (hart : Fin 8) (address : BitVec 40) (s : State) : Out :=
  let a := address.toNat
  if !hostHw s then .next s
  else if a < 0x40000 then .next (drawn (coreRead s (Config.freeOctets s.freeCtr 8)))
  else if inMmio a then
    if a % 4 ≠ 0 then .next (coreFaults s hart.val)
    else
    match blockAt a with
    | none => .next (fabFault (coreRead s [0, 0, 0, 0]) (coreRec 4 hart.val (a / 64 * 64) 0))
    | some b =>
      if (writeBlock s b.2.2.1 hart.val 0xFFF8 0).isSome then
        let s := if a = bGAL + 0x8008 then winAccess s none else s
        .next (coreRead s (leBytes 4 (readWord s b.2.2.1 b.1 (a - b.1))))
      else .refused (.deviceUnspecified b.2.2.1)
  else if inPcie a then .refused (.deviceUnspecified "PCIE_MEM64")
  else if inDram s a && !s.mem.poison.contains (a / 64 * 64) then .next (coreRead s (dramRead s a 8))
  else .next (coreFaults s hart.val)

end Sys2Proof.Machine
end

