-- ==== Sys2Proof/Machine/SafetyRows.lean ====
section
/-! DEFINITION. Functional safety's own events (chapter 18), the firmware halt (R374), the fault log's flash ring and debugger
access (R991). -/

namespace Sys2Proof.Machine

/-- The field cores stop: AL error 0x8006, no further SyncManager 3 refresh; forwarding and the trip path go on (R374). -/
def firmwareHalt (s : State) : State :=
  { s with fboot := { s.fboot with mode := .halted }, bus := { s.bus with error := true, code := 0x8006, sm3Stopped := true } }

/-- R323, R374, R800, R859. -/
def execFieldFirmwareHalt (s : State) : Out := .next (if fieldUp s then firmwareHalt s else s)

/-- R901: both cores halt, and internal STO holds on every axis until a field-only or full reset. -/
def execLockstepMismatch (s : State) : Out :=
  .next (if fieldHw s then firmwareHalt (stoAll { s with saf := { s.saf with halted := true } }) else s)

/-- A fixed device STO of a mechanism is recorded while the firmware runs (R886, R888, R893). -/
def stoRecord (s : State) (mech : Nat) : State :=
  if fieldUp s then logField (putN s 0x3440 2 mech) (mkRec 7 mech (leBytes 1 0xFF ++ leBytes 1 5 ++ leBytes 2 0) (reaction := 5)) else s

/-- The field firmware has not refreshed the trip-path watchdog for longer than 0x3430:01 (R902). -/
def watchdogOver (s : State) : Bool :=
  match s.saf.refreshAt with
  | some t => decide (t + 200 * objN s 0x3430 1 < s.fclk.ticks)
  | none => false

/-- R902: internal STO holds on every axis until a field-only or full reset. -/
def execTripWatchdogExpiry (s : State) : Out :=
  .next (if fieldHw s && watchdogOver s then stoAll (stoRecord { s with saf := { s.saf with wdSto := true } } 4) else s)

/-- R903.
Log entry 44: DEDUCED, unsafe. -/
def execFieldSramUncorrectable (address : BitVec 64) (s : State) : Out :=
  .next (if !fieldHw s then s
    else
      let s := stoAll s
      if fieldUp s then logField (putN s 0x3440 2 3) (mkRec 8 3 ([Config.memoryCode 0] ++ leBytes 8 address.toNat) (reaction := 5)) else s)

/-- R894, R904: the oldest record goes into the ring of 16,384; one that cannot be written stays and sets error register
bit 7, which a write that succeeds clears (log entry 66).
Log entry 66: DEDUCED, unsafe. -/
def execFaultLogFlashWrite (ok : Bool) (s : State) : Out :=
  .next (match fieldUp s, s.saf.unwritten with
    | true, r :: t =>
      if ok then
        let ring := s.saf.flash ++ [r]
        errorBit { s with saf := { s.saf with unwritten := t, flash := ring.drop (ring.length - 16384) } } 7 false
      else errorBit s 7 true
    | _, _ => s)

/-- R991: with DEBUG_LOCK set the die refuses the access. -/
def execDebuggerAccess (die : Die) (s : State) : Out :=
  .next (match die with
    | .field => if s.fboot.store.debugLock then s else { s with fboot := { s.fboot with debugOk := true } }
    | .host => if s.hboot.store.debugLock then s else { s with hboot := { s.hboot with debugOk := true } })

end Sys2Proof.Machine
end

