-- ==== Sys2Proof/Machine/Dispatch.lean ====
section
/-! DEFINITION. One arm per command: each is one direct call of its meaning. -/

namespace Sys2Proof.Machine

/-- The effect of command `i` on everything but the queue. -/
def exec (i : Instr) (s : State) : Host.Outcome State Fault Refusal :=
  match i with
  | .powerOn hBoot mp0 mp1 => Sys2Proof.Machine.execPowerOn hBoot mp0 mp1 s
  | .hostVinRise => Sys2Proof.Machine.execHostVinRise s
  | .hostVinLow => Sys2Proof.Machine.execHostVinLow s
  | .fieldVinLow => Sys2Proof.Machine.execFieldVinLow s
  | .fieldVinRise => Sys2Proof.Machine.execFieldVinRise s
  | .fieldVinHigh => Sys2Proof.Machine.execFieldVinHigh s
  | .fieldVinHighRelease => Sys2Proof.Machine.execFieldVinHighRelease s
  | .hostVinHigh => Sys2Proof.Machine.execHostVinHigh s
  | .hostCrystalStop => Sys2Proof.Machine.execHostCrystalStop s
  | .tcxoStop => Sys2Proof.Machine.execTcxoStop s
  | .hResetLLow => Sys2Proof.Machine.execHResetLLow s
  | .fResetLLow => Sys2Proof.Machine.execFResetLLow s
  | .hostWarmReset => Sys2Proof.Machine.execHostWarmReset s
  | .hostBoot dramOk badKeep => Sys2Proof.Machine.execHostBoot dramOk badKeep s
  | .fieldBoot => Sys2Proof.Machine.execFieldBoot s
  | .hostResetRequest value => Sys2Proof.Machine.execHostResetRequest value s
  | .fieldOnlyResetCommand => Sys2Proof.Machine.execFieldOnlyResetCommand s
  | .fullResetCommand => Sys2Proof.Machine.execFullResetCommand s
  | .fullResetRequest => Sys2Proof.Machine.execFullResetRequest s
  | .fullResetDelayExpiry => Sys2Proof.Machine.execFullResetDelayExpiry s
  | .ropeAlive value => Sys2Proof.Machine.execRopeAlive value s
  | .aliveExpiry => Sys2Proof.Machine.execAliveExpiry s
  | .bootLimitExpiry => Sys2Proof.Machine.execBootLimitExpiry s
  | .supervisorLockstepMismatch => Sys2Proof.Machine.execSupervisorLockstepMismatch s
  | .commitHostTrial value => Sys2Proof.Machine.execCommitHostTrial value s
  | .commitFieldTrial value => Sys2Proof.Machine.execCommitFieldTrial value s
  | .installHostImage address stored => Sys2Proof.Machine.execInstallHostImage address stored s
  | .motionOverrideWrite value => Sys2Proof.Machine.execMotionOverrideWrite value s
  | .levelsFrame dst => Sys2Proof.Machine.execLevelsFrame dst s
  | .ropeFrameTransmit side => Sys2Proof.Machine.execRopeFrameTransmit side s
  | .ropeFrameReceive dst rx => Sys2Proof.Machine.execRopeFrameReceive dst rx s
  | .linkFrame dst => Sys2Proof.Machine.execLinkFrame dst s
  | .ackDue side => Sys2Proof.Machine.execAckDue side s
  | .creditReturn side => Sys2Proof.Machine.execCreditReturn side s
  | .replayTimeout side => Sys2Proof.Machine.execReplayTimeout side s
  | .pairFault pair => Sys2Proof.Machine.execPairFault pair s
  | .retrainReqFrame width faulty within200ns => Sys2Proof.Machine.execRetrainReqFrame width faulty within200ns s
  | .retrainRequestWrite width afterStep7 => Sys2Proof.Machine.execRetrainRequestWrite width afterStep7 s
  | .retrainPairFail pair => Sys2Proof.Machine.execRetrainPairFail pair s
  | .trainingAttempt passing => Sys2Proof.Machine.execTrainingAttempt passing s
  | .linkUp passing d => Sys2Proof.Machine.execLinkUp passing d s
  | .tallyLockAcquired delay => Sys2Proof.Machine.execTallyLockAcquired delay s
  | .tallyLockLoss => Sys2Proof.Machine.execTallyLockLoss s
  | .fieldHeartbeatSend => Sys2Proof.Machine.execFieldHeartbeatSend s
  | .hostHeartbeatSend => Sys2Proof.Machine.execHostHeartbeatSend s
  | .hostHeartbeatReceive => Sys2Proof.Machine.execHostHeartbeatReceive s
  | .fieldHeartbeatReceive => Sys2Proof.Machine.execFieldHeartbeatReceive s
  | .heartbeatTimeout => Sys2Proof.Machine.execHeartbeatTimeout s
  | .fieldHeartbeatTimeout => Sys2Proof.Machine.execFieldHeartbeatTimeout s
  | .partnerBootTimeout die => Sys2Proof.Machine.execPartnerBootTimeout die s
  | .postedWriteReceive => Sys2Proof.Machine.execPostedWriteReceive s
  | .confirmedWriteReceive cls => Sys2Proof.Machine.execConfirmedWriteReceive cls s
  | .readRequestReceive => Sys2Proof.Machine.execReadRequestReceive s
  | .forwardedRequestArrival => Sys2Proof.Machine.execForwardedRequestArrival s
  | .forwardAnswerArrival => Sys2Proof.Machine.execForwardAnswerArrival s
  | .forwardTimeout tag => Sys2Proof.Machine.execForwardTimeout tag s
  | .class2RecordReceive => Sys2Proof.Machine.execClass2RecordReceive s
  | .faultLogRecordReceive dst => Sys2Proof.Machine.execFaultLogRecordReceive dst s
  | .fireReport => Sys2Proof.Machine.execFireReport s
  | .loadReport => Sys2Proof.Machine.execLoadReport s
  | .hostEntryPush => Sys2Proof.Machine.execHostEntryPush s
  | .ptpConfigPush => Sys2Proof.Machine.execPtpConfigPush s
  | .hostPairPush => Sys2Proof.Machine.execHostPairPush s
  | .aliasPush => Sys2Proof.Machine.execAliasPush s
  | .sStatusMessage => Sys2Proof.Machine.execSStatusMessage s
  | .sdoDownload index sub complete total data => Sys2Proof.Machine.execSdoDownload index sub complete total data s
  | .sdoUpload index sub complete => Sys2Proof.Machine.execSdoUpload index sub complete s
  | .sdoDownloadSegment toggle last data => Sys2Proof.Machine.execSdoDownloadSegment toggle last data s
  | .sdoUploadSegment toggle => Sys2Proof.Machine.execSdoUploadSegment toggle s
  | .sdoUnknownSpecifier specifier => Sys2Proof.Machine.execSdoUnknownSpecifier specifier s
  | .sdoInfoOdList => Sys2Proof.Machine.execSdoInfoOdList s
  | .sdoInfoObjectDescription index => Sys2Proof.Machine.execSdoInfoObjectDescription index s
  | .sdoInfoEntryDescription index sub => Sys2Proof.Machine.execSdoInfoEntryDescription index sub s
  | .mailboxUnsupported protocol => Sys2Proof.Machine.execMailboxUnsupported protocol s
  | .storeParameters sub value => Sys2Proof.Machine.execStoreParameters sub value s
  | .restoreDefaults sub value => Sys2Proof.Machine.execRestoreDefaults sub value s
  | .portRead => Sys2Proof.Machine.execPortRead s
  | .portConfirmedWrite => Sys2Proof.Machine.execPortConfirmedWrite s
  | .portPostedWrite => Sys2Proof.Machine.execPortPostedWrite s
  | .portReadSegment => Sys2Proof.Machine.execPortReadSegment s
  | .portWriteSegment => Sys2Proof.Machine.execPortWriteSegment s
  | .portForwardAnswer => Sys2Proof.Machine.execPortForwardAnswer s
  | .portUnknownEntry => Sys2Proof.Machine.execPortUnknownEntry s
  | .stageOpen src set => Sys2Proof.Machine.execStageOpen src set s
  | .stageAppend src set data => Sys2Proof.Machine.execStageAppend src set data s
  | .stageCheck src set => Sys2Proof.Machine.execStageCheck src set s
  | .stageArm src set => Sys2Proof.Machine.execStageArm src set s
  | .stageCancel src set hostConfirms => Sys2Proof.Machine.execStageCancel src set hostConfirms s
  | .rollback value => Sys2Proof.Machine.execRollback value s
  | .stagingPrepare set => Sys2Proof.Machine.execStagingPrepare set s
  | .hostVote set => Sys2Proof.Machine.execHostVote set s
  | .hostVoteTimeout set => Sys2Proof.Machine.execHostVoteTimeout set s
  | .stagingArmMessage set => Sys2Proof.Machine.execStagingArmMessage set s
  | .hostArmConfirm set => Sys2Proof.Machine.execHostArmConfirm set s
  | .armConfirmTimeout set => Sys2Proof.Machine.execArmConfirmTimeout set s
  | .applyInstant set => Sys2Proof.Machine.execApplyInstant set s
  | .hostApply set => Sys2Proof.Machine.execHostApply set s
  | .applyConfirmation set => Sys2Proof.Machine.execApplyConfirmation set s
  | .instantHoldTimeout set => Sys2Proof.Machine.execInstantHoldTimeout set s
  | .lineEncoderEdge a b stableA stableB => Sys2Proof.Machine.execLineEncoderEdge a b stableA stableB s
  | .expectationMiss => Sys2Proof.Machine.execExpectationMiss s
  | .fractionTick => Sys2Proof.Machine.execFractionTick s
  | .pulseUsEnd pin => Sys2Proof.Machine.execPulseUsEnd pin s
  | .positionEntryWrite onHost entry contents => Sys2Proof.Machine.execPositionEntryWrite onHost entry contents s
  | .standstillTimeout => Sys2Proof.Machine.execStandstillTimeout s
  | .predictorQuery target => Sys2Proof.Machine.execPredictorQuery target s
  | .replicaEdgeApply symbol => Sys2Proof.Machine.execReplicaEdgeApply symbol s
  | .stateFrame received => Sys2Proof.Machine.execStateFrame received s
  | .stateFrameTimeout => Sys2Proof.Machine.execStateFrameTimeout s
  | .followerSample => Sys2Proof.Machine.execFollowerSample s
  | .followerSyntheticEdge => Sys2Proof.Machine.execFollowerSyntheticEdge s
  | .followerSampleTimeout => Sys2Proof.Machine.execFollowerSampleTimeout s
  | .lineBreak => Sys2Proof.Machine.execLineBreak s
  | .encoderValid => Sys2Proof.Machine.execEncoderValid s
  | .estimatedSyntheticEdge => Sys2Proof.Machine.execEstimatedSyntheticEdge s
  | .indexMark stable => Sys2Proof.Machine.execIndexMark stable s
  | .presetCounter value => Sys2Proof.Machine.execPresetCounter value s
  | .reReference value => Sys2Proof.Machine.execReReference value s
  | .fieldTimeTick => Sys2Proof.Machine.execFieldTimeTick s
  | .replicaSymbolTick => Sys2Proof.Machine.execReplicaSymbolTick s
  | .driftFrame reference => Sys2Proof.Machine.execDriftFrame reference s
  | .systemTimeOffsetWrite value => Sys2Proof.Machine.execSystemTimeOffsetWrite value s
  | .slewEnd => Sys2Proof.Machine.execSlewEnd s
  | .reacquireCommand value => Sys2Proof.Machine.execReacquireCommand value s
  | .referenceRoleWrite value => Sys2Proof.Machine.execReferenceRoleWrite value s
  | .clockLossTimeout clock => Sys2Proof.Machine.execClockLossTimeout clock s
  | .holdoverLimitExpiry clock => Sys2Proof.Machine.execHoldoverLimitExpiry clock s
  | .ptpSyncMessage msg => Sys2Proof.Machine.execPtpSyncMessage msg s
  | .conversionQuery time => Sys2Proof.Machine.execConversionQuery time s
  | .syncConfigWrite register value => Sys2Proof.Machine.execSyncConfigWrite register value s
  | .sync0Edge => Sys2Proof.Machine.execSync0Edge s
  | .sync1Edge => Sys2Proof.Machine.execSync1Edge s
  | .syncPulseEnd output => Sys2Proof.Machine.execSyncPulseEnd output s
  | .latchEdge input rising => Sys2Proof.Machine.execLatchEdge input rising s
  | .ppsSecond clock => Sys2Proof.Machine.execPpsSecond clock s
  | .ppsPulseEnd clock => Sys2Proof.Machine.execPpsPulseEnd clock s
  | .timeEntryWrite entry contents => Sys2Proof.Machine.execTimeEntryWrite entry contents s
  | .timeEventFire entry => Sys2Proof.Machine.execTimeEventFire entry s
  | .controlCycleStart => Sys2Proof.Machine.execControlCycleStart s
  | .alRequestInit => Sys2Proof.Machine.execAlRequestInit s
  | .alRequestPreop => Sys2Proof.Machine.execAlRequestPreop s
  | .alRequestSafeop => Sys2Proof.Machine.execAlRequestSafeop s
  | .alRequestOp => Sys2Proof.Machine.execAlRequestOp s
  | .alRequestBoot => Sys2Proof.Machine.execAlRequestBoot s
  | .sm2BufferComplete data => Sys2Proof.Machine.execSm2BufferComplete data s
  | .sm2WatchdogExpiry => Sys2Proof.Machine.execSm2WatchdogExpiry s
  | .frameStartDelimiter port => Sys2Proof.Machine.execFrameStartDelimiter port s
  | .mirrorMessage => Sys2Proof.Machine.execMirrorMessage s
  | .class5Result => Sys2Proof.Machine.execClass5Result s
  | .safetyFrame address connState outputs frame => Sys2Proof.Machine.execSafetyFrame address connState outputs frame s
  | .safetyWatchdogExpiry => Sys2Proof.Machine.execSafetyWatchdogExpiry s
  | .aliasWrite word value => Sys2Proof.Machine.execAliasWrite word value s
  | .foeWriteIkf password file stored => Sys2Proof.Machine.execFoeWriteIkf password file stored s
  | .foeWriteIkh password file stored => Sys2Proof.Machine.execFoeWriteIkh password file stored s
  | .foeWriteIkm password slot file code => Sys2Proof.Machine.execFoeWriteIkm password slot file code s
  | .foeReadLog password => Sys2Proof.Machine.execFoeReadLog password s
  | .fieldFirmwareHalt => Sys2Proof.Machine.execFieldFirmwareHalt s
  | .engineLoad who address length ecc => Sys2Proof.Machine.execEngineLoad who address length ecc s
  | .engineStore who address mask data => Sys2Proof.Machine.execEngineStore who address mask data s
  | .storeAccept ecc => Sys2Proof.Machine.execStoreAccept ecc s
  | .coreLateStoreFault hart => Sys2Proof.Machine.execCoreLateStoreFault hart s
  | .registerWrite supervisor hart address size value => Sys2Proof.Machine.execRegisterWrite supervisor hart address size value s
  | .bandwidthPeriod => Sys2Proof.Machine.execBandwidthPeriod s
  | .patrolScrub line ecc cycleEnd => Sys2Proof.Machine.execPatrolScrub line ecc cycleEnd s
  | .csiFrameStart port vc => Sys2Proof.Machine.execCsiFrameStart port vc s
  | .csiLinePacket port vc dataType header crcOk data => Sys2Proof.Machine.execCsiLinePacket port vc dataType header crcOk data s
  | .csiFrameEnd port vc => Sys2Proof.Machine.execCsiFrameEnd port vc s
  | .csiDeskewDone port => Sys2Proof.Machine.execCsiDeskewDone port s
  | .stopStateTimeout port => Sys2Proof.Machine.execStopStateTimeout port s
  | .stampCapture stream => Sys2Proof.Machine.execStampCapture stream s
  | .ispOutputComplete stream => Sys2Proof.Machine.execIspOutputComplete stream s
  | .visFlagRelease value => Sys2Proof.Machine.execVisFlagRelease value s
  | .visGraphStart value => Sys2Proof.Machine.execVisGraphStart value s
  | .runStart graph => Sys2Proof.Machine.execRunStart graph s
  | .nodeDispatch engine => Sys2Proof.Machine.execNodeDispatch engine s
  | .nodeComplete graph node info => Sys2Proof.Machine.execNodeComplete graph node info s
  | .nodeTimeLimit graph node => Sys2Proof.Machine.execNodeTimeLimit graph node s
  | .runLimitExpiry graph => Sys2Proof.Machine.execRunLimitExpiry graph s
  | .refineTimeLimit graph node tiles => Sys2Proof.Machine.execRefineTimeLimit graph node tiles s
  | .hintSetArrival graph => Sys2Proof.Machine.execHintSetArrival graph s
  | .nqDoorbell queue value => Sys2Proof.Machine.execNqDoorbell queue value s
  | .descriptorTake queue => Sys2Proof.Machine.execDescriptorTake queue s
  | .waitTimeout queue => Sys2Proof.Machine.execWaitTimeout queue s
  | .nqRelease queue value => Sys2Proof.Machine.execNqRelease queue value s
  | .nqCancel queue value => Sys2Proof.Machine.execNqCancel queue value s
  | .queueEnable queue ctrl => Sys2Proof.Machine.execQueueEnable queue ctrl s
  | .jobDispatch queue => Sys2Proof.Machine.execJobDispatch queue s
  | .kernelBoundary queue copy member info => Sys2Proof.Machine.execKernelBoundary queue copy member info s
  | .preemptionWatchdogExpiry queue => Sys2Proof.Machine.execPreemptionWatchdogExpiry queue s
  | .jobComplete queue => Sys2Proof.Machine.execJobComplete queue s
  | .galleryFrameStart => Sys2Proof.Machine.execGalleryFrameStart s
  | .modelLoadFromDram slot address code => Sys2Proof.Machine.execModelLoadFromDram slot address code s
  | .modelLoadComplete slot cavern => Sys2Proof.Machine.execModelLoadComplete slot cavern s
  | .modelUnload slot value => Sys2Proof.Machine.execModelUnload slot value s
  | .cavernScrub bank word ecc => Sys2Proof.Machine.execCavernScrub bank word ecc s
  | .cavernInitDone => Sys2Proof.Machine.execCavernInitDone s
  | .bankClearDone bank => Sys2Proof.Machine.execBankClearDone bank s
  | .kvOpen pool seq => Sys2Proof.Machine.execKvOpen pool seq s
  | .kvClose pool seq => Sys2Proof.Machine.execKvClose pool seq s
  | .kvPin pool seq => Sys2Proof.Machine.execKvPin pool seq s
  | .kvUnpin pool seq => Sys2Proof.Machine.execKvUnpin pool seq s
  | .kvPrefetch pool seq => Sys2Proof.Machine.execKvPrefetch pool seq s
  | .kvReset pool seq => Sys2Proof.Machine.execKvReset pool seq s
  | .kvWinDataAccess write => Sys2Proof.Machine.execKvWinDataAccess write s
  | .aerWord word => Sys2Proof.Machine.execAerWord word s
  | .lanternCsiPacket port vc dataType crcOk data => Sys2Proof.Machine.execLanternCsiPacket port vc dataType crcOk data s
  | .synapticOperation core neuron conn => Sys2Proof.Machine.execSynapticOperation core neuron conn s
  | .hintPeriodEnd => Sys2Proof.Machine.execHintPeriodEnd s
  | .compFrameStart => Sys2Proof.Machine.execCompFrameStart s
  | .compLineStart late fault fifoOverflow => Sys2Proof.Machine.execCompLineStart late fault fifoOverflow s
  | .writebackFrameDone => Sys2Proof.Machine.execWritebackFrameDone s
  | .compLayerAddrWrite layer value => Sys2Proof.Machine.execCompLayerAddrWrite layer value s
  | .dpTrainCommand value => Sys2Proof.Machine.execDpTrainCommand value s
  | .auxCommand value reply data => Sys2Proof.Machine.execAuxCommand value reply data s
  | .hpdFall => Sys2Proof.Machine.execHpdFall s
  | .hpdRise => Sys2Proof.Machine.execHpdRise s
  | .pwmCounterZero axis => Sys2Proof.Machine.execPwmCounterZero axis s
  | .pwmCounterTop axis => Sys2Proof.Machine.execPwmCounterTop axis s
  | .sdResultReady axis u v w => Sys2Proof.Machine.execSdResultReady axis u v w s
  | .sdInputLost input => Sys2Proof.Machine.execSdInputLost input s
  | .adcSoftwareStart group value => Sys2Proof.Machine.execAdcSoftwareStart group value s
  | .adcConversionDone channel value => Sys2Proof.Machine.execAdcConversionDone channel value s
  | .axisEncoderEdge axis a b z stableA stableB stableZ => Sys2Proof.Machine.execAxisEncoderEdge axis a b z stableA stableB stableZ s
  | .ssiFrameEnd axis bits => Sys2Proof.Machine.execSsiFrameEnd axis bits s
  | .ssiTimeout axis => Sys2Proof.Machine.execSsiTimeout axis s
  | .bissFrameEnd axis bits error warning crc lineDelay => Sys2Proof.Machine.execBissFrameEnd axis bits error warning crc lineDelay s
  | .comparatorTrip axis b level ns => Sys2Proof.Machine.execComparatorTrip axis b level ns s
  | .stoInputEdge input channelB level => Sys2Proof.Machine.execStoInputEdge input channelB level s
  | .stoDiscrepancyFault input => Sys2Proof.Machine.execStoDiscrepancyFault input s
  | .clearLatches axis value => Sys2Proof.Machine.execClearLatches axis value s
  | .controlEngineStart => Sys2Proof.Machine.execControlEngineStart s
  | .axisPass axis => Sys2Proof.Machine.execAxisPass axis s
  | .ss1TimeLimit axis => Sys2Proof.Machine.execSs1TimeLimit axis s
  | .followingErrorTimeout axis => Sys2Proof.Machine.execFollowingErrorTimeout axis s
  | .cspTargetTimeout axis => Sys2Proof.Machine.execCspTargetTimeout axis s
  | .hardStopHome axis => Sys2Proof.Machine.execHardStopHome axis s
  | .axisCommandDwellEnd axis => Sys2Proof.Machine.execAxisCommandDwellEnd axis s
  | .axisCommandFlush axis value => Sys2Proof.Machine.execAxisCommandFlush axis value s
  | .controlwordEnableOperation axis => Sys2Proof.Machine.execControlwordEnableOperation axis s
  | .controlwordFaultReset axis => Sys2Proof.Machine.execControlwordFaultReset axis s
  | .controlwordQuickStop axis => Sys2Proof.Machine.execControlwordQuickStop axis s
  | .controlwordDisable axis => Sys2Proof.Machine.execControlwordDisable axis s
  | .modeOfOperationWrite axis value => Sys2Proof.Machine.execModeOfOperationWrite axis value s
  | .lockstepMismatch => Sys2Proof.Machine.execLockstepMismatch s
  | .tripWatchdogExpiry => Sys2Proof.Machine.execTripWatchdogExpiry s
  | .fieldSramUncorrectable address => Sys2Proof.Machine.execFieldSramUncorrectable address s
  | .faultLogFlashWrite ok => Sys2Proof.Machine.execFaultLogFlashWrite ok s
  | .meterSample mw => Sys2Proof.Machine.execMeterSample mw s
  | .governorTick => Sys2Proof.Machine.execGovernorTick s
  | .governorDeltaP => Sys2Proof.Machine.execGovernorDeltaP s
  | .powerRequestActive => Sys2Proof.Machine.execPowerRequestActive s
  | .powerRequestInspectIdle => Sys2Proof.Machine.execPowerRequestInspectIdle s
  | .powerRequestLanternWatch => Sys2Proof.Machine.execPowerRequestLanternWatch s
  | .powerRequestOff => Sys2Proof.Machine.execPowerRequestOff s
  | .watchConsentRequest => Sys2Proof.Machine.execWatchConsentRequest s
  | .watchConsentReply => Sys2Proof.Machine.execWatchConsentReply s
  | .wakeBeacon => Sys2Proof.Machine.execWakeBeacon s
  | .hWakeLLow => Sys2Proof.Machine.execHWakeLLow s
  | .wakeTimerExpiry => Sys2Proof.Machine.execWakeTimerExpiry s
  | .wakeHostCommand value => Sys2Proof.Machine.execWakeHostCommand value s
  | .railPowerGoodFailure rail => Sys2Proof.Machine.execRailPowerGoodFailure rail s
  | .railPowerGoodLoss rail => Sys2Proof.Machine.execRailPowerGoodLoss rail s
  | .meterSenseFailure domain => Sys2Proof.Machine.execMeterSenseFailure domain s
  | .hostTempSample tenths => Sys2Proof.Machine.execHostTempSample tenths s
  | .fieldTempSample tenths => Sys2Proof.Machine.execFieldTempSample tenths s
  | .hostVinHighRelease => Sys2Proof.Machine.execHostVinHighRelease s
  | .hostCrystalRestart => Sys2Proof.Machine.execHostCrystalRestart s
  | .tcxoRestart => Sys2Proof.Machine.execTcxoRestart s
  | .axisEncoderLineBreak axis => Sys2Proof.Machine.execAxisEncoderLineBreak axis s
  | .fieldbusPortLinkChange port up => Sys2Proof.Machine.execFieldbusPortLinkChange port up s
  | .ethernetLinkLoss => Sys2Proof.Machine.execEthernetLinkLoss s
  | .fieldBeaconDetect => Sys2Proof.Machine.execFieldBeaconDetect s
  | .pwmCompareMatch axis phase => Sys2Proof.Machine.execPwmCompareMatch axis phase s
  | .deadTimeExpiry axis phase => Sys2Proof.Machine.execDeadTimeExpiry axis phase s
  | .coreLoad hart address => Sys2Proof.Machine.execCoreLoad hart address s
  | .debuggerAccess die => Sys2Proof.Machine.execDebuggerAccess die s
  | .dpLinkTrainingDone ok lanes rate => Sys2Proof.Machine.execDpLinkTrainingDone ok lanes rate s
  | .hostPtpTick => Sys2Proof.Machine.execHostPtpTick s

end Sys2Proof.Machine
end

