-- ==== Sys2Proof/Machine/Step.lean ====
section
/-! DEFINITION. One step: the command at the front of the queue takes effect; an empty queue idles (log entry 1). -/

namespace Sys2Proof.Machine

/-- One step of the part.
Log entry 1: DESIGN CHOICE, unsafe. -/
def step (s : State) : Host.Outcome State Fault Refusal :=
  match s.pending with
  | [] => .next s
  | c :: rest => exec c { s with pending := rest }

/-- `s` with the command that `w` spells put at the front of its queue; no row of the table has bits, so no word
spells a command and `s` is unchanged.
Log entry 1: DESIGN CHOICE, unsafe. -/
def State.withFetchWord (s : State) (nbits w : Nat) : State :=
  match Sys2Proof.decodeTableWord nbits w with
  | some c => { s with pending := c :: s.pending }
  | none => s

end Sys2Proof.Machine
end

