-- ==== Sys2Proof/Safety.lean ====
section
/-! DEFINITION. What counts as a safe run, in the terms the statements use: which parts of the state a command may
change, and the invariants every step keeps. -/

namespace Sys2Proof

open Machine

/-- One part of the state: a top-level field of `State`. -/
inductive Part where
  | fboot | hboot | hBoot | gradeI | pins | pulses | fobj | hobj | fsaved | hsaved | regs | pos | fEntries
  | hMaster | hostPush | tEntries | replica | fclk | hclk | trep | pairs | sync | fend | hend | link | hostSlots
  | fwdValue | portXfer | portWaits | fieldXfers | sets | undo | keptHost | bus | mem | streams | trig | flags
  | graphs | runOrder | engines | gal | kv | lan | comp | axes | ctl | eng | saf | pwr | hostInts | freeCtr
  | pending
  deriving DecidableEq, Repr

/-- Two states hold the same value in one part. -/
def Part.same (s t : State) : Part → Prop
  | .fboot => t.fboot = s.fboot
  | .hboot => t.hboot = s.hboot
  | .hBoot => t.hBoot = s.hBoot
  | .gradeI => t.gradeI = s.gradeI
  | .pins => t.pins = s.pins
  | .pulses => t.pulses = s.pulses
  | .fobj => t.fobj = s.fobj
  | .hobj => t.hobj = s.hobj
  | .fsaved => t.fsaved = s.fsaved
  | .hsaved => t.hsaved = s.hsaved
  | .regs => t.regs = s.regs
  | .pos => t.pos = s.pos
  | .fEntries => t.fEntries = s.fEntries
  | .hMaster => t.hMaster = s.hMaster
  | .hostPush => t.hostPush = s.hostPush
  | .tEntries => t.tEntries = s.tEntries
  | .replica => t.replica = s.replica
  | .fclk => t.fclk = s.fclk
  | .hclk => t.hclk = s.hclk
  | .trep => t.trep = s.trep
  | .pairs => t.pairs = s.pairs
  | .sync => t.sync = s.sync
  | .fend => t.fend = s.fend
  | .hend => t.hend = s.hend
  | .link => t.link = s.link
  | .hostSlots => t.hostSlots = s.hostSlots
  | .fwdValue => t.fwdValue = s.fwdValue
  | .portXfer => t.portXfer = s.portXfer
  | .portWaits => t.portWaits = s.portWaits
  | .fieldXfers => t.fieldXfers = s.fieldXfers
  | .sets => t.sets = s.sets
  | .undo => t.undo = s.undo
  | .keptHost => t.keptHost = s.keptHost
  | .bus => t.bus = s.bus
  | .mem => t.mem = s.mem
  | .streams => t.streams = s.streams
  | .trig => t.trig = s.trig
  | .flags => t.flags = s.flags
  | .graphs => t.graphs = s.graphs
  | .runOrder => t.runOrder = s.runOrder
  | .engines => t.engines = s.engines
  | .gal => t.gal = s.gal
  | .kv => t.kv = s.kv
  | .lan => t.lan = s.lan
  | .comp => t.comp = s.comp
  | .axes => t.axes = s.axes
  | .ctl => t.ctl = s.ctl
  | .eng => t.eng = s.eng
  | .saf => t.saf = s.saf
  | .pwr => t.pwr = s.pwr
  | .hostInts => t.hostInts = s.hostInts
  | .freeCtr => t.freeCtr = s.freeCtr
  | .pending => t.pending = s.pending

/-- `t` differs from `s` in the listed parts at most. -/
def Only (ps : List Part) (s t : State) : Prop := ∀ p, p ∉ ps → p.same s t

/-- A command that completes changes the listed parts at most. -/
def Touches (ps : List Part) (c : Instr) : Prop := ∀ s t, exec c s = .next t → Only ps s t

/-- A command that completes leaves the listed parts as they are. -/
def Leaves (ps : List Part) (c : Instr) : Prop := ∀ s t, exec c s = .next t → ∀ p ∈ ps, p.same s t

/-- CoE is available and the master's write of `d` to an object is accepted at once (R235, R254). -/
def Accepted (s : State) (i k : Nat) (d : List Byte) : Prop :=
  coeUp s = true ∧ (writeField s .master .master i k d).2 = some 0

/-- The state after an accepted write of the master's: its effect and the answer (R235, R253). -/
def accepted (s : State) (i k : Nat) (d : List Byte) : State := sdoAnswer (writeField s .master .master i k d).1 i k 0 []

/-- With DEBUG_LOCK set, no die has granted a debugger access (R991). -/
def DebugInv (s : State) : Prop :=
  (s.fboot.store.debugLock = true → s.fboot.debugOk = false) ∧ (s.hboot.store.debugLock = true → s.hboot.debugOk = false)

/-- The fault log keeps at most the records the spec gives it room for (R894, R895, R896). -/
def LogInv (s : State) : Prop :=
  s.saf.log.length ≤ 1024 ∧ s.saf.flash.length ≤ 16384 ∧ s.saf.hostHeld.length ≤ 64 ∧ s.saf.hostLog.length ≤ 1024

/-- DRAM is in its canonical form, in the recursive shape that proofs use; `Laws.dram_wf_iff` says that it is `Memory.wf`. -/
def DramInv (s : State) : Prop := twf (dramDefault s) s.mem.cells

/-- The axis drives no torque: no power stage output is active and its gate driver is disabled (R771, R789). -/
def Still (s : State) (a : Nat) : Prop := (ax s a).gden = false ∧ ∀ o ∈ (ax s a).outs, o = false

end Sys2Proof
end

