-- ==== Sys2Proof/Certificates/Slice0/Obligations.lean ====
section
/-! DEFINITION. The statements for the provers: rules of the spec, completion of every command, frames and invariants. -/

open Sys2Proof Sys2Proof.Machine

/-- In an error episode a class frame out of sequence changes nothing. A bad or out-of-sequence frame outside one, or the awaited frame in error inside one, opens an episode, keeps the last good sequence number, and a frame with NAK waits to be sent. (04_rope_link) -/
def Obligations.ErrorEpisodesDiscardLaterFrames : Prop :=
  (∀ (s : State) (d : Die) (f : Frame) (g : Bool), (ropeEnd s d).episode = true → f.seq ≠ ((ropeEnd s d).lastGood + 1) % 256 → classIn s d f g = s) ∧
  (∀ (s : State) (d : Die) (f : Frame) (g : Bool), (ropeEnd s d).episode = false ∨ f.seq = ((ropeEnd s d).lastGood + 1) % 256 →
    g = false ∨ f.seq ≠ ((ropeEnd s d).lastGood + 1) % 256 →
    classIn s d f g = crcError s d ∧ (ropeEnd (classIn s d f g) d).episode = true ∧ (ropeEnd (classIn s d f g) d).lastGood = (ropeEnd s d).lastGood ∧
      ∃ l ∈ (ropeEnd (classIn s d f g) d).control, l.nak = true)

/-- Striped over one, two or four lanes and framed by start and end symbols, every frame whose fields fit its header, with at most 256 octets of payload, reads back as it was sent; a lane with a bad symbol, or without its start or end symbol, gives no frame. The CRC form is the model's own (log entry 122). (04_rope_link) -/
def Obligations.RopeFramesReadBackFromTheirLanes : Prop :=
  (∀ (w : Nat) (f : Frame), (w = 1 ∨ w = 2 ∨ w = 4) → f.cls < 8 → f.kind < 4 → f.seq < 256 → (∀ a, f.ack = some a → a < 256) →
    f.crClass < 8 → f.crCount < 32 → f.tag < 65536 → f.payload.length ≤ 256 → f.stale = false → f.arrived = 0 →
    frameOfLanes (laneSymbols w f) = some f) ∧
  (∀ (lanes : List (List Symbol)) (l : List Symbol), l ∈ lanes → laneOctets l = none → frameOfLanes lanes = none)

/-- A boot control record takes 64 octets and reads back with its active slot, trial, tries and sequence; octets whose CRC-32 or MAGIC is wrong give none (log entries 67 and 122). A fault record takes 64 octets and reads back with every field. (18_safety, 21_boot_firmware) -/
def Obligations.BootAndFaultRecordsReadBack : Prop :=
  (∀ c : Control, c.tries < 256 → c.seq < 2 ^ 32 → controlRead (controlBytes c) = some c ∧ (controlBytes c).length = 64) ∧
  (∀ b : List Byte, (crc32 (b.take 60)).toNat ≠ fieldN b 60 4 ∨ fieldN b 0 4 ≠ 0x43424B49 → controlRead b = none) ∧
  (∀ r : FaultRec, r.time < 2 ^ 64 → -2 ^ 63 ≤ r.position → r.position < 2 ^ 63 → r.detail.length = 32 →
    recOf (faultBytes r) = r ∧ (faultBytes r).length = 64)

/-- A state frame of any 48.8 position, velocity, acceleration and state octet is 21 symbols with bit [7] clear that read back as it was; symbols of another number, or with a wrong CRC-16, give none. The CRC form is the model's own (log entry 108). (02_line_position) -/
def Obligations.StateFramesReadBack : Prop :=
  (∀ (p : Int) (v a : BitVec 32) (b : Byte), -2 ^ 55 ≤ p → p < 2 ^ 55 →
    frameRead (frameSymbols (frameOctets p v a b)) = some { position := p, v := v, a := a, pstate := b } ∧ (frameSymbols (frameOctets p v a b)).length = 21 ∧
      ∀ x ∈ frameSymbols (frameOctets p v a b), x.getLsbD 7 = false) ∧
  (∀ l : List Byte, l.length ≠ 21 ∨ bits (symbolNat l) 143 128 ≠ (crc16 (leBytes 16 (symbolNat l))).toNat → frameRead l = none)

/-- After power-on and after a full reset, and in the reset state, host PTP time is 0, in FREE-RUN, with the never-locked bit set. (R166) -/
def Obligations.PowerOnAndFullResetStartHostTimeAtZero : Prop :=
  (State.reset.hclk.time = 0 ∧ State.reset.hclk.mode = .freeRun ∧ State.reset.hclk.never = true) ∧
  (∀ (h m0 m1 : BitVec 2) (s : State), ∃ t, exec (.powerOn h m0 m1) s = .next t ∧ t.hclk.time = 0 ∧ t.hclk.mode = .freeRun ∧ t.hclk.never = true) ∧
  (∀ s : State, s.hboot.pending = some 7 → s.hboot.full = true →
    ∃ t, exec .hostWarmReset s = .next t ∧ t.hclk.time = 0 ∧ t.hclk.mode = .freeRun ∧ t.hclk.never = true)

/-- A host crystal stop or restart, a host PTP tick, a link loss, a Sync message and a host clock-loss timeout leave the field clock, the SYNC unit and the position unit as they were. (R34) -/
def Obligations.HostClocksNeverTouchFieldClocks : Prop :=
  (∀ c ∈ [Instr.hostCrystalStop, .hostCrystalRestart, .hostPtpTick, .ethernetLinkLoss], Leaves [.fclk, .sync, .pos] c) ∧
  (∀ m : PtpSync, Leaves [.fclk, .sync, .pos] (.ptpSyncMessage m)) ∧
  (∀ s t : State, exec (.clockLossTimeout .host) s = .next t → t.fclk = s.fclk ∧ t.sync = s.sync ∧ t.pos = s.pos)

/-- A warm reset of the host leaves the field die's mode, position unit, entries, clock, SYNC unit, axes and control engine, and every output pin of the field die, as they were. (R38) -/
def Obligations.HostWarmResetLeavesTheFieldDie : Prop :=
  Leaves [.fboot, .pos, .fEntries, .hMaster, .hostPush, .tEntries, .fclk, .sync, .axes, .ctl, .eng] .hostWarmReset ∧
  ∀ s t : State, exec .hostWarmReset s = .next t → ∀ p, pinOnHost p = false → (p ∈ t.pins ↔ p ∈ s.pins)

/-- After a field reset by the pin, by its supply, by its crystal or by command, internal STO is asserted on every axis and none drives torque. (16_motion_io, 21_boot_firmware) -/
def Obligations.FieldResetLeavesEveryAxisStill : Prop :=
  (∀ c ∈ [Instr.fResetLLow, .fieldVinLow, .fieldVinHigh, .tcxoStop], ∀ s t : State, s.fboot.mode ≠ .unpowered → s.fboot.mode ≠ .held →
    exec c s = .next t → ∀ a : Fin 8, (ax t a.val).internalSto = true ∧ Still t a.val) ∧
  (∀ s : State, fieldUp s = true → ∃ t, exec .fieldOnlyResetCommand s = .next t ∧ ∀ a : Fin 8, (ax t a.val).internalSto = true ∧ Still t a.val)

/-- A transmission keeps at most 64 unacknowledged frames, and at 64, with nothing to resend and no control frame, an end sends nothing. (R195) -/
def Obligations.TransmitterHoldsAtMost64Unacknowledged : Prop :=
  (∀ (d : Die) (s t : State), exec (.ropeFrameTransmit d) s = .next t → (ropeEnd s d).unacked.length ≤ 64 → (ropeEnd t d).unacked.length ≤ 64) ∧
  (∀ (d : Die) (s : State), (ropeEnd s d).control = [] → (ropeEnd s d).resend = [] → 64 ≤ (ropeEnd s d).unacked.length →
    ∃ t, exec (.ropeFrameTransmit d) s = .next t ∧ (ropeEnd t d).wire = (ropeEnd s d).wire ∧ (ropeEnd t d).unacked = (ropeEnd s d).unacked ∧
      (ropeEnd t d).queue = (ropeEnd s d).queue)

/-- OPEN of a closed set records its source as owner; until the set is IDLE, APPLIED or FAILED again, every command and append of another source aborts with 0x08000022. (R291) -/
def Obligations.StageSetObeysItsOwnerOnly : Prop :=
  (∀ (r : Source) (n : Fin 4) (s : State), sourceUp s r = true → (stg s n.val).mode.closed = true →
    exec (.stageOpen r n) s = .next (answerWrite (setStg s n.val { mode := .opened, owner := some r, shadow := (stg s n.val).shadow, exchange := (stg s n.val).exchange }) (askerOf r) (0x2110 + n.val) 1 0)) ∧
  (∀ (r o : Source) (n : Fin 4) (s : State), sourceUp s r = true → (stg s n.val).owner = some o → o ≠ r → (stg s n.val).mode.closed = false →
    exec (.stageOpen r n) s = .next (answerWrite s (askerOf r) (0x2110 + n.val) 1 0x08000022) ∧
    (∀ d, exec (.stageAppend r n d) s = .next (answerWrite s (askerOf r) (0x2110 + n.val) 6 0x08000022)) ∧
    exec (.stageCheck r n) s = .next (answerWrite s (askerOf r) (0x2110 + n.val) 1 0x08000022) ∧
    exec (.stageArm r n) s = .next (answerWrite s (askerOf r) (0x2110 + n.val) 1 0x08000022) ∧
    (∀ b, exec (.stageCancel r n b) s = .next (answerWrite s (askerOf r) (0x2110 + n.val) 1 0x08000022)))

/-- A write to any configuration word but word 4 sets the error indication and changes nothing else. A download or upload segment whose toggle bit repeats ends the transfer with abort 0x05030000, an unknown command specifier with 0x05040001. (R256, R352) -/
def Obligations.BadFieldbusAccessesAreTurnedAway : Prop :=
  (∀ (w v : BitVec 16) (s : State), slaveUp s = true → w ≠ 4 →
    exec (.aliasWrite w v) s = .next { s with bus := { s.bus with eepromError := true } }) ∧
  ((∀ (x l : Bool) (d : List Byte) (t : SdoTransfer) (s : State), coeUp s = true → s.bus.transfer = some t → t.upload = false → x ≠ t.toggle →
    exec (.sdoDownloadSegment x l d) s = .next (sdoAnswer (endTransfer s) t.index t.sub 0x05030000 [])) ∧
  (∀ (x : Bool) (t : SdoTransfer) (s : State), coeUp s = true → s.bus.transfer = some t → t.upload = true → x ≠ t.toggle →
    exec (.sdoUploadSegment x) s = .next (sdoAnswer (endTransfer s) t.index t.sub 0x05030000 [])) ∧
  (∀ (b : Byte) (s : State), coeUp s = true →
    exec (.sdoUnknownSpecifier b) s = .next (match s.bus.transfer with
      | some t => sdoAnswer (endTransfer s) t.index t.sub 0x05040001 []
      | none => sdoAnswer s 0 0 0x05040001 [])))

/-- A write of MMIO of another size than 4 or 8 octets, or one not aligned to its size, and a load that is not word aligned, raise an access fault on their hart and change nothing else. Where no block lies, a write changes nothing but the completed access, a load reads zeros, and both leave a FAB record with cause 4, which becomes the newest. A load from DRAM in a poisoned line raises an access fault on its hart and changes nothing else. (R385, R387, R418) -/
def Obligations.CoresFaultOnBadAccesses : Prop :=
  ((∀ (b : Bool) (k : Fin 8) (a : BitVec 40) (n : Nat) (v : BitVec 64) (s : State), hostHw s = true → inMmio a.toNat = true →
    ¬ ((n = 4 ∨ n = 8) ∧ a.toNat % n = 0) →
    exec (.registerWrite b k a n v) s = .next { s with mem := { s.mem with coreFault := some k.val } }) ∧
  (∀ (k : Fin 8) (a : BitVec 40) (s : State), hostHw s = true → inMmio a.toNat = true → a.toNat % 4 ≠ 0 →
    exec (.coreLoad k a) s = .next { s with mem := { s.mem with coreFault := some k.val } })) ∧
  ((∀ (b : Bool) (k : Fin 8) (a : BitVec 40) (n : Nat) (v : BitVec 64) (s : State), hostHw s = true → inMmio a.toNat = true →
    blockAt a.toNat = none → (n = 4 ∨ n = 8) → a.toNat % n = 0 →
    exec (.registerWrite b k a n v) s = .next (fabFault (coreOk s) (coreRec 4 k.val (a.toNat / 64 * 64) ((2 ^ n - 1) * 2 ^ (a.toNat % 64))))) ∧
  (∀ (k : Fin 8) (a : BitVec 40) (s : State), hostHw s = true → inMmio a.toNat = true → blockAt a.toNat = none → a.toNat % 4 = 0 →
    exec (.coreLoad k a) s = .next (fabFault (coreRead s [0, 0, 0, 0]) (coreRec 4 k.val (a.toNat / 64 * 64) 0))) ∧
  (∀ (s : State) (r : FabRec), (fabFault s r).mem.fab.head? = some r)) ∧
  (∀ (k : Fin 8) (a : BitVec 40) (s : State), hostHw s = true → inDram s a.toNat = true → s.mem.poison.contains (a.toNat / 64 * 64) = true →
    exec (.coreLoad k a) s = .next { s with mem := { s.mem with coreFault := some k.val } })

/-- An aligned register write to or core load from one of the blocks that the table of MMIO blocks names without any chapter giving its registers, or in the 64-bit PCIe window, is refused with the name of the block. (08_host_memory) -/
def Obligations.UnspecifiedBlocksAreRefusedByName : Prop :=
  let open_ : List String := ["HPOS", "ETH0", "ETH1", "PTP", "PCIE", "EMMC", "XSPI", "I2C", "SPI", "UART", "GPIO", "DBG", "PCIE_CFG", "PCIE_MEM32"]
  (∀ (p : Bool) (k : Fin 8) (a : BitVec 40) (n : Nat) (v : BitVec 64) (b : Nat × Nat × String × Bool) (s : State), hostHw s = true →
    inMmio a.toNat = true → (n = 4 ∨ n = 8) → a.toNat % n = 0 → blockAt a.toNat = some b → b.2.2.1 ∈ open_ →
    exec (.registerWrite p k a n v) s = .refused (.deviceUnspecified b.2.2.1)) ∧
  (∀ (k : Fin 8) (a : BitVec 40) (b : Nat × Nat × String × Bool) (s : State), hostHw s = true → inMmio a.toNat = true → a.toNat % 4 = 0 →
    blockAt a.toNat = some b → b.2.2.1 ∈ open_ → exec (.coreLoad k a) s = .refused (.deviceUnspecified b.2.2.1)) ∧
  (∀ (p : Bool) (k : Fin 8) (a : BitVec 40) (n : Nat) (v : BitVec 64) (s : State), hostHw s = true → inMmio a.toNat = false → inPcie a.toNat = true →
    exec (.registerWrite p k a n v) s = .refused (.deviceUnspecified "PCIE_MEM64") ∧ exec (.coreLoad k a) s = .refused (.deviceUnspecified "PCIE_MEM64"))

/-- A core store changes exactly the octets of its address and size, an accepted posted store exactly the masked octets of its line (the mask of R392), and posting an engine store changes no octet. (08_host_memory) -/
def Obligations.MemoryStoresWriteTheirOctetsOnly : Prop :=
  (∀ (b : Bool) (k : Fin 8) (a : BitVec 40) (n : Nat) (v : BitVec 64) (s : State), hostHw s = true → inMmio a.toNat = false →
    inPcie a.toNat = false → (linesOf a.toNat n).all (fun l => inDram s l) = true →
    ∃ t, exec (.registerWrite b k a n v) s = .next t ∧
      ∀ c, dramGet t c = if a.toNat ≤ c ∧ c < a.toNat + n then BitVec.ofNat 8 (v.toNat / 2 ^ (8 * (c - a.toNat))) else dramGet s c) ∧
  (∀ (e : EccResult) (p : PendingStore) (l : List PendingStore) (s : State), hostHw s = true → s.mem.stores = p :: l →
    exec (.storeAccept e) s = .next (storeTaken (storeMerged { s with mem := { s.mem with stores := l } } p e) p.who)) ∧
  (∀ (e : EccResult) (p : PendingStore) (s : State) (c : Nat), (e = .uncorrectable → s.mem.ecc = true → p.mask % 2 ^ 64 = 2 ^ 64 - 1) →
    dramGet (storeMerged s p e) c =
      if p.line ≤ c ∧ c < p.line + 64 ∧ p.mask.testBit (c - p.line) = true then lget 0 p.data (c - p.line) else dramGet s c) ∧
  (∀ (w : Origin) (a : BitVec 40) (m : BitVec 64) (d : List Byte) (s : State), hostHw s = true →
    accessCause s w (a.toNat / 64 * 64) true = none →
    ∃ t, exec (.engineStore w a m d) s = .next t ∧
      t.mem.stores = s.mem.stores ++ [{ who := w, line := a.toNat / 64 * 64, mask := m.toNat, data := d }] ∧ ∀ c, dramGet t c = dramGet s c)

/-- A store of octets by an engine leaves every octet outside its address range as it was, and when every line passes each octet of the range holds the stored value. (08_host_memory) -/
def Obligations.EngineStoresChangeTheirOctetsOnly : Prop :=
  (∀ (s : State) (w : Origin) (a : Nat) (d : List Byte) (c : Nat), ¬ (a ≤ c ∧ c < a + d.length) → dramGet (engStore s w a d).1 c = dramGet s c) ∧
  (∀ (s : State) (w : Origin) (a : Nat) (d : List Byte) (c : Nat), (engStore s w a d).2 = true → a ≤ c ∧ c < a + d.length →
    dramGet (engStore s w a d).1 c = d.getD (c - a) 0)

/-- An engine load, a patrol scrub, a late core store fault, a bandwidth period and a KV prefetch leave every octet of DRAM as it was. (08_host_memory, 13_attention_kv) -/
def Obligations.LoadsLeaveDramAsItIs : Prop :=
  (∀ (w : Origin) (a : BitVec 40) (n : Nat) (e : EccResult) (s t : State), exec (.engineLoad w a n e) s = .next t → ∀ c, dramGet t c = dramGet s c) ∧
  (∀ (l : BitVec 40) (e : EccResult) (b : Bool) (s t : State), exec (.patrolScrub l e b) s = .next t → ∀ c, dramGet t c = dramGet s c) ∧
  (∀ (k : Fin 8) (s t : State), exec (.coreLateStoreFault k) s = .next t → ∀ c, dramGet t c = dramGet s c) ∧
  (∀ s t : State, exec .bandwidthPeriod s = .next t → ∀ c, dramGet t c = dramGet s c) ∧
  (∀ (p : Fin 4) (q : Fin 8192) (s t : State), exec (.kvPrefetch p q) s = .next t → ∀ c, dramGet t c = dramGet s c)

/-- Such a release leaves all flags as they were and adds one to 0x2620:02. (R529) -/
def Obligations.ReleaseOfAnInvalidFlagIsCounted : Prop :=
  ∀ (v : BitVec 32) (s : State), hostUp s = true → (flag s (v.toNat % 1024)).mode ≠ .valid →
    ∃ t, exec (.visFlagRelease v) s = .next t ∧ t.flags = s.flags ∧ objN t 0x2620 2 = (objN s 0x2620 2 + 1) % 2 ^ 32

/-- With NQ_CTRL.ENABLE clear or the queue-enable object false, a DESCRIPTOR_TAKE changes nothing. (R601) -/
def Obligations.QueueTakesNothingUnlessEnabled : Prop :=
  ∀ (q : Fin 4096) (s : State), (reg s (nqReg q.val 0x10)).testBit 0 = false ∨ (queueSettings s q.val).testBit 0 = false →
    exec (.descriptorTake q) s = .next s

/-- An event at or beyond the sensor width or height, or before any ROW word, does nothing but add one to 0x2C10:02. (14_lantern) -/
def Obligations.EventsOutsideTheSensorAreCounted : Prop :=
  ∀ (s : State) (on : Bool) (x : Nat), (s.lan.row = none ∨ objN s 0x2C00 3 ≤ x ∨ ∃ y, s.lan.row = some y ∧ objN s 0x2C00 4 ≤ y) →
    lanEvent s on x = bump s 0x2C10 2

/-- A frame start takes every COMP_Ln_ADDR; a later write changes the register and not the latched address, which no line start changes either. (R751) -/
def Obligations.LayerAddressesAreLatchedAtFrameStart : Prop :=
  (∀ s : State, compRuns s = true → ∃ t, exec .compFrameStart s = .next t ∧
    ∀ l : Fin 6, lget 0 t.comp.latched l.val = reg s (bCOMP + 0x10 + 8 * l.val)) ∧
  (∀ (l : Fin 6) (v : BitVec 64) (s : State), hostUp s = true → ∃ t, exec (.compLayerAddrWrite l v) s = .next t ∧
    t.comp.latched = s.comp.latched ∧ reg t (bCOMP + 0x10 + 8 * l.val) = v.toNat) ∧
  (∀ (d : BitVec 6) (f o : Bool) (s t : State), exec (.compLineStart d f o) s = .next t → t.comp.latched = s.comp.latched)

/-- H_DP_HPD falling empties the output, ends video and sets COMP_IRQ[3], write-back goes on as it was, and a rise alone brings no video back. (R762) -/
def Obligations.HotPlugFallStopsTheOutput : Prop :=
  (∀ s : State, hostUp s = true → ∃ t, exec .hpdFall s = .next t ∧ t.comp.dpOut = [] ∧ dpVideo t = false ∧
    (reg t (bCOMP + 4)).testBit 3 = true ∧ t.comp.wb = s.comp.wb ∧ t.comp.wbEnded = s.comp.wbEnded) ∧
  (∀ s t : State, hostUp s = true → dpVideo s = false → s.comp.hpd = false → (reg s (bCOMP + 0x44)).testBit 1 = false →
    exec .hpdRise s = .next t → dpVideo t = false)

/-- When a channel of STO1 or STO2 goes low, every axis that names that input in A+0x33:05 has its STO latch set and drives no torque. (R787) -/
def Obligations.LowStoChannelPutsItsAxesInTorqueOff : Prop :=
  ∀ (n : Fin 2) (b : Bool) (s : State), fieldHw s = true → ∃ t, exec (.stoInputEdge n b false) s = .next t ∧
    ∀ a : Fin 8, namesSto s a.val n.val = true → (ax t a.val).sto = true ∧ Still t a.val

/-- The error asserts internal STO on all eight axes, none of which then drives torque, and while the firmware runs the newest record of the log has TYPE 8. (R903) -/
def Obligations.FieldSramErrorAssertsInternalSto : Prop :=
  ∀ (m : BitVec 64) (s : State), fieldHw s = true → ∃ t, exec (.fieldSramUncorrectable m) s = .next t ∧
    (∀ a : Fin 8, (ax t a.val).internalSto = true ∧ Still t a.val) ∧ (fieldUp s = true → ∃ r, t.saf.log.head? = some r ∧ r.type = 8)

/-- When the flash write of the oldest unwritten record fails, the log and the unwritten records stay as they are and error register bit 7 is set. (R904) -/
def Obligations.FailedFlashWriteKeepsTheRecord : Prop :=
  ∀ (r : FaultRec) (l : List FaultRec) (s : State), fieldUp s = true → s.saf.unwritten = r :: l →
    ∃ t, exec (.faultLogFlashWrite false) s = .next t ∧ t.saf = s.saf ∧ (objN t 0x1001 0).testBit 7 = true

/-- A host sample more than 10 degrees above the grade maximum takes the PMU from any other mode to OFF with cause 2; after a field sample, error register bit 3 is set exactly when the temperature exceeds the grade maximum less 5 degrees. (R968, R1027) -/
def Obligations.TemperatureLimitsAct : Prop :=
  (∀ (x : Int) (s : State), s.pwr.mode ≠ .off → gradeMax s + 100 < x →
    ∃ t, exec (.hostTempSample x) s = .next t ∧ t.pwr.mode = .off ∧ t.hboot.mode = .off ∧ t.pwr.offCause = 2) ∧
  (∀ (x : Int) (s : State), fieldHw s = true →
    ∃ t, exec (.fieldTempSample x) s = .next t ∧ ((objN t 0x1001 0).testBit 3 = true ↔ gradeMax s - 50 < x))

/-- With the interval nonzero and running and no reset already asked for, its expiry asks for a warm reset, and the reset that follows has cause 5 and clears the request. (R973) -/
def Obligations.MissedAliveIntervalResetsTheHost : Prop :=
  ∀ s : State, hostUp s = true → s.hboot.aliveRun = true → objN s 0x2005 1 ≠ 0 → s.hboot.pending = none → s.hboot.full = false →
    ∃ t u, exec .aliveExpiry s = .next t ∧ exec .hostWarmReset t = .next u ∧ u.hboot.cause = 5 ∧ u.hboot.pending = none ∧ u.hboot.aliveRun = false

/-- With KEY_SET clear the boot choice finds no slot, no installation and no recovery write ends accepted, and a model load ends FAILED. (R990) -/
def Obligations.NoKeyMeansNoImageAndNoBundle : Prop :=
  (∀ (h : Bool) (x : Storage), x.keySet = false → (chooseSlot h x).slot = none) ∧
  (∀ (h : Bool) (x : Storage) (i : List Byte) (k : Bool), x.keySet = false → (install h x i k).2 ≠ 2 ∧ (recoverSlot h x i k).2 ≠ 2) ∧
  (∀ (n : Fin 4) (e : EccResult) (b : Bundle) (s : State), s.hboot.store.keySet = false → hostUp s = true → (mslot s n.val).mode = .loading →
    (mslot s n.val).bundle = some b → ∃ t, exec (.modelLoadComplete n e) s = .next t ∧ (mslot t n.val).mode = .failed)

/-- Commands of the power unit complete with their effect: each clause names the state a command leaves. (20_power) -/
def Obligations.PowerRowsComplete : Prop :=
  (∀ (mw : List Nat) (s : State), s.pwr.mode ≠ .off → exec (.meterSample mw) s = .next (fastPath (shedPhases (meters s mw) mw) (lget 0 mw 0))) ∧
  (∀ (s : State), hostUp s = true → exec .governorTick s = .next (govern s)) ∧
  (∀ (l a n : Nat) (s : State), s.pwr.raise = some (l, a, n) → 100 ≤ n → exec .governorDeltaP s = .next { s with pwr := { s.pwr with raise := none, deltaP := tset 0 s.pwr.deltaP l (a - avgMw s) } }) ∧
  (∀ (s : State), hostUp s = true → exec .powerRequestActive s = .next (putN { s with pwr := { s.pwr with mode := .active } } 0x3602 1 0)) ∧
  (∀ (s : State), hostUp s = true → (reg s bCOMP).testBit 0 = false → exec .powerRequestInspectIdle s = .next (if Config.freeBool s.freeCtr then drawn s else drawn (putN (displayOff { s with pwr := { s.pwr with mode := .inspectIdle } }) 0x3602 1 1))) ∧
  (∀ (s : State), hostUp s = true → s.pwr.pendingWatch = none → watchBlocked s = false → objN s 0x3620 1 % 32 ≠ 0 → exec .powerRequestLanternWatch s = .next (ropeSend { s with pwr := { s.pwr with pendingWatch := some false, wakePending := false, wakeBits := 0 } } .host
        (mkFrame 3 1 0 (leBytes 2 0x3602 ++ [1, 2, 0, 0, 0, 0] ++ leBytes 1 2)))) ∧
  (∀ (s : State), hostUp s = true → s.pwr.pendingWatch = none → watchBlocked s = false → exec .powerRequestOff s = .next (ropeSend { s with pwr := { s.pwr with pendingWatch := some true, wakePending := false, wakeBits := 0 } } .host
        (mkFrame 3 1 0 (leBytes 2 0x3602 ++ [1, 2, 0, 0, 0, 0] ++ leBytes 1 3)))) ∧
  (∀ (f : Frame) (t s : State), takeIn s .field (isConsent 1) = some (f, t) → fieldUp s = true → exec .watchConsentRequest s = .next (if objN s 0x3A30 3 = 0 ∧ anyEnabled s = true then fieldResponse t 3 f.tag 0x3602 1 2 0x08000022 []
        else fieldResponse (putN { t with fend := { t.fend with timing := false } } 0x3A30 1 1) 3 f.tag 0x3602 1 2 0 [])) ∧
  (∀ (f : Frame) (o : Bool) (t s : State), takeIn s .host (isConsent 2) = some (f, t) → hostUp s = true → t.pwr.pendingWatch = some o → exec .watchConsentReply s = .next (if fieldN f.payload 4 4 = 0 then
          enterLow (lastBeat (powerAnswer { t with pwr := { t.pwr with pendingWatch := none } } 0)) o
        else
          let u := powerAnswer t 0x08000022
          { u with pwr := { u.pwr with pendingWatch := none, wakePending := false, asker := none } })) ∧
  (∀ (s : State), fieldBeacons s = true → (objN s 0x3620 1).testBit 1 = true → s.hboot.mode = .watch → exec .wakeBeacon s = .next (wakeUp s (2 ^ 1))) ∧
  (∀ (s : State), s.hboot.mode = .watch → (objN s 0x3620 1).testBit 2 = true → exec .hWakeLLow s = .next (wakeUp s (2 ^ 2))) ∧
  (∀ (s : State), objN s 0x3620 3 ≠ 0 → (objN s 0x3620 1).testBit 3 = true → s.hboot.mode = .watch → exec .wakeTimerExpiry s = .next (wakeUp s (2 ^ 3))) ∧
  (∀ (s : State), fieldUp s = true → objN s 0x3A30 1 = 1 → exec (.wakeHostCommand 1) s = .next { s with fend := { s.fend with awaiting := true }, link := { s.link with beacon := true } }) ∧
  (∀ (s : State), fieldHw s = true → hostHw s = true → s.link.mode = .down → exec .fieldBeaconDetect s = .next ({ s with fend := { s.fend with awaiting := s.fend.awaiting || decide (objN s 0x3A30 1 = 1) }, link := { s.link with beacon := true } })) ∧
  (∀ (r : Fin 15) (s : State), railRises s r.val = true → (s.pwr.pgFails = 0 → exec (.railPowerGoodFailure r) s = .next { s with pwr := { s.pwr with pgFails := 1 } }) ∧
      (s.pwr.pgFails ≠ 0 → exec (.railPowerGoodFailure r) s =
        .next { hostOff s 1 with pwr := { (hostOff s 1).pwr with pgFails := 0 } })) ∧
  (∀ (r : Fin 15) (s : State), s.pwr.mode = .active ∨ s.pwr.mode = .inspectIdle → s.pwr.pgood = true → s.pwr.rails.getLsbD r.val = true → exec (.railPowerGoodLoss r) s = .next (hostFall { s with hboot := { s.hboot with hold := setBit s.hboot.hold 0 true } })) ∧
  (∀ (d : Fin 11) (s : State), s.pwr.mode ≠ .off → d.val ≠ 0 ∨ 3 ≤ s.pwr.level → exec (.meterSenseFailure d) s = .next ({ s with pwr := { s.pwr with failed := s.pwr.failed ||| BitVec.twoPow 11 d.val } })) ∧
  (∀ (t : Int) (s : State), s.pwr.mode ≠ .off → t ≤ gradeMax s + 100 → exec (.hostTempSample t) s = .next (putI { s with pwr := { s.pwr with temp := t, thermal := decide (gradeMax s - 50 < t) || (s.pwr.thermal && !decide (t < gradeMax s - 100)) } } 0x3621 1 t)) ∧
  (∀ (t : Int) (s : State), fieldHw s = true → t ≤ gradeMax s + 100 → exec (.fieldTempSample t) s = .next (errorBit (putI s 0x3A50 1 t) 3 (decide (gradeMax s - 50 < t))))

/-- Supply, crystal and reset-pin commands complete with their effect: each clause names the state a command leaves. (20_power, 21_boot_firmware, 22_electrical_package) -/
def Obligations.PinRowsComplete : Prop :=
  (∀ (hb m0 m1 : BitVec 2) (s : State), ∃ t, exec (.powerOn hb m0 m1) s = .next t ∧ t.fboot = { mode := .rom, cause := 1, store := s.fboot.store } ∧
      t.hboot = { mode := .rom, cause := 1, store := s.hboot.store, limitRun := true } ∧ t.saf.flash = s.saf.flash ∧
      t.fsaved = s.fsaved ∧ t.hsaved = s.hsaved ∧ t.mem.cells = [] ∧ t.pwr.rails = railsAll ∧ t.pwr.pgood = true ∧
      t.pwr.phases0 = m0.toNat + 1 ∧ t.pwr.phases1 = m1.toNat + 1 ∧ t.hBoot = hb) ∧
  (∀ (s : State), s.hboot.hold.testBit 0 = true ∨ s.hboot.mode = .off ∨ s.hboot.mode = .unpowered → exec .hostVinRise s = .next (if (hostHold s 0 false).hboot.hold = 0 then hostRelease (hostHold s 0 false) 2 else hostHold s 0 false)) ∧
  (∀ (s : State), s.hboot.mode ≠ .off → exec .hostVinLow s = .next (hostFall (hostHold s 0 true))) ∧
  (∀ (s : State), s.hboot.mode ≠ .off → exec .hostVinHigh s = .next (hostFall (hostHold s 1 true))) ∧
  (∀ (s : State), exec .hostVinHighRelease s = .next (hostUnheld s 1 2)) ∧
  (∀ (s : State), s.hboot.mode ≠ .off → exec .hostCrystalStop s = .next (hostReset (hostHold s 2 true) .cold 2)) ∧
  (∀ (s : State), s.hboot.hold.testBit 2 = true → exec .hostCrystalRestart s = .next (hostUnheld (drawn s) 2 ((freeW s).toNat % 256))) ∧
  (∀ (s : State), exec .fieldVinLow s = .next (fieldHeld s 0 2)) ∧
  (∀ (s : State), s.fboot.hold.testBit 0 = true → exec .fieldVinRise s = .next (if (setBit s.fboot.hold 0 false) = 0 then
        { fieldHold s 0 false with fboot := { (fieldHold s 0 false).fboot with mode := .rom } } else fieldHold s 0 false)) ∧
  (∀ (s : State), exec .fieldVinHigh s = .next (fieldHeld s 1 8)) ∧
  (∀ (s : State), s.fboot.hold.testBit 1 = true → exec .fieldVinHighRelease s = .next (if (setBit s.fboot.hold 1 false) = 0 then
        { fieldHold s 1 false with fboot := { (fieldHold s 1 false).fboot with mode := .rom } } else fieldHold s 1 false)) ∧
  (∀ (s : State), exec .tcxoStop s = .next (fieldHeld (drawn s) 2 ((freeW s).toNat % 256))) ∧
  (∀ (s : State), s.fboot.hold.testBit 2 = true → exec .tcxoRestart s = .next (if (setBit s.fboot.hold 2 false) = 0 then
        { fieldHold s 2 false with fboot := { (fieldHold s 2 false).fboot with mode := .rom } } else fieldHold s 2 false)) ∧
  (∀ (s : State), s.hboot.mode = .running ∨ s.hboot.mode = .rom ∨ s.hboot.mode = .recovery → s.hboot.pending = none → exec .hResetLLow s = .next ({ s with hboot := { s.hboot with pending := some 3 } })) ∧
  (∀ (s : State), s.fboot.mode ≠ .unpowered → s.fboot.mode ≠ .held → exec .fResetLLow s = .next (fieldReset s 3))

/-- Reset, boot, image and alive commands complete with their effect: each clause names the state a command leaves. (21_boot_firmware) -/
def Obligations.ResetRowsComplete : Prop :=
  (∀ (c : Nat) (s : State), s.hboot.pending = some c → exec .hostWarmReset s = .next (hostReset s (if s.hboot.full then .full else .warm) c)) ∧
  (∀ (s : State), hostUp s = true → s.hboot.pending = none → exec (.hostResetRequest 1) s = .next (sdoAnswer { s with hboot := { s.hboot with pending := some 6 } } 0x2005 2 0 [])) ∧
  (∀ (s : State), fieldUp s = true → exec .fieldOnlyResetCommand s = .next (fieldReset (sdoAnswer s 0x3A40 3 0 []) 4)) ∧
  (∀ (s : State), fieldUp s = true → hostAnswers s = true → exec .fullResetCommand s = .next (sdoAnswer (ropeSend { s with fboot := { s.fboot with pending := some 5 } } .field
        (mkFrame 3 1 0 (leBytes 2 0x3A40 ++ leBytes 1 3 ++ leBytes 1 2 ++ [0, 0, 0, 0] ++ leBytes 1 2))) 0x3A40 3 0 [])) ∧
  (∀ (f : Frame) (t s : State), takeIn s .host isFullReset = some (f, t) → t.hboot.mode = .running ∨ t.hboot.mode = .rom ∨ t.hboot.mode = .recovery → t.hboot.pending = none → exec .fullResetRequest s = .next { t with hboot := { t.hboot with pending := some 7, full := true } }) ∧
  (∀ (c n : Nat) (s : State), s.fboot.pending = some c → s.fboot.askedAt = some n → n + 200000 ≤ s.fclk.ticks → exec .fullResetDelayExpiry s = .next (fieldReset s c)) ∧
  (∀ (v : BitVec 32) (s : State), hostUp s = true → exec (.ropeAlive v) s = .next ({ s with hboot := { s.hboot with aliveRun := true, limitRun := false } })) ∧
  (∀ (s : State), hostUp s = true → s.hboot.aliveRun = true → objN s 0x2005 1 ≠ 0 → s.hboot.pending = none → exec .aliveExpiry s = .next ({ s with hboot := { s.hboot with pending := some 5 } })) ∧
  (∀ (s : State), s.hboot.limitRun = true → s.hboot.mode = .running ∨ s.hboot.mode = .rom ∨ s.hboot.mode = .recovery → s.hboot.pending = none → exec .bootLimitExpiry s = .next ({ s with hboot := { s.hboot with pending := some 9 } })) ∧
  (∀ (s : State), s.hboot.mode = .running ∨ s.hboot.mode = .rom ∨ s.hboot.mode = .recovery → s.hboot.pending = none → exec .supervisorLockstepMismatch s = .next ({ s with hboot := { s.hboot with pending := some 4 } })) ∧
  (∀ (s : State), hostUp s = true → s.hboot.trial = true → exec (.commitHostTrial 1) s = .next (sdoAnswer { s with hboot := commitTrial s.hboot } 0x2005 3 0 [])) ∧
  (∀ (s : State), fieldUp s = true → s.fboot.trial = true → exec (.commitFieldTrial 1) s = .next (sdoAnswer { s with fboot := commitTrial s.fboot } 0x3A40 4 0 [])) ∧
  (∀ (a : BitVec 64) (k : Bool) (s : State), hostUp s = true → inDram s a.toNat = true → exec (.installHostImage a k) s = .next (sdoAnswer (putN { s with hboot := { s.hboot with store := (install true s.hboot.store (dramImageAt s a.toNat) k).1 } } 0x2006 2
        (install true s.hboot.store (dramImageAt s a.toNat) k).2) 0x2006 1 0 [])) ∧
  (∀ (s : State), fieldUp s = true → s.link.outcome = 2 → exec (.motionOverrideWrite 0x4F565244) s = .next (sdoAnswer (putN s 0x3A40 1 0x4F565244) 0x3A40 1 0 [])) ∧
  (∀ (d : Bool) (k : List (Fin 8)) (b : Bool) (s : State), s.hboot.mode = .rom → s.hBoot ≠ 3 → (chooseSlot true s.hboot.store).slot = some b → exec (.hostBoot d k) s = .next (hostStart { s with hboot := { s.hboot with store := (chooseSlot true s.hboot.store).store, error := (chooseSlot true s.hboot.store).error, trial := (chooseSlot true s.hboot.store).trial }, pwr := { s.pwr with rising := none } } b d k)) ∧
  (∀ (b : Bool) (s : State), s.fboot.mode = .rom → (chooseSlot false s.fboot.store).slot = some b → exec .fieldBoot s = .next (fieldStart { s with fboot := { s.fboot with store := (chooseSlot false s.fboot.store).store, error := (chooseSlot false s.fboot.store).error, trial := (chooseSlot false s.fboot.store).trial } } b (chooseSlot false s.fboot.store).defaulted))

/-- Error, safety and compatibility commands complete with their effect: each clause names the state a command leaves. (18_safety, 21_boot_firmware) -/
def Obligations.SafetyRowsComplete : Prop :=
  (∀ (f : Frame) (t s : State), ropeUp s = true → s.link.levelsDue = true → (takeControl s .field 3 = some (f, t) → exec (.levelsFrame .field) s =
        .next (levelsDone (fieldLevels (takeFields t .field f) (levelsIn f.payload)))) ∧
      (takeControl s .host 3 = some (f, t) → exec (.levelsFrame .host) s =
        .next (levelsDone (hostLevels (takeFields t .host f) (levelsIn f.payload) (levelsFresh f.payload))))) ∧
  (∀ (s : State), fieldUp s = true → s.fend.timing = true → s.fend.lost = false → objN s 0x3A30 1 ≠ 1 → exec .heartbeatTimeout s = .next (hostLost s)) ∧
  (∀ (s : State), hostHw s = true → s.hend.timing = true → s.hend.lost = false → exec .fieldHeartbeatTimeout s = .next (fieldLost s)) ∧
  (∀ (s : State), fieldUp s = true → hostHw s = true → (s.fend.awaiting = true → s.fend.lost = false → exec (.partnerBootTimeout .field) s =
        .next (hostLost (if objN s 0x3A30 1 = 1 then putN s 0x3A30 1 2 else s))) ∧
      (s.hend.awaiting = true → s.hend.lost = false → exec (.partnerBootTimeout .host) s = .next (fieldLost s))) ∧
  (∀ (s : State), fieldUp s = true → exec .fieldFirmwareHalt s = .next (firmwareHalt s)) ∧
  (∀ (s : State), fieldHw s = true → exec .lockstepMismatch s = .next (firmwareHalt (stoAll { s with saf := { s.saf with halted := true } }))) ∧
  (∀ (s : State), fieldHw s = true → watchdogOver s = true → exec .tripWatchdogExpiry s = .next (stoAll (stoRecord { s with saf := { s.saf with wdSto := true } } 4))) ∧
  (∀ (a : BitVec 64) (s : State), fieldHw s = true → exec (.fieldSramUncorrectable a) s = .next (if fieldUp (stoAll s) then
        logField (putN (stoAll s) 0x3440 2 3) (mkRec 8 3 ([Config.memoryCode 0] ++ leBytes 8 a.toNat) (reaction := 5)) else stoAll s)) ∧
  (∀ (r : FaultRec) (t : List FaultRec) (s : State), fieldUp s = true → s.saf.unwritten = r :: t → exec (.faultLogFlashWrite true) s = .next (errorBit { s with saf := { s.saf with unwritten := t, flash := (s.saf.flash ++ [r]).drop ((s.saf.flash ++ [r]).length - 16384) } } 7 false) ∧
      exec (.faultLogFlashWrite false) s = .next (errorBit s 7 true)) ∧
  (∀ (s : State), (s.fboot.store.debugLock = false → exec (.debuggerAccess .field) s = .next { s with fboot := { s.fboot with debugOk := true } }) ∧
      (s.hboot.store.debugLock = false → exec (.debuggerAccess .host) s = .next { s with hboot := { s.hboot with debugOk := true } }))

/-- Commands of the position unit complete with their effect: each clause names the state a command leaves. (02_line_position) -/
def Obligations.PositionRowsComplete : Prop :=
  (∀ (a b : Bool) (m n : Nat) (s : State), fieldHw s = true → objN s 0x2201 1 = 0 → objN s 0x2201 2 ≤ m → objN s 0x2201 2 ≤ n → (a ≠ s.pos.lvlA → b = s.pos.lvlB → exec (.lineEncoderEdge a b m n) s = .next (countEdge { s with pos := { s.pos with lvlA := a, lvlB := b } } (a != b))) ∧
      (a = s.pos.lvlA → b ≠ s.pos.lvlB → exec (.lineEncoderEdge a b m n) s = .next (countEdge { s with pos := { s.pos with lvlA := a, lvlB := b } } (a == b))) ∧
      (a ≠ s.pos.lvlA → b ≠ s.pos.lvlB → exec (.lineEncoderEdge a b m n) s = .next (quadratureError { s with pos := { s.pos with lvlA := a, lvlB := b } })) ∧
      (a = s.pos.lvlA → b = s.pos.lvlB → exec (.lineEncoderEdge a b m n) s = .next s)) ∧
  (∀ (f : Frame) (t s : State), takeIn s .host (isPush 0x2250 0x2257) = some (f, t) → hostHw s = true → exec .hostEntryPush s = .next (installEntry t ((fieldN f.payload 0 2 - 0x2250) * 16 + fieldN f.payload 2 1 - 1) f.tag (BitVec.ofNat 128 (fieldN f.payload 8 16)))) ∧
  (∀ (s : State), fieldHw s = true → hostHw s = true → s.link.tallyLock = true → exec .fractionTick s = .next (replicaFraction (fieldFraction s))) ∧
  (∀ (pin : OutPin) (p : Pulse) (s : State), s.pulses.find? (fun q => decide (q.pin = pin) && q.endAt.isNone && decide (q.left = 0)) = some p → exec (.pulseUsEnd pin) s = .next (pulseEnd s p)) ∧
  (∀ (s : State), s.pos.mode = .measured ∨ s.pos.mode = .rejoined → exec .standstillTimeout s = .next ({ s with pos := { s.pos with v := 0, a := 0, edges := [] } })) ∧
  (∀ (b : Byte) (s : State), hostHw s = true → s.link.tallyLock = true → b.getLsbD 7 = true → exec (.replicaEdgeApply b) s = .next (replicaMove { s with pos := { s.pos with edgeSymbols := s.pos.edgeSymbols.erase b } } (!b.getLsbD 6))) ∧
  (∀ (r : Option (List Byte)) (f : TallyFrame) (s : State), hostHw s = true → s.link.tallyLock = true → frameRead (r.getD (frameSent s)) = some f → exec (.stateFrame r) s = .next (stateFrameGood s f)) ∧
  (∀ (s : State), hostHw s = true → exec .stateFrameTimeout s = .next (holdAll { s with replica := { s.replica with held := true, validRun := 0 } } .host)) ∧
  (∀ (s : State), fieldUp s = true → follower s = true → s.pos.sample0 = none → exec .followerSample s = .next (followTake s (objI s 0x2260 4) (objN s 0x2260 5))) ∧
  (∀ (s : State), fieldHw s = true → s.pos.mode = .following → followFwd s = true → 0 ≤ wrapRat (followLine s - (((s.pos.count + 1) * 256 : Int) : Rat)) → exec .followerSyntheticEdge s = .next (moveOne { s with pos := { s.pos with edgeTime := s.fclk.time, synth := 0 } } true true)) ∧
  (∀ (s : State), fieldHw s = true → follower s = true → exec .followerSampleTimeout s = .next (encoderLoss { s with pos := { s.pos with sampleLost := true, sampleRun := 0 } })) ∧
  (∀ (s : State), fieldHw s = true → follower s = false → exec .lineBreak s = .next (encoderLoss (bump { s with pos := { s.pos with broken := true } } 0x2203 2))) ∧
  (∀ (s : State), fieldHw s = true → follower s = false → s.pos.encOk = false → exec .encoderValid s = .next (encoderReturn { s with pos := { s.pos with broken := false } })) ∧
  (∀ (s : State), fieldHw s = true → s.pos.mode = .estimated → s.pos.v ≠ 0 → exec .estimatedSyntheticEdge s = .next (estimateEdge s)) ∧
  (∀ (n : Nat) (s : State), fieldHw s = true → objN s 0x2201 2 ≤ n → exec (.indexMark n) s = .next (indexSeen s)) ∧
  (∀ (c : Int) (s : State), fieldUp s = true → s.saf.expectFrom = some c → objN s 0x3414 1 ≠ 0 → s.pos.mode ≠ .invalid → s.pos.reverse = false → ((objN s 0x3414 1 + objN s 0x3411 1 : Nat) : Int) < wrap48 (s.pos.count - c) → exec .expectationMiss s = .next (startReaction (bump { s with saf := { s.saf with expectFrom := some s.pos.count } } 0x3450 7)
      (reactionOf (objN (bump { s with saf := { s.saf with expectFrom := some s.pos.count } } 0x3450 7) 0x3414 2))
      (objN (bump { s with saf := { s.saf with expectFrom := some s.pos.count } } 0x3450 7) 0x3412 4) 10 (some 0xFF12)
      (ofSigned 32 (wrap48 (s.pos.count - c)))))

/-- Commands of the clocks, the SYNC and LATCH units and the time events complete with their effect: each clause names the state a command leaves. (03_network_time) -/
def Obligations.TimeRowsComplete : Prop :=
  (∀ (s : State), fieldClocks s = true → exec .fieldTimeTick s = .next (fieldTick s)) ∧
  (∀ (s : State), hostHw s = true → exec .hostPtpTick s = .next (hostTick (lanternTick s))) ∧
  (∀ (s : State), hostHw s = true → exec .replicaSymbolTick s = .next (replicaTick s)) ∧
  (∀ (r : BitVec 64) (s : State), fieldClocks s = true → exec (.driftFrame r) s = .next (driftFrame s r.toNat)) ∧
  (∀ (v : BitVec 64) (s : State), fieldClocks s = true → exec (.systemTimeOffsetWrite v) s = .next (offsetWrite s v.toNat)) ∧
  (∀ (q : Rat) (s : State), s.fclk.slew = some q → rabs q < 1 → exec .slewEnd s = .next { s with fclk := { s.fclk with slew := none, fresh := true } }) ∧
  (∀ (m : PtpSync) (s : State), hostHw s = true → m.selected = true → exec (.ptpSyncMessage m) s = .next (ptpSync { s with hclk := { s.hclk with port := m.port.val } } (ptpOffset s m) m.interval)) ∧
  (∀ (s : State), fieldHw s = true → hostHw s = true → exec (.clockLossTimeout .field) s = .next (fieldClockLoss s) ∧ exec (.clockLossTimeout .host) s = .next (hostClockLoss s)) ∧
  (∀ (s : State), fieldHw s = true → s.fclk.mode = .holdover → s.fclk.holdRun = true → exec (.holdoverLimitExpiry .field) s = .next (setFclk s { s.fclk with mode := .freeRun, holdRun := false })) ∧
  (∀ (s : State), (s.sync.left0 = 0 → exec (.syncPulseEnd 0) s = .next { s with sync := { s.sync with sync0 := false } }) ∧
      (s.sync.left1 = 0 → exec (.syncPulseEnd 1) s = .next { s with sync := { s.sync with sync1 := false } })) ∧
  (∀ (g : Nat) (s : State), fieldHw s = true → s.sync.next0 = some g → g ≤ s.fclk.time → objB s 0x2260 1 = false → exec .sync0Edge s = .next (syncRephase { s with sync := { s.sync with sync0 := true, left0 := syncPulse s, next0 := if busReg s 0x09A0 = 0 then none else some (g + busReg s 0x09A0) } }
        0 g (busReg s 0x09A0))) ∧
  (∀ (g : Nat) (s : State), fieldHw s = true → s.sync.next1 = some g → g ≤ s.fclk.time → exec .sync1Edge s = .next (syncRephase { s with sync := { s.sync with sync1 := true, left1 := syncPulse s, next1 := if sync1Period s = 0 then none else some (g + sync1Period s) } }
        1 g (sync1Period s))) ∧
  (∀ (i : Fin 2) (r : Bool) (s : State), fieldHw s = true → exec (.latchEdge i r) s = .next (putI (setBusReg s (0x09B0 + 8 * (2 * i.val + (if r then 0 else 1))) s.fclk.time) 0x2241 (2 * i.val + (if r then 0 else 1) + 1) (linePos s))) ∧
  (∀ (s : State), (fieldClocks s = true → s.fclk.ppsNext ≤ s.fclk.time → exec (.ppsSecond .field) s =
        .next { s with fclk := { s.fclk with pps := true, ppsLeft := max s.fclk.ppsLeft (ppsWidth s.fclk.mode), ppsNext := wholeSecond (s.fclk.time + 1) } }) ∧
      (hostHw s = true → s.hclk.ppsNext ≤ s.hclk.time → exec (.ppsSecond .host) s =
        .next { s with hclk := { s.hclk with pps := true, ppsLeft := max s.hclk.ppsLeft (ppsWidth s.hclk.mode), ppsNext := wholeSecond (s.hclk.time + 1) } })) ∧
  (∀ (s : State), (s.fclk.ppsLeft = 0 → exec (.ppsPulseEnd .field) s = .next { s with fclk := { s.fclk with pps := false } }) ∧
      (s.hclk.ppsLeft = 0 → exec (.ppsPulseEnd .host) s = .next { s with hclk := { s.hclk with pps := false } })) ∧
  (∀ (n : Fin 64) (s : State), fieldHw s = true → tArmed (timeEntry s n.val) = true → 0 ≤ timePast s (timeEntry s n.val) → exec (.timeEventFire n) s = .next (timeFire s n.val false)) ∧
  (∀ (s : State), hostHw s = true → exec .ethernetLinkLoss s = .next (hostClockLoss s))

/-- Rope link, frame and heartbeat commands complete with their effect: each clause names the state a command leaves. (04_rope_link) -/
def Obligations.RopeRowsComplete : Prop :=
  (∀ (d : Die) (s : State), ropeUp s = true → exec (.ropeFrameTransmit d) s = .next (transmit s d)) ∧
  (∀ (d : Die) (r : Arrival) (s : State), ropeUp s = true → exec (.ropeFrameReceive d r) s = .next (portResponses (frameIn s d r))) ∧
  (∀ (d : Die) (f : Frame) (t s : State), ropeUp s = true → takeControl s d 1 = some (f, t) → exec (.linkFrame d) s = .next (linkIn t d f)) ∧
  (∀ (d : Die) (s : State), ropeUp s = true → 0 < (ropeEnd s d).goodRun → exec (.ackDue d) s = .next (queueLink s d false)) ∧
  (∀ (d : Die) (f : Frame) (t s : State), takeIn s d (fun g => !ownCommand s d g) = some (f, t) → exec (.creditReturn d) s = .next t) ∧
  (∀ (d : Die) (s : State), ropeUp s = true → exec (.replayTimeout d) s = .next (replay s d)) ∧
  (∀ (p : Fin 4) (s : State), s.link.mode ≠ .down → s.link.healthy.getLsbD p.val = true → exec (.pairFault p) s = .next (pairsFault s (BitVec.twoPow 4 p.val) false)) ∧
  (∀ (w : BitVec 3) (m : Option (BitVec 4)) (f : Frame) (t s : State), hostHw s = true → s.link.mode = .up → takeControl s .field 2 = some (f, t) → exec (.retrainReqFrame w m false) s = .next (retrainAsked t (2 + 256 * retrainHigh w m)) ∧
      exec (.retrainReqFrame w m true) s = .next (supersede t)) ∧
  (∀ (p : Fin 4) (s : State), s.link.mode = .training → exec (.retrainPairFail p) s = .next (retrainFail { s with link := { s.link with healthy := s.link.healthy &&& ~~~(BitVec.twoPow 4 p.val) } })) ∧
  (∀ (p : BitVec 4) (s : State), fieldHw s = true → hostHw s = true → s.link.mode = .down → p ≠ 0 → objN s 0x3A30 1 ≠ 1 ∨ s.link.beacon = true → exec (.trainingAttempt p) s = .next ({ s with link := { s.link with mode := .training, healthy := p, want := 4, attempts := 1, retest := true, afresh := true } })) ∧
  (∀ (p : BitVec 4) (d : BitVec 16) (s : State), fieldHw s = true → hostUp s = true ∨ s.hboot.mode = .recovery → s.link.mode ≠ .up → exec (.linkUp p d) s = .next (linkTrained s p d.toNat)) ∧
  (∀ (d : BitVec 16) (s : State), fieldHw s = true → hostHw s = true → exec (.tallyLockAcquired d) s = .next ({ s with link := { s.link with tallyLock := true, tallyDelay := d.toNat } })) ∧
  (∀ (s : State), s.link.tallyLock = true → exec .tallyLockLoss s = .next (tallyLost s)) ∧
  (∀ (s : State), fieldHw s = true → s.link.mode ≠ .down → exec .fieldHeartbeatSend s = .next (ropeSend s .field (mkFrame 0 0 0 (fieldHeartbeat s)))) ∧
  (∀ (s : State), hostHw s = true → s.link.mode ≠ .down → ∃ t, t = { s with hclk := { s.hclk with pairSeq := (s.hclk.pairSeq + 1) % 65536, pairMarks := (((s.hclk.pairSeq + 1) % 65536, s.hclk.steps, s.trep.steps) :: s.hclk.pairMarks).take 64 } } ∧
      exec .hostHeartbeatSend s = .next (ropeSend t .host (mkFrame 0 0 0 (hostHeartbeat t)))) ∧
  (∀ (f : Frame) (t s : State), takeIn s .field isHeartbeat = some (f, t) → fieldHw s = true → exec .hostHeartbeatReceive s = .next (hostBeat t (hostHbOf f.payload))) ∧
  (∀ (f : Frame) (t s : State), takeIn s .host isHeartbeat = some (f, t) → hostHw s = true → exec .fieldHeartbeatReceive s = .next (replicaHeartbeat { t with hend := { t.hend with timing := true, lost := false, awaiting := false }, hclk := { t.hclk with pairAck := (fieldHbOf f.payload).pairAck.toNat } } (fieldHbOf f.payload) f.arrived)) ∧
  (∀ (s : State), reportsCross s = true → 0 < s.replica.loads → exec .loadReport s = .next (bump { s with replica := { s.replica with loads := s.replica.loads - 1 } } 0x2203 3)) ∧
  (∀ (f : Frame) (t s : State), takeIn s .host (isPush 0x2280 0x2280) = some (f, t) → hostHw s = true → exec .hostPairPush s = .next
        (let u := hostStep t (ofSigned 64 ((fieldN f.payload 16 8 : Int) + fieldN f.payload 24 8 - fieldN f.payload 8 8)) 3
        setHclk u { u.hclk with mode := .holdover, holdNs := 0, holdRun := true })) ∧
  (∀ (f : Frame) (t s : State), takeIn s .host (isPush 0x2281 0x2281) = some (f, t) → hostHw s = true → exec .ptpConfigPush s = .next { t with hclk := { t.hclk with cfg := tset (dfltOf 0x2281 (fieldN f.payload 2 1)) t.hclk.cfg (fieldN f.payload 2 1) (f.payload.drop 8) } }) ∧
  (∀ (n p : Nat) (e : BitVec 128) (l : List (Nat × Nat × BitVec 128)) (s : State), s.replica.fires = (n, p, e) :: l → reportsCross s = true → exec .fireReport s = .next (if p = tget 0 s.hostPush n % 65536 then { s with replica := { s.replica with fires := l }, hMaster := tset 0 s.hMaster n e }
        else { s with replica := { s.replica with fires := l } }))

/-- Object dictionary and mailbox commands complete with their effect: each clause names the state a command leaves. (05_object_dictionary, 07_fieldbus) -/
def Obligations.DictionaryRowsComplete : Prop :=
  (∀ (q : DictReq) (t s : State), takeRequest s 3 [3, 6] = some (t, q) → safeObj q.index q.sub = false → (q.last = false → exec .postedWriteReceive s = .next (segmentIn t q)) ∧
      (q.last = true → ∀ u c, writeAny (segmentIn t q) .port .nobody q.index q.sub q.complete (segmentsOf t q ++ q.data) = (u, some c) →
        exec .postedWriteReceive s = .next (if c = 0 then u else lateReject u q.tag q.index q.sub c))) ∧
  (∀ (c : Fin 8) (q : DictReq) (t s : State), takeRequest s c.val [2, 5] = some (t, q) → (q.last = false → (fieldOwned q.index && (row? q.index q.sub).isSome) = true →
        exec (.confirmedWriteReceive c) s = .next (fieldResponse (segmentIn t q) q.cls q.tag q.index q.sub q.op 0 [])) ∧
      (q.last = true → exec (.confirmedWriteReceive c) s =
        .next (settle (writeAny (segmentIn t q) .port (.frame q.cls q.tag) q.index q.sub q.complete (segmentsOf t q ++ q.data)) (.frame q.cls q.tag) q.index q.sub))) ∧
  (∀ (q : DictReq) (t s : State), takeRequest s 3 [1, 4] = some (t, q) → fieldOwned q.index = true → (readAny t q.index q.sub q.complete).2.length ≤ 248 → exec .readRequestReceive s = .next (fieldResponse t 3 q.tag q.index q.sub 1 (readAny t q.index q.sub q.complete).1 (readAny t q.index q.sub q.complete).2)) ∧
  (∀ (i : BitVec 16) (k : Byte) (d : List Byte) (s : State), coeUp s = true → fieldOwned i.toNat = true → (writeAny (endTransfer s) .master .master i.toNat k.toNat false d).2 = some 0 → exec (.sdoDownload i k false d.length d) s = .next (sdoAnswer (writeAny (endTransfer s) .master .master i.toNat k.toNat false d).1 i.toNat k.toNat 0 [])) ∧
  (∀ (i : BitVec 16) (k : Byte) (c : Bool) (s : State), coeUp s = true → fieldOwned i.toNat = true → (readAny (endTransfer s) i.toNat k.toNat c).1 = 0 → exec (.sdoUpload i k c) s = .next (uploadAnswer (endTransfer s) i.toNat k.toNat c (readAny (endTransfer s) i.toNat k.toNat c).2)) ∧
  (∀ (t : SdoTransfer) (d : List Byte) (s : State), coeUp s = true → s.bus.transfer = some t → t.upload = false → fieldOwned t.index = true → (t.data ++ d).length ≤ t.total → exec (.sdoDownloadSegment t.toggle false d) s =
        .next (sdoAnswer { s with bus := { s.bus with transfer := some { t with toggle := !t.toggle, data := t.data ++ d } } } t.index t.sub 0 [])) ∧
  (∀ (t : SdoTransfer) (s : State), coeUp s = true → s.bus.transfer = some t → t.upload = true → exec (.sdoUploadSegment t.toggle) s =
        .next (sdoAnswer { s with bus := { s.bus with transfer := if (t.data.drop (sdoSegRoom s)).isEmpty then none else some { t with toggle := !t.toggle, data := t.data.drop (sdoSegRoom s) } } }
          t.index t.sub 0 (t.data.take (sdoSegRoom s)))) ∧
  (∀ (b : Byte) (t : SdoTransfer) (s : State), coeUp s = true → s.bus.transfer = some t → exec (.sdoUnknownSpecifier b) s = .next (sdoAnswer (endTransfer s) t.index t.sub 0x05040001 [])) ∧
  (∀ (s : State), coeUp s = true → exec .sdoInfoOdList s = .next (if hostAnswers s then forwardSend s 0 0 0 false [] true false true else sdoAnswer s 0 0 0 odList)) ∧
  (∀ (i : BitVec 16) (s : State), coeUp s = true → fieldOwned i.toNat = true → rowsField.any (fun r => r.hasIndex i.toNat) = true → exec (.sdoInfoObjectDescription i) s = .next (sdoAnswer (drawn s) i.toNat 0 0 (objectDescription s i.toNat))) ∧
  (∀ (i : BitVec 16) (k : Byte) (r : Row) (s : State), coeUp s = true → fieldOwned i.toNat = true → row? i.toNat k.toNat = some r → exec (.sdoInfoEntryDescription i k) s = .next (sdoAnswer s i.toNat k.toNat 0 (entryDescription r i.toNat k.toNat))) ∧
  (∀ (p : Byte) (s : State), fieldUp s = true → s.bus.al ≠ .init → p ≠ 3 → p ≠ 4 → exec (.mailboxUnsupported p) s = .next ({ s with bus := { s.bus with mbxErrors := 2 :: s.bus.mbxErrors } })) ∧
  (∀ (r : Frame) (f : Forward) (t s : State), takeIn s .field isForwardAnswer = some (r, t) → fieldUp s = true → t.bus.forwards.find? (fun g => g.tag == r.tag) = some f → exec .forwardAnswerArrival s = .next (forwardDone t f (fieldN r.payload 4 4) (f.got ++ r.payload.drop 8) r.last)) ∧
  (∀ (f : Frame) (d : List Byte) (n : Nat) (l : List Nat) (t s : State), takeIn s .host isForward = some (f, t) → hostUp s = true → portRunning s = true → d2hFree s = true → forwardSofar t f = some d → freeSlots t = n :: l → exec .forwardedRequestArrival s = .next (forwardIn { t with fwdValue := if (forwardReq f d.length).segment && !(forwardReq f d.length).last then some ((f.tag + 1) % 0x8000, some (d ++ (forwardReq f d.length).data)) else none } n f.tag (forwardReq f d.length) (d ++ (forwardReq f d.length).data) none)) ∧
  (∀ (t : BitVec 16) (f : Forward) (s : State), fieldUp s = true → s.bus.forwards.find? (fun g => g.tag == t.toNat) = some f → exec (.forwardTimeout t) s = .next (sdoAnswer (forwardEnd s f 0x08000022) f.index f.sub 0x08000022 [])) ∧
  (∀ (f : Frame) (t s : State), takeIn s .host (fun f => f.cls == 2 && !isFaultRecord f) = some (f, t) → hostUp s = true → exec .class2RecordReceive s = .next (portRecord t f.payload)) ∧
  (∀ (f : Frame) (t s : State), hostUp s = true → fieldUp s = true → (takeIn s .host isFaultRecord = some (f, t) → exec (.faultLogRecordReceive .host) s = .next (hostRecord t (recOf (f.payload.drop 4)))) ∧
      (takeIn s .field isFaultRecord = some (f, t) → exec (.faultLogRecordReceive .field) s = .next (fieldRecord t (recOf (f.payload.drop 4))))) ∧
  (∀ (s : State), fieldUp s = true → hostUp s = true → crosses s 3 = true → exec .aliasPush s = .next ({ s with bus := { s.bus with station := s.hboot.store.station } })) ∧
  (∀ (f : Frame) (t s : State), takeIn s .field isSStatus = some (f, t) → fieldUp s = true → exec .sStatusMessage s = .next (takeSStatus t f.payload))

/-- Dictionary port commands complete with their effect: each clause names the state a command leaves. (05_object_dictionary) -/
def Obligations.PortRowsComplete : Prop :=
  (∀ (e : H2d) (t s : State), portRequest s 1 = some (t, e) → exec .portRead s = .next (portReadOf t e)) ∧
  (∀ (e : H2d) (t s : State), portRequest s 2 = some (t, e) → (portData t e).2.1 = 0 → exec .portConfirmedWrite s = .next (portWriteOf (portData t e).1 e (portData t e).2.2)) ∧
  (∀ (e : H2d) (t s : State), portRequest s 3 = some (t, e) → (portData t e).2.1 = 0 → exec .portPostedWrite s = .next (portPostOf (portData t e).1 e (portData t e).2.2)) ∧
  (∀ (e : H2d) (t s : State), portRequest s 5 = some (t, e) → (portData t e).2.1 = 0 → exec .portWriteSegment s = .next (portSegment (portData t e).1 e (portData t e).2.2)) ∧
  (∀ (e : H2d) (t s : State), portRequest s 4 = some (t, e) → exec .portReadSegment s = .next (portReadOf t e)) ∧
  (∀ (e : H2d) (t s : State), h2dNext s = some (t, e) → e.type ≠ 2 → e.type ≠ 1 ∨ e.op = 0 ∨ 5 < e.op → d2hFree s = true → exec .portUnknownEntry s = .next (portEnd t e 0x05040001)) ∧
  (∀ (e : H2d) (x : HostSlot) (t s : State), h2dNext s = some (t, e) → e.type = 2 → t.hostSlots.find? (fun y => y.tag == e.tag) = some x → e.abort = 0 → writeOp x.req.op.toNat = false → (portData t e).2.1 = 0 → exec .portForwardAnswer s = .next (forwardAnswered (portData t e).1 x 0 (portData t e).2.2))

/-- Staged-set commands complete with their effect: each clause names the state a command leaves. (06_staged_change) -/
def Obligations.StagingRowsComplete : Prop :=
  (∀ (r : Source) (n : Fin 4) (s : State), sourceUp s r = true → (stg s n.val).mode.closed = true → exec (.stageOpen r n) s = .next (answerWrite (setStg s n.val { mode := .opened, owner := some r, shadow := (stg s n.val).shadow, exchange := (stg s n.val).exchange }) (askerOf r) (0x2110 + n.val) 1 0)) ∧
  (∀ (r : Source) (n : Fin 4) (d : List Byte) (s : State), sourceUp s r = true → (stageAppend s r n.val d).2 = 0 → exec (.stageAppend r n d) s = .next (answerWrite (stageAppend s r n.val d).1 (askerOf r) (0x2110 + n.val) 6 0)) ∧
  (∀ (r : Source) (n : Fin 4) (s : State), sourceUp s r = true → (stg s n.val).mode = .opened → owns (stg s n.val) r = true → exec (.stageCheck r n) s = .next (checkSet (setStg s n.val { stg s n.val with mode := .checking, waiter := askerOf r, waitOn := (0x2110 + n.val, 1) }) n.val)) ∧
  (∀ (r : Source) (n : Fin 4) (s : State), sourceUp s r = true → (stg s n.val).mode = .checked → owns (stg s n.val) r = true → exec (.stageArm r n) s = .next (armSet (setStg s n.val { stg s n.val with waiter := askerOf r, waitOn := (0x2110 + n.val, 1) }) n.val (objN s (0x2110 + n.val) 7) (objI s (0x2110 + n.val) 8))) ∧
  (∀ (r : Source) (n : Fin 4) (b : Bool) (s : State), sourceUp s r = true → (stageCancel s r n.val b).2 = 0 → exec (.stageCancel r n b) s = .next (answerWrite (stageCancel s r n.val b).1 (askerOf r) (0x2110 + n.val) 1 0)) ∧
  (∀ (s : State), coeUp s = true → (rollbackWrite s .master (0x2100, 3)).2 = none → exec (.rollback 1) s = .next (rollbackWrite s .master (0x2100, 3)).1) ∧
  (∀ (n : Fin 4) (f : Frame) (t s : State), takeIn s .host (isStage s 1 n.val) = some (f, t) → hostUp s = true → (stg t n.val).mode = .checking → (judgeHostPart t n.val = none → exec (.stagingPrepare n) s =
        .next (stageFrame (setStg t n.val { stg t n.val with hostReserved := true }) .host 2 2 n.val (leBytes 1 1 ++ leBytes 1 0 ++ leBytes 2 0xFFFF))) ∧
      (∀ r k, judgeHostPart t n.val = some (r, k) → exec (.stagingPrepare n) s =
        .next (stageFrame t .host 2 2 n.val (leBytes 1 0 ++ leBytes 1 r ++ leBytes 2 k)))) ∧
  (∀ (n : Fin 4) (f : Frame) (t s : State), takeIn s .field (isStage s 2 n.val) = some (f, t) → fieldUp s = true → (stg t n.val).mode = .checking → exec (.hostVote n) s = .next (if fieldN f.payload 2 1 = 1 then becomeChecked t n.val else failSet t n.val (fieldN f.payload 3 1) (fieldN f.payload 4 2) 1)) ∧
  (∀ (n : Fin 4) (s : State), fieldUp s = true → (stg s n.val).mode = .checking → (stg s n.val).hasHostPart = true → exec (.hostVoteTimeout n) s = .next (failSet s n.val 0x0C 0xFFFF 0)) ∧
  (∀ (n : Fin 4) (f : Frame) (i : Instant) (t s : State), takeIn s .host (isStage s 3 n.val) = some (f, t) → hostUp s = true → (stg t n.val).instant = some i → (stg t n.val).mode = .arming → exec (.stagingArmMessage n) s = .next (stageFrame (setStg t n.val { stg t n.val with shadow := some ((stg t n.val).entries.filter hostEntry, i), hostDue := (match i with | .position p => instantBehind t .host p | .time _ => false) }) .host 2 4 n.val)) ∧
  (∀ (n : Fin 4) (f : Frame) (i : Instant) (t s : State), takeIn s .field (isStage s 4 n.val) = some (f, t) → fieldUp s = true → (stg t n.val).instant = some i → (stg t n.val).mode = .arming → exec (.hostArmConfirm n) s = .next (becomeArmed t n.val i)) ∧
  (∀ (n : Fin 4) (s : State), fieldUp s = true → (stg s n.val).mode = .arming → exec (.armConfirmTimeout n) s = .next (setAnswer (setStg s n.val { stg s n.val with mode := .checked, rule := 0x0C, instant := none, shadow := none }) n.val 0x08000022)) ∧
  (∀ (n : Fin 4) (s : State), fieldHw s = true → ∃ u, u = (List.range n.val).foldl (fun s k => if (stg s k).instant = (stg s n.val).instant then applyDue s k else s) s ∧ exec (.applyInstant n) s = .next (applyDue u n.val) ∧
      (∀ t, (stg u n.val).mode = .armed → (stg u n.val).instant = some (.time t) → t ≤ u.fclk.time →
        applyDue u n.val = applySet u n.val (match u.fclk.lastStepAt with | some v => decide (t < v) | none => false)) ∧
      (∀ p l, (stg u n.val).mode = .armed → (stg u n.val).instant = some (.position p) → (stg u n.val).due = some l → u.pos.mode ≠ .invalid →
        applyDue u n.val = applySet u n.val l)) ∧
  (∀ (n : Fin 4) (e : List (Nat × Nat × List Byte)) (t : Instant) (s : State), hostUp s = true → (stg s n.val).shadow = some (e, t) → (stg s n.val).mode ≠ .arming → replicaReached s (stg s n.val).hostDue t = true → exec (.hostApply n) s = .next (hostApplySet s n.val false)) ∧
  (∀ (n : Fin 4) (f : Frame) (e : List (Nat × Nat × List Byte)) (i : Instant) (t s : State), takeIn s .host (isStage s 5 n.val) = some (f, t) → hostUp s = true → (stg t n.val).mode = .applied → (stg t n.val).shadow = some (e, i) → replicaBlind t i = true → exec (.applyConfirmation n) s = .next (hostApplySet t n.val true)) ∧
  (∀ (n : Fin 4) (p : Int) (s : State), fieldUp s = true → (stg s n.val).mode = .armed → (stg s n.val).instant = some (.position p) → s.pos.mode = .invalid → exec (.instantHoldTimeout n) s = .next (failSet s n.val 0x0E 0xFFFF 0))

/-- Fieldbus commands complete with their effect: each clause names the state a command leaves. (07_fieldbus) -/
def Obligations.FieldbusRowsComplete : Prop :=
  (∀ (d : List Byte) (s : State), fieldUp s = true → s.bus.al = .op → d.length = mappedBytes (mapped s true) → exec (.sm2BufferComplete d) s = .next ({ (withOffsets 0 (mapped s true)).foldl (fun s e => outputValue s (leNat d) e) s with
        bus := { ((withOffsets 0 (mapped s true)).foldl (fun s e => outputValue s (leNat d) e) s).bus with sm2 := d, sm2Seen := true, sm2Fresh := true } })) ∧
  (∀ (s : State), fieldUp s = true → s.bus.al = .op → exec .sm2WatchdogExpiry s = .next (setAl s .safeop 0x001B true (leaveReaction s))) ∧
  (∀ (s : State), fieldUp s = true → (cycleStarts s).2 = true → exec .controlCycleStart s = .next (cycleWork (cycleStarts s).1)) ∧
  (∀ (p : Fin 2) (s : State), fieldHw s = true → portLink s p = true → ∃ t, t = { s with bus := { s.bus with answer := (linePos s, s.fclk.time, BitVec.ofNat 8 (posByte s), BitVec.ofNat 8 (linkSummary s)) } } ∧
      exec (.frameStartDelimiter p) s = .next { t with bus := { t.bus with frameIn := if s.bus.al = .safeop ∨ s.bus.al = .op then frameInputs t else [] } }) ∧
  (∀ (p : Fin 2) (b : Bool) (s : State), ∃ t, t = (if p = 0 then { s with bus := { s.bus with port0 := b } } else { s with bus := { s.bus with port1 := b } }) ∧
      exec (.fieldbusPortLinkChange p b) s = .next (if fieldHw s && (s.bus.port0 || s.bus.port1) && !(t.bus.port0 || t.bus.port1) then fieldClockLoss t else t)) ∧
  (∀ (s : State), slaveUp s = true → alCode s .preop = 0 → exec .alRequestPreop s = .next (setAl s .preop 0 false (leaveReaction s))) ∧
  (∀ (s : State), slaveUp s = true → alCode s .safeop = 0 → exec .alRequestSafeop s = .next (setAl s .safeop 0 false (leaveReaction s))) ∧
  (∀ (s : State), slaveUp s = true → alCode s .op = 0 → exec .alRequestOp s = .next (setAl s .op 0 false (leaveReaction s))) ∧
  (∀ (s : State), slaveUp s = true → alCode s .boot = 0 → exec .alRequestBoot s = .next (setAl s .boot 0 false (leaveReaction s))) ∧
  (∀ (s : State), slaveUp s = true → alCode s .init = 0 → s.bus.ikfDone = false → exec .alRequestInit s = .next (setAl s .init 0 false (leaveReaction s))) ∧
  (∀ (r : BitVec 16) (v : BitVec 64) (s : State), fieldHw s = true → readOnlyReg r.toNat = false → r.toNat ≠ 0x0010 → r.toNat ≠ 0x0920 → (r.toNat ≠ 0x0981 → r.toNat ≠ 0x0990 → r.toNat ≠ 0x09A0 → r.toNat ≠ 0x09A4 →
        exec (.syncConfigWrite r v) s = .next (setBusReg s r.toNat (v.toNat % 256 ^ regSize r.toNat))) ∧
      (r.toNat = 0x0981 ∨ r.toNat = 0x0990 ∨ r.toNat = 0x09A0 ∨ r.toNat = 0x09A4 →
        exec (.syncConfigWrite r v) s = .next (syncFault (syncPlan (setBusReg s r.toNat (v.toNat % 256 ^ regSize r.toNat)))))) ∧
  (∀ (f : Frame) (t s : State), takeIn s .field isMirror = some (f, t) → fieldUp s = true → exec .mirrorMessage s = .next (takeMirror t (mirrorOf f.payload))) ∧
  (∀ (f : Frame) (t s : State), takeIn s .field (fun f => f.cls == 5) = some (f, t) → fieldUp s = true → exec .class5Result s = .next (placeResult (ageCount t (mirrorOf f.payload)) { mirrorOf f.payload with mtype := 0 } (decide (ageCause t (mirrorOf f.payload) ≠ 0)) false)) ∧
  (∀ (a : BitVec 16) (c : Byte) (o : BitVec 16) (f : List Byte) (s : State), fieldUp s = true → a ≠ 0 → objN s 0x1E40 1 = a.toNat → c.toNat ≤ 4 → ∃ u, u = putN (putObj s 0x1E41 1 (fitTo 7 f)) 0x1E40 3 c.toNat ∧
      exec (.safetyFrame a c o f) s = .next (inputFrame (applySafe { u with bus := { u.bus with safeOut := if c = 4 then o else 0 } }))) ∧
  (∀ (s : State), fieldUp s = true → objN s 0x1E40 3 = 4 → ∃ u v, u = putN { s with bus := { s.bus with safeOut := 0 } } 0x1E40 3 0 ∧ v = emcy (putN u 0x3440 2 7) 0xFF09 0xFF 0 ∧
      exec .safetyWatchdogExpiry s = .next (inputFrame (applySafe (logField v (mkRec 7 7 (leBytes 1 (enabledMask s) ++ leBytes 1 5 ++ leBytes 2 0xFF09) (reaction := 5)))))) ∧
  (∀ (v : BitVec 16) (s : State), slaveUp s = true → hostAnswers s = true → exec (.aliasWrite 4 v) s = .next { s with bus := { s.bus with station := v, eepromError := false }, hboot := { s.hboot with store := { s.hboot.store with station := v } } }) ∧
  (∀ (i : List Byte) (k : Bool) (s : State), foeUp s = true → s.bus.al = .boot → ∃ r, r = (if s.bus.romOnly then recoverSlot false s.fboot.store i k else install false s.fboot.store i k) ∧
      exec (.foeWriteIkf 0 i k) s = .next (foeAnswer { s with fboot := { s.fboot with store := r.1 }, bus := { s.bus with ikfDone := s.bus.ikfDone || decide (r.2 = 2) } } (foeStatus r.2))) ∧
  (∀ (i : List Byte) (k : Bool) (s : State), foeUp s = true → s.bus.al = .boot → s.bus.romOnly = false → crosses s 6 = true → hostUp s = true → exec (.foeWriteIkh 0 i k) s = .next (foeAnswer (putN { s with hboot := { s.hboot with store := (install true s.hboot.store i k).1 } } 0x2006 2 (install true s.hboot.store i k).2) (foeStatus (install true s.hboot.store i k).2))) ∧
  (∀ (n : Fin 4) (f : List Byte) (c : List (List Kernel)) (s : State), foeUp s = true → s.bus.al ≠ .boot → s.bus.romOnly = false → slotBound s n.val = false → armedNames s n.val = false → mayLoad s n.val = true → crosses s 6 = true → hostUp s = true → exec (.foeWriteIkm 0 n f c) s = .next (foeAnswer (slotLoad s n.val (bundleOf f c)) 0)) ∧
  (∀ (s : State), foeUp s = true → s.bus.romOnly = false → exec (.foeReadLog 0) s = .next (foeAnswer { s with bus := { s.bus with foeData := ((s.saf.flash ++ s.saf.unwritten).map faultBytes).flatten } } 0))

/-- Commands that write one object complete with the effect of the accepted write: each clause names the state a command leaves. (05_object_dictionary) -/
def Obligations.ObjectWriteRowsComplete : Prop :=
  (∀ (k : Byte) (v : BitVec 32) (s : State), Accepted s (0x1010) (k.toNat) (leBytes 4 v.toNat) → exec (.storeParameters k v) s = .next ((accepted s (0x1010) (k.toNat) (leBytes 4 v.toNat)))) ∧
  (∀ (k : Byte) (v : BitVec 32) (s : State), Accepted s (0x1011) (k.toNat) (leBytes 4 v.toNat) → exec (.restoreDefaults k v) s = .next ((accepted s (0x1011) (k.toNat) (leBytes 4 v.toNat)))) ∧
  (∀ (w : Byte) (b : Bool) (s : State), Accepted s 0x3A02 1 [w] → (b = false ∨ s.link.mode ≠ .training → exec (.retrainRequestWrite w b) s = .next (accepted s 0x3A02 1 [w])) ∧
      (s.link.mode = .training → writeAbort s 0x3A02 1 [w] = 0 → exec (.retrainRequestWrite w true) s =
        .next { accepted s 0x3A02 1 [w] with link := { (accepted s 0x3A02 1 [w]).link with kept := s.link.kept, after := some w.toNat } })) ∧
  (∀ (n : Fin 256) (c : BitVec 128) (s : State), Accepted s (0x2210 + n.val / 16) (n.val % 16 + 1) (leBytes 16 c.toNat) → exec (.positionEntryWrite false n c) s = .next (accepted s (0x2210 + n.val / 16) (n.val % 16 + 1) (leBytes 16 c.toNat))) ∧
  (∀ (t : BitVec 64) (s : State), Accepted s (0x2270) (1) (leBytes 8 t.toNat) → exec (.predictorQuery t) s = .next ((accepted s (0x2270) (1) (leBytes 8 t.toNat)))) ∧
  (∀ (v : BitVec 64) (s : State), Accepted s (0x2202) (1) (leBytes 8 v.toNat) → exec (.presetCounter v) s = .next ((accepted s (0x2202) (1) (leBytes 8 v.toNat)))) ∧
  (∀ (v : BitVec 64) (s : State), Accepted s (0x2202) (2) (leBytes 8 v.toNat) → exec (.reReference v) s = .next ((accepted s (0x2202) (2) (leBytes 8 v.toNat)))) ∧
  (∀ (v : Byte) (s : State), Accepted s (0x2222) (1) [v] → exec (.reacquireCommand v) s = .next ((accepted s (0x2222) (1) [v]))) ∧
  (∀ (v : Byte) (s : State), Accepted s (0x2221) (4) [v] → exec (.referenceRoleWrite v) s = .next ((accepted s (0x2221) (4) [v]))) ∧
  (∀ (t : BitVec 64) (s : State), Accepted s (0x2282) (3) (leBytes 8 t.toNat) → exec (.conversionQuery t) s = .next ((accepted s (0x2282) (3) (leBytes 8 t.toNat)))) ∧
  (∀ (n : Fin 64) (c : BitVec 128) (s : State), Accepted s (0x2230 + n.val / 16) (n.val % 16 + 1) (leBytes 16 c.toNat) → exec (.timeEntryWrite n c) s = .next ((accepted s (0x2230 + n.val / 16) (n.val % 16 + 1) (leBytes 16 c.toNat)))) ∧
  (∀ (a : Fin 8) (v : Byte) (s : State), Accepted s (axA a.val + 0x38) (3) [v] → exec (.adcSoftwareStart a v) s = .next ((accepted s (axA a.val + 0x38) (3) [v]))) ∧
  (∀ (a : Fin 8) (v : Byte) (s : State), Accepted s (axA a.val + 0x33) (8) [v] → exec (.clearLatches a v) s = .next ((accepted s (axA a.val + 0x33) (8) [v]))) ∧
  (∀ (a : Fin 8) (v : Byte) (s : State), Accepted s (axA a.val + 5) (5) [v] → exec (.axisCommandFlush a v) s = .next ((accepted s (axA a.val + 5) (5) [v]))) ∧
  (∀ (a : Fin 8) (v : Byte) (s : State), Accepted s (ciaI 0x6060 a.val) (0) [v] → exec (.modeOfOperationWrite a v) s = .next ((accepted s (ciaI 0x6060 a.val) (0) [v])))

/-- DRAM, fabric and register-bus commands complete with their effect: each clause names the state a command leaves. (08_host_memory) -/
def Obligations.FabricRowsComplete : Prop :=
  (∀ (w : Origin) (a : BitVec 40) (n : Nat) (s : State), hostHw s = true → n ≠ 0 → (engLoad (eccRead s (a.toNat / 64 * 64) .clean) w a.toNat n).2.2 = (true, true) → exec (.engineLoad w a n .clean) s = .next (let u := countLine (engLoad (eccRead s (a.toNat / 64 * 64) .clean) w a.toNat n).1 w.tag (linesOf a.toNat n).length
        { u with mem := { u.mem with loaded := (engLoad (eccRead s (a.toNat / 64 * 64) .clean) w a.toNat n).2.1 } })) ∧
  (∀ (w : Origin) (a : BitVec 40) (m : BitVec 64) (d : List Byte) (s : State), hostHw s = true → (postStore (signStore s w (a.toNat / 64 * 64) m.toNat d) w (a.toNat / 64 * 64) m.toNat d).2 = true → exec (.engineStore w a m d) s = .next ((postStore (signStore s w (a.toNat / 64 * 64) m.toNat d) w (a.toNat / 64 * 64) m.toNat d).1)) ∧
  (∀ (p : PendingStore) (t : List PendingStore) (e : EccResult) (s : State), hostHw s = true → s.mem.stores = p :: t → exec (.storeAccept e) s = .next (storeTaken (storeMerged { s with mem := { s.mem with stores := t } } p e) p.who)) ∧
  (∀ (k : Fin 8) (s : State), hostHw s = true → exec (.coreLateStoreFault k) s = .next (drawn (fabFault (rasRaise s k.val)
        (coreRec 1 k.val ((freeW (rasRaise s k.val)).toNat % 2 ^ 34 * 64) (Config.freeWord ((rasRaise s k.val).freeCtr + 1)).toNat)))) ∧
  (∀ (k : Fin 8) (a : BitVec 40) (n : Nat) (v : BitVec 64) (s : State), hostHw s = true → inMmio a.toNat = false → inPcie a.toNat = false → (linesOf a.toNat n).all (fun l => inDram s l) = true → (∀ b, exec (.registerWrite b k a n v) s = .next (dramWrite (coreOk s) a.toNat (leBytes n v.toNat)))) ∧
  (∀ (s : State), exec .bandwidthPeriod s = .next ({ s with mem := { s.mem with usedS := 0, usedD := 0, usedB := 0 } })) ∧
  (∀ (l : BitVec 40) (s : State), hostHw s = true → s.mem.ecc = true → s.mem.trained = true → s.mem.selfRefresh = false → exec (.patrolScrub l .corrected false) s = .next (eccRead s (l.toNat / 64 * 64) .corrected) ∧
      exec (.patrolScrub l .uncorrectable false) s = .next (eccRead s (l.toNat / 64 * 64) .uncorrectable) ∧
      exec (.patrolScrub l .clean true) s = .next { eccRead s (l.toNat / 64 * 64) .clean with mem := { (eccRead s (l.toNat / 64 * 64) .clean).mem with ceCycle := 0 } }) ∧
  (∀ (k : Fin 8) (a : BitVec 40) (s : State), hostHw s = true → 0x40000 ≤ a.toNat → inMmio a.toNat = false → inPcie a.toNat = false → inDram s a.toNat = true → s.mem.poison.contains (a.toNat / 64 * 64) = false → exec (.coreLoad k a) s = .next (coreRead s (dramRead s a.toNat 8)))

/-- Camera commands complete with their effect: each clause names the state a command leaves. (09_cameras_isp) -/
def Obligations.CameraRowsComplete : Prop :=
  (∀ (p : Fin 4) (c : Fin 16) (s : State), portOpen s p.val = true → c.val ≤ 3 → ∃ t, t = (openOn (portBit s p.val 0) p.val c.val).foldl (fun s i => endFrame s i true) (portBit s p.val 0) ∧
      exec (.csiFrameStart p c) s = .next (if portImages t p.val then (streamsOf t p.val c.val).foldl openFrame t else t)) ∧
  (∀ (p : Fin 4) (c : Fin 16) (t : Byte) (k : Bool) (d : List Byte) (s : State), portOpen s p.val = true → c.val ≤ 3 → csiTypes.contains t.toNat = true → exec (.csiLinePacket p c t .clean k d) s = .next ((openOn (portBit s p.val 0) p.val c.val).foldl (fun s i => lineOf s i t.toNat false k d) (portBit s p.val 0)) ∧
      exec (.csiLinePacket p c t .corrected k d) s = .next ((openOn (portBit s p.val 0) p.val c.val).foldl (fun s i => lineOf s i t.toNat true k d) (portBit s p.val 0))) ∧
  (∀ (p : Fin 4) (c : Fin 16) (s : State), portOpen s p.val = true → c.val ≤ 3 → exec (.csiFrameEnd p c) s = .next ((openOn s p.val c.val).foldl (fun s i => endFrame s i false) s)) ∧
  (∀ (p : Fin 4) (s : State), hostUp s = true → objB s (0x2400 + p.val) 1 = true → exec (.csiDeskewDone p) s = .next (portBit s p.val 1)) ∧
  (∀ (p : Fin 4) (s : State), portOpen s p.val = true → exec (.stopStateTimeout p) s = .next (((List.range 16).filter (fun i => ((stm s i).frame.map (fun f => decide (parN f 0x2410 2 = p.val))).getD false)).foldl (fun s i => endFrame s i true) (portBit s p.val 2))) ∧
  (∀ (i : Fin 16) (q : List PendingStamp) (p : PendingStamp) (k : Nat) (s : State), hostUp s = true → objN s (0x2410 + i.val) 7 ≠ 0xFF → tget [] s.trig (objN s (0x2410 + i.val) 7) = q → q.findIdx? (fun p => !p.taken.any (fun e => e.1 = i.val) && !p.used.contains i.val) = some k → q[k]? = some p → p.edge + exposureDelay p i.val ≤ s.trep.time → exec (.stampCapture i) s = .next { s with trig := tset [] s.trig (objN s (0x2410 + i.val) 7) (q.modify k (fun p => { p with taken := p.taken ++ [(i.val, stampNow s p.tag false)] })) }) ∧
  (∀ (i : Fin 16) (f : OpenFrame) (t : List OpenFrame) (s : State), hostUp s = true → (stm s i.val).finishing = f :: t → exec (.ispOutputComplete i) s = .next ((t.takeWhile (fun g => g.flags.testBit 2)).foldl (fun s g => finishFrame s i.val g)
        (finishFrame (setStm s i.val { stm s i.val with finishing := t.drop (t.takeWhile (fun g => g.flags.testBit 2)).length }) i.val f)))

/-- Vision commands complete with their effect: each clause names the state a command leaves. (10_vision_engines) -/
def Obligations.VisionRowsComplete : Prop :=
  (∀ (v : BitVec 32) (s : State), hostUp s = true → (flag s (v.toNat % 1024)).mode = .valid → (flag s (v.toNat % 1024)).hold ≠ 0 → exec (.visFlagRelease v) s = .next (setFlag s (v.toNat % 1024) { flag s (v.toNat % 1024) with
        hold := (flag s (v.toNat % 1024)).hold - 1, mode := if (flag s (v.toNat % 1024)).hold = 1 then .free else (flag s (v.toNat % 1024)).mode })) ∧
  (∀ (v : BitVec 32) (s : State), hostUp s = true → graphStarts s (v.toNat % 8) 2 = true → exec (.visGraphStart v) s = .next (graphRequest s (v.toNat % 8) { source := 2 })) ∧
  (∀ (g : Fin 8) (s : State), hostUp s = true → (gph s g.val).run = none → (gph s g.val).pending ≠ [] → exec (.runStart g) s = .next (beginRun s g.val)) ∧
  (∀ (e : Fin 6) (g n : Nat) (a b : Nat) (r : Run) (s : State), hostUp s = true → (engineWork s e.val).length < engineInstances e.val → bestNode (readyNodes s e.val) = some (a, b, g, n) → (gph s g).run = some r → exec (.nodeDispatch e) s = .next { startNode s g n r with engines := tset [] s.engines e.val (engineWork s e.val ++ [32 * g + n]) }) ∧
  (∀ (g : Fin 8) (n : Fin 32) (r : Run) (i : NodeEnd) (s : State), hostUp s = true → (gph s g.val).run = some r → lget .skipped r.nodes n.val = .running → i.grotto = .clean → (readInputs s g.val n.val r).2.2 = true → exec (.nodeComplete g n i) s = .next (let x := surfaceOf s g.val r ((nodeOutputs r.desc n.val).headD 0) false
        let tiles := nodeTiles r n.val i x.w x.h
        let e := readInputs s g.val n.val r
        let r' := { r with nodes := r.nodes.set n.val .done, tiles := (r.tiles + tiles.length) % 65536,
                           flags := if tiles.length < (nodeOrder r n.val i x.w x.h).length then setBit r.flags 0 true else r.flags }
        let u := writeOutputs (leaveEngines (setGph e.1 g.val { gph e.1 g.val with run := some r' }) (32 * g.val + n.val)) g.val n.val r' i e.2.1
        runTryEnd (releaseRead (publishNode u g.val n.val r') g.val) g.val)) ∧
  (∀ (g : Fin 8) (n : Fin 32) (r : Run) (s : State), hostUp s = true → (gph s g.val).run = some r → lget .skipped r.nodes n.val = .running → exec (.nodeTimeLimit g n) s = .next (runTryEnd (releaseRead (leaveEngines (setGph s g.val { gph s g.val with run := some (failRun { r with nodes := r.nodes.set n.val .skipped } 5 n.val) }) (32 * g.val + n.val)) g.val) g.val)) ∧
  (∀ (g : Fin 8) (r : Run) (s : State), hostUp s = true → (gph s g.val).run = some r → fieldN r.desc 8 4 ≠ 0 → r.startTime + 1000 * fieldN r.desc 8 4 ≤ s.trep.time → exec (.runLimitExpiry g) s = .next (let on := (List.range r.nodes.length).filter (fun n => lget .skipped r.nodes n == .running)
        let r' := failRun { r with nodes := r.nodes.map (fun m => if m = .running then .skipped else m) } 8 (on.headD 0xFF)
        runTryEnd (releaseRead (on.foldl (fun s n => leaveEngines s (32 * g.val + n)) (setGph s g.val { gph s g.val with run := some r' })) g.val) g.val)) ∧
  (∀ (g : Fin 8) (n : Fin 32) (k : Nat) (r : Run) (s : State), hostUp s = true → (gph s g.val).run = some r → lget .skipped r.nodes n.val = .running → nodeRefines r n.val = true → r.timed.any (fun e => e.1 == n.val) = false → exec (.refineTimeLimit g n k) s = .next (setGph s g.val { gph s g.val with run := some { r with timed := r.timed ++ [(n.val, k)] } })) ∧
  (∀ (g : Fin 8) (h : Nat × HintSet) (s : State), hostUp s = true → (s.lan.kept.filter (fun x => x.1 = g.val)).getLast? = some h → exec (.hintSetArrival g) s = .next (let u := setGph { s with lan := { s.lan with kept := s.lan.kept.filter (fun x => x.1 ≠ g.val) } } g.val { gph s g.val with hint := some h.2 }
        if graphStarts u g.val 3 then graphRequest u g.val { source := 3 } else u))

/-- Gallery, job and model commands complete with their effect: each clause names the state a command leaves. (11_gallery_engine, 12_gallery_scheduling) -/
def Obligations.GalleryRowsComplete : Prop :=
  (∀ (q : Fin 4096) (v : BitVec 32) (s : State), hostUp s = true → exec (.nqDoorbell q v) s = .next (setReg s (nqReg q.val 0x18) (v.toNat % 65536))) ∧
  (∀ (q : Fin 4096) (s : State), canTake s q.val = true → exec (.descriptorTake q) s = .next (takeNext s q.val)) ∧
  (∀ (q : Fin 4096) (j : Job) (s : State), hostUp s = true → (que s q.val).job = some j → j.mode = .waiting → waitLimitPassed s q.val j = true → j.w0 = .open_ ∨ j.w1 = .open_ → exec (.waitTimeout q) s = .next (completeJob s q.val 7 0)) ∧
  (∀ (q : Fin 4096) (j : Job) (s : State), hostUp s = true → (que s q.val).job = some j → j.mode = .waiting → j.held = true → exec (.nqRelease q 1) s = .next (jobAdvance (setJob s q.val { j with held := false, countFrom := s.trep.time }) q.val)) ∧
  (∀ (q : Fin 4096) (j : Job) (s : State), hostUp s = true → (que s q.val).job = some j → j.mode = .waiting ∨ j.mode = .released → exec (.nqCancel q 1) s = .next (completeJob s q.val 0x0A 0)) ∧
  (∀ (q : Fin 4096) (c : BitVec 32) (s : State), hostUp s = true → exec (.queueEnable q c) s = .next (queueCtrl s q.val c.toNat)) ∧
  (∀ (q : Fin 4096) (j : Job) (f : Nat) (s : State), hostUp s = true → (que s q.val).job = some j → j.status = 0 → jobReady s q.val j = true → (mslot s j.slot).mode ≠ .failed → (queueSettings s q.val).testBit 2 = false → (queueSettings s q.val).testBit 3 = false → freeGroup s (groupSize s j) [] = some f → mustYield s q.val j (groupCores f (groupSize s j)) = false → exec (.jobDispatch q) s = .next (startJob s q.val j (groupSize s j) [((preemptedCopy j).getD 0, f)])) ∧
  (∀ (q : Fin 4096) (ci : Fin 2) (m : Fin 8) (i : KernelEnd) (j : Job) (c : Copy) (kn : Kernel) (s : State), hostUp s = true → (que s q.val).job = some j → j.copies[ci.val]? = some c → (jobCode s j)[lget 0 c.steps m.val]? = some kn → c.mode = .running → m.val < j.group → memberMay s q.val c (jobCode s j) j.group m.val kn = true → exec (.kernelBoundary q ci m i) s = .next (let k := lget 0 c.steps m.val
        let u := kernelEcc (spendTime s j.part i.coreUs) q.val i
        let r := runKernel { queue := q.val, copy := ci.val, job := j, kernel := k, g := j.group, j := m.val } kn { s := u, copy := c, status := eccStatus i }
        let v := if i.pocket = .uncorrectable then setCore r.s (c.first + m.val) { core' r.s (c.first + m.val) with lastPart := none } else r.s
        afterKernel v q.val ci.val (addUse ((que v q.val).job.getD j) i.coreUs r) { r.copy with steps := r.copy.steps.set m.val (k + 1) } k kn (jobCode s j).length r.status)) ∧
  (∀ (q : Fin 4096) (j : Job) (s : State), hostUp s = true → (que s q.val).job = some j → j.copies.any (fun c => c.mode == .running && c.victim && decide (c.expiry ≤ s.trep.time)) = true → exec (.preemptionWatchdogExpiry q) s = .next (stopJob (logHost
        (((List.range 8).filter (fun k => (core' s k).busy.any (fun b => b.1 == q.val))).foldl (fun s k => setCore s k { core' s k with pocket := [], lastPart := none }) s)
        (mkRec 9 14 (leBytes 2 (Config.eventCode 7).toNat ++ leBytes 4 q.val) (part := j.part) (tag := j.desc.rtag))) q.val 5)) ∧
  (∀ (q : Fin 4096) (j : Job) (s : State), hostUp s = true → (que s q.val).job = some j → j.mode = .finished → jobStores s q.val j = false → exec (.jobComplete q) s = .next (completeJob (setJob s q.val { j with flags := setBit j.flags 5 (finalStatus j).2 }) q.val (finalStatus j).1 (j.copies.getD 0 {}).result)) ∧
  (∀ (s : State), hostUp s = true → frameBegin s ≠ s.gal.frameAt → exec .galleryFrameStart s = .next ({ s with gal := { s.gal with spentS := 0, spentD := 0, spentB := 0, sOver := false, dDemoted := false, frameAt := frameBegin s } })) ∧
  (∀ (n : Fin 4) (a : BitVec 64) (c : List (List Kernel)) (s : State), hostUp s = true → inDram s a.toNat = true → exec (.modelLoadFromDram n a c) s = .next (slotLoad s n.val (bundleOf (dramBundleAt s a.toNat) c))) ∧
  (∀ (n : Fin 4) (c : EccResult) (s : State), hostUp s = true → (mslot s n.val).mode = .loading → exec (.modelLoadComplete n c) s = .next (slotLoaded s n.val c)) ∧
  (∀ (n : Fin 4) (s : State), hostUp s = true → mayUnload s n.val = true → exec (.modelUnload n 1) s = .next (setSlot (undoSlot s n.val) n.val {})) ∧
  (∀ (b : Fin 24) (w : Nat) (s : State), hostUp s = true → s.gal.ready = true → exec (.cavernScrub b w .clean) s = .next s ∧ exec (.cavernScrub b w .corrected) s = .next (galEcc s 2) ∧
      exec (.cavernScrub b w .uncorrectable) s = .next (cavernPoison s b.val (w % 2 ^ 20))) ∧
  (∀ (s : State), hostHw s = true → exec .cavernInitDone s = .next ({ s with gal := { s.gal with ready := true, poison := [], cavern := [] } })) ∧
  (∀ (b : Fin 24) (s : State), hostUp s = true → s.gal.clearing.getLsbD b.val = true → exec (.bankClearDone b) s = .next ({ s with gal := { s.gal with clearing := BitVec.ofNat 24 (setBit s.gal.clearing.toNat b.val false), cavern := s.gal.cavern.filter (fun e => e.1 / 2 ^ 23 ≠ b.val), poison := s.gal.poison.filter (fun w => w / 2 ^ 20 ≠ b.val) } }))

/-- Key-value commands complete with their effect: each clause names the state a command leaves. (13_attention_kv) -/
def Obligations.KvRowsComplete : Prop :=
  (∀ (p : Fin 4) (q : Fin 8192) (n f : Nat) (s : State), hostUp s = true → (kvSeq s p.val q.val).mode = .free → objB s (0x2A00 + p.val) 1 = true → q.val < poolN s p.val 7 → bits (reg s (bGAL + 0x8014)) 15 0 = n → n ≠ 0 → n * tpp s p.val ≤ (buckets s p.val).getLast?.getD 0 → pteRun s p.val n = some f → poolMode s p.val ≠ 0 → exec (.kvOpen p q) s = .next (kvResult (setSeq (assignPtes s p.val f (List.replicate n none)) p.val q.val
        { mode := .opened, wrap := (reg s (bGAL + 0x8014)).testBit 16, maxPages := n, firstPte := f }) 0)) ∧
  (∀ (p : Fin 4) (q : Fin 8192) (s : State), hostUp s = true → (kvSeq s p.val q.val).mode ≠ .free → (kvSeq s p.val q.val).users = 0 → exec (.kvClose p q) s = .next (kvRetry (kvResult (setSeq (dropPages s p.val (kvSeq s p.val q.val) false) p.val q.val {}) 0) p.val)) ∧
  (∀ (p : Fin 4) (q : Fin 8192) (s : State), hostUp s = true → (kvSeq s p.val q.val).mode = .opened → exec (.kvPin p q) s = .next (kvResult (setSeq s p.val q.val { kvSeq s p.val q.val with pin := true }) 0)) ∧
  (∀ (p : Fin 4) (q : Fin 8192) (s : State), hostUp s = true → (kvSeq s p.val q.val).mode = .opened → exec (.kvUnpin p q) s = .next (kvResult (setSeq s p.val q.val { kvSeq s p.val q.val with pin := false }) 0)) ∧
  (∀ (p : Fin 4) (q : Fin 8192) (s : State), hostUp s = true → (kvSeq s p.val q.val).mode = .opened → (kvSeq s p.val q.val).spilled = true → (sumpPtes s p.val (kvSeq s p.val q.val)).length ≤ (freeFrames s p.val).length → exec (.kvPrefetch p q) s = .next (kvResult (prefetchSeq s p.val q.val).1 0)) ∧
  (∀ (p : Fin 4) (q : Fin 8192) (s : State), hostUp s = true → (kvSeq s p.val q.val).mode ≠ .free → (kvSeq s p.val q.val).mode ≠ .lost → (kvSeq s p.val q.val).users = 0 → exec (.kvReset p q) s = .next (kvRetry (kvResult (setSeq (if poolMode s p.val = 0 then s else dropPages s p.val (kvSeq s p.val q.val) true) p.val q.val { kvSeq s p.val q.val with mode := .opened, length := 0, start := 0, full := false, spilled := false }) 0) p.val)) ∧
  (∀ (w : Option (BitVec 64)) (s : State), hostUp s = true → exec (.kvWinDataAccess w) s = .next (winAccess s (w.map (fun v => v.toNat))))

/-- Lantern commands complete with their effect: each clause names the state a command leaves. (14_lantern) -/
def Obligations.LanternRowsComplete : Prop :=
  (∀ (w : BitVec 16) (s : State), lanTakes s = true → objN s 0x2C00 2 = 0 → exec (.aerWord w) s = .next (eventWord (aerAck s) w.toNat)) ∧
  (∀ (d : List Byte) (s : State), lanTakes s = true → objN s 0x2C00 2 = 1 → s.lan.fifo.length + (wordsOf d).length ≤ 4096 → exec (.lanternCsiPacket 3 0 0x30 true d) s = .next (let u := (s.lan.fifo ++ wordsOf d).foldl (fun s w => eventWord s w.toNat) { s with lan := { s.lan with fifo := s.lan.fifo ++ wordsOf d } };
        { u with lan := { u.lan with fifo := [] } })) ∧
  (∀ (c : Fin 4) (k : Spike) (t : List Spike) (s : State), lanTakes s = true → tget [] s.lan.queues c.val = k :: t → exec (.synapticOperation c .clean .clean) s = .next (let u : State := { s with lan := { s.lan with queues := tset [] s.lan.queues c.val t } }
        (projsInto u k.source c.val).foldl (fun s j => runProjection s k j) (neuronEcc u .clean k (projsInto u k.source c.val)))) ∧
  (∀ (s : State), lanTakes s = true → hintPeriodOver s = true → ∃ u, u = (List.range 8).foldl (fun (a : State) g => match hintSetOf a g with | some h => bump { a with lan := { a.lan with kept := a.lan.kept.filter (fun x => x.1 ≠ g) ++ [(g, h)] } } 0x2C10 6 | none => a) s ∧
      exec .hintPeriodEnd s = .next { u with lan := { u.lan with hintCounts := [], hintFrom := u.lan.lt } })

/-- Composition and display commands complete with their effect: each clause names the state a command leaves. (15_composition) -/
def Obligations.CompositionRowsComplete : Prop :=
  (∀ (s : State), compRuns s = true → ∃ t, exec .compFrameStart s = .next (wbStart (compIrq t 0)) ∧ t.comp.frame = wrap32 (s.comp.frame + 1) ∧ t.comp.line = 0 ∧ t.comp.live = compObjects s ∧
      t.comp.startTime = s.trep.time ∧ t.comp.underflow = 0 ∧ t.comp.wb = none ∧
      t.comp.wbEnded = (match s.comp.wb with | some w => s.comp.wbEnded ++ [w] | none => s.comp.wbEnded) ∧
      t.comp.latched = (List.range 6).map (fun l => reg s (bCOMP + 0x10 + 8 * l))) ∧
  (∀ (u s : State), compRuns s = true → s.comp.line < actH s → u = (if (fetchLine s s.comp.line).2 = 0 then (fetchLine s s.comp.line).1 else bump (fetchLine s s.comp.line).1 0x2E20 4 (fetchLine s s.comp.line).2) → ∃ t, exec (.compLineStart 0 false false) s = .next (wbLine t s.comp.line) ∧ t.comp.line = s.comp.line + 1 ∧ t.comp.underflow = 0 ∧
      t.comp.out = (List.range (actW u)).map (fun x => compPixel u 0 (fitTo (12288 * 6) (Config.freeOctets u.freeCtr (12288 * 6))) x s.comp.line)) ∧
  (∀ (w : WbFrame) (t : List WbFrame) (s : State), hostUp s = true → s.comp.wbEnded = w :: t → wbStores s w = false → exec .writebackFrameDone s = .next (wbRecord { s with comp := { s.comp with wbEnded := t } } w)) ∧
  (∀ (l : Fin 6) (v : BitVec 64) (s : State), hostUp s = true → exec (.compLayerAddrWrite l v) s = .next (setReg s (bCOMP + 0x10 + 8 * l.val) v.toNat)) ∧
  (∀ (v : BitVec 32) (s : State), hostUp s = true → s.pwr.mode ≠ .inspectIdle → v.getLsbD 0 = true → exec (.dpTrainCommand v) s = .next ({ setReg s (bCOMP + 0x44) (setBit (reg s (bCOMP + 0x44)) 1 false) with comp := { s.comp with training := true } })) ∧
  (∀ (k : Bool) (l r : BitVec 2) (s : State), hostUp s = true → s.comp.training = true → exec (.dpLinkTrainingDone k l r) s = .next ({ setReg s (bCOMP + 0x44) (setBits (setBits (setBit (reg s (bCOMP + 0x44)) 1 k) 3 2 l.toNat) 5 4 r.toNat) with comp := { s.comp with training := false } })) ∧
  (∀ (v : BitVec 32) (r : BitVec 3) (d : List Byte) (s : State), hostUp s = true → (v.toNat.testBit 28 = false → exec (.auxCommand v r d) s = .next (setReg s (bCOMP + 0x48) (setBits (setBit v.toNat 3 true) 2 0 r.toNat))) ∧
      (v.toNat.testBit 28 = true → exec (.auxCommand v r d) s = .next ((List.range 4).foldl
        (fun s i => setReg s (bCOMP + 0x50 + 4 * i) (leNat (slice (fitTo (bits v.toNat 7 4 + 1) d) (4 * i) (min 4 (bits v.toNat 7 4 + 1 - 4 * i)) ++
          (leBytes 4 (reg s (bCOMP + 0x50 + 4 * i))).drop (min 4 (bits v.toNat 7 4 + 1 - 4 * i)))))
        (setReg s (bCOMP + 0x48) (setBits (setBit v.toNat 3 true) 2 0 r.toNat))))) ∧
  (∀ (s : State), hostUp s = true → exec .hpdFall s = .next (compIrq (setReg { s with comp := { s.comp with hpd := false, training := false, dpOut := [] } } (bCOMP + 0x44) (setBit (reg s (bCOMP + 0x44)) 1 false)) 3)) ∧
  (∀ (s : State), hostUp s = true → exec .hpdRise s = .next (compIrq { s with comp := { s.comp with hpd := true } } 3))

/-- Motion I/O commands complete with their effect: each clause names the state a command leaves. (16_motion_io) -/
def Obligations.MotionRowsComplete : Prop :=
  (∀ (a : Fin 8) (z : Nat) (s : State), fieldHw s = true → nextZero s a.val = some z → exec (.pwmCounterZero a) s = .next (let t := setAx s a.val { ax s a.val with zeroAt := z }
        let u := if reloads t a.val false then reload t a.val else t
        sampleAt (adcTrigger (setAx u a.val (phasesAt { ax u a.val with rising := true } u.fclk.ticks false)) a.val 1) a.val 1)) ∧
  (∀ (a : Fin 8) (s : State), fieldHw s = true → topReached s a.val = true → exec (.pwmCounterTop a) s = .next ((let u := if reloads s a.val true then reload s a.val else s
        let m := { ax u a.val with rising := false }
        sampleAt (adcTrigger (setAx u a.val (if pwmMode m = 1 then phasesAt m u.fclk.ticks true else m)) a.val 0) a.val 0))) ∧
  (∀ (a : Fin 8) (p : Fin 3) (s : State), fieldHw s = true → compareCrossed s a.val (coarse (ax s a.val) p.val) = true → coarse (ax s a.val) p.val ≠ 0 → coarse (ax s a.val) p.val ≤ pwmTop (ax s a.val) → exec (.pwmCompareMatch a p) s = .next (setAx s a.val (phaseWant (ax s a.val) s.fclk.ticks p.val (!((ax s a.val).rising || decide (pwmMode (ax s a.val) ≠ 1)))))) ∧
  (∀ (a : Fin 8) (p : Fin 3) (s : State), fieldHw s = true → (ax s a.val).driving = true → pwmMode (ax s a.val) ≠ 0 → lget 0 (ax s a.val).edgeAt p.val + pwmDead (ax s a.val) / 5 ≤ s.fclk.ticks → exec (.deadTimeExpiry a p) s = .next (setAx s a.val (activate (ax s a.val) p.val))) ∧
  (∀ (a : Fin 8) (u v w : List Bool) (s : State), fieldHw s = true → sdReady s a.val = true → exec (.sdResultReady a u v w) s = .next ((let take := fun (i : Nat) (old : Int) (l : List Bool) => if (objN s (axA a.val + 0x31) 1).testBit i then sinc3 (objN s (axA a.val + 0x31) 4) l else old
        let r := (take 0 (ax s a.val).sd.1 u, take 1 (ax s a.val).sd.2.1 v, take 2 (ax s a.val).sd.2.2 w)
        let lost := fun (i : Nat) (old new : Int) (x : Nat) => if new ≠ old then setBit x i false else x
        let t := setAx s a.val { ax s a.val with
          sd := r, sdDue := false, inputsAt := s.fclk.ticks
          sdLost := BitVec.ofNat 3 (lost 2 (ax s a.val).sd.2.2 r.2.2 (lost 1 (ax s a.val).sd.2.1 r.2.1 (lost 0 (ax s a.val).sd.1 r.1 (ax s a.val).sdLost.toNat))) }
        putI (putI (putI t (axA a.val + 0x31) 5 r.1) (axA a.val + 0x31) 6 r.2.1) (axA a.val + 0x31) 7 r.2.2))) ∧
  (∀ (i : Fin 24) (s : State), fieldHw s = true → (objN s (axA (i.val / 3) + 0x31) 1).testBit (i.val % 3) = true → exec (.sdInputLost i) s = .next (startReaction (emcy (bump (setAx s (i.val / 3) { ax s (i.val / 3) with sdLost := BitVec.ofNat 3 (setBit (ax s (i.val / 3)).sdLost.toNat (i.val % 3) true) }) (axA (i.val / 3) + 0x34) 5) 0x5210 (i.val / 3) i.val) .sto (2 ^ (i.val / 3)) 22 (axis := i.val / 3))) ∧
  (∀ (c : Fin 8) (v : BitVec 12) (g i : Nat) (s : State), fieldHw s = true → adcWaiting s c.val = some (g, i) → adcReady s g i ≤ s.fclk.ticks → exec (.adcConversionDone c v) s = .next (adcResult { s with eng := { s.eng with adc := lset s.eng.adc c.val v.toNat } } g i v.toNat)) ∧
  (∀ (a : Fin 8) (b : Nat) (s : State), fieldHw s = true → encMode s a.val = 2 → (ax s a.val).frameRun = true → (ax s a.val).frameAt + serialTicks s a.val (objN s (axA a.val + 0x32) 4) ≤ s.fclk.ticks → exec (.ssiFrameEnd a b) s = .next (goodCapture (setAx s a.val (encBit (encBit { ax s a.val with frameRun := false, frameFree := s.fclk.ticks + 4000 } 1 false) 2 false)) a.val
        ((if objN s (axA a.val + 0x32) 5 = 1 then grayToBin (objN s (axA a.val + 0x32) 4) (b % 2 ^ objN s (axA a.val + 0x32) 4) else b % 2 ^ objN s (axA a.val + 0x32) 4 : Nat) : Int))) ∧
  (∀ (a : Fin 8) (s : State), fieldHw s = true → encMode s a.val = 2 → (ax s a.val).frameRun = true → exec (.ssiTimeout a) s = .next (absFault s a.val 2)) ∧
  (∀ (a : Fin 8) (b n : Nat) (c : BitVec 6) (d : BitVec 16) (s : State), fieldHw s = true → encMode s a.val = 3 → (ax s a.val).frameRun = true → (ax s a.val).frameAt + (serialTicks s a.val (3 + objN s (axA a.val + 0x32) 4) + d.toNat / 5) ≤ s.fclk.ticks → objN s (axA a.val + 0x32) 4 - 8 = n → 63 - crc6 (n + 2) (b % 2 ^ n * 4) 0 = c.toNat → exec (.bissFrameEnd a b false false c d) s = .next (let m := encBit (encBit (ax s a.val) 4 false) 5 false
        goodCapture (setAx (putN (setAx s a.val m) (axA a.val + 0x32) 0x0A d.toNat) a.val (encBit (encBit { m with frameRun := false } 1 false) 2 false)) a.val ((b % 2 ^ n : Nat) : Int))) ∧
  (∀ (a : Fin 8) (s : State), fieldHw s = true → encMode s a.val = 1 ∨ encMode s a.val = 4 → exec (.axisEncoderLineBreak a) s = .next (encFault (encPublish (bump (setAx s a.val (encBit (ax s a.val) 3 true)) (axA a.val + 0x34) 3) a.val) a.val)) ∧
  (∀ (a : Fin 8) (b : Bool) (l n : Nat) (s : State), fieldHw s = true → ∃ t, t = setAx s a.val { ax s a.val with cmpIn := if b then ((ax s a.val).cmpIn.1, l) else (l, (ax s a.val).cmpIn.2) } ∧
      exec (.comparatorTrip a b l n) s = .next (if cmpOutside t a.val b = true ∧ 5 * objN s (axA a.val + 0x33) 3 < n then comparatorTrip t a.val b else t)) ∧
  (∀ (n : Fin 2) (b : Bool) (s : State), fieldHw s = true → exec (.stoInputEdge n b true) s = .next (stoChannel s n.val b true) ∧
      exec (.stoInputEdge n b false) s = .next (((List.range 8).filter (fun a => namesSto (stoChannel s n.val b false) a n.val)).foldl (fun t a => tripSto t a false) (stoChannel s n.val b false))) ∧
  (∀ (n : Fin 2) (s : State), fieldHw s = true → stoDiffers s n.val = true → (if n.val = 0 then s.saf.differAt.1 else s.saf.differAt.2) + 4000000 < s.fclk.ticks → exec (.stoDiscrepancyFault n) s = .next ((let u : State := { s with saf := { s.saf with discrepancy := BitVec.ofNat 2 (setBit s.saf.discrepancy.toNat n.val true) } }
        ((List.range 8).filter (fun a => namesSto u a n.val)).foldl (fun s a => emcy (tripSto s a false) 0x5400 a (n.val + 1)) u))) ∧
  (∀ (a : Fin 8) (x y z : Bool) (j k l : Nat) (s : State), fieldHw s = true → encMode s a.val = 1 ∨ encMode s a.val = 4 → exec (.axisEncoderEdge a x y z j k l) s = .next ((let n := objN s (axA a.val + 0x32) 2
        let z' := filtered n (ax s a.val).encZ z l
        let u := axisEdge s a.val (filtered n (ax s a.val).encA x j) (filtered n (ax s a.val).encB y k)
        let v := setAx u a.val { ax u a.val with encZ := z' }
        if z' && !(ax s a.val).encZ then axisIndex v a.val else v)))

/-- Control engine and controlword commands complete with their effect: each clause names the state a command leaves. (17_control_engine) -/
def Obligations.ControlRowsComplete : Prop :=
  (∀ (s : State), fieldUp s = true → s.eng.sampled = true → s.eng.started = false → (((List.range 8).filter (passes? s)).take 1).all (inputsHere s) = true → exec .controlEngineStart s = .next ((let todo := (List.range 8).filter (passes? s)
        let u := todo.foldl (fun s a => setAx s a { ax s a with written := false }) s;
        { u with eng := { u.eng with todo := todo, running := !todo.isEmpty, started := true } }))) ∧
  (∀ (a : Fin 8) (s : State), fieldUp s = true → (s.eng.todo.filter (passes? s)).head? = some a.val → inputsHere s a.val = true → passBegin s a.val + 150 ≤ s.fclk.ticks → exec (.axisPass a) s = .next ((let u := axisPass { s with eng := { s.eng with todo := s.eng.todo.filter (fun i => decide (a.val < i)), freeAt := passBegin s a.val + 150 } } a.val
        if (u.eng.todo.filter (passes? u)).isEmpty then cycleEnd u else u))) ∧
  (∀ (a : Fin 8) (s : State), fieldHw s = true → (ce s a.val).reaction = .ss1 → (ce s a.val).drive = .faultReaction → (ce s a.val).ss1At + 200000 * objN s (axA a.val) 8 ≤ s.fclk.ticks → exec (.ss1TimeLimit a) s = .next (tripSto s a.val true)) ∧
  (∀ (a : Fin 8) (s : State), fieldUp s = true → (ce s a.val).drive.running = true → (cN s 0x6065 a.val : Rat) < qabs (unitsOf s a.val ((ce s a.val).pSet - (ce s a.val).pAct)) → 1000000 * cN s 0x6066 a.val < (ce s a.val).errNs → exec (.followingErrorTimeout a) s = .next (faultOption (homingFailed s a.val) a.val 21 (some 0x8611) (ofSigned 32 (unitsOf s a.val ((ce s a.val).pSet - (ce s a.val).pAct)).floor))) ∧
  (∀ (a : Fin 8) (s : State), fieldUp s = true → enabled s a.val = true → (ce s a.val).setp = .interpolate → (ce s a.val).stale = 0 → syncCycles s ≤ (ce s a.val).tStep → exec (.cspTargetTimeout a) s = .next (setCe s a.val { ce s a.val with stale := syncCycles s })) ∧
  (∀ (a : Fin 8) (s : State), fieldUp s = true → enabled s a.val = true → (ce s a.val).homing = true → objI s (ciaI 0x6098 a.val) 0 = -1 ∨ objI s (ciaI 0x6098 a.val) 0 = -2 → 20000000 ≤ (ce s a.val).pushNs → exec (.hardStopHome a) s = .next (setCe (takeHome s a.val) a.val { ce (takeHome s a.val) a.val with pSet := (ce (takeHome s a.val) a.val).pAct, vSet := 0, aSet := 0, setp := .idle })) ∧
  (∀ (a : Fin 8) (c : AxisCmd) (p : Int) (s : State), fieldUp s = true → (ce s a.val).exec = some (c, p) → (ce s a.val).dwelling = true → (ce s a.val).dwellAt + 200000 * c.dwell ≤ s.fclk.ticks → exec (.axisCommandDwellEnd a) s = .next (setCe s a.val { ce s a.val with exec := some ({ c with target := 1 }, p), dwelling := false })) ∧
  (∀ (a : Fin 8) (s : State), fieldUp s = true → ((ce s a.val).drive = .readyToSwitchOn ∨ (ce s a.val).drive = .switchedOn → exec (.controlwordEnableOperation a) s = .next (enableOperation s a.val)) ∧
      ((ce s a.val).drive = .quickStopActive → (ce s a.val).setp ≠ .stopping → (ce s a.val).reaction = .hold →
        exec (.controlwordEnableOperation a) s = .next (setCe s a.val { ce s a.val with drive := .operationEnabled, reaction := .none, setp := startSetp s a.val }))) ∧
  (∀ (a : Fin 8) (s : State), fieldUp s = true → (ce s a.val).drive = .fault → noFaultCause (coolReset s) a.val = true → exec (.controlwordFaultReset a) s = .next ((let u := setCe (coolReset s) a.val { ce s a.val with drive := .switchOnDisabled, reaction := .none, warn := false, flags := 0 }
        errorCleared (errorReg u) (putN u (ciaI 0x603F a.val) 0 0)))) ∧
  (∀ (a : Fin 8) (s : State), fieldUp s = true → (ce s a.val).drive = .operationEnabled → cN s 0x605A a.val ≠ 0 → exec (.controlwordQuickStop a) s = .next ((let u := flushFifo (homingFailed s a.val) a.val
        setCe u a.val { ce u a.val with drive := .quickStopActive, reaction := .none, setp := .stopping, stopFast := cN s 0x605A a.val == 2 || cN s 0x605A a.val == 6, homing := false }))) ∧
  (∀ (a : Fin 8) (s : State), fieldUp s = true → ((ce s a.val).drive = .operationEnabled → exec (.controlwordDisable a) s = .next (leaveTo s a.val .switchedOn)) ∧
      ((ce s a.val).drive = .quickStopActive → exec (.controlwordDisable a) s = .next (leaveTo s a.val .switchOnDisabled)))

/-- Each of the power, pin, reset and safety commands, when it completes, changes no part of the state but those it names (or leaves every part it names as it was). (20_power, 21_boot_firmware, 22_electrical_package, 18_safety) -/
def Obligations.PowerBootAndSafetyFrames : Prop :=
  (∀ x0, Touches [.fobj, .hobj, .gal, .pwr, .freeCtr] (.meterSample x0)) ∧
  (Touches [.fobj, .hobj, .fend, .hend, .gal, .saf, .pwr] .governorTick) ∧
  (Touches [.pwr] .governorDeltaP) ∧
  (Touches [.fobj, .hobj, .pwr] .powerRequestActive) ∧
  (Touches [.fobj, .hobj, .regs, .comp, .pwr, .freeCtr] .powerRequestInspectIdle) ∧
  (Touches [.fend, .hend, .pwr] .powerRequestLanternWatch) ∧
  (Touches [.fend, .hend, .pwr] .powerRequestOff) ∧
  (Touches [.fobj, .hobj, .fend, .hend] .watchConsentRequest) ∧
  (Leaves [.fboot, .hBoot, .gradeI, .fsaved, .hsaved, .pos, .fEntries, .hMaster, .hostPush, .tEntries, .fclk, .sync, .undo, .keptHost, .axes, .ctl, .eng, .freeCtr, .pending] .watchConsentReply) ∧
  (Touches [.hboot, .fobj, .hobj, .pwr] .wakeBeacon) ∧
  (Touches [.hboot, .fobj, .hobj, .pwr] .hWakeLLow) ∧
  (Touches [.hboot, .fobj, .hobj, .pwr] .wakeTimerExpiry) ∧
  (∀ x0, Touches [.fend, .link] (.wakeHostCommand x0)) ∧
  (Touches [.fend, .link] .fieldBeaconDetect) ∧
  (∀ x0, Leaves [.fboot, .hBoot, .gradeI, .fsaved, .hsaved, .pos, .fEntries, .hMaster, .hostPush, .tEntries, .fclk, .sync, .undo, .keptHost, .axes, .ctl, .eng, .freeCtr, .pending] (.railPowerGoodFailure x0)) ∧
  (∀ x0, Leaves [.fboot, .hBoot, .gradeI, .fsaved, .hsaved, .pos, .fEntries, .hMaster, .hostPush, .tEntries, .fclk, .sync, .undo, .keptHost, .axes, .ctl, .eng, .freeCtr, .pending] (.railPowerGoodLoss x0)) ∧
  (∀ x0, Touches [.fobj, .hobj, .gal, .pwr] (.meterSenseFailure x0)) ∧
  (∀ x0, Leaves [.fboot, .hBoot, .gradeI, .fsaved, .hsaved, .pos, .fEntries, .hMaster, .hostPush, .tEntries, .fclk, .sync, .undo, .keptHost, .axes, .ctl, .eng, .freeCtr, .pending] (.hostTempSample x0)) ∧
  (∀ x0, Touches [.fobj, .hobj, .fend, .hend, .bus, .axes, .ctl, .saf] (.fieldTempSample x0)) ∧
  (∀ x0 x1 x2, Leaves [.gradeI, .fsaved, .hsaved, .freeCtr, .pending] (.powerOn x0 x1 x2)) ∧
  (Touches [.hboot, .pwr] .hostVinRise) ∧
  (Leaves [.fboot, .hBoot, .gradeI, .fsaved, .hsaved, .pos, .fEntries, .hMaster, .hostPush, .tEntries, .fclk, .sync, .undo, .keptHost, .axes, .ctl, .eng, .freeCtr, .pending] .hostVinLow) ∧
  (Leaves [.fboot, .hBoot, .gradeI, .fsaved, .hsaved, .pos, .fEntries, .hMaster, .hostPush, .tEntries, .fclk, .sync, .undo, .keptHost, .axes, .ctl, .eng, .freeCtr, .pending] .hostVinHigh) ∧
  (Touches [.hboot, .pwr] .hostVinHighRelease) ∧
  (Leaves [.fboot, .hBoot, .gradeI, .fsaved, .hsaved, .pos, .fEntries, .hMaster, .hostPush, .tEntries, .fclk, .sync, .undo, .keptHost, .axes, .ctl, .eng, .freeCtr, .pending] .hostCrystalStop) ∧
  (Touches [.hboot, .pwr, .freeCtr] .hostCrystalRestart) ∧
  (Leaves [.hboot, .hBoot, .gradeI, .fsaved, .hsaved, .hostPush, .hclk, .hostSlots, .fwdValue, .portXfer, .streams, .trig, .flags, .graphs, .runOrder, .engines, .kv, .lan, .comp, .freeCtr, .pending] .fieldVinLow) ∧
  (Touches [.fboot] .fieldVinRise) ∧
  (Leaves [.hboot, .hBoot, .gradeI, .fsaved, .hsaved, .hostPush, .hclk, .hostSlots, .fwdValue, .portXfer, .streams, .trig, .flags, .graphs, .runOrder, .engines, .kv, .lan, .comp, .freeCtr, .pending] .fieldVinHigh) ∧
  (Touches [.fboot] .fieldVinHighRelease) ∧
  (Leaves [.hboot, .hBoot, .gradeI, .fsaved, .hsaved, .hostPush, .hclk, .hostSlots, .fwdValue, .portXfer, .streams, .trig, .flags, .graphs, .runOrder, .engines, .kv, .lan, .comp, .pending] .tcxoStop) ∧
  (Touches [.fboot] .tcxoRestart) ∧
  (Touches [.hboot] .hResetLLow) ∧
  (Leaves [.hboot, .hBoot, .gradeI, .fsaved, .hsaved, .hostPush, .hclk, .hostSlots, .fwdValue, .portXfer, .streams, .trig, .flags, .graphs, .runOrder, .engines, .kv, .lan, .comp, .freeCtr, .pending] .fResetLLow) ∧
  (Leaves [.fboot, .hBoot, .gradeI, .fsaved, .hsaved, .pos, .fEntries, .hMaster, .hostPush, .tEntries, .fclk, .sync, .undo, .keptHost, .axes, .ctl, .eng, .freeCtr, .pending] .hostWarmReset) ∧
  (∀ x0, Touches [.hboot, .bus] (.hostResetRequest x0)) ∧
  (Leaves [.hboot, .hBoot, .gradeI, .fsaved, .hsaved, .hostPush, .hclk, .hostSlots, .fwdValue, .portXfer, .streams, .trig, .flags, .graphs, .runOrder, .engines, .kv, .lan, .comp, .freeCtr, .pending] .fieldOnlyResetCommand) ∧
  (Touches [.fboot, .fend, .hend, .bus] .fullResetCommand) ∧
  (Touches [.hboot, .fend, .hend] .fullResetRequest) ∧
  (Leaves [.hboot, .hBoot, .gradeI, .fsaved, .hsaved, .hostPush, .hclk, .hostSlots, .fwdValue, .portXfer, .streams, .trig, .flags, .graphs, .runOrder, .engines, .kv, .lan, .comp, .freeCtr, .pending] .fullResetDelayExpiry) ∧
  (∀ x0, Touches [.hboot] (.ropeAlive x0)) ∧
  (Touches [.hboot] .aliveExpiry) ∧
  (Touches [.hboot] .bootLimitExpiry) ∧
  (Touches [.hboot] .supervisorLockstepMismatch) ∧
  (∀ x0, Touches [.hboot, .bus] (.commitHostTrial x0)) ∧
  (∀ x0, Touches [.fboot, .bus] (.commitFieldTrial x0)) ∧
  (∀ x0 x1, Touches [.hboot, .fobj, .hobj, .bus] (.installHostImage x0 x1)) ∧
  (∀ x0, Touches [.fobj, .hobj, .bus] (.motionOverrideWrite x0)) ∧
  (∀ x0 x1, Touches [.hboot, .fobj, .hobj, .regs, .fend, .hend, .mem, .gal, .kv, .lan, .comp, .saf, .pwr, .freeCtr] (.hostBoot x0 x1)) ∧
  (Touches [.fboot, .fobj, .hobj, .fclk, .fend, .hend, .link, .bus, .axes, .ctl, .saf] .fieldBoot) ∧
  (∀ x0, Leaves [.hBoot, .gradeI, .pins, .pulses, .fsaved, .hsaved, .pos, .fEntries, .hMaster, .tEntries, .fclk, .hclk, .trep, .pairs, .sync, .hostSlots, .fwdValue, .portXfer, .fieldXfers, .undo, .keptHost, .streams, .trig, .flags, .graphs, .runOrder, .engines, .kv, .eng, .pending] (.levelsFrame x0)) ∧
  (Touches [.fobj, .hobj, .fend, .hend, .sets, .bus, .axes, .ctl, .saf] .heartbeatTimeout) ∧
  (Touches [.fobj, .hobj, .regs, .fend, .hend, .portWaits, .mem, .gal, .saf, .pwr, .hostInts] .fieldHeartbeatTimeout) ∧
  (∀ x0, Touches [.fobj, .hobj, .regs, .fend, .hend, .portWaits, .sets, .bus, .mem, .gal, .axes, .ctl, .saf, .pwr, .hostInts] (.partnerBootTimeout x0)) ∧
  (Touches [.fboot, .bus] .fieldFirmwareHalt) ∧
  (Touches [.fboot, .bus, .axes, .ctl, .saf] .lockstepMismatch) ∧
  (Touches [.fobj, .hobj, .fend, .hend, .axes, .ctl, .saf] .tripWatchdogExpiry) ∧
  (∀ x0, Touches [.fobj, .hobj, .fend, .hend, .axes, .ctl, .saf] (.fieldSramUncorrectable x0)) ∧
  (∀ x0, Touches [.fobj, .hobj, .bus, .saf] (.faultLogFlashWrite x0)) ∧
  (∀ x0, Touches [.fboot, .hboot] (.debuggerAccess x0))

/-- Each of the position and time commands, when it completes, changes no part of the state but those it names (or leaves every part it names as it was). (02_line_position, 03_network_time) -/
def Obligations.PositionAndTimeFrames : Prop :=
  (∀ x0 x1 x2 x3, Leaves [.fboot, .hboot, .hBoot, .gradeI, .fsaved, .hsaved, .hMaster, .hostPush, .tEntries, .fclk, .hclk, .trep, .pairs, .link, .hostSlots, .fwdValue, .portXfer, .portWaits, .fieldXfers, .undo, .keptHost, .streams, .runOrder, .engines, .lan, .comp, .eng, .pwr, .pending] (.lineEncoderEdge x0 x1 x2 x3)) ∧
  (Touches [.pins, .pulses, .fobj, .hobj, .regs, .pos, .fEntries, .replica, .sync, .fend, .hend, .mem, .trig, .flags, .graphs, .gal, .kv, .axes, .ctl, .saf, .hostInts] .hostEntryPush) ∧
  (Touches [.pins, .pulses, .fobj, .hobj, .regs, .pos, .fEntries, .replica, .sync, .fend, .hend, .sets, .mem, .trig, .flags, .graphs, .gal, .kv, .axes, .ctl, .saf, .hostInts] .fractionTick) ∧
  (∀ x0, Touches [.pins, .pulses] (.pulseUsEnd x0)) ∧
  (Touches [.pos] .standstillTimeout) ∧
  (∀ x0, Touches [.pins, .pulses, .fobj, .hobj, .regs, .pos, .fEntries, .replica, .sync, .fend, .hend, .sets, .mem, .trig, .flags, .graphs, .gal, .kv, .axes, .ctl, .saf, .hostInts] (.replicaEdgeApply x0)) ∧
  (∀ x0, Touches [.pins, .pulses, .fobj, .hobj, .regs, .pos, .fEntries, .replica, .sync, .fend, .hend, .sets, .mem, .trig, .flags, .graphs, .gal, .kv, .axes, .ctl, .saf, .hostInts] (.stateFrame x0)) ∧
  (Touches [.fEntries, .replica] .stateFrameTimeout) ∧
  (Leaves [.fboot, .hboot, .hBoot, .gradeI, .fsaved, .hsaved, .hMaster, .hostPush, .tEntries, .fclk, .hclk, .trep, .pairs, .link, .hostSlots, .fwdValue, .portXfer, .portWaits, .fieldXfers, .undo, .keptHost, .streams, .runOrder, .engines, .lan, .comp, .eng, .pwr, .freeCtr, .pending] .followerSample) ∧
  (Touches [.pins, .pulses, .fobj, .hobj, .regs, .pos, .fEntries, .replica, .sync, .fend, .hend, .sets, .mem, .trig, .flags, .graphs, .gal, .kv, .axes, .ctl, .saf, .hostInts] .followerSyntheticEdge) ∧
  (Leaves [.fboot, .hboot, .hBoot, .gradeI, .fsaved, .hsaved, .hMaster, .hostPush, .tEntries, .fclk, .hclk, .trep, .pairs, .link, .hostSlots, .fwdValue, .portXfer, .portWaits, .fieldXfers, .undo, .keptHost, .streams, .runOrder, .engines, .lan, .comp, .eng, .pwr, .freeCtr, .pending] .followerSampleTimeout) ∧
  (Leaves [.fboot, .hboot, .hBoot, .gradeI, .fsaved, .hsaved, .hMaster, .hostPush, .tEntries, .fclk, .hclk, .trep, .pairs, .link, .hostSlots, .fwdValue, .portXfer, .portWaits, .fieldXfers, .undo, .keptHost, .streams, .runOrder, .engines, .lan, .comp, .eng, .pwr, .freeCtr, .pending] .lineBreak) ∧
  (Touches [.pins, .pulses, .fobj, .hobj, .regs, .pos, .fEntries, .replica, .sync, .fend, .hend, .bus, .mem, .trig, .flags, .graphs, .gal, .kv, .axes, .ctl, .saf, .hostInts] .encoderValid) ∧
  (Leaves [.fboot, .hboot, .hBoot, .gradeI, .fsaved, .hsaved, .hMaster, .hostPush, .tEntries, .fclk, .hclk, .trep, .pairs, .link, .hostSlots, .fwdValue, .portXfer, .portWaits, .fieldXfers, .undo, .keptHost, .streams, .runOrder, .engines, .lan, .comp, .eng, .pwr, .freeCtr, .pending] .estimatedSyntheticEdge) ∧
  (∀ x0, Leaves [.fboot, .hboot, .hBoot, .gradeI, .fsaved, .hsaved, .hMaster, .hostPush, .tEntries, .fclk, .hclk, .trep, .pairs, .link, .hostSlots, .fwdValue, .portXfer, .portWaits, .fieldXfers, .undo, .keptHost, .streams, .runOrder, .engines, .lan, .comp, .eng, .pwr, .freeCtr, .pending] (.indexMark x0)) ∧
  (Touches [.fobj, .hobj, .fend, .hend, .bus, .axes, .ctl, .saf] .expectationMiss) ∧
  (Touches [.pulses, .pos, .fclk, .sync] .fieldTimeTick) ∧
  (Touches [.pulses, .hclk, .lan] .hostPtpTick) ∧
  (Touches [.trep] .replicaSymbolTick) ∧
  (∀ x0, Touches [.fobj, .hobj, .fclk, .fend, .hend, .bus, .axes, .ctl, .saf, .freeCtr] (.driftFrame x0)) ∧
  (∀ x0, Touches [.pins, .pulses, .fobj, .hobj, .pos, .tEntries, .replica, .fclk, .sync, .fend, .hend, .bus, .axes, .ctl, .saf] (.systemTimeOffsetWrite x0)) ∧
  (Touches [.fclk] .slewEnd) ∧
  (∀ x0, Touches [.fobj, .hobj, .regs, .hclk, .fend, .hend, .mem, .saf, .hostInts, .freeCtr] (.ptpSyncMessage x0)) ∧
  (∀ x0, Touches [.fobj, .hobj, .regs, .fclk, .hclk, .fend, .hend, .bus, .mem, .axes, .ctl, .saf, .hostInts] (.clockLossTimeout x0)) ∧
  (∀ x0, Touches [.fobj, .hobj, .regs, .fclk, .hclk, .fend, .hend, .bus, .mem, .axes, .ctl, .saf, .hostInts] (.holdoverLimitExpiry x0)) ∧
  (∀ x0, Touches [.sync] (.syncPulseEnd x0)) ∧
  (Touches [.fobj, .hobj, .sync] .sync0Edge) ∧
  (Touches [.sync] .sync1Edge) ∧
  (∀ x0 x1, Touches [.fobj, .hobj, .bus] (.latchEdge x0 x1)) ∧
  (∀ x0, Touches [.fclk, .hclk] (.ppsSecond x0)) ∧
  (∀ x0, Touches [.fclk, .hclk] (.ppsPulseEnd x0)) ∧
  (∀ x0, Touches [.pins, .pulses, .fobj, .hobj, .pos, .tEntries, .replica, .sync, .fend, .hend, .axes, .ctl, .saf] (.timeEventFire x0)) ∧
  (Touches [.fobj, .hobj, .regs, .hclk, .fend, .hend, .mem, .saf, .hostInts] .ethernetLinkLoss)

/-- Each of the Rope, dictionary, staging and fieldbus commands, when it completes, changes no part of the state but those it names (or leaves every part it names as it was). (04_rope_link, 05_object_dictionary, 06_staged_change, 07_fieldbus) -/
def Obligations.RopeDictionaryAndFieldbusFrames : Prop :=
  (∀ x0, Touches [.fend, .hend] (.ropeFrameTransmit x0)) ∧
  (∀ x0 x1, Touches [.fboot, .fobj, .hobj, .regs, .fend, .hend, .link, .portWaits, .mem, .gal, .saf, .pwr, .hostInts] (.ropeFrameReceive x0 x1)) ∧
  (∀ x0, Touches [.fboot, .fobj, .hobj, .regs, .fend, .hend, .link, .portWaits, .mem, .saf, .hostInts] (.linkFrame x0)) ∧
  (∀ x0, Touches [.fend, .hend] (.ackDue x0)) ∧
  (∀ x0, Touches [.fend, .hend] (.creditReturn x0)) ∧
  (∀ x0, Touches [.fobj, .hobj, .fend, .hend, .link] (.replayTimeout x0)) ∧
  (∀ x0, Touches [.fobj, .hobj, .regs, .fend, .hend, .link, .portWaits, .mem, .gal, .saf, .pwr, .hostInts] (.pairFault x0)) ∧
  (∀ x0 x1 x2, Touches [.fobj, .hobj, .regs, .fend, .hend, .link, .portWaits, .mem, .gal, .saf, .pwr, .hostInts] (.retrainReqFrame x0 x1 x2)) ∧
  (∀ x0, Touches [.fobj, .hobj, .regs, .fend, .hend, .link, .portWaits, .mem, .gal, .saf, .pwr, .hostInts] (.retrainPairFail x0)) ∧
  (∀ x0, Touches [.link] (.trainingAttempt x0)) ∧
  (∀ x0 x1, Touches [.fboot, .fobj, .hobj, .regs, .fend, .hend, .link, .portWaits, .bus, .mem, .gal, .saf, .pwr, .hostInts] (.linkUp x0 x1)) ∧
  (∀ x0, Touches [.link] (.tallyLockAcquired x0)) ∧
  (Touches [.pos, .trep, .link] .tallyLockLoss) ∧
  (Touches [.fend, .hend] .fieldHeartbeatSend) ∧
  (Touches [.hclk, .fend, .hend] .hostHeartbeatSend) ∧
  (Touches [.fobj, .hobj, .pairs, .fend, .hend] .hostHeartbeatReceive) ∧
  (Touches [.hclk, .trep, .fend, .hend] .fieldHeartbeatReceive) ∧
  (Touches [.fobj, .hobj, .replica] .loadReport) ∧
  (Touches [.fobj, .hobj, .regs, .hclk, .fend, .hend, .mem, .saf, .hostInts] .hostPairPush) ∧
  (Touches [.hclk, .fend, .hend] .ptpConfigPush) ∧
  (Touches [.hMaster, .replica] .fireReport) ∧
  (Leaves [.hboot, .hBoot, .gradeI, .hclk, .hostSlots, .fwdValue, .portXfer, .streams, .runOrder, .engines, .lan, .pending] .postedWriteReceive) ∧
  (∀ x0, Leaves [.hboot, .hBoot, .gradeI, .hclk, .hostSlots, .fwdValue, .portXfer, .streams, .runOrder, .engines, .lan, .pending] (.confirmedWriteReceive x0)) ∧
  (Touches [.fend, .hend] .readRequestReceive) ∧
  (∀ x0 x1 x2 x3 x4, Leaves [.hboot, .hBoot, .gradeI, .hclk, .hostSlots, .fwdValue, .portXfer, .streams, .runOrder, .engines, .lan, .pending] (.sdoDownload x0 x1 x2 x3 x4)) ∧
  (∀ x0 x1 x2, Touches [.fend, .hend, .bus] (.sdoUpload x0 x1 x2)) ∧
  (∀ x0 x1 x2, Leaves [.hboot, .hBoot, .gradeI, .hclk, .hostSlots, .fwdValue, .portXfer, .streams, .runOrder, .engines, .lan, .pending] (.sdoDownloadSegment x0 x1 x2)) ∧
  (∀ x0, Touches [.bus] (.sdoUploadSegment x0)) ∧
  (∀ x0, Touches [.bus] (.sdoUnknownSpecifier x0)) ∧
  (Touches [.fend, .hend, .bus] .sdoInfoOdList) ∧
  (∀ x0, Touches [.fend, .hend, .bus, .freeCtr] (.sdoInfoObjectDescription x0)) ∧
  (∀ x0 x1, Touches [.fend, .hend, .bus] (.sdoInfoEntryDescription x0 x1)) ∧
  (∀ x0, Touches [.bus] (.mailboxUnsupported x0)) ∧
  (Touches [.fend, .hend, .bus] .forwardAnswerArrival) ∧
  (Touches [.fobj, .hobj, .regs, .fend, .hend, .hostSlots, .fwdValue, .mem, .saf, .hostInts] .forwardedRequestArrival) ∧
  (∀ x0, Touches [.fobj, .hobj, .regs, .fend, .hend, .hostSlots, .bus, .mem, .saf, .hostInts] (.forwardTimeout x0)) ∧
  (Touches [.fobj, .hobj, .regs, .fend, .hend, .mem, .saf, .hostInts] .class2RecordReceive) ∧
  (∀ x0, Touches [.fobj, .hobj, .fend, .hend, .bus, .axes, .ctl, .saf] (.faultLogRecordReceive x0)) ∧
  (Touches [.bus] .aliasPush) ∧
  (Touches [.fobj, .hobj, .fend, .hend, .bus, .axes, .ctl, .saf] .sStatusMessage) ∧
  (Touches [.fobj, .hobj, .regs, .fend, .hend, .hostSlots, .portWaits, .mem, .saf, .hostInts] .portRead) ∧
  (Touches [.fobj, .hobj, .regs, .fend, .hend, .hostSlots, .portWaits, .mem, .saf, .hostInts] .portConfirmedWrite) ∧
  (Touches [.fobj, .hobj, .regs, .fend, .hend, .hostSlots, .portWaits, .mem, .saf, .hostInts] .portPostedWrite) ∧
  (Touches [.fobj, .hobj, .regs, .fend, .hend, .hostSlots, .portXfer, .portWaits, .mem, .saf, .hostInts] .portWriteSegment) ∧
  (Touches [.fobj, .hobj, .regs, .fend, .hend, .hostSlots, .portWaits, .mem, .saf, .hostInts] .portReadSegment) ∧
  (Touches [.fobj, .hobj, .regs, .fend, .hend, .mem, .saf, .hostInts] .portUnknownEntry) ∧
  (Leaves [.fboot, .hBoot, .gradeI, .fsaved, .hsaved, .hclk, .trep, .pairs, .link, .portXfer, .portWaits, .fieldXfers, .sets, .keptHost, .streams, .runOrder, .engines, .eng, .pending] .portForwardAnswer) ∧
  (∀ x0 x1, Touches [.fend, .hend, .sets, .bus] (.stageOpen x0 x1)) ∧
  (∀ x0 x1 x2, Touches [.fend, .hend, .sets, .bus] (.stageAppend x0 x1 x2)) ∧
  (∀ x0 x1, Leaves [.fboot, .hboot, .hBoot, .gradeI, .fsaved, .hsaved, .hclk, .trep, .pairs, .link, .hostSlots, .fwdValue, .portXfer, .portWaits, .fieldXfers, .streams, .runOrder, .engines, .lan, .eng, .pending] (.stageCheck x0 x1)) ∧
  (∀ x0 x1, Leaves [.fboot, .hboot, .hBoot, .gradeI, .fsaved, .hsaved, .hclk, .trep, .pairs, .link, .hostSlots, .fwdValue, .portXfer, .portWaits, .fieldXfers, .streams, .runOrder, .engines, .lan, .eng, .pending] (.stageArm x0 x1)) ∧
  (∀ x0 x1 x2, Touches [.fend, .hend, .sets, .bus] (.stageCancel x0 x1 x2)) ∧
  (∀ x0, Leaves [.fboot, .hboot, .hBoot, .gradeI, .fsaved, .hsaved, .hclk, .trep, .pairs, .link, .hostSlots, .fwdValue, .portXfer, .portWaits, .fieldXfers, .streams, .runOrder, .engines, .lan, .eng, .pending] (.rollback x0)) ∧
  (∀ x0, Touches [.fend, .hend, .sets] (.stagingPrepare x0)) ∧
  (∀ x0, Leaves [.fboot, .hboot, .hBoot, .gradeI, .fsaved, .hsaved, .hclk, .trep, .pairs, .link, .hostSlots, .fwdValue, .portXfer, .portWaits, .fieldXfers, .streams, .runOrder, .engines, .lan, .eng, .pending] (.hostVote x0)) ∧
  (∀ x0, Touches [.fobj, .hobj, .fend, .hend, .sets, .bus] (.hostVoteTimeout x0)) ∧
  (∀ x0, Touches [.fend, .hend, .sets] (.stagingArmMessage x0)) ∧
  (∀ x0, Leaves [.fboot, .hboot, .hBoot, .gradeI, .fsaved, .hsaved, .hclk, .trep, .pairs, .link, .hostSlots, .fwdValue, .portXfer, .portWaits, .fieldXfers, .streams, .runOrder, .engines, .lan, .eng, .pending] (.hostArmConfirm x0)) ∧
  (∀ x0, Touches [.fend, .hend, .sets, .bus] (.armConfirmTimeout x0)) ∧
  (∀ x0, Leaves [.fboot, .hboot, .hBoot, .gradeI, .fsaved, .hsaved, .hclk, .trep, .pairs, .link, .hostSlots, .fwdValue, .portXfer, .portWaits, .fieldXfers, .streams, .runOrder, .engines, .lan, .eng, .pending] (.applyInstant x0)) ∧
  (∀ x0, Leaves [.fboot, .hboot, .hBoot, .gradeI, .fsaved, .hsaved, .hMaster, .hostPush, .tEntries, .fclk, .trep, .pairs, .link, .hostSlots, .fwdValue, .portXfer, .portWaits, .fieldXfers, .undo, .keptHost, .bus, .streams, .runOrder, .engines, .eng, .pending] (.hostApply x0)) ∧
  (∀ x0, Leaves [.fboot, .hboot, .hBoot, .gradeI, .fsaved, .hsaved, .hMaster, .hostPush, .tEntries, .fclk, .trep, .pairs, .link, .hostSlots, .fwdValue, .portXfer, .portWaits, .fieldXfers, .undo, .keptHost, .bus, .streams, .runOrder, .engines, .eng, .pending] (.applyConfirmation x0)) ∧
  (∀ x0, Touches [.fobj, .hobj, .fend, .hend, .sets, .bus] (.instantHoldTimeout x0)) ∧
  (∀ x0, Touches [.fobj, .hobj, .bus] (.sm2BufferComplete x0)) ∧
  (Touches [.fobj, .hobj, .fend, .hend, .sets, .bus, .axes, .ctl, .saf] .sm2WatchdogExpiry) ∧
  (Touches [.fobj, .hobj, .sync, .fend, .hend, .bus, .axes, .ctl, .eng, .saf] .controlCycleStart) ∧
  (∀ x0, Touches [.bus] (.frameStartDelimiter x0)) ∧
  (∀ x0 x1, Touches [.fobj, .hobj, .fclk, .fend, .hend, .bus, .axes, .ctl, .saf] (.fieldbusPortLinkChange x0 x1)) ∧
  (Touches [.fobj, .hobj, .fend, .hend, .sets, .bus, .axes, .ctl, .saf] .alRequestPreop) ∧
  (Touches [.fobj, .hobj, .fend, .hend, .sets, .bus, .axes, .ctl, .saf] .alRequestSafeop) ∧
  (Touches [.fobj, .hobj, .fend, .hend, .sets, .bus, .axes, .ctl, .saf] .alRequestOp) ∧
  (Touches [.fobj, .hobj, .fend, .hend, .sets, .bus, .axes, .ctl, .saf] .alRequestBoot) ∧
  (Leaves [.hboot, .hBoot, .gradeI, .fsaved, .hsaved, .hostPush, .hclk, .hostSlots, .fwdValue, .portXfer, .streams, .trig, .flags, .graphs, .runOrder, .engines, .kv, .lan, .comp, .freeCtr, .pending] .alRequestInit) ∧
  (∀ x0 x1, Touches [.pins, .pulses, .fobj, .hobj, .pos, .tEntries, .replica, .fclk, .sync, .fend, .hend, .sets, .bus, .axes, .ctl, .saf] (.syncConfigWrite x0 x1)) ∧
  (Touches [.pins, .pulses, .fobj, .hobj, .regs, .pos, .fEntries, .replica, .sync, .fend, .hend, .bus, .mem, .trig, .flags, .graphs, .gal, .kv, .axes, .ctl, .saf, .hostInts] .mirrorMessage) ∧
  (Touches [.fobj, .hobj, .fend, .hend, .bus, .saf] .class5Result) ∧
  (∀ x0 x1 x2 x3, Touches [.fobj, .hobj, .bus, .axes, .ctl, .freeCtr] (.safetyFrame x0 x1 x2 x3)) ∧
  (Touches [.fobj, .hobj, .fend, .hend, .bus, .axes, .ctl, .saf, .freeCtr] .safetyWatchdogExpiry) ∧
  (∀ x0 x1, Touches [.hboot, .bus] (.aliasWrite x0 x1)) ∧
  (∀ x0 x1 x2, Touches [.fboot, .bus] (.foeWriteIkf x0 x1 x2)) ∧
  (∀ x0 x1 x2, Touches [.hboot, .fobj, .hobj, .bus] (.foeWriteIkh x0 x1 x2)) ∧
  (∀ x0 x1 x2 x3, Touches [.undo, .bus, .gal] (.foeWriteIkm x0 x1 x2 x3)) ∧
  (∀ x0, Touches [.bus] (.foeReadLog x0)) ∧
  (∀ x0 x1, Leaves [.hboot, .hBoot, .gradeI, .hclk, .hostSlots, .fwdValue, .portXfer, .streams, .runOrder, .engines, .lan, .pending] (.storeParameters x0 x1)) ∧
  (∀ x0 x1, Leaves [.hboot, .hBoot, .gradeI, .hclk, .hostSlots, .fwdValue, .portXfer, .streams, .runOrder, .engines, .lan, .pending] (.restoreDefaults x0 x1)) ∧
  (∀ x0 x1, Leaves [.hboot, .hBoot, .gradeI, .hclk, .hostSlots, .fwdValue, .portXfer, .streams, .runOrder, .engines, .lan, .pending] (.retrainRequestWrite x0 x1)) ∧
  (∀ x0 x1 x2, Leaves [.hboot, .hBoot, .gradeI, .hclk, .hostSlots, .fwdValue, .portXfer, .streams, .runOrder, .engines, .lan, .pending] (.positionEntryWrite x0 x1 x2)) ∧
  (∀ x0, Leaves [.hboot, .hBoot, .gradeI, .hclk, .hostSlots, .fwdValue, .portXfer, .streams, .runOrder, .engines, .lan, .pending] (.predictorQuery x0)) ∧
  (∀ x0, Leaves [.hboot, .hBoot, .gradeI, .hclk, .hostSlots, .fwdValue, .portXfer, .streams, .runOrder, .engines, .lan, .pending] (.presetCounter x0)) ∧
  (∀ x0, Leaves [.hboot, .hBoot, .gradeI, .hclk, .hostSlots, .fwdValue, .portXfer, .streams, .runOrder, .engines, .lan, .pending] (.reReference x0)) ∧
  (∀ x0, Leaves [.hboot, .hBoot, .gradeI, .hclk, .hostSlots, .fwdValue, .portXfer, .streams, .runOrder, .engines, .lan, .pending] (.reacquireCommand x0)) ∧
  (∀ x0, Leaves [.hboot, .hBoot, .gradeI, .hclk, .hostSlots, .fwdValue, .portXfer, .streams, .runOrder, .engines, .lan, .pending] (.referenceRoleWrite x0)) ∧
  (∀ x0, Leaves [.hboot, .hBoot, .gradeI, .hclk, .hostSlots, .fwdValue, .portXfer, .streams, .runOrder, .engines, .lan, .pending] (.conversionQuery x0)) ∧
  (∀ x0 x1, Leaves [.hboot, .hBoot, .gradeI, .hclk, .hostSlots, .fwdValue, .portXfer, .streams, .runOrder, .engines, .lan, .pending] (.timeEntryWrite x0 x1)) ∧
  (∀ x0 x1, Leaves [.hboot, .hBoot, .gradeI, .hclk, .hostSlots, .fwdValue, .portXfer, .streams, .runOrder, .engines, .lan, .pending] (.adcSoftwareStart x0 x1)) ∧
  (∀ x0 x1, Leaves [.hboot, .hBoot, .gradeI, .hclk, .hostSlots, .fwdValue, .portXfer, .streams, .runOrder, .engines, .lan, .pending] (.clearLatches x0 x1)) ∧
  (∀ x0 x1, Leaves [.hboot, .hBoot, .gradeI, .hclk, .hostSlots, .fwdValue, .portXfer, .streams, .runOrder, .engines, .lan, .pending] (.axisCommandFlush x0 x1)) ∧
  (∀ x0 x1, Leaves [.hboot, .hBoot, .gradeI, .hclk, .hostSlots, .fwdValue, .portXfer, .streams, .runOrder, .engines, .lan, .pending] (.modeOfOperationWrite x0 x1))

/-- Each of the memory, camera and vision commands, when it completes, changes no part of the state but those it names (or leaves every part it names as it was). (08_host_memory, 09_cameras_isp, 10_vision_engines) -/
def Obligations.MemoryCameraAndVisionFrames : Prop :=
  (∀ x0 x1 x2 x3, Touches [.fobj, .hobj, .fend, .hend, .mem, .gal, .saf] (.engineLoad x0 x1 x2 x3)) ∧
  (∀ x0 x1 x2 x3, Touches [.fobj, .hobj, .regs, .fend, .hend, .mem, .flags, .graphs, .gal, .saf, .hostInts] (.engineStore x0 x1 x2 x3)) ∧
  (∀ x0, Touches [.fobj, .hobj, .regs, .fend, .hend, .mem, .flags, .graphs, .gal, .kv, .saf, .hostInts] (.storeAccept x0)) ∧
  (∀ x0, Touches [.fobj, .hobj, .fend, .hend, .mem, .saf, .freeCtr] (.coreLateStoreFault x0)) ∧
  (∀ x0 x1 x2 x3 x4, Touches [.fobj, .hobj, .regs, .fend, .hend, .link, .mem, .flags, .graphs, .gal, .kv, .lan, .comp, .saf, .pwr, .hostInts] (.registerWrite x0 x1 x2 x3 x4)) ∧
  (Touches [.mem] .bandwidthPeriod) ∧
  (∀ x0 x1 x2, Touches [.fobj, .hobj, .fend, .hend, .mem, .saf] (.patrolScrub x0 x1 x2)) ∧
  (∀ x0 x1, Touches [.fobj, .hobj, .regs, .fend, .hend, .link, .mem, .flags, .graphs, .gal, .kv, .lan, .comp, .saf, .pwr, .hostInts, .freeCtr] (.coreLoad x0 x1)) ∧
  (∀ x0 x1, Touches [.fobj, .hobj, .regs, .fend, .hend, .mem, .streams, .trig, .flags, .graphs, .gal, .kv, .saf, .hostInts] (.csiFrameStart x0 x1)) ∧
  (∀ x0 x1 x2 x3 x4 x5, Touches [.fobj, .hobj, .streams] (.csiLinePacket x0 x1 x2 x3 x4 x5)) ∧
  (∀ x0 x1, Touches [.fobj, .hobj, .regs, .fend, .hend, .mem, .streams, .flags, .graphs, .gal, .kv, .saf, .hostInts] (.csiFrameEnd x0 x1)) ∧
  (∀ x0, Touches [.fobj, .hobj] (.csiDeskewDone x0)) ∧
  (∀ x0, Touches [.fobj, .hobj, .regs, .fend, .hend, .mem, .streams, .flags, .graphs, .gal, .kv, .saf, .hostInts] (.stopStateTimeout x0)) ∧
  (∀ x0, Touches [.trig] (.stampCapture x0)) ∧
  (∀ x0, Touches [.fobj, .hobj, .regs, .fend, .hend, .mem, .streams, .flags, .graphs, .gal, .kv, .saf, .hostInts] (.ispOutputComplete x0)) ∧
  (∀ x0, Touches [.fobj, .hobj, .flags] (.visFlagRelease x0)) ∧
  (∀ x0, Touches [.fobj, .hobj, .regs, .fend, .hend, .mem, .flags, .graphs, .saf, .hostInts] (.visGraphStart x0)) ∧
  (∀ x0, Touches [.fobj, .hobj, .regs, .fend, .hend, .mem, .flags, .graphs, .runOrder, .saf, .hostInts] (.runStart x0)) ∧
  (∀ x0, Touches [.flags, .graphs, .engines] (.nodeDispatch x0)) ∧
  (∀ x0 x1 x2, Touches [.fobj, .hobj, .regs, .fend, .hend, .mem, .flags, .graphs, .engines, .gal, .kv, .saf, .hostInts, .freeCtr] (.nodeComplete x0 x1 x2)) ∧
  (∀ x0 x1, Touches [.fobj, .hobj, .regs, .fend, .hend, .mem, .flags, .graphs, .engines, .saf, .hostInts] (.nodeTimeLimit x0 x1)) ∧
  (∀ x0, Touches [.fobj, .hobj, .regs, .fend, .hend, .mem, .flags, .graphs, .engines, .saf, .hostInts] (.runLimitExpiry x0)) ∧
  (∀ x0 x1 x2, Touches [.graphs] (.refineTimeLimit x0 x1 x2)) ∧
  (∀ x0, Touches [.fobj, .hobj, .regs, .fend, .hend, .mem, .flags, .graphs, .lan, .saf, .hostInts] (.hintSetArrival x0))

/-- Each of the Gallery and key-value commands, when it completes, changes no part of the state but those it names (or leaves every part it names as it was). (11_gallery_engine, 12_gallery_scheduling, 13_attention_kv) -/
def Obligations.GalleryAndKvFrames : Prop :=
  (∀ x0 x1, Touches [.regs] (.nqDoorbell x0 x1)) ∧
  (∀ x0, Touches [.fobj, .hobj, .regs, .fend, .hend, .mem, .flags, .gal, .kv, .saf] (.descriptorTake x0)) ∧
  (∀ x0, Touches [.fobj, .hobj, .regs, .fend, .hend, .mem, .flags, .gal, .kv, .saf] (.waitTimeout x0)) ∧
  (∀ x0 x1, Touches [.fobj, .hobj, .regs, .fend, .hend, .mem, .flags, .gal, .kv, .saf] (.nqRelease x0 x1)) ∧
  (∀ x0 x1, Touches [.fobj, .hobj, .regs, .fend, .hend, .mem, .flags, .gal, .kv, .saf] (.nqCancel x0 x1)) ∧
  (∀ x0 x1, Touches [.fobj, .hobj, .regs, .fend, .hend, .mem, .gal, .saf] (.queueEnable x0 x1)) ∧
  (∀ x0, Touches [.fobj, .hobj, .regs, .fend, .hend, .mem, .flags, .gal, .kv, .saf] (.jobDispatch x0)) ∧
  (∀ x0 x1 x2 x3, Touches [.fobj, .hobj, .fend, .hend, .mem, .gal, .kv, .saf, .freeCtr] (.kernelBoundary x0 x1 x2 x3)) ∧
  (∀ x0, Touches [.fobj, .hobj, .regs, .fend, .hend, .mem, .flags, .gal, .kv, .saf] (.preemptionWatchdogExpiry x0)) ∧
  (∀ x0, Touches [.fobj, .hobj, .regs, .fend, .hend, .mem, .flags, .gal, .kv, .saf] (.jobComplete x0)) ∧
  (Touches [.gal] .galleryFrameStart) ∧
  (∀ x0 x1 x2, Touches [.undo, .gal] (.modelLoadFromDram x0 x1 x2)) ∧
  (∀ x0 x1, Touches [.fobj, .hobj, .gal] (.modelLoadComplete x0 x1)) ∧
  (∀ x0 x1, Touches [.undo, .gal] (.modelUnload x0 x1)) ∧
  (∀ x0 x1 x2, Touches [.fobj, .hobj, .gal] (.cavernScrub x0 x1 x2)) ∧
  (Touches [.gal] .cavernInitDone) ∧
  (∀ x0, Touches [.gal] (.bankClearDone x0)) ∧
  (∀ x0 x1, Touches [.regs, .kv] (.kvOpen x0 x1)) ∧
  (∀ x0 x1, Touches [.fobj, .hobj, .regs, .fend, .hend, .mem, .gal, .kv, .saf] (.kvClose x0 x1)) ∧
  (∀ x0 x1, Touches [.regs, .kv] (.kvPin x0 x1)) ∧
  (∀ x0 x1, Touches [.regs, .kv] (.kvUnpin x0 x1)) ∧
  (∀ x0 x1, Touches [.fobj, .hobj, .regs, .fend, .hend, .mem, .gal, .kv, .saf] (.kvPrefetch x0 x1)) ∧
  (∀ x0 x1, Touches [.fobj, .hobj, .regs, .fend, .hend, .mem, .gal, .kv, .saf] (.kvReset x0 x1)) ∧
  (∀ x0, Touches [.regs, .kv] (.kvWinDataAccess x0))

/-- Each of the Lantern, composition, motion and control commands, when it completes, changes no part of the state but those it names (or leaves every part it names as it was). (14_lantern, 15_composition, 16_motion_io, 17_control_engine) -/
def Obligations.LanternCompositionAndMotionFrames : Prop :=
  (∀ x0, Touches [.fobj, .hobj, .lan] (.aerWord x0)) ∧
  (∀ x0 x1 x2 x3 x4, Touches [.fobj, .hobj, .lan] (.lanternCsiPacket x0 x1 x2 x3 x4)) ∧
  (∀ x0 x1 x2, Touches [.hboot, .fobj, .hobj, .fend, .hend, .lan, .saf, .pwr, .freeCtr] (.synapticOperation x0 x1 x2)) ∧
  (Touches [.fobj, .hobj, .lan] .hintPeriodEnd) ∧
  (Touches [.fobj, .hobj, .regs, .fend, .hend, .mem, .comp, .saf, .hostInts] .compFrameStart) ∧
  (∀ x0 x1 x2, Touches [.fobj, .hobj, .regs, .fend, .hend, .mem, .comp, .saf, .hostInts, .freeCtr] (.compLineStart x0 x1 x2)) ∧
  (Touches [.fobj, .hobj, .regs, .fend, .hend, .mem, .comp, .saf, .hostInts] .writebackFrameDone) ∧
  (∀ x0 x1, Touches [.regs] (.compLayerAddrWrite x0 x1)) ∧
  (∀ x0, Touches [.regs, .comp] (.dpTrainCommand x0)) ∧
  (∀ x0 x1 x2, Touches [.regs, .comp] (.dpLinkTrainingDone x0 x1 x2)) ∧
  (∀ x0 x1 x2, Touches [.regs] (.auxCommand x0 x1 x2)) ∧
  (Touches [.regs, .mem, .comp, .hostInts] .hpdFall) ∧
  (Touches [.regs, .mem, .comp, .hostInts] .hpdRise) ∧
  (∀ x0, Touches [.fobj, .hobj, .fend, .hend, .bus, .axes, .ctl, .eng, .saf] (.pwmCounterZero x0)) ∧
  (∀ x0, Touches [.fobj, .hobj, .fend, .hend, .bus, .axes, .ctl, .eng, .saf] (.pwmCounterTop x0)) ∧
  (∀ x0 x1, Touches [.axes] (.pwmCompareMatch x0 x1)) ∧
  (∀ x0 x1, Touches [.axes] (.deadTimeExpiry x0 x1)) ∧
  (∀ x0 x1 x2 x3, Touches [.fobj, .hobj, .axes] (.sdResultReady x0 x1 x2 x3)) ∧
  (∀ x0, Touches [.fobj, .hobj, .fend, .hend, .bus, .axes, .ctl, .saf] (.sdInputLost x0)) ∧
  (∀ x0 x1, Touches [.fobj, .hobj, .axes, .eng] (.adcConversionDone x0 x1)) ∧
  (∀ x0 x1, Touches [.fobj, .hobj, .axes] (.ssiFrameEnd x0 x1)) ∧
  (∀ x0, Touches [.fobj, .hobj, .fend, .hend, .bus, .axes, .ctl, .saf] (.ssiTimeout x0)) ∧
  (∀ x0 x1 x2 x3 x4 x5, Touches [.fobj, .hobj, .fend, .hend, .bus, .axes, .ctl, .saf] (.bissFrameEnd x0 x1 x2 x3 x4 x5)) ∧
  (∀ x0, Touches [.fobj, .hobj, .bus, .axes] (.axisEncoderLineBreak x0)) ∧
  (∀ x0 x1 x2 x3, Touches [.fobj, .hobj, .bus, .axes, .ctl] (.comparatorTrip x0 x1 x2 x3)) ∧
  (∀ x0 x1 x2, Touches [.axes, .ctl, .saf] (.stoInputEdge x0 x1 x2)) ∧
  (∀ x0, Touches [.fobj, .hobj, .bus, .axes, .ctl, .saf] (.stoDiscrepancyFault x0)) ∧
  (∀ x0 x1 x2 x3 x4 x5 x6, Touches [.fobj, .hobj, .bus, .axes, .ctl] (.axisEncoderEdge x0 x1 x2 x3 x4 x5 x6)) ∧
  (Touches [.axes, .eng] .controlEngineStart) ∧
  (∀ x0, Touches [.fobj, .hobj, .fend, .hend, .bus, .axes, .ctl, .eng, .saf] (.axisPass x0)) ∧
  (∀ x0, Touches [.axes, .ctl] (.ss1TimeLimit x0)) ∧
  (∀ x0, Touches [.fobj, .hobj, .fend, .hend, .bus, .axes, .ctl, .saf] (.followingErrorTimeout x0)) ∧
  (∀ x0, Touches [.ctl] (.cspTargetTimeout x0)) ∧
  (∀ x0, Touches [.ctl] (.hardStopHome x0)) ∧
  (∀ x0, Touches [.ctl] (.axisCommandDwellEnd x0)) ∧
  (∀ x0, Touches [.fobj, .hobj, .axes, .ctl] (.controlwordEnableOperation x0)) ∧
  (∀ x0, Touches [.fobj, .hobj, .bus, .ctl, .saf] (.controlwordFaultReset x0)) ∧
  (∀ x0, Touches [.fobj, .hobj, .bus, .axes, .ctl] (.controlwordQuickStop x0)) ∧
  (∀ x0, Touches [.fobj, .hobj, .bus, .axes, .ctl] (.controlwordDisable x0))

/-- Whatever command takes effect, the commands that wait behind it stay as they are; the queue is the model's own (log entry 1). (00_scope) -/
def Obligations.CommandsLeaveTheQueueAlone : Prop :=
  ∀ (c : Instr) (s t : State), exec c s = .next t → t.pending = s.pending

/-- No step changes KEY_SET or DEBUG_LOCK of either die, and none grants a debugger access to a die whose DEBUG_LOCK is set. (21_boot_firmware) -/
def Obligations.OtpAndDebugLockSurviveEveryStep : Prop :=
  ∀ s t : State, step s = .next t →
    (t.fboot.store.keySet = s.fboot.store.keySet ∧ t.fboot.store.debugLock = s.fboot.store.debugLock ∧ t.fboot.store.keyHash = s.fboot.store.keyHash) ∧
    (t.hboot.store.keySet = s.hboot.store.keySet ∧ t.hboot.store.debugLock = s.hboot.store.debugLock ∧ t.hboot.store.keyHash = s.hboot.store.keyHash) ∧ (DebugInv s → DebugInv t)

/-- Every step keeps at most 1,024 records in field SRAM and in the host copy, 16,384 in flash and 64 held for Rope. (18_safety) -/
def Obligations.FaultLogBoundsSurviveEveryStep : Prop := ∀ s t : State, LogInv s → step s = .next t → LogInv t

/-- Every step keeps the list of DRAM octets in rising order with no entry that an unlisted octet would read as; the form is the model's own (log entry 4). (08_host_memory) -/
def Obligations.MemoryStaysCanonical : Prop := ∀ s t : State, Memory.wf s = true → step s = .next t → Memory.wf t = true

/-- The reset state meets the debug-lock, fault-log and memory invariants, and no command waits in it. (21_boot_firmware, 18_safety) -/
def Obligations.InvariantsHoldAtReset : Prop :=
  DebugInv State.reset ∧ LogInv State.reset ∧ Memory.wf State.reset = true ∧ State.reset.pending = []

/-- With a command in front of the queue a step is that command's effect on the state with the rest of the queue, and with an empty queue a step changes nothing (log entry 1). (00_scope) -/
def Obligations.StepTakesTheFrontCommand : Prop :=
  (∀ (c : Instr) (s : State), step { s with pending := c :: s.pending } = exec c s) ∧
  (∀ s : State, s.pending = [] → step s = .next s)
end

