-- ==== Sys2Proof/Laws/Frame.lean ====
section
/-! SUPPORT. The calculus of frames: a mask of parts that an operation may change, and how frames compose. -/

namespace Sys2Proof.Laws

open Machine

/-- `t` differs from `s` only in parts whose bit is set in `m`. -/
def OnlyM (m : Nat) (s t : State) : Prop := ∀ p : Part, m.testBit p.ctorIdx = false → p.same s t

/-- A next state differs from `s` only in parts whose bit is set in `m`. -/
def OutOnly (m : Nat) (s : State) (o : Out) : Prop := ∀ t, o = .next t → OnlyM m s t

theorem OnlyM.refl (m : Nat) (s : State) : OnlyM m s s := by
  intro p _; cases p <;> rfl

theorem OnlyM.trans {m : Nat} {s t u : State} (h : OnlyM m s t) (k : OnlyM m t u) : OnlyM m s u := by
  intro p hp
  have a := h p hp
  have b := k p hp
  cases p <;> exact Eq.trans b a

theorem OnlyM.mono {k m : Nat} {s t : State} (h : OnlyM k s t) (hk : k &&& m = k) : OnlyM m s t := by
  intro p hp
  refine h p ?_
  have : (k &&& m).testBit p.ctorIdx = k.testBit p.ctorIdx := by rw [hk]
  rw [Nat.testBit_and, hp, Bool.and_false] at this
  exact this.symm

theorem OnlyM.comp {k m : Nat} {s t u : State} (h : OnlyM k t u) (hk : k &&& m = k) (g : OnlyM m s t) : OnlyM m s u :=
  g.trans (h.mono hk)

theorem OnlyM.ite {c : Prop} [Decidable c] {m : Nat} {s t u : State} (h : OnlyM m s t) (k : OnlyM m s u) :
    OnlyM m s (if c then t else u) := by
  split
  · exact h
  · exact k

theorem OnlyM.ite1 {α : Type} {c : Prop} [Decidable c] {m : Nat} {s : State} {t u : State × α} (h : OnlyM m s t.1)
    (k : OnlyM m s u.1) : OnlyM m s (if c then t else u).1 := by
  split
  · exact h
  · exact k

theorem OnlyM.foldl {β : Type} {m : Nat} {s : State} {f : State → β → State} {l : List β} {t : State} (h : OnlyM m s t)
    (k : ∀ u b, OnlyM m s u → OnlyM m s (f u b)) : OnlyM m s (l.foldl f t) := by
  induction l generalizing t with
  | nil => exact h
  | cons b l ih => exact ih (k t b h)

theorem OnlyM.foldl1 {α β : Type} {m : Nat} {s : State} {f : State × α → β → State × α} {l : List β} {t : State × α}
    (h : OnlyM m s t.1) (k : ∀ u b, OnlyM m s u.1 → OnlyM m s (f u b).1) : OnlyM m s (l.foldl f t).1 := by
  induction l generalizing t with
  | nil => exact h
  | cons b l ih => exact ih (k t b h)

/-- Establish a fact, then use it. -/
theorem OnlyM.useHave {P Q : Prop} (h : P) (k : P → Q) : Q := k h

theorem OnlyM.pair {α : Type} {m : Nat} {s t : State} {a : α} (h : OnlyM m s t) : OnlyM m s (t, a).1 := h

theorem OutOnly.next {m : Nat} {s t : State} (h : OnlyM m s t) : OutOnly m s (.next t) := by
  intro u hu
  injection hu with hu
  exact hu ▸ h

theorem OutOnly.refused (m : Nat) (s : State) (r : Refusal) : OutOnly m s (.refused r) := by
  intro u hu
  cases hu

theorem OutOnly.ite {c : Prop} [Decidable c] {m : Nat} {s : State} {a b : Out} (h : OutOnly m s a) (k : OutOnly m s b) :
    OutOnly m s (if c then a else b) := by
  split
  · exact h
  · exact k

theorem OutOnly.mono {k m : Nat} {s : State} {o : Out} (h : OutOnly k s o) (hk : k &&& m = k) : OutOnly m s o :=
  fun t ht => (h t ht).mono hk

end Sys2Proof.Laws
end

