-- ==== Sys2Proof/Laws/FrameUpdates.lean ====
section
/-! SUPPORT. The frame of every record update of State that the model makes. -/

namespace Sys2Proof.Laws

open Machine

theorem upd_axes : ∀ (s : State) v0, OnlyM 35184372088832 s { s with axes := v0 } := by
  intro s v0 p hp; cases p <;> first | rfl | exact absurd hp (by decide)

theorem upd_bus : ∀ (s : State) v0, OnlyM 8589934592 s { s with bus := v0 } := by
  intro s v0 p hp; cases p <;> first | rfl | exact absurd hp (by decide)

theorem upd_comp : ∀ (s : State) v0, OnlyM 17592186044416 s { s with comp := v0 } := by
  intro s v0 p hp; cases p <;> first | rfl | exact absurd hp (by decide)

theorem upd_ctl : ∀ (s : State) v0, OnlyM 70368744177664 s { s with ctl := v0 } := by
  intro s v0 p hp; cases p <;> first | rfl | exact absurd hp (by decide)

theorem upd_eng : ∀ (s : State) v0, OnlyM 140737488355328 s { s with eng := v0 } := by
  intro s v0 p hp; cases p <;> first | rfl | exact absurd hp (by decide)

theorem upd_engines : ∀ (s : State) v0, OnlyM 1099511627776 s { s with engines := v0 } := by
  intro s v0 p hp; cases p <;> first | rfl | exact absurd hp (by decide)

theorem upd_fEntries : ∀ (s : State) v0, OnlyM 4096 s { s with fEntries := v0 } := by
  intro s v0 p hp; cases p <;> first | rfl | exact absurd hp (by decide)

theorem upd_fboot : ∀ (s : State) v0, OnlyM 1 s { s with fboot := v0 } := by
  intro s v0 p hp; cases p <;> first | rfl | exact absurd hp (by decide)

theorem upd_fclk : ∀ (s : State) v0, OnlyM 131072 s { s with fclk := v0 } := by
  intro s v0 p hp; cases p <;> first | rfl | exact absurd hp (by decide)

theorem upd_fend : ∀ (s : State) v0, OnlyM 4194304 s { s with fend := v0 } := by
  intro s v0 p hp; cases p <;> first | rfl | exact absurd hp (by decide)

theorem upd_fieldXfers : ∀ (s : State) v0, OnlyM 536870912 s { s with fieldXfers := v0 } := by
  intro s v0 p hp; cases p <;> first | rfl | exact absurd hp (by decide)

theorem upd_flags : ∀ (s : State) v0, OnlyM 137438953472 s { s with flags := v0 } := by
  intro s v0 p hp; cases p <;> first | rfl | exact absurd hp (by decide)

theorem upd_fobj : ∀ (s : State) v0, OnlyM 64 s { s with fobj := v0 } := by
  intro s v0 p hp; cases p <;> first | rfl | exact absurd hp (by decide)

theorem upd_freeCtr : ∀ (s : State) v0, OnlyM 2251799813685248 s { s with freeCtr := v0 } := by
  intro s v0 p hp; cases p <;> first | rfl | exact absurd hp (by decide)

theorem upd_fsaved : ∀ (s : State) v0, OnlyM 256 s { s with fsaved := v0 } := by
  intro s v0 p hp; cases p <;> first | rfl | exact absurd hp (by decide)

theorem upd_fwdValue : ∀ (s : State) v0, OnlyM 67108864 s { s with fwdValue := v0 } := by
  intro s v0 p hp; cases p <;> first | rfl | exact absurd hp (by decide)

theorem upd_gal : ∀ (s : State) v0, OnlyM 2199023255552 s { s with gal := v0 } := by
  intro s v0 p hp; cases p <;> first | rfl | exact absurd hp (by decide)

theorem upd_graphs : ∀ (s : State) v0, OnlyM 274877906944 s { s with graphs := v0 } := by
  intro s v0 p hp; cases p <;> first | rfl | exact absurd hp (by decide)

theorem upd_hMaster : ∀ (s : State) v0, OnlyM 8192 s { s with hMaster := v0 } := by
  intro s v0 p hp; cases p <;> first | rfl | exact absurd hp (by decide)

theorem upd_hboot : ∀ (s : State) v0, OnlyM 2 s { s with hboot := v0 } := by
  intro s v0 p hp; cases p <;> first | rfl | exact absurd hp (by decide)

theorem upd_hclk : ∀ (s : State) v0, OnlyM 262144 s { s with hclk := v0 } := by
  intro s v0 p hp; cases p <;> first | rfl | exact absurd hp (by decide)

theorem upd_hend : ∀ (s : State) v0, OnlyM 8388608 s { s with hend := v0 } := by
  intro s v0 p hp; cases p <;> first | rfl | exact absurd hp (by decide)

theorem upd_hobj : ∀ (s : State) v0, OnlyM 128 s { s with hobj := v0 } := by
  intro s v0 p hp; cases p <;> first | rfl | exact absurd hp (by decide)

theorem upd_hostInts : ∀ (s : State) v0, OnlyM 1125899906842624 s { s with hostInts := v0 } := by
  intro s v0 p hp; cases p <;> first | rfl | exact absurd hp (by decide)

theorem upd_hostPush : ∀ (s : State) v0, OnlyM 16384 s { s with hostPush := v0 } := by
  intro s v0 p hp; cases p <;> first | rfl | exact absurd hp (by decide)

theorem upd_hostSlots : ∀ (s : State) v0, OnlyM 33554432 s { s with hostSlots := v0 } := by
  intro s v0 p hp; cases p <;> first | rfl | exact absurd hp (by decide)

theorem upd_hsaved : ∀ (s : State) v0, OnlyM 512 s { s with hsaved := v0 } := by
  intro s v0 p hp; cases p <;> first | rfl | exact absurd hp (by decide)

theorem upd_kv : ∀ (s : State) v0, OnlyM 4398046511104 s { s with kv := v0 } := by
  intro s v0 p hp; cases p <;> first | rfl | exact absurd hp (by decide)

theorem upd_lan : ∀ (s : State) v0, OnlyM 8796093022208 s { s with lan := v0 } := by
  intro s v0 p hp; cases p <;> first | rfl | exact absurd hp (by decide)

theorem upd_link : ∀ (s : State) v0, OnlyM 16777216 s { s with link := v0 } := by
  intro s v0 p hp; cases p <;> first | rfl | exact absurd hp (by decide)

theorem upd_mem : ∀ (s : State) v0, OnlyM 17179869184 s { s with mem := v0 } := by
  intro s v0 p hp; cases p <;> first | rfl | exact absurd hp (by decide)

theorem upd_pairs : ∀ (s : State) v0, OnlyM 1048576 s { s with pairs := v0 } := by
  intro s v0 p hp; cases p <;> first | rfl | exact absurd hp (by decide)

theorem upd_pending : ∀ (s : State) v0, OnlyM 4503599627370496 s { s with pending := v0 } := by
  intro s v0 p hp; cases p <;> first | rfl | exact absurd hp (by decide)

theorem upd_pins : ∀ (s : State) v0, OnlyM 16 s { s with pins := v0 } := by
  intro s v0 p hp; cases p <;> first | rfl | exact absurd hp (by decide)

theorem upd_portWaits : ∀ (s : State) v0, OnlyM 268435456 s { s with portWaits := v0 } := by
  intro s v0 p hp; cases p <;> first | rfl | exact absurd hp (by decide)

theorem upd_portXfer : ∀ (s : State) v0, OnlyM 134217728 s { s with portXfer := v0 } := by
  intro s v0 p hp; cases p <;> first | rfl | exact absurd hp (by decide)

theorem upd_pos : ∀ (s : State) v0, OnlyM 2048 s { s with pos := v0 } := by
  intro s v0 p hp; cases p <;> first | rfl | exact absurd hp (by decide)

theorem upd_pulses : ∀ (s : State) v0, OnlyM 32 s { s with pulses := v0 } := by
  intro s v0 p hp; cases p <;> first | rfl | exact absurd hp (by decide)

theorem upd_pwr : ∀ (s : State) v0, OnlyM 562949953421312 s { s with pwr := v0 } := by
  intro s v0 p hp; cases p <;> first | rfl | exact absurd hp (by decide)

theorem upd_regs : ∀ (s : State) v0, OnlyM 1024 s { s with regs := v0 } := by
  intro s v0 p hp; cases p <;> first | rfl | exact absurd hp (by decide)

theorem upd_replica : ∀ (s : State) v0, OnlyM 65536 s { s with replica := v0 } := by
  intro s v0 p hp; cases p <;> first | rfl | exact absurd hp (by decide)

theorem upd_runOrder : ∀ (s : State) v0, OnlyM 549755813888 s { s with runOrder := v0 } := by
  intro s v0 p hp; cases p <;> first | rfl | exact absurd hp (by decide)

theorem upd_saf : ∀ (s : State) v0, OnlyM 281474976710656 s { s with saf := v0 } := by
  intro s v0 p hp; cases p <;> first | rfl | exact absurd hp (by decide)

theorem upd_sets : ∀ (s : State) v0, OnlyM 1073741824 s { s with sets := v0 } := by
  intro s v0 p hp; cases p <;> first | rfl | exact absurd hp (by decide)

theorem upd_streams : ∀ (s : State) v0, OnlyM 34359738368 s { s with streams := v0 } := by
  intro s v0 p hp; cases p <;> first | rfl | exact absurd hp (by decide)

theorem upd_sync : ∀ (s : State) v0, OnlyM 2097152 s { s with sync := v0 } := by
  intro s v0 p hp; cases p <;> first | rfl | exact absurd hp (by decide)

theorem upd_tEntries : ∀ (s : State) v0, OnlyM 32768 s { s with tEntries := v0 } := by
  intro s v0 p hp; cases p <;> first | rfl | exact absurd hp (by decide)

theorem upd_trep : ∀ (s : State) v0, OnlyM 524288 s { s with trep := v0 } := by
  intro s v0 p hp; cases p <;> first | rfl | exact absurd hp (by decide)

theorem upd_trig : ∀ (s : State) v0, OnlyM 68719476736 s { s with trig := v0 } := by
  intro s v0 p hp; cases p <;> first | rfl | exact absurd hp (by decide)

theorem upd_undo : ∀ (s : State) v0, OnlyM 2147483648 s { s with undo := v0 } := by
  intro s v0 p hp; cases p <;> first | rfl | exact absurd hp (by decide)

theorem upd_fboot_bus : ∀ (s : State) v0 v1, OnlyM 8589934593 s { s with fboot := v0, bus := v1 } := by
  intro s v0 v1 p hp; cases p <;> first | rfl | exact absurd hp (by decide)

theorem upd_fboot_link : ∀ (s : State) v0 v1, OnlyM 16777217 s { s with fboot := v0, link := v1 } := by
  intro s v0 v1 p hp; cases p <;> first | rfl | exact absurd hp (by decide)

theorem upd_fclk_sync : ∀ (s : State) v0 v1, OnlyM 2228224 s { s with fclk := v0, sync := v1 } := by
  intro s v0 v1 p hp; cases p <;> first | rfl | exact absurd hp (by decide)

theorem upd_fend_hend : ∀ (s : State) v0 v1, OnlyM 12582912 s { s with fend := v0, hend := v1 } := by
  intro s v0 v1 p hp; cases p <;> first | rfl | exact absurd hp (by decide)

theorem upd_fend_link : ∀ (s : State) v0 v1, OnlyM 20971520 s { s with fend := v0, link := v1 } := by
  intro s v0 v1 p hp; cases p <;> first | rfl | exact absurd hp (by decide)

theorem upd_hMaster_hostPush : ∀ (s : State) v0 v1, OnlyM 24576 s { s with hMaster := v0, hostPush := v1 } := by
  intro s v0 v1 p hp; cases p <;> first | rfl | exact absurd hp (by decide)

theorem upd_hboot_bus : ∀ (s : State) v0 v1, OnlyM 8589934594 s { s with hboot := v0, bus := v1 } := by
  intro s v0 v1 p hp; cases p <;> first | rfl | exact absurd hp (by decide)

theorem upd_hboot_pwr : ∀ (s : State) v0 v1, OnlyM 562949953421314 s { s with hboot := v0, pwr := v1 } := by
  intro s v0 v1 p hp; cases p <;> first | rfl | exact absurd hp (by decide)

theorem upd_hclk_hend : ∀ (s : State) v0 v1, OnlyM 8650752 s { s with hclk := v0, hend := v1 } := by
  intro s v0 v1 p hp; cases p <;> first | rfl | exact absurd hp (by decide)

theorem upd_pairs_fend : ∀ (s : State) v0 v1, OnlyM 5242880 s { s with pairs := v0, fend := v1 } := by
  intro s v0 v1 p hp; cases p <;> first | rfl | exact absurd hp (by decide)

theorem upd_pins_pulses : ∀ (s : State) v0 v1, OnlyM 48 s { s with pins := v0, pulses := v1 } := by
  intro s v0 v1 p hp; cases p <;> first | rfl | exact absurd hp (by decide)

theorem upd_pulses_hclk : ∀ (s : State) v0 v1, OnlyM 262176 s { s with pulses := v0, hclk := v1 } := by
  intro s v0 v1 p hp; cases p <;> first | rfl | exact absurd hp (by decide)

theorem upd_undo_keptHost : ∀ (s : State) v0 v1, OnlyM 6442450944 s { s with undo := v0, keptHost := v1 } := by
  intro s v0 v1 p hp; cases p <;> first | rfl | exact absurd hp (by decide)

theorem upd_fend_hend_link : ∀ (s : State) v0 v1 v2, OnlyM 29360128 s { s with fend := v0, hend := v1, link := v2 } := by
  intro s v0 v1 v2 p hp; cases p <;> first | rfl | exact absurd hp (by decide)

theorem upd_hboot_mem_pwr : ∀ (s : State) v0 v1 v2, OnlyM 562967133290498 s { s with hboot := v0, mem := v1, pwr := v2 } := by
  intro s v0 v1 v2 p hp; cases p <;> first | rfl | exact absurd hp (by decide)

theorem upd_pos_trep_link : ∀ (s : State) v0 v1 v2, OnlyM 17303552 s { s with pos := v0, trep := v1, link := v2 } := by
  intro s v0 v1 v2 p hp; cases p <;> first | rfl | exact absurd hp (by decide)

theorem upd_replica_link_sets : ∀ (s : State) v0 v1 v2, OnlyM 1090584576 s { s with replica := v0, link := v1, sets := v2 } := by
  intro s v0 v1 v2 p hp; cases p <;> first | rfl | exact absurd hp (by decide)

theorem upd_pulses_pos_fclk_sync : ∀ (s : State) v0 v1 v2 v3, OnlyM 2230304 s { s with pulses := v0, pos := v1, fclk := v2, sync := v3 } := by
  intro s v0 v1 v2 v3 p hp; cases p <;> first | rfl | exact absurd hp (by decide)

theorem upd_sync_bus_eng_saf : ∀ (s : State) v0 v1 v2 v3, OnlyM 422221057097728 s { s with sync := v0, bus := v1, eng := v2, saf := v3 } := by
  intro s v0 v1 v2 v3 p hp; cases p <;> first | rfl | exact absurd hp (by decide)

theorem upd_fboot_fobj_pos_fEntries_hMaster_tEntries_fclk_pairs_sync_fend_link_fieldXfers_sets_undo_keptHost_bus_axes_ctl_eng_saf : ∀ (s : State) v0 v1 v2 v3 v4 v5 v6 v7 v8 v9 v10 v11 v12 v13 v14 v15 v16 v17 v18 v19, OnlyM 527782248626241 s { s with fboot := v0, fobj := v1, pos := v2, fEntries := v3, hMaster := v4, tEntries := v5, fclk := v6, pairs := v7, sync := v8, fend := v9, link := v10, fieldXfers := v11, sets := v12, undo := v13, keptHost := v14, bus := v15, axes := v16, ctl := v17, eng := v18, saf := v19 } := by
  intro s v0 v1 v2 v3 v4 v5 v6 v7 v8 v9 v10 v11 v12 v13 v14 v15 v16 v17 v18 v19 p hp; cases p <;> first | rfl | exact absurd hp (by decide)

theorem upd_hboot_hobj_replica_hclk_trep_pairs_fend_hend_link_hostSlots_fwdValue_portXfer_portWaits_fieldXfers_sets_mem_streams_trig_flags_graphs_runOrder_engines_gal_lan_comp_saf_pwr_hostInts : ∀ (s : State) v0 v1 v2 v3 v4 v5 v6 v7 v8 v9 v10 v11 v12 v13 v14 v15 v16 v17 v18 v19 v20 v21 v22 v23 v24 v25 v26 v27, OnlyM 2001096127873154 s { s with hboot := v0, hobj := v1, replica := v2, hclk := v3, trep := v4, pairs := v5, fend := v6, hend := v7, link := v8, hostSlots := v9, fwdValue := v10, portXfer := v11, portWaits := v12, fieldXfers := v13, sets := v14, mem := v15, streams := v16, trig := v17, flags := v18, graphs := v19, runOrder := v20, engines := v21, gal := v22, lan := v23, comp := v24, saf := v25, pwr := v26, hostInts := v27 } := by
  intro s v0 v1 v2 v3 v4 v5 v6 v7 v8 v9 v10 v11 v12 v13 v14 v15 v16 v17 v18 v19 v20 v21 v22 v23 v24 v25 v26 v27 p hp; cases p <;> first | rfl | exact absurd hp (by decide)

end Sys2Proof.Laws
end

