-- ==== Sys2Proof/Laws/FramesA.lean ====
section
/-! SUPPORT. What each shared operation and each meaning can change, part 1: one frame per definition, each from the
frames of what it calls. -/

namespace Sys2Proof.Laws

open Machine

theorem State_withFetchWord_only : ∀ x0 x1 x2, OnlyM 4503599627370496 x0 (State.withFetchWord x0 x1 x2) := by
  intro x0 x1 x2
  unfold State.withFetchWord
  split
  · refine OnlyM.comp (upd_pending _ _) (by rfl) ?_
    exact OnlyM.refl _ _
  · exact OnlyM.refl _ _

theorem putObj_only : ∀ x0 x1 x2 x3, OnlyM 192 x0 (putObj x0 x1 x2 x3) := by
  intro x0 x1 x2 x3
  unfold putObj
  refine OnlyM.ite ?_ ?_
  · refine OnlyM.comp (upd_fobj _ _) (by rfl) ?_
    exact OnlyM.refl _ _
  · refine OnlyM.comp (upd_hobj _ _) (by rfl) ?_
    exact OnlyM.refl _ _

theorem putN_only : ∀ x0 x1 x2 x3, OnlyM 192 x0 (putN x0 x1 x2 x3) := by
  intro x0 x1 x2 x3
  unfold putN
  refine OnlyM.comp (putObj_only _ _ _ _) (by rfl) ?_
  exact OnlyM.refl _ _

theorem encPublish_only : ∀ x0 x1, OnlyM 192 x0 (encPublish x0 x1) := by
  intro x0 x1
  unfold encPublish
  refine OnlyM.comp (putN_only _ _ _ _) (by rfl) ?_
  exact OnlyM.refl _ _

theorem setCe_only : ∀ x0 x1 x2, OnlyM 70368744177664 x0 (setCe x0 x1 x2) := by
  intro x0 x1 x2
  unfold setCe
  refine OnlyM.comp (upd_ctl _ _) (by rfl) ?_
  exact OnlyM.refl _ _

theorem axisClear_only : ∀ x0 x1, OnlyM 70368744177664 x0 (axisClear x0 x1) := by
  intro x0 x1
  unfold axisClear
  lift_lets
  intro y0
  clear_value y0
  refine OnlyM.comp (setCe_only _ _ _) (by rfl) ?_
  exact OnlyM.refl _ _

theorem setAx_only : ∀ x0 x1 x2, OnlyM 35184372088832 x0 (setAx x0 x1 x2) := by
  intro x0 x1 x2
  unfold setAx
  refine OnlyM.comp (upd_axes _ _) (by rfl) ?_
  exact OnlyM.refl _ _

theorem driveTrip_only : ∀ x0 x1, OnlyM 35184372088832 x0 (driveTrip x0 x1) := by
  intro x0 x1
  unfold driveTrip
  lift_lets
  intro y0
  clear_value y0
  intro y1
  clear_value y1
  refine OnlyM.comp (setAx_only _ _ _) (by rfl) ?_
  exact OnlyM.refl _ _

theorem bump_only : ∀ x0 x1 x2 x3, OnlyM 192 x0 (bump x0 x1 x2 x3) := by
  intro x0 x1 x2 x3
  unfold bump
  refine OnlyM.comp (putN_only _ _ _ _) (by rfl) ?_
  exact OnlyM.refl _ _

theorem emcySend_only : ∀ x0 x1, OnlyM 8589934784 x0 (emcySend x0 x1) := by
  intro x0 x1
  unfold emcySend
  refine OnlyM.comp (bump_only _ _ _ _) (by rfl) ?_
  refine OnlyM.comp (upd_bus _ _) (by rfl) ?_
  exact OnlyM.refl _ _

theorem emcy_only : ∀ x0 x1 x2 x3, OnlyM 8589934784 x0 (emcy x0 x1 x2 x3) := by
  intro x0 x1 x2 x3
  unfold emcy
  lift_lets
  intro y0
  refine OnlyM.useHave (show OnlyM 8589934784 x0 y0 from ?_) (fun hy0 => ?_)
  · unfold y0
    refine OnlyM.ite ?_ ?_
    · refine OnlyM.comp (putN_only _ _ _ _) (by rfl) ?_
      exact OnlyM.refl _ _
    · exact OnlyM.refl _ _
  clear_value y0
  intro y1
  clear_value y1
  intro y2
  clear_value y2
  refine OnlyM.ite ?_ ?_
  · refine OnlyM.comp (emcySend_only _ _) (by rfl) ?_
    assumption
  · refine OnlyM.ite ?_ ?_
    · refine OnlyM.comp (upd_bus _ _) (by rfl) ?_
      assumption
    · refine OnlyM.comp (bump_only _ _ _ _) (by rfl) ?_
      refine OnlyM.comp (upd_bus _ _) (by rfl) ?_
      assumption

theorem flushFifo_only : ∀ x0 x1, OnlyM 70368744177664 x0 (flushFifo x0 x1) := by
  intro x0 x1
  unfold flushFifo
  lift_lets
  intro y0
  clear_value y0
  refine OnlyM.comp (setCe_only _ _ _) (by rfl) ?_
  exact OnlyM.refl _ _

theorem setEnd_only : ∀ x0 x1 x2, OnlyM 12582912 x0 (setEnd x0 x1 x2) := by
  intro x0 x1 x2
  unfold setEnd
  split
  · refine OnlyM.comp (upd_fend _ _) (by rfl) ?_
    exact OnlyM.refl _ _
  · refine OnlyM.comp (upd_hend _ _) (by rfl) ?_
    exact OnlyM.refl _ _

theorem ropeSend_only : ∀ x0 x1 x2, OnlyM 12582912 x0 (ropeSend x0 x1 x2) := by
  intro x0 x1 x2
  unfold ropeSend
  refine OnlyM.comp (setEnd_only _ _ _) (by rfl) ?_
  exact OnlyM.refl _ _

theorem class2_only : ∀ x0 x1, OnlyM 12583104 x0 (class2 x0 x1) := by
  intro x0 x1
  unfold class2
  refine OnlyM.ite ?_ ?_
  · refine OnlyM.comp (ropeSend_only _ _ _) (by rfl) ?_
    exact OnlyM.refl _ _
  · refine OnlyM.comp (bump_only _ _ _ _) (by rfl) ?_
    exact OnlyM.refl _ _

theorem logField_only : ∀ x0 x1, OnlyM 281474989293760 x0 (logField x0 x1) := by
  intro x0 x1
  unfold logField
  lift_lets
  intro y0
  clear_value y0
  intro y1
  clear_value y1
  intro y2
  refine OnlyM.useHave (show OnlyM 281474989293760 x0 y2 from ?_) (fun hy2 => ?_)
  · unfold y2
    refine OnlyM.comp (upd_saf _ _) (by rfl) ?_
    exact OnlyM.refl _ _
  clear_value y2
  refine OnlyM.comp (class2_only _ _) (by rfl) ?_
  assumption

theorem faultOption_only : ∀ x0 x1 x2 x3 x4, OnlyM 387036695494848 x0 (faultOption x0 x1 x2 x3 x4) := by
  intro x0 x1 x2 x3 x4
  unfold faultOption
  lift_lets
  intro y0
  refine OnlyM.useHave (show OnlyM 387036695494848 x0 y0 from ?_) (fun hy0 => ?_)
  · unfold y0
    split
    · refine OnlyM.comp (emcy_only _ _ _ _) (by rfl) ?_
      exact OnlyM.refl _ _
    · exact OnlyM.refl _ _
  clear_value y0
  intro y1
  clear_value y1
  intro y2
  refine OnlyM.useHave (show OnlyM 387036695494848 x0 y2 from ?_) (fun hy2 => ?_)
  · unfold y2
    refine OnlyM.comp (logField_only _ _) (by rfl) ?_
    refine OnlyM.comp (putN_only _ _ _ _) (by rfl) ?_
    assumption
  clear_value y2
  intro y3
  refine OnlyM.useHave (show OnlyM 387036695494848 x0 y3 from ?_) (fun hy3 => ?_)
  · unfold y3
    refine OnlyM.comp (axisClear_only _ _) (by rfl) ?_
    assumption
  clear_value y3
  intro y4
  clear_value y4
  intro y5
  refine OnlyM.useHave (show OnlyM 387036695494848 x0 y5 from ?_) (fun hy5 => ?_)
  · unfold y5
    refine OnlyM.comp (flushFifo_only _ _) (by rfl) ?_
    assumption
  clear_value y5
  intro y6
  clear_value y6
  refine OnlyM.ite ?_ ?_
  · assumption
  · refine OnlyM.ite ?_ ?_
    · refine OnlyM.comp (driveTrip_only _ _) (by rfl) ?_
      refine OnlyM.comp (setCe_only _ _ _) (by rfl) ?_
      assumption
    · refine OnlyM.ite ?_ ?_
      · assumption
      · refine OnlyM.comp (setCe_only _ _ _) (by rfl) ?_
        assumption

theorem badCapture_only : ∀ x0 x1, OnlyM 387036695494848 x0 (badCapture x0 x1) := by
  intro x0 x1
  unfold badCapture
  lift_lets
  intro y0
  clear_value y0
  intro y1
  refine OnlyM.useHave (show OnlyM 387036695494848 x0 y1 from ?_) (fun hy1 => ?_)
  · unfold y1
    refine OnlyM.comp (encPublish_only _ _) (by rfl) ?_
    refine OnlyM.comp (setAx_only _ _ _) (by rfl) ?_
    exact OnlyM.refl _ _
  clear_value y1
  refine OnlyM.ite ?_ ?_
  · refine OnlyM.comp (faultOption_only _ _ _ _ _) (by rfl) ?_
    assumption
  · assumption

theorem absFault_only : ∀ x0 x1 x2, OnlyM 387036695494848 x0 (absFault x0 x1 x2) := by
  intro x0 x1 x2
  unfold absFault
  lift_lets
  intro y0
  clear_value y0
  intro y1
  clear_value y1
  intro y2
  refine OnlyM.useHave (show OnlyM 387036695494848 x0 y2 from ?_) (fun hy2 => ?_)
  · unfold y2
    refine OnlyM.comp (bump_only _ _ _ _) (by rfl) ?_
    refine OnlyM.comp (setAx_only _ _ _) (by rfl) ?_
    exact OnlyM.refl _ _
  clear_value y2
  intro y3
  refine OnlyM.useHave (show OnlyM 387036695494848 x0 y3 from ?_) (fun hy3 => ?_)
  · unfold y3
    refine OnlyM.comp (badCapture_only _ _) (by rfl) ?_
    assumption
  clear_value y3
  refine OnlyM.comp (emcy_only _ _ _ _) (by rfl) ?_
  assumption

theorem account_only : ∀ x0 x1, OnlyM 192 x0 (account x0 x1) := by
  intro x0 x1
  unfold account
  lift_lets
  intro y0
  clear_value y0
  intro y1
  clear_value y1
  intro y2
  refine OnlyM.useHave (show OnlyM 192 x0 y2 from ?_) (fun hy2 => ?_)
  · unfold y2
    refine OnlyM.comp (bump_only _ _ _ _) (by rfl) ?_
    exact OnlyM.refl _ _
  clear_value y2
  refine OnlyM.ite ?_ ?_
  · refine OnlyM.comp (bump_only _ _ _ _) (by rfl) ?_
    refine OnlyM.comp (bump_only _ _ _ _) (by rfl) ?_
    refine OnlyM.comp (bump_only _ _ _ _) (by rfl) ?_
    refine OnlyM.comp (bump_only _ _ _ _) (by rfl) ?_
    assumption
  · assumption

theorem dramSet_only : ∀ x0 x1 x2, OnlyM 17179869184 x0 (dramSet x0 x1 x2) := by
  intro x0 x1 x2
  unfold dramSet
  refine OnlyM.comp (upd_mem _ _) (by rfl) ?_
  exact OnlyM.refl _ _

theorem dramWrite_only : ∀ x0 x1 x2, OnlyM 17179869184 x0 (dramWrite x0 x1 x2) := by
  intro x0 x1 x2
  induction x2 generalizing x0 x1 with
  | nil => exact OnlyM.refl _ _
  | cons b t ih => exact OnlyM.comp (ih _ _) rfl ((dramSet_only _ _ _).mono rfl)

theorem hostCopy_only : ∀ x0 x1, OnlyM 281474976710656 x0 (hostCopy x0 x1) := by
  intro x0 x1
  unfold hostCopy
  refine OnlyM.comp (upd_saf _ _) (by rfl) ?_
  exact OnlyM.refl _ _

theorem logHost_only : ∀ x0 x1, OnlyM 281474989293760 x0 (logHost x0 x1) := by
  intro x0 x1
  unfold logHost
  lift_lets
  intro y0
  clear_value y0
  intro y1
  clear_value y1
  intro y2
  refine OnlyM.useHave (show OnlyM 281474989293760 x0 y2 from ?_) (fun hy2 => ?_)
  · unfold y2
    refine OnlyM.comp (hostCopy_only _ _) (by rfl) ?_
    refine OnlyM.comp (upd_saf _ _) (by rfl) ?_
    exact OnlyM.refl _ _
  clear_value y2
  intro y3
  clear_value y3
  refine OnlyM.ite ?_ ?_
  · refine OnlyM.comp (ropeSend_only _ _ _) (by rfl) ?_
    assumption
  · refine OnlyM.ite ?_ ?_
    · refine OnlyM.comp (upd_saf _ _) (by rfl) ?_
      assumption
    · refine OnlyM.comp (bump_only _ _ _ _) (by rfl) ?_
      assumption

theorem fabFault_only : ∀ x0 x1, OnlyM 281492169162944 x0 (fabFault x0 x1) := by
  intro x0 x1
  unfold fabFault
  refine OnlyM.comp (logHost_only _ _) (by rfl) ?_
  refine OnlyM.comp (upd_mem _ _) (by rfl) ?_
  exact OnlyM.refl _ _

theorem engStore_only : ∀ x0 x1 x2 x3, OnlyM 281492169162944 x0 (engStore x0 x1 x2 x3).1 := by
  intro x0 x1 x2 x3
  unfold engStore
  refine OnlyM.foldl1 ?_ (fun _ _ _ => ?_)
  · refine OnlyM.pair ?_
    exact OnlyM.refl _ _
  · lift_lets
    intro y0
    clear_value y0
    intro y1
    clear_value y1
    intro y2
    refine OnlyM.useHave (show OnlyM 281492169162944 x0 y2 from ?_) (fun hy2 => ?_)
    · unfold y2
      refine OnlyM.comp (dramWrite_only _ _ _) (by rfl) ?_
      assumption
    clear_value y2
    intro y3
    clear_value y3
    split
    · refine OnlyM.pair ?_
      refine OnlyM.comp (fabFault_only _ _) (by rfl) ?_
      assumption
    · refine OnlyM.pair ?_
      refine OnlyM.ite ?_ ?_
      · refine OnlyM.comp (upd_mem _ _) (by rfl) ?_
        assumption
      · assumption

theorem imsicSet_only : ∀ x0 x1 x2, OnlyM 17179869184 x0 (imsicSet x0 x1 x2) := by
  intro x0 x1 x2
  unfold imsicSet
  refine OnlyM.ite ?_ ?_
  · exact OnlyM.refl _ _
  · refine OnlyM.comp (upd_mem _ _) (by rfl) ?_
    exact OnlyM.refl _ _

theorem setAplic_only : ∀ x0 x1 x2, OnlyM 17179869184 x0 (setAplic x0 x1 x2) := by
  intro x0 x1 x2
  unfold setAplic
  refine OnlyM.ite ?_ ?_
  · refine OnlyM.comp (upd_mem _ _) (by rfl) ?_
    exact OnlyM.refl _ _
  · refine OnlyM.comp (upd_mem _ _) (by rfl) ?_
    exact OnlyM.refl _ _

theorem aplicForward_only : ∀ x0 x1 x2, OnlyM 17179869184 x0 (aplicForward x0 x1 x2) := by
  intro x0 x1 x2
  unfold aplicForward
  lift_lets
  intro y0
  clear_value y0
  intro y1
  clear_value y1
  refine OnlyM.ite ?_ ?_
  · refine OnlyM.comp (imsicSet_only _ _ _) (by rfl) ?_
    refine OnlyM.comp (setAplic_only _ _ _) (by rfl) ?_
    exact OnlyM.refl _ _
  · exact OnlyM.refl _ _

theorem aplicPend_only : ∀ x0 x1 x2, OnlyM 17179869184 x0 (aplicPend x0 x1 x2) := by
  intro x0 x1 x2
  unfold aplicPend
  lift_lets
  intro y0
  clear_value y0
  refine OnlyM.ite ?_ ?_
  · exact OnlyM.refl _ _
  · refine OnlyM.comp (aplicForward_only _ _ _) (by rfl) ?_
    refine OnlyM.comp (setAplic_only _ _ _) (by rfl) ?_
    exact OnlyM.refl _ _

theorem wireRise_only : ∀ x0 x1, OnlyM 17179869184 x0 (wireRise x0 x1) := by
  intro x0 x1
  unfold wireRise
  refine OnlyM.foldl ?_ (fun _ _ _ => ?_)
  · exact OnlyM.refl _ _
  · refine OnlyM.ite ?_ ?_
    · refine OnlyM.comp (aplicPend_only _ _ _) (by rfl) ?_
      assumption
    · assumption

theorem hostIrq_only : ∀ x0 x1, OnlyM 1125917086711808 x0 (hostIrq x0 x1) := by
  intro x0 x1
  unfold hostIrq
  refine OnlyM.comp (wireRise_only _ _) (by rfl) ?_
  refine OnlyM.comp (upd_hostInts _ _) (by rfl) ?_
  exact OnlyM.refl _ _

theorem setReg_only : ∀ x0 x1 x2, OnlyM 1024 x0 (setReg x0 x1 x2) := by
  intro x0 x1 x2
  unfold setReg
  refine OnlyM.comp (upd_regs _ _) (by rfl) ?_
  exact OnlyM.refl _ _

theorem d2hPut_only : ∀ x0 x1, OnlyM 1407392076006592 x0 (d2hPut x0 x1) := by
  intro x0 x1
  unfold d2hPut
  lift_lets
  intro y0
  clear_value y0
  intro y1
  refine OnlyM.useHave (show OnlyM 1407392076006592 x0 y1.1 from ?_) (fun hy1 => ?_)
  · unfold y1
    refine OnlyM.comp (engStore_only _ _ _ _) (by rfl) ?_
    exact OnlyM.refl _ _
  clear_value y1
  intro y2
  refine OnlyM.useHave (show OnlyM 1407392076006592 x0 y2 from ?_) (fun hy2 => ?_)
  · unfold y2
    refine OnlyM.comp (setReg_only _ _ _) (by rfl) ?_
    assumption
  clear_value y2
  refine OnlyM.ite ?_ ?_
  · refine OnlyM.comp (hostIrq_only _ _) (by rfl) ?_
    assumption
  · assumption

theorem portDone_only : ∀ x0 x1 x2 x3 x4 x5 x6 x7 x8 x9, OnlyM 1407392076006592 x0 (portDone x0 x1 x2 x3 x4 x5 x6 x7 x8 x9) := by
  intro x0 x1 x2 x3 x4 x5 x6 x7 x8 x9
  unfold portDone
  lift_lets
  intro y0
  refine OnlyM.useHave (show OnlyM 1407392076006592 x0 y0 from ?_) (fun hy0 => ?_)
  · unfold y0
    refine OnlyM.comp (bump_only _ _ _ _) (by rfl) ?_
    exact OnlyM.refl _ _
  clear_value y0
  intro y1
  refine OnlyM.useHave (show OnlyM 1407392076006592 x0 y1 from ?_) (fun hy1 => ?_)
  · unfold y1
    refine OnlyM.ite ?_ ?_
    · assumption
    · refine OnlyM.comp (bump_only _ _ _ _) (by rfl) ?_
      assumption
  clear_value y1
  refine OnlyM.ite ?_ ?_
  · refine OnlyM.comp (d2hPut_only _ _) (by rfl) ?_
    assumption
  · assumption

theorem waitDone_only : ∀ x0 x1 x2 x3, OnlyM 1407392076006592 x0 (waitDone x0 x1 x2 x3) := by
  intro x0 x1 x2 x3
  unfold waitDone
  refine OnlyM.comp (portDone_only _ _ _ _ _ _ _ _ _ _) (by rfl) ?_
  exact OnlyM.refl _ _

theorem postedDone_only : ∀ x0 x1, OnlyM 1407392344442048 x0 (postedDone x0 x1) := by
  intro x0 x1
  unfold postedDone
  split
  · refine OnlyM.comp (waitDone_only _ _ _ _) (by rfl) ?_
    refine OnlyM.comp (upd_portWaits _ _) (by rfl) ?_
    exact OnlyM.refl _ _
  · exact OnlyM.refl _ _

theorem acked_only : ∀ x0 x1 x2, OnlyM 1407392344442049 x0 (acked x0 x1 x2) := by
  intro x0 x1 x2
  unfold acked
  lift_lets
  intro y0
  clear_value y0
  intro y1
  clear_value y1
  intro y2
  refine OnlyM.useHave (show OnlyM 1407392344442049 x0 y2 from ?_) (fun hy2 => ?_)
  · unfold y2
    refine OnlyM.comp (setEnd_only _ _ _) (by rfl) ?_
    exact OnlyM.refl _ _
  clear_value y2
  intro y3
  clear_value y3
  split
  · refine OnlyM.foldl ?_ (fun _ _ _ => ?_)
    · assumption
    · refine OnlyM.comp (postedDone_only _ _) (by rfl) ?_
      assumption
  · refine OnlyM.ite ?_ ?_
    · refine OnlyM.comp (upd_fboot _ _) (by rfl) ?_
      assumption
    · assumption

theorem actual_only : ∀ x0 x1 x2, OnlyM 105553116266688 x0 (actual x0 x1 x2) := by
  intro x0 x1 x2
  unfold actual
  lift_lets
  intro y0
  clear_value y0
  intro y1
  clear_value y1
  intro y2
  refine OnlyM.useHave (show OnlyM 105553116266688 x0 y2 from ?_) (fun hy2 => ?_)
  · unfold y2
    refine OnlyM.comp (setAx_only _ _ _) (by rfl) ?_
    exact OnlyM.refl _ _
  clear_value y2
  intro y3
  clear_value y3
  intro y4
  clear_value y4
  intro y5
  clear_value y5
  refine OnlyM.ite ?_ ?_
  · refine OnlyM.comp (setCe_only _ _ _) (by rfl) ?_
    assumption
  · refine OnlyM.comp (bump_only _ _ _ _) (by rfl) ?_
    refine OnlyM.comp (setCe_only _ _ _) (by rfl) ?_
    exact OnlyM.refl _ _

theorem adcResult_only : ∀ x0 x1 x2 x3, OnlyM 35184372089024 x0 (adcResult x0 x1 x2 x3) := by
  intro x0 x1 x2 x3
  unfold adcResult
  lift_lets
  intro y0
  clear_value y0
  intro y1
  refine OnlyM.useHave (show OnlyM 35184372089024 x0 y1 from ?_) (fun hy1 => ?_)
  · unfold y1
    refine OnlyM.comp (putN_only _ _ _ _) (by rfl) ?_
    exact OnlyM.refl _ _
  clear_value y1
  intro y2
  clear_value y2
  refine OnlyM.ite ?_ ?_
  · refine OnlyM.ite ?_ ?_
    · refine OnlyM.comp (setAx_only _ _ _) (by rfl) ?_
      assumption
    · refine OnlyM.comp (setAx_only _ _ _) (by rfl) ?_
      assumption
  · refine OnlyM.comp (setAx_only _ _ _) (by rfl) ?_
    assumption

theorem adcTrigger_only : ∀ x0 x1 x2, OnlyM 35184372089024 x0 (adcTrigger x0 x1 x2) := by
  intro x0 x1 x2
  unfold adcTrigger
  lift_lets
  intro y0
  clear_value y0
  refine OnlyM.ite ?_ ?_
  · exact OnlyM.refl _ _
  · split
    · refine OnlyM.ite ?_ ?_
      · exact OnlyM.refl _ _
      · refine OnlyM.comp (setAx_only _ _ _) (by rfl) ?_
        exact OnlyM.refl _ _
    · refine OnlyM.ite ?_ ?_
      · exact OnlyM.refl _ _
      · refine OnlyM.ite ?_ ?_
        · refine OnlyM.comp (bump_only _ _ _ _) (by rfl) ?_
          exact OnlyM.refl _ _
        · refine OnlyM.comp (setAx_only _ _ _) (by rfl) ?_
          exact OnlyM.refl _ _

theorem adcStart_only : ∀ x0 x1, OnlyM 35184372089024 x0 (adcStart x0 x1) := by
  intro x0 x1
  unfold adcStart
  refine OnlyM.comp (adcTrigger_only _ _ _) (by rfl) ?_
  exact OnlyM.refl _ _

theorem setStg_only : ∀ x0 x1 x2, OnlyM 1073741824 x0 (setStg x0 x1 x2) := by
  intro x0 x1 x2
  unfold setStg
  refine OnlyM.comp (upd_sets _ _) (by rfl) ?_
  exact OnlyM.refl _ _

theorem addEntries_only : ∀ x0 x1 x2, OnlyM 1073741824 x0 (addEntries x0 x1 x2).1 := by
  intro x0 x1 x2
  induction x2 generalizing x0 with
  | nil => exact OnlyM.refl _ _
  | cons e t ih =>
    unfold addEntries
    refine OnlyM.ite1 (OnlyM.refl _ _) ?_
    exact OnlyM.comp (ih _) rfl ((setStg_only _ _ _).mono rfl)

theorem aerAck_only : ∀ x0, OnlyM 8796093022208 x0 (aerAck x0) := by
  intro x0
  unfold aerAck
  refine OnlyM.comp (upd_lan _ _) (by rfl) ?_
  exact OnlyM.refl _ _

theorem setCore_only : ∀ x0 x1 x2, OnlyM 2199023255552 x0 (setCore x0 x1 x2) := by
  intro x0 x1 x2
  unfold setCore
  refine OnlyM.comp (upd_gal _ _) (by rfl) ?_
  exact OnlyM.refl _ _

theorem groupClock_only : ∀ x0 x1 x2 x3, OnlyM 2199023255552 x0 (groupClock x0 x1 x2 x3) := by
  intro x0 x1 x2 x3
  unfold groupClock
  refine OnlyM.foldl ?_ (fun _ _ _ => ?_)
  · exact OnlyM.refl _ _
  · refine OnlyM.comp (setCore_only _ _ _) (by rfl) ?_
    assumption

theorem setQue_only : ∀ x0 x1 x2, OnlyM 2199023255552 x0 (setQue x0 x1 x2) := by
  intro x0 x1 x2
  unfold setQue
  refine OnlyM.comp (upd_gal _ _) (by rfl) ?_
  exact OnlyM.refl _ _

theorem setJob_only : ∀ x0 x1 x2, OnlyM 2199023255552 x0 (setJob x0 x1 x2) := by
  intro x0 x1 x2
  unfold setJob
  refine OnlyM.comp (setQue_only _ _ _) (by rfl) ?_
  exact OnlyM.refl _ _

theorem preemptCopy_only : ∀ x0 x1 x2 x3 x4 x5, OnlyM 2199023255744 x0 (preemptCopy x0 x1 x2 x3 x4 x5) := by
  intro x0 x1 x2 x3 x4 x5
  unfold preemptCopy
  lift_lets
  intro y0
  clear_value y0
  intro y1
  clear_value y1
  intro y2
  refine OnlyM.useHave (show OnlyM 2199023255744 x0 y2 from ?_) (fun hy2 => ?_)
  · unfold y2
    refine OnlyM.foldl ?_ (fun _ _ _ => ?_)
    · exact OnlyM.refl _ _
    · lift_lets
      intro y3
      clear_value y3
      refine OnlyM.ite ?_ ?_
      · refine OnlyM.comp (setCore_only _ _ _) (by rfl) ?_
        assumption
      · assumption
  clear_value y2
  refine OnlyM.comp (bump_only _ _ _ _) (by rfl) ?_
  refine OnlyM.comp (setJob_only _ _ _) (by rfl) ?_
  assumption

theorem afterKernel_only : ∀ x0 x1 x2 x3 x4 x5 x6 x7 x8, OnlyM 2199023255744 x0 (afterKernel x0 x1 x2 x3 x4 x5 x6 x7 x8) := by
  intro x0 x1 x2 x3 x4 x5 x6 x7 x8
  unfold afterKernel
  refine OnlyM.ite ?_ ?_
  · refine OnlyM.comp (setJob_only _ _ _) (by rfl) ?_
    exact OnlyM.refl _ _
  · refine OnlyM.ite ?_ ?_
    · refine OnlyM.comp (setJob_only _ _ _) (by rfl) ?_
      exact OnlyM.refl _ _
    · refine OnlyM.ite ?_ ?_
      · refine OnlyM.comp (setJob_only _ _ _) (by rfl) ?_
        exact OnlyM.refl _ _
      · lift_lets
        intro y0
        clear_value y0
        intro y1
        clear_value y1
        intro y2
        refine OnlyM.useHave (show OnlyM 2199023255744 x0 y2 from ?_) (fun hy2 => ?_)
        · unfold y2
          refine OnlyM.comp (groupClock_only _ _ _ _) (by rfl) ?_
          exact OnlyM.refl _ _
        clear_value y2
        refine OnlyM.ite ?_ ?_
        · refine OnlyM.comp (preemptCopy_only _ _ _ _ _ _) (by rfl) ?_
          assumption
        · refine OnlyM.comp (setJob_only _ _ _) (by rfl) ?_
          assumption

theorem ageCount_only : ∀ x0 x1, OnlyM 281474976710848 x0 (ageCount x0 x1) := by
  intro x0 x1
  unfold ageCount
  lift_lets
  intro y0
  refine OnlyM.useHave (show OnlyM 281474976710848 x0 y0 from ?_) (fun hy0 => ?_)
  · unfold y0
    refine OnlyM.comp (bump_only _ _ _ _) (by rfl) ?_
    exact OnlyM.refl _ _
  clear_value y0
  intro y1
  clear_value y1
  refine OnlyM.ite ?_ ?_
  · refine OnlyM.comp (upd_saf _ _) (by rfl) ?_
    assumption
  · assumption

theorem commandRejected_only : ∀ x0 x1 x2 x3, OnlyM 12583104 x0 (commandRejected x0 x1 x2 x3) := by
  intro x0 x1 x2 x3
  unfold commandRejected
  refine OnlyM.comp (class2_only _ _) (by rfl) ?_
  exact OnlyM.refl _ _

theorem tripSto_only : ∀ x0 x1 x2, OnlyM 105553116266496 x0 (tripSto x0 x1 x2) := by
  intro x0 x1 x2
  unfold tripSto
  lift_lets
  intro y0
  clear_value y0
  intro y1
  refine OnlyM.useHave (show OnlyM 105553116266496 x0 y1 from ?_) (fun hy1 => ?_)
  · unfold y1
    refine OnlyM.comp (setAx_only _ _ _) (by rfl) ?_
    exact OnlyM.refl _ _
  clear_value y1
  intro y2
  refine OnlyM.useHave (show OnlyM 105553116266496 x0 y2 from ?_) (fun hy2 => ?_)
  · unfold y2
    refine OnlyM.comp (axisClear_only _ _) (by rfl) ?_
    assumption
  clear_value y2
  intro y3
  clear_value y3
  refine OnlyM.ite ?_ ?_
  · refine OnlyM.comp (setCe_only _ _ _) (by rfl) ?_
    assumption
  · assumption

theorem reactAxis_only : ∀ x0 x1 x2, OnlyM 105553116266496 x0 (reactAxis x0 x1 x2) := by
  intro x0 x1 x2
  unfold reactAxis
  lift_lets
  intro y0
  clear_value y0
  intro y1
  refine OnlyM.useHave (show OnlyM 105553116266496 x0 y1 from ?_) (fun hy1 => ?_)
  · unfold y1
    refine OnlyM.comp (flushFifo_only _ _) (by rfl) ?_
    exact OnlyM.refl _ _
  clear_value y1
  intro y2
  clear_value y2
  refine OnlyM.ite ?_ ?_
  · exact OnlyM.refl _ _
  · split
    · exact OnlyM.refl _ _
    · refine OnlyM.comp (setCe_only _ _ _) (by rfl) ?_
      exact OnlyM.refl _ _
    · refine OnlyM.comp (setCe_only _ _ _) (by rfl) ?_
      exact OnlyM.refl _ _
    · refine OnlyM.comp (setCe_only _ _ _) (by rfl) ?_
      assumption
    · refine OnlyM.comp (setCe_only _ _ _) (by rfl) ?_
      assumption
    · refine OnlyM.comp (tripSto_only _ _ _) (by rfl) ?_
      refine OnlyM.comp (setCe_only _ _ _) (by rfl) ?_
      exact OnlyM.refl _ _

theorem startReaction_only : ∀ x0 x1 x2 x3 x4 x5 x6 x7 x8, OnlyM 387036695494848 x0 (startReaction x0 x1 x2 x3 x4 x5 x6 x7 x8) := by
  intro x0 x1 x2 x3 x4 x5 x6 x7 x8
  unfold startReaction
  refine OnlyM.ite ?_ ?_
  · exact OnlyM.refl _ _
  · lift_lets
    intro y0
    refine OnlyM.useHave (show OnlyM 387036695494848 x0 y0 from ?_) (fun hy0 => ?_)
    · unfold y0
      split
      · refine OnlyM.comp (emcy_only _ _ _ _) (by rfl) ?_
        exact OnlyM.refl _ _
      · exact OnlyM.refl _ _
    clear_value y0
    intro y1
    refine OnlyM.useHave (show OnlyM 387036695494848 x0 y1 from ?_) (fun hy1 => ?_)
    · unfold y1
      refine OnlyM.foldl ?_ (fun _ _ _ => ?_)
      · assumption
      · refine OnlyM.comp (reactAxis_only _ _ _) (by rfl) ?_
        assumption
    clear_value y1
    intro y2
    refine OnlyM.useHave (show OnlyM 387036695494848 x0 y2 from ?_) (fun hy2 => ?_)
    · unfold y2
      refine OnlyM.comp (putN_only _ _ _ _) (by rfl) ?_
      assumption
    clear_value y2
    refine OnlyM.ite ?_ ?_
    · assumption
    · refine OnlyM.comp (logField_only _ _) (by rfl) ?_
      assumption

theorem ageReject_only : ∀ x0 x1 x2, OnlyM 387036695494848 x0 (ageReject x0 x1 x2) := by
  intro x0 x1 x2
  unfold ageReject
  lift_lets
  intro y0
  clear_value y0
  intro y1
  clear_value y1
  intro y2
  refine OnlyM.useHave (show OnlyM 387036695494848 x0 y2 from ?_) (fun hy2 => ?_)
  · unfold y2
    refine OnlyM.comp (logField_only _ _) (by rfl) ?_
    exact OnlyM.refl _ _
  clear_value y2
  intro y3
  refine OnlyM.useHave (show OnlyM 387036695494848 x0 y3 from ?_) (fun hy3 => ?_)
  · unfold y3
    refine OnlyM.comp (commandRejected_only _ _ _ _) (by rfl) ?_
    assumption
  clear_value y3
  refine OnlyM.comp (startReaction_only _ _ _ _ _ _ _ _ _) (by rfl) ?_
  assumption

theorem discardSet_only : ∀ x0 x1, OnlyM 1073741824 x0 (discardSet x0 x1) := by
  intro x0 x1
  unfold discardSet
  refine OnlyM.comp (setStg_only _ _ _) (by rfl) ?_
  exact OnlyM.refl _ _

theorem fieldResponse_only : ∀ x0 x1 x2 x3 x4 x5 x6 x7 x8, OnlyM 12582912 x0 (fieldResponse x0 x1 x2 x3 x4 x5 x6 x7 x8) := by
  intro x0 x1 x2 x3 x4 x5 x6 x7 x8
  unfold fieldResponse
  refine OnlyM.comp (ropeSend_only _ _ _) (by rfl) ?_
  exact OnlyM.refl _ _

theorem sdoAnswer_only : ∀ x0 x1 x2 x3 x4, OnlyM 8589934592 x0 (sdoAnswer x0 x1 x2 x3 x4) := by
  intro x0 x1 x2 x3 x4
  unfold sdoAnswer
  refine OnlyM.ite ?_ ?_
  · refine OnlyM.comp (upd_bus _ _) (by rfl) ?_
    exact OnlyM.refl _ _
  · exact OnlyM.refl _ _

theorem answerWrite_only : ∀ x0 x1 x2 x3 x4, OnlyM 8602517504 x0 (answerWrite x0 x1 x2 x3 x4) := by
  intro x0 x1 x2 x3 x4
  unfold answerWrite
  split
  · exact OnlyM.refl _ _
  · refine OnlyM.comp (sdoAnswer_only _ _ _ _ _) (by rfl) ?_
    exact OnlyM.refl _ _
  · refine OnlyM.comp (fieldResponse_only _ _ _ _ _ _ _ _ _) (by rfl) ?_
    exact OnlyM.refl _ _

theorem setAnswer_only : ∀ x0 x1 x2, OnlyM 9676259328 x0 (setAnswer x0 x1 x2) := by
  intro x0 x1 x2
  unfold setAnswer
  lift_lets
  intro y0
  clear_value y0
  refine OnlyM.comp (answerWrite_only _ _ _ _ _) (by rfl) ?_
  refine OnlyM.comp (setStg_only _ _ _) (by rfl) ?_
  exact OnlyM.refl _ _

theorem failSet_only : ∀ x0 x1 x2 x3 x4, OnlyM 9676259520 x0 (failSet x0 x1 x2 x3 x4) := by
  intro x0 x1 x2 x3 x4
  unfold failSet
  refine OnlyM.comp (setAnswer_only _ _ _) (by rfl) ?_
  refine OnlyM.comp (bump_only _ _ _ _) (by rfl) ?_
  refine OnlyM.comp (setStg_only _ _ _) (by rfl) ?_
  exact OnlyM.refl _ _

theorem alSets_only : ∀ x0, OnlyM 9676259520 x0 (alSets x0) := by
  intro x0
  unfold alSets
  refine OnlyM.foldl ?_ (fun _ _ _ => ?_)
  · exact OnlyM.refl _ _
  · lift_lets
    intro y0
    clear_value y0
    refine OnlyM.ite ?_ ?_
    · refine OnlyM.comp (discardSet_only _ _) (by rfl) ?_
      refine OnlyM.comp (setAnswer_only _ _ _) (by rfl) ?_
      assumption
    · refine OnlyM.ite ?_ ?_
      · split
        · refine OnlyM.comp (failSet_only _ _ _ _ _) (by rfl) ?_
          assumption
        · assumption
      · assumption

theorem emcyFlush_only : ∀ x0, OnlyM 8589934784 x0 (emcyFlush x0) := by
  intro x0
  unfold emcyFlush
  lift_lets
  intro y0
  refine OnlyM.useHave (show OnlyM 8589934784 x0 y0 from ?_) (fun hy0 => ?_)
  · unfold y0
    refine OnlyM.foldl ?_ (fun _ _ _ => ?_)
    · exact OnlyM.refl _ _
    · refine OnlyM.comp (emcySend_only _ _) (by rfl) ?_
      assumption
  clear_value y0
  intro y1
  clear_value y1
  refine OnlyM.comp (upd_bus _ _) (by rfl) ?_
  assumption

theorem stoAll_only : ∀ x0, OnlyM 105553116266496 x0 (stoAll x0) := by
  intro x0
  unfold stoAll
  refine OnlyM.foldl ?_ (fun _ _ _ => ?_)
  · exact OnlyM.refl _ _
  · refine OnlyM.comp (tripSto_only _ _ _) (by rfl) ?_
    assumption

theorem setAl_only : ∀ x0 x1 x2 x3 x4, OnlyM 387037769236672 x0 (setAl x0 x1 x2 x3 x4) := by
  intro x0 x1 x2 x3 x4
  unfold setAl
  lift_lets
  intro y0
  clear_value y0
  intro y1
  clear_value y1
  intro y2
  refine OnlyM.useHave (show OnlyM 387037769236672 x0 y2 from ?_) (fun hy2 => ?_)
  · unfold y2
    refine OnlyM.comp (upd_bus _ _) (by rfl) ?_
    exact OnlyM.refl _ _
  clear_value y2
  intro y3
  refine OnlyM.useHave (show OnlyM 387037769236672 x0 y3 from ?_) (fun hy3 => ?_)
  · unfold y3
    refine OnlyM.ite ?_ ?_
    · refine OnlyM.comp (startReaction_only _ _ _ _ _ _ _ _ _) (by rfl) ?_
      assumption
    · assumption
  clear_value y3
  intro y4
  refine OnlyM.useHave (show OnlyM 387037769236672 x0 y4 from ?_) (fun hy4 => ?_)
  · unfold y4
    refine OnlyM.ite ?_ ?_
    · refine OnlyM.comp (emcyFlush_only _) (by rfl) ?_
      assumption
    · assumption
  clear_value y4
  intro y5
  refine OnlyM.useHave (show OnlyM 387037769236672 x0 y5 from ?_) (fun hy5 => ?_)
  · unfold y5
    refine OnlyM.ite ?_ ?_
    · refine OnlyM.comp (alSets_only _) (by rfl) ?_
      assumption
    · assumption
  clear_value y5
  refine OnlyM.ite ?_ ?_
  · refine OnlyM.comp (stoAll_only _) (by rfl) ?_
    assumption
  · assumption

theorem alRequest_only : ∀ x0 x1, OnlyM 387037769236672 x0 (alRequest x0 x1) := by
  intro x0 x1
  unfold alRequest
  refine OnlyM.ite ?_ ?_
  · refine OnlyM.comp (setAl_only _ _ _ _ _) (by rfl) ?_
    exact OnlyM.refl _ _
  · refine OnlyM.comp (upd_bus _ _) (by rfl) ?_
    exact OnlyM.refl _ _

theorem answerMaster_only : ∀ x0 x1 x2 x3 x4 x5 x6, OnlyM 12582912 x0 (answerMaster x0 x1 x2 x3 x4 x5 x6) := by
  intro x0 x1 x2 x3 x4 x5 x6
  unfold answerMaster
  lift_lets
  intro y0
  clear_value y0
  intro y1
  clear_value y1
  refine OnlyM.foldl ?_ (fun _ _ _ => ?_)
  · exact OnlyM.refl _ _
  · refine OnlyM.comp (ropeSend_only _ _ _) (by rfl) ?_
    assumption

theorem aplicForwardAll_only : ∀ x0 x1, OnlyM 17179869184 x0 (aplicForwardAll x0 x1) := by
  intro x0 x1
  unfold aplicForwardAll
  refine OnlyM.foldl ?_ (fun _ _ _ => ?_)
  · exact OnlyM.refl _ _
  · refine OnlyM.comp (aplicForward_only _ _ _) (by rfl) ?_
    assumption

theorem aplicWrite_only : ∀ x0 x1 x2 x3, OnlyM 17179869184 x0 (aplicWrite x0 x1 x2 x3) := by
  intro x0 x1 x2 x3
  unfold aplicWrite
  lift_lets
  intro y0
  clear_value y0
  intro y1
  clear_value y1
  intro y2
  clear_value y2
  intro y3
  clear_value y3
  intro y4
  refine OnlyM.useHave (show OnlyM 17179869184 x0 y4 from ?_) (fun hy4 => ?_)
  · unfold y4
    refine OnlyM.comp (setAplic_only _ _ _) (by rfl) ?_
    exact OnlyM.refl _ _
  clear_value y4
  intro y5
  clear_value y5
  intro y6
  clear_value y6
  refine OnlyM.ite ?_ ?_
  · refine OnlyM.comp (aplicForwardAll_only _ _) (by rfl) ?_
    refine OnlyM.comp (setAplic_only _ _ _) (by rfl) ?_
    exact OnlyM.refl _ _
  · refine OnlyM.ite ?_ ?_
    · refine OnlyM.ite ?_ ?_
      · refine OnlyM.comp (setAplic_only _ _ _) (by rfl) ?_
        assumption
      · assumption
    · refine OnlyM.ite ?_ ?_
      · refine OnlyM.ite ?_ ?_
        · exact OnlyM.refl _ _
        · refine OnlyM.comp (setAplic_only _ _ _) (by rfl) ?_
          exact OnlyM.refl _ _
      · refine OnlyM.ite ?_ ?_
        · refine OnlyM.foldl ?_ (fun _ _ _ => ?_)
          · exact OnlyM.refl _ _
          · refine OnlyM.comp (aplicPend_only _ _ _) (by rfl) ?_
            assumption
        · refine OnlyM.ite ?_ ?_
          · refine OnlyM.comp (aplicPend_only _ _ _) (by rfl) ?_
            exact OnlyM.refl _ _
          · refine OnlyM.ite ?_ ?_
            · refine OnlyM.comp (aplicPend_only _ _ _) (by rfl) ?_
              exact OnlyM.refl _ _
            · refine OnlyM.ite ?_ ?_
              · refine OnlyM.comp (setAplic_only _ _ _) (by rfl) ?_
                exact OnlyM.refl _ _
              · refine OnlyM.ite ?_ ?_
                · refine OnlyM.comp (setAplic_only _ _ _) (by rfl) ?_
                  exact OnlyM.refl _ _
                · refine OnlyM.ite ?_ ?_
                  · refine OnlyM.comp (aplicForwardAll_only _ _) (by rfl) ?_
                    refine OnlyM.comp (setAplic_only _ _ _) (by rfl) ?_
                    exact OnlyM.refl _ _
                  · refine OnlyM.ite ?_ ?_
                    · refine OnlyM.ite ?_ ?_
                      · exact OnlyM.refl _ _
                      · refine OnlyM.comp (aplicForward_only _ _ _) (by rfl) ?_
                        refine OnlyM.comp (setAplic_only _ _ _) (by rfl) ?_
                        exact OnlyM.refl _ _
                    · refine OnlyM.ite ?_ ?_
                      · refine OnlyM.comp (setAplic_only _ _ _) (by rfl) ?_
                        exact OnlyM.refl _ _
                      · refine OnlyM.ite ?_ ?_
                        · refine OnlyM.comp (setAplic_only _ _ _) (by rfl) ?_
                          exact OnlyM.refl _ _
                        · refine OnlyM.ite ?_ ?_
                          · refine OnlyM.comp (imsicSet_only _ _ _) (by rfl) ?_
                            refine OnlyM.comp (setAplic_only _ _ _) (by rfl) ?_
                            exact OnlyM.refl _ _
                          · refine OnlyM.ite ?_ ?_
                            · refine OnlyM.ite ?_ ?_
                              · exact OnlyM.refl _ _
                              · refine OnlyM.comp (setAplic_only _ _ _) (by rfl) ?_
                                exact OnlyM.refl _ _
                            · exact OnlyM.refl _ _

theorem disableAxis_only : ∀ x0 x1 x2, OnlyM 105553116266496 x0 (disableAxis x0 x1 x2) := by
  intro x0 x1 x2
  unfold disableAxis
  lift_lets
  intro y0
  refine OnlyM.useHave (show OnlyM 105553116266496 x0 y0 from ?_) (fun hy0 => ?_)
  · unfold y0
    refine OnlyM.comp (axisClear_only _ _) (by rfl) ?_
    exact OnlyM.refl _ _
  clear_value y0
  intro y1
  clear_value y1
  refine OnlyM.comp (driveTrip_only _ _) (by rfl) ?_
  refine OnlyM.comp (setCe_only _ _ _) (by rfl) ?_
  assumption

theorem homingFailed_only : ∀ x0 x1, OnlyM 70377334112448 x0 (homingFailed x0 x1) := by
  intro x0 x1
  unfold homingFailed
  refine OnlyM.ite ?_ ?_
  · refine OnlyM.comp (emcy_only _ _ _ _) (by rfl) ?_
    refine OnlyM.comp (setCe_only _ _ _) (by rfl) ?_
    exact OnlyM.refl _ _
  · exact OnlyM.refl _ _

theorem leaveTo_only : ∀ x0 x1 x2, OnlyM 105561706201280 x0 (leaveTo x0 x1 x2) := by
  intro x0 x1 x2
  unfold leaveTo
  refine OnlyM.comp (disableAxis_only _ _ _) (by rfl) ?_
  refine OnlyM.comp (homingFailed_only _ _) (by rfl) ?_
  exact OnlyM.refl _ _

theorem disableVoltage_only : ∀ x0 x1, OnlyM 105561706201280 x0 (disableVoltage x0 x1) := by
  intro x0 x1
  unfold disableVoltage
  split
  · refine OnlyM.comp (setCe_only _ _ _) (by rfl) ?_
    exact OnlyM.refl _ _
  · refine OnlyM.comp (setCe_only _ _ _) (by rfl) ?_
    exact OnlyM.refl _ _
  · refine OnlyM.comp (leaveTo_only _ _ _) (by rfl) ?_
    exact OnlyM.refl _ _
  · refine OnlyM.comp (leaveTo_only _ _ _) (by rfl) ?_
    exact OnlyM.refl _ _
  · exact OnlyM.refl _ _

theorem enableOperation_only : ∀ x0 x1, OnlyM 105553116266688 x0 (enableOperation x0 x1) := by
  intro x0 x1
  unfold enableOperation
  lift_lets
  intro y0
  clear_value y0
  intro y1
  clear_value y1
  intro y2
  clear_value y2
  intro y3
  clear_value y3
  intro y4
  refine OnlyM.useHave (show OnlyM 105553116266688 x0 y4 from ?_) (fun hy4 => ?_)
  · unfold y4
    refine OnlyM.comp (setAx_only _ _ _) (by rfl) ?_
    exact OnlyM.refl _ _
  clear_value y4
  refine OnlyM.ite ?_ ?_
  · refine OnlyM.comp (putN_only _ _ _ _) (by rfl) ?_
    refine OnlyM.comp (setCe_only _ _ _) (by rfl) ?_
    exact OnlyM.refl _ _
  · refine OnlyM.comp (setCe_only _ _ _) (by rfl) ?_
    assumption

theorem enableCommand_only : ∀ x0 x1, OnlyM 105553116266688 x0 (enableCommand x0 x1) := by
  intro x0 x1
  unfold enableCommand
  lift_lets
  intro y0
  clear_value y0
  split
  · refine OnlyM.comp (enableOperation_only _ _) (by rfl) ?_
    exact OnlyM.refl _ _
  · refine OnlyM.comp (enableOperation_only _ _) (by rfl) ?_
    exact OnlyM.refl _ _
  · refine OnlyM.ite ?_ ?_
    · exact OnlyM.refl _ _
    · refine OnlyM.comp (setCe_only _ _ _) (by rfl) ?_
      exact OnlyM.refl _ _
  · refine OnlyM.ite ?_ ?_
    · exact OnlyM.refl _ _
    · refine OnlyM.ite ?_ ?_
      · refine OnlyM.comp (setCe_only _ _ _) (by rfl) ?_
        exact OnlyM.refl _ _
      · exact OnlyM.refl _ _
  · exact OnlyM.refl _ _

theorem coolReset_only : ∀ x0, OnlyM 281474976710656 x0 (coolReset x0) := by
  intro x0
  unfold coolReset
  refine OnlyM.ite ?_ ?_
  · refine OnlyM.comp (upd_saf _ _) (by rfl) ?_
    exact OnlyM.refl _ _
  · exact OnlyM.refl _ _

theorem errorCleared_only : ∀ x0 x1, OnlyM 8589934784 x1 (errorCleared x0 x1) := by
  intro x0 x1
  unfold errorCleared
  refine OnlyM.ite ?_ ?_
  · refine OnlyM.comp (emcy_only _ _ _ _) (by rfl) ?_
    exact OnlyM.refl _ _
  · exact OnlyM.refl _ _

theorem faultReset_only : ∀ x0 x1, OnlyM 351852310823104 x0 (faultReset x0 x1) := by
  intro x0 x1
  unfold faultReset
  lift_lets
  intro y0
  refine OnlyM.useHave (show OnlyM 351852310823104 x0 y0 from ?_) (fun hy0 => ?_)
  · unfold y0
    refine OnlyM.comp (coolReset_only _) (by rfl) ?_
    exact OnlyM.refl _ _
  clear_value y0
  intro y1
  clear_value y1
  intro y2
  refine OnlyM.useHave (show OnlyM 351852310823104 x0 y2 from ?_) (fun hy2 => ?_)
  · unfold y2
    refine OnlyM.comp (setCe_only _ _ _) (by rfl) ?_
    assumption
  clear_value y2
  refine OnlyM.ite ?_ ?_
  · refine OnlyM.comp (errorCleared_only _ _) (by rfl) ?_
    refine OnlyM.comp (putN_only _ _ _ _) (by rfl) ?_
    assumption
  · assumption

theorem startMove_only : ∀ x0 x1 x2, OnlyM 70368744177664 x0 (startMove x0 x1 x2) := by
  intro x0 x1 x2
  unfold startMove
  lift_lets
  intro y0
  clear_value y0
  intro y1
  clear_value y1
  refine OnlyM.comp (setCe_only _ _ _) (by rfl) ?_
  exact OnlyM.refl _ _

theorem ppSetpoint_only : ∀ x0 x1 x2, OnlyM 70368744177664 x0 (ppSetpoint x0 x1 x2) := by
  intro x0 x1 x2
  unfold ppSetpoint
  lift_lets
  intro y0
  clear_value y0
  intro y1
  clear_value y1
  intro y2
  clear_value y2
  intro y3
  refine OnlyM.useHave (show OnlyM 70368744177664 x0 y3 from ?_) (fun hy3 => ?_)
  · unfold y3
    refine OnlyM.comp (setCe_only _ _ _) (by rfl) ?_
    exact OnlyM.refl _ _
  clear_value y3
  intro y4
  clear_value y4
  refine OnlyM.ite ?_ ?_
  · exact OnlyM.refl _ _
  · refine OnlyM.ite ?_ ?_
    · refine OnlyM.comp (startMove_only _ _ _) (by rfl) ?_
      assumption
    · refine OnlyM.comp (setCe_only _ _ _) (by rfl) ?_
      assumption

theorem takeHome_only : ∀ x0 x1, OnlyM 70368744177664 x0 (takeHome x0 x1) := by
  intro x0 x1
  unfold takeHome
  lift_lets
  intro y0
  clear_value y0
  intro y1
  clear_value y1
  intro y2
  clear_value y2
  refine OnlyM.comp (setCe_only _ _ _) (by rfl) ?_
  exact OnlyM.refl _ _

theorem startHoming_only : ∀ x0 x1, OnlyM 70368744177664 x0 (startHoming x0 x1) := by
  intro x0 x1
  unfold startHoming
  lift_lets
  intro y0
  clear_value y0
  intro y1
  clear_value y1
  intro y2
  refine OnlyM.useHave (show OnlyM 70368744177664 x0 y2 from ?_) (fun hy2 => ?_)
  · unfold y2
    refine OnlyM.comp (setCe_only _ _ _) (by rfl) ?_
    exact OnlyM.refl _ _
  clear_value y2
  intro y3
  clear_value y3
  refine OnlyM.ite ?_ ?_
  · refine OnlyM.comp (takeHome_only _ _) (by rfl) ?_
    assumption
  · refine OnlyM.comp (setCe_only _ _ _) (by rfl) ?_
    assumption

theorem modeBits_only : ∀ x0 x1 x2 x3, OnlyM 70377334112448 x0 (modeBits x0 x1 x2 x3) := by
  intro x0 x1 x2 x3
  unfold modeBits
  lift_lets
  intro y0
  clear_value y0
  intro y1
  clear_value y1
  intro y2
  clear_value y2
  intro y3
  refine OnlyM.useHave (show OnlyM 70377334112448 x0 y3 from ?_) (fun hy3 => ?_)
  · unfold y3
    refine OnlyM.comp (homingFailed_only _ _) (by rfl) ?_
    exact OnlyM.refl _ _
  clear_value y3
  intro y4
  clear_value y4
  refine OnlyM.ite ?_ ?_
  · exact OnlyM.refl _ _
  · refine OnlyM.ite ?_ ?_
    · refine OnlyM.ite ?_ ?_
      · refine OnlyM.comp (ppSetpoint_only _ _ _) (by rfl) ?_
        exact OnlyM.refl _ _
      · refine OnlyM.ite ?_ ?_
        · exact OnlyM.refl _ _
        · refine OnlyM.comp (setCe_only _ _ _) (by rfl) ?_
          exact OnlyM.refl _ _
    · refine OnlyM.ite ?_ ?_
      · refine OnlyM.ite ?_ ?_
        · refine OnlyM.comp (startHoming_only _ _) (by rfl) ?_
          exact OnlyM.refl _ _
        · refine OnlyM.ite ?_ ?_
          · refine OnlyM.comp (setCe_only _ _ _) (by rfl) ?_
            assumption
          · exact OnlyM.refl _ _
      · exact OnlyM.refl _ _

theorem quickStop_only : ∀ x0 x1, OnlyM 105561706201280 x0 (quickStop x0 x1) := by
  intro x0 x1
  unfold quickStop
  lift_lets
  intro y0
  clear_value y0
  intro y1
  clear_value y1
  intro y2
  refine OnlyM.useHave (show OnlyM 105561706201280 x0 y2 from ?_) (fun hy2 => ?_)
  · unfold y2
    refine OnlyM.comp (homingFailed_only _ _) (by rfl) ?_
    exact OnlyM.refl _ _
  clear_value y2
  intro y3
  refine OnlyM.useHave (show OnlyM 105561706201280 x0 y3 from ?_) (fun hy3 => ?_)
  · unfold y3
    refine OnlyM.comp (flushFifo_only _ _) (by rfl) ?_
    assumption
  clear_value y3
  intro y4
  clear_value y4
  split
  · refine OnlyM.ite ?_ ?_
    · refine OnlyM.comp (disableAxis_only _ _ _) (by rfl) ?_
      assumption
    · refine OnlyM.comp (setCe_only _ _ _) (by rfl) ?_
      assumption
  · refine OnlyM.comp (setCe_only _ _ _) (by rfl) ?_
    exact OnlyM.refl _ _
  · refine OnlyM.comp (setCe_only _ _ _) (by rfl) ?_
    exact OnlyM.refl _ _
  · exact OnlyM.refl _ _

theorem shutdown_only : ∀ x0 x1, OnlyM 105561706201280 x0 (shutdown x0 x1) := by
  intro x0 x1
  unfold shutdown
  split
  · refine OnlyM.comp (setCe_only _ _ _) (by rfl) ?_
    exact OnlyM.refl _ _
  · refine OnlyM.comp (setCe_only _ _ _) (by rfl) ?_
    exact OnlyM.refl _ _
  · refine OnlyM.comp (leaveTo_only _ _ _) (by rfl) ?_
    exact OnlyM.refl _ _
  · exact OnlyM.refl _ _

theorem switchOn_only : ∀ x0 x1, OnlyM 105561706201280 x0 (switchOn x0 x1) := by
  intro x0 x1
  unfold switchOn
  split
  · refine OnlyM.comp (setCe_only _ _ _) (by rfl) ?_
    exact OnlyM.refl _ _
  · refine OnlyM.comp (leaveTo_only _ _ _) (by rfl) ?_
    exact OnlyM.refl _ _
  · exact OnlyM.refl _ _

theorem controlword_only : ∀ x0 x1 x2, OnlyM 387036682911936 x0 (controlword x0 x1 x2) := by
  intro x0 x1 x2
  unfold controlword
  lift_lets
  intro y0
  clear_value y0
  intro y1
  clear_value y1
  intro y2
  refine OnlyM.useHave (show OnlyM 387036682911936 x0 y2 from ?_) (fun hy2 => ?_)
  · unfold y2
    refine OnlyM.comp (setCe_only _ _ _) (by rfl) ?_
    exact OnlyM.refl _ _
  clear_value y2
  intro y3
  refine OnlyM.useHave (show OnlyM 387036682911936 x0 y3 from ?_) (fun hy3 => ?_)
  · unfold y3
    refine OnlyM.ite ?_ ?_
    · refine OnlyM.comp (faultReset_only _ _) (by rfl) ?_
      assumption
    · refine OnlyM.ite ?_ ?_
      · refine OnlyM.comp (disableVoltage_only _ _) (by rfl) ?_
        assumption
      · refine OnlyM.ite ?_ ?_
        · refine OnlyM.comp (quickStop_only _ _) (by rfl) ?_
          assumption
        · refine OnlyM.ite ?_ ?_
          · refine OnlyM.comp (shutdown_only _ _) (by rfl) ?_
            assumption
          · refine OnlyM.ite ?_ ?_
            · refine OnlyM.comp (switchOn_only _ _) (by rfl) ?_
              assumption
            · refine OnlyM.comp (enableCommand_only _ _) (by rfl) ?_
              assumption
  clear_value y3
  refine OnlyM.comp (modeBits_only _ _ _ _) (by rfl) ?_
  assumption

theorem drawn_only : ∀ x0, OnlyM 2251799813685248 x0 (drawn x0) := by
  intro x0
  unfold drawn
  refine OnlyM.comp (upd_freeCtr _ _) (by rfl) ?_
  exact OnlyM.refl _ _

theorem conversionWrite_only : ∀ x0 x1, OnlyM 2251799813685440 x0 (conversionWrite x0 x1) := by
  intro x0 x1
  unfold conversionWrite
  lift_lets
  intro y0
  refine OnlyM.useHave (show OnlyM 2251799813685440 x0 y0 from ?_) (fun hy0 => ?_)
  · unfold y0
    refine OnlyM.comp (putN_only _ _ _ _) (by rfl) ?_
    exact OnlyM.refl _ _
  clear_value y0
  split
  · refine OnlyM.comp (putN_only _ _ _ _) (by rfl) ?_
    refine OnlyM.comp (putN_only _ _ _ _) (by rfl) ?_
    assumption
  · refine OnlyM.comp (drawn_only _) (by rfl) ?_
    refine OnlyM.comp (putN_only _ _ _ _) (by rfl) ?_
    refine OnlyM.comp (putN_only _ _ _ _) (by rfl) ?_
    assumption

theorem setPassed_only : ∀ x0 x1 x2, OnlyM 67584 x0 (setPassed x0 x1 x2) := by
  intro x0 x1 x2
  unfold setPassed
  split
  · refine OnlyM.comp (upd_pos _ _) (by rfl) ?_
    exact OnlyM.refl _ _
  · refine OnlyM.comp (upd_replica _ _) (by rfl) ?_
    exact OnlyM.refl _ _

theorem forgetPassed_only : ∀ x0 x1 x2, OnlyM 67584 x0 (forgetPassed x0 x1 x2) := by
  intro x0 x1 x2
  unfold forgetPassed
  refine OnlyM.comp (setPassed_only _ _ _) (by rfl) ?_
  exact OnlyM.refl _ _

theorem fireReportOf_only : ∀ x0 x1, OnlyM 65536 x0 (fireReportOf x0 x1) := by
  intro x0 x1
  unfold fireReportOf
  refine OnlyM.comp (upd_replica _ _) (by rfl) ?_
  exact OnlyM.refl _ _

theorem noteDrove_only : ∀ x0 x1, OnlyM 2048 x0 (noteDrove x0 x1) := by
  intro x0 x1
  unfold noteDrove
  refine OnlyM.ite ?_ ?_
  · refine OnlyM.comp (upd_pos _ _) (by rfl) ?_
    exact OnlyM.refl _ _
  · exact OnlyM.refl _ _

theorem axisGo_only : ∀ x0 x1, OnlyM 70368744177664 x0 (axisGo x0 x1) := by
  intro x0 x1
  unfold axisGo
  lift_lets
  intro y0
  clear_value y0
  split
  · refine OnlyM.comp (setCe_only _ _ _) (by rfl) ?_
    exact OnlyM.refl _ _
  · exact OnlyM.refl _ _

theorem latchAct_only : ∀ x0 x1 x2, OnlyM 67584 x0 (latchAct x0 x1 x2) := by
  intro x0 x1 x2
  unfold latchAct
  split
  · refine OnlyM.comp (upd_pos _ _) (by rfl) ?_
    exact OnlyM.refl _ _
  · refine OnlyM.comp (upd_replica _ _) (by rfl) ?_
    exact OnlyM.refl _ _

theorem drive_only : ∀ x0 x1 x2, OnlyM 16 x0 (drive x0 x1 x2) := by
  intro x0 x1 x2
  unfold drive
  refine OnlyM.comp (upd_pins _ _) (by rfl) ?_
  exact OnlyM.refl _ _

theorem levelAct_only : ∀ x0 x1 x2, OnlyM 48 x0 (levelAct x0 x1 x2) := by
  intro x0 x1 x2
  unfold levelAct
  refine OnlyM.comp (drive_only _ _ _) (by rfl) ?_
  refine OnlyM.comp (upd_pulses _ _) (by rfl) ?_
  exact OnlyM.refl _ _

theorem pulseTimed_only : ∀ x0 x1 x2, OnlyM 48 x0 (pulseTimed x0 x1 x2) := by
  intro x0 x1 x2
  unfold pulseTimed
  refine OnlyM.comp (drive_only _ _ _) (by rfl) ?_
  refine OnlyM.comp (upd_pulses _ _) (by rfl) ?_
  exact OnlyM.refl _ _

theorem commonAct_only : ∀ x0 x1 x2 x3 x4 x5, OnlyM 105553116334320 x0 (commonAct x0 x1 x2 x3 x4 x5) := by
  intro x0 x1 x2 x3 x4 x5
  unfold commonAct
  lift_lets
  intro y0
  clear_value y0
  refine OnlyM.ite ?_ ?_
  · refine OnlyM.ite ?_ ?_
    · exact OnlyM.refl _ _
    · refine OnlyM.comp (pulseTimed_only _ _ _) (by rfl) ?_
      exact OnlyM.refl _ _
  · refine OnlyM.ite ?_ ?_
    · refine OnlyM.comp (levelAct_only _ _ _) (by rfl) ?_
      exact OnlyM.refl _ _
    · refine OnlyM.ite ?_ ?_
      · refine OnlyM.comp (levelAct_only _ _ _) (by rfl) ?_
        exact OnlyM.refl _ _
      · refine OnlyM.ite ?_ ?_
        · refine OnlyM.comp (levelAct_only _ _ _) (by rfl) ?_
          exact OnlyM.refl _ _
        · refine OnlyM.ite ?_ ?_
          · refine OnlyM.comp (adcTrigger_only _ _ _) (by rfl) ?_
            exact OnlyM.refl _ _
          · refine OnlyM.ite ?_ ?_
            · refine OnlyM.comp (axisGo_only _ _) (by rfl) ?_
              exact OnlyM.refl _ _
            · refine OnlyM.ite ?_ ?_
              · refine OnlyM.comp (latchAct_only _ _ _) (by rfl) ?_
                exact OnlyM.refl _ _
              · exact OnlyM.refl _ _

theorem eventMsg_only : ∀ x0 x1 x2 x3, OnlyM 12583104 x0 (eventMsg x0 x1 x2 x3) := by
  intro x0 x1 x2 x3
  unfold eventMsg
  refine OnlyM.comp (class2_only _ _) (by rfl) ?_
  exact OnlyM.refl _ _

theorem setFlag_only : ∀ x0 x1 x2, OnlyM 137438953472 x0 (setFlag x0 x1 x2) := by
  intro x0 x1 x2
  unfold setFlag
  refine OnlyM.comp (upd_flags _ _) (by rfl) ?_
  exact OnlyM.refl _ _

theorem flagRelease_only : ∀ x0 x1, OnlyM 137438953664 x0 (flagRelease x0 x1) := by
  intro x0 x1
  unfold flagRelease
  lift_lets
  intro y0
  clear_value y0
  refine OnlyM.ite ?_ ?_
  · refine OnlyM.comp (bump_only _ _ _ _) (by rfl) ?_
    exact OnlyM.refl _ _
  · refine OnlyM.comp (setFlag_only _ _ _) (by rfl) ?_
    exact OnlyM.refl _ _

theorem setGph_only : ∀ x0 x1 x2, OnlyM 274877906944 x0 (setGph x0 x1 x2) := by
  intro x0 x1 x2
  unfold setGph
  refine OnlyM.comp (upd_graphs _ _) (by rfl) ?_
  exact OnlyM.refl _ _

theorem visRecord_only : ∀ x0 x1 x2 x3 x4, OnlyM 1407392076006592 x0 (visRecord x0 x1 x2 x3 x4) := by
  intro x0 x1 x2 x3 x4
  unfold visRecord
  lift_lets
  intro y0
  refine OnlyM.useHave (show OnlyM 1407392076006592 x0 y0 from ?_) (fun hy0 => ?_)
  · unfold y0
    refine OnlyM.comp (putObj_only _ _ _ _) (by rfl) ?_
    exact OnlyM.refl _ _
  clear_value y0
  intro y1
  clear_value y1
  intro y2
  clear_value y2
  intro y3
  clear_value y3
  intro y4
  refine OnlyM.useHave (show OnlyM 1407392076006592 x0 y4.1 from ?_) (fun hy4 => ?_)
  · unfold y4
    refine OnlyM.comp (engStore_only _ _ _ _) (by rfl) ?_
    assumption
  clear_value y4
  intro y5
  refine OnlyM.useHave (show OnlyM 1407392076006592 x0 y5 from ?_) (fun hy5 => ?_)
  · unfold y5
    refine OnlyM.comp (setReg_only _ _ _) (by rfl) ?_
    assumption
  clear_value y5
  refine OnlyM.ite ?_ ?_
  · refine OnlyM.ite ?_ ?_
    · refine OnlyM.comp (hostIrq_only _ _) (by rfl) ?_
      assumption
    · assumption
  · assumption

theorem noRun_only : ∀ x0 x1 x2 x3, OnlyM 1407804392867008 x0 (noRun x0 x1 x2 x3) := by
  intro x0 x1 x2 x3
  unfold noRun
  lift_lets
  intro y0
  clear_value y0
  intro y1
  clear_value y1
  intro y2
  clear_value y2
  intro y3
  refine OnlyM.useHave (show OnlyM 1407804392867008 x0 y3 from ?_) (fun hy3 => ?_)
  · unfold y3
    refine OnlyM.comp (setGph_only _ _ _) (by rfl) ?_
    exact OnlyM.refl _ _
  clear_value y3
  intro y4
  refine OnlyM.useHave (show OnlyM 1407804392867008 x0 y4 from ?_) (fun hy4 => ?_)
  · unfold y4
    split
    · refine OnlyM.comp (bump_only _ _ _ _) (by rfl) ?_
      assumption
    · refine OnlyM.comp (bump_only _ _ _ _) (by rfl) ?_
      assumption
    · refine OnlyM.comp (bump_only _ _ _ _) (by rfl) ?_
      assumption
    · assumption
  clear_value y4
  refine OnlyM.foldl ?_ (fun _ _ _ => ?_)
  · refine OnlyM.comp (visRecord_only _ _ _ _ _) (by rfl) ?_
    assumption
  · refine OnlyM.comp (flagRelease_only _ _) (by rfl) ?_
    assumption

theorem useFresh_only : ∀ x0 x1 x2, OnlyM 274877906944 x0 (useFresh x0 x1 x2) := by
  intro x0 x1 x2
  unfold useFresh
  refine OnlyM.comp (setGph_only _ _ _) (by rfl) ?_
  exact OnlyM.refl _ _

theorem graphRequest_only : ∀ x0 x1 x2, OnlyM 1407804392867008 x0 (graphRequest x0 x1 x2) := by
  intro x0 x1 x2
  unfold graphRequest
  lift_lets
  intro y0
  clear_value y0
  intro y1
  clear_value y1
  refine OnlyM.ite ?_ ?_
  · exact OnlyM.refl _ _
  · refine OnlyM.ite ?_ ?_
    · refine OnlyM.comp (setGph_only _ _ _) (by rfl) ?_
      exact OnlyM.refl _ _
    · refine OnlyM.ite ?_ ?_
      · refine OnlyM.comp (noRun_only _ _ _ _) (by rfl) ?_
        exact OnlyM.refl _ _
      · refine OnlyM.comp (noRun_only _ _ _ _) (by rfl) ?_
        refine OnlyM.comp (useFresh_only _ _ _) (by rfl) ?_
        exact OnlyM.refl _ _

theorem graphStartEvent_only : ∀ x0 x1, OnlyM 1407804392867008 x0 (graphStartEvent x0 x1) := by
  intro x0 x1
  unfold graphStartEvent
  refine OnlyM.ite ?_ ?_
  · refine OnlyM.comp (graphRequest_only _ _ _) (by rfl) ?_
    exact OnlyM.refl _ _
  · exact OnlyM.refl _ _

theorem emitResult_only : ∀ x0 x1 x2, OnlyM 12582912 x0 (emitResult x0 x1 x2).1 := by
  intro x0 x1 x2
  unfold emitResult
  lift_lets
  intro y0
  clear_value y0
  intro y1
  clear_value y1
  refine OnlyM.ite1 ?_ ?_
  · refine OnlyM.pair ?_
    exact OnlyM.refl _ _
  · refine OnlyM.ite1 ?_ ?_
    · refine OnlyM.pair ?_
      refine OnlyM.comp (ropeSend_only _ _ _) (by rfl) ?_
      exact OnlyM.refl _ _
    · refine OnlyM.pair ?_
      refine OnlyM.comp (ropeSend_only _ _ _) (by rfl) ?_
      exact OnlyM.refl _ _

theorem freeCores_only : ∀ x0 x1, OnlyM 2199023255552 x0 (freeCores x0 x1) := by
  intro x0 x1
  unfold freeCores
  refine OnlyM.foldl ?_ (fun _ _ _ => ?_)
  · exact OnlyM.refl _ _
  · refine OnlyM.ite ?_ ?_
    · refine OnlyM.comp (setCore_only _ _ _) (by rfl) ?_
      assumption
    · assumption

theorem cavWrite_only : ∀ x0 x1 x2, OnlyM 2199023255552 x0 (cavWrite x0 x1 x2) := by
  intro x0 x1 x2
  unfold cavWrite
  refine OnlyM.comp (upd_gal _ _) (by rfl) ?_
  exact OnlyM.refl _ _

theorem kvStoreTokens_only : ∀ x0 x1 x2, OnlyM 2199023255552 x0 (kvStoreTokens x0 x1 x2) := by
  intro x0 x1 x2
  unfold kvStoreTokens
  refine OnlyM.foldl ?_ (fun _ _ _ => ?_)
  · exact OnlyM.refl _ _
  · split
    · refine OnlyM.comp (cavWrite_only _ _ _) (by rfl) ?_
      assumption
    · assumption

theorem setPool_only : ∀ x0 x1 x2, OnlyM 4398046511104 x0 (setPool x0 x1 x2) := by
  intro x0 x1 x2
  unfold setPool
  refine OnlyM.comp (upd_kv _ _) (by rfl) ?_
  exact OnlyM.refl _ _

theorem setSeq_only : ∀ x0 x1 x2 x3, OnlyM 4398046511104 x0 (setSeq x0 x1 x2 x3) := by
  intro x0 x1 x2 x3
  unfold setSeq
  refine OnlyM.comp (setPool_only _ _ _) (by rfl) ?_
  exact OnlyM.refl _ _

theorem kvCommitOne_only : ∀ x0 x1 x2, OnlyM 6597069766848 x0 (kvCommitOne x0 x1 x2) := by
  intro x0 x1 x2
  unfold kvCommitOne
  lift_lets
  intro y0
  refine OnlyM.useHave (show OnlyM 6597069766848 x0 y0 from ?_) (fun hy0 => ?_)
  · unfold y0
    refine OnlyM.comp (kvStoreTokens_only _ _ _) (by rfl) ?_
    exact OnlyM.refl _ _
  clear_value y0
  intro y1
  clear_value y1
  intro y2
  clear_value y2
  intro y3
  refine OnlyM.useHave (show OnlyM 6597069766848 x0 y3 from ?_) (fun hy3 => ?_)
  · unfold y3
    refine OnlyM.comp (bump_only _ _ _ _) (by rfl) ?_
    refine OnlyM.comp (bump_only _ _ _ _) (by rfl) ?_
    assumption
  clear_value y3
  intro y4
  refine OnlyM.useHave (show OnlyM 6597069766848 x0 y4 from ?_) (fun hy4 => ?_)
  · unfold y4
    refine OnlyM.ite ?_ ?_
    · refine OnlyM.comp (bump_only _ _ _ _) (by rfl) ?_
      assumption
    · assumption
  clear_value y4
  refine OnlyM.comp (setSeq_only _ _ _ _) (by rfl) ?_
  assumption

theorem setPte_only : ∀ x0 x1 x2 x3, OnlyM 4398046511104 x0 (setPte x0 x1 x2 x3) := by
  intro x0 x1 x2 x3
  unfold setPte
  refine OnlyM.comp (setPool_only _ _ _) (by rfl) ?_
  exact OnlyM.refl _ _

theorem kvDiscardOne_only : ∀ x0 x1, OnlyM 4398046511104 x0 (kvDiscardOne x0 x1) := by
  intro x0 x1
  unfold kvDiscardOne
  lift_lets
  intro y0
  refine OnlyM.useHave (show OnlyM 4398046511104 x0 y0 from ?_) (fun hy0 => ?_)
  · unfold y0
    refine OnlyM.foldl ?_ (fun _ _ _ => ?_)
    · exact OnlyM.refl _ _
    · lift_lets
      intro y1
      clear_value y1
      refine OnlyM.comp (setPte_only _ _ _ _) (by rfl) ?_
      assumption
  clear_value y0
  intro y2
  clear_value y2
  refine OnlyM.comp (setSeq_only _ _ _ _) (by rfl) ?_
  assumption

theorem kvEnd_only : ∀ x0 x1 x2 x3, OnlyM 6597069766848 x0 (kvEnd x0 x1 x2 x3) := by
  intro x0 x1 x2 x3
  unfold kvEnd
  lift_lets
  intro y0
  clear_value y0
  intro y1
  refine OnlyM.useHave (show OnlyM 6597069766848 x0 y1 from ?_) (fun hy1 => ?_)
  · unfold y1
    refine OnlyM.foldl ?_ (fun _ _ _ => ?_)
    · exact OnlyM.refl _ _
    · refine OnlyM.ite ?_ ?_
      · refine OnlyM.comp (kvCommitOne_only _ _ _) (by rfl) ?_
        assumption
      · refine OnlyM.comp (kvDiscardOne_only _ _) (by rfl) ?_
        assumption
  clear_value y1
  intro y2
  clear_value y2
  refine OnlyM.comp (upd_kv _ _) (by rfl) ?_
  assumption

theorem engLoad_only : ∀ x0 x1 x2 x3, OnlyM 281492169162944 x0 (engLoad x0 x1 x2 x3).1 := by
  intro x0 x1 x2 x3
  unfold engLoad
  refine OnlyM.foldl1 ?_ (fun _ _ _ => ?_)
  · refine OnlyM.pair ?_
    exact OnlyM.refl _ _
  · lift_lets
    intro y0
    clear_value y0
    intro y1
    clear_value y1
    split
    · refine OnlyM.pair ?_
      refine OnlyM.comp (fabFault_only _ _) (by rfl) ?_
      assumption
    · refine OnlyM.ite1 ?_ ?_
      · refine OnlyM.pair ?_
        refine OnlyM.comp (fabFault_only _ _) (by rfl) ?_
        assumption
      · refine OnlyM.pair ?_
        assumption

theorem prefetchPage_only : ∀ x0 x1 x2 x3, OnlyM 288089238929600 x0 (prefetchPage x0 x1 x2 x3).1 := by
  intro x0 x1 x2 x3
  unfold prefetchPage
  lift_lets
  intro y0
  clear_value y0
  intro y1
  refine OnlyM.useHave (show OnlyM 288089238929600 x0 y1.1 from ?_) (fun hy1 => ?_)
  · unfold y1
    refine OnlyM.comp (engLoad_only _ _ _ _) (by rfl) ?_
    exact OnlyM.refl _ _
  clear_value y1
  refine OnlyM.ite1 ?_ ?_
  · refine OnlyM.pair ?_
    refine OnlyM.comp (bump_only _ _ _ _) (by rfl) ?_
    refine OnlyM.comp (setPte_only _ _ _ _) (by rfl) ?_
    refine OnlyM.comp (cavWrite_only _ _ _) (by rfl) ?_
    assumption
  · refine OnlyM.pair ?_
    assumption

theorem prefetchSeq_only : ∀ x0 x1 x2, OnlyM 288089238929600 x0 (prefetchSeq x0 x1 x2).1 := by
  intro x0 x1 x2
  unfold prefetchSeq
  lift_lets
  intro y0
  clear_value y0
  intro y1
  clear_value y1
  intro y2
  refine OnlyM.useHave (show OnlyM 288089238929600 x0 y2.1 from ?_) (fun hy2 => ?_)
  · unfold y2
    refine OnlyM.foldl1 ?_ (fun _ _ _ => ?_)
    · refine OnlyM.pair ?_
      exact OnlyM.refl _ _
    · refine OnlyM.ite1 ?_ ?_
      · refine OnlyM.comp (prefetchPage_only _ _ _ _) (by rfl) ?_
        assumption
      · assumption
  clear_value y2
  intro y3
  clear_value y3
  refine OnlyM.ite1 ?_ ?_
  · refine OnlyM.pair ?_
    refine OnlyM.comp (setSeq_only _ _ _ _) (by rfl) ?_
    assumption
  · refine OnlyM.ite1 ?_ ?_
    · refine OnlyM.pair ?_
      refine OnlyM.comp (setSeq_only _ _ _ _) (by rfl) ?_
      assumption
    · refine OnlyM.pair ?_
      assumption

theorem bringBack_only : ∀ x0 x1 x2, OnlyM 288089238929600 x0 (bringBack x0 x1 x2).1 := by
  intro x0 x1 x2
  unfold bringBack
  refine OnlyM.foldl1 ?_ (fun _ _ _ => ?_)
  · refine OnlyM.pair ?_
    exact OnlyM.refl _ _
  · refine OnlyM.ite1 ?_ ?_
    · refine OnlyM.comp (prefetchSeq_only _ _ _) (by rfl) ?_
      assumption
    · assumption

theorem dropPages_only : ∀ x0 x1 x2 x3, OnlyM 4398046511104 x0 (dropPages x0 x1 x2 x3) := by
  intro x0 x1 x2 x3
  unfold dropPages
  refine OnlyM.foldl ?_ (fun _ _ _ => ?_)
  · exact OnlyM.refl _ _
  · refine OnlyM.comp (setPte_only _ _ _ _) (by rfl) ?_
    assumption

theorem dropVictim_only : ∀ x0 x1 x2, OnlyM 4398046511296 x0 (dropVictim x0 x1 x2) := by
  intro x0 x1 x2
  unfold dropVictim
  lift_lets
  intro y0
  clear_value y0
  refine OnlyM.comp (bump_only _ _ _ _) (by rfl) ?_
  refine OnlyM.comp (setSeq_only _ _ _ _) (by rfl) ?_
  refine OnlyM.comp (dropPages_only _ _ _ _) (by rfl) ?_
  exact OnlyM.refl _ _

theorem countLine_only : ∀ x0 x1 x2, OnlyM 17179869184 x0 (countLine x0 x1 x2) := by
  intro x0 x1 x2
  unfold countLine
  split
  · refine OnlyM.comp (upd_mem _ _) (by rfl) ?_
    exact OnlyM.refl _ _
  · refine OnlyM.comp (upd_mem _ _) (by rfl) ?_
    exact OnlyM.refl _ _
  · refine OnlyM.comp (upd_mem _ _) (by rfl) ?_
    exact OnlyM.refl _ _
  · exact OnlyM.refl _ _

theorem postStore_only : ∀ x0 x1 x2 x3 x4, OnlyM 281492169162944 x0 (postStore x0 x1 x2 x3 x4).1 := by
  intro x0 x1 x2 x3 x4
  unfold postStore
  lift_lets
  intro y0
  refine OnlyM.useHave (show OnlyM 281492169162944 x0 y0 from ?_) (fun hy0 => ?_)
  · unfold y0
    refine OnlyM.comp (countLine_only _ _ _) (by rfl) ?_
    exact OnlyM.refl _ _
  clear_value y0
  intro y1
  clear_value y1
  split
  · refine OnlyM.pair ?_
    refine OnlyM.comp (fabFault_only _ _) (by rfl) ?_
    assumption
  · refine OnlyM.pair ?_
    refine OnlyM.comp (upd_mem _ _) (by rfl) ?_
    assumption

theorem spillPage_only : ∀ x0 x1 x2 x3, OnlyM 285890215674048 x0 (spillPage x0 x1 x2 x3) := by
  intro x0 x1 x2 x3
  unfold spillPage
  lift_lets
  intro y0
  clear_value y0
  intro y1
  refine OnlyM.useHave (show OnlyM 285890215674048 x0 y1.1 from ?_) (fun hy1 => ?_)
  · unfold y1
    refine OnlyM.foldl1 ?_ (fun _ _ _ => ?_)
    · refine OnlyM.pair ?_
      exact OnlyM.refl _ _
    · lift_lets
      intro y2
      refine OnlyM.useHave (show OnlyM 285890215674048 x0 y2.1 from ?_) (fun hy2 => ?_)
      · unfold y2
        refine OnlyM.comp (postStore_only _ _ _ _ _) (by rfl) ?_
        assumption
      clear_value y2
      refine OnlyM.pair ?_
      assumption
  clear_value y1
  refine OnlyM.ite ?_ ?_
  · refine OnlyM.comp (setPte_only _ _ _ _) (by rfl) ?_
    assumption
  · assumption

theorem spillVictim_only : ∀ x0 x1 x2, OnlyM 285890215674048 x0 (spillVictim x0 x1 x2) := by
  intro x0 x1 x2
  unfold spillVictim
  lift_lets
  intro y0
  clear_value y0
  intro y1
  clear_value y1
  refine OnlyM.ite ?_ ?_
  · refine OnlyM.comp (setSeq_only _ _ _ _) (by rfl) ?_
    exact OnlyM.refl _ _
  · refine OnlyM.ite ?_ ?_
    · exact OnlyM.refl _ _
    · refine OnlyM.foldl ?_ (fun _ _ _ => ?_)
      · exact OnlyM.refl _ _
      · refine OnlyM.comp (spillPage_only _ _ _ _) (by rfl) ?_
        assumption

theorem makeRoom_only : ∀ x0 x1 x2 x3, OnlyM 285890215674048 x0 (makeRoom x0 x1 x2 x3) := by
  intro x0 x1 x2 x3
  induction x3 generalizing x0 with
  | nil => exact OnlyM.refl _ _
  | cons q t ih =>
    unfold makeRoom
    refine OnlyM.ite (OnlyM.refl _ _) ?_
    refine OnlyM.comp (ih _) rfl ?_
    refine OnlyM.ite ?_ ?_
    · exact (dropVictim_only _ _ _).mono rfl
    · exact (spillVictim_only _ _ _).mono rfl

theorem kvTakeFrames_only : ∀ x0 x1 x2 x3, OnlyM 288089238929600 x0 (kvTakeFrames x0 x1 x2 x3).1 := by
  intro x0 x1 x2 x3
  unfold kvTakeFrames
  lift_lets
  intro y0
  clear_value y0
  intro y1
  clear_value y1
  intro y2
  clear_value y2
  intro y3
  clear_value y3
  intro y4
  refine OnlyM.useHave (show OnlyM 288089238929600 x0 y4 from ?_) (fun hy4 => ?_)
  · unfold y4
    refine OnlyM.comp (makeRoom_only _ _ _ _) (by rfl) ?_
    exact OnlyM.refl _ _
  clear_value y4
  intro y5
  refine OnlyM.useHave (show OnlyM 288089238929600 x0 y5.1 from ?_) (fun hy5 => ?_)
  · unfold y5
    refine OnlyM.ite1 ?_ ?_
    · refine OnlyM.comp (bringBack_only _ _ _) (by rfl) ?_
      assumption
    · refine OnlyM.pair ?_
      assumption
  clear_value y5
  intro y6
  clear_value y6
  intro y7
  refine OnlyM.useHave (show OnlyM 288089238929600 x0 y7 from ?_) (fun hy7 => ?_)
  · unfold y7
    refine OnlyM.foldl ?_ (fun _ _ _ => ?_)
    · assumption
    · lift_lets
      intro y8
      clear_value y8
      refine OnlyM.comp (setPte_only _ _ _ _) (by rfl) ?_
      assumption
  clear_value y7
  intro y9
  clear_value y9
  intro y10
  clear_value y10
  refine OnlyM.ite1 ?_ ?_
  · refine OnlyM.pair ?_
    exact OnlyM.refl _ _
  · refine OnlyM.ite1 ?_ ?_
    · refine OnlyM.pair ?_
      assumption
    · refine OnlyM.ite1 ?_ ?_
      · refine OnlyM.pair ?_
        assumption
      · refine OnlyM.pair ?_
        refine OnlyM.comp (upd_kv _ _) (by rfl) ?_
        assumption

theorem kvRetry_only : ∀ x0 x1, OnlyM 288089238929600 x0 (kvRetry x0 x1) := by
  intro x0 x1
  unfold kvRetry
  refine OnlyM.foldl ?_ (fun _ _ _ => ?_)
  · exact OnlyM.refl _ _
  · split
    · split
      · refine OnlyM.ite ?_ ?_
        · lift_lets
          intro y0
          refine OnlyM.useHave (show OnlyM 288089238929600 x0 y0.1 from ?_) (fun hy0 => ?_)
          · unfold y0
            refine OnlyM.comp (kvTakeFrames_only _ _ _ _) (by rfl) ?_
            assumption
          clear_value y0
          split
          · refine OnlyM.comp (setJob_only _ _ _) (by rfl) ?_
            assumption
          · refine OnlyM.comp (setJob_only _ _ _) (by rfl) ?_
            assumption
          · assumption
        · assumption
      · assumption
    · assumption

theorem setSlot_only : ∀ x0 x1 x2, OnlyM 2199023255552 x0 (setSlot x0 x1 x2) := by
  intro x0 x1 x2
  unfold setSlot
  refine OnlyM.comp (upd_gal _ _) (by rfl) ?_
  exact OnlyM.refl _ _

theorem waitReleases_only : ∀ x0 x1, OnlyM 137438953664 x0 (waitReleases x0 x1) := by
  intro x0 x1
  unfold waitReleases
  refine OnlyM.ite ?_ ?_
  · exact OnlyM.refl _ _
  · lift_lets
    intro y0
    clear_value y0
    intro y1
    clear_value y1
    refine OnlyM.foldl ?_ (fun _ _ _ => ?_)
    · exact OnlyM.refl _ _
    · refine OnlyM.comp (flagRelease_only _ _) (by rfl) ?_
      assumption

theorem bufFault_only : ∀ x0 x1, OnlyM 2199023256576 x0 (bufFault x0 x1) := by
  intro x0 x1
  unfold bufFault
  refine OnlyM.comp (setReg_only _ _ _) (by rfl) ?_
  refine OnlyM.comp (setQue_only _ _ _) (by rfl) ?_
  exact OnlyM.refl _ _

theorem imsicWrite_only : ∀ x0 x1 x2 x3, OnlyM 17179869184 x0 (imsicWrite x0 x1 x2 x3) := by
  intro x0 x1 x2 x3
  unfold imsicWrite
  refine OnlyM.ite ?_ ?_
  · refine OnlyM.comp (imsicSet_only _ _ _) (by rfl) ?_
    exact OnlyM.refl _ _
  · refine OnlyM.ite ?_ ?_
    · refine OnlyM.comp (imsicSet_only _ _ _) (by rfl) ?_
      exact OnlyM.refl _ _
    · exact OnlyM.refl _ _

theorem msiWrite_only : ∀ x0 x1 x2, OnlyM 17179869184 x0 (msiWrite x0 x1 x2) := by
  intro x0 x1 x2
  unfold msiWrite
  split
  · refine OnlyM.comp (imsicWrite_only _ _ _ _) (by rfl) ?_
    exact OnlyM.refl _ _
  · exact OnlyM.refl _ _

theorem writeRecord_only : ∀ x0 x1 x2 x3 x4, OnlyM 283691192419520 x0 (writeRecord x0 x1 x2 x3 x4) := by
  intro x0 x1 x2 x3 x4
  unfold writeRecord
  lift_lets
  intro y0
  clear_value y0
  intro y1
  clear_value y1
  intro y2
  refine OnlyM.useHave (show OnlyM 283691192419520 x0 y2.1 from ?_) (fun hy2 => ?_)
  · unfold y2
    refine OnlyM.comp (engStore_only _ _ _ _) (by rfl) ?_
    exact OnlyM.refl _ _
  clear_value y2
  intro y3
  refine OnlyM.useHave (show OnlyM 283691192419520 x0 y3 from ?_) (fun hy3 => ?_)
  · unfold y3
    refine OnlyM.comp (setReg_only _ _ _) (by rfl) ?_
    assumption
  clear_value y3
  intro y4
  clear_value y4
  refine OnlyM.ite ?_ ?_
  · refine OnlyM.comp (bufFault_only _ _) (by rfl) ?_
    assumption
  · refine OnlyM.ite ?_ ?_
    · refine OnlyM.comp (msiWrite_only _ _ _) (by rfl) ?_
      refine OnlyM.comp (upd_gal _ _) (by rfl) ?_
      assumption
    · assumption

theorem completeJob_only : ∀ x0 x1 x2 x3, OnlyM 288226677884096 x0 (completeJob x0 x1 x2 x3) := by
  intro x0 x1 x2 x3
  unfold completeJob
  split
  · exact OnlyM.refl _ _
  · lift_lets
    intro y0
    clear_value y0
    intro y1
    refine OnlyM.useHave (show OnlyM 288226677884096 x0 y1.1 from ?_) (fun hy1 => ?_)
    · unfold y1
      refine OnlyM.ite1 ?_ ?_
      · refine OnlyM.comp (emitResult_only _ _ _) (by rfl) ?_
        exact OnlyM.refl _ _
      · refine OnlyM.pair ?_
        exact OnlyM.refl _ _
    clear_value y1
    intro y2
    refine OnlyM.useHave (show OnlyM 288226677884096 x0 y2 from ?_) (fun hy2 => ?_)
    · unfold y2
      refine OnlyM.comp (kvEnd_only _ _ _ _) (by rfl) ?_
      assumption
    clear_value y2
    intro y3
    refine OnlyM.useHave (show OnlyM 288226677884096 x0 y3 from ?_) (fun hy3 => ?_)
    · unfold y3
      refine OnlyM.ite ?_ ?_
      · refine OnlyM.comp (ropeSend_only _ _ _) (by rfl) ?_
        assumption
      · assumption
    clear_value y3
    intro y4
    refine OnlyM.useHave (show OnlyM 288226677884096 x0 y4 from ?_) (fun hy4 => ?_)
    · unfold y4
      refine OnlyM.comp (waitReleases_only _ _) (by rfl) ?_
      assumption
    clear_value y4
    intro y5
    refine OnlyM.useHave (show OnlyM 288226677884096 x0 y5 from ?_) (fun hy5 => ?_)
    · unfold y5
      refine OnlyM.comp (account_only _ _) (by rfl) ?_
      assumption
    clear_value y5
    intro y6
    clear_value y6
    intro y7
    refine OnlyM.useHave (show OnlyM 288226677884096 x0 y7 from ?_) (fun hy7 => ?_)
    · unfold y7
      refine OnlyM.ite ?_ ?_
      · refine OnlyM.comp (bump_only _ _ _ _) (by rfl) ?_
        assumption
      · assumption
    clear_value y7
    intro y8
    refine OnlyM.useHave (show OnlyM 288226677884096 x0 y8 from ?_) (fun hy8 => ?_)
    · unfold y8
      refine OnlyM.comp (writeRecord_only _ _ _ _ _) (by rfl) ?_
      assumption
    clear_value y8
    intro y9
    refine OnlyM.useHave (show OnlyM 288226677884096 x0 y9 from ?_) (fun hy9 => ?_)
    · unfold y9
      refine OnlyM.comp (freeCores_only _ _) (by rfl) ?_
      assumption
    clear_value y9
    intro y10
    clear_value y10
    intro y11
    refine OnlyM.useHave (show OnlyM 288226677884096 x0 y11 from ?_) (fun hy11 => ?_)
    · unfold y11
      refine OnlyM.ite ?_ ?_
      · refine OnlyM.comp (setSlot_only _ _ _) (by rfl) ?_
        assumption
      · assumption
    clear_value y11
    intro y12
    clear_value y12
    intro y13
    refine OnlyM.useHave (show OnlyM 288226677884096 x0 y13 from ?_) (fun hy13 => ?_)
    · unfold y13
      refine OnlyM.comp (setQue_only _ _ _) (by rfl) ?_
      assumption
    clear_value y13
    split
    · refine OnlyM.comp (kvRetry_only _ _) (by rfl) ?_
      assumption
    · assumption

theorem setBatchByte_only : ∀ x0 x1 x2 x3, OnlyM 4398046511104 x0 (setBatchByte x0 x1 x2 x3) := by
  intro x0 x1 x2 x3
  unfold setBatchByte
  lift_lets
  intro y0
  clear_value y0
  intro y1
  clear_value y1
  refine OnlyM.comp (setPool_only _ _ _) (by rfl) ?_
  exact OnlyM.refl _ _

theorem kvRelease_only : ∀ x0 x1 x2 x3, OnlyM 288089238929600 x0 (kvRelease x0 x1 x2 x3).1 := by
  intro x0 x1 x2 x3
  unfold kvRelease
  lift_lets
  intro y0
  clear_value y0
  intro y1
  refine OnlyM.useHave (show OnlyM 288089238929600 x0 y1 from ?_) (fun hy1 => ?_)
  · unfold y1
    refine OnlyM.foldl ?_ (fun _ _ _ => ?_)
    · exact OnlyM.refl _ _
    · lift_lets
      intro y2
      clear_value y2
      intro y3
      clear_value y3
      intro y4
      refine OnlyM.useHave (show OnlyM 288089238929600 x0 y4 from ?_) (fun hy4 => ?_)
      · unfold y4
        refine OnlyM.comp (setSeq_only _ _ _ _) (by rfl) ?_
        assumption
      clear_value y4
      refine OnlyM.comp (setBatchByte_only _ _ _ _) (by rfl) ?_
      assumption
  clear_value y1
  intro y5
  clear_value y5
  intro y6
  clear_value y6
  refine OnlyM.ite1 ?_ ?_
  · refine OnlyM.pair ?_
    exact OnlyM.refl _ _
  · refine OnlyM.comp (kvTakeFrames_only _ _ _ _) (by rfl) ?_
    refine OnlyM.comp (upd_kv _ _) (by rfl) ?_
    assumption

theorem releaseNow_only : ∀ x0 x1 x2, OnlyM 288226677884096 x0 (releaseNow x0 x1 x2) := by
  intro x0 x1 x2
  unfold releaseNow
  lift_lets
  intro y0
  refine OnlyM.useHave (show OnlyM 288226677884096 x0 y0 from ?_) (fun hy0 => ?_)
  · unfold y0
    refine OnlyM.comp (setJob_only _ _ _) (by rfl) ?_
    exact OnlyM.refl _ _
  clear_value y0
  split
  · assumption
  · lift_lets
    intro y1
    refine OnlyM.useHave (show OnlyM 288226677884096 x0 y1.1 from ?_) (fun hy1 => ?_)
    · unfold y1
      refine OnlyM.comp (kvRelease_only _ _ _ _) (by rfl) ?_
      assumption
    clear_value y1
    intro y2
    clear_value y2
    refine OnlyM.ite ?_ ?_
    · refine OnlyM.comp (completeJob_only _ _ _ _) (by rfl) ?_
      assumption
    · split
      · assumption
      · refine OnlyM.comp (setQue_only _ _ _) (by rfl) ?_
        assumption
      · refine OnlyM.comp (completeJob_only _ _ _ _) (by rfl) ?_
        assumption
      · refine OnlyM.comp (completeJob_only _ _ _ _) (by rfl) ?_
        assumption

theorem jobAdvance_only : ∀ x0 x1, OnlyM 288226677884096 x0 (jobAdvance x0 x1) := by
  intro x0 x1
  unfold jobAdvance
  split
  · refine OnlyM.ite ?_ ?_
    · refine OnlyM.comp (releaseNow_only _ _ _) (by rfl) ?_
      exact OnlyM.refl _ _
    · exact OnlyM.refl _ _
  · exact OnlyM.refl _ _

theorem jobRelease_only : ∀ x0 x1, OnlyM 288226677884096 x0 (jobRelease x0 x1) := by
  intro x0 x1
  unfold jobRelease
  lift_lets
  intro y0
  clear_value y0
  split
  · refine OnlyM.ite ?_ ?_
    · refine OnlyM.comp (jobAdvance_only _ _) (by rfl) ?_
      refine OnlyM.comp (setJob_only _ _ _) (by rfl) ?_
      exact OnlyM.refl _ _
    · refine OnlyM.comp (setQue_only _ _ _) (by rfl) ?_
      exact OnlyM.refl _ _
  · refine OnlyM.comp (setQue_only _ _ _) (by rfl) ?_
    exact OnlyM.refl _ _

theorem pulseCounted_only : ∀ x0 x1 x2 x3 x4, OnlyM 48 x0 (pulseCounted x0 x1 x2 x3 x4) := by
  intro x0 x1 x2 x3 x4
  unfold pulseCounted
  refine OnlyM.comp (drive_only _ _ _) (by rfl) ?_
  refine OnlyM.comp (upd_pulses _ _) (by rfl) ?_
  exact OnlyM.refl _ _

theorem pulseEnd_only : ∀ x0 x1, OnlyM 48 x0 (pulseEnd x0 x1) := by
  intro x0 x1
  unfold pulseEnd
  lift_lets
  intro y0
  refine OnlyM.useHave (show OnlyM 48 x0 y0 from ?_) (fun hy0 => ?_)
  · unfold y0
    refine OnlyM.comp (upd_pulses _ _) (by rfl) ?_
    exact OnlyM.refl _ _
  clear_value y0
  refine OnlyM.ite ?_ ?_
  · assumption
  · refine OnlyM.comp (drive_only _ _ _) (by rfl) ?_
    assumption

theorem pulseCntAct_only : ∀ x0 x1 x2 x3, OnlyM 48 x0 (pulseCntAct x0 x1 x2 x3) := by
  intro x0 x1 x2 x3
  unfold pulseCntAct
  lift_lets
  intro y0
  clear_value y0
  intro y1
  clear_value y1
  intro y2
  refine OnlyM.useHave (show OnlyM 48 x0 y2 from ?_) (fun hy2 => ?_)
  · unfold y2
    refine OnlyM.comp (pulseCounted_only _ _ _ _ _) (by rfl) ?_
    exact OnlyM.refl _ _
  clear_value y2
  intro y3
  clear_value y3
  refine OnlyM.ite ?_ ?_
  · refine OnlyM.comp (pulseEnd_only _ _) (by rfl) ?_
    assumption
  · assumption

end Sys2Proof.Laws
end

