-- ==== Sys2Proof/Laws/FramesB.lean ====
section
/-! SUPPORT. What each shared operation and each meaning can change, part 2: one frame per definition, each from the
frames of what it calls. -/

namespace Sys2Proof.Laws

open Machine

theorem rephase_only : ∀ x0 x1, OnlyM 2097152 x0 (rephase x0 x1) := by
  intro x0 x1
  unfold rephase
  refine OnlyM.comp (upd_sync _ _) (by rfl) ?_
  exact OnlyM.refl _ _

theorem missedExposure_only : ∀ x0 x1 x2, OnlyM 192 x0 (missedExposure x0 x1 x2) := by
  intro x0 x1 x2
  unfold missedExposure
  refine OnlyM.foldl ?_ (fun _ _ _ => ?_)
  · exact OnlyM.refl _ _
  · refine OnlyM.comp (bump_only _ _ _ _) (by rfl) ?_
    assumption

theorem trigPush_only : ∀ x0 x1 x2, OnlyM 68719476928 x0 (trigPush x0 x1 x2) := by
  intro x0 x1 x2
  unfold trigPush
  lift_lets
  intro y0
  clear_value y0
  intro y1
  clear_value y1
  refine OnlyM.ite ?_ ?_
  · exact OnlyM.refl _ _
  · split
    · refine OnlyM.ite ?_ ?_
      · refine OnlyM.comp (upd_trig _ _) (by rfl) ?_
        exact OnlyM.refl _ _
      · refine OnlyM.comp (missedExposure_only _ _ _) (by rfl) ?_
        refine OnlyM.comp (upd_trig _ _) (by rfl) ?_
        exact OnlyM.refl _ _
    · refine OnlyM.comp (upd_trig _ _) (by rfl) ?_
      exact OnlyM.refl _ _

theorem posAct_only : ∀ x0 x1 x2 x3 x4 x5, OnlyM 1520023300541680 x0 (posAct x0 x1 x2 x3 x4 x5) := by
  intro x0 x1 x2 x3 x4 x5
  unfold posAct
  lift_lets
  intro y0
  clear_value y0
  intro y1
  clear_value y1
  intro y2
  clear_value y2
  intro y3
  refine OnlyM.useHave (show OnlyM 1520023300541680 x0 y3 from ?_) (fun hy3 => ?_)
  · unfold y3
    refine OnlyM.comp (pulseTimed_only _ _ _) (by rfl) ?_
    exact OnlyM.refl _ _
  clear_value y3
  refine OnlyM.ite ?_ ?_
  · refine OnlyM.ite ?_ ?_
    · exact OnlyM.refl _ _
    · refine OnlyM.comp (pulseCntAct_only _ _ _ _) (by rfl) ?_
      exact OnlyM.refl _ _
  · refine OnlyM.ite ?_ ?_
    · refine OnlyM.ite ?_ ?_
      · refine OnlyM.comp (rephase_only _ _) (by rfl) ?_
        exact OnlyM.refl _ _
      · exact OnlyM.refl _ _
    · refine OnlyM.ite ?_ ?_
      · refine OnlyM.comp (eventMsg_only _ _ _ _) (by rfl) ?_
        exact OnlyM.refl _ _
      · refine OnlyM.ite ?_ ?_
        · refine OnlyM.ite ?_ ?_
          · exact OnlyM.refl _ _
          · refine OnlyM.ite ?_ ?_
            · refine OnlyM.comp (trigPush_only _ _ _) (by rfl) ?_
              assumption
            · assumption
        · refine OnlyM.ite ?_ ?_
          · refine OnlyM.ite ?_ ?_
            · exact OnlyM.refl _ _
            · refine OnlyM.comp (pulseTimed_only _ _ _) (by rfl) ?_
              exact OnlyM.refl _ _
          · refine OnlyM.ite ?_ ?_
            · refine OnlyM.comp (jobRelease_only _ _) (by rfl) ?_
              exact OnlyM.refl _ _
            · refine OnlyM.ite ?_ ?_
              · refine OnlyM.comp (graphStartEvent_only _ _) (by rfl) ?_
                exact OnlyM.refl _ _
              · refine OnlyM.comp (commonAct_only _ _ _ _ _ _) (by rfl) ?_
                exact OnlyM.refl _ _

theorem posRec_only : ∀ x0 x1 x2 x3 x4 x5 x6, OnlyM 281474989293760 x0 (posRec x0 x1 x2 x3 x4 x5 x6) := by
  intro x0 x1 x2 x3 x4 x5 x6
  unfold posRec
  lift_lets
  intro y0
  clear_value y0
  split
  · refine OnlyM.comp (logField_only _ _) (by rfl) ?_
    exact OnlyM.refl _ _
  · refine OnlyM.comp (logHost_only _ _) (by rfl) ?_
    exact OnlyM.refl _ _

theorem setEntry_only : ∀ x0 x1 x2 x3, OnlyM 69632 x0 (setEntry x0 x1 x2 x3) := by
  intro x0 x1 x2 x3
  unfold setEntry
  split
  · refine OnlyM.comp (upd_fEntries _ _) (by rfl) ?_
    exact OnlyM.refl _ _
  · refine OnlyM.comp (upd_replica _ _) (by rfl) ?_
    exact OnlyM.refl _ _

theorem fire_only : ∀ x0 x1 x2 x3 x4, OnlyM 1520023300545776 x0 (fire x0 x1 x2 x3 x4) := by
  intro x0 x1 x2 x3 x4
  unfold fire
  lift_lets
  intro y0
  clear_value y0
  intro y1
  clear_value y1
  intro y2
  refine OnlyM.useHave (show OnlyM 1520023300545776 x0 y2 from ?_) (fun hy2 => ?_)
  · unfold y2
    refine OnlyM.comp (setEntry_only _ _ _ _) (by rfl) ?_
    exact OnlyM.refl _ _
  clear_value y2
  intro y3
  refine OnlyM.useHave (show OnlyM 1520023300545776 x0 y3 from ?_) (fun hy3 => ?_)
  · unfold y3
    refine OnlyM.comp (posAct_only _ _ _ _ _ _) (by rfl) ?_
    assumption
  clear_value y3
  intro y4
  refine OnlyM.useHave (show OnlyM 1520023300545776 x0 y4 from ?_) (fun hy4 => ?_)
  · unfold y4
    split
    · refine OnlyM.comp (fireReportOf_only _ _) (by rfl) ?_
      assumption
    · refine OnlyM.comp (noteDrove_only _ _) (by rfl) ?_
      assumption
  clear_value y4
  intro y5
  refine OnlyM.useHave (show OnlyM 1520023300545776 x0 y5 from ?_) (fun hy5 => ?_)
  · unfold y5
    split
    · refine OnlyM.comp (bump_only _ _ _ _) (by rfl) ?_
      assumption
    · assumption
  clear_value y5
  refine OnlyM.ite ?_ ?_
  · refine OnlyM.comp (posRec_only _ _ _ _ _ _ _) (by rfl) ?_
    assumption
  · assumption

theorem miss_only : ∀ x0 x1 x2 x3, OnlyM 281474989363392 x0 (miss x0 x1 x2 x3) := by
  intro x0 x1 x2 x3
  unfold miss
  lift_lets
  intro y0
  clear_value y0
  intro y1
  refine OnlyM.useHave (show OnlyM 281474989363392 x0 y1 from ?_) (fun hy1 => ?_)
  · unfold y1
    refine OnlyM.comp (setEntry_only _ _ _ _) (by rfl) ?_
    exact OnlyM.refl _ _
  clear_value y1
  intro y2
  refine OnlyM.useHave (show OnlyM 281474989363392 x0 y2 from ?_) (fun hy2 => ?_)
  · unfold y2
    split
    · refine OnlyM.comp (bump_only _ _ _ _) (by rfl) ?_
      assumption
    · assumption
  clear_value y2
  refine OnlyM.comp (posRec_only _ _ _ _ _ _ _) (by rfl) ?_
  assumption

theorem lateOrMiss_only : ∀ x0 x1 x2 x3, OnlyM 1520023300545776 x0 (lateOrMiss x0 x1 x2 x3) := by
  intro x0 x1 x2 x3
  unfold lateOrMiss
  refine OnlyM.ite ?_ ?_
  · refine OnlyM.comp (fire_only _ _ _ _ _) (by rfl) ?_
    exact OnlyM.refl _ _
  · refine OnlyM.comp (miss_only _ _ _ _) (by rfl) ?_
    exact OnlyM.refl _ _

theorem notePassed_only : ∀ x0 x1 x2 x3, OnlyM 67584 x0 (notePassed x0 x1 x2 x3) := by
  intro x0 x1 x2 x3
  unfold notePassed
  refine OnlyM.comp (setPassed_only _ _ _) (by rfl) ?_
  exact OnlyM.refl _ _

theorem judgeArmed_only : ∀ x0 x1 x2, OnlyM 1520023300545776 x0 (judgeArmed x0 x1 x2) := by
  intro x0 x1 x2
  unfold judgeArmed
  lift_lets
  intro y0
  clear_value y0
  intro y1
  refine OnlyM.useHave (show OnlyM 1520023300545776 x0 y1 from ?_) (fun hy1 => ?_)
  · unfold y1
    refine OnlyM.comp (forgetPassed_only _ _ _) (by rfl) ?_
    exact OnlyM.refl _ _
  clear_value y1
  intro y2
  refine OnlyM.useHave (show OnlyM 1520023300545776 x0 y2 from ?_) (fun hy2 => ?_)
  · unfold y2
    refine OnlyM.comp (setEntry_only _ _ _ _) (by rfl) ?_
    assumption
  clear_value y2
  refine OnlyM.ite ?_ ?_
  · assumption
  · refine OnlyM.ite ?_ ?_
    · refine OnlyM.ite ?_ ?_
      · refine OnlyM.comp (notePassed_only _ _ _ _) (by rfl) ?_
        assumption
      · assumption
    · refine OnlyM.ite ?_ ?_
      · refine OnlyM.comp (lateOrMiss_only _ _ _ _) (by rfl) ?_
        assumption
      · assumption

theorem fieldEntrySet_only : ∀ x0 x1 x2, OnlyM 1520023300545776 x0 (fieldEntrySet x0 x1 x2) := by
  intro x0 x1 x2
  unfold fieldEntrySet
  refine OnlyM.comp (judgeArmed_only _ _ _) (by rfl) ?_
  refine OnlyM.comp (setEntry_only _ _ _ _) (by rfl) ?_
  exact OnlyM.refl _ _

theorem pushHostEntry_only : ∀ x0 x1, OnlyM 12582912 x0 (pushHostEntry x0 x1) := by
  intro x0 x1
  unfold pushHostEntry
  refine OnlyM.comp (ropeSend_only _ _ _) (by rfl) ?_
  exact OnlyM.refl _ _

theorem hostEntrySet_only : ∀ x0 x1 x2, OnlyM 12607488 x0 (hostEntrySet x0 x1 x2) := by
  intro x0 x1 x2
  unfold hostEntrySet
  lift_lets
  intro y0
  clear_value y0
  refine OnlyM.comp (pushHostEntry_only _ _) (by rfl) ?_
  refine OnlyM.comp (upd_hMaster_hostPush _ _ _) (by rfl) ?_
  exact OnlyM.refl _ _

theorem entryWrite_only : ∀ x0 x1 x2 x3, OnlyM 1520023300570352 x0 (entryWrite x0 x1 x2 x3).1 := by
  intro x0 x1 x2 x3
  unfold entryWrite
  split
  · refine OnlyM.ite1 ?_ ?_
    · refine OnlyM.pair ?_
      exact OnlyM.refl _ _
    · refine OnlyM.ite1 ?_ ?_
      · refine OnlyM.pair ?_
        exact OnlyM.refl _ _
      · refine OnlyM.pair ?_
        refine OnlyM.comp (fieldEntrySet_only _ _ _) (by rfl) ?_
        exact OnlyM.refl _ _
  · refine OnlyM.ite1 ?_ ?_
    · refine OnlyM.pair ?_
      exact OnlyM.refl _ _
    · refine OnlyM.ite1 ?_ ?_
      · refine OnlyM.pair ?_
        refine OnlyM.comp (hostEntrySet_only _ _ _) (by rfl) ?_
        exact OnlyM.refl _ _
      · refine OnlyM.pair ?_
        exact OnlyM.refl _ _

theorem modeSelect_only : ∀ x0 x1, OnlyM 70377334112448 x0 (modeSelect x0 x1) := by
  intro x0 x1
  unfold modeSelect
  lift_lets
  intro y0
  refine OnlyM.useHave (show OnlyM 70377334112448 x0 y0 from ?_) (fun hy0 => ?_)
  · unfold y0
    refine OnlyM.comp (homingFailed_only _ _) (by rfl) ?_
    exact OnlyM.refl _ _
  clear_value y0
  intro y1
  clear_value y1
  intro y2
  clear_value y2
  intro y3
  clear_value y3
  intro y4
  clear_value y4
  intro y5
  clear_value y5
  refine OnlyM.ite ?_ ?_
  · assumption
  · refine OnlyM.comp (setCe_only _ _ _) (by rfl) ?_
    assumption

theorem overrideWrite_only : ∀ x0 x1, OnlyM 192 x0 (overrideWrite x0 x1).1 := by
  intro x0 x1
  unfold overrideWrite
  refine OnlyM.ite1 ?_ ?_
  · refine OnlyM.pair ?_
    exact OnlyM.refl _ _
  · refine OnlyM.ite1 ?_ ?_
    · refine OnlyM.pair ?_
      exact OnlyM.refl _ _
    · refine OnlyM.pair ?_
      refine OnlyM.comp (putN_only _ _ _ _) (by rfl) ?_
      exact OnlyM.refl _ _

theorem askActive_only : ∀ x0, OnlyM 562949953421504 x0 (askActive x0) := by
  intro x0
  unfold askActive
  refine OnlyM.ite ?_ ?_
  · refine OnlyM.comp (putN_only _ _ _ _) (by rfl) ?_
    refine OnlyM.comp (upd_pwr _ _) (by rfl) ?_
    exact OnlyM.refl _ _
  · exact OnlyM.refl _ _

theorem displayOff_only : ∀ x0, OnlyM 17592186045440 x0 (displayOff x0) := by
  intro x0
  unfold displayOff
  lift_lets
  intro y0
  clear_value y0
  intro y1
  refine OnlyM.useHave (show OnlyM 17592186045440 x0 y1 from ?_) (fun hy1 => ?_)
  · unfold y1
    refine OnlyM.comp (upd_comp _ _) (by rfl) ?_
    exact OnlyM.refl _ _
  clear_value y1
  refine OnlyM.comp (setReg_only _ _ _) (by rfl) ?_
  assumption

theorem askIdle_only : ∀ x0, OnlyM 2832341953152192 x0 (askIdle x0).1 := by
  intro x0
  unfold askIdle
  refine OnlyM.ite1 ?_ ?_
  · refine OnlyM.pair ?_
    exact OnlyM.refl _ _
  · refine OnlyM.ite1 ?_ ?_
    · refine OnlyM.pair ?_
      refine OnlyM.comp (drawn_only _) (by rfl) ?_
      exact OnlyM.refl _ _
    · refine OnlyM.pair ?_
      refine OnlyM.comp (drawn_only _) (by rfl) ?_
      refine OnlyM.comp (putN_only _ _ _ _) (by rfl) ?_
      refine OnlyM.comp (displayOff_only _) (by rfl) ?_
      refine OnlyM.comp (upd_pwr _ _) (by rfl) ?_
      exact OnlyM.refl _ _

theorem askLow_only : ∀ x0 x1, OnlyM 562949966004224 x0 (askLow x0 x1) := by
  intro x0 x1
  unfold askLow
  refine OnlyM.ite ?_ ?_
  · exact OnlyM.refl _ _
  · refine OnlyM.comp (ropeSend_only _ _ _) (by rfl) ?_
    refine OnlyM.comp (upd_pwr _ _) (by rfl) ?_
    exact OnlyM.refl _ _

theorem powerWrite_only : ∀ x0 x1, OnlyM 2832341965735104 x0 (powerWrite x0 x1).1 := by
  intro x0 x1
  unfold powerWrite
  dsimp -proj only
  refine OnlyM.ite1 ?_ (OnlyM.ite1 ?_ ?_)
  · exact (askActive_only _).mono (by rfl)
  · exact (askIdle_only _).mono (by rfl)
  · exact (askLow_only _ _).mono (by rfl)

theorem pushPtp_only : ∀ x0 x1, OnlyM 12582912 x0 (pushPtp x0 x1) := by
  intro x0 x1
  unfold pushPtp
  refine OnlyM.comp (ropeSend_only _ _ _) (by rfl) ?_
  exact OnlyM.refl _ _

theorem putI_only : ∀ x0 x1 x2 x3, OnlyM 192 x0 (putI x0 x1 x2 x3) := by
  intro x0 x1 x2 x3
  unfold putI
  refine OnlyM.comp (putObj_only _ _ _ _) (by rfl) ?_
  exact OnlyM.refl _ _

theorem queryWrite_only : ∀ x0 x1, OnlyM 2251799813685440 x0 (queryWrite x0 x1).1 := by
  intro x0 x1
  unfold queryWrite
  refine OnlyM.ite1 ?_ ?_
  · refine OnlyM.pair ?_
    exact OnlyM.refl _ _
  · lift_lets
    intro y0
    clear_value y0
    intro y1
    refine OnlyM.useHave (show OnlyM 2251799813685440 x0 y1 from ?_) (fun hy1 => ?_)
    · unfold y1
      refine OnlyM.comp (putN_only _ _ _ _) (by rfl) ?_
      refine OnlyM.comp (putI_only _ _ _ _) (by rfl) ?_
      exact OnlyM.refl _ _
    clear_value y1
    split
    · refine OnlyM.pair ?_
      refine OnlyM.comp (putN_only _ _ _ _) (by rfl) ?_
      assumption
    · refine OnlyM.pair ?_
      refine OnlyM.comp (drawn_only _) (by rfl) ?_
      refine OnlyM.comp (putN_only _ _ _ _) (by rfl) ?_
      assumption

theorem clockNoticeField_only : ∀ x0 x1, OnlyM 12583104 x0 (clockNoticeField x0 x1) := by
  intro x0 x1
  unfold clockNoticeField
  refine OnlyM.comp (class2_only _ _) (by rfl) ?_
  exact OnlyM.refl _ _

theorem setFclk_only : ∀ x0 x1, OnlyM 387036695625920 x0 (setFclk x0 x1) := by
  intro x0 x1
  unfold setFclk
  lift_lets
  intro y0
  clear_value y0
  intro y1
  clear_value y1
  intro y2
  clear_value y2
  intro y3
  refine OnlyM.useHave (show OnlyM 387036695625920 x0 y3 from ?_) (fun hy3 => ?_)
  · unfold y3
    refine OnlyM.comp (upd_fclk _ _) (by rfl) ?_
    exact OnlyM.refl _ _
  clear_value y3
  intro y4
  refine OnlyM.useHave (show OnlyM 387036695625920 x0 y4 from ?_) (fun hy4 => ?_)
  · unfold y4
    refine OnlyM.ite ?_ ?_
    · assumption
    · refine OnlyM.comp (clockNoticeField_only _ _) (by rfl) ?_
      assumption
  clear_value y4
  refine OnlyM.ite ?_ ?_
  · assumption
  · refine OnlyM.ite ?_ ?_
    · refine OnlyM.comp (emcy_only _ _ _ _) (by rfl) ?_
      assumption
    · refine OnlyM.ite ?_ ?_
      · refine OnlyM.comp (startReaction_only _ _ _ _ _ _ _ _ _) (by rfl) ?_
        refine OnlyM.comp (emcy_only _ _ _ _) (by rfl) ?_
        assumption
      · assumption

theorem setRole_only : ∀ x0 x1, OnlyM 387036695625920 x0 (setRole x0 x1) := by
  intro x0 x1
  unfold setRole
  refine OnlyM.ite ?_ ?_
  · refine OnlyM.comp (setFclk_only _ _) (by rfl) ?_
    exact OnlyM.refl _ _
  · refine OnlyM.ite ?_ ?_
    · refine OnlyM.comp (setFclk_only _ _) (by rfl) ?_
      exact OnlyM.refl _ _
    · exact OnlyM.refl _ _

theorem setTimeEntry_only : ∀ x0 x1 x2, OnlyM 32768 x0 (setTimeEntry x0 x1 x2) := by
  intro x0 x1 x2
  unfold setTimeEntry
  refine OnlyM.comp (upd_tEntries _ _) (by rfl) ?_
  exact OnlyM.refl _ _

theorem timeFire_only : ∀ x0 x1 x2, OnlyM 387028107757808 x0 (timeFire x0 x1 x2) := by
  intro x0 x1 x2
  unfold timeFire
  lift_lets
  intro y0
  clear_value y0
  intro y1
  clear_value y1
  intro y2
  refine OnlyM.useHave (show OnlyM 387028107757808 x0 y2 from ?_) (fun hy2 => ?_)
  · unfold y2
    refine OnlyM.comp (setTimeEntry_only _ _ _) (by rfl) ?_
    exact OnlyM.refl _ _
  clear_value y2
  intro y3
  refine OnlyM.useHave (show OnlyM 387028107757808 x0 y3 from ?_) (fun hy3 => ?_)
  · unfold y3
    refine OnlyM.ite ?_ ?_
    · refine OnlyM.ite ?_ ?_
      · refine OnlyM.comp (rephase_only _ _) (by rfl) ?_
        assumption
      · assumption
    · refine OnlyM.ite ?_ ?_
      · refine OnlyM.comp (eventMsg_only _ _ _ _) (by rfl) ?_
        assumption
      · refine OnlyM.ite ?_ ?_
        · assumption
        · refine OnlyM.comp (commonAct_only _ _ _ _ _ _) (by rfl) ?_
          assumption
  clear_value y3
  refine OnlyM.ite ?_ ?_
  · refine OnlyM.comp (posRec_only _ _ _ _ _ _ _) (by rfl) ?_
    assumption
  · assumption

theorem timeMiss_only : ∀ x0 x1, OnlyM 281474989326528 x0 (timeMiss x0 x1) := by
  intro x0 x1
  unfold timeMiss
  lift_lets
  intro y0
  clear_value y0
  intro y1
  refine OnlyM.useHave (show OnlyM 281474989326528 x0 y1 from ?_) (fun hy1 => ?_)
  · unfold y1
    refine OnlyM.comp (setTimeEntry_only _ _ _) (by rfl) ?_
    exact OnlyM.refl _ _
  clear_value y1
  refine OnlyM.comp (posRec_only _ _ _ _ _ _ _) (by rfl) ?_
  assumption

theorem timeLateOrMiss_only : ∀ x0 x1, OnlyM 387028107757808 x0 (timeLateOrMiss x0 x1) := by
  intro x0 x1
  unfold timeLateOrMiss
  refine OnlyM.ite ?_ ?_
  · refine OnlyM.comp (timeFire_only _ _ _) (by rfl) ?_
    exact OnlyM.refl _ _
  · refine OnlyM.comp (timeMiss_only _ _) (by rfl) ?_
    exact OnlyM.refl _ _

theorem timeEntrySet_only : ∀ x0 x1 x2, OnlyM 387028107757808 x0 (timeEntrySet x0 x1 x2) := by
  intro x0 x1 x2
  unfold timeEntrySet
  lift_lets
  intro y0
  clear_value y0
  intro y1
  refine OnlyM.useHave (show OnlyM 387028107757808 x0 y1 from ?_) (fun hy1 => ?_)
  · unfold y1
    refine OnlyM.comp (setTimeEntry_only _ _ _) (by rfl) ?_
    exact OnlyM.refl _ _
  clear_value y1
  refine OnlyM.ite ?_ ?_
  · refine OnlyM.comp (timeLateOrMiss_only _ _) (by rfl) ?_
    assumption
  · assumption

theorem timeEntryWrite_only : ∀ x0 x1 x2, OnlyM 387028107757808 x0 (timeEntryWrite x0 x1 x2).1 := by
  intro x0 x1 x2
  unfold timeEntryWrite
  refine OnlyM.ite1 ?_ ?_
  · refine OnlyM.pair ?_
    exact OnlyM.refl _ _
  · refine OnlyM.ite1 ?_ ?_
    · refine OnlyM.pair ?_
      exact OnlyM.refl _ _
    · refine OnlyM.pair ?_
      refine OnlyM.comp (timeEntrySet_only _ _ _) (by rfl) ?_
      exact OnlyM.refl _ _

theorem applyValue_only : ∀ x0 x1 x2 x3, OnlyM 4352373843819760 x0 (applyValue x0 x1 x2 x3).1 := by
  intro x0 x1 x2 x3
  unfold applyValue
  lift_lets
  intro y0
  clear_value y0
  intro y1
  refine OnlyM.useHave (show OnlyM 4352373843819760 x0 y1 from ?_) (fun hy1 => ?_)
  · unfold y1
    refine OnlyM.comp (putObj_only _ _ _ _) (by rfl) ?_
    exact OnlyM.refl _ _
  clear_value y1
  refine OnlyM.ite1 ?_ ?_
  · refine OnlyM.comp (entryWrite_only _ _ _ _) (by rfl) ?_
    exact OnlyM.refl _ _
  · refine OnlyM.ite1 ?_ ?_
    · refine OnlyM.comp (entryWrite_only _ _ _ _) (by rfl) ?_
      exact OnlyM.refl _ _
    · refine OnlyM.ite1 ?_ ?_
      · refine OnlyM.comp (timeEntryWrite_only _ _ _) (by rfl) ?_
        exact OnlyM.refl _ _
      · refine OnlyM.ite1 ?_ ?_
        · refine OnlyM.pair ?_
          refine OnlyM.comp (setRole_only _ _) (by rfl) ?_
          assumption
        · refine OnlyM.ite1 ?_ ?_
          · refine OnlyM.comp (queryWrite_only _ _) (by rfl) ?_
            exact OnlyM.refl _ _
          · refine OnlyM.ite1 ?_ ?_
            · refine OnlyM.pair ?_
              refine OnlyM.comp (conversionWrite_only _ _) (by rfl) ?_
              exact OnlyM.refl _ _
            · refine OnlyM.ite1 ?_ ?_
              · refine OnlyM.pair ?_
                refine OnlyM.comp (pushPtp_only _ _) (by rfl) ?_
                assumption
              · refine OnlyM.ite1 ?_ ?_
                · refine OnlyM.ite1 ?_ ?_
                  · refine OnlyM.pair ?_
                    exact OnlyM.refl _ _
                  · refine OnlyM.pair ?_
                    assumption
                · refine OnlyM.ite1 ?_ ?_
                  · refine OnlyM.comp (overrideWrite_only _ _) (by rfl) ?_
                    exact OnlyM.refl _ _
                  · refine OnlyM.ite1 ?_ ?_
                    · refine OnlyM.comp (powerWrite_only _ _) (by rfl) ?_
                      exact OnlyM.refl _ _
                    · refine OnlyM.ite1 ?_ ?_
                      · refine OnlyM.ite1 ?_ ?_
                        · refine OnlyM.pair ?_
                          assumption
                        · refine OnlyM.pair ?_
                          exact OnlyM.refl _ _
                      · refine OnlyM.ite1 ?_ ?_
                        · refine OnlyM.ite1 ?_ ?_
                          · refine OnlyM.pair ?_
                            assumption
                          · refine OnlyM.pair ?_
                            exact OnlyM.refl _ _
                        · refine OnlyM.ite1 ?_ ?_
                          · refine OnlyM.ite1 ?_ ?_
                            · refine OnlyM.pair ?_
                              assumption
                            · refine OnlyM.pair ?_
                              exact OnlyM.refl _ _
                          · refine OnlyM.ite1 ?_ ?_
                            · refine OnlyM.pair ?_
                              refine OnlyM.comp (controlword_only _ _ _) (by rfl) ?_
                              assumption
                            · refine OnlyM.ite1 ?_ ?_
                              · refine OnlyM.pair ?_
                                refine OnlyM.comp (modeSelect_only _ _) (by rfl) ?_
                                assumption
                              · refine OnlyM.ite1 ?_ ?_
                                · refine OnlyM.pair ?_
                                  exact OnlyM.refl _ _
                                · refine OnlyM.pair ?_
                                  assumption

theorem fieldSwitch_only : ∀ x0 x1, OnlyM 4352373843819760 x0 (fieldSwitch x0 x1) := by
  intro x0 x1
  unfold fieldSwitch
  lift_lets
  intro y0
  clear_value y0
  intro y1
  refine OnlyM.useHave (show OnlyM 4352373843819760 x0 y1 from ?_) (fun hy1 => ?_)
  · unfold y1
    refine OnlyM.foldl ?_ (fun _ _ _ => ?_)
    · exact OnlyM.refl _ _
    · refine OnlyM.comp (putObj_only _ _ _ _) (by rfl) ?_
      assumption
  clear_value y1
  refine OnlyM.foldl ?_ (fun _ _ _ => ?_)
  · assumption
  · lift_lets
    intro y2
    clear_value y2
    refine OnlyM.ite ?_ ?_
    · refine OnlyM.comp (upd_hMaster_hostPush _ _ _) (by rfl) ?_
      assumption
    · refine OnlyM.ite ?_ ?_
      · refine OnlyM.comp (fieldEntrySet_only _ _ _) (by rfl) ?_
        assumption
      · refine OnlyM.ite ?_ ?_
        · refine OnlyM.comp (timeEntrySet_only _ _ _) (by rfl) ?_
          assumption
        · refine OnlyM.comp (applyValue_only _ _ _ _) (by rfl) ?_
          assumption

theorem stageFrame_only : ∀ x0 x1 x2 x3 x4 x5, OnlyM 12582912 x0 (stageFrame x0 x1 x2 x3 x4 x5) := by
  intro x0 x1 x2 x3 x4 x5
  unfold stageFrame
  refine OnlyM.comp (ropeSend_only _ _ _) (by rfl) ?_
  exact OnlyM.refl _ _

theorem applySet_only : ∀ x0 x1 x2, OnlyM 4352381360012528 x0 (applySet x0 x1 x2) := by
  intro x0 x1 x2
  unfold applySet
  lift_lets
  intro y0
  clear_value y0
  intro y1
  clear_value y1
  intro y2
  refine OnlyM.useHave (show OnlyM 4352381360012528 x0 y2 from ?_) (fun hy2 => ?_)
  · unfold y2
    refine OnlyM.comp (fieldSwitch_only _ _) (by rfl) ?_
    exact OnlyM.refl _ _
  clear_value y2
  intro y3
  clear_value y3
  intro y4
  refine OnlyM.useHave (show OnlyM 4352381360012528 x0 y4 from ?_) (fun hy4 => ?_)
  · unfold y4
    refine OnlyM.comp (setStg_only _ _ _) (by rfl) ?_
    assumption
  clear_value y4
  intro y5
  refine OnlyM.useHave (show OnlyM 4352381360012528 x0 y5 from ?_) (fun hy5 => ?_)
  · unfold y5
    refine OnlyM.comp (putN_only _ _ _ _) (by rfl) ?_
    refine OnlyM.comp (upd_undo_keptHost _ _ _) (by rfl) ?_
    assumption
  clear_value y5
  intro y6
  refine OnlyM.useHave (show OnlyM 4352381360012528 x0 y6 from ?_) (fun hy6 => ?_)
  · unfold y6
    refine OnlyM.ite ?_ ?_
    · refine OnlyM.comp (bump_only _ _ _ _) (by rfl) ?_
      assumption
    · assumption
  clear_value y6
  refine OnlyM.ite ?_ ?_
  · refine OnlyM.comp (stageFrame_only _ _ _ _ _ _) (by rfl) ?_
    assumption
  · assumption

theorem applyDue_only : ∀ x0 x1, OnlyM 4352381360012528 x0 (applyDue x0 x1) := by
  intro x0 x1
  unfold applyDue
  lift_lets
  intro y0
  clear_value y0
  refine OnlyM.ite ?_ ?_
  · exact OnlyM.refl _ _
  · split
    · refine OnlyM.ite ?_ ?_
      · refine OnlyM.comp (applySet_only _ _ _) (by rfl) ?_
        exact OnlyM.refl _ _
      · exact OnlyM.refl _ _
    · split
      · refine OnlyM.ite ?_ ?_
        · exact OnlyM.refl _ _
        · refine OnlyM.comp (applySet_only _ _ _) (by rfl) ?_
          exact OnlyM.refl _ _
      · exact OnlyM.refl _ _
    · exact OnlyM.refl _ _

theorem applySafe_only : ∀ x0, OnlyM 105553116266496 x0 (applySafe x0) := by
  intro x0
  unfold applySafe
  refine OnlyM.foldl ?_ (fun _ _ _ => ?_)
  · exact OnlyM.refl _ _
  · refine OnlyM.ite ?_ ?_
    · refine OnlyM.comp (tripSto_only _ _ _) (by rfl) ?_
      assumption
    · refine OnlyM.ite ?_ ?_
      · refine OnlyM.comp (reactAxis_only _ _ _) (by rfl) ?_
        assumption
      · assumption

theorem setState_only : ∀ x0 x1 x2, OnlyM 70368744177664 x0 (setState x0 x1 x2) := by
  intro x0 x1 x2
  unfold setState
  refine OnlyM.comp (setCe_only _ _ _) (by rfl) ?_
  exact OnlyM.refl _ _

theorem approachStep_only : ∀ x0 x1 x2, OnlyM 70368744177664 x0 (approachStep x0 x1 x2) := by
  intro x0 x1 x2
  unfold approachStep
  lift_lets
  intro y0
  clear_value y0
  intro y1
  clear_value y1
  intro y2
  clear_value y2
  intro y3
  clear_value y3
  intro y4
  intro y5
  clear_value y5
  intro y6
  refine OnlyM.useHave (show OnlyM 70368744177664 x0 y6 from ?_) (fun hy6 => ?_)
  · unfold y6
    refine OnlyM.comp (setState_only _ _ _) (by rfl) ?_
    exact OnlyM.refl _ _
  clear_value y6
  intro y7
  clear_value y7
  intro y8
  clear_value y8
  intro y9
  refine OnlyM.useHave (show OnlyM 70368744177664 x0 y9 from ?_) (fun hy9 => ?_)
  · unfold y9
    refine OnlyM.comp (setState_only _ _ _) (by rfl) ?_
    exact OnlyM.refl _ _
  clear_value y9
  refine OnlyM.ite ?_ ?_
  · refine OnlyM.ite ?_ ?_
    · unfold y4
      lift_lets
      intro y10
      clear_value y10
      refine OnlyM.comp (setCe_only _ _ _) (by rfl) ?_
      assumption
    · assumption
  · refine OnlyM.ite ?_ ?_
    · unfold y4
      lift_lets
      intro y11
      clear_value y11
      refine OnlyM.comp (setCe_only _ _ _) (by rfl) ?_
      assumption
    · assumption

theorem becomeArmed_only : ∀ x0 x1 x2, OnlyM 4352381360012528 x0 (becomeArmed x0 x1 x2) := by
  intro x0 x1 x2
  unfold becomeArmed
  lift_lets
  intro y0
  clear_value y0
  intro y1
  refine OnlyM.useHave (show OnlyM 4352381360012528 x0 y1 from ?_) (fun hy1 => ?_)
  · unfold y1
    refine OnlyM.comp (setAnswer_only _ _ _) (by rfl) ?_
    refine OnlyM.comp (setStg_only _ _ _) (by rfl) ?_
    exact OnlyM.refl _ _
  clear_value y1
  intro y2
  clear_value y2
  split
  · refine OnlyM.ite ?_ ?_
    · refine OnlyM.comp (applySet_only _ _ _) (by rfl) ?_
      assumption
    · assumption
  · refine OnlyM.ite ?_ ?_
    · assumption
    · refine OnlyM.ite ?_ ?_
      · refine OnlyM.comp (setStg_only _ _ _) (by rfl) ?_
        assumption
      · refine OnlyM.comp (applySet_only _ _ _) (by rfl) ?_
        assumption

theorem stageAsk_only : ∀ x0 x1 x2, OnlyM 1086324736 x0 (stageAsk x0 x1 x2) := by
  intro x0 x1 x2
  unfold stageAsk
  refine OnlyM.comp (stageFrame_only _ _ _ _ _ _) (by rfl) ?_
  refine OnlyM.comp (setStg_only _ _ _) (by rfl) ?_
  exact OnlyM.refl _ _

theorem armSet_only : ∀ x0 x1 x2 x3, OnlyM 4352381360012528 x0 (armSet x0 x1 x2 x3) := by
  intro x0 x1 x2 x3
  unfold armSet
  lift_lets
  intro y0
  intro y1
  clear_value y1
  split
  · unfold y0
    dsimp -proj only
    refine OnlyM.comp (setAnswer_only _ _ _) (by rfl) ?_
    refine OnlyM.comp (setStg_only _ _ _) (by rfl) ?_
    exact OnlyM.refl _ _
  · refine OnlyM.ite ?_ ?_
    · unfold y0
      dsimp -proj only
      refine OnlyM.comp (setAnswer_only _ _ _) (by rfl) ?_
      refine OnlyM.comp (setStg_only _ _ _) (by rfl) ?_
      exact OnlyM.refl _ _
    · refine OnlyM.ite ?_ ?_
      · refine OnlyM.comp (stageAsk_only _ _ _) (by rfl) ?_
        refine OnlyM.comp (setStg_only _ _ _) (by rfl) ?_
        exact OnlyM.refl _ _
      · refine OnlyM.comp (becomeArmed_only _ _ _) (by rfl) ?_
        exact OnlyM.refl _ _

theorem queueLink_only : ∀ x0 x1 x2, OnlyM 12582912 x0 (queueLink x0 x1 x2) := by
  intro x0 x1 x2
  unfold queueLink
  lift_lets
  intro y0
  clear_value y0
  refine OnlyM.ite ?_ ?_
  · exact OnlyM.refl _ _
  · refine OnlyM.comp (setEnd_only _ _ _) (by rfl) ?_
    exact OnlyM.refl _ _

theorem crcError_only : ∀ x0 x1, OnlyM 12583104 x0 (crcError x0 x1) := by
  intro x0 x1
  unfold crcError
  lift_lets
  intro y0
  refine OnlyM.useHave (show OnlyM 12583104 x0 y0 from ?_) (fun hy0 => ?_)
  · unfold y0
    refine OnlyM.comp (bump_only _ _ _ _) (by rfl) ?_
    exact OnlyM.refl _ _
  clear_value y0
  intro y1
  clear_value y1
  refine OnlyM.comp (queueLink_only _ _ _) (by rfl) ?_
  refine OnlyM.comp (setEnd_only _ _ _) (by rfl) ?_
  assumption

theorem deliver_only : ∀ x0 x1 x2, OnlyM 12582912 x0 (deliver x0 x1 x2) := by
  intro x0 x1 x2
  unfold deliver
  lift_lets
  intro y0
  clear_value y0
  intro y1
  clear_value y1
  intro y2
  refine OnlyM.useHave (show OnlyM 12582912 x0 y2 from ?_) (fun hy2 => ?_)
  · unfold y2
    refine OnlyM.comp (setEnd_only _ _ _) (by rfl) ?_
    exact OnlyM.refl _ _
  clear_value y2
  refine OnlyM.ite ?_ ?_
  · refine OnlyM.comp (queueLink_only _ _ _) (by rfl) ?_
    assumption
  · assumption

theorem returnCredits_only : ∀ x0 x1, OnlyM 12582912 x0 (returnCredits x0 x1) := by
  intro x0 x1
  unfold returnCredits
  lift_lets
  intro y0
  clear_value y0
  refine OnlyM.ite ?_ ?_
  · refine OnlyM.comp (queueLink_only _ _ _) (by rfl) ?_
    exact OnlyM.refl _ _
  · exact OnlyM.refl _ _

theorem dispatched_only : ∀ x0 x1 x2, OnlyM 12582912 x0 (dispatched x0 x1 x2) := by
  intro x0 x1 x2
  unfold dispatched
  lift_lets
  intro y0
  clear_value y0
  refine OnlyM.ite ?_ ?_
  · exact OnlyM.refl _ _
  · refine OnlyM.comp (returnCredits_only _ _) (by rfl) ?_
    refine OnlyM.comp (setEnd_only _ _ _) (by rfl) ?_
    exact OnlyM.refl _ _

theorem retrain_only : ∀ x0 x1 x2 x3, OnlyM 29360320 x0 (retrain x0 x1 x2 x3) := by
  intro x0 x1 x2 x3
  unfold retrain
  refine OnlyM.ite ?_ ?_
  · lift_lets
    intro y0
    refine OnlyM.useHave (show OnlyM 29360320 x0 y0 from ?_) (fun hy0 => ?_)
    · unfold y0
      refine OnlyM.comp (bump_only _ _ _ _) (by rfl) ?_
      exact OnlyM.refl _ _
    clear_value y0
    intro y1
    clear_value y1
    intro y2
    clear_value y2
    intro y3
    clear_value y3
    refine OnlyM.comp (upd_fend_hend_link _ _ _ _) (by rfl) ?_
    assumption
  · exact OnlyM.refl _ _

theorem replay_only : ∀ x0 x1, OnlyM 29360320 x0 (replay x0 x1) := by
  intro x0 x1
  unfold replay
  lift_lets
  intro y0
  clear_value y0
  split
  · exact OnlyM.refl _ _
  · refine OnlyM.ite ?_ ?_
    · refine OnlyM.comp (retrain_only _ _ _ _) (by rfl) ?_
      refine OnlyM.comp (setEnd_only _ _ _) (by rfl) ?_
      exact OnlyM.refl _ _
    · refine OnlyM.comp (bump_only _ _ _ _) (by rfl) ?_
      refine OnlyM.comp (setEnd_only _ _ _) (by rfl) ?_
      exact OnlyM.refl _ _

theorem creditsBack_only : ∀ x0 x1 x2 x3, OnlyM 12582912 x0 (creditsBack x0 x1 x2 x3) := by
  intro x0 x1 x2 x3
  unfold creditsBack
  lift_lets
  intro y0
  clear_value y0
  intro y1
  clear_value y1
  refine OnlyM.comp (setEnd_only _ _ _) (by rfl) ?_
  exact OnlyM.refl _ _

theorem takeFields_only : ∀ x0 x1 x2, OnlyM 1407392344442049 x0 (takeFields x0 x1 x2) := by
  intro x0 x1 x2
  unfold takeFields
  lift_lets
  intro y0
  refine OnlyM.useHave (show OnlyM 1407392344442049 x0 y0 from ?_) (fun hy0 => ?_)
  · unfold y0
    split
    · refine OnlyM.comp (acked_only _ _ _) (by rfl) ?_
      exact OnlyM.refl _ _
    · exact OnlyM.refl _ _
  clear_value y0
  refine OnlyM.ite ?_ ?_
  · assumption
  · refine OnlyM.comp (creditsBack_only _ _ _ _) (by rfl) ?_
    assumption

theorem classIn_only : ∀ x0 x1 x2 x3, OnlyM 1407392361219265 x0 (classIn x0 x1 x2 x3) := by
  intro x0 x1 x2 x3
  unfold classIn
  lift_lets
  intro y0
  clear_value y0
  intro y1
  clear_value y1
  intro y2
  refine OnlyM.useHave (show OnlyM 1407392361219265 x0 y2 from ?_) (fun hy2 => ?_)
  · unfold y2
    refine OnlyM.comp (setEnd_only _ _ _) (by rfl) ?_
    exact OnlyM.refl _ _
  clear_value y2
  intro y3
  refine OnlyM.useHave (show OnlyM 1407392361219265 x0 y3 from ?_) (fun hy3 => ?_)
  · unfold y3
    refine OnlyM.comp (takeFields_only _ _ _) (by rfl) ?_
    assumption
  clear_value y3
  intro y4
  refine OnlyM.useHave (show OnlyM 1407392361219265 x0 y4 from ?_) (fun hy4 => ?_)
  · unfold y4
    refine OnlyM.ite ?_ ?_
    · refine OnlyM.comp (bump_only _ _ _ _) (by rfl) ?_
      refine OnlyM.comp (dispatched_only _ _ _) (by rfl) ?_
      assumption
    · refine OnlyM.comp (deliver_only _ _ _) (by rfl) ?_
      assumption
  clear_value y4
  refine OnlyM.ite ?_ ?_
  · exact OnlyM.refl _ _
  · refine OnlyM.ite ?_ ?_
    · refine OnlyM.comp (crcError_only _ _) (by rfl) ?_
      exact OnlyM.refl _ _
    · refine OnlyM.ite ?_ ?_
      · refine OnlyM.comp (replay_only _ _) (by rfl) ?_
        assumption
      · assumption

theorem controlBad_only : ∀ x0 x1 x2, OnlyM 12583104 x0 (controlBad x0 x1 x2) := by
  intro x0 x1 x2
  unfold controlBad
  lift_lets
  intro y0
  clear_value y0
  intro y1
  clear_value y1
  intro y2
  refine OnlyM.useHave (show OnlyM 12583104 x0 y2 from ?_) (fun hy2 => ?_)
  · unfold y2
    refine OnlyM.comp (setEnd_only _ _ _) (by rfl) ?_
    exact OnlyM.refl _ _
  clear_value y2
  refine OnlyM.ite ?_ ?_
  · assumption
  · refine OnlyM.comp (crcError_only _ _) (by rfl) ?_
    assumption

theorem linkIn_only : ∀ x0 x1 x2, OnlyM 1407392361219265 x0 (linkIn x0 x1 x2) := by
  intro x0 x1 x2
  unfold linkIn
  lift_lets
  intro y0
  refine OnlyM.useHave (show OnlyM 1407392361219265 x0 y0 from ?_) (fun hy0 => ?_)
  · unfold y0
    refine OnlyM.comp (takeFields_only _ _ _) (by rfl) ?_
    exact OnlyM.refl _ _
  clear_value y0
  refine OnlyM.ite ?_ ?_
  · refine OnlyM.comp (replay_only _ _) (by rfl) ?_
    assumption
  · assumption

theorem consentGone_only : ∀ x0, OnlyM 1970342029427904 x0 (consentGone x0) := by
  intro x0
  unfold consentGone
  lift_lets
  intro y0
  clear_value y0
  intro y1
  refine OnlyM.useHave (show OnlyM 1970342029427904 x0 y1 from ?_) (fun hy1 => ?_)
  · unfold y1
    refine OnlyM.comp (upd_pwr _ _) (by rfl) ?_
    exact OnlyM.refl _ _
  clear_value y1
  split
  · exact OnlyM.refl _ _
  · refine OnlyM.comp (portDone_only _ _ _ _ _ _ _ _ _ _) (by rfl) ?_
    assumption
  · assumption

theorem portWaitsAbort_only : ∀ x0, OnlyM 1407392344442048 x0 (portWaitsAbort x0) := by
  intro x0
  unfold portWaitsAbort
  refine OnlyM.foldl ?_ (fun _ _ _ => ?_)
  · refine OnlyM.comp (upd_portWaits _ _) (by rfl) ?_
    exact OnlyM.refl _ _
  · refine OnlyM.comp (waitDone_only _ _ _ _) (by rfl) ?_
    assumption

theorem failHostFrames_only : ∀ x0 x1, OnlyM 1972541321118912 x0 (failHostFrames x0 x1) := by
  intro x0 x1
  unfold failHostFrames
  refine OnlyM.comp (consentGone_only _) (by rfl) ?_
  refine OnlyM.comp (portWaitsAbort_only _) (by rfl) ?_
  refine OnlyM.comp (upd_gal _ _) (by rfl) ?_
  exact OnlyM.refl _ _

theorem d2hEvent_only : ∀ x0 x1, OnlyM 1407392076006592 x0 (d2hEvent x0 x1) := by
  intro x0 x1
  unfold d2hEvent
  refine OnlyM.ite ?_ ?_
  · exact OnlyM.refl _ _
  · refine OnlyM.ite ?_ ?_
    · refine OnlyM.comp (d2hPut_only _ _) (by rfl) ?_
      exact OnlyM.refl _ _
    · refine OnlyM.comp (setReg_only _ _ _) (by rfl) ?_
      exact OnlyM.refl _ _

theorem linkNotice_only : ∀ x0 x1, OnlyM 1407392076006592 x0 (linkNotice x0 x1) := by
  intro x0 x1
  unfold linkNotice
  refine OnlyM.comp (d2hEvent_only _ _) (by rfl) ?_
  exact OnlyM.refl _ _

theorem linkDown_only : ∀ x0, OnlyM 1972541337896128 x0 (linkDown x0) := by
  intro x0
  unfold linkDown
  refine OnlyM.ite ?_ ?_
  · exact OnlyM.refl _ _
  · lift_lets
    intro y0
    clear_value y0
    intro y1
    clear_value y1
    intro y2
    refine OnlyM.useHave (show OnlyM 1972541337896128 x0 y2 from ?_) (fun hy2 => ?_)
    · unfold y2
      refine OnlyM.comp (upd_fend_hend_link _ _ _ _) (by rfl) ?_
      exact OnlyM.refl _ _
    clear_value y2
    refine OnlyM.comp (linkNotice_only _ _) (by rfl) ?_
    refine OnlyM.comp (failHostFrames_only _ _) (by rfl) ?_
    assumption

theorem pairsFault_only : ∀ x0 x1 x2, OnlyM 1972541337896128 x0 (pairsFault x0 x1 x2) := by
  intro x0 x1 x2
  unfold pairsFault
  lift_lets
  intro y0
  clear_value y0
  intro y1
  refine OnlyM.useHave (show OnlyM 1972541337896128 x0 y1 from ?_) (fun hy1 => ?_)
  · unfold y1
    refine OnlyM.comp (upd_link _ _) (by rfl) ?_
    exact OnlyM.refl _ _
  refine OnlyM.ite ?_ ?_
  · refine OnlyM.comp (linkDown_only _) (by rfl) ?_
    assumption
  · refine OnlyM.comp (retrain_only _ _ _ _) (by rfl) ?_
    assumption

theorem retrainAsked_only : ∀ x0 x1, OnlyM 1972541337896128 x0 (retrainAsked x0 x1) := by
  intro x0 x1
  unfold retrainAsked
  refine OnlyM.ite ?_ ?_
  · refine OnlyM.comp (pairsFault_only _ _ _) (by rfl) ?_
    exact OnlyM.refl _ _
  · refine OnlyM.comp (retrain_only _ _ _ _) (by rfl) ?_
    exact OnlyM.refl _ _

theorem controlIn_only : ∀ x0 x1 x2, OnlyM 1972541337896129 x0 (controlIn x0 x1 x2) := by
  intro x0 x1 x2
  unfold controlIn
  refine OnlyM.ite ?_ ?_
  · refine OnlyM.comp (linkIn_only _ _ _) (by rfl) ?_
    exact OnlyM.refl _ _
  · refine OnlyM.ite ?_ ?_
    · refine OnlyM.comp (retrainAsked_only _ _) (by rfl) ?_
      refine OnlyM.comp (takeFields_only _ _ _) (by rfl) ?_
      exact OnlyM.refl _ _
    · exact OnlyM.refl _ _

theorem arrivalIn_only : ∀ x0 x1 x2 x3, OnlyM 1972541337896129 x0 (arrivalIn x0 x1 x2 x3) := by
  intro x0 x1 x2 x3
  unfold arrivalIn
  split
  · refine OnlyM.ite ?_ ?_
    · refine OnlyM.comp (controlIn_only _ _ _) (by rfl) ?_
      exact OnlyM.refl _ _
    · refine OnlyM.comp (classIn_only _ _ _ _) (by rfl) ?_
      exact OnlyM.refl _ _
  · refine OnlyM.ite ?_ ?_
    · refine OnlyM.comp (controlBad_only _ _ _) (by rfl) ?_
      exact OnlyM.refl _ _
    · refine OnlyM.comp (classIn_only _ _ _ _) (by rfl) ?_
      exact OnlyM.refl _ _

theorem assignPtes_only : ∀ x0 x1 x2 x3, OnlyM 4398046511104 x0 (assignPtes x0 x1 x2 x3) := by
  intro x0 x1 x2 x3
  unfold assignPtes
  refine OnlyM.foldl ?_ (fun _ _ _ => ?_)
  · exact OnlyM.refl _ _
  · refine OnlyM.comp (setPte_only _ _ _ _) (by rfl) ?_
    assumption

theorem axisCommand_only : ∀ x0 x1, OnlyM 70368744177856 x0 (axisCommand x0 x1).1 := by
  intro x0 x1
  unfold axisCommand
  lift_lets
  intro y0
  clear_value y0
  intro y1
  clear_value y1
  intro y2
  intro y3
  clear_value y3
  intro y4
  clear_value y4
  refine OnlyM.ite1 ?_ ?_
  · refine OnlyM.pair ?_
    exact OnlyM.refl _ _
  · refine OnlyM.ite1 ?_ ?_
    · unfold y2
      refine OnlyM.pair ?_
      refine OnlyM.comp (bump_only _ _ _ _) (by rfl) ?_
      exact OnlyM.refl _ _
    · refine OnlyM.ite1 ?_ ?_
      · unfold y2
        refine OnlyM.pair ?_
        refine OnlyM.comp (bump_only _ _ _ _) (by rfl) ?_
        exact OnlyM.refl _ _
      · refine OnlyM.ite1 ?_ ?_
        · unfold y2
          refine OnlyM.pair ?_
          refine OnlyM.comp (bump_only _ _ _ _) (by rfl) ?_
          exact OnlyM.refl _ _
        · refine OnlyM.pair ?_
          refine OnlyM.comp (setCe_only _ _ _) (by rfl) ?_
          exact OnlyM.refl _ _

theorem axisCount_only : ∀ x0 x1 x2, OnlyM 35184372089024 x0 (axisCount x0 x1 x2) := by
  intro x0 x1 x2
  unfold axisCount
  lift_lets
  intro y0
  clear_value y0
  refine OnlyM.comp (encPublish_only _ _) (by rfl) ?_
  refine OnlyM.comp (setAx_only _ _ _) (by rfl) ?_
  exact OnlyM.refl _ _

theorem encFault_only : ∀ x0 x1, OnlyM 35192962023616 x0 (encFault x0 x1) := by
  intro x0 x1
  unfold encFault
  lift_lets
  intro y0
  clear_value y0
  refine OnlyM.comp (emcy_only _ _ _ _) (by rfl) ?_
  refine OnlyM.comp (setAx_only _ _ _) (by rfl) ?_
  exact OnlyM.refl _ _

theorem axisQuadError_only : ∀ x0 x1, OnlyM 35192962023616 x0 (axisQuadError x0 x1) := by
  intro x0 x1
  unfold axisQuadError
  lift_lets
  intro y0
  clear_value y0
  intro y1
  clear_value y1
  intro y2
  refine OnlyM.useHave (show OnlyM 35192962023616 x0 y2 from ?_) (fun hy2 => ?_)
  · unfold y2
    refine OnlyM.comp (bump_only _ _ _ _) (by rfl) ?_
    refine OnlyM.comp (setAx_only _ _ _) (by rfl) ?_
    exact OnlyM.refl _ _
  clear_value y2
  refine OnlyM.ite ?_ ?_
  · refine OnlyM.comp (encFault_only _ _) (by rfl) ?_
    assumption
  · assumption

theorem axisEdge_only : ∀ x0 x1 x2 x3, OnlyM 35192962023616 x0 (axisEdge x0 x1 x2 x3) := by
  intro x0 x1 x2 x3
  unfold axisEdge
  lift_lets
  intro y0
  clear_value y0
  intro y1
  refine OnlyM.useHave (show OnlyM 35192962023616 x0 y1 from ?_) (fun hy1 => ?_)
  · unfold y1
    refine OnlyM.comp (setAx_only _ _ _) (by rfl) ?_
    exact OnlyM.refl _ _
  clear_value y1
  refine OnlyM.ite ?_ ?_
  · refine OnlyM.comp (axisQuadError_only _ _) (by rfl) ?_
    assumption
  · refine OnlyM.ite ?_ ?_
    · refine OnlyM.comp (axisCount_only _ _ _) (by rfl) ?_
      assumption
    · refine OnlyM.ite ?_ ?_
      · refine OnlyM.comp (axisCount_only _ _ _) (by rfl) ?_
        assumption
      · assumption

theorem axisIndex_only : ∀ x0 x1, OnlyM 70368744177664 x0 (axisIndex x0 x1) := by
  intro x0 x1
  unfold axisIndex
  lift_lets
  intro y0
  clear_value y0
  intro y1
  clear_value y1
  intro y2
  clear_value y2
  intro y3
  refine OnlyM.useHave (show OnlyM 70368744177664 x0 y3 from ?_) (fun hy3 => ?_)
  · unfold y3
    refine OnlyM.comp (setCe_only _ _ _) (by rfl) ?_
    exact OnlyM.refl _ _
  clear_value y3
  intro y4
  refine OnlyM.useHave (show OnlyM 70368744177664 x0 y4 from ?_) (fun hy4 => ?_)
  · unfold y4
    refine OnlyM.comp (takeHome_only _ _) (by rfl) ?_
    assumption
  clear_value y4
  intro y5
  clear_value y5
  refine OnlyM.ite ?_ ?_
  · refine OnlyM.comp (setCe_only _ _ _) (by rfl) ?_
    assumption
  · exact OnlyM.refl _ _

theorem currentPass_only : ∀ x0 x1 x2, OnlyM 105553116266496 x0 (currentPass x0 x1 x2).1 := by
  intro x0 x1 x2
  unfold currentPass
  lift_lets
  intro y0
  clear_value y0
  intro y1
  clear_value y1
  intro y2
  clear_value y2
  intro y3
  clear_value y3
  intro y4
  clear_value y4
  intro y5
  clear_value y5
  intro y6
  clear_value y6
  intro y7
  clear_value y7
  intro y8
  clear_value y8
  intro y9
  clear_value y9
  intro y10
  clear_value y10
  intro y11
  clear_value y11
  intro y12
  clear_value y12
  intro y13
  clear_value y13
  intro y14
  clear_value y14
  intro y15
  clear_value y15
  intro y16
  clear_value y16
  intro y17
  clear_value y17
  intro y18
  clear_value y18
  intro y19
  clear_value y19
  intro y20
  clear_value y20
  intro y21
  clear_value y21
  intro y22
  clear_value y22
  intro y23
  clear_value y23
  intro y24
  clear_value y24
  intro y25
  clear_value y25
  intro y26
  clear_value y26
  intro y27
  clear_value y27
  intro y28
  clear_value y28
  intro y29
  clear_value y29
  intro y30
  clear_value y30
  intro y31
  clear_value y31
  intro y32
  clear_value y32
  intro y33
  clear_value y33
  intro y34
  clear_value y34
  intro y35
  clear_value y35
  intro y36
  clear_value y36
  intro y37
  clear_value y37
  intro y38
  refine OnlyM.useHave (show OnlyM 105553116266496 x0 y38 from ?_) (fun hy38 => ?_)
  · unfold y38
    refine OnlyM.comp (setCe_only _ _ _) (by rfl) ?_
    exact OnlyM.refl _ _
  clear_value y38
  intro y39
  refine OnlyM.useHave (show OnlyM 105553116266496 x0 y39 from ?_) (fun hy39 => ?_)
  · unfold y39
    refine OnlyM.comp (setAx_only _ _ _) (by rfl) ?_
    assumption
  clear_value y39
  refine OnlyM.pair ?_
  assumption

theorem finiteCheck_only : ∀ x0 x1 x2, OnlyM 387036695494848 x0 (finiteCheck x0 x1 x2) := by
  intro x0 x1 x2
  unfold finiteCheck
  lift_lets
  intro y0
  clear_value y0
  refine OnlyM.ite ?_ ?_
  · exact OnlyM.refl _ _
  · refine OnlyM.comp (startReaction_only _ _ _ _ _ _ _ _ _) (by rfl) ?_
    exact OnlyM.refl _ _

theorem outerPass_only : ∀ x0 x1 x2, OnlyM 70368744177664 x0 (outerPass x0 x1 x2) := by
  intro x0 x1 x2
  unfold outerPass
  lift_lets
  intro y0
  clear_value y0
  intro y1
  clear_value y1
  intro y2
  clear_value y2
  intro y3
  clear_value y3
  intro y4
  clear_value y4
  intro y5
  clear_value y5
  intro y6
  clear_value y6
  intro y7
  clear_value y7
  intro y8
  clear_value y8
  refine OnlyM.ite ?_ ?_
  · refine OnlyM.comp (setCe_only _ _ _) (by rfl) ?_
    exact OnlyM.refl _ _
  · refine OnlyM.comp (setCe_only _ _ _) (by rfl) ?_
    exact OnlyM.refl _ _

theorem plausibility_only : ∀ x0 x1 x2, OnlyM 387036695494848 x0 (plausibility x0 x1 x2) := by
  intro x0 x1 x2
  unfold plausibility
  lift_lets
  intro y0
  clear_value y0
  intro y1
  clear_value y1
  intro y2
  clear_value y2
  intro y3
  clear_value y3
  intro y4
  clear_value y4
  intro y5
  clear_value y5
  intro y6
  clear_value y6
  intro y7
  clear_value y7
  intro y8
  clear_value y8
  intro y9
  clear_value y9
  intro y10
  clear_value y10
  intro y11
  clear_value y11
  intro y12
  clear_value y12
  intro y13
  clear_value y13
  intro y14
  clear_value y14
  intro y15
  refine OnlyM.useHave (show OnlyM 387036695494848 x0 y15 from ?_) (fun hy15 => ?_)
  · unfold y15
    refine OnlyM.comp (setCe_only _ _ _) (by rfl) ?_
    exact OnlyM.refl _ _
  clear_value y15
  refine OnlyM.ite ?_ ?_
  · refine OnlyM.comp (setCe_only _ _ _) (by rfl) ?_
    exact OnlyM.refl _ _
  · refine OnlyM.ite ?_ ?_
    · refine OnlyM.comp (setCe_only _ _ _) (by rfl) ?_
      exact OnlyM.refl _ _
    · refine OnlyM.ite ?_ ?_
      · refine OnlyM.comp (startReaction_only _ _ _ _ _ _ _ _ _) (by rfl) ?_
        assumption
      · assumption

theorem commandDone_only : ∀ x0 x1 x2, OnlyM 70368744177856 x0 (commandDone x0 x1 x2) := by
  intro x0 x1 x2
  unfold commandDone
  refine OnlyM.comp (bump_only _ _ _ _) (by rfl) ?_
  refine OnlyM.comp (setCe_only _ _ _) (by rfl) ?_
  exact OnlyM.refl _ _

theorem commandStep_only : ∀ x0 x1 x2 x3 x4, OnlyM 70368744177856 x0 (commandStep x0 x1 x2 x3 x4) := by
  intro x0 x1 x2 x3 x4
  unfold commandStep
  lift_lets
  intro y0
  clear_value y0
  intro y1
  clear_value y1
  intro y2
  clear_value y2
  intro y3
  clear_value y3
  intro y4
  clear_value y4
  intro y5
  clear_value y5
  intro y6
  clear_value y6
  intro y7
  refine OnlyM.useHave (show OnlyM 70368744177856 x0 y7 from ?_) (fun hy7 => ?_)
  · unfold y7
    refine OnlyM.comp (setState_only _ _ _) (by rfl) ?_
    exact OnlyM.refl _ _
  clear_value y7
  intro y8
  clear_value y8
  intro y9
  clear_value y9
  intro y10
  clear_value y10
  intro y11
  refine OnlyM.useHave (show OnlyM 70368744177856 x0 y11 from ?_) (fun hy11 => ?_)
  · unfold y11
    refine OnlyM.comp (setState_only _ _ _) (by rfl) ?_
    exact OnlyM.refl _ _
  clear_value y11
  intro y12
  clear_value y12
  intro y13
  clear_value y13
  intro y14
  refine OnlyM.useHave (show OnlyM 70368744177856 x0 y14 from ?_) (fun hy14 => ?_)
  · unfold y14
    refine OnlyM.comp (setState_only _ _ _) (by rfl) ?_
    exact OnlyM.refl _ _
  clear_value y14
  refine OnlyM.ite ?_ ?_
  · refine OnlyM.comp (setState_only _ _ _) (by rfl) ?_
    exact OnlyM.refl _ _
  · refine OnlyM.ite ?_ ?_
    · refine OnlyM.ite ?_ ?_
      · assumption
      · refine OnlyM.ite ?_ ?_
        · refine OnlyM.comp (setCe_only _ _ _) (by rfl) ?_
          assumption
        · refine OnlyM.comp (commandDone_only _ _ _) (by rfl) ?_
          assumption
    · refine OnlyM.ite ?_ ?_
      · refine OnlyM.ite ?_ ?_
        · refine OnlyM.comp (commandDone_only _ _ _) (by rfl) ?_
          refine OnlyM.comp (setCe_only _ _ _) (by rfl) ?_
          assumption
        · assumption
      · refine OnlyM.ite ?_ ?_
        · refine OnlyM.comp (commandDone_only _ _ _) (by rfl) ?_
          assumption
        · assumption

theorem interpolateStep_only : ∀ x0 x1 x2, OnlyM 70368744177664 x0 (interpolateStep x0 x1 x2) := by
  intro x0 x1 x2
  unfold interpolateStep
  lift_lets
  intro y0
  clear_value y0
  intro y1
  clear_value y1
  intro y2
  clear_value y2
  intro y3
  clear_value y3
  intro y4
  clear_value y4
  intro y5
  intro y6
  clear_value y6
  intro y7
  refine OnlyM.useHave (show OnlyM 70368744177664 x0 y7 from ?_) (fun hy7 => ?_)
  · unfold y7
    refine OnlyM.comp (setCe_only _ _ _) (by rfl) ?_
    exact OnlyM.refl _ _
  clear_value y7
  intro y8
  clear_value y8
  intro y9
  refine OnlyM.useHave (show OnlyM 70368744177664 x0 y9 from ?_) (fun hy9 => ?_)
  · unfold y9
    refine OnlyM.comp (setState_only _ _ _) (by rfl) ?_
    assumption
  clear_value y9
  intro y10
  clear_value y10
  intro y11
  clear_value y11
  intro y12
  clear_value y12
  intro y13
  clear_value y13
  intro y14
  clear_value y14
  intro y15
  refine OnlyM.useHave (show OnlyM 70368744177664 x0 y15 from ?_) (fun hy15 => ?_)
  · unfold y15
    refine OnlyM.comp (setCe_only _ _ _) (by rfl) ?_
    exact OnlyM.refl _ _
  clear_value y15
  intro y16
  clear_value y16
  intro y17
  clear_value y17
  intro y18
  clear_value y18
  intro y19
  refine OnlyM.useHave (show OnlyM 70368744177664 x0 y19 from ?_) (fun hy19 => ?_)
  · unfold y19
    refine OnlyM.comp (setCe_only _ _ _) (by rfl) ?_
    exact OnlyM.refl _ _
  clear_value y19
  refine OnlyM.ite ?_ ?_
  · refine OnlyM.comp (setCe_only _ _ _) (by rfl) ?_
    assumption
  · refine OnlyM.ite ?_ ?_
    · refine OnlyM.comp (setState_only _ _ _) (by rfl) ?_
      assumption
    · refine OnlyM.ite ?_ ?_
      · refine OnlyM.comp (setState_only _ _ _) (by rfl) ?_
        assumption
      · refine OnlyM.comp (setState_only _ _ _) (by rfl) ?_
        assumption

theorem stopDone_only : ∀ x0 x1, OnlyM 105553116266496 x0 (stopDone x0 x1) := by
  intro x0 x1
  unfold stopDone
  lift_lets
  intro y0
  clear_value y0
  intro y1
  clear_value y1
  split
  · refine OnlyM.ite ?_ ?_
    · refine OnlyM.comp (setCe_only _ _ _) (by rfl) ?_
      exact OnlyM.refl _ _
    · refine OnlyM.ite ?_ ?_
      · refine OnlyM.comp (disableAxis_only _ _ _) (by rfl) ?_
        exact OnlyM.refl _ _
      · refine OnlyM.comp (setCe_only _ _ _) (by rfl) ?_
        exact OnlyM.refl _ _
  · refine OnlyM.ite ?_ ?_
    · refine OnlyM.comp (setCe_only _ _ _) (by rfl) ?_
      exact OnlyM.refl _ _
    · refine OnlyM.comp (driveTrip_only _ _) (by rfl) ?_
      refine OnlyM.comp (setCe_only _ _ _) (by rfl) ?_
      refine OnlyM.comp (axisClear_only _ _) (by rfl) ?_
      exact OnlyM.refl _ _
  · refine OnlyM.comp (setCe_only _ _ _) (by rfl) ?_
    exact OnlyM.refl _ _

theorem setpointStep_only : ∀ x0 x1 x2, OnlyM 105553116266688 x0 (setpointStep x0 x1 x2) := by
  intro x0 x1 x2
  unfold setpointStep
  lift_lets
  intro y0
  clear_value y0
  intro y1
  clear_value y1
  intro y2
  clear_value y2
  intro y3
  clear_value y3
  intro y4
  clear_value y4
  intro y5
  clear_value y5
  intro y6
  clear_value y6
  intro y7
  clear_value y7
  intro y8
  clear_value y8
  intro y9
  refine OnlyM.useHave (show OnlyM 105553116266688 x0 y9 from ?_) (fun hy9 => ?_)
  · unfold y9
    refine OnlyM.comp (setState_only _ _ _) (by rfl) ?_
    exact OnlyM.refl _ _
  clear_value y9
  intro y10
  clear_value y10
  intro y11
  clear_value y11
  intro y12
  clear_value y12
  intro y13
  clear_value y13
  intro y14
  clear_value y14
  intro y15
  clear_value y15
  intro y16
  clear_value y16
  intro y17
  clear_value y17
  intro y18
  refine OnlyM.useHave (show OnlyM 105553116266688 x0 y18 from ?_) (fun hy18 => ?_)
  · unfold y18
    refine OnlyM.comp (setState_only _ _ _) (by rfl) ?_
    exact OnlyM.refl _ _
  clear_value y18
  intro y19
  clear_value y19
  split
  · refine OnlyM.comp (setCe_only _ _ _) (by rfl) ?_
    exact OnlyM.refl _ _
  · refine OnlyM.comp (interpolateStep_only _ _ _) (by rfl) ?_
    exact OnlyM.refl _ _
  · refine OnlyM.comp (approachStep_only _ _ _) (by rfl) ?_
    exact OnlyM.refl _ _
  · refine OnlyM.comp (setState_only _ _ _) (by rfl) ?_
    exact OnlyM.refl _ _
  · split
    · refine OnlyM.comp (commandStep_only _ _ _ _ _) (by rfl) ?_
      exact OnlyM.refl _ _
    · refine OnlyM.comp (setCe_only _ _ _) (by rfl) ?_
      exact OnlyM.refl _ _
  · refine OnlyM.ite ?_ ?_
    · refine OnlyM.comp (stopDone_only _ _) (by rfl) ?_
      assumption
    · assumption
  · refine OnlyM.ite ?_ ?_
    · refine OnlyM.comp (setState_only _ _ _) (by rfl) ?_
      exact OnlyM.refl _ _
    · refine OnlyM.ite ?_ ?_
      · refine OnlyM.comp (setState_only _ _ _) (by rfl) ?_
        exact OnlyM.refl _ _
      · refine OnlyM.ite ?_ ?_
        · refine OnlyM.comp (setState_only _ _ _) (by rfl) ?_
          exact OnlyM.refl _ _
        · refine OnlyM.ite ?_ ?_
          · split
            · refine OnlyM.comp (startMove_only _ _ _) (by rfl) ?_
              refine OnlyM.comp (setCe_only _ _ _) (by rfl) ?_
              assumption
            · refine OnlyM.comp (setCe_only _ _ _) (by rfl) ?_
              assumption
          · assumption

theorem ss1Standstill_only : ∀ x0 x1, OnlyM 105553116266496 x0 (ss1Standstill x0 x1) := by
  intro x0 x1
  unfold ss1Standstill
  lift_lets
  intro y0
  clear_value y0
  intro y1
  clear_value y1
  intro y2
  clear_value y2
  intro y3
  refine OnlyM.useHave (show OnlyM 105553116266496 x0 y3 from ?_) (fun hy3 => ?_)
  · unfold y3
    refine OnlyM.comp (setCe_only _ _ _) (by rfl) ?_
    exact OnlyM.refl _ _
  clear_value y3
  refine OnlyM.ite ?_ ?_
  · refine OnlyM.ite ?_ ?_
    · refine OnlyM.comp (tripSto_only _ _ _) (by rfl) ?_
      assumption
    · assumption
  · exact OnlyM.refl _ _

theorem standTimes_only : ∀ x0 x1, OnlyM 70368744177664 x0 (standTimes x0 x1) := by
  intro x0 x1
  unfold standTimes
  lift_lets
  intro y0
  clear_value y0
  intro y1
  clear_value y1
  intro y2
  clear_value y2
  refine OnlyM.comp (setCe_only _ _ _) (by rfl) ?_
  exact OnlyM.refl _ _

theorem axisPass_only : ∀ x0 x1, OnlyM 387036695494848 x0 (axisPass x0 x1) := by
  intro x0 x1
  unfold axisPass
  lift_lets
  intro y0
  clear_value y0
  intro y1
  clear_value y1
  intro y2
  refine OnlyM.useHave (show OnlyM 387036695494848 x0 y2 from ?_) (fun hy2 => ?_)
  · unfold y2
    refine OnlyM.comp (actual_only _ _ _) (by rfl) ?_
    exact OnlyM.refl _ _
  clear_value y2
  intro y3
  refine OnlyM.useHave (show OnlyM 387036695494848 x0 y3 from ?_) (fun hy3 => ?_)
  · unfold y3
    refine OnlyM.comp (setpointStep_only _ _ _) (by rfl) ?_
    assumption
  clear_value y3
  intro y4
  clear_value y4
  intro y5
  refine OnlyM.useHave (show OnlyM 387036695494848 x0 y5 from ?_) (fun hy5 => ?_)
  · unfold y5
    refine OnlyM.ite ?_ ?_
    · refine OnlyM.comp (outerPass_only _ _ _) (by rfl) ?_
      refine OnlyM.comp (plausibility_only _ _ _) (by rfl) ?_
      assumption
    · assumption
  clear_value y5
  intro y6
  clear_value y6
  intro y7
  refine OnlyM.useHave (show OnlyM 387036695494848 x0 y7 from ?_) (fun hy7 => ?_)
  · unfold y7
    refine OnlyM.comp (setCe_only _ _ _) (by rfl) ?_
    assumption
  clear_value y7
  intro y8
  refine OnlyM.useHave (show OnlyM 387036695494848 x0 y8.1 from ?_) (fun hy8 => ?_)
  · unfold y8
    refine OnlyM.comp (currentPass_only _ _ _) (by rfl) ?_
    assumption
  clear_value y8
  intro y9
  refine OnlyM.useHave (show OnlyM 387036695494848 x0 y9 from ?_) (fun hy9 => ?_)
  · unfold y9
    refine OnlyM.comp (bump_only _ _ _ _) (by rfl) ?_
    assumption
  clear_value y9
  refine OnlyM.ite ?_ ?_
  · assumption
  · refine OnlyM.ite ?_ ?_
    · assumption
    · refine OnlyM.comp (ss1Standstill_only _ _) (by rfl) ?_
      refine OnlyM.comp (finiteCheck_only _ _ _) (by rfl) ?_
      refine OnlyM.comp (standTimes_only _ _) (by rfl) ?_
      assumption

theorem becomeChecked_only : ∀ x0 x1, OnlyM 4352381360012528 x0 (becomeChecked x0 x1) := by
  intro x0 x1
  unfold becomeChecked
  lift_lets
  intro y0
  clear_value y0
  intro y1
  refine OnlyM.useHave (show OnlyM 4352381360012528 x0 y1 from ?_) (fun hy1 => ?_)
  · unfold y1
    refine OnlyM.comp (setStg_only _ _ _) (by rfl) ?_
    exact OnlyM.refl _ _
  clear_value y1
  refine OnlyM.ite ?_ ?_
  · refine OnlyM.comp (armSet_only _ _ _ _) (by rfl) ?_
    assumption
  · refine OnlyM.comp (setAnswer_only _ _ _) (by rfl) ?_
    assumption

theorem beginRun_only : ∀ x0 x1, OnlyM 1408354148680896 x0 (beginRun x0 x1) := by
  intro x0 x1
  unfold beginRun
  lift_lets
  intro y0
  clear_value y0
  intro y1
  clear_value y1
  intro y2
  clear_value y2
  dsimp -proj only
  split
  · refine OnlyM.ite ?_ ?_
    · refine OnlyM.comp (noRun_only _ _ _ _) (by rfl) ?_
      refine OnlyM.comp (useFresh_only _ _ _) (by rfl) ?_
      refine OnlyM.comp (setGph_only _ _ _) (by rfl) ?_
      exact OnlyM.refl _ _
    · refine OnlyM.ite ?_ ?_
      · refine OnlyM.comp (noRun_only _ _ _ _) (by rfl) ?_
        refine OnlyM.comp (useFresh_only _ _ _) (by rfl) ?_
        refine OnlyM.comp (setGph_only _ _ _) (by rfl) ?_
        exact OnlyM.refl _ _
      · refine OnlyM.comp (setGph_only _ _ _) (by rfl) ?_
        refine OnlyM.comp (upd_runOrder _ _) (by rfl) ?_
        refine OnlyM.comp (useFresh_only _ _ _) (by rfl) ?_
        refine OnlyM.comp (setGph_only _ _ _) (by rfl) ?_
        exact OnlyM.refl _ _
  · exact OnlyM.refl _ _

theorem galEcc_only : ∀ x0 x1, OnlyM 2199023255744 x0 (galEcc x0 x1) := by
  intro x0 x1
  unfold galEcc
  refine OnlyM.comp (bump_only _ _ _ _) (by rfl) ?_
  refine OnlyM.comp (upd_gal _ _) (by rfl) ?_
  exact OnlyM.refl _ _

theorem cavernPoison_only : ∀ x0 x1 x2, OnlyM 2199023255744 x0 (cavernPoison x0 x1 x2) := by
  intro x0 x1 x2
  unfold cavernPoison
  lift_lets
  intro y0
  refine OnlyM.useHave (show OnlyM 2199023255744 x0 y0 from ?_) (fun hy0 => ?_)
  · unfold y0
    refine OnlyM.comp (galEcc_only _ _) (by rfl) ?_
    exact OnlyM.refl _ _
  clear_value y0
  intro y1
  clear_value y1
  intro y2
  refine OnlyM.useHave (show OnlyM 2199023255744 x0 y2 from ?_) (fun hy2 => ?_)
  · unfold y2
    refine OnlyM.comp (upd_gal _ _) (by rfl) ?_
    assumption
  clear_value y2
  refine OnlyM.foldl ?_ (fun _ _ _ => ?_)
  · assumption
  · lift_lets
    intro y3
    clear_value y3
    refine OnlyM.ite ?_ ?_
    · refine OnlyM.comp (setSlot_only _ _ _) (by rfl) ?_
      assumption
    · assumption

theorem kvLose_only : ∀ x0 x1, OnlyM 4398046511104 x0 (kvLose x0 x1) := by
  intro x0 x1
  unfold kvLose
  refine OnlyM.foldl ?_ (fun _ _ _ => ?_)
  · exact OnlyM.refl _ _
  · refine OnlyM.comp (setSeq_only _ _ _ _) (by rfl) ?_
    assumption

theorem kernelEcc_only : ∀ x0 x1 x2, OnlyM 2258396883452096 x0 (kernelEcc x0 x1 x2) := by
  intro x0 x1 x2
  unfold kernelEcc
  lift_lets
  intro y0
  refine OnlyM.useHave (show OnlyM 2258396883452096 x0 y0 from ?_) (fun hy0 => ?_)
  · unfold y0
    split
    · refine OnlyM.comp (galEcc_only _ _) (by rfl) ?_
      exact OnlyM.refl _ _
    · refine OnlyM.comp (galEcc_only _ _) (by rfl) ?_
      exact OnlyM.refl _ _
    · exact OnlyM.refl _ _
  clear_value y0
  intro y1
  refine OnlyM.useHave (show OnlyM 2258396883452096 x0 y1 from ?_) (fun hy1 => ?_)
  · unfold y1
    refine OnlyM.comp (drawn_only _) (by rfl) ?_
    refine OnlyM.comp (cavernPoison_only _ _ _) (by rfl) ?_
    assumption
  clear_value y1
  split
  · refine OnlyM.comp (galEcc_only _ _) (by rfl) ?_
    assumption
  · refine OnlyM.ite ?_ ?_
    · refine OnlyM.comp (kvLose_only _ _) (by rfl) ?_
      assumption
    · assumption
  · assumption

theorem kFault_only : ∀ x0 x1, OnlyM 0 x0.s (kFault x0 x1).s := by
  intro x0 x1
  exact OnlyM.refl _ _

theorem foreignAccess_only : ∀ x0 x1 x2, OnlyM 281474989293760 x0.s (foreignAccess x0 x1 x2).s := by
  intro x0 x1 x2
  exact (logHost_only x0.s _).mono (by rfl)

theorem noteStores_only : ∀ x0 x1 x2, OnlyM 0 x0.s (noteStores x0 x1 x2).s := by
  intro x0 x1 x2
  exact OnlyM.refl _ _

theorem cavStore_only : ∀ x0 x1 x2 x3, OnlyM 283674012549312 x0.s (cavStore x0 x1 x2 x3).s := by
  intro x0 x1 x2 x3
  unfold cavStore
  split
  · exact (foreignAccess_only _ _ _).mono (by rfl)
  · dsimp only
    split
    · exact (cavWrite_only x0.s _ _).mono (by rfl)
    · exact OnlyM.refl _ _

theorem jobLateFault_only : ∀ x0 x1 x2, OnlyM 2199023255552 x0 (jobLateFault x0 x1 x2) := by
  intro x0 x1 x2
  unfold jobLateFault
  split
  · refine OnlyM.ite ?_ ?_
    · refine OnlyM.comp (setJob_only _ _ _) (by rfl) ?_
      exact OnlyM.refl _ _
    · exact OnlyM.refl _ _
  · exact OnlyM.refl _ _

theorem dramStore_fold (m : Nat) (s : State) (x : KernelCtx) (w : Origin) (l : List (Nat × Nat × List Byte)) :
    ∀ r : KernelRun, OnlyM m s r.s → 283691192418496 &&& m = 283691192418496 → OnlyM m s (l.foldl (fun r e =>
      let p := postStore r.s w e.1 e.2.1 e.2.2
      { r with s := if p.2 then p.1 else jobLateFault p.1 x.queue x.job.seq }) r).s := by
  induction l with
  | nil => exact fun r h _ => h
  | cons e l ih =>
    intro r h hm
    refine ih _ ?_ hm
    have hp : OnlyM 283691192418496 r.s (postStore r.s w e.1 e.2.1 e.2.2).1 := (postStore_only _ _ _ _ _).mono (by rfl)
    have hj : OnlyM 283691192418496 r.s (jobLateFault (postStore r.s w e.1 e.2.1 e.2.2).1 x.queue x.job.seq) :=
      OnlyM.comp (jobLateFault_only _ _ _) (by rfl) hp
    show OnlyM m s (if _ then _ else _)
    exact OnlyM.ite (h.trans (hp.mono hm)) (h.trans (hj.mono hm))

theorem dramStore_only : ∀ x0 x1 x2 x3, OnlyM 283691192418496 x0.s (dramStore x0 x1 x2 x3).s := by
  intro x0 x1 x2 x3
  unfold dramStore
  dsimp only
  split
  · exact OnlyM.refl _ _
  · exact dramStore_fold 283691192418496 x0.s x1 _ _ _ (OnlyM.refl _ _) (by rfl)

theorem setPocket_only : ∀ x0 x1 x2 x3, OnlyM 2199023255552 x0 (setPocket x0 x1 x2 x3) := by
  intro x0 x1 x2 x3
  unfold setPocket
  refine OnlyM.comp (setCore_only _ _ _) (by rfl) ?_
  exact OnlyM.refl _ _

theorem opResult_only : ∀ x0 x1 x2, OnlyM 2199023255552 x0.s (opResult x0 x1 x2).s := by
  intro x0 x1 x2
  exact (setPocket_only x0.s _ _ _).mono (by rfl)

theorem cavLoad_only : ∀ x0 x1 x2 x3, OnlyM 285873035804864 x0.s (cavLoad x0 x1 x2 x3).1.s := by
  intro x0 x1 x2 x3
  unfold cavLoad
  split
  · exact (foreignAccess_only _ _ _).mono (by rfl)
  · dsimp only
    split
    · exact OnlyM.refl _ _
    · show OnlyM 285873035804864 x0.s (if _ then kvLose x0.s x1.queue else x0.s)
      exact OnlyM.ite ((kvLose_only _ _).mono (by rfl)) (OnlyM.refl _ _)

theorem dramLoad_only : ∀ x0 x1 x2 x3, OnlyM 281492169162944 x0.s (dramLoad x0 x1 x2 x3).1.s := by
  intro x0 x1 x2 x3
  unfold dramLoad
  split
  · exact OnlyM.refl _ _
  · dsimp only
    refine OnlyM.useHave (P := OnlyM 281492169162944 x0.s (countLine (engLoad x0.s (jobOrigin x1.queue x1.job) x2 x3).1 (jobOrigin x1.queue x1.job).tag (linesOf x2 x3).length)) ?_ (fun h => ?_)
    · exact OnlyM.comp (countLine_only _ _ _) (by rfl) ((engLoad_only _ _ _ _).mono (by rfl))
    · split
      · exact h
      · exact h

theorem streamLoad_only : ∀ x0 x1 x2 x3 x4, OnlyM 285890215674048 x0.s (streamLoad x0 x1 x2 x3 x4).1.s := by
  intro x0 x1 x2 x3 x4
  unfold streamLoad
  dsimp only
  split
  · exact (cavLoad_only _ _ _ _).mono (by rfl)
  · split
    · exact OnlyM.refl _ _
    · exact (dramLoad_only _ _ _ _).mono (by rfl)

theorem kernelOp_only : ∀ x0 x1 x2 x3, OnlyM 288089238929600 x2.s (kernelOp x0 x1 x2 x3).s := by
  intro x0 x1 x2 x3
  have put : ∀ e, OnlyM 288089238929600 x2.s (opResult x2 x0 e).s := fun e => (opResult_only x2 x0 e).mono (by rfl)
  have load : ∀ (src : Place) (a n : Nat), OnlyM 288089238929600 x2.s (streamLoad x2 x0 src a n).1.s := fun src a n => (streamLoad_only _ _ _ _ _).mono (by rfl)
  have loaded : ∀ (src : Place) (a n : Nat) (e : Tab Byte × Bool), OnlyM 288089238929600 x2.s (opResult (streamLoad x2 x0 src a n).1 x0 e).s :=
    fun src a n e => (load src a n).trans ((opResult_only _ _ _).mono (by rfl))
  cases x3 <;> try exact put _
  case load src step addr len =>
    show OnlyM 288089238929600 x2.s (KernelRun.s (match (streamLoad x2 x0 src (x0.j * step) len).2 with | some b => _ | none => _))
    split
    · exact loaded _ _ _ _
    · exact load _ _ _
  case loadNchw src dst =>
    unfold kernelOp
    dsimp only
    split
    · exact OnlyM.refl _ _
    · split
      · exact loaded _ _ _ _
      · exact load _ _ _
  case store addr len dst step =>
    unfold kernelOp
    dsimp only
    split
    · exact OnlyM.refl _ _
    · split
      · exact (cavStore_only _ _ _ _).mono (by rfl)
      · exact (dramStore_only _ _ _ _).mono (by rfl)
  case append a => exact OnlyM.refl _ _
  case attend a =>
    unfold kernelOp
    dsimp only
    split
    · exact OnlyM.comp (kvLose_only _ _) (by rfl) ((setPocket_only x2.s _ _ _).mono (by rfl))
    · exact (setPocket_only x2.s _ _ _).mono (by rfl)
  case result addr =>
    unfold kernelOp
    dsimp only
    split
    · exact OnlyM.refl _ _
    · exact OnlyM.refl _ _

theorem kernelOps_only : ∀ x0 x1 x2, OnlyM 288089238929600 x2.s (kernelOps x0 x1 x2).s := by
  intro x0 x1 x2
  unfold kernelOps
  split
  · exact OnlyM.refl _ _
  · induction x1.ops generalizing x2 with
    | nil => exact OnlyM.refl _ _
    | cons o l ih => exact ((kernelOp_only x0 x1.share x2 o).mono (by rfl)).trans (ih _)

theorem sendHalo_only : ∀ x0 x1 x2 x3, OnlyM 2199023255552 x3.s (sendHalo x0 x1 x2 x3).s := by
  intro x0 x1 x2 x3
  unfold sendHalo
  dsimp only
  split
  · exact OnlyM.refl _ _
  · exact (setPocket_only x3.s _ _ _).mono (by rfl)

theorem kernelSends_only : ∀ x0 x1 x2, OnlyM 2199023255552 x2.s (kernelSends x0 x1 x2).s := by
  intro x0 x1 x2
  have h : ∀ (l : List Tensor) (r : KernelRun), OnlyM 2199023255552 r.s (l.foldl (fun r t => sendHalo x0 t false (sendHalo x0 t true r)) r).s := by
    intro l
    induction l with
    | nil => exact fun r => OnlyM.refl _ _
    | cons t l ih => exact fun r => (((sendHalo_only x0 t true r).mono (by rfl)).trans ((sendHalo_only _ _ _ _).mono (by rfl))).trans (ih _)
  unfold kernelSends
  dsimp only
  split
  · exact h _ _
  · split
    · exact h _ _
    · exact (h x1.sends x2).trans ((setPocket_only _ _ _ _).mono (by rfl))

theorem multicastLoads_only : ∀ x0 x1 x2, OnlyM 288089238929600 x0.s (multicastLoads x0 x1 x2).s := by
  intro x0 x1 x2
  unfold multicastLoads
  induction x2 generalizing x0 with
  | nil => exact OnlyM.refl _ _
  | cons e l ih =>
    rw [List.foldl_cons]
    refine OnlyM.trans ?_ (ih _)
    dsimp only
    split
    · exact (streamLoad_only _ _ _ _ _).mono (by rfl)
    · refine OnlyM.trans (t := (streamLoad x0 x1 e.1 0 e.2.2).1.s) ((streamLoad_only _ _ _ _ _).mono (by rfl)) ?_
      refine OnlyM.foldl (OnlyM.refl _ _) (fun u i hu => ?_)
      exact OnlyM.comp (setPocket_only _ _ _ _) (by rfl) hu

theorem runKernel_only : ∀ x0 x1 x2, OnlyM 288089238929600 x2.s (runKernel x0 x1 x2).s := by
  intro x0 x1 x2
  unfold runKernel
  dsimp only
  refine OnlyM.trans ?_ ((kernelSends_only _ _ _).mono (by rfl))
  refine OnlyM.trans ?_ ((kernelOps_only _ _ _).mono (by rfl))
  split
  · exact (multicastLoads_only _ _ _).mono (by rfl)
  · exact OnlyM.refl _ _

theorem spendTime_only : ∀ x0 x1 x2, OnlyM 283674012549312 x0 (spendTime x0 x1 x2) := by
  intro x0 x1 x2
  unfold spendTime
  lift_lets
  intro y0
  clear_value y0
  intro y1
  refine OnlyM.useHave (show OnlyM 283674012549312 x0 y1 from ?_) (fun hy1 => ?_)
  · unfold y1
    refine OnlyM.comp (upd_gal _ _) (by rfl) ?_
    exact OnlyM.refl _ _
  clear_value y1
  intro y2
  clear_value y2
  intro y3
  refine OnlyM.useHave (show OnlyM 283674012549312 x0 y3 from ?_) (fun hy3 => ?_)
  · unfold y3
    refine OnlyM.comp (bump_only _ _ _ _) (by rfl) ?_
    refine OnlyM.comp (upd_gal _ _) (by rfl) ?_
    assumption
  clear_value y3
  intro y4
  refine OnlyM.useHave (show OnlyM 283674012549312 x0 y4 from ?_) (fun hy4 => ?_)
  · unfold y4
    refine OnlyM.comp (upd_gal _ _) (by rfl) ?_
    exact OnlyM.refl _ _
  clear_value y4
  intro y5
  clear_value y5
  refine OnlyM.ite ?_ ?_
  · refine OnlyM.ite ?_ ?_
    · refine OnlyM.comp (logHost_only _ _) (by rfl) ?_
      assumption
    · assumption
  · refine OnlyM.ite ?_ ?_
    · refine OnlyM.ite ?_ ?_
      · refine OnlyM.comp (bump_only _ _ _ _) (by rfl) ?_
        refine OnlyM.comp (upd_gal _ _) (by rfl) ?_
        assumption
      · assumption
    · refine OnlyM.comp (upd_gal _ _) (by rfl) ?_
      exact OnlyM.refl _ _

theorem boundary_only : ∀ x0 x1 x2 x3 x4, OnlyM 2539889052614848 x0 (boundary x0 x1 x2 x3 x4) := by
  intro x0 x1 x2 x3 x4
  unfold boundary
  split
  · exact OnlyM.refl _ _
  · dsimp only
    split
    · split
      · exact OnlyM.refl _ _
      · refine OnlyM.comp (afterKernel_only _ _ _ _ _ _ _ _ _) (by rfl) ?_
        have hk : ∀ (x : KernelCtx) (k : Kernel) (r : KernelRun), OnlyM 2539889052614848 x0 r.s → OnlyM 2539889052614848 x0 (runKernel x k r).s :=
          fun x k r h => h.trans ((runKernel_only x k r).mono (by rfl))
        have hs : ∀ (p u q : Nat) (i : KernelEnd), OnlyM 2539889052614848 x0 (kernelEcc (spendTime x0 p u) q i) :=
          fun p u q i => OnlyM.comp (kernelEcc_only _ _ _) (by rfl) ((spendTime_only _ _ _).mono (by rfl))
        refine OnlyM.ite ?_ ?_
        · exact OnlyM.comp (setCore_only _ _ _) (by rfl) (hk _ _ _ (hs _ _ _ _))
        · exact hk _ _ _ (hs _ _ _ _)
    · exact OnlyM.refl _ _

theorem cancelHead_only : ∀ x0 x1, OnlyM 288226677884096 x0 (cancelHead x0 x1) := by
  intro x0 x1
  unfold cancelHead
  split
  · refine OnlyM.ite ?_ ?_
    · refine OnlyM.comp (completeJob_only _ _ _ _) (by rfl) ?_
      exact OnlyM.refl _ _
    · exact OnlyM.refl _ _
  · exact OnlyM.refl _ _

theorem candidate_only : ∀ x0 x1, OnlyM 192 x0 (candidate x0 x1) := by
  intro x0 x1
  unfold candidate
  refine OnlyM.foldl ?_ (fun _ _ _ => ?_)
  · exact OnlyM.refl _ _
  · refine OnlyM.comp (putObj_only _ _ _ _) (by rfl) ?_
    assumption

theorem ceOne_only : ∀ x0, OnlyM 281492169162944 x0 (ceOne x0) := by
  intro x0
  unfold ceOne
  lift_lets
  intro y0
  clear_value y0
  intro y1
  refine OnlyM.useHave (show OnlyM 281492169162944 x0 y1 from ?_) (fun hy1 => ?_)
  · unfold y1
    refine OnlyM.comp (upd_mem _ _) (by rfl) ?_
    exact OnlyM.refl _ _
  refine OnlyM.ite ?_ ?_
  · refine OnlyM.comp (logHost_only _ _) (by rfl) ?_
    assumption
  · assumption

theorem checkSet_only : ∀ x0 x1, OnlyM 4352381360012528 x0 (checkSet x0 x1) := by
  intro x0 x1
  unfold checkSet
  split
  · refine OnlyM.comp (failSet_only _ _ _ _ _) (by rfl) ?_
    exact OnlyM.refl _ _
  · refine OnlyM.ite ?_ ?_
    · refine OnlyM.comp (stageAsk_only _ _ _) (by rfl) ?_
      exact OnlyM.refl _ _
    · refine OnlyM.comp (becomeChecked_only _ _) (by rfl) ?_
      exact OnlyM.refl _ _

theorem clearLatchesOf_only : ∀ x0 x1, OnlyM 35184372088832 x0 (clearLatchesOf x0 x1) := by
  intro x0 x1
  unfold clearLatchesOf
  lift_lets
  intro y0
  clear_value y0
  intro y1
  clear_value y1
  refine OnlyM.ite ?_ ?_
  · refine OnlyM.comp (setAx_only _ _ _) (by rfl) ?_
    exact OnlyM.refl _ _
  · refine OnlyM.comp (driveTrip_only _ _) (by rfl) ?_
    refine OnlyM.comp (setAx_only _ _ _) (by rfl) ?_
    exact OnlyM.refl _ _

theorem clearMoved_only : ∀ x0 x1, OnlyM 2199023255552 x1 (clearMoved x0 x1) := by
  intro x0 x1
  unfold clearMoved
  lift_lets
  intro y0
  clear_value y0
  intro y1
  clear_value y1
  refine OnlyM.comp (upd_gal _ _) (by rfl) ?_
  exact OnlyM.refl _ _

theorem d2hRecord_only : ∀ x0 x1, OnlyM 1407392076006592 x0 (d2hRecord x0 x1) := by
  intro x0 x1
  unfold d2hRecord
  refine OnlyM.comp (d2hEvent_only _ _) (by rfl) ?_
  exact OnlyM.refl _ _

theorem clockNoticeHost_only : ∀ x0 x1, OnlyM 1407392076006592 x0 (clockNoticeHost x0 x1) := by
  intro x0 x1
  unfold clockNoticeHost
  lift_lets
  intro y0
  clear_value y0
  refine OnlyM.comp (d2hRecord_only _ _) (by rfl) ?_
  refine OnlyM.comp (ropeSend_only _ _ _) (by rfl) ?_
  exact OnlyM.refl _ _

theorem commandStart_only : ∀ x0 x1 x2, OnlyM 70368744177856 x0 (commandStart x0 x1 x2) := by
  intro x0 x1 x2
  unfold commandStart
  lift_lets
  intro y0
  clear_value y0
  intro y1
  clear_value y1
  intro y2
  clear_value y2
  intro y3
  clear_value y3
  intro y4
  intro y5
  clear_value y5
  intro y6
  clear_value y6
  intro y7
  refine OnlyM.useHave (show OnlyM 70368744177856 x0 y7 from ?_) (fun hy7 => ?_)
  · unfold y7
    refine OnlyM.comp (setCe_only _ _ _) (by rfl) ?_
    exact OnlyM.refl _ _
  clear_value y7
  refine OnlyM.ite ?_ ?_
  · refine OnlyM.comp (commandDone_only _ _ _) (by rfl) ?_
    assumption
  · assumption

theorem compIrq_only : ∀ x0 x1, OnlyM 1125917086712832 x0 (compIrq x0 x1) := by
  intro x0 x1
  unfold compIrq
  lift_lets
  intro y0
  refine OnlyM.useHave (show OnlyM 1125917086712832 x0 y0 from ?_) (fun hy0 => ?_)
  · unfold y0
    refine OnlyM.comp (setReg_only _ _ _) (by rfl) ?_
    exact OnlyM.refl _ _
  clear_value y0
  refine OnlyM.ite ?_ ?_
  · refine OnlyM.comp (hostIrq_only _ _) (by rfl) ?_
    assumption
  · assumption

theorem comparatorTrip_only : ∀ x0 x1 x2, OnlyM 105561706201280 x0 (comparatorTrip x0 x1 x2) := by
  intro x0 x1 x2
  unfold comparatorTrip
  lift_lets
  intro y0
  clear_value y0
  intro y1
  clear_value y1
  intro y2
  refine OnlyM.useHave (show OnlyM 105561706201280 x0 y2 from ?_) (fun hy2 => ?_)
  · unfold y2
    refine OnlyM.comp (bump_only _ _ _ _) (by rfl) ?_
    refine OnlyM.comp (setAx_only _ _ _) (by rfl) ?_
    exact OnlyM.refl _ _
  clear_value y2
  intro y3
  refine OnlyM.useHave (show OnlyM 105561706201280 x0 y3 from ?_) (fun hy3 => ?_)
  · unfold y3
    refine OnlyM.comp (driveTrip_only _ _) (by rfl) ?_
    assumption
  clear_value y3
  intro y4
  clear_value y4
  intro y5
  refine OnlyM.useHave (show OnlyM 105561706201280 x0 y5 from ?_) (fun hy5 => ?_)
  · unfold y5
    refine OnlyM.ite ?_ ?_
    · refine OnlyM.comp (setCe_only _ _ _) (by rfl) ?_
      refine OnlyM.comp (axisClear_only _ _) (by rfl) ?_
      assumption
    · assumption
  clear_value y5
  refine OnlyM.comp (emcy_only _ _ _ _) (by rfl) ?_
  assumption

end Sys2Proof.Laws
end

