-- ==== Sys2Proof/Laws/FramesC.lean ====
section
/-! SUPPORT. What each shared operation and each meaning can change, part 3: one frame per definition, each from the
frames of what it calls. -/

namespace Sys2Proof.Laws

open Machine

theorem hostRelease_only : ∀ x0 x1, OnlyM 562949953421314 x0 (hostRelease x0 x1) := by
  intro x0 x1
  unfold hostRelease
  refine OnlyM.comp (upd_hboot_pwr _ _ _) (by rfl) ?_
  exact OnlyM.refl _ _

theorem wakeUp_only : ∀ x0 x1, OnlyM 562949953421506 x0 (wakeUp x0 x1) := by
  intro x0 x1
  unfold wakeUp
  lift_lets
  intro y0
  refine OnlyM.useHave (show OnlyM 562949953421506 x0 y0 from ?_) (fun hy0 => ?_)
  · unfold y0
    refine OnlyM.comp (putN_only _ _ _ _) (by rfl) ?_
    exact OnlyM.refl _ _
  clear_value y0
  intro y1
  clear_value y1
  refine OnlyM.comp (hostRelease_only _ _) (by rfl) ?_
  refine OnlyM.comp (upd_pwr _ _) (by rfl) ?_
  assumption

theorem wakeSource_only : ∀ x0 x1, OnlyM 562949953421506 x0 (wakeSource x0 x1) := by
  intro x0 x1
  unfold wakeSource
  lift_lets
  intro y0
  clear_value y0
  intro y1
  clear_value y1
  refine OnlyM.ite ?_ ?_
  · exact OnlyM.refl _ _
  · refine OnlyM.ite ?_ ?_
    · refine OnlyM.comp (wakeUp_only _ _) (by rfl) ?_
      exact OnlyM.refl _ _
    · refine OnlyM.ite ?_ ?_
      · refine OnlyM.comp (upd_pwr _ _) (by rfl) ?_
        exact OnlyM.refl _ _
      · refine OnlyM.ite ?_ ?_
        · refine OnlyM.comp (putN_only _ _ _ _) (by rfl) ?_
          refine OnlyM.comp (upd_pwr _ _) (by rfl) ?_
          exact OnlyM.refl _ _
        · exact OnlyM.refl _ _

theorem connFault_only : ∀ x0 x1, OnlyM 3105020849422530 x0 (connFault x0 x1) := by
  intro x0 x1
  unfold connFault
  lift_lets
  intro y0
  refine OnlyM.useHave (show OnlyM 3105020849422530 x0 y0 from ?_) (fun hy0 => ?_)
  · unfold y0
    refine OnlyM.comp (drawn_only _) (by rfl) ?_
    refine OnlyM.comp (logHost_only _ _) (by rfl) ?_
    exact OnlyM.refl _ _
  clear_value y0
  intro y1
  clear_value y1
  intro y2
  refine OnlyM.useHave (show OnlyM 3105020849422530 x0 y2 from ?_) (fun hy2 => ?_)
  · unfold y2
    refine OnlyM.comp (bump_only _ _ _ _) (by rfl) ?_
    refine OnlyM.comp (upd_lan _ _) (by rfl) ?_
    assumption
  clear_value y2
  intro y3
  clear_value y3
  refine OnlyM.ite ?_ ?_
  · refine OnlyM.comp (wakeSource_only _ _) (by rfl) ?_
    refine OnlyM.comp (upd_lan _ _) (by rfl) ?_
    assumption
  · assumption

theorem coreFaults_only : ∀ x0 x1, OnlyM 17179869184 x0 (coreFaults x0 x1) := by
  intro x0 x1
  unfold coreFaults
  refine OnlyM.comp (upd_mem _ _) (by rfl) ?_
  exact OnlyM.refl _ _

theorem coreOk_only : ∀ x0, OnlyM 17179869184 x0 (coreOk x0) := by
  intro x0
  unfold coreOk
  refine OnlyM.comp (upd_mem _ _) (by rfl) ?_
  exact OnlyM.refl _ _

theorem coreRead_only : ∀ x0 x1, OnlyM 17179869184 x0 (coreRead x0 x1) := by
  intro x0 x1
  unfold coreRead
  lift_lets
  intro y0
  refine OnlyM.useHave (show OnlyM 17179869184 x0 y0 from ?_) (fun hy0 => ?_)
  · unfold y0
    refine OnlyM.comp (coreOk_only _) (by rfl) ?_
    exact OnlyM.refl _ _
  clear_value y0
  intro y1
  clear_value y1
  refine OnlyM.comp (upd_mem _ _) (by rfl) ?_
  assumption

theorem crossSets_only : ∀ x0 x1 x2 x3 x4 x5, OnlyM 1073741824 x0 (crossSets x0 x1 x2 x3 x4 x5) := by
  intro x0 x1 x2 x3 x4 x5
  unfold crossSets
  refine OnlyM.comp (upd_sets _ _) (by rfl) ?_
  exact OnlyM.refl _ _

theorem moveCompare_only : ∀ x0 x1 x2 x3 x4 x5 x6, OnlyM 1520024374287600 x0 (moveCompare x0 x1 x2 x3 x4 x5 x6) := by
  intro x0 x1 x2 x3 x4 x5 x6
  unfold moveCompare
  refine OnlyM.foldl ?_ (fun _ _ _ => ?_)
  · refine OnlyM.comp (crossSets_only _ _ _ _ _ _) (by rfl) ?_
    exact OnlyM.refl _ _
  · lift_lets
    intro y0
    clear_value y0
    intro y1
    intro y2
    clear_value y2
    refine OnlyM.ite ?_ ?_
    · refine OnlyM.ite ?_ ?_
      · refine OnlyM.comp (notePassed_only _ _ _ _) (by rfl) ?_
        assumption
      · refine OnlyM.comp (fire_only _ _ _ _ _) (by rfl) ?_
        assumption
    · assumption

theorem pulseCntEnds_only : ∀ x0 x1 x2 x3, OnlyM 48 x0 (pulseCntEnds x0 x1 x2 x3) := by
  intro x0 x1 x2 x3
  unfold pulseCntEnds
  refine OnlyM.foldl ?_ (fun _ _ _ => ?_)
  · exact OnlyM.refl _ _
  · split
    · assumption
    · lift_lets
      intro y0
      clear_value y0
      intro y1
      clear_value y1
      refine OnlyM.ite ?_ ?_
      · refine OnlyM.comp (pulseEnd_only _ _) (by rfl) ?_
        assumption
      · assumption

theorem moveOne_only : ∀ x0 x1 x2, OnlyM 1520024374287600 x0 (moveOne x0 x1 x2) := by
  intro x0 x1 x2
  unfold moveOne
  lift_lets
  intro y0
  clear_value y0
  intro y1
  clear_value y1
  intro y2
  clear_value y2
  intro y3
  refine OnlyM.useHave (show OnlyM 1520024374287600 x0 y3 from ?_) (fun hy3 => ?_)
  · unfold y3
    refine OnlyM.comp (upd_pos _ _) (by rfl) ?_
    exact OnlyM.refl _ _
  clear_value y3
  intro y4
  clear_value y4
  intro y5
  refine OnlyM.useHave (show OnlyM 1520024374287600 x0 y5 from ?_) (fun hy5 => ?_)
  · unfold y5
    refine OnlyM.ite ?_ ?_
    · refine OnlyM.comp (upd_pos _ _) (by rfl) ?_
      assumption
    · assumption
  clear_value y5
  intro y6
  refine OnlyM.useHave (show OnlyM 1520024374287600 x0 y6 from ?_) (fun hy6 => ?_)
  · unfold y6
    refine OnlyM.comp (moveCompare_only _ _ _ _ _ _ _) (by rfl) ?_
    assumption
  clear_value y6
  refine OnlyM.comp (pulseCntEnds_only _ _ _ _) (by rfl) ?_
  assumption

theorem predictorEdge_only : ∀ x0 x1, OnlyM 2251799813687296 x0 (predictorEdge x0 x1) := by
  intro x0 x1
  unfold predictorEdge
  lift_lets
  intro y0
  clear_value y0
  intro y1
  clear_value y1
  intro y2
  clear_value y2
  intro y3
  clear_value y3
  intro y4
  refine OnlyM.useHave (show OnlyM 2251799813687296 x0 y4 from ?_) (fun hy4 => ?_)
  · unfold y4
    refine OnlyM.comp (upd_pos _ _) (by rfl) ?_
    exact OnlyM.refl _ _
  clear_value y4
  intro y5
  clear_value y5
  intro y6
  clear_value y6
  intro y7
  clear_value y7
  intro y8
  clear_value y8
  intro y9
  clear_value y9
  intro y10
  clear_value y10
  intro y11
  clear_value y11
  intro y12
  clear_value y12
  intro y13
  clear_value y13
  refine OnlyM.ite ?_ ?_
  · assumption
  · refine OnlyM.ite ?_ ?_
    · refine OnlyM.ite ?_ ?_
      · refine OnlyM.comp (upd_pos _ _) (by rfl) ?_
        assumption
      · refine OnlyM.comp (drawn_only _) (by rfl) ?_
        refine OnlyM.comp (upd_pos _ _) (by rfl) ?_
        assumption
    · refine OnlyM.ite ?_ ?_
      · refine OnlyM.comp (upd_pos _ _) (by rfl) ?_
        assumption
      · refine OnlyM.comp (drawn_only _) (by rfl) ?_
        refine OnlyM.comp (upd_pos _ _) (by rfl) ?_
        assumption

theorem countEdge_only : ∀ x0 x1, OnlyM 3771824187972848 x0 (countEdge x0 x1) := by
  intro x0 x1
  unfold countEdge
  lift_lets
  intro y0
  clear_value y0
  intro y1
  refine OnlyM.useHave (show OnlyM 3771824187972848 x0 y1 from ?_) (fun hy1 => ?_)
  · unfold y1
    refine OnlyM.comp (moveOne_only _ _ _) (by rfl) ?_
    refine OnlyM.comp (predictorEdge_only _ _) (by rfl) ?_
    exact OnlyM.refl _ _
  clear_value y1
  intro y2
  clear_value y2
  refine OnlyM.ite ?_ ?_
  · refine OnlyM.comp (upd_saf _ _) (by rfl) ?_
    assumption
  · exact OnlyM.refl _ _

theorem countHint_only : ∀ x0 x1 x2, OnlyM 8796093022208 x0 (countHint x0 x1 x2) := by
  intro x0 x1 x2
  unfold countHint
  refine OnlyM.foldl ?_ (fun _ _ _ => ?_)
  · exact OnlyM.refl _ _
  · refine OnlyM.comp (upd_lan _ _) (by rfl) ?_
    assumption

theorem lanWake_only : ∀ x0, OnlyM 571746046443714 x0 (lanWake x0) := by
  intro x0
  unfold lanWake
  lift_lets
  intro y0
  clear_value y0
  intro y1
  refine OnlyM.useHave (show OnlyM 571746046443714 x0 y1 from ?_) (fun hy1 => ?_)
  · unfold y1
    refine OnlyM.comp (bump_only _ _ _ _) (by rfl) ?_
    refine OnlyM.comp (upd_lan _ _) (by rfl) ?_
    exact OnlyM.refl _ _
  clear_value y1
  refine OnlyM.comp (wakeSource_only _ _) (by rfl) ?_
  assumption

theorem countWake_only : ∀ x0 x1, OnlyM 571746046443714 x0 (countWake x0 x1) := by
  intro x0 x1
  unfold countWake
  refine OnlyM.ite ?_ ?_
  · exact OnlyM.refl _ _
  · lift_lets
    intro y0
    clear_value y0
    intro y1
    clear_value y1
    intro y2
    refine OnlyM.useHave (show OnlyM 571746046443714 x0 y2 from ?_) (fun hy2 => ?_)
    · unfold y2
      refine OnlyM.comp (upd_lan _ _) (by rfl) ?_
      exact OnlyM.refl _ _
    clear_value y2
    refine OnlyM.ite ?_ ?_
    · refine OnlyM.comp (lanWake_only _) (by rfl) ?_
      assumption
    · assumption

theorem cycleEnd_only : ∀ x0, OnlyM 140737488355520 x0 (cycleEnd x0) := by
  intro x0
  unfold cycleEnd
  lift_lets
  intro y0
  clear_value y0
  intro y1
  clear_value y1
  intro y2
  refine OnlyM.useHave (show OnlyM 140737488355520 x0 y2 from ?_) (fun hy2 => ?_)
  · unfold y2
    refine OnlyM.comp (upd_eng _ _) (by rfl) ?_
    exact OnlyM.refl _ _
  clear_value y2
  refine OnlyM.comp (putN_only _ _ _ _) (by rfl) ?_
  refine OnlyM.comp (putN_only _ _ _ _) (by rfl) ?_
  assumption

theorem cycleStarts_only : ∀ x0, OnlyM 2097344 x0 (cycleStarts x0).1 := by
  intro x0
  unfold cycleStarts
  lift_lets
  intro y0
  clear_value y0
  intro y1
  clear_value y1
  intro y2
  clear_value y2
  intro y3
  clear_value y3
  intro y4
  clear_value y4
  intro y5
  refine OnlyM.useHave (show OnlyM 2097344 x0 y5 from ?_) (fun hy5 => ?_)
  · unfold y5
    refine OnlyM.comp (upd_sync _ _) (by rfl) ?_
    exact OnlyM.refl _ _
  clear_value y5
  intro y6
  clear_value y6
  intro y7
  refine OnlyM.useHave (show OnlyM 2097344 x0 y7 from ?_) (fun hy7 => ?_)
  · unfold y7
    refine OnlyM.comp (upd_sync _ _) (by rfl) ?_
    assumption
  clear_value y7
  split
  · refine OnlyM.ite1 ?_ ?_
    · refine OnlyM.ite1 ?_ ?_
      · refine OnlyM.pair ?_
        assumption
      · refine OnlyM.pair ?_
        exact OnlyM.refl _ _
    · refine OnlyM.ite1 ?_ ?_
      · refine OnlyM.ite1 ?_ ?_
        · refine OnlyM.pair ?_
          assumption
        · refine OnlyM.pair ?_
          refine OnlyM.comp (upd_sync _ _) (by rfl) ?_
          exact OnlyM.refl _ _
      · refine OnlyM.ite1 ?_ ?_
        · refine OnlyM.pair ?_
          refine OnlyM.ite ?_ ?_
          · refine OnlyM.comp (bump_only _ _ _ _) (by rfl) ?_
            assumption
          · assumption
        · refine OnlyM.ite1 ?_ ?_
          · refine OnlyM.pair ?_
            assumption
          · refine OnlyM.pair ?_
            exact OnlyM.refl _ _
  · refine OnlyM.ite1 ?_ ?_
    · refine OnlyM.pair ?_
      assumption
    · refine OnlyM.pair ?_
      exact OnlyM.refl _ _

theorem regionUpdate_only : ∀ x0 x1, OnlyM 70368744177856 x0 (regionUpdate x0 x1) := by
  intro x0 x1
  unfold regionUpdate
  lift_lets
  intro y0
  clear_value y0
  intro y1
  clear_value y1
  intro y2
  clear_value y2
  intro y3
  clear_value y3
  intro y4
  clear_value y4
  refine OnlyM.ite ?_ ?_
  · refine OnlyM.comp (setCe_only _ _ _) (by rfl) ?_
    exact OnlyM.refl _ _
  · refine OnlyM.comp (bump_only _ _ _ _) (by rfl) ?_
    refine OnlyM.comp (setCe_only _ _ _) (by rfl) ?_
    exact OnlyM.refl _ _

theorem releaseCommand_only : ∀ x0 x1, OnlyM 70368744177856 x0 (releaseCommand x0 x1) := by
  intro x0 x1
  unfold releaseCommand
  lift_lets
  intro y0
  clear_value y0
  dsimp -proj only
  split
  · exact OnlyM.refl _ _
  · refine OnlyM.ite ?_ ?_
    · refine OnlyM.comp (commandStart_only _ _ _) (by rfl) ?_
      refine OnlyM.comp (setCe_only _ _ _) (by rfl) ?_
      exact OnlyM.refl _ _
    · refine OnlyM.comp (setCe_only _ _ _) (by rfl) ?_
      exact OnlyM.refl _ _

theorem takeTarget_only : ∀ x0 x1, OnlyM 70368744177664 x0 (takeTarget x0 x1) := by
  intro x0 x1
  unfold takeTarget
  lift_lets
  intro y0
  clear_value y0
  intro y1
  clear_value y1
  intro y2
  clear_value y2
  intro y3
  clear_value y3
  intro y4
  clear_value y4
  intro y5
  clear_value y5
  refine OnlyM.ite ?_ ?_
  · exact OnlyM.refl _ _
  · refine OnlyM.ite ?_ ?_
    · split
      · refine OnlyM.comp (setCe_only _ _ _) (by rfl) ?_
        exact OnlyM.refl _ _
      · refine OnlyM.comp (setCe_only _ _ _) (by rfl) ?_
        exact OnlyM.refl _ _
      · refine OnlyM.comp (setCe_only _ _ _) (by rfl) ?_
        exact OnlyM.refl _ _
      · refine OnlyM.comp (setCe_only _ _ _) (by rfl) ?_
        exact OnlyM.refl _ _
      · exact OnlyM.refl _ _
    · refine OnlyM.ite ?_ ?_
      · split
        · refine OnlyM.comp (setCe_only _ _ _) (by rfl) ?_
          exact OnlyM.refl _ _
        · refine OnlyM.comp (setCe_only _ _ _) (by rfl) ?_
          exact OnlyM.refl _ _
        · refine OnlyM.comp (setCe_only _ _ _) (by rfl) ?_
          exact OnlyM.refl _ _
        · refine OnlyM.comp (setCe_only _ _ _) (by rfl) ?_
          exact OnlyM.refl _ _
        · exact OnlyM.refl _ _
      · exact OnlyM.refl _ _

theorem engineCycle_only : ∀ x0, OnlyM 70368744177856 x0 (engineCycle x0) := by
  intro x0
  unfold engineCycle
  refine OnlyM.foldl ?_ (fun _ _ _ => ?_)
  · exact OnlyM.refl _ _
  · lift_lets
    intro y0
    refine OnlyM.useHave (show OnlyM 70368744177856 x0 y0 from ?_) (fun hy0 => ?_)
    · unfold y0
      refine OnlyM.ite ?_ ?_
      · refine OnlyM.comp (takeTarget_only _ _) (by rfl) ?_
        assumption
      · assumption
    clear_value y0
    intro y1
    refine OnlyM.useHave (show OnlyM 70368744177856 x0 y1 from ?_) (fun hy1 => ?_)
    · unfold y1
      refine OnlyM.ite ?_ ?_
      · refine OnlyM.comp (regionUpdate_only _ _) (by rfl) ?_
        assumption
      · assumption
    clear_value y1
    refine OnlyM.comp (releaseCommand_only _ _) (by rfl) ?_
    assumption

theorem outputsTaken_only : ∀ x0, OnlyM 387036682911936 x0 (outputsTaken x0) := by
  intro x0
  unfold outputsTaken
  refine OnlyM.foldl ?_ (fun _ _ _ => ?_)
  · exact OnlyM.refl _ _
  · refine OnlyM.ite ?_ ?_
    · lift_lets
      intro y0
      clear_value y0
      refine OnlyM.ite ?_ ?_
      · refine OnlyM.comp (controlword_only _ _ _) (by rfl) ?_
        assumption
      · refine OnlyM.ite ?_ ?_
        · refine OnlyM.comp (modeSelect_only _ _) (by rfl) ?_
          assumption
        · assumption
    · assumption

theorem goodCapture_only : ∀ x0 x1 x2, OnlyM 35184372089024 x0 (goodCapture x0 x1 x2) := by
  intro x0 x1 x2
  unfold goodCapture
  lift_lets
  intro y0
  clear_value y0
  intro y1
  refine OnlyM.useHave (show OnlyM 35184372089024 x0 y1 from ?_) (fun hy1 => ?_)
  · unfold y1
    refine OnlyM.comp (putI_only _ _ _ _) (by rfl) ?_
    refine OnlyM.comp (setAx_only _ _ _) (by rfl) ?_
    exact OnlyM.refl _ _
  clear_value y1
  refine OnlyM.comp (encPublish_only _ _) (by rfl) ?_
  assumption

theorem encCapture_only : ∀ x0 x1, OnlyM 387036695494848 x0 (encCapture x0 x1) := by
  intro x0 x1
  unfold encCapture
  lift_lets
  intro y0
  clear_value y0
  intro y1
  clear_value y1
  intro y2
  clear_value y2
  intro y3
  refine OnlyM.useHave (show OnlyM 387036695494848 x0 y3 from ?_) (fun hy3 => ?_)
  · unfold y3
    refine OnlyM.comp (setAx_only _ _ _) (by rfl) ?_
    exact OnlyM.refl _ _
  clear_value y3
  intro y4
  clear_value y4
  refine OnlyM.ite ?_ ?_
  · refine OnlyM.ite ?_ ?_
    · refine OnlyM.comp (badCapture_only _ _) (by rfl) ?_
      assumption
    · refine OnlyM.ite ?_ ?_
      · refine OnlyM.comp (goodCapture_only _ _ _) (by rfl) ?_
        assumption
      · refine OnlyM.comp (setAx_only _ _ _) (by rfl) ?_
        assumption
  · refine OnlyM.ite ?_ ?_
    · refine OnlyM.ite ?_ ?_
      · refine OnlyM.comp (setAx_only _ _ _) (by rfl) ?_
        exact OnlyM.refl _ _
      · refine OnlyM.comp (setAx_only _ _ _) (by rfl) ?_
        exact OnlyM.refl _ _
    · refine OnlyM.comp (setAx_only _ _ _) (by rfl) ?_
      exact OnlyM.refl _ _

theorem samplePoint_only : ∀ x0 x1, OnlyM 527774183850176 x0 (samplePoint x0 x1) := by
  intro x0 x1
  unfold samplePoint
  lift_lets
  intro y0
  clear_value y0
  intro y1
  refine OnlyM.useHave (show OnlyM 527774183850176 x0 y1 from ?_) (fun hy1 => ?_)
  · unfold y1
    refine OnlyM.ite ?_ ?_
    · exact OnlyM.refl _ _
    · refine OnlyM.comp (upd_eng _ _) (by rfl) ?_
      exact OnlyM.refl _ _
  clear_value y1
  intro y2
  clear_value y2
  refine OnlyM.comp (encCapture_only _ _) (by rfl) ?_
  refine OnlyM.comp (setAx_only _ _ _) (by rfl) ?_
  assumption

theorem sampleAt_only : ∀ x0 x1 x2, OnlyM 527774183850176 x0 (sampleAt x0 x1 x2) := by
  intro x0 x1 x2
  unfold sampleAt
  refine OnlyM.ite ?_ ?_
  · refine OnlyM.comp (samplePoint_only _ _) (by rfl) ?_
    exact OnlyM.refl _ _
  · exact OnlyM.refl _ _

theorem sm3Refresh_only : ∀ x0, OnlyM 8589934592 x0 (sm3Refresh x0) := by
  intro x0
  unfold sm3Refresh
  refine OnlyM.ite ?_ ?_
  · exact OnlyM.refl _ _
  · lift_lets
    intro y0
    clear_value y0
    intro y1
    clear_value y1
    intro y2
    clear_value y2
    refine OnlyM.comp (upd_bus _ _) (by rfl) ?_
    exact OnlyM.refl _ _

theorem cycleWork_only : ∀ x0, OnlyM 527774185947328 x0 (cycleWork x0) := by
  intro x0
  unfold cycleWork
  lift_lets
  intro y0
  refine OnlyM.useHave (show OnlyM 527774185947328 x0 y0 from ?_) (fun hy0 => ?_)
  · unfold y0
    refine OnlyM.ite ?_ ?_
    · refine OnlyM.comp (outputsTaken_only _) (by rfl) ?_
      exact OnlyM.refl _ _
    · exact OnlyM.refl _ _
  clear_value y0
  intro y1
  refine OnlyM.useHave (show OnlyM 527774185947328 x0 y1 from ?_) (fun hy1 => ?_)
  · unfold y1
    refine OnlyM.comp (engineCycle_only _) (by rfl) ?_
    assumption
  clear_value y1
  intro y2
  clear_value y2
  intro y3
  clear_value y3
  intro y4
  clear_value y4
  intro y5
  clear_value y5
  intro y6
  refine OnlyM.useHave (show OnlyM 527774185947328 x0 y6 from ?_) (fun hy6 => ?_)
  · unfold y6
    refine OnlyM.comp (upd_sync_bus_eng_saf _ _ _ _ _) (by rfl) ?_
    assumption
  clear_value y6
  intro y7
  refine OnlyM.useHave (show OnlyM 527774185947328 x0 y7 from ?_) (fun hy7 => ?_)
  · unfold y7
    refine OnlyM.foldl ?_ (fun _ _ _ => ?_)
    · assumption
    · refine OnlyM.comp (sampleAt_only _ _ _) (by rfl) ?_
      refine OnlyM.comp (adcTrigger_only _ _ _) (by rfl) ?_
      assumption
  clear_value y7
  refine OnlyM.comp (sm3Refresh_only _) (by rfl) ?_
  assumption

theorem requestPreemption_only : ∀ x0 x1, OnlyM 2199023255552 x0 (requestPreemption x0 x1) := by
  intro x0 x1
  unfold requestPreemption
  split
  · exact OnlyM.refl _ _
  · lift_lets
    intro y0
    clear_value y0
    intro y1
    refine OnlyM.useHave (show OnlyM 2199023255552 x0 y1 from ?_) (fun hy1 => ?_)
    · unfold y1
      refine OnlyM.comp (setJob_only _ _ _) (by rfl) ?_
      exact OnlyM.refl _ _
    clear_value y1
    refine OnlyM.ite ?_ ?_
    · exact OnlyM.refl _ _
    · refine OnlyM.foldl ?_ (fun _ _ _ => ?_)
      · assumption
      · lift_lets
        intro y2
        clear_value y2
        refine OnlyM.ite ?_ ?_
        · refine OnlyM.comp (setCore_only _ _ _) (by rfl) ?_
          assumption
        · assumption

theorem preemptFor_only : ∀ x0 x1 x2 x3 x4, OnlyM 2199023255552 x0 (preemptFor x0 x1 x2 x3 x4) := by
  intro x0 x1 x2 x3 x4
  unfold preemptFor
  refine OnlyM.ite ?_ ?_
  · exact OnlyM.refl _ _
  · lift_lets
    intro y0
    clear_value y0
    split
    · exact OnlyM.refl _ _
    · lift_lets
      intro y1
      clear_value y1
      intro y2
      clear_value y2
      refine OnlyM.foldl ?_ (fun _ _ _ => ?_)
      · refine OnlyM.comp (setJob_only _ _ _) (by rfl) ?_
        exact OnlyM.refl _ _
      · refine OnlyM.foldl ?_ (fun _ _ _ => ?_)
        · assumption
        · refine OnlyM.comp (requestPreemption_only _ _) (by rfl) ?_
          assumption

theorem startCores_only : ∀ x0 x1 x2 x3 x4 x5 x6 x7, OnlyM 2199023255552 x0 (startCores x0 x1 x2 x3 x4 x5 x6 x7) := by
  intro x0 x1 x2 x3 x4 x5 x6 x7
  unfold startCores
  refine OnlyM.foldl ?_ (fun _ _ _ => ?_)
  · exact OnlyM.refl _ _
  · lift_lets
    intro y0
    clear_value y0
    intro y1
    clear_value y1
    intro y2
    clear_value y2
    refine OnlyM.comp (setCore_only _ _ _) (by rfl) ?_
    assumption

theorem startCopy_only : ∀ x0 x1 x2 x3 x4, OnlyM 2199023255552 x0 (startCopy x0 x1 x2 x3 x4) := by
  intro x0 x1 x2 x3 x4
  unfold startCopy
  split
  · exact OnlyM.refl _ _
  · lift_lets
    intro y0
    clear_value y0
    intro y1
    clear_value y1
    intro y2
    refine OnlyM.useHave (show OnlyM 2199023255552 x0 y2 from ?_) (fun hy2 => ?_)
    · unfold y2
      refine OnlyM.comp (startCores_only _ _ _ _ _ _ _ _) (by rfl) ?_
      exact OnlyM.refl _ _
    clear_value y2
    intro y3
    clear_value y3
    intro y4
    clear_value y4
    refine OnlyM.comp (setJob_only _ _ _) (by rfl) ?_
    assumption

theorem startJob_only : ∀ x0 x1 x2 x3 x4, OnlyM 2199023255552 x0 (startJob x0 x1 x2 x3 x4) := by
  intro x0 x1 x2 x3 x4
  unfold startJob
  lift_lets
  intro y0
  clear_value y0
  intro y1
  refine OnlyM.useHave (show OnlyM 2199023255552 x0 y1 from ?_) (fun hy1 => ?_)
  · unfold y1
    refine OnlyM.ite ?_ ?_
    · refine OnlyM.comp (upd_gal _ _) (by rfl) ?_
      exact OnlyM.refl _ _
    · exact OnlyM.refl _ _
  clear_value y1
  intro y2
  refine OnlyM.useHave (show OnlyM 2199023255552 x0 y2 from ?_) (fun hy2 => ?_)
  · unfold y2
    refine OnlyM.ite ?_ ?_
    · refine OnlyM.comp (setJob_only _ _ _) (by rfl) ?_
      assumption
    · assumption
  clear_value y2
  refine OnlyM.foldl ?_ (fun _ _ _ => ?_)
  · assumption
  · refine OnlyM.comp (startCopy_only _ _ _ _ _) (by rfl) ?_
    assumption

theorem dispatchJob_only : ∀ x0 x1, OnlyM 288226677884096 x0 (dispatchJob x0 x1) := by
  intro x0 x1
  unfold dispatchJob
  split
  · exact OnlyM.refl _ _
  · refine OnlyM.ite ?_ ?_
    · refine OnlyM.comp (completeJob_only _ _ _ _) (by rfl) ?_
      exact OnlyM.refl _ _
    · refine OnlyM.ite ?_ ?_
      · exact OnlyM.refl _ _
      · refine OnlyM.ite ?_ ?_
        · refine OnlyM.comp (completeJob_only _ _ _ _) (by rfl) ?_
          exact OnlyM.refl _ _
        · refine OnlyM.ite ?_ ?_
          · refine OnlyM.comp (completeJob_only _ _ _ _) (by rfl) ?_
            exact OnlyM.refl _ _
          · lift_lets
            intro y0
            clear_value y0
            intro y1
            clear_value y1
            split
            · refine OnlyM.comp (preemptFor_only _ _ _ _ _) (by rfl) ?_
              exact OnlyM.refl _ _
            · refine OnlyM.ite ?_ ?_
              · refine OnlyM.ite ?_ ?_
                · exact OnlyM.refl _ _
                · refine OnlyM.comp (startJob_only _ _ _ _ _) (by rfl) ?_
                  exact OnlyM.refl _ _
              · split
                · refine OnlyM.ite ?_ ?_
                  · exact OnlyM.refl _ _
                  · refine OnlyM.comp (startJob_only _ _ _ _ _) (by rfl) ?_
                    exact OnlyM.refl _ _
                · refine OnlyM.comp (preemptFor_only _ _ _ _ _) (by rfl) ?_
                  exact OnlyM.refl _ _

theorem writePlanes_only : ∀ m x0 x1 x2 x3, (∀ s p r b, OnlyM m s (x3 s p r b)) → OnlyM m x0 (writePlanes x0 x1 x2 x3) := by
  intro m x0 x1 x2 x3 h
  unfold writePlanes
  refine OnlyM.foldl (OnlyM.refl _ _) (fun _ _ hu => ?_)
  refine OnlyM.foldl hu (fun _ _ hv => ?_)
  exact hv.trans (h _ _ _ _)

theorem dramImage_only : ∀ x0 x1 x2, OnlyM 281492169162944 x0 (dramImage x0 x1 x2) := by
  intro x0 x1 x2
  unfold dramImage
  split
  · exact OnlyM.refl _ _
  · exact writePlanes_only _ _ _ _ _ (fun s p r b => (engStore_only _ _ _ _).mono (by rfl))

theorem dramLose_only : ∀ x0 x1, OnlyM 17179869184 x0 (dramLose x0 x1) := by
  intro x0 x1
  unfold dramLose
  refine OnlyM.comp (upd_mem _ _) (by rfl) ?_
  exact OnlyM.refl _ _

theorem driftInPlace_only : ∀ x0 x1 x2, OnlyM 2251799813816320 x0 (driftInPlace x0 x1 x2) := by
  intro x0 x1 x2
  unfold driftInPlace
  lift_lets
  intro y0
  clear_value y0
  refine OnlyM.ite ?_ ?_
  · refine OnlyM.comp (upd_fclk _ _) (by rfl) ?_
    exact OnlyM.refl _ _
  · refine OnlyM.comp (drawn_only _) (by rfl) ?_
    refine OnlyM.comp (upd_fclk _ _) (by rfl) ?_
    exact OnlyM.refl _ _

theorem driftRho_only : ∀ x0 x1 x2, OnlyM 2251799813816320 x0 (driftRho x0 x1 x2) := by
  intro x0 x1 x2
  unfold driftRho
  lift_lets
  intro y0
  clear_value y0
  intro y1
  clear_value y1
  intro y2
  clear_value y2
  refine OnlyM.ite ?_ ?_
  · refine OnlyM.comp (upd_fclk _ _) (by rfl) ?_
    exact OnlyM.refl _ _
  · refine OnlyM.comp (drawn_only _) (by rfl) ?_
    refine OnlyM.comp (upd_fclk _ _) (by rfl) ?_
    exact OnlyM.refl _ _

theorem driftFrame_only : ∀ x0 x1, OnlyM 2638836509311168 x0 (driftFrame x0 x1) := by
  intro x0 x1
  unfold driftFrame
  refine OnlyM.ite ?_ ?_
  · exact OnlyM.refl _ _
  · lift_lets
    intro y0
    clear_value y0
    intro y1
    clear_value y1
    intro y2
    clear_value y2
    intro y3
    refine OnlyM.useHave (show OnlyM 2638836509311168 x0 y3 from ?_) (fun hy3 => ?_)
    · unfold y3
      refine OnlyM.comp (putI_only _ _ _ _) (by rfl) ?_
      exact OnlyM.refl _ _
    clear_value y3
    intro y4
    clear_value y4
    intro y5
    refine OnlyM.useHave (show OnlyM 2638836509311168 x0 y5 from ?_) (fun hy5 => ?_)
    · unfold y5
      refine OnlyM.ite ?_ ?_
      · refine OnlyM.comp (upd_fclk _ _) (by rfl) ?_
        assumption
      · assumption
    clear_value y5
    intro y6
    clear_value y6
    intro y7
    clear_value y7
    intro y8
    refine OnlyM.useHave (show OnlyM 2638836509311168 x0 y8 from ?_) (fun hy8 => ?_)
    · unfold y8
      refine OnlyM.ite ?_ ?_
      · refine OnlyM.comp (driftInPlace_only _ _ _) (by rfl) ?_
        assumption
      · refine OnlyM.ite ?_ ?_
        · refine OnlyM.comp (upd_fclk _ _) (by rfl) ?_
          assumption
        · refine OnlyM.comp (driftRho_only _ _ _) (by rfl) ?_
          assumption
    clear_value y8
    intro y9
    clear_value y9
    intro y10
    clear_value y10
    refine OnlyM.ite ?_ ?_
    · refine OnlyM.comp (setFclk_only _ _) (by rfl) ?_
      assumption
    · refine OnlyM.ite ?_ ?_
      · refine OnlyM.comp (setFclk_only _ _) (by rfl) ?_
        assumption
      · refine OnlyM.comp (upd_fclk _ _) (by rfl) ?_
        assumption

theorem dropPins_only : ∀ x0 x1, OnlyM 48 x0 (dropPins x0 x1) := by
  intro x0 x1
  unfold dropPins
  refine OnlyM.comp (upd_pins_pulses _ _ _) (by rfl) ?_
  exact OnlyM.refl _ _

theorem dropSpilled_only : ∀ x0, OnlyM 4398046511104 x0 (dropSpilled x0) := by
  intro x0
  unfold dropSpilled
  lift_lets
  intro y0
  intro y1
  clear_value y1
  refine OnlyM.comp (upd_kv _ _) (by rfl) ?_
  exact OnlyM.refl _ _

theorem poisonLine_only : ∀ x0 x1, OnlyM 17179869184 x0 (poisonLine x0 x1) := by
  intro x0 x1
  unfold poisonLine
  refine OnlyM.comp (upd_mem _ _) (by rfl) ?_
  exact OnlyM.refl _ _

theorem eccRead_only : ∀ x0 x1 x2, OnlyM 281492169162944 x0 (eccRead x0 x1 x2) := by
  intro x0 x1 x2
  unfold eccRead
  refine OnlyM.ite ?_ ?_
  · exact OnlyM.refl _ _
  · split
    · exact OnlyM.refl _ _
    · refine OnlyM.comp (ceOne_only _) (by rfl) ?_
      exact OnlyM.refl _ _
    · refine OnlyM.comp (poisonLine_only _ _) (by rfl) ?_
      exact OnlyM.refl _ _

theorem embLines_only : ∀ x0 x1 x2, OnlyM 281492169162944 x0 (embLines x0 x1 x2) := by
  intro x0 x1 x2
  unfold embLines
  split
  · exact OnlyM.refl _ _
  · lift_lets
    intro y0
    clear_value y0
    intro y1
    clear_value y1
    intro y2
    clear_value y2
    refine OnlyM.foldl ?_ (fun _ _ _ => ?_)
    · exact OnlyM.refl _ _
    · refine OnlyM.comp (engStore_only _ _ _ _) (by rfl) ?_
      assumption

theorem holdAll_only : ∀ x0 x1, OnlyM 69632 x0 (holdAll x0 x1) := by
  intro x0 x1
  unfold holdAll
  refine OnlyM.foldl ?_ (fun _ _ _ => ?_)
  · exact OnlyM.refl _ _
  · lift_lets
    intro y0
    clear_value y0
    refine OnlyM.ite ?_ ?_
    · refine OnlyM.comp (setEntry_only _ _ _ _) (by rfl) ?_
      assumption
    · assumption

theorem positionNotice_only : ∀ x0 x1, OnlyM 12583104 x0 (positionNotice x0 x1) := by
  intro x0 x1
  unfold positionNotice
  refine OnlyM.comp (class2_only _ _) (by rfl) ?_
  exact OnlyM.refl _ _

theorem setPosMode_only : ∀ x0 x1, OnlyM 387036695566528 x0 (setPosMode x0 x1) := by
  intro x0 x1
  unfold setPosMode
  lift_lets
  intro y0
  clear_value y0
  intro y1
  clear_value y1
  intro y2
  refine OnlyM.useHave (show OnlyM 387036695566528 x0 y2 from ?_) (fun hy2 => ?_)
  · unfold y2
    refine OnlyM.comp (holdAll_only _ _) (by rfl) ?_
    refine OnlyM.comp (upd_pos _ _) (by rfl) ?_
    exact OnlyM.refl _ _
  clear_value y2
  intro y3
  refine OnlyM.useHave (show OnlyM 387036695566528 x0 y3 from ?_) (fun hy3 => ?_)
  · unfold y3
    refine OnlyM.ite ?_ ?_
    · assumption
    · refine OnlyM.comp (positionNotice_only _ _) (by rfl) ?_
      assumption
  clear_value y3
  refine OnlyM.ite ?_ ?_
  · refine OnlyM.comp (startReaction_only _ _ _ _ _ _ _ _ _) (by rfl) ?_
    refine OnlyM.comp (emcy_only _ _ _ _) (by rfl) ?_
    assumption
  · refine OnlyM.ite ?_ ?_
    · refine OnlyM.comp (startReaction_only _ _ _ _ _ _ _ _ _) (by rfl) ?_
      refine OnlyM.comp (emcy_only _ _ _ _) (by rfl) ?_
      assumption
    · assumption

theorem estimateEdge_only : ∀ x0, OnlyM 1520032964222192 x0 (estimateEdge x0) := by
  intro x0
  unfold estimateEdge
  lift_lets
  intro y0
  refine OnlyM.useHave (show OnlyM 1520032964222192 x0 y0 from ?_) (fun hy0 => ?_)
  · unfold y0
    refine OnlyM.comp (moveOne_only _ _ _) (by rfl) ?_
    exact OnlyM.refl _ _
  clear_value y0
  intro y1
  clear_value y1
  intro y2
  refine OnlyM.useHave (show OnlyM 1520032964222192 x0 y2 from ?_) (fun hy2 => ?_)
  · unfold y2
    refine OnlyM.comp (bump_only _ _ _ _) (by rfl) ?_
    refine OnlyM.comp (upd_pos _ _) (by rfl) ?_
    assumption
  clear_value y2
  intro y3
  clear_value y3
  refine OnlyM.ite ?_ ?_
  · refine OnlyM.comp (setPosMode_only _ _) (by rfl) ?_
    refine OnlyM.comp (upd_pos _ _) (by rfl) ?_
    assumption
  · assumption

theorem estimateEdges_only : ∀ x0 x1, OnlyM 1520032964222192 x1 (estimateEdges x0 x1) := by
  intro x0
  induction x0 with
  | zero => exact fun x1 => OnlyM.refl _ _
  | succ n ih => exact fun x1 => OnlyM.comp (ih _) rfl ((estimateEdge_only _).mono rfl)

theorem encoderLoss_only : ∀ x0, OnlyM 1520032964222192 x0 (encoderLoss x0) := by
  intro x0
  unfold encoderLoss
  lift_lets
  intro y0
  intro y1
  refine OnlyM.useHave (show OnlyM 1520032964222192 x0 y1 from ?_) (fun hy1 => ?_)
  · unfold y1
    refine OnlyM.comp (upd_pos _ _) (by rfl) ?_
    exact OnlyM.refl _ _
  intro y2
  clear_value y2
  intro y3
  refine OnlyM.useHave (show OnlyM 1520032964222192 x0 y3 from ?_) (fun hy3 => ?_)
  · unfold y3
    refine OnlyM.comp (putN_only _ _ _ _) (by rfl) ?_
    refine OnlyM.comp (upd_pos _ _) (by rfl) ?_
    assumption
  clear_value y3
  intro y4
  clear_value y4
  intro y5
  refine OnlyM.useHave (show OnlyM 1520032964222192 x0 y5 from ?_) (fun hy5 => ?_)
  · unfold y5
    refine OnlyM.ite ?_ ?_
    · refine OnlyM.comp (setPosMode_only _ _) (by rfl) ?_
      refine OnlyM.comp (upd_pos _ _) (by rfl) ?_
      assumption
    · refine OnlyM.comp (setPosMode_only _ _) (by rfl) ?_
      assumption
  clear_value y5
  refine OnlyM.ite ?_ ?_
  · refine OnlyM.comp (estimateEdges_only _ _) (by rfl) ?_
    assumption
  · assumption

theorem releasePassed_only : ∀ x0 x1 x2 x3 x4, OnlyM 1520023300545776 x0 (releasePassed x0 x1 x2 x3 x4) := by
  intro x0 x1 x2 x3 x4
  unfold releasePassed
  split
  · refine OnlyM.comp (lateOrMiss_only _ _ _ _) (by rfl) ?_
    exact OnlyM.refl _ _
  · refine OnlyM.comp (miss_only _ _ _ _) (by rfl) ?_
    exact OnlyM.refl _ _
  · exact OnlyM.refl _ _

theorem releaseHeld_only : ∀ x0 x1 x2, OnlyM 1520023300545776 x0 (releaseHeld x0 x1 x2) := by
  intro x0 x1 x2
  unfold releaseHeld
  refine OnlyM.foldl ?_ (fun _ _ _ => ?_)
  · exact OnlyM.refl _ _
  · lift_lets
    intro y0
    clear_value y0
    intro y1
    clear_value y1
    intro y2
    refine OnlyM.useHave (show OnlyM 1520023300545776 x0 y2 from ?_) (fun hy2 => ?_)
    · unfold y2
      refine OnlyM.comp (forgetPassed_only _ _ _) (by rfl) ?_
      refine OnlyM.comp (setEntry_only _ _ _ _) (by rfl) ?_
      assumption
    clear_value y2
    refine OnlyM.ite ?_ ?_
    · split
      · refine OnlyM.comp (releasePassed_only _ _ _ _ _) (by rfl) ?_
        assumption
      · assumption
    · assumption

theorem encoderReturn_only : ∀ x0, OnlyM 1520031890480368 x0 (encoderReturn x0) := by
  intro x0
  unfold encoderReturn
  lift_lets
  intro y0
  clear_value y0
  intro y1
  refine OnlyM.useHave (show OnlyM 1520031890480368 x0 y1 from ?_) (fun hy1 => ?_)
  · unfold y1
    refine OnlyM.comp (upd_pos _ _) (by rfl) ?_
    exact OnlyM.refl _ _
  clear_value y1
  intro y2
  clear_value y2
  intro y3
  refine OnlyM.useHave (show OnlyM 1520031890480368 x0 y3 from ?_) (fun hy3 => ?_)
  · unfold y3
    refine OnlyM.comp (setPosMode_only _ _) (by rfl) ?_
    refine OnlyM.comp (upd_pos _ _) (by rfl) ?_
    assumption
  clear_value y3
  intro y4
  clear_value y4
  intro y5
  refine OnlyM.useHave (show OnlyM 1520031890480368 x0 y5 from ?_) (fun hy5 => ?_)
  · unfold y5
    refine OnlyM.comp (setPosMode_only _ _) (by rfl) ?_
    refine OnlyM.comp (upd_pos _ _) (by rfl) ?_
    assumption
  clear_value y5
  split
  · refine OnlyM.comp (releaseHeld_only _ _ _) (by rfl) ?_
    assumption
  · refine OnlyM.comp (releaseHeld_only _ _ _) (by rfl) ?_
    assumption
  · assumption

theorem endCopies_only : ∀ x0 x1 x2, OnlyM 412316860416 x0 (endCopies x0 x1 x2) := by
  intro x0 x1 x2
  unfold endCopies
  lift_lets
  intro y0
  intro y1
  refine OnlyM.useHave (show OnlyM 412316860416 x0 y1 from ?_) (fun hy1 => ?_)
  · unfold y1
    refine OnlyM.foldl ?_ (fun _ _ _ => ?_)
    · exact OnlyM.refl _ _
    · lift_lets
      intro y2
      clear_value y2
      intro y3
      refine OnlyM.useHave (show OnlyM 412316860416 x0 y3 from ?_) (fun hy3 => ?_)
      · unfold y3
        refine OnlyM.ite ?_ ?_
        · unfold y0
          lift_lets
          intro y4
          clear_value y4
          intro y5
          clear_value y5
          refine OnlyM.comp (setFlag_only _ _ _) (by rfl) ?_
          assumption
        · assumption
      clear_value y3
      intro y6
      clear_value y6
      refine OnlyM.ite ?_ ?_
      · assumption
      · refine OnlyM.ite ?_ ?_
        · refine OnlyM.ite ?_ ?_
          · unfold y0
            lift_lets
            intro y7
            clear_value y7
            intro y8
            clear_value y8
            refine OnlyM.comp (setFlag_only _ _ _) (by rfl) ?_
            assumption
          · assumption
        · refine OnlyM.ite ?_ ?_
          · unfold y0
            lift_lets
            intro y9
            clear_value y9
            intro y10
            clear_value y10
            refine OnlyM.comp (setFlag_only _ _ _) (by rfl) ?_
            assumption
          · assumption
  clear_value y1
  refine OnlyM.foldl ?_ (fun _ _ _ => ?_)
  · assumption
  · refine OnlyM.ite ?_ ?_
    · assumption
    · refine OnlyM.comp (setGph_only _ _ _) (by rfl) ?_
      assumption

theorem setStm_only : ∀ x0 x1 x2, OnlyM 34359738368 x0 (setStm x0 x1 x2) := by
  intro x0 x1 x2
  unfold setStm
  refine OnlyM.comp (upd_streams _ _) (by rfl) ?_
  exact OnlyM.refl _ _

theorem frameRecord_only : ∀ x0 x1 x2, OnlyM 1407426435744960 x0 (frameRecord x0 x1 x2) := by
  intro x0 x1 x2
  unfold frameRecord
  lift_lets
  intro y0
  clear_value y0
  intro y1
  refine OnlyM.useHave (show OnlyM 1407426435744960 x0 y1 from ?_) (fun hy1 => ?_)
  · unfold y1
    refine OnlyM.comp (putObj_only _ _ _ _) (by rfl) ?_
    exact OnlyM.refl _ _
  clear_value y1
  intro y2
  clear_value y2
  intro y3
  clear_value y3
  intro y4
  clear_value y4
  intro y5
  intro y6
  refine OnlyM.useHave (show OnlyM 1407426435744960 x0 y6.1 from ?_) (fun hy6 => ?_)
  · unfold y6
    refine OnlyM.comp (engStore_only _ _ _ _) (by rfl) ?_
    assumption
  clear_value y6
  intro y7
  refine OnlyM.useHave (show OnlyM 1407426435744960 x0 y7 from ?_) (fun hy7 => ?_)
  · unfold y7
    unfold y5
    dsimp -proj only
    split
    · refine OnlyM.comp (setStm_only _ _ _) (by rfl) ?_
      refine OnlyM.comp (setReg_only _ _ _) (by rfl) ?_
      assumption
    · refine OnlyM.comp (setReg_only _ _ _) (by rfl) ?_
      assumption
  clear_value y7
  refine OnlyM.ite ?_ ?_
  · refine OnlyM.ite ?_ ?_
    · refine OnlyM.comp (hostIrq_only _ _) (by rfl) ?_
      assumption
    · assumption
  · unfold y5
    dsimp -proj only
    split
    · refine OnlyM.comp (setStm_only _ _ _) (by rfl) ?_
      refine OnlyM.comp (bump_only _ _ _ _) (by rfl) ?_
      assumption
    · refine OnlyM.comp (bump_only _ _ _ _) (by rfl) ?_
      assumption

theorem grottoWrite_only : ∀ x0 x1 x2, OnlyM 17179869184 x0 (grottoWrite x0 x1 x2) := by
  intro x0 x1 x2
  unfold grottoWrite
  refine OnlyM.comp (upd_mem _ _) (by rfl) ?_
  exact OnlyM.refl _ _

theorem grottoImage_only : ∀ x0 x1, OnlyM 17179869184 x0 (grottoImage x0 x1) := by
  intro x0 x1
  unfold grottoImage
  split
  · exact OnlyM.refl _ _
  · exact writePlanes_only _ _ _ _ _ (fun s p r b => (grottoWrite_only _ _ _).mono (by rfl))

theorem streamStart_only : ∀ x0 x1, OnlyM 1407804392867008 x0 (streamStart x0 x1) := by
  intro x0 x1
  unfold streamStart
  refine OnlyM.ite ?_ ?_
  · exact OnlyM.refl _ _
  · split
    · split
      · refine OnlyM.comp (graphRequest_only _ _ _) (by rfl) ?_
        refine OnlyM.comp (useFresh_only _ _ _) (by rfl) ?_
        exact OnlyM.refl _ _
      · exact OnlyM.refl _ _
    · split
      · lift_lets
        intro y0
        clear_value y0
        intro y1
        clear_value y1
        intro y2
        clear_value y2
        intro y3
        clear_value y3
        refine OnlyM.ite ?_ ?_
        · refine OnlyM.comp (noRun_only _ _ _ _) (by rfl) ?_
          refine OnlyM.comp (useFresh_only _ _ _) (by rfl) ?_
          exact OnlyM.refl _ _
        · refine OnlyM.comp (graphRequest_only _ _ _) (by rfl) ?_
          refine OnlyM.comp (useFresh_only _ _ _) (by rfl) ?_
          exact OnlyM.refl _ _
      · exact OnlyM.refl _ _
    · exact OnlyM.refl _ _

theorem offerBuffer_only : ∀ x0 x1 x2 x3, OnlyM 1407804392867008 x0 (offerBuffer x0 x1 x2 x3) := by
  intro x0 x1 x2 x3
  unfold offerBuffer
  refine OnlyM.ite ?_ ?_
  · exact OnlyM.refl _ _
  · refine OnlyM.comp (streamStart_only _ _) (by rfl) ?_
    refine OnlyM.comp (setGph_only _ _ _) (by rfl) ?_
    exact OnlyM.refl _ _

theorem wakeQueue_only : ∀ x0 x1 x2 x3, OnlyM 288226677884096 x0 (wakeQueue x0 x1 x2 x3) := by
  intro x0 x1 x2 x3
  unfold wakeQueue
  split
  · exact OnlyM.refl _ _
  · refine OnlyM.ite ?_ ?_
    · exact OnlyM.refl _ _
    · lift_lets
      intro y0
      clear_value y0
      intro y1
      clear_value y1
      split
      · refine OnlyM.comp (jobAdvance_only _ _) (by rfl) ?_
        refine OnlyM.comp (setJob_only _ _ _) (by rfl) ?_
        exact OnlyM.refl _ _
      · refine OnlyM.comp (completeJob_only _ _ _ _) (by rfl) ?_
        exact OnlyM.refl _ _

theorem publish_only : ∀ x0 x1 x2 x3 x4 x5 x6, OnlyM 288226677884096 x0 (publish x0 x1 x2 x3 x4 x5 x6) := by
  intro x0 x1 x2 x3 x4 x5 x6
  unfold publish
  lift_lets
  intro y0
  clear_value y0
  intro y1
  refine OnlyM.useHave (show OnlyM 288226677884096 x0 y1 from ?_) (fun hy1 => ?_)
  · unfold y1
    refine OnlyM.comp (setFlag_only _ _ _) (by rfl) ?_
    exact OnlyM.refl _ _
  clear_value y1
  refine OnlyM.foldl ?_ (fun _ _ _ => ?_)
  · assumption
  · refine OnlyM.comp (wakeQueue_only _ _ _ _) (by rfl) ?_
    assumption

theorem finishFrame_only : ∀ x0 x1 x2, OnlyM 1414435822372032 x0 (finishFrame x0 x1 x2) := by
  intro x0 x1 x2
  unfold finishFrame
  lift_lets
  intro y0
  clear_value y0
  intro y1
  clear_value y1
  intro y2
  refine OnlyM.useHave (show OnlyM 1414435822372032 x0 y2 from ?_) (fun hy2 => ?_)
  · unfold y2
    refine OnlyM.comp (embLines_only _ _ _) (by rfl) ?_
    refine OnlyM.comp (dramImage_only _ _ _) (by rfl) ?_
    refine OnlyM.comp (grottoImage_only _ _) (by rfl) ?_
    exact OnlyM.refl _ _
  clear_value y2
  intro y3
  refine OnlyM.useHave (show OnlyM 1414435822372032 x0 y3 from ?_) (fun hy3 => ?_)
  · unfold y3
    refine OnlyM.ite ?_ ?_
    · refine OnlyM.comp (bump_only _ _ _ _) (by rfl) ?_
      assumption
    · refine OnlyM.ite ?_ ?_
      · refine OnlyM.comp (bump_only _ _ _ _) (by rfl) ?_
        assumption
      · assumption
  clear_value y3
  intro y4
  refine OnlyM.useHave (show OnlyM 1414435822372032 x0 y4 from ?_) (fun hy4 => ?_)
  · unfold y4
    refine OnlyM.ite ?_ ?_
    · refine OnlyM.comp (bump_only _ _ _ _) (by rfl) ?_
      assumption
    · assumption
  clear_value y4
  intro y5
  refine OnlyM.useHave (show OnlyM 1414435822372032 x0 y5 from ?_) (fun hy5 => ?_)
  · unfold y5
    refine OnlyM.comp (frameRecord_only _ _ _) (by rfl) ?_
    assumption
  clear_value y5
  split
  · assumption
  · lift_lets
    intro y6
    clear_value y6
    intro y7
    clear_value y7
    refine OnlyM.ite ?_ ?_
    · refine OnlyM.comp (offerBuffer_only _ _ _ _) (by rfl) ?_
      refine OnlyM.comp (publish_only _ _ _ _ _ _ _) (by rfl) ?_
      assumption
    · refine OnlyM.comp (setFlag_only _ _ _) (by rfl) ?_
      assumption

theorem endFrame_only : ∀ x0 x1 x2, OnlyM 1414435822372032 x0 (endFrame x0 x1 x2) := by
  intro x0 x1 x2
  unfold endFrame
  lift_lets
  intro y0
  clear_value y0
  split
  · exact OnlyM.refl _ _
  · lift_lets
    intro y1
    clear_value y1
    refine OnlyM.ite ?_ ?_
    · refine OnlyM.comp (finishFrame_only _ _ _) (by rfl) ?_
      refine OnlyM.comp (setStm_only _ _ _) (by rfl) ?_
      exact OnlyM.refl _ _
    · refine OnlyM.comp (setStm_only _ _ _) (by rfl) ?_
      exact OnlyM.refl _ _

theorem endRun_only : ∀ x0 x1 x2, OnlyM 1407804392867008 x0 (endRun x0 x1 x2) := by
  intro x0 x1 x2
  unfold endRun
  lift_lets
  intro y0
  refine OnlyM.useHave (show OnlyM 1407804392867008 x0 y0 from ?_) (fun hy0 => ?_)
  · unfold y0
    refine OnlyM.comp (endCopies_only _ _ _) (by rfl) ?_
    exact OnlyM.refl _ _
  clear_value y0
  intro y1
  refine OnlyM.useHave (show OnlyM 1407804392867008 x0 y1 from ?_) (fun hy1 => ?_)
  · unfold y1
    refine OnlyM.ite ?_ ?_
    · refine OnlyM.comp (bump_only _ _ _ _) (by rfl) ?_
      assumption
    · refine OnlyM.ite ?_ ?_
      · refine OnlyM.comp (bump_only _ _ _ _) (by rfl) ?_
        assumption
      · assumption
  clear_value y1
  intro y2
  refine OnlyM.useHave (show OnlyM 1407804392867008 x0 y2 from ?_) (fun hy2 => ?_)
  · unfold y2
    refine OnlyM.ite ?_ ?_
    · refine OnlyM.comp (bump_only _ _ _ _) (by rfl) ?_
      assumption
    · assumption
  clear_value y2
  intro y3
  clear_value y3
  intro y4
  refine OnlyM.useHave (show OnlyM 1407804392867008 x0 y4 from ?_) (fun hy4 => ?_)
  · unfold y4
    refine OnlyM.comp (visRecord_only _ _ _ _ _) (by rfl) ?_
    assumption
  clear_value y4
  intro y5
  refine OnlyM.useHave (show OnlyM 1407804392867008 x0 y5 from ?_) (fun hy5 => ?_)
  · unfold y5
    refine OnlyM.foldl ?_ (fun _ _ _ => ?_)
    · assumption
    · refine OnlyM.comp (flagRelease_only _ _) (by rfl) ?_
      assumption
  clear_value y5
  intro y6
  clear_value y6
  refine OnlyM.comp (setGph_only _ _ _) (by rfl) ?_
  assumption

theorem endTransfer_only : ∀ x0, OnlyM 8589934592 x0 (endTransfer x0) := by
  intro x0
  unfold endTransfer
  refine OnlyM.comp (upd_bus _ _) (by rfl) ?_
  exact OnlyM.refl _ _

theorem enqueueSpike_only : ∀ x0 x1 x2, OnlyM 8796093022400 x0 (enqueueSpike x0 x1 x2) := by
  intro x0 x1 x2
  unfold enqueueSpike
  lift_lets
  intro y0
  clear_value y0
  intro y1
  clear_value y1
  refine OnlyM.ite ?_ ?_
  · refine OnlyM.comp (upd_lan _ _) (by rfl) ?_
    exact OnlyM.refl _ _
  · refine OnlyM.comp (bump_only _ _ _ _) (by rfl) ?_
    refine OnlyM.comp (upd_lan _ _) (by rfl) ?_
    exact OnlyM.refl _ _

theorem forwardsAbort_only : ∀ x0, OnlyM 8589934592 x0 (forwardsAbort x0) := by
  intro x0
  unfold forwardsAbort
  lift_lets
  intro y0
  refine OnlyM.useHave (show OnlyM 8589934592 x0 y0 from ?_) (fun hy0 => ?_)
  · unfold y0
    refine OnlyM.foldl ?_ (fun _ _ _ => ?_)
    · exact OnlyM.refl _ _
    · refine OnlyM.comp (sdoAnswer_only _ _ _ _ _) (by rfl) ?_
      assumption
  clear_value y0
  intro y1
  clear_value y1
  refine OnlyM.comp (upd_bus _ _) (by rfl) ?_
  assumption

theorem keepEnter_only : ∀ x0, OnlyM 17179870208 x0 (keepEnter x0) := by
  intro x0
  unfold keepEnter
  lift_lets
  intro y0
  clear_value y0
  intro y1
  refine OnlyM.useHave (show OnlyM 17179870208 x0 y1 from ?_) (fun hy1 => ?_)
  · unfold y1
    refine OnlyM.foldl ?_ (fun _ _ _ => ?_)
    · exact OnlyM.refl _ _
    · refine OnlyM.comp (setReg_only _ _ _) (by rfl) ?_
      assumption
  clear_value y1
  intro y2
  refine OnlyM.useHave (show OnlyM 17179870208 x0 y2 from ?_) (fun hy2 => ?_)
  · unfold y2
    refine OnlyM.comp (setReg_only _ _ _) (by rfl) ?_
    assumption
  clear_value y2
  intro y3
  clear_value y3
  refine OnlyM.comp (dramLose_only _ _) (by rfl) ?_
  refine OnlyM.comp (upd_mem _ _) (by rfl) ?_
  assumption

theorem kvReset_only : ∀ x0 x1, OnlyM 4398046511104 x0 (kvReset x0 x1) := by
  intro x0 x1
  unfold kvReset
  refine OnlyM.ite ?_ ?_
  · lift_lets
    intro y0
    refine OnlyM.useHave (show OnlyM 4398046511104 x0 y0 from ?_) (fun hy0 => ?_)
    · unfold y0
      refine OnlyM.foldl ?_ (fun _ _ _ => ?_)
      · exact OnlyM.refl _ _
      · refine OnlyM.comp (kvDiscardOne_only _ _) (by rfl) ?_
        assumption
    clear_value y0
    intro y1
    intro y2
    refine OnlyM.comp (upd_kv _ _) (by rfl) ?_
    assumption
  · refine OnlyM.comp (upd_kv _ _) (by rfl) ?_
    exact OnlyM.refl _ _

theorem resetRegs_only : ∀ x0 x1, OnlyM 1024 x0 (resetRegs x0 x1) := by
  intro x0 x1
  unfold resetRegs
  refine OnlyM.comp (upd_regs _ _) (by rfl) ?_
  exact OnlyM.refl _ _

theorem setsHostDown_only : ∀ x0, OnlyM 9676259520 x0 (setsHostDown x0) := by
  intro x0
  unfold setsHostDown
  refine OnlyM.foldl ?_ (fun _ _ _ => ?_)
  · exact OnlyM.refl _ _
  · refine OnlyM.ite ?_ ?_
    · refine OnlyM.comp (failSet_only _ _ _ _ _) (by rfl) ?_
      assumption
    · assumption

theorem hostReset_only : ∀ x0 x1 x2, OnlyM 2005502764319986 x0 (hostReset x0 x1 x2) := by
  intro x0 x1 x2
  unfold hostReset
  lift_lets
  intro y0
  clear_value y0
  intro y1
  refine OnlyM.useHave (show OnlyM 2005502764319986 x0 y1 from ?_) (fun hy1 => ?_)
  · unfold y1
    refine OnlyM.ite ?_ ?_
    · refine OnlyM.comp (keepEnter_only _) (by rfl) ?_
      refine OnlyM.comp (upd_mem _ _) (by rfl) ?_
      exact OnlyM.refl _ _
    · refine OnlyM.comp (dramLose_only _ _) (by rfl) ?_
      exact OnlyM.refl _ _
  clear_value y1
  intro y2
  clear_value y2
  intro y3
  refine OnlyM.useHave (show OnlyM 2005502764319986 x0 y3 from ?_) (fun hy3 => ?_)
  · unfold y3
    refine OnlyM.comp (resetRegs_only _ _) (by rfl) ?_
    assumption
  clear_value y3
  intro y4
  refine OnlyM.useHave (show OnlyM 2005502764319986 x0 y4 from ?_) (fun hy4 => ?_)
  · unfold y4
    refine OnlyM.ite ?_ ?_
    · refine OnlyM.comp (setReg_only _ _ _) (by rfl) ?_
      assumption
    · assumption
  clear_value y4
  intro y5
  refine OnlyM.useHave (show OnlyM 2005502764319986 x0 y5 from ?_) (fun hy5 => ?_)
  · unfold y5
    refine OnlyM.comp (kvReset_only _ _) (by rfl) ?_
    refine OnlyM.comp (forwardsAbort_only _) (by rfl) ?_
    refine OnlyM.comp (setsHostDown_only _) (by rfl) ?_
    assumption
  clear_value y5
  intro y6
  clear_value y6
  intro y7
  refine OnlyM.useHave (show OnlyM 2005502764319986 x0 y7 from ?_) (fun hy7 => ?_)
  · unfold y7
    refine OnlyM.comp (bump_only _ _ _ _) (by rfl) ?_
    assumption
  clear_value y7
  intro y8
  refine OnlyM.useHave (show OnlyM 2005502764319986 x0 y8 from ?_) (fun hy8 => ?_)
  · unfold y8
    refine OnlyM.comp (dropPins_only _ _) (by rfl) ?_
    assumption
  clear_value y8
  intro y9
  clear_value y9
  intro y10
  clear_value y10
  intro y11
  clear_value y11
  intro y12
  clear_value y12
  intro y13
  clear_value y13
  intro y14
  clear_value y14
  refine OnlyM.comp (upd_hboot_hobj_replica_hclk_trep_pairs_fend_hend_link_hostSlots_fwdValue_portXfer_portWaits_fieldXfers_sets_mem_streams_trig_flags_graphs_runOrder_engines_gal_lan_comp_saf_pwr_hostInts _ _ _ _ _ _ _ _ _ _ _ _ _ _ _ _ _ _ _ _ _ _ _ _ _ _ _ _ _) (by rfl) ?_
  assumption

theorem hostFall_only : ∀ x0, OnlyM 2005502764319986 x0 (hostFall x0) := by
  intro x0
  unfold hostFall
  lift_lets
  intro y0
  refine OnlyM.useHave (show OnlyM 2005502764319986 x0 y0 from ?_) (fun hy0 => ?_)
  · unfold y0
    refine OnlyM.comp (hostReset_only _ _ _) (by rfl) ?_
    exact OnlyM.refl _ _
  clear_value y0
  intro y1
  clear_value y1
  refine OnlyM.comp (upd_pwr _ _) (by rfl) ?_
  assumption

theorem hostOff_only : ∀ x0 x1, OnlyM 2005502764319986 x0 (hostOff x0 x1) := by
  intro x0 x1
  unfold hostOff
  lift_lets
  intro y0
  refine OnlyM.useHave (show OnlyM 2005502764319986 x0 y0 from ?_) (fun hy0 => ?_)
  · unfold y0
    refine OnlyM.comp (hostFall_only _) (by rfl) ?_
    exact OnlyM.refl _ _
  clear_value y0
  intro y1
  clear_value y1
  intro y2
  clear_value y2
  refine OnlyM.comp (upd_hboot_pwr _ _ _) (by rfl) ?_
  assumption

theorem enterLow_only : ∀ x0 x1, OnlyM 2005502764319986 x0 (enterLow x0 x1) := by
  intro x0 x1
  unfold enterLow
  lift_lets
  intro y0
  clear_value y0
  intro y1
  clear_value y1
  intro y2
  clear_value y2
  intro y3
  refine OnlyM.useHave (show OnlyM 2005502764319986 x0 y3 from ?_) (fun hy3 => ?_)
  · unfold y3
    refine OnlyM.comp (hostReset_only _ _ _) (by rfl) ?_
    exact OnlyM.refl _ _
  clear_value y3
  intro y4
  refine OnlyM.useHave (show OnlyM 2005502764319986 x0 y4 from ?_) (fun hy4 => ?_)
  · unfold y4
    refine OnlyM.foldl ?_ (fun _ _ _ => ?_)
    · assumption
    · refine OnlyM.comp (putObj_only _ _ _ _) (by rfl) ?_
      assumption
  clear_value y4
  intro y5
  clear_value y5
  intro y6
  clear_value y6
  intro y7
  refine OnlyM.useHave (show OnlyM 2005502764319986 x0 y7 from ?_) (fun hy7 => ?_)
  · unfold y7
    refine OnlyM.comp (upd_hboot_pwr _ _ _) (by rfl) ?_
    assumption
  clear_value y7
  refine OnlyM.ite ?_ ?_
  · refine OnlyM.comp (hostOff_only _ _) (by rfl) ?_
    exact OnlyM.refl _ _
  · refine OnlyM.ite ?_ ?_
    · refine OnlyM.comp (wakeUp_only _ _) (by rfl) ?_
      assumption
    · assumption

theorem errorBit_only : ∀ x0 x1 x2, OnlyM 8589934784 x0 (errorBit x0 x1 x2) := by
  intro x0 x1 x2
  unfold errorBit
  refine OnlyM.comp (errorCleared_only _ _) (by rfl) ?_
  refine OnlyM.comp (putN_only _ _ _ _) (by rfl) ?_
  exact OnlyM.refl _ _

theorem routeSpike_only : ∀ x0 x1, OnlyM 8796093022400 x0 (routeSpike x0 x1) := by
  intro x0 x1
  unfold routeSpike
  refine OnlyM.foldl ?_ (fun _ _ _ => ?_)
  · exact OnlyM.refl _ _
  · refine OnlyM.ite ?_ ?_
    · assumption
    · refine OnlyM.comp (enqueueSpike_only _ _ _) (by rfl) ?_
      assumption

theorem lanEvent_only : ∀ x0 x1 x2, OnlyM 8796093022400 x0 (lanEvent x0 x1 x2) := by
  intro x0 x1 x2
  unfold lanEvent
  split
  · refine OnlyM.comp (bump_only _ _ _ _) (by rfl) ?_
    exact OnlyM.refl _ _
  · refine OnlyM.ite ?_ ?_
    · refine OnlyM.comp (bump_only _ _ _ _) (by rfl) ?_
      exact OnlyM.refl _ _
    · refine OnlyM.comp (routeSpike_only _ _) (by rfl) ?_
      refine OnlyM.comp (bump_only _ _ _ _) (by rfl) ?_
      exact OnlyM.refl _ _

theorem eventWord_only : ∀ x0 x1, OnlyM 8796093022400 x0 (eventWord x0 x1) := by
  intro x0 x1
  unfold eventWord
  lift_lets
  intro y0
  clear_value y0
  intro y1
  clear_value y1
  split
  · refine OnlyM.comp (upd_lan _ _) (by rfl) ?_
    exact OnlyM.refl _ _
  · refine OnlyM.comp (lanEvent_only _ _ _) (by rfl) ?_
    exact OnlyM.refl _ _
  · refine OnlyM.foldl ?_ (fun _ _ _ => ?_)
    · exact OnlyM.refl _ _
    · refine OnlyM.comp (lanEvent_only _ _ _) (by rfl) ?_
      assumption
  · refine OnlyM.comp (bump_only _ _ _ _) (by rfl) ?_
    exact OnlyM.refl _ _

theorem execAckDue_only : ∀ x0 x1, OutOnly 12582912 x1 (execAckDue x0 x1) := by
  intro x0 x1
  unfold execAckDue
  refine OutOnly.next ?_
  refine OnlyM.ite ?_ ?_
  · refine OnlyM.comp (queueLink_only _ _ _) (by rfl) ?_
    exact OnlyM.refl _ _
  · exact OnlyM.refl _ _

theorem sinCosResult_only : ∀ x0 x1, OnlyM 35184372089024 x0 (sinCosResult x0 x1) := by
  intro x0 x1
  unfold sinCosResult
  refine OnlyM.foldl ?_ (fun _ _ _ => ?_)
  · exact OnlyM.refl _ _
  · lift_lets
    intro y0
    clear_value y0
    intro y1
    clear_value y1
    intro y2
    refine OnlyM.useHave (show OnlyM 35184372089024 x0 y2 from ?_) (fun hy2 => ?_)
    · unfold y2
      refine OnlyM.comp (setAx_only _ _ _) (by rfl) ?_
      assumption
    clear_value y2
    refine OnlyM.ite ?_ ?_
    · assumption
    · refine OnlyM.ite ?_ ?_
      · refine OnlyM.comp (goodCapture_only _ _ _) (by rfl) ?_
        assumption
      · assumption

theorem execAdcConversionDone_only : ∀ x0 x1 x2, OutOnly 175921860444352 x2 (execAdcConversionDone x0 x1 x2) := by
  intro x0 x1 x2
  unfold execAdcConversionDone
  refine OutOnly.next ?_
  refine OnlyM.ite ?_ ?_
  · exact OnlyM.refl _ _
  · lift_lets
    intro y0
    clear_value y0
    intro y1
    refine OnlyM.useHave (show OnlyM 175921860444352 x2 y1 from ?_) (fun hy1 => ?_)
    · unfold y1
      refine OnlyM.comp (upd_eng _ _) (by rfl) ?_
      exact OnlyM.refl _ _
    clear_value y1
    split
    · refine OnlyM.ite ?_ ?_
      · refine OnlyM.comp (sinCosResult_only _ _) (by rfl) ?_
        assumption
      · exact OnlyM.refl _ _
    · refine OnlyM.ite ?_ ?_
      · exact OnlyM.refl _ _
      · refine OnlyM.comp (adcResult_only _ _ _ _) (by rfl) ?_
        assumption

theorem settle_only : ∀ x0 x1 x2 x3, OnlyM 8602517504 x0.1 (settle x0 x1 x2 x3) := by
  intro x0 x1 x2 x3
  unfold settle
  split
  · refine OnlyM.comp (answerWrite_only _ _ _ _ _) (by rfl) ?_
    exact OnlyM.refl _ _
  · exact OnlyM.refl _ _

theorem tallyLost_only : ∀ x0, OnlyM 17303552 x0 (tallyLost x0) := by
  intro x0
  unfold tallyLost
  refine OnlyM.comp (upd_pos_trep_link _ _ _ _) (by rfl) ?_
  exact OnlyM.refl _ _

theorem fieldReset_only : ∀ x0 x1, OnlyM 2218848589430001 x0 (fieldReset x0 x1) := by
  intro x0 x1
  unfold fieldReset
  lift_lets
  intro y0
  refine OnlyM.useHave (show OnlyM 2218848589430001 x0 y0 from ?_) (fun hy0 => ?_)
  · unfold y0
    refine OnlyM.comp (tallyLost_only _) (by rfl) ?_
    refine OnlyM.comp (linkDown_only _) (by rfl) ?_
    exact OnlyM.refl _ _
  clear_value y0
  intro y1
  clear_value y1
  intro y2
  refine OnlyM.useHave (show OnlyM 2218848589430001 x0 y2 from ?_) (fun hy2 => ?_)
  · unfold y2
    refine OnlyM.comp (dropPins_only _ _) (by rfl) ?_
    assumption
  clear_value y2
  intro y3
  clear_value y3
  intro y4
  refine OnlyM.useHave (show OnlyM 2218848589430001 x0 y4 from ?_) (fun hy4 => ?_)
  · unfold y4
    refine OnlyM.comp (holdAll_only _ _) (by rfl) ?_
    refine OnlyM.comp (upd_replica _ _) (by rfl) ?_
    assumption
  clear_value y4
  intro y5
  clear_value y5
  intro y6
  clear_value y6
  refine OnlyM.comp (upd_fboot_fobj_pos_fEntries_hMaster_tEntries_fclk_pairs_sync_fend_link_fieldXfers_sets_undo_keptHost_bus_axes_ctl_eng_saf _ _ _ _ _ _ _ _ _ _ _ _ _ _ _ _ _ _ _ _ _) (by rfl) ?_
  assumption

theorem fullResetWrite_only : ∀ x0, OnlyM 12582913 x0 (fullResetWrite x0).1 := by
  intro x0
  unfold fullResetWrite
  refine OnlyM.ite1 ?_ ?_
  · refine OnlyM.pair ?_
    exact OnlyM.refl _ _
  · refine OnlyM.pair ?_
    refine OnlyM.comp (ropeSend_only _ _ _) (by rfl) ?_
    refine OnlyM.comp (upd_fboot _ _) (by rfl) ?_
    exact OnlyM.refl _ _

theorem moveIndexRef_only : ∀ x0 x1, OnlyM 2048 x0 (moveIndexRef x0 x1) := by
  intro x0 x1
  unfold moveIndexRef
  refine OnlyM.comp (upd_pos _ _) (by rfl) ?_
  exact OnlyM.refl _ _

theorem setReading_only : ∀ x0 x1, OnlyM 2048 x0 (setReading x0 x1) := by
  intro x0 x1
  unfold setReading
  lift_lets
  intro y0
  clear_value y0
  intro y1
  clear_value y1
  intro y2
  clear_value y2
  refine OnlyM.comp (upd_pos _ _) (by rfl) ?_
  exact OnlyM.refl _ _

theorem presetWrite_only : ∀ x0 x1, OnlyM 2048 x0 (presetWrite x0 x1).1 := by
  intro x0 x1
  unfold presetWrite
  refine OnlyM.ite1 ?_ ?_
  · refine OnlyM.pair ?_
    exact OnlyM.refl _ _
  · refine OnlyM.ite1 ?_ ?_
    · refine OnlyM.pair ?_
      exact OnlyM.refl _ _
    · refine OnlyM.pair ?_
      refine OnlyM.comp (moveIndexRef_only _ _) (by rfl) ?_
      refine OnlyM.comp (setReading_only _ _) (by rfl) ?_
      exact OnlyM.refl _ _

theorem reacquireWrite_only : ∀ x0, OnlyM 131072 x0 (reacquireWrite x0).1 := by
  intro x0
  unfold reacquireWrite
  refine OnlyM.ite1 ?_ ?_
  · refine OnlyM.pair ?_
    exact OnlyM.refl _ _
  · refine OnlyM.pair ?_
    refine OnlyM.comp (upd_fclk _ _) (by rfl) ?_
    exact OnlyM.refl _ _

theorem stepCompare_only : ∀ x0 x1 x2 x3, OnlyM 1520024374287600 x0 (stepCompare x0 x1 x2 x3) := by
  intro x0 x1 x2 x3
  unfold stepCompare
  lift_lets
  intro y0
  clear_value y0
  intro y1
  clear_value y1
  refine OnlyM.foldl ?_ (fun _ _ _ => ?_)
  · refine OnlyM.comp (crossSets_only _ _ _ _ _ _) (by rfl) ?_
    exact OnlyM.refl _ _
  · lift_lets
    intro y2
    clear_value y2
    intro y3
    clear_value y3
    refine OnlyM.ite ?_ ?_
    · refine OnlyM.ite ?_ ?_
      · refine OnlyM.comp (notePassed_only _ _ _ _) (by rfl) ?_
        assumption
      · refine OnlyM.comp (lateOrMiss_only _ _ _ _) (by rfl) ?_
        assumption
    · assumption

theorem stepTo_only : ∀ x0 x1, OnlyM 1520024374287600 x0 (stepTo x0 x1) := by
  intro x0 x1
  unfold stepTo
  lift_lets
  intro y0
  clear_value y0
  intro y1
  clear_value y1
  intro y2
  refine OnlyM.useHave (show OnlyM 1520024374287600 x0 y2 from ?_) (fun hy2 => ?_)
  · unfold y2
    refine OnlyM.comp (setReading_only _ _) (by rfl) ?_
    exact OnlyM.refl _ _
  clear_value y2
  intro y3
  refine OnlyM.useHave (show OnlyM 1520024374287600 x0 y3 from ?_) (fun hy3 => ?_)
  · unfold y3
    refine OnlyM.comp (putI_only _ _ _ _) (by rfl) ?_
    assumption
  clear_value y3
  intro y4
  refine OnlyM.useHave (show OnlyM 1520024374287600 x0 y4 from ?_) (fun hy4 => ?_)
  · unfold y4
    refine OnlyM.comp (posRec_only _ _ _ _ _ _ _) (by rfl) ?_
    assumption
  clear_value y4
  intro y5
  refine OnlyM.useHave (show OnlyM 1520024374287600 x0 y5 from ?_) (fun hy5 => ?_)
  · unfold y5
    refine OnlyM.comp (stepCompare_only _ _ _ _) (by rfl) ?_
    assumption
  clear_value y5
  refine OnlyM.comp (pulseCntEnds_only _ _ _ _) (by rfl) ?_
  assumption

theorem rereferenceWrite_only : ∀ x0 x1, OnlyM 1520032964222192 x0 (rereferenceWrite x0 x1).1 := by
  intro x0 x1
  unfold rereferenceWrite
  refine OnlyM.ite1 ?_ ?_
  · refine OnlyM.pair ?_
    exact OnlyM.refl _ _
  · lift_lets
    intro y0
    clear_value y0
    intro y1
    clear_value y1
    intro y2
    clear_value y2
    intro y3
    clear_value y3
    intro y4
    clear_value y4
    intro y5
    refine OnlyM.useHave (show OnlyM 1520032964222192 x0 y5 from ?_) (fun hy5 => ?_)
    · unfold y5
      refine OnlyM.comp (upd_pos _ _) (by rfl) ?_
      exact OnlyM.refl _ _
    clear_value y5
    intro y6
    refine OnlyM.useHave (show OnlyM 1520032964222192 x0 y6 from ?_) (fun hy6 => ?_)
    · unfold y6
      split
      · refine OnlyM.comp (releaseHeld_only _ _ _) (by rfl) ?_
        assumption
      · refine OnlyM.comp (releaseHeld_only _ _ _) (by rfl) ?_
        assumption
      · assumption
    clear_value y6
    intro y7
    refine OnlyM.useHave (show OnlyM 1520032964222192 x0 y7 from ?_) (fun hy7 => ?_)
    · unfold y7
      refine OnlyM.comp (moveIndexRef_only _ _) (by rfl) ?_
      refine OnlyM.comp (stepTo_only _ _) (by rfl) ?_
      assumption
    clear_value y7
    intro y8
    clear_value y8
    intro y9
    refine OnlyM.useHave (show OnlyM 1520032964222192 x0 y9 from ?_) (fun hy9 => ?_)
    · unfold y9
      refine OnlyM.comp (putN_only _ _ _ _) (by rfl) ?_
      refine OnlyM.comp (upd_pos _ _) (by rfl) ?_
      assumption
    clear_value y9
    intro y10
    refine OnlyM.useHave (show OnlyM 1520032964222192 x0 y10 from ?_) (fun hy10 => ?_)
    · unfold y10
      refine OnlyM.ite ?_ ?_
      · assumption
      · refine OnlyM.comp (positionNotice_only _ _) (by rfl) ?_
        assumption
    clear_value y10
    intro y11
    clear_value y11
    refine OnlyM.pair ?_
    refine OnlyM.ite ?_ ?_
    · assumption
    · refine OnlyM.comp (encoderLoss_only _) (by rfl) ?_
      assumption

theorem retrainWrite_only : ∀ x0 x1, OnlyM 29360320 x0 (retrainWrite x0 x1) := by
  intro x0 x1
  unfold retrainWrite
  refine OnlyM.ite ?_ ?_
  · refine OnlyM.comp (retrain_only _ _ _ _) (by rfl) ?_
    exact OnlyM.refl _ _
  · refine OnlyM.comp (upd_link _ _) (by rfl) ?_
    exact OnlyM.refl _ _

theorem rollbackWrite_only : ∀ x0 x1 x2, OnlyM 4352381360012528 x0 (rollbackWrite x0 x1 x2).1 := by
  intro x0 x1 x2
  unfold rollbackWrite
  split
  · refine OnlyM.pair ?_
    exact OnlyM.refl _ _
  · lift_lets
    intro y0
    clear_value y0
    intro y1
    refine OnlyM.useHave (show OnlyM 4352381360012528 x0 y1 from ?_) (fun hy1 => ?_)
    · unfold y1
      refine OnlyM.comp (setStg_only _ _ _) (by rfl) ?_
      exact OnlyM.refl _ _
    clear_value y1
    refine OnlyM.pair ?_
    refine OnlyM.ite ?_ ?_
    · refine OnlyM.comp (failSet_only _ _ _ _ _) (by rfl) ?_
      assumption
    · refine OnlyM.comp (checkSet_only _ _) (by rfl) ?_
      assumption

theorem stageAppend_only : ∀ x0 x1 x2 x3, OnlyM 1073741824 x0 (stageAppend x0 x1 x2 x3).1 := by
  intro x0 x1 x2 x3
  unfold stageAppend
  lift_lets
  intro y0
  clear_value y0
  intro y1
  clear_value y1
  intro y2
  refine OnlyM.useHave (show OnlyM 1073741824 x0 y2.1 from ?_) (fun hy2 => ?_)
  · unfold y2
    refine OnlyM.comp (addEntries_only _ _ _) (by rfl) ?_
    exact OnlyM.refl _ _
  clear_value y2
  refine OnlyM.ite1 ?_ ?_
  · refine OnlyM.pair ?_
    exact OnlyM.refl _ _
  · refine OnlyM.ite1 ?_ ?_
    · refine OnlyM.pair ?_
      exact OnlyM.refl _ _
    · refine OnlyM.pair ?_
      assumption

theorem stageArm_only : ∀ x0 x1 x2 x3 x4, OnlyM 4352381360012528 x0 (stageArm x0 x1 x2 x3 x4).1 := by
  intro x0 x1 x2 x3 x4
  unfold stageArm
  lift_lets
  intro y0
  clear_value y0
  refine OnlyM.ite1 ?_ ?_
  · refine OnlyM.pair ?_
    exact OnlyM.refl _ _
  · refine OnlyM.pair ?_
    refine OnlyM.comp (armSet_only _ _ _ _) (by rfl) ?_
    refine OnlyM.comp (setStg_only _ _ _) (by rfl) ?_
    exact OnlyM.refl _ _

theorem stageCancel_only : ∀ x0 x1 x2 x3, OnlyM 1073741824 x0 (stageCancel x0 x1 x2 x3).1 := by
  intro x0 x1 x2 x3
  unfold stageCancel
  lift_lets
  intro y0
  clear_value y0
  intro y1
  clear_value y1
  refine OnlyM.ite1 ?_ ?_
  · refine OnlyM.pair ?_
    refine OnlyM.comp (discardSet_only _ _) (by rfl) ?_
    exact OnlyM.refl _ _
  · refine OnlyM.ite1 ?_ ?_
    · refine OnlyM.pair ?_
      refine OnlyM.comp (discardSet_only _ _) (by rfl) ?_
      exact OnlyM.refl _ _
    · refine OnlyM.pair ?_
      exact OnlyM.refl _ _

theorem stageCheck_only : ∀ x0 x1 x2 x3 x4, OnlyM 4352381360012528 x0 (stageCheck x0 x1 x2 x3 x4).1 := by
  intro x0 x1 x2 x3 x4
  unfold stageCheck
  lift_lets
  intro y0
  clear_value y0
  refine OnlyM.ite1 ?_ ?_
  · refine OnlyM.pair ?_
    exact OnlyM.refl _ _
  · refine OnlyM.pair ?_
    refine OnlyM.comp (checkSet_only _ _) (by rfl) ?_
    refine OnlyM.comp (setStg_only _ _ _) (by rfl) ?_
    exact OnlyM.refl _ _

theorem stageOpen_only : ∀ x0 x1 x2, OnlyM 1073741824 x0 (stageOpen x0 x1 x2).1 := by
  intro x0 x1 x2
  unfold stageOpen
  refine OnlyM.ite1 ?_ ?_
  · refine OnlyM.pair ?_
    refine OnlyM.comp (setStg_only _ _ _) (by rfl) ?_
    exact OnlyM.refl _ _
  · refine OnlyM.pair ?_
    exact OnlyM.refl _ _

theorem stageCommand_only : ∀ x0 x1 x2 x3 x4, OnlyM 4352381360012528 x0 (stageCommand x0 x1 x2 x3 x4).1 := by
  intro x0 x1 x2 x3 x4
  unfold stageCommand
  lift_lets
  intro y0
  clear_value y0
  intro y1
  split
  · unfold y1
    refine OnlyM.pair ?_
    refine OnlyM.comp (stageOpen_only _ _ _) (by rfl) ?_
    exact OnlyM.refl _ _
  · refine OnlyM.comp (stageCheck_only _ _ _ _ _) (by rfl) ?_
    exact OnlyM.refl _ _
  · refine OnlyM.comp (stageArm_only _ _ _ _ _) (by rfl) ?_
    exact OnlyM.refl _ _
  · unfold y1
    refine OnlyM.pair ?_
    refine OnlyM.comp (stageCancel_only _ _ _ _) (by rfl) ?_
    exact OnlyM.refl _ _
  · refine OnlyM.pair ?_
    exact OnlyM.refl _ _

theorem storeWrite_only : ∀ x0 x1 x2 x3, OnlyM 768 x0 (storeWrite x0 x1 x2 x3).1 := by
  intro x0 x1 x2 x3
  unfold storeWrite
  lift_lets
  intro y0
  intro y1
  refine OnlyM.ite1 ?_ ?_
  · refine OnlyM.pair ?_
    exact OnlyM.refl _ _
  · refine OnlyM.ite1 ?_ ?_
    · refine OnlyM.pair ?_
      exact OnlyM.refl _ _
    · refine OnlyM.ite1 ?_ ?_
      · refine OnlyM.pair ?_
        unfold y0
        refine OnlyM.ite ?_ ?_
        · refine OnlyM.comp (upd_fsaved _ _) (by rfl) ?_
          exact OnlyM.refl _ _
        · refine OnlyM.comp (upd_fsaved _ _) (by rfl) ?_
          exact OnlyM.refl _ _
      · refine OnlyM.ite1 ?_ ?_
        · refine OnlyM.ite1 ?_ ?_
          · refine OnlyM.pair ?_
            unfold y1
            refine OnlyM.ite ?_ ?_
            · refine OnlyM.comp (upd_hsaved _ _) (by rfl) ?_
              exact OnlyM.refl _ _
            · refine OnlyM.comp (upd_hsaved _ _) (by rfl) ?_
              exact OnlyM.refl _ _
          · refine OnlyM.pair ?_
            exact OnlyM.refl _ _
        · refine OnlyM.ite1 ?_ ?_
          · refine OnlyM.pair ?_
            unfold y1
            refine OnlyM.ite ?_ ?_
            · refine OnlyM.comp (upd_hsaved _ _) (by rfl) ?_
              unfold y0
              refine OnlyM.ite ?_ ?_
              · refine OnlyM.comp (upd_fsaved _ _) (by rfl) ?_
                exact OnlyM.refl _ _
              · refine OnlyM.comp (upd_fsaved _ _) (by rfl) ?_
                exact OnlyM.refl _ _
            · refine OnlyM.comp (upd_hsaved _ _) (by rfl) ?_
              unfold y0
              refine OnlyM.ite ?_ ?_
              · refine OnlyM.comp (upd_fsaved _ _) (by rfl) ?_
                exact OnlyM.refl _ _
              · refine OnlyM.comp (upd_fsaved _ _) (by rfl) ?_
                exact OnlyM.refl _ _
          · refine OnlyM.pair ?_
            unfold y0
            refine OnlyM.ite ?_ ?_
            · refine OnlyM.comp (upd_fsaved _ _) (by rfl) ?_
              exact OnlyM.refl _ _
            · refine OnlyM.comp (upd_fsaved _ _) (by rfl) ?_
              exact OnlyM.refl _ _

theorem wakeWrite_only : ∀ x0, OnlyM 20971520 x0 (wakeWrite x0) := by
  intro x0
  unfold wakeWrite
  refine OnlyM.ite ?_ ?_
  · refine OnlyM.comp (upd_fend_link _ _ _) (by rfl) ?_
    exact OnlyM.refl _ _
  · exact OnlyM.refl _ _

theorem writeAct_only : ∀ x0 x1 x2 x3 x4 x5, OnlyM 4493119672025073 x0 (writeAct x0 x1 x2 x3 x4 x5).1 := by
  intro x0 x1 x2 x3 x4 x5
  unfold writeAct
  lift_lets
  intro y0
  clear_value y0
  intro y1
  intro y2
  refine OnlyM.ite1 ?_ ?_
  · unfold y1
    refine OnlyM.pair ?_
    refine OnlyM.comp (storeWrite_only _ _ _ _) (by rfl) ?_
    exact OnlyM.refl _ _
  · refine OnlyM.ite1 ?_ ?_
    · unfold y1
      refine OnlyM.pair ?_
      refine OnlyM.comp (storeWrite_only _ _ _ _) (by rfl) ?_
      exact OnlyM.refl _ _
    · refine OnlyM.ite1 ?_ ?_
      · refine OnlyM.comp (rollbackWrite_only _ _ _) (by rfl) ?_
        exact OnlyM.refl _ _
      · refine OnlyM.ite1 ?_ ?_
        · refine OnlyM.comp (stageCommand_only _ _ _ _ _) (by rfl) ?_
          exact OnlyM.refl _ _
        · refine OnlyM.ite1 ?_ ?_
          · unfold y1
            refine OnlyM.pair ?_
            refine OnlyM.comp (stageAppend_only _ _ _ _) (by rfl) ?_
            exact OnlyM.refl _ _
          · refine OnlyM.ite1 ?_ ?_
            · unfold y1
              refine OnlyM.pair ?_
              refine OnlyM.comp (presetWrite_only _ _) (by rfl) ?_
              exact OnlyM.refl _ _
            · refine OnlyM.ite1 ?_ ?_
              · unfold y1
                refine OnlyM.pair ?_
                refine OnlyM.comp (rereferenceWrite_only _ _) (by rfl) ?_
                exact OnlyM.refl _ _
              · refine OnlyM.ite1 ?_ ?_
                · unfold y1
                  refine OnlyM.pair ?_
                  refine OnlyM.comp (reacquireWrite_only _) (by rfl) ?_
                  exact OnlyM.refl _ _
                · refine OnlyM.ite1 ?_ ?_
                  · unfold y2
                    refine OnlyM.pair ?_
                    refine OnlyM.comp (retrainWrite_only _ _) (by rfl) ?_
                    exact OnlyM.refl _ _
                  · refine OnlyM.ite1 ?_ ?_
                    · unfold y2
                      refine OnlyM.pair ?_
                      refine OnlyM.comp (putN_only _ _ _ _) (by rfl) ?_
                      exact OnlyM.refl _ _
                    · refine OnlyM.ite1 ?_ ?_
                      · unfold y2
                        refine OnlyM.pair ?_
                        refine OnlyM.comp (wakeWrite_only _) (by rfl) ?_
                        exact OnlyM.refl _ _
                      · refine OnlyM.ite1 ?_ ?_
                        · refine OnlyM.ite1 ?_ ?_
                          · unfold y2
                            refine OnlyM.pair ?_
                            refine OnlyM.comp (fieldReset_only _ _) (by rfl) ?_
                            exact OnlyM.refl _ _
                          · unfold y1
                            refine OnlyM.pair ?_
                            refine OnlyM.comp (fullResetWrite_only _) (by rfl) ?_
                            exact OnlyM.refl _ _
                        · refine OnlyM.ite1 ?_ ?_
                          · unfold y1
                            refine OnlyM.pair ?_
                            refine OnlyM.pair ?_
                            refine OnlyM.comp (upd_fboot _ _) (by rfl) ?_
                            exact OnlyM.refl _ _
                          · refine OnlyM.ite1 ?_ ?_
                            · unfold y2
                              refine OnlyM.pair ?_
                              refine OnlyM.comp (clearLatchesOf_only _ _) (by rfl) ?_
                              exact OnlyM.refl _ _
                            · refine OnlyM.ite1 ?_ ?_
                              · unfold y2
                                refine OnlyM.pair ?_
                                refine OnlyM.comp (adcStart_only _ _) (by rfl) ?_
                                exact OnlyM.refl _ _
                              · refine OnlyM.ite1 ?_ ?_
                                · unfold y2
                                  refine OnlyM.pair ?_
                                  refine OnlyM.comp (flushFifo_only _ _) (by rfl) ?_
                                  exact OnlyM.refl _ _
                                · unfold y1
                                  refine OnlyM.pair ?_
                                  refine OnlyM.comp (applyValue_only _ _ _ _) (by rfl) ?_
                                  exact OnlyM.refl _ _

theorem writeField_only : ∀ x0 x1 x2 x3 x4 x5, OnlyM 4493119672025073 x0 (writeField x0 x1 x2 x3 x4 x5).1 := by
  intro x0 x1 x2 x3 x4 x5
  unfold writeField
  refine OnlyM.ite1 ?_ ?_
  · refine OnlyM.pair ?_
    exact OnlyM.refl _ _
  · refine OnlyM.ite1 ?_ ?_
    · refine OnlyM.pair ?_
      exact OnlyM.refl _ _
    · refine OnlyM.comp (writeAct_only _ _ _ _ _ _) (by rfl) ?_
      exact OnlyM.refl _ _

theorem objectWrite_only : ∀ x0 x1 x2 x3, OnlyM 4493119672025073 x0 (objectWrite x0 x1 x2 x3) := by
  intro x0 x1 x2 x3
  unfold objectWrite
  refine OnlyM.ite ?_ ?_
  · refine OnlyM.comp (settle_only _ _ _ _) (by rfl) ?_
    refine OnlyM.comp (writeField_only _ _ _ _ _ _) (by rfl) ?_
    exact OnlyM.refl _ _
  · refine OnlyM.ite ?_ ?_
    · refine OnlyM.comp (settle_only _ _ _ _) (by rfl) ?_
      refine OnlyM.comp (writeField_only _ _ _ _ _ _) (by rfl) ?_
      exact OnlyM.refl _ _
    · exact OnlyM.refl _ _

theorem execAdcSoftwareStart_only : ∀ x0 x1 x2, OutOnly 4493119672025073 x2 (execAdcSoftwareStart x0 x1 x2) := by
  intro x0 x1 x2
  unfold execAdcSoftwareStart
  refine OutOnly.next ?_
  refine OnlyM.comp (objectWrite_only _ _ _ _) (by rfl) ?_
  exact OnlyM.refl _ _

theorem execAerWord_only : ∀ x0 x1, OutOnly 8796093022400 x1 (execAerWord x0 x1) := by
  intro x0 x1
  unfold execAerWord
  refine OutOnly.next ?_
  refine OnlyM.ite ?_ ?_
  · refine OnlyM.comp (eventWord_only _ _) (by rfl) ?_
    refine OnlyM.comp (aerAck_only _) (by rfl) ?_
    exact OnlyM.refl _ _
  · refine OnlyM.comp (upd_lan _ _) (by rfl) ?_
    exact OnlyM.refl _ _

theorem execAlRequestBoot_only : ∀ x0, OutOnly 387037769236672 x0 (execAlRequestBoot x0) := by
  intro x0
  unfold execAlRequestBoot
  refine OutOnly.next ?_
  refine OnlyM.ite ?_ ?_
  · refine OnlyM.comp (alRequest_only _ _) (by rfl) ?_
    exact OnlyM.refl _ _
  · exact OnlyM.refl _ _

theorem execAlRequestInit_only : ∀ x0, OutOnly 2218848589430001 x0 (execAlRequestInit x0) := by
  intro x0
  unfold execAlRequestInit
  refine OutOnly.next ?_
  refine OnlyM.ite ?_ ?_
  · exact OnlyM.refl _ _
  · refine OnlyM.ite ?_ ?_
    · refine OnlyM.comp (fieldReset_only _ _) (by rfl) ?_
      exact OnlyM.refl _ _
    · refine OnlyM.comp (alRequest_only _ _) (by rfl) ?_
      exact OnlyM.refl _ _

end Sys2Proof.Laws
end

