-- ==== Sys2Proof/Laws/FramesD.lean ====
section
/-! SUPPORT. What each shared operation and each meaning can change, part 4: one frame per definition, each from the
frames of what it calls. -/

namespace Sys2Proof.Laws

open Machine

theorem execAlRequestOp_only : ∀ x0, OutOnly 387037769236672 x0 (execAlRequestOp x0) := by
  intro x0
  unfold execAlRequestOp
  refine OutOnly.next ?_
  refine OnlyM.ite ?_ ?_
  · refine OnlyM.comp (alRequest_only _ _) (by rfl) ?_
    exact OnlyM.refl _ _
  · exact OnlyM.refl _ _

theorem execAlRequestPreop_only : ∀ x0, OutOnly 387037769236672 x0 (execAlRequestPreop x0) := by
  intro x0
  unfold execAlRequestPreop
  refine OutOnly.next ?_
  refine OnlyM.ite ?_ ?_
  · refine OnlyM.comp (alRequest_only _ _) (by rfl) ?_
    exact OnlyM.refl _ _
  · exact OnlyM.refl _ _

theorem execAlRequestSafeop_only : ∀ x0, OutOnly 387037769236672 x0 (execAlRequestSafeop x0) := by
  intro x0
  unfold execAlRequestSafeop
  refine OutOnly.next ?_
  refine OnlyM.ite ?_ ?_
  · refine OnlyM.comp (alRequest_only _ _) (by rfl) ?_
    exact OnlyM.refl _ _
  · exact OnlyM.refl _ _

theorem execAliasPush_only : ∀ x0, OutOnly 8589934592 x0 (execAliasPush x0) := by
  intro x0
  unfold execAliasPush
  refine OutOnly.next ?_
  refine OnlyM.ite ?_ ?_
  · refine OnlyM.comp (upd_bus _ _) (by rfl) ?_
    exact OnlyM.refl _ _
  · exact OnlyM.refl _ _

theorem execAliasWrite_only : ∀ x0 x1 x2, OutOnly 8589934594 x2 (execAliasWrite x0 x1 x2) := by
  intro x0 x1 x2
  unfold execAliasWrite
  refine OutOnly.next ?_
  refine OnlyM.ite ?_ ?_
  · exact OnlyM.refl _ _
  · refine OnlyM.ite ?_ ?_
    · refine OnlyM.comp (upd_bus _ _) (by rfl) ?_
      exact OnlyM.refl _ _
    · refine OnlyM.comp (upd_hboot_bus _ _ _) (by rfl) ?_
      exact OnlyM.refl _ _

theorem hostAsk_only : ∀ x0 x1, OnlyM 2 x0 (hostAsk x0 x1) := by
  intro x0 x1
  unfold hostAsk
  refine OnlyM.ite ?_ ?_
  · refine OnlyM.comp (upd_hboot _ _) (by rfl) ?_
    exact OnlyM.refl _ _
  · exact OnlyM.refl _ _

theorem execAliveExpiry_only : ∀ x0, OutOnly 2 x0 (execAliveExpiry x0) := by
  intro x0
  unfold execAliveExpiry
  refine OutOnly.next ?_
  refine OnlyM.ite ?_ ?_
  · refine OnlyM.comp (hostAsk_only _ _) (by rfl) ?_
    exact OnlyM.refl _ _
  · exact OnlyM.refl _ _

theorem setNeuron_only : ∀ x0 x1 x2 x3, OnlyM 8796093022208 x0 (setNeuron x0 x1 x2 x3) := by
  intro x0 x1 x2 x3
  unfold setNeuron
  refine OnlyM.comp (upd_lan _ _) (by rfl) ?_
  exact OnlyM.refl _ _

theorem restartPop_only : ∀ x0 x1, OnlyM 8796093022208 x0 (restartPop x0 x1) := by
  intro x0 x1
  unfold restartPop
  lift_lets
  intro y0
  clear_value y0
  refine OnlyM.foldl ?_ (fun _ _ _ => ?_)
  · exact OnlyM.refl _ _
  · refine OnlyM.comp (setNeuron_only _ _ _ _) (by rfl) ?_
    assumption

theorem lanternApply_only : ∀ x0 x1 x2, OnlyM 8796093022208 x1 (lanternApply x0 x1 x2) := by
  intro x0 x1 x2
  unfold lanternApply
  lift_lets
  intro y0
  clear_value y0
  intro y1
  refine OnlyM.useHave (show OnlyM 8796093022208 x1 y1 from ?_) (fun hy1 => ?_)
  · unfold y1
    refine OnlyM.ite ?_ ?_
    · refine OnlyM.comp (upd_lan _ _) (by rfl) ?_
      exact OnlyM.refl _ _
    · exact OnlyM.refl _ _
  clear_value y1
  intro y2
  clear_value y2
  intro y3
  refine OnlyM.useHave (show OnlyM 8796093022208 x1 y3 from ?_) (fun hy3 => ?_)
  · unfold y3
    refine OnlyM.ite ?_ ?_
    · refine OnlyM.comp (upd_lan _ _) (by rfl) ?_
      assumption
    · assumption
  clear_value y3
  intro y4
  refine OnlyM.useHave (show OnlyM 8796093022208 x1 y4 from ?_) (fun hy4 => ?_)
  · unfold y4
    refine OnlyM.foldl ?_ (fun _ _ _ => ?_)
    · assumption
    · lift_lets
      intro y5
      clear_value y5
      intro y6
      clear_value y6
      refine OnlyM.ite ?_ ?_
      · assumption
      · refine OnlyM.comp (restartPop_only _ _) (by rfl) ?_
        assumption
  clear_value y4
  intro y7
  clear_value y7
  refine OnlyM.comp (upd_lan _ _) (by rfl) ?_
  assumption

theorem rebind_only : ∀ x0, OnlyM 2199023255552 x0 (rebind x0) := by
  intro x0
  unfold rebind
  refine OnlyM.foldl ?_ (fun _ _ _ => ?_)
  · exact OnlyM.refl _ _
  · lift_lets
    intro y0
    clear_value y0
    refine OnlyM.ite ?_ ?_
    · refine OnlyM.ite ?_ ?_
      · refine OnlyM.comp (setSlot_only _ _ _) (by rfl) ?_
        assumption
      · assumption
    · refine OnlyM.ite ?_ ?_
      · refine OnlyM.comp (setSlot_only _ _ _) (by rfl) ?_
        assumption
      · assumption

theorem switchWindows_only : ∀ x0, OnlyM 17179869184 x0 (switchWindows x0) := by
  intro x0
  unfold switchWindows
  lift_lets
  intro y0
  clear_value y0
  intro y1
  clear_value y1
  intro y2
  clear_value y2
  refine OnlyM.comp (upd_mem _ _) (by rfl) ?_
  exact OnlyM.refl _ _

theorem hostSettle_only : ∀ x0 x1 x2, OnlyM 2843354261882048 x1 (hostSettle x0 x1 x2) := by
  intro x0 x1 x2
  unfold hostSettle
  lift_lets
  intro y0
  intro y1
  refine OnlyM.useHave (show OnlyM 2843354261882048 x1 y1 from ?_) (fun hy1 => ?_)
  · unfold y1
    refine OnlyM.ite ?_ ?_
    · refine OnlyM.comp (rebind_only _) (by rfl) ?_
      exact OnlyM.refl _ _
    · exact OnlyM.refl _ _
  clear_value y1
  intro y2
  refine OnlyM.useHave (show OnlyM 2843354261882048 x1 y2 from ?_) (fun hy2 => ?_)
  · unfold y2
    refine OnlyM.ite ?_ ?_
    · refine OnlyM.comp (clearMoved_only _ _) (by rfl) ?_
      assumption
    · assumption
  clear_value y2
  intro y3
  refine OnlyM.useHave (show OnlyM 2843354261882048 x1 y3 from ?_) (fun hy3 => ?_)
  · unfold y3
    refine OnlyM.ite ?_ ?_
    · refine OnlyM.comp (switchWindows_only _) (by rfl) ?_
      assumption
    · assumption
  clear_value y3
  intro y4
  refine OnlyM.useHave (show OnlyM 2843354261882048 x1 y4 from ?_) (fun hy4 => ?_)
  · unfold y4
    refine OnlyM.ite ?_ ?_
    · refine OnlyM.comp (lanternApply_only _ _ _) (by rfl) ?_
      assumption
    · assumption
  clear_value y4
  intro y5
  clear_value y5
  intro y6
  refine OnlyM.useHave (show OnlyM 2843354261882048 x1 y6 from ?_) (fun hy6 => ?_)
  · unfold y6
    refine OnlyM.ite ?_ ?_
    · refine OnlyM.comp (upd_pwr _ _) (by rfl) ?_
      assumption
    · assumption
  clear_value y6
  refine OnlyM.ite ?_ ?_
  · refine OnlyM.comp (powerWrite_only _ _) (by rfl) ?_
    refine OnlyM.comp (putObj_only _ _ _ _) (by rfl) ?_
    assumption
  · assumption

theorem judgeHost_only : ∀ x0, OnlyM 1520023300545776 x0 (judgeHost x0) := by
  intro x0
  unfold judgeHost
  refine OnlyM.foldl ?_ (fun _ _ _ => ?_)
  · exact OnlyM.refl _ _
  · lift_lets
    intro y0
    clear_value y0
    refine OnlyM.comp (judgeArmed_only _ _ _) (by rfl) ?_
    refine OnlyM.ite ?_ ?_
    · refine OnlyM.comp (setEntry_only _ _ _ _) (by rfl) ?_
      assumption
    · assumption

theorem installEntry_only : ∀ x0 x1 x2 x3, OnlyM 1520023300545776 x0 (installEntry x0 x1 x2 x3) := by
  intro x0 x1 x2 x3
  unfold installEntry
  lift_lets
  intro y0
  clear_value y0
  intro y1
  refine OnlyM.useHave (show OnlyM 1520023300545776 x0 y1 from ?_) (fun hy1 => ?_)
  · unfold y1
    refine OnlyM.comp (upd_replica _ _) (by rfl) ?_
    exact OnlyM.refl _ _
  clear_value y1
  intro y2
  refine OnlyM.useHave (show OnlyM 1520023300545776 x0 y2 from ?_) (fun hy2 => ?_)
  · unfold y2
    refine OnlyM.comp (judgeArmed_only _ _ _) (by rfl) ?_
    assumption
  clear_value y2
  intro y3
  clear_value y3
  intro y4
  refine OnlyM.useHave (show OnlyM 1520023300545776 x0 y4 from ?_) (fun hy4 => ?_)
  · unfold y4
    refine OnlyM.comp (upd_replica _ _) (by rfl) ?_
    assumption
  clear_value y4
  intro y5
  clear_value y5
  refine OnlyM.ite ?_ ?_
  · refine OnlyM.ite ?_ ?_
    · refine OnlyM.comp (upd_replica _ _) (by rfl) ?_
      assumption
    · refine OnlyM.comp (judgeHost_only _) (by rfl) ?_
      assumption
  · assumption

theorem hostSwitch_only : ∀ x0 x1 x2, OnlyM 4361161346981104 x0 (hostSwitch x0 x1 x2) := by
  intro x0 x1 x2
  unfold hostSwitch
  lift_lets
  intro y0
  clear_value y0
  intro y1
  refine OnlyM.useHave (show OnlyM 4361161346981104 x0 y1 from ?_) (fun hy1 => ?_)
  · unfold y1
    exact OnlyM.refl _ _
  clear_value y1
  intro y2
  refine OnlyM.useHave (show OnlyM 4361161346981104 x0 y2 from ?_) (fun hy2 => ?_)
  · unfold y2
    refine OnlyM.foldl ?_ (fun _ _ _ => ?_)
    · exact OnlyM.refl _ _
    · refine OnlyM.comp (putObj_only _ _ _ _) (by rfl) ?_
      assumption
  clear_value y2
  intro y3
  refine OnlyM.useHave (show OnlyM 4361161346981104 x0 y3 from ?_) (fun hy3 => ?_)
  · unfold y3
    refine OnlyM.comp (hostSettle_only _ _ _) (by rfl) ?_
    assumption
  clear_value y3
  intro y4
  refine OnlyM.useHave (show OnlyM 4361161346981104 x0 y4 from ?_) (fun hy4 => ?_)
  · unfold y4
    refine OnlyM.foldl ?_ (fun _ _ _ => ?_)
    · assumption
    · refine OnlyM.comp (upd_hclk _ _) (by rfl) ?_
      assumption
  clear_value y4
  refine OnlyM.foldl ?_ (fun _ _ _ => ?_)
  · assumption
  · lift_lets
    intro y5
    clear_value y5
    refine OnlyM.comp (installEntry_only _ _ _ _) (by rfl) ?_
    assumption

theorem hostApplySet_only : ∀ x0 x1 x2, OnlyM 4361162420722928 x0 (hostApplySet x0 x1 x2) := by
  intro x0 x1 x2
  unfold hostApplySet
  lift_lets
  intro y0
  clear_value y0
  split
  · dsimp -proj only
    split
    · exact OnlyM.refl _ _
    · refine OnlyM.comp (bump_only _ _ _ _) (by rfl) ?_
      refine OnlyM.comp (setStg_only _ _ _) (by rfl) ?_
      refine OnlyM.comp (hostSwitch_only _ _ _) (by rfl) ?_
      exact OnlyM.refl _ _
  · dsimp -proj only
    split
    · exact OnlyM.refl _ _
    · refine OnlyM.comp (setStg_only _ _ _) (by rfl) ?_
      refine OnlyM.comp (hostSwitch_only _ _ _) (by rfl) ?_
      exact OnlyM.refl _ _

theorem takeIn_of {x0 : State} {x1 : Die} {x2 : Frame → Bool} {f : Frame} {t : State} (h : takeIn x0 x1 x2 = some (f, t)) : OnlyM 12582912 x0 t :=
  by
  unfold takeIn at h
  split at h
  · cases h
    exact OnlyM.comp (dispatched_only _ _ _) (by rfl) ((setEnd_only _ _ _).mono (by rfl))
  · cases h

theorem execApplyConfirmation_only : ∀ x0 x1, OutOnly 4361162420722928 x1 (execApplyConfirmation x0 x1) := by
  intro x0 x1
  unfold execApplyConfirmation
  refine OutOnly.next ?_
  split
  · refine OnlyM.ite ?_ ?_
    · exact OnlyM.refl _ _
    · split
      · refine OnlyM.ite ?_ ?_
        · refine OnlyM.comp (hostApplySet_only _ _ _) (by rfl) ?_
          exact OnlyM.mono (takeIn_of (by assumption)) (by rfl)
        · exact OnlyM.mono (takeIn_of (by assumption)) (by rfl)
      · exact OnlyM.mono (takeIn_of (by assumption)) (by rfl)
  · exact OnlyM.refl _ _

theorem execApplyInstant_only : ∀ x0 x1, OutOnly 4352381360012528 x1 (execApplyInstant x0 x1) := by
  intro x0 x1
  unfold execApplyInstant
  refine OutOnly.next ?_
  refine OnlyM.ite ?_ ?_
  · refine OnlyM.comp (applyDue_only _ _) (by rfl) ?_
    refine OnlyM.foldl ?_ (fun _ _ _ => ?_)
    · exact OnlyM.refl _ _
    · refine OnlyM.ite ?_ ?_
      · refine OnlyM.comp (applyDue_only _ _) (by rfl) ?_
        assumption
      · assumption
  · exact OnlyM.refl _ _

theorem execArmConfirmTimeout_only : ∀ x0 x1, OutOnly 9676259328 x1 (execArmConfirmTimeout x0 x1) := by
  intro x0 x1
  unfold execArmConfirmTimeout
  refine OutOnly.next ?_
  lift_lets
  intro y0
  clear_value y0
  refine OnlyM.ite ?_ ?_
  · refine OnlyM.comp (setAnswer_only _ _ _) (by rfl) ?_
    refine OnlyM.comp (setStg_only _ _ _) (by rfl) ?_
    exact OnlyM.refl _ _
  · exact OnlyM.refl _ _

theorem execAuxCommand_only : ∀ x0 x1 x2 x3, OutOnly 1024 x3 (execAuxCommand x0 x1 x2 x3) := by
  intro x0 x1 x2 x3
  unfold execAuxCommand
  refine OutOnly.next ?_
  refine OnlyM.ite ?_ ?_
  · exact OnlyM.refl _ _
  · lift_lets
    intro y0
    clear_value y0
    intro y1
    clear_value y1
    intro y2
    refine OnlyM.useHave (show OnlyM 1024 x3 y2 from ?_) (fun hy2 => ?_)
    · unfold y2
      refine OnlyM.comp (setReg_only _ _ _) (by rfl) ?_
      exact OnlyM.refl _ _
    clear_value y2
    refine OnlyM.ite ?_ ?_
    · refine OnlyM.foldl ?_ (fun _ _ _ => ?_)
      · assumption
      · lift_lets
        intro y3
        clear_value y3
        refine OnlyM.comp (setReg_only _ _ _) (by rfl) ?_
        assumption
    · assumption

theorem execAxisCommandDwellEnd_only : ∀ x0 x1, OutOnly 70368744177664 x1 (execAxisCommandDwellEnd x0 x1) := by
  intro x0 x1
  unfold execAxisCommandDwellEnd
  lift_lets
  intro y0
  clear_value y0
  intro y1
  clear_value y1
  refine OutOnly.next ?_
  split
  · refine OnlyM.ite ?_ ?_
    · refine OnlyM.comp (setCe_only _ _ _) (by rfl) ?_
      exact OnlyM.refl _ _
    · exact OnlyM.refl _ _
  · exact OnlyM.refl _ _

theorem execAxisCommandFlush_only : ∀ x0 x1 x2, OutOnly 4493119672025073 x2 (execAxisCommandFlush x0 x1 x2) := by
  intro x0 x1 x2
  unfold execAxisCommandFlush
  refine OutOnly.next ?_
  refine OnlyM.comp (objectWrite_only _ _ _ _) (by rfl) ?_
  exact OnlyM.refl _ _

theorem execAxisEncoderEdge_only : ∀ x0 x1 x2 x3 x4 x5 x6 x7, OutOnly 105561706201280 x7 (execAxisEncoderEdge x0 x1 x2 x3 x4 x5 x6 x7) := by
  intro x0 x1 x2 x3 x4 x5 x6 x7
  unfold execAxisEncoderEdge
  lift_lets
  intro y0
  clear_value y0
  intro y1
  clear_value y1
  intro y2
  clear_value y2
  intro y3
  clear_value y3
  intro y4
  refine OnlyM.useHave (show OnlyM 105561706201280 x7 y4 from ?_) (fun hy4 => ?_)
  · unfold y4
    refine OnlyM.comp (axisEdge_only _ _ _ _) (by rfl) ?_
    exact OnlyM.refl _ _
  clear_value y4
  intro y5
  clear_value y5
  intro y6
  refine OnlyM.useHave (show OnlyM 105561706201280 x7 y6 from ?_) (fun hy6 => ?_)
  · unfold y6
    refine OnlyM.comp (setAx_only _ _ _) (by rfl) ?_
    assumption
  clear_value y6
  refine OutOnly.next ?_
  refine OnlyM.ite ?_ ?_
  · exact OnlyM.refl _ _
  · refine OnlyM.ite ?_ ?_
    · refine OnlyM.comp (axisIndex_only _ _) (by rfl) ?_
      assumption
    · assumption

theorem execAxisEncoderLineBreak_only : ∀ x0 x1, OutOnly 35192962023616 x1 (execAxisEncoderLineBreak x0 x1) := by
  intro x0 x1
  unfold execAxisEncoderLineBreak
  lift_lets
  intro y0
  clear_value y0
  refine OutOnly.next ?_
  refine OnlyM.ite ?_ ?_
  · refine OnlyM.comp (encFault_only _ _) (by rfl) ?_
    refine OnlyM.comp (encPublish_only _ _) (by rfl) ?_
    refine OnlyM.comp (bump_only _ _ _ _) (by rfl) ?_
    refine OnlyM.comp (setAx_only _ _ _) (by rfl) ?_
    exact OnlyM.refl _ _
  · exact OnlyM.refl _ _

theorem execAxisPass_only : ∀ x0 x1, OutOnly 527774183850176 x1 (execAxisPass x0 x1) := by
  intro x0 x1
  unfold execAxisPass
  lift_lets
  intro y0
  clear_value y0
  intro y1
  clear_value y1
  intro y2
  refine OnlyM.useHave (show OnlyM 527774183850176 x1 y2 from ?_) (fun hy2 => ?_)
  · unfold y2
    refine OnlyM.comp (upd_eng _ _) (by rfl) ?_
    exact OnlyM.refl _ _
  clear_value y2
  intro y3
  refine OnlyM.useHave (show OnlyM 527774183850176 x1 y3 from ?_) (fun hy3 => ?_)
  · unfold y3
    refine OnlyM.comp (axisPass_only _ _) (by rfl) ?_
    assumption
  clear_value y3
  refine OutOnly.next ?_
  refine OnlyM.ite ?_ ?_
  · exact OnlyM.refl _ _
  · refine OnlyM.ite ?_ ?_
    · refine OnlyM.comp (cycleEnd_only _) (by rfl) ?_
      assumption
    · assumption

theorem execBandwidthPeriod_only : ∀ x0, OutOnly 17179869184 x0 (execBandwidthPeriod x0) := by
  intro x0
  unfold execBandwidthPeriod
  refine OutOnly.next ?_
  refine OnlyM.comp (upd_mem _ _) (by rfl) ?_
  exact OnlyM.refl _ _

theorem execBankClearDone_only : ∀ x0 x1, OutOnly 2199023255552 x1 (execBankClearDone x0 x1) := by
  intro x0 x1
  unfold execBankClearDone
  lift_lets
  intro y0
  clear_value y0
  intro y1
  clear_value y1
  refine OutOnly.next ?_
  refine OnlyM.ite ?_ ?_
  · refine OnlyM.comp (upd_gal _ _) (by rfl) ?_
    exact OnlyM.refl _ _
  · exact OnlyM.refl _ _

theorem execBissFrameEnd_only : ∀ x0 x1 x2 x3 x4 x5 x6, OutOnly 387036695494848 x6 (execBissFrameEnd x0 x1 x2 x3 x4 x5 x6) := by
  intro x0 x1 x2 x3 x4 x5 x6
  unfold execBissFrameEnd
  lift_lets
  intro y0
  clear_value y0
  intro y1
  clear_value y1
  intro y2
  clear_value y2
  intro y3
  clear_value y3
  intro y4
  clear_value y4
  intro y5
  clear_value y5
  intro y6
  intro y7
  clear_value y7
  intro y8
  refine OnlyM.useHave (show OnlyM 387036695494848 x6 y8 from ?_) (fun hy8 => ?_)
  · unfold y8
    refine OnlyM.comp (putN_only _ _ _ _) (by rfl) ?_
    refine OnlyM.comp (setAx_only _ _ _) (by rfl) ?_
    exact OnlyM.refl _ _
  clear_value y8
  refine OutOnly.next ?_
  refine OnlyM.ite ?_ ?_
  · exact OnlyM.refl _ _
  · refine OnlyM.ite ?_ ?_
    · refine OnlyM.comp (goodCapture_only _ _ _) (by rfl) ?_
      refine OnlyM.comp (setAx_only _ _ _) (by rfl) ?_
      assumption
    · refine OnlyM.comp (absFault_only _ _ _) (by rfl) ?_
      assumption

theorem execBootLimitExpiry_only : ∀ x0, OutOnly 2 x0 (execBootLimitExpiry x0) := by
  intro x0
  unfold execBootLimitExpiry
  refine OutOnly.next ?_
  refine OnlyM.ite ?_ ?_
  · refine OnlyM.comp (hostAsk_only _ _) (by rfl) ?_
    exact OnlyM.refl _ _
  · exact OnlyM.refl _ _

theorem execCavernInitDone_only : ∀ x0, OutOnly 2199023255552 x0 (execCavernInitDone x0) := by
  intro x0
  unfold execCavernInitDone
  refine OutOnly.next ?_
  refine OnlyM.ite ?_ ?_
  · refine OnlyM.comp (upd_gal _ _) (by rfl) ?_
    exact OnlyM.refl _ _
  · exact OnlyM.refl _ _

theorem execCavernScrub_only : ∀ x0 x1 x2 x3, OutOnly 2199023255744 x3 (execCavernScrub x0 x1 x2 x3) := by
  intro x0 x1 x2 x3
  unfold execCavernScrub
  refine OutOnly.next ?_
  refine OnlyM.ite ?_ ?_
  · exact OnlyM.refl _ _
  · split
    · exact OnlyM.refl _ _
    · refine OnlyM.comp (galEcc_only _ _) (by rfl) ?_
      exact OnlyM.refl _ _
    · refine OnlyM.comp (cavernPoison_only _ _ _) (by rfl) ?_
      exact OnlyM.refl _ _

theorem portRecord_only : ∀ x0 x1, OnlyM 1407392076006592 x0 (portRecord x0 x1) := by
  intro x0 x1
  unfold portRecord
  lift_lets
  intro y0
  refine OnlyM.ite ?_ ?_
  · refine OnlyM.comp (d2hEvent_only _ _) (by rfl) ?_
    exact OnlyM.refl _ _
  · refine OnlyM.ite ?_ ?_
    · refine OnlyM.comp (d2hRecord_only _ _) (by rfl) ?_
      exact OnlyM.refl _ _
    · exact OnlyM.refl _ _

theorem execClass2RecordReceive_only : ∀ x0, OutOnly 1407392076006592 x0 (execClass2RecordReceive x0) := by
  intro x0
  unfold execClass2RecordReceive
  refine OutOnly.next ?_
  split
  · refine OnlyM.ite ?_ ?_
    · refine OnlyM.comp (portRecord_only _ _) (by rfl) ?_
      exact OnlyM.mono (takeIn_of (by assumption)) (by rfl)
    · exact OnlyM.refl _ _
  · exact OnlyM.refl _ _

theorem placeResult_only : ∀ x0 x1 x2 x3, OnlyM 8589934784 x0 (placeResult x0 x1 x2 x3) := by
  intro x0 x1 x2 x3
  unfold placeResult
  lift_lets
  intro y0
  clear_value y0
  intro y1
  clear_value y1
  intro y2
  clear_value y2
  refine OnlyM.comp (sm3Refresh_only _) (by rfl) ?_
  refine OnlyM.comp (putObj_only _ _ _ _) (by rfl) ?_
  exact OnlyM.refl _ _

theorem execClass5Result_only : ∀ x0, OutOnly 281483579228352 x0 (execClass5Result x0) := by
  intro x0
  unfold execClass5Result
  refine OutOnly.next ?_
  split
  · lift_lets
    intro y0
    clear_value y0
    refine OnlyM.ite ?_ ?_
    · refine OnlyM.comp (placeResult_only _ _ _ _) (by rfl) ?_
      refine OnlyM.comp (ageCount_only _ _) (by rfl) ?_
      exact OnlyM.mono (takeIn_of (by assumption)) (by rfl)
    · exact OnlyM.refl _ _
  · exact OnlyM.refl _ _

theorem execClearLatches_only : ∀ x0 x1 x2, OutOnly 4493119672025073 x2 (execClearLatches x0 x1 x2) := by
  intro x0 x1 x2
  unfold execClearLatches
  refine OutOnly.next ?_
  refine OnlyM.comp (objectWrite_only _ _ _ _) (by rfl) ?_
  exact OnlyM.refl _ _

theorem fieldClockLoss_only : ∀ x0, OnlyM 387036695625920 x0 (fieldClockLoss x0) := by
  intro x0
  unfold fieldClockLoss
  lift_lets
  intro y0
  clear_value y0
  intro y1
  clear_value y1
  refine OnlyM.ite ?_ ?_
  · exact OnlyM.refl _ _
  · split
    · refine OnlyM.comp (setFclk_only _ _) (by rfl) ?_
      exact OnlyM.refl _ _
    · refine OnlyM.comp (upd_fclk _ _) (by rfl) ?_
      exact OnlyM.refl _ _
    · refine OnlyM.comp (upd_fclk _ _) (by rfl) ?_
      exact OnlyM.refl _ _

theorem setHclk_only : ∀ x0 x1, OnlyM 1407392076268736 x0 (setHclk x0 x1) := by
  intro x0 x1
  unfold setHclk
  lift_lets
  intro y0
  clear_value y0
  intro y1
  clear_value y1
  intro y2
  clear_value y2
  intro y3
  refine OnlyM.useHave (show OnlyM 1407392076268736 x0 y3 from ?_) (fun hy3 => ?_)
  · unfold y3
    refine OnlyM.comp (upd_hclk _ _) (by rfl) ?_
    exact OnlyM.refl _ _
  clear_value y3
  intro y4
  refine OnlyM.useHave (show OnlyM 1407392076268736 x0 y4 from ?_) (fun hy4 => ?_)
  · unfold y4
    refine OnlyM.ite ?_ ?_
    · assumption
    · refine OnlyM.comp (clockNoticeHost_only _ _) (by rfl) ?_
      assumption
  clear_value y4
  refine OnlyM.ite ?_ ?_
  · assumption
  · refine OnlyM.ite ?_ ?_
    · refine OnlyM.comp (hostIrq_only _ _) (by rfl) ?_
      refine OnlyM.comp (logHost_only _ _) (by rfl) ?_
      assumption
    · refine OnlyM.ite ?_ ?_
      · refine OnlyM.comp (hostIrq_only _ _) (by rfl) ?_
        refine OnlyM.comp (logHost_only _ _) (by rfl) ?_
        assumption
      · assumption

theorem hostClockLoss_only : ∀ x0, OnlyM 1407392076268736 x0 (hostClockLoss x0) := by
  intro x0
  unfold hostClockLoss
  lift_lets
  intro y0
  clear_value y0
  intro y1
  clear_value y1
  split
  · refine OnlyM.comp (setHclk_only _ _) (by rfl) ?_
    exact OnlyM.refl _ _
  · refine OnlyM.comp (upd_hclk _ _) (by rfl) ?_
    exact OnlyM.refl _ _
  · refine OnlyM.comp (upd_hclk _ _) (by rfl) ?_
    exact OnlyM.refl _ _

theorem execClockLossTimeout_only : ∀ x0 x1, OutOnly 1512953782600896 x1 (execClockLossTimeout x0 x1) := by
  intro x0 x1
  unfold execClockLossTimeout
  refine OutOnly.next ?_
  split
  · refine OnlyM.ite ?_ ?_
    · refine OnlyM.comp (fieldClockLoss_only _) (by rfl) ?_
      exact OnlyM.refl _ _
    · exact OnlyM.refl _ _
  · refine OnlyM.ite ?_ ?_
    · refine OnlyM.comp (hostClockLoss_only _) (by rfl) ?_
      exact OnlyM.refl _ _
    · exact OnlyM.refl _ _

theorem execCommitFieldTrial_only : ∀ x0 x1, OutOnly 8589934593 x1 (execCommitFieldTrial x0 x1) := by
  intro x0 x1
  unfold execCommitFieldTrial
  refine OutOnly.next ?_
  refine OnlyM.ite ?_ ?_
  · lift_lets
    intro y0
    clear_value y0
    refine OnlyM.comp (sdoAnswer_only _ _ _ _ _) (by rfl) ?_
    refine OnlyM.comp (upd_fboot _ _) (by rfl) ?_
    exact OnlyM.refl _ _
  · exact OnlyM.refl _ _

theorem execCommitHostTrial_only : ∀ x0 x1, OutOnly 8589934594 x1 (execCommitHostTrial x0 x1) := by
  intro x0 x1
  unfold execCommitHostTrial
  refine OutOnly.next ?_
  refine OnlyM.ite ?_ ?_
  · lift_lets
    intro y0
    clear_value y0
    refine OnlyM.comp (sdoAnswer_only _ _ _ _ _) (by rfl) ?_
    refine OnlyM.comp (upd_hboot _ _) (by rfl) ?_
    exact OnlyM.refl _ _
  · exact OnlyM.refl _ _

theorem wbRecord_only : ∀ x0 x1, OnlyM 1424984262051008 x0 (wbRecord x0 x1) := by
  intro x0 x1
  unfold wbRecord
  lift_lets
  intro y0
  clear_value y0
  intro y1
  clear_value y1
  intro y2
  clear_value y2
  intro y3
  clear_value y3
  intro y4
  clear_value y4
  intro y5
  clear_value y5
  intro y6
  refine OnlyM.useHave (show OnlyM 1424984262051008 x0 y6 from ?_) (fun hy6 => ?_)
  · unfold y6
    refine OnlyM.comp (upd_comp _ _) (by rfl) ?_
    exact OnlyM.refl _ _
  clear_value y6
  intro y7
  refine OnlyM.useHave (show OnlyM 1424984262051008 x0 y7 from ?_) (fun hy7 => ?_)
  · unfold y7
    refine OnlyM.ite ?_ ?_
    · refine OnlyM.comp (setReg_only _ _ _) (by rfl) ?_
      refine OnlyM.comp (engStore_only _ _ _ _) (by rfl) ?_
      assumption
    · assumption
  clear_value y7
  intro y8
  refine OnlyM.useHave (show OnlyM 1424984262051008 x0 y8 from ?_) (fun hy8 => ?_)
  · unfold y8
    refine OnlyM.ite ?_ ?_
    · refine OnlyM.comp (hostIrq_only _ _) (by rfl) ?_
      assumption
    · assumption
  clear_value y8
  refine OnlyM.comp (compIrq_only _ _) (by rfl) ?_
  assumption

theorem wbDrop_only : ∀ x0 x1, OnlyM 1424984262051008 x0 (wbDrop x0 x1) := by
  intro x0 x1
  unfold wbDrop
  refine OnlyM.comp (wbRecord_only _ _) (by rfl) ?_
  refine OnlyM.comp (bump_only _ _ _ _) (by rfl) ?_
  exact OnlyM.refl _ _

theorem wbStart_only : ∀ x0, OnlyM 1424984262051008 x0 (wbStart x0) := by
  intro x0
  unfold wbStart
  refine OnlyM.ite ?_ ?_
  · exact OnlyM.refl _ _
  · lift_lets
    intro y0
    clear_value y0
    intro y1
    clear_value y1
    intro y2
    clear_value y2
    refine OnlyM.ite ?_ ?_
    · refine OnlyM.comp (upd_comp _ _) (by rfl) ?_
      exact OnlyM.refl _ _
    · refine OnlyM.comp (wbDrop_only _ _) (by rfl) ?_
      exact OnlyM.refl _ _

theorem execCompFrameStart_only : ∀ x0, OutOnly 1424984262051008 x0 (execCompFrameStart x0) := by
  intro x0
  unfold execCompFrameStart
  refine OutOnly.next ?_
  refine OnlyM.ite ?_ ?_
  · exact OnlyM.refl _ _
  · lift_lets
    intro y0
    clear_value y0
    intro y1
    clear_value y1
    intro y2
    refine OnlyM.useHave (show OnlyM 1424984262051008 x0 y2 from ?_) (fun hy2 => ?_)
    · unfold y2
      refine OnlyM.comp (upd_comp _ _) (by rfl) ?_
      exact OnlyM.refl _ _
    clear_value y2
    intro y3
    refine OnlyM.useHave (show OnlyM 1424984262051008 x0 y3 from ?_) (fun hy3 => ?_)
    · unfold y3
      refine OnlyM.comp (bump_only _ _ _ _) (by rfl) ?_
      refine OnlyM.comp (bump_only _ _ _ _) (by rfl) ?_
      assumption
    clear_value y3
    refine OnlyM.comp (wbStart_only _) (by rfl) ?_
    refine OnlyM.comp (compIrq_only _ _) (by rfl) ?_
    assumption

theorem execCompLayerAddrWrite_only : ∀ x0 x1 x2, OutOnly 1024 x2 (execCompLayerAddrWrite x0 x1 x2) := by
  intro x0 x1 x2
  unfold execCompLayerAddrWrite
  refine OutOnly.next ?_
  refine OnlyM.ite ?_ ?_
  · refine OnlyM.comp (setReg_only _ _ _) (by rfl) ?_
    exact OnlyM.refl _ _
  · exact OnlyM.refl _ _

theorem fetchLine_only : ∀ x0 x1, OnlyM 281492169162944 x0 (fetchLine x0 x1).1 := by
  intro x0 x1
  unfold fetchLine
  refine OnlyM.foldl1 ?_ (fun _ _ _ => ?_)
  · refine OnlyM.pair ?_
    exact OnlyM.refl _ _
  · lift_lets
    intro y0
    refine OnlyM.useHave (show OnlyM 281492169162944 x0 y0.1 from ?_) (fun hy0 => ?_)
    · unfold y0
      refine OnlyM.comp (engLoad_only _ _ _ _) (by rfl) ?_
      refine OnlyM.comp (countLine_only _ _ _) (by rfl) ?_
      assumption
    clear_value y0
    refine OnlyM.pair ?_
    assumption

theorem wbLine_only : ∀ x0 x1, OnlyM 2533291982848192 x0 (wbLine x0 x1) := by
  intro x0 x1
  unfold wbLine
  split
  · exact OnlyM.refl _ _
  · lift_lets
    intro y0
    clear_value y0
    intro y1
    clear_value y1
    intro y2
    intro y3
    refine OnlyM.useHave (show OnlyM 2533291982848192 x0 y3 from ?_) (fun hy3 => ?_)
    · unfold y3
      unfold y2
      refine OnlyM.foldl ?_ (fun _ _ _ => ?_)
      · exact OnlyM.refl _ _
      · refine OnlyM.comp (postStore_only _ _ _ _ _) (by rfl) ?_
        assumption
    clear_value y3
    split
    · unfold y2
      refine OnlyM.foldl ?_ (fun _ _ _ => ?_)
      · exact OnlyM.refl _ _
      · refine OnlyM.comp (postStore_only _ _ _ _ _) (by rfl) ?_
        assumption
    · unfold y2
      refine OnlyM.foldl ?_ (fun _ _ _ => ?_)
      · exact OnlyM.refl _ _
      · refine OnlyM.comp (postStore_only _ _ _ _ _) (by rfl) ?_
        assumption
    · refine OnlyM.ite ?_ ?_
      · refine OnlyM.comp (drawn_only _) (by rfl) ?_
        unfold y2
        refine OnlyM.foldl ?_ (fun _ _ _ => ?_)
        · assumption
        · refine OnlyM.comp (postStore_only _ _ _ _ _) (by rfl) ?_
          assumption
      · assumption
    · exact OnlyM.refl _ _

theorem execCompLineStart_only : ∀ x0 x1 x2 x3, OutOnly 3676784075736256 x3 (execCompLineStart x0 x1 x2 x3) := by
  intro x0 x1 x2 x3
  unfold execCompLineStart
  refine OutOnly.next ?_
  refine OnlyM.ite ?_ ?_
  · exact OnlyM.refl _ _
  · lift_lets
    intro y0
    clear_value y0
    intro y1
    clear_value y1
    intro y2
    refine OnlyM.useHave (show OnlyM 3676784075736256 x3 y2.1 from ?_) (fun hy2 => ?_)
    · unfold y2
      refine OnlyM.comp (fetchLine_only _ _) (by rfl) ?_
      exact OnlyM.refl _ _
    clear_value y2
    intro y3
    clear_value y3
    intro y4
    refine OnlyM.useHave (show OnlyM 3676784075736256 x3 y4 from ?_) (fun hy4 => ?_)
    · unfold y4
      refine OnlyM.ite ?_ ?_
      · assumption
      · refine OnlyM.comp (bump_only _ _ _ _) (by rfl) ?_
        assumption
    clear_value y4
    intro y5
    clear_value y5
    intro y6
    clear_value y6
    intro y7
    clear_value y7
    intro y8
    clear_value y8
    intro y9
    refine OnlyM.useHave (show OnlyM 3676784075736256 x3 y9 from ?_) (fun hy9 => ?_)
    · unfold y9
      refine OnlyM.comp (drawn_only _) (by rfl) ?_
      refine OnlyM.comp (upd_comp _ _) (by rfl) ?_
      assumption
    clear_value y9
    intro y10
    refine OnlyM.useHave (show OnlyM 3676784075736256 x3 y10 from ?_) (fun hy10 => ?_)
    · unfold y10
      refine OnlyM.ite ?_ ?_
      · refine OnlyM.comp (compIrq_only _ _) (by rfl) ?_
        refine OnlyM.comp (bump_only _ _ _ _) (by rfl) ?_
        assumption
      · assumption
    clear_value y10
    intro y11
    clear_value y11
    split
    · refine OnlyM.comp (wbDrop_only _ _) (by rfl) ?_
      refine OnlyM.comp (upd_comp _ _) (by rfl) ?_
      assumption
    · refine OnlyM.comp (wbLine_only _ _) (by rfl) ?_
      assumption

theorem execComparatorTrip_only : ∀ x0 x1 x2 x3 x4, OutOnly 105561706201280 x4 (execComparatorTrip x0 x1 x2 x3 x4) := by
  intro x0 x1 x2 x3 x4
  unfold execComparatorTrip
  lift_lets
  intro y0
  clear_value y0
  intro y1
  clear_value y1
  intro y2
  refine OnlyM.useHave (show OnlyM 105561706201280 x4 y2 from ?_) (fun hy2 => ?_)
  · unfold y2
    refine OnlyM.comp (setAx_only _ _ _) (by rfl) ?_
    exact OnlyM.refl _ _
  clear_value y2
  refine OutOnly.next ?_
  refine OnlyM.ite ?_ ?_
  · refine OnlyM.comp (comparatorTrip_only _ _ _) (by rfl) ?_
    assumption
  · assumption

theorem segmentIn_only : ∀ x0 x1, OnlyM 536870912 x0 (segmentIn x0 x1) := by
  intro x0 x1
  unfold segmentIn
  lift_lets
  intro y0
  clear_value y0
  refine OnlyM.comp (upd_fieldXfers _ _) (by rfl) ?_
  exact OnlyM.refl _ _

theorem takeRequest_of {x0 : State} {x1 : Nat} {x2 : List Nat} {f : DictReq} {t : State} (h : takeRequest x0 x1 x2 = some (t, f)) : OnlyM 12582912 x0 t :=
  by
  unfold takeRequest at h
  split at h
  · rename_i g u hu
    split at h
    · cases h
      exact (takeIn_of hu).mono (by rfl)
    · cases h
  · cases h

theorem writeComplete_only : ∀ m x0 x1 x2 x3 x4, (∀ s i k d, OnlyM m s (x0 s i k d).1) → OnlyM m x1 (writeComplete x0 x1 x2 x3 x4).1 := by
  intro m x0 x1 x2 x3 x4 hw
  unfold writeComplete
  split
  · exact OnlyM.refl _ _
  · refine OnlyM.useHave (P := OnlyM m x1 (List.foldl (fun (acc : State × List Byte × Nat) k =>
        let n := if k = 0 then 2 else osize x2 k
        if acc.2.2 ≠ 0 then acc
        else if acc.2.1.length < n then (acc.1, [], 0x06070010)
        else if k = 0 then (acc.1, acc.2.1.drop n, if acc.2.1.take n = live x1 x2 0 ++ [0] then 0 else 0x06010002)
        else
          let t := x0 acc.1 x2 k (acc.2.1.take n)
          (t.1, acc.2.1.drop n, t.2.getD 0)) (x1, x4, 0) (completeSubs x2 x3)).1) ?_ (fun h => ?_)
    · refine OnlyM.foldl1 (OnlyM.refl _ _) (fun u b hu => ?_)
      dsimp only
      refine OnlyM.ite1 hu (OnlyM.ite1 hu (OnlyM.ite1 hu ?_))
      exact hu.trans (hw _ _ _ _)
    · dsimp only
      split
      · exact OnlyM.refl _ _
      · split
        · exact h
        · exact OnlyM.refl _ _

theorem writeAny_only : ∀ x0 x1 x2 x3 x4 x5 x6, OnlyM 4493119672025073 x0 (writeAny x0 x1 x2 x3 x4 x5 x6).1 := by
  intro x0 x1 x2 x3 x4 x5 x6
  unfold writeAny
  refine OnlyM.ite1 ?_ ?_
  · refine OnlyM.pair ?_
    exact writeComplete_only _ _ _ _ _ _ (fun s i k d => (writeField_only s x1 x2 i k d).mono (by rfl))
  · exact (writeField_only _ _ _ _ _ _).mono (by rfl)

theorem execConfirmedWriteReceive_only : ∀ x0 x1, OutOnly 4493119672025073 x1 (execConfirmedWriteReceive x0 x1) := by
  intro x0 x1
  unfold execConfirmedWriteReceive
  refine OutOnly.next ?_
  split
  · exact OnlyM.refl _ _
  · lift_lets
    intro y0
    clear_value y0
    intro y1
    refine OnlyM.ite ?_ ?_
    · refine OnlyM.comp (fieldResponse_only _ _ _ _ _ _ _ _ _) (by rfl) ?_
      refine OnlyM.ite ?_ ?_
      · refine OnlyM.comp (segmentIn_only _ _) (by rfl) ?_
        exact OnlyM.mono (takeRequest_of (by assumption)) (by rfl)
      · exact OnlyM.mono (takeRequest_of (by assumption)) (by rfl)
    · refine OnlyM.comp (settle_only _ _ _ _) (by rfl) ?_
      refine OnlyM.comp (writeAny_only _ _ _ _ _ _ _) (by rfl) ?_
      refine OnlyM.comp (segmentIn_only _ _) (by rfl) ?_
      exact OnlyM.mono (takeRequest_of (by assumption)) (by rfl)

theorem execControlCycleStart_only : ∀ x0, OutOnly 527774185947328 x0 (execControlCycleStart x0) := by
  intro x0
  unfold execControlCycleStart
  refine OutOnly.next ?_
  refine OnlyM.ite ?_ ?_
  · exact OnlyM.refl _ _
  · lift_lets
    intro y0
    refine OnlyM.useHave (show OnlyM 527774185947328 x0 y0.1 from ?_) (fun hy0 => ?_)
    · unfold y0
      refine OnlyM.comp (cycleStarts_only _) (by rfl) ?_
      exact OnlyM.refl _ _
    clear_value y0
    refine OnlyM.ite ?_ ?_
    · refine OnlyM.comp (cycleWork_only _) (by rfl) ?_
      assumption
    · assumption

theorem execControlEngineStart_only : ∀ x0, OutOnly 175921860444160 x0 (execControlEngineStart x0) := by
  intro x0
  unfold execControlEngineStart
  lift_lets
  intro y0
  clear_value y0
  intro y1
  refine OnlyM.useHave (show OnlyM 175921860444160 x0 y1 from ?_) (fun hy1 => ?_)
  · unfold y1
    refine OnlyM.foldl ?_ (fun _ _ _ => ?_)
    · exact OnlyM.refl _ _
    · lift_lets
      intro y2
      clear_value y2
      refine OnlyM.comp (setAx_only _ _ _) (by rfl) ?_
      assumption
  clear_value y1
  intro y3
  clear_value y3
  refine OutOnly.next ?_
  refine OnlyM.ite ?_ ?_
  · exact OnlyM.refl _ _
  · refine OnlyM.comp (upd_eng _ _) (by rfl) ?_
    assumption

theorem execControlwordDisable_only : ∀ x0 x1, OutOnly 105561706201280 x1 (execControlwordDisable x0 x1) := by
  intro x0 x1
  unfold execControlwordDisable
  lift_lets
  intro y0
  clear_value y0
  refine OutOnly.next ?_
  refine OnlyM.ite ?_ ?_
  · exact OnlyM.refl _ _
  · refine OnlyM.ite ?_ ?_
    · refine OnlyM.comp (leaveTo_only _ _ _) (by rfl) ?_
      exact OnlyM.refl _ _
    · refine OnlyM.ite ?_ ?_
      · refine OnlyM.comp (leaveTo_only _ _ _) (by rfl) ?_
        exact OnlyM.refl _ _
      · exact OnlyM.refl _ _

theorem execControlwordEnableOperation_only : ∀ x0 x1, OutOnly 105553116266688 x1 (execControlwordEnableOperation x0 x1) := by
  intro x0 x1
  unfold execControlwordEnableOperation
  refine OutOnly.next ?_
  refine OnlyM.ite ?_ ?_
  · refine OnlyM.comp (enableCommand_only _ _) (by rfl) ?_
    exact OnlyM.refl _ _
  · exact OnlyM.refl _ _

theorem execControlwordFaultReset_only : ∀ x0 x1, OutOnly 351852310823104 x1 (execControlwordFaultReset x0 x1) := by
  intro x0 x1
  unfold execControlwordFaultReset
  refine OutOnly.next ?_
  refine OnlyM.ite ?_ ?_
  · refine OnlyM.comp (faultReset_only _ _) (by rfl) ?_
    exact OnlyM.refl _ _
  · exact OnlyM.refl _ _

theorem execControlwordQuickStop_only : ∀ x0 x1, OutOnly 105561706201280 x1 (execControlwordQuickStop x0 x1) := by
  intro x0 x1
  unfold execControlwordQuickStop
  refine OutOnly.next ?_
  refine OnlyM.ite ?_ ?_
  · refine OnlyM.comp (quickStop_only _ _) (by rfl) ?_
    exact OnlyM.refl _ _
  · exact OnlyM.refl _ _

theorem execConversionQuery_only : ∀ x0 x1, OutOnly 4493119672025073 x1 (execConversionQuery x0 x1) := by
  intro x0 x1
  unfold execConversionQuery
  refine OutOnly.next ?_
  refine OnlyM.comp (objectWrite_only _ _ _ _) (by rfl) ?_
  exact OnlyM.refl _ _

theorem rasRaise_only : ∀ x0 x1, OnlyM 17179869184 x0 (rasRaise x0 x1) := by
  intro x0 x1
  unfold rasRaise
  refine OnlyM.comp (imsicSet_only _ _ _) (by rfl) ?_
  refine OnlyM.comp (upd_mem _ _) (by rfl) ?_
  exact OnlyM.refl _ _

theorem execCoreLateStoreFault_only : ∀ x0 x1, OutOnly 2533291982848192 x1 (execCoreLateStoreFault x0 x1) := by
  intro x0 x1
  unfold execCoreLateStoreFault
  refine OutOnly.next ?_
  refine OnlyM.ite ?_ ?_
  · exact OnlyM.refl _ _
  · lift_lets
    intro y0
    refine OnlyM.useHave (show OnlyM 2533291982848192 x1 y0 from ?_) (fun hy0 => ?_)
    · unfold y0
      refine OnlyM.comp (rasRaise_only _ _) (by rfl) ?_
      exact OnlyM.refl _ _
    clear_value y0
    intro y1
    clear_value y1
    refine OnlyM.comp (drawn_only _) (by rfl) ?_
    refine OnlyM.comp (fabFault_only _ _) (by rfl) ?_
    assumption

theorem winAccess_only : ∀ x0 x1, OnlyM 4398046512128 x0 (winAccess x0 x1) := by
  intro x0 x1
  unfold winAccess
  lift_lets
  intro y0
  clear_value y0
  intro y1
  clear_value y1
  intro y2
  clear_value y2
  intro y3
  clear_value y3
  intro y4
  clear_value y4
  intro y5
  refine OnlyM.useHave (show OnlyM 4398046512128 x0 y5 from ?_) (fun hy5 => ?_)
  · unfold y5
    refine OnlyM.comp (upd_kv _ _) (by rfl) ?_
    exact OnlyM.refl _ _
  clear_value y5
  intro y6
  clear_value y6
  intro y7
  refine OnlyM.useHave (show OnlyM 4398046512128 x0 y7 from ?_) (fun hy7 => ?_)
  · unfold y7
    split
    · refine OnlyM.ite ?_ ?_
      · refine OnlyM.comp (setPool_only _ _ _) (by rfl) ?_
        assumption
      · assumption
    · assumption
  clear_value y7
  refine OnlyM.comp (setReg_only _ _ _) (by rfl) ?_
  assumption

theorem setHalf_only : ∀ x0 x1 x2 x3, OnlyM 1024 x0 (setHalf x0 x1 x2 x3) := by
  intro x0 x1 x2 x3
  unfold setHalf
  refine OnlyM.comp (setReg_only _ _ _) (by rfl) ?_
  exact OnlyM.refl _ _

theorem w1c_only : ∀ x0 x1 x2 x3, OnlyM 1024 x0 (w1c x0 x1 x2 x3) := by
  intro x0 x1 x2 x3
  unfold w1c
  refine OnlyM.comp (setReg_only _ _ _) (by rfl) ?_
  exact OnlyM.refl _ _

theorem writeRing_only : ∀ x0 x1 x2 x3, OnlyM 1024 x0 (writeRing x0 x1 x2 x3) := by
  intro x0 x1 x2 x3
  unfold writeRing
  refine OnlyM.ite ?_ ?_
  · refine OnlyM.comp (setHalf_only _ _ _ _) (by rfl) ?_
    exact OnlyM.refl _ _
  · refine OnlyM.ite ?_ ?_
    · refine OnlyM.comp (setReg_only _ _ _) (by rfl) ?_
      exact OnlyM.refl _ _
    · refine OnlyM.ite ?_ ?_
      · refine OnlyM.comp (setReg_only _ _ _) (by rfl) ?_
        exact OnlyM.refl _ _
      · exact OnlyM.refl _ _

theorem writeComp_only : ∀ x0 x1 x2, OnlyM 17592186045440 x0 (writeComp x0 x1 x2) := by
  intro x0 x1 x2
  unfold writeComp
  refine OnlyM.ite ?_ ?_
  · refine OnlyM.comp (setReg_only _ _ _) (by rfl) ?_
    exact OnlyM.refl _ _
  · refine OnlyM.ite ?_ ?_
    · refine OnlyM.comp (w1c_only _ _ _ _) (by rfl) ?_
      exact OnlyM.refl _ _
    · refine OnlyM.ite ?_ ?_
      · refine OnlyM.comp (setReg_only _ _ _) (by rfl) ?_
        exact OnlyM.refl _ _
      · refine OnlyM.ite ?_ ?_
        · refine OnlyM.comp (setHalf_only _ _ _ _) (by rfl) ?_
          exact OnlyM.refl _ _
        · refine OnlyM.ite ?_ ?_
          · refine OnlyM.ite ?_ ?_
            · lift_lets
              intro y0
              refine OnlyM.useHave (show OnlyM 17592186045440 x0 y0 from ?_) (fun hy0 => ?_)
              · unfold y0
                refine OnlyM.comp (setReg_only _ _ _) (by rfl) ?_
                exact OnlyM.refl _ _
              clear_value y0
              intro y1
              clear_value y1
              refine OnlyM.comp (upd_comp _ _) (by rfl) ?_
              assumption
            · exact OnlyM.refl _ _
          · refine OnlyM.ite ?_ ?_
            · refine OnlyM.comp (setReg_only _ _ _) (by rfl) ?_
              exact OnlyM.refl _ _
            · refine OnlyM.ite ?_ ?_
              · refine OnlyM.comp (setReg_only _ _ _) (by rfl) ?_
                exact OnlyM.refl _ _
              · refine OnlyM.ite ?_ ?_
                · refine OnlyM.comp (writeRing_only _ _ _ _) (by rfl) ?_
                  exact OnlyM.refl _ _
                · exact OnlyM.refl _ _

theorem writeDp_only : ∀ x0 x1 x2, OnlyM 1024 x0 (writeDp x0 x1 x2) := by
  intro x0 x1 x2
  unfold writeDp
  refine OnlyM.ite ?_ ?_
  · refine OnlyM.comp (setHalf_only _ _ _ _) (by rfl) ?_
    exact OnlyM.refl _ _
  · refine OnlyM.ite ?_ ?_
    · refine OnlyM.comp (setHalf_only _ _ _ _) (by rfl) ?_
      exact OnlyM.refl _ _
    · refine OnlyM.ite ?_ ?_
      · refine OnlyM.comp (setHalf_only _ _ _ _) (by rfl) ?_
        exact OnlyM.refl _ _
      · refine OnlyM.ite ?_ ?_
        · refine OnlyM.comp (setReg_only _ _ _) (by rfl) ?_
          exact OnlyM.refl _ _
        · refine OnlyM.ite ?_ ?_
          · refine OnlyM.comp (setReg_only _ _ _) (by rfl) ?_
            exact OnlyM.refl _ _
          · refine OnlyM.ite ?_ ?_
            · refine OnlyM.comp (w1c_only _ _ _ _) (by rfl) ?_
              exact OnlyM.refl _ _
            · exact OnlyM.refl _ _

theorem kvResult_only : ∀ x0 x1, OnlyM 4398046512128 x0 (kvResult x0 x1) := by
  intro x0 x1
  unfold kvResult
  refine OnlyM.comp (setReg_only _ _ _) (by rfl) ?_
  refine OnlyM.comp (upd_kv _ _) (by rfl) ?_
  exact OnlyM.refl _ _

theorem kvCloseSeq_only : ∀ x0 x1 x2, OnlyM 4398046512128 x0 (kvCloseSeq x0 x1 x2) := by
  intro x0 x1 x2
  unfold kvCloseSeq
  lift_lets
  intro y0
  clear_value y0
  refine OnlyM.ite ?_ ?_
  · refine OnlyM.comp (kvResult_only _ _) (by rfl) ?_
    exact OnlyM.refl _ _
  · refine OnlyM.ite ?_ ?_
    · refine OnlyM.comp (kvResult_only _ _) (by rfl) ?_
      exact OnlyM.refl _ _
    · refine OnlyM.comp (kvResult_only _ _) (by rfl) ?_
      refine OnlyM.comp (setSeq_only _ _ _ _) (by rfl) ?_
      refine OnlyM.comp (dropPages_only _ _ _ _) (by rfl) ?_
      exact OnlyM.refl _ _

theorem kvOpenSeq_only : ∀ x0 x1 x2, OnlyM 4398046512128 x0 (kvOpenSeq x0 x1 x2) := by
  intro x0 x1 x2
  unfold kvOpenSeq
  lift_lets
  intro y0
  clear_value y0
  intro y1
  clear_value y1
  intro y2
  clear_value y2
  refine OnlyM.ite ?_ ?_
  · refine OnlyM.comp (kvResult_only _ _) (by rfl) ?_
    exact OnlyM.refl _ _
  · refine OnlyM.ite ?_ ?_
    · refine OnlyM.comp (kvResult_only _ _) (by rfl) ?_
      exact OnlyM.refl _ _
    · split
      · refine OnlyM.comp (kvResult_only _ _) (by rfl) ?_
        exact OnlyM.refl _ _
      · lift_lets
        intro y3
        refine OnlyM.useHave (show OnlyM 4398046512128 x0 y3 from ?_) (fun hy3 => ?_)
        · unfold y3
          refine OnlyM.comp (assignPtes_only _ _ _ _) (by rfl) ?_
          exact OnlyM.refl _ _
        clear_value y3
        refine OnlyM.ite ?_ ?_
        · refine OnlyM.comp (kvResult_only _ _) (by rfl) ?_
          exact OnlyM.refl _ _
        · refine OnlyM.comp (kvResult_only _ _) (by rfl) ?_
          refine OnlyM.comp (setSeq_only _ _ _ _) (by rfl) ?_
          assumption

theorem kvPinSeq_only : ∀ x0 x1 x2 x3, OnlyM 4398046512128 x0 (kvPinSeq x0 x1 x2 x3) := by
  intro x0 x1 x2 x3
  unfold kvPinSeq
  lift_lets
  intro y0
  clear_value y0
  refine OnlyM.ite ?_ ?_
  · refine OnlyM.comp (kvResult_only _ _) (by rfl) ?_
    exact OnlyM.refl _ _
  · refine OnlyM.comp (kvResult_only _ _) (by rfl) ?_
    refine OnlyM.comp (setSeq_only _ _ _ _) (by rfl) ?_
    exact OnlyM.refl _ _

theorem kvPrefetchSeq_only : ∀ x0 x1 x2, OnlyM 288089238930624 x0 (kvPrefetchSeq x0 x1 x2) := by
  intro x0 x1 x2
  unfold kvPrefetchSeq
  lift_lets
  intro y0
  clear_value y0
  refine OnlyM.ite ?_ ?_
  · refine OnlyM.comp (kvResult_only _ _) (by rfl) ?_
    exact OnlyM.refl _ _
  · refine OnlyM.ite ?_ ?_
    · refine OnlyM.comp (kvResult_only _ _) (by rfl) ?_
      exact OnlyM.refl _ _
    · refine OnlyM.comp (kvResult_only _ _) (by rfl) ?_
      refine OnlyM.comp (prefetchSeq_only _ _ _) (by rfl) ?_
      exact OnlyM.refl _ _

theorem kvResetSeq_only : ∀ x0 x1 x2, OnlyM 4398046512128 x0 (kvResetSeq x0 x1 x2) := by
  intro x0 x1 x2
  unfold kvResetSeq
  lift_lets
  intro y0
  clear_value y0
  intro y1
  refine OnlyM.useHave (show OnlyM 4398046512128 x0 y1 from ?_) (fun hy1 => ?_)
  · unfold y1
    refine OnlyM.ite ?_ ?_
    · exact OnlyM.refl _ _
    · refine OnlyM.comp (dropPages_only _ _ _ _) (by rfl) ?_
      exact OnlyM.refl _ _
  clear_value y1
  refine OnlyM.ite ?_ ?_
  · refine OnlyM.comp (kvResult_only _ _) (by rfl) ?_
    exact OnlyM.refl _ _
  · refine OnlyM.ite ?_ ?_
    · refine OnlyM.comp (kvResult_only _ _) (by rfl) ?_
      exact OnlyM.refl _ _
    · refine OnlyM.comp (kvResult_only _ _) (by rfl) ?_
      refine OnlyM.comp (setSeq_only _ _ _ _) (by rfl) ?_
      assumption

theorem kvCommand_only : ∀ x0 x1, OnlyM 288089238930624 x0 (kvCommand x0 x1) := by
  intro x0 x1
  unfold kvCommand
  lift_lets
  intro y0
  clear_value y0
  intro y1
  clear_value y1
  split
  · refine OnlyM.comp (kvOpenSeq_only _ _ _) (by rfl) ?_
    exact OnlyM.refl _ _
  · refine OnlyM.comp (kvRetry_only _ _) (by rfl) ?_
    refine OnlyM.comp (kvCloseSeq_only _ _ _) (by rfl) ?_
    exact OnlyM.refl _ _
  · refine OnlyM.comp (kvPinSeq_only _ _ _ _) (by rfl) ?_
    exact OnlyM.refl _ _
  · refine OnlyM.comp (kvPinSeq_only _ _ _ _) (by rfl) ?_
    exact OnlyM.refl _ _
  · refine OnlyM.comp (kvPrefetchSeq_only _ _ _) (by rfl) ?_
    exact OnlyM.refl _ _
  · refine OnlyM.comp (kvRetry_only _ _) (by rfl) ?_
    refine OnlyM.comp (kvResetSeq_only _ _ _) (by rfl) ?_
    exact OnlyM.refl _ _
  · refine OnlyM.comp (kvResult_only _ _) (by rfl) ?_
    exact OnlyM.refl _ _

theorem writeGal_only : ∀ x0 x1 x2, OnlyM 288089238930624 x0 (writeGal x0 x1 x2) := by
  intro x0 x1 x2
  unfold writeGal
  refine OnlyM.ite ?_ ?_
  · refine OnlyM.comp (upd_gal _ _) (by rfl) ?_
    exact OnlyM.refl _ _
  · refine OnlyM.ite ?_ ?_
    · refine OnlyM.comp (setReg_only _ _ _) (by rfl) ?_
      exact OnlyM.refl _ _
    · refine OnlyM.ite ?_ ?_
      · refine OnlyM.comp (winAccess_only _ _) (by rfl) ?_
        exact OnlyM.refl _ _
      · refine OnlyM.ite ?_ ?_
        · refine OnlyM.comp (kvCommand_only _ _) (by rfl) ?_
          exact OnlyM.refl _ _
        · refine OnlyM.ite ?_ ?_
          · refine OnlyM.comp (setReg_only _ _ _) (by rfl) ?_
            exact OnlyM.refl _ _
          · exact OnlyM.refl _ _

theorem writeMc_only : ∀ x0 x1 x2 x3, OnlyM 281492169162944 x0 (writeMc x0 x1 x2 x3) := by
  intro x0 x1 x2 x3
  unfold writeMc
  refine OnlyM.ite ?_ ?_
  · refine OnlyM.ite ?_ ?_
    · refine OnlyM.comp (upd_mem _ _) (by rfl) ?_
      exact OnlyM.refl _ _
    · exact OnlyM.refl _ _
  · refine OnlyM.ite ?_ ?_
    · exact OnlyM.refl _ _
    · refine OnlyM.comp (fabFault_only _ _) (by rfl) ?_
      exact OnlyM.refl _ _

theorem queueCtrl_only : ∀ x0 x1 x2, OnlyM 283691192419520 x0 (queueCtrl x0 x1 x2) := by
  intro x0 x1 x2
  unfold queueCtrl
  lift_lets
  intro y0
  refine OnlyM.useHave (show OnlyM 283691192419520 x0 y0 from ?_) (fun hy0 => ?_)
  · unfold y0
    refine OnlyM.comp (setReg_only _ _ _) (by rfl) ?_
    exact OnlyM.refl _ _
  clear_value y0
  intro y1
  clear_value y1
  intro y2
  clear_value y2
  intro y3
  refine OnlyM.useHave (show OnlyM 283691192419520 x0 y3 from ?_) (fun hy3 => ?_)
  · unfold y3
    refine OnlyM.comp (setQue_only _ _ _) (by rfl) ?_
    assumption
  clear_value y3
  refine OnlyM.ite ?_ ?_
  · assumption
  · refine OnlyM.foldl ?_ (fun _ _ _ => ?_)
    · assumption
    · refine OnlyM.comp (writeRecord_only _ _ _ _ _) (by rfl) ?_
      assumption

theorem writeNq_only : ∀ x0 x1 x2 x3, OnlyM 288226677884096 x0 (writeNq x0 x1 x2 x3) := by
  intro x0 x1 x2 x3
  unfold writeNq
  lift_lets
  intro y0
  refine OnlyM.ite ?_ ?_
  · refine OnlyM.comp (setHalf_only _ _ _ _) (by rfl) ?_
    exact OnlyM.refl _ _
  · refine OnlyM.ite ?_ ?_
    · refine OnlyM.comp (setHalf_only _ _ _ _) (by rfl) ?_
      exact OnlyM.refl _ _
    · refine OnlyM.ite ?_ ?_
      · refine OnlyM.comp (setHalf_only _ _ _ _) (by rfl) ?_
        exact OnlyM.refl _ _
      · refine OnlyM.ite ?_ ?_
        · refine OnlyM.comp (queueCtrl_only _ _ _) (by rfl) ?_
          exact OnlyM.refl _ _
        · refine OnlyM.ite ?_ ?_
          · refine OnlyM.comp (w1c_only _ _ _ _) (by rfl) ?_
            exact OnlyM.refl _ _
          · refine OnlyM.ite ?_ ?_
            · refine OnlyM.comp (setReg_only _ _ _) (by rfl) ?_
              exact OnlyM.refl _ _
            · refine OnlyM.ite ?_ ?_
              · refine OnlyM.comp (setReg_only _ _ _) (by rfl) ?_
                exact OnlyM.refl _ _
              · refine OnlyM.ite ?_ ?_
                · refine OnlyM.ite ?_ ?_
                  · refine OnlyM.comp (jobRelease_only _ _) (by rfl) ?_
                    exact OnlyM.refl _ _
                  · exact OnlyM.refl _ _
                · refine OnlyM.ite ?_ ?_
                  · refine OnlyM.ite ?_ ?_
                    · refine OnlyM.comp (cancelHead_only _ _) (by rfl) ?_
                      exact OnlyM.refl _ _
                    · exact OnlyM.refl _ _
                  · exact OnlyM.refl _ _

theorem writePwin_only : ∀ x0 x1 x2, OnlyM 17179869184 x0 (writePwin x0 x1 x2) := by
  intro x0 x1 x2
  unfold writePwin
  refine OnlyM.ite ?_ ?_
  · lift_lets
    intro y0
    clear_value y0
    intro y1
    clear_value y1
    intro y2
    clear_value y2
    intro y3
    clear_value y3
    refine OnlyM.comp (upd_mem _ _) (by rfl) ?_
    exact OnlyM.refl _ _
  · exact OnlyM.refl _ _

theorem writeVis_only : ∀ x0 x1 x2, OnlyM 1407804392867008 x0 (writeVis x0 x1 x2) := by
  intro x0 x1 x2
  unfold writeVis
  refine OnlyM.ite ?_ ?_
  · refine OnlyM.ite ?_ ?_
    · refine OnlyM.comp (graphRequest_only _ _ _) (by rfl) ?_
      exact OnlyM.refl _ _
    · exact OnlyM.refl _ _
  · refine OnlyM.ite ?_ ?_
    · refine OnlyM.comp (flagRelease_only _ _) (by rfl) ?_
      exact OnlyM.refl _ _
    · refine OnlyM.comp (writeRing_only _ _ _ _) (by rfl) ?_
      exact OnlyM.refl _ _

theorem writeBlock_only : ∀ x0 x1 x2 x3 x4 r, writeBlock x0 x1 x2 x3 x4 = some r → OnlyM 2003739711898816 x0 r := by
  intro x0 x1 x2 x3 x4 r h
  unfold writeBlock at h
  split at h <;> first | cases h | skip
  · exact OnlyM.refl _ _
  · exact OnlyM.refl _ _
  · exact OnlyM.ite ((upd_link _ _).mono rfl) (OnlyM.refl _ _)
  · exact (writeDp_only _ _ _).mono rfl
  · exact (writeMc_only _ _ _ _).mono rfl
  · exact OnlyM.ite ((setHalf_only _ _ _ _).mono rfl) (OnlyM.refl _ _)
  · exact (writePwin_only _ _ _).mono rfl
  · exact OnlyM.ite ((upd_pwr _ _).mono rfl) (OnlyM.refl _ _)
  · exact (writeNq_only _ _ _ _).mono rfl
  · exact (writeGal_only _ _ _).mono rfl
  · exact OnlyM.ite ((writeRing_only _ _ _ _).mono rfl) (OnlyM.refl _ _)
  · exact (writeVis_only _ _ _).mono rfl
  · exact OnlyM.ite ((upd_lan _ _).mono rfl) (OnlyM.refl _ _)
  · exact (writeComp_only _ _ _).mono rfl
  · exact (aplicWrite_only _ _ _ _).mono rfl
  · exact (aplicWrite_only _ _ _ _).mono rfl
  · exact (imsicWrite_only _ _ _ _).mono rfl
  · exact (imsicWrite_only _ _ _ _).mono rfl

theorem writeBlock_of {x0 t : State} {x1 : String} {x2 x3 x4 : Nat} (h : writeBlock x0 x1 x2 x3 x4 = some t) : OnlyM 2003739711898816 x0 t :=
  writeBlock_only _ _ _ _ _ _ h

theorem execCoreLoad_only : ∀ x0 x1 x2, OutOnly 4255539525584064 x2 (execCoreLoad x0 x1 x2) := by
  intro x0 x1 x2
  unfold execCoreLoad
  lift_lets
  intro y0
  clear_value y0
  intro y1
  refine OnlyM.useHave (show OnlyM 4255539525584064 x2 y1 from ?_) (fun hy1 => ?_)
  · unfold y1
    refine OnlyM.ite ?_ ?_
    · refine OnlyM.comp (winAccess_only _ _) (by rfl) ?_
      exact OnlyM.refl _ _
    · exact OnlyM.refl _ _
  clear_value y1
  refine OutOnly.ite ?_ ?_
  · refine OutOnly.next ?_
    exact OnlyM.refl _ _
  · refine OutOnly.ite ?_ ?_
    · refine OutOnly.next ?_
      refine OnlyM.comp (drawn_only _) (by rfl) ?_
      refine OnlyM.comp (coreRead_only _ _) (by rfl) ?_
      exact OnlyM.refl _ _
    · refine OutOnly.ite ?_ ?_
      · refine OutOnly.ite ?_ ?_
        · refine OutOnly.next ?_
          refine OnlyM.comp (coreFaults_only _ _) (by rfl) ?_
          exact OnlyM.refl _ _
        · split
          · refine OutOnly.next ?_
            refine OnlyM.comp (fabFault_only _ _) (by rfl) ?_
            refine OnlyM.comp (coreRead_only _ _) (by rfl) ?_
            exact OnlyM.refl _ _
          · refine OutOnly.ite ?_ ?_
            · refine OutOnly.next ?_
              refine OnlyM.comp (coreRead_only _ _) (by rfl) ?_
              assumption
            · exact OutOnly.refused _ _ _
      · refine OutOnly.ite ?_ ?_
        · exact OutOnly.refused _ _ _
        · refine OutOnly.ite ?_ ?_
          · refine OutOnly.next ?_
            refine OnlyM.comp (coreRead_only _ _) (by rfl) ?_
            exact OnlyM.refl _ _
          · refine OutOnly.next ?_
            refine OnlyM.comp (coreFaults_only _ _) (by rfl) ?_
            exact OnlyM.refl _ _

theorem execCreditReturn_only : ∀ x0 x1, OutOnly 12582912 x1 (execCreditReturn x0 x1) := by
  intro x0 x1
  unfold execCreditReturn
  refine OutOnly.next ?_
  split
  · exact OnlyM.mono (takeIn_of (by assumption)) (by rfl)
  · exact OnlyM.refl _ _

theorem portBit_only : ∀ x0 x1 x2, OnlyM 192 x0 (portBit x0 x1 x2) := by
  intro x0 x1 x2
  unfold portBit
  refine OnlyM.comp (putN_only _ _ _ _) (by rfl) ?_
  exact OnlyM.refl _ _

theorem execCsiDeskewDone_only : ∀ x0 x1, OutOnly 192 x1 (execCsiDeskewDone x0 x1) := by
  intro x0 x1
  unfold execCsiDeskewDone
  refine OutOnly.next ?_
  refine OnlyM.ite ?_ ?_
  · refine OnlyM.comp (portBit_only _ _ _) (by rfl) ?_
    exact OnlyM.refl _ _
  · exact OnlyM.refl _ _

theorem execCsiFrameEnd_only : ∀ x0 x1 x2, OutOnly 1414435822372032 x2 (execCsiFrameEnd x0 x1 x2) := by
  intro x0 x1 x2
  unfold execCsiFrameEnd
  refine OutOnly.next ?_
  refine OnlyM.ite ?_ ?_
  · exact OnlyM.refl _ _
  · refine OnlyM.ite ?_ ?_
    · refine OnlyM.comp (portBit_only _ _ _) (by rfl) ?_
      exact OnlyM.refl _ _
    · refine OnlyM.foldl ?_ (fun _ _ _ => ?_)
      · exact OnlyM.refl _ _
      · refine OnlyM.comp (endFrame_only _ _ _) (by rfl) ?_
        assumption

theorem frameStamp_only : ∀ x0 x1, OnlyM 68719476928 x0 (frameStamp x0 x1).1 := by
  intro x0 x1
  unfold frameStamp
  lift_lets
  intro y0
  clear_value y0
  intro y1
  clear_value y1
  intro y2
  clear_value y2
  intro y3
  refine OnlyM.useHave (show OnlyM 68719476928 x0 y3 from ?_) (fun hy3 => ?_)
  · unfold y3
    refine OnlyM.comp (bump_only _ _ _ _) (by rfl) ?_
    refine OnlyM.comp (upd_trig _ _) (by rfl) ?_
    exact OnlyM.refl _ _
  clear_value y3
  refine OnlyM.ite1 ?_ ?_
  · refine OnlyM.pair ?_
    exact OnlyM.refl _ _
  · split
    · refine OnlyM.pair ?_
      assumption
    · refine OnlyM.pair ?_
      refine OnlyM.comp (bump_only _ _ _ _) (by rfl) ?_
      assumption

theorem takeBuffer_only : ∀ x0 x1 x2, OnlyM 171798692032 x0 (takeBuffer x0 x1 x2).1 := by
  intro x0 x1 x2
  unfold takeBuffer
  refine OnlyM.ite1 ?_ ?_
  · refine OnlyM.pair ?_
    exact OnlyM.refl _ _
  · lift_lets
    intro y0
    clear_value y0
    intro y1
    clear_value y1
    intro y2
    clear_value y2
    intro y3
    refine OnlyM.useHave (show OnlyM 171798692032 x0 y3 from ?_) (fun hy3 => ?_)
    · unfold y3
      refine OnlyM.comp (setFlag_only _ _ _) (by rfl) ?_
      exact OnlyM.refl _ _
    clear_value y3
    intro y4
    clear_value y4
    refine OnlyM.ite1 ?_ ?_
    · refine OnlyM.pair ?_
      refine OnlyM.comp (setStm_only _ _ _) (by rfl) ?_
      assumption
    · refine OnlyM.pair ?_
      refine OnlyM.comp (bump_only _ _ _ _) (by rfl) ?_
      exact OnlyM.refl _ _

theorem takeDram_only : ∀ x0 x1 x2, OnlyM 34359738560 x0 (takeDram x0 x1 x2).1 := by
  intro x0 x1 x2
  unfold takeDram
  refine OnlyM.ite1 ?_ ?_
  · refine OnlyM.pair ?_
    exact OnlyM.refl _ _
  · lift_lets
    intro y0
    clear_value y0
    intro y1
    clear_value y1
    intro y2
    clear_value y2
    refine OnlyM.ite1 ?_ ?_
    · refine OnlyM.pair ?_
      refine OnlyM.comp (setStm_only _ _ _) (by rfl) ?_
      exact OnlyM.refl _ _
    · refine OnlyM.pair ?_
      refine OnlyM.comp (bump_only _ _ _ _) (by rfl) ?_
      exact OnlyM.refl _ _

theorem openFrame_only : ∀ x0 x1, OnlyM 1414504541848768 x0 (openFrame x0 x1) := by
  intro x0 x1
  unfold openFrame
  refine OnlyM.ite ?_ ?_
  · exact OnlyM.refl _ _
  · lift_lets
    intro y0
    refine OnlyM.useHave (show OnlyM 1414504541848768 x0 y0 from ?_) (fun hy0 => ?_)
    · unfold y0
      refine OnlyM.comp (endFrame_only _ _ _) (by rfl) ?_
      exact OnlyM.refl _ _
    clear_value y0
    intro y1
    refine OnlyM.useHave (show OnlyM 1414504541848768 x0 y1.1 from ?_) (fun hy1 => ?_)
    · unfold y1
      refine OnlyM.comp (frameStamp_only _ _) (by rfl) ?_
      assumption
    clear_value y1
    intro y2
    refine OnlyM.useHave (show OnlyM 1414504541848768 x0 y2.1 from ?_) (fun hy2 => ?_)
    · unfold y2
      refine OnlyM.comp (takeBuffer_only _ _ _) (by rfl) ?_
      assumption
    clear_value y2
    intro y3
    refine OnlyM.useHave (show OnlyM 1414504541848768 x0 y3.1 from ?_) (fun hy3 => ?_)
    · unfold y3
      refine OnlyM.comp (takeDram_only _ _ _) (by rfl) ?_
      assumption
    clear_value y3
    intro y4
    clear_value y4
    refine OnlyM.comp (setStm_only _ _ _) (by rfl) ?_
    assumption

theorem execCsiFrameStart_only : ∀ x0 x1 x2, OutOnly 1414504541848768 x2 (execCsiFrameStart x0 x1 x2) := by
  intro x0 x1 x2
  unfold execCsiFrameStart
  refine OutOnly.next ?_
  refine OnlyM.ite ?_ ?_
  · exact OnlyM.refl _ _
  · lift_lets
    intro y0
    refine OnlyM.useHave (show OnlyM 1414504541848768 x2 y0 from ?_) (fun hy0 => ?_)
    · unfold y0
      refine OnlyM.comp (portBit_only _ _ _) (by rfl) ?_
      exact OnlyM.refl _ _
    clear_value y0
    intro y1
    refine OnlyM.useHave (show OnlyM 1414504541848768 x2 y1 from ?_) (fun hy1 => ?_)
    · unfold y1
      refine OnlyM.foldl ?_ (fun _ _ _ => ?_)
      · assumption
      · refine OnlyM.comp (endFrame_only _ _ _) (by rfl) ?_
        assumption
    clear_value y1
    refine OnlyM.ite ?_ ?_
    · refine OnlyM.comp (portBit_only _ _ _) (by rfl) ?_
      assumption
    · refine OnlyM.ite ?_ ?_
      · refine OnlyM.foldl ?_ (fun _ _ _ => ?_)
        · assumption
        · refine OnlyM.comp (openFrame_only _ _) (by rfl) ?_
          assumption
      · assumption

theorem lineOf_only : ∀ x0 x1 x2 x3 x4 x5, OnlyM 34359738560 x0 (lineOf x0 x1 x2 x3 x4 x5) := by
  intro x0 x1 x2 x3 x4 x5
  unfold lineOf
  split
  · exact OnlyM.refl _ _
  · lift_lets
    intro y0
    clear_value y0
    intro y1
    clear_value y1
    intro y2
    refine OnlyM.useHave (show OnlyM 34359738560 x0 y2 from ?_) (fun hy2 => ?_)
    · unfold y2
      refine OnlyM.ite ?_ ?_
      · exact OnlyM.refl _ _
      · refine OnlyM.comp (bump_only _ _ _ _) (by rfl) ?_
        exact OnlyM.refl _ _
    clear_value y2
    intro y3
    clear_value y3
    refine OnlyM.ite ?_ ?_
    · refine OnlyM.comp (setStm_only _ _ _) (by rfl) ?_
      assumption
    · refine OnlyM.ite ?_ ?_
      · assumption
      · refine OnlyM.ite ?_ ?_
        · refine OnlyM.comp (setStm_only _ _ _) (by rfl) ?_
          assumption
        · refine OnlyM.comp (setStm_only _ _ _) (by rfl) ?_
          assumption

theorem execCsiLinePacket_only : ∀ x0 x1 x2 x3 x4 x5 x6, OutOnly 34359738560 x6 (execCsiLinePacket x0 x1 x2 x3 x4 x5 x6) := by
  intro x0 x1 x2 x3 x4 x5 x6
  unfold execCsiLinePacket
  refine OutOnly.next ?_
  refine OnlyM.ite ?_ ?_
  · exact OnlyM.refl _ _
  · lift_lets
    intro y0
    refine OnlyM.useHave (show OnlyM 34359738560 x6 y0 from ?_) (fun hy0 => ?_)
    · unfold y0
      refine OnlyM.comp (portBit_only _ _ _) (by rfl) ?_
      exact OnlyM.refl _ _
    clear_value y0
    refine OnlyM.ite ?_ ?_
    · refine OnlyM.comp (portBit_only _ _ _) (by rfl) ?_
      assumption
    · refine OnlyM.foldl ?_ (fun _ _ _ => ?_)
      · assumption
      · refine OnlyM.comp (lineOf_only _ _ _ _ _ _) (by rfl) ?_
        assumption

theorem execCspTargetTimeout_only : ∀ x0 x1, OutOnly 70368744177664 x1 (execCspTargetTimeout x0 x1) := by
  intro x0 x1
  unfold execCspTargetTimeout
  lift_lets
  intro y0
  clear_value y0
  intro y1
  clear_value y1
  refine OutOnly.next ?_
  refine OnlyM.ite ?_ ?_
  · refine OnlyM.comp (setCe_only _ _ _) (by rfl) ?_
    exact OnlyM.refl _ _
  · exact OnlyM.refl _ _

theorem execDeadTimeExpiry_only : ∀ x0 x1 x2, OutOnly 35184372088832 x2 (execDeadTimeExpiry x0 x1 x2) := by
  intro x0 x1 x2
  unfold execDeadTimeExpiry
  lift_lets
  intro y0
  clear_value y0
  intro y1
  clear_value y1
  refine OutOnly.next ?_
  refine OnlyM.ite ?_ ?_
  · refine OnlyM.comp (setAx_only _ _ _) (by rfl) ?_
    exact OnlyM.refl _ _
  · exact OnlyM.refl _ _

theorem execDebuggerAccess_only : ∀ x0 x1, OutOnly 3 x1 (execDebuggerAccess x0 x1) := by
  intro x0 x1
  unfold execDebuggerAccess
  refine OutOnly.next ?_
  split
  · refine OnlyM.ite ?_ ?_
    · exact OnlyM.refl _ _
    · refine OnlyM.comp (upd_fboot _ _) (by rfl) ?_
      exact OnlyM.refl _ _
  · refine OnlyM.ite ?_ ?_
    · exact OnlyM.refl _ _
    · refine OnlyM.comp (upd_hboot _ _) (by rfl) ?_
      exact OnlyM.refl _ _

theorem takeJob_only : ∀ x0 x1 x2, OnlyM 288226677884096 x0 (takeJob x0 x1 x2) := by
  intro x0 x1 x2
  unfold takeJob
  lift_lets
  intro y0
  clear_value y0
  intro y1
  clear_value y1
  intro y2
  clear_value y2
  intro y3
  clear_value y3
  intro y4
  clear_value y4
  intro y5
  clear_value y5
  intro y6
  clear_value y6
  intro y7
  refine OnlyM.useHave (show OnlyM 288226677884096 x0 y7 from ?_) (fun hy7 => ?_)
  · unfold y7
    refine OnlyM.comp (setQue_only _ _ _) (by rfl) ?_
    exact OnlyM.refl _ _
  clear_value y7
  intro y8
  clear_value y8
  intro y9
  refine OnlyM.useHave (show OnlyM 288226677884096 x0 y9 from ?_) (fun hy9 => ?_)
  · unfold y9
    refine OnlyM.ite ?_ ?_
    · refine OnlyM.comp (setSlot_only _ _ _) (by rfl) ?_
      assumption
    · assumption
  clear_value y9
  intro y10
  clear_value y10
  refine OnlyM.ite ?_ ?_
  · refine OnlyM.comp (completeJob_only _ _ _ _) (by rfl) ?_
    assumption
  · refine OnlyM.ite ?_ ?_
    · refine OnlyM.comp (completeJob_only _ _ _ _) (by rfl) ?_
      assumption
    · refine OnlyM.ite ?_ ?_
      · refine OnlyM.comp (completeJob_only _ _ _ _) (by rfl) ?_
        assumption
      · refine OnlyM.comp (jobAdvance_only _ _) (by rfl) ?_
        assumption

theorem takeNext_only : ∀ x0 x1, OnlyM 288226677884096 x0 (takeNext x0 x1) := by
  intro x0 x1
  unfold takeNext
  lift_lets
  intro y0
  clear_value y0
  intro y1
  clear_value y1
  intro y2
  refine OnlyM.useHave (show OnlyM 288226677884096 x0 y2.1 from ?_) (fun hy2 => ?_)
  · unfold y2
    refine OnlyM.comp (engLoad_only _ _ _ _) (by rfl) ?_
    exact OnlyM.refl _ _
  clear_value y2
  intro y3
  refine OnlyM.useHave (show OnlyM 288226677884096 x0 y3 from ?_) (fun hy3 => ?_)
  · unfold y3
    refine OnlyM.comp (takeJob_only _ _ _) (by rfl) ?_
    refine OnlyM.comp (setReg_only _ _ _) (by rfl) ?_
    assumption
  clear_value y3
  refine OnlyM.ite ?_ ?_
  · refine OnlyM.comp (bufFault_only _ _) (by rfl) ?_
    assumption
  · refine OnlyM.ite ?_ ?_
    · assumption
    · split
      · refine OnlyM.comp (completeJob_only _ _ _ _) (by rfl) ?_
        assumption
      · assumption

theorem execDescriptorTake_only : ∀ x0 x1, OutOnly 288226677884096 x1 (execDescriptorTake x0 x1) := by
  intro x0 x1
  unfold execDescriptorTake
  refine OutOnly.next ?_
  refine OnlyM.ite ?_ ?_
  · refine OnlyM.comp (takeNext_only _ _) (by rfl) ?_
    exact OnlyM.refl _ _
  · exact OnlyM.refl _ _

theorem execDpLinkTrainingDone_only : ∀ x0 x1 x2 x3, OutOnly 17592186045440 x3 (execDpLinkTrainingDone x0 x1 x2 x3) := by
  intro x0 x1 x2 x3
  unfold execDpLinkTrainingDone
  refine OutOnly.next ?_
  refine OnlyM.ite ?_ ?_
  · lift_lets
    intro y0
    clear_value y0
    intro y1
    refine OnlyM.useHave (show OnlyM 17592186045440 x3 y1 from ?_) (fun hy1 => ?_)
    · unfold y1
      refine OnlyM.comp (setReg_only _ _ _) (by rfl) ?_
      exact OnlyM.refl _ _
    clear_value y1
    intro y2
    clear_value y2
    refine OnlyM.comp (upd_comp _ _) (by rfl) ?_
    assumption
  · exact OnlyM.refl _ _

theorem execDpTrainCommand_only : ∀ x0 x1, OutOnly 17592186045440 x1 (execDpTrainCommand x0 x1) := by
  intro x0 x1
  unfold execDpTrainCommand
  refine OutOnly.next ?_
  refine OnlyM.ite ?_ ?_
  · lift_lets
    intro y0
    clear_value y0
    intro y1
    refine OnlyM.useHave (show OnlyM 17592186045440 x1 y1 from ?_) (fun hy1 => ?_)
    · unfold y1
      refine OnlyM.comp (setReg_only _ _ _) (by rfl) ?_
      exact OnlyM.refl _ _
    clear_value y1
    intro y2
    clear_value y2
    refine OnlyM.comp (upd_comp _ _) (by rfl) ?_
    assumption
  · exact OnlyM.refl _ _

theorem execDriftFrame_only : ∀ x0 x1, OutOnly 2638836509311168 x1 (execDriftFrame x0 x1) := by
  intro x0 x1
  unfold execDriftFrame
  refine OutOnly.next ?_
  refine OnlyM.ite ?_ ?_
  · refine OnlyM.comp (driftFrame_only _ _) (by rfl) ?_
    exact OnlyM.refl _ _
  · exact OnlyM.refl _ _

theorem execEncoderValid_only : ∀ x0, OutOnly 1520031890480368 x0 (execEncoderValid x0) := by
  intro x0
  unfold execEncoderValid
  refine OutOnly.next ?_
  refine OnlyM.ite ?_ ?_
  · lift_lets
    intro y0
    clear_value y0
    intro y1
    refine OnlyM.useHave (show OnlyM 1520031890480368 x0 y1 from ?_) (fun hy1 => ?_)
    · unfold y1
      refine OnlyM.comp (upd_pos _ _) (by rfl) ?_
      exact OnlyM.refl _ _
    clear_value y1
    refine OnlyM.ite ?_ ?_
    · assumption
    · refine OnlyM.comp (encoderReturn_only _) (by rfl) ?_
      assumption
  · exact OnlyM.refl _ _

theorem loadFault_only : ∀ x0 x1, OnlyM 2199023255552 x0 (loadFault x0 x1) := by
  intro x0 x1
  unfold loadFault
  split
  · refine OnlyM.ite ?_ ?_
    · refine OnlyM.comp (setJob_only _ _ _) (by rfl) ?_
      exact OnlyM.refl _ _
    · exact OnlyM.refl _ _
  · exact OnlyM.refl _ _

theorem execEngineLoad_only : ∀ x0 x1 x2 x3 x4, OutOnly 283691192418496 x4 (execEngineLoad x0 x1 x2 x3 x4) := by
  intro x0 x1 x2 x3 x4
  unfold execEngineLoad
  refine OutOnly.next ?_
  refine OnlyM.ite ?_ ?_
  · exact OnlyM.refl _ _
  · lift_lets
    intro y0
    clear_value y0
    intro y1
    refine OnlyM.useHave (show OnlyM 283691192418496 x4 y1 from ?_) (fun hy1 => ?_)
    · unfold y1
      refine OnlyM.ite ?_ ?_
      · exact OnlyM.refl _ _
      · refine OnlyM.comp (eccRead_only _ _ _) (by rfl) ?_
        exact OnlyM.refl _ _
    clear_value y1
    intro y2
    refine OnlyM.useHave (show OnlyM 283691192418496 x4 y2.1 from ?_) (fun hy2 => ?_)
    · unfold y2
      refine OnlyM.comp (engLoad_only _ _ _ _) (by rfl) ?_
      assumption
    clear_value y2
    intro y3
    refine OnlyM.useHave (show OnlyM 283691192418496 x4 y3 from ?_) (fun hy3 => ?_)
    · unfold y3
      refine OnlyM.comp (countLine_only _ _ _) (by rfl) ?_
      assumption
    clear_value y3
    intro y4
    clear_value y4
    intro y5
    refine OnlyM.useHave (show OnlyM 283691192418496 x4 y5 from ?_) (fun hy5 => ?_)
    · unfold y5
      refine OnlyM.comp (upd_mem _ _) (by rfl) ?_
      assumption
    clear_value y5
    refine OnlyM.ite ?_ ?_
    · assumption
    · refine OnlyM.comp (loadFault_only _ _) (by rfl) ?_
      assumption

theorem runLateFault_only : ∀ x0 x1 x2, OnlyM 274877906944 x0 (runLateFault x0 x1 x2) := by
  intro x0 x1 x2
  unfold runLateFault
  split
  · exact OnlyM.refl _ _
  · refine OnlyM.comp (setGph_only _ _ _) (by rfl) ?_
    exact OnlyM.refl _ _

theorem runTryEnd_only : ∀ x0 x1, OnlyM 1407804392867008 x0 (runTryEnd x0 x1) := by
  intro x0 x1
  unfold runTryEnd
  split
  · exact OnlyM.refl _ _
  · refine OnlyM.ite ?_ ?_
    · exact OnlyM.refl _ _
    · refine OnlyM.comp (endRun_only _ _ _) (by rfl) ?_
      exact OnlyM.refl _ _

theorem lateFault_only : ∀ x0 x1 x2, OnlyM 1410003416122560 x0 (lateFault x0 x1 x2) := by
  intro x0 x1 x2
  unfold lateFault
  split
  · refine OnlyM.comp (jobLateFault_only _ _ _) (by rfl) ?_
    exact OnlyM.refl _ _
  · refine OnlyM.comp (runTryEnd_only _ _) (by rfl) ?_
    refine OnlyM.comp (runLateFault_only _ _ _) (by rfl) ?_
    exact OnlyM.refl _ _
  · refine OnlyM.comp (setReg_only _ _ _) (by rfl) ?_
    exact OnlyM.refl _ _
  · refine OnlyM.comp (rasRaise_only _ _) (by rfl) ?_
    exact OnlyM.refl _ _
  · exact OnlyM.refl _ _

theorem signStore_only : ∀ x0 x1 x2 x3 x4, OnlyM 2199023255552 x0 (signStore x0 x1 x2 x3 x4) := by
  intro x0 x1 x2 x3 x4
  unfold signStore
  split
  · refine OnlyM.ite ?_ ?_
    · exact OnlyM.refl _ _
    · refine OnlyM.comp (setJob_only _ _ _) (by rfl) ?_
      exact OnlyM.refl _ _
  · exact OnlyM.refl _ _

theorem execEngineStore_only : ∀ x0 x1 x2 x3 x4, OutOnly 1410003416122560 x4 (execEngineStore x0 x1 x2 x3 x4) := by
  intro x0 x1 x2 x3 x4
  unfold execEngineStore
  refine OutOnly.next ?_
  refine OnlyM.ite ?_ ?_
  · exact OnlyM.refl _ _
  · lift_lets
    intro y0
    clear_value y0
    intro y1
    refine OnlyM.useHave (show OnlyM 1410003416122560 x4 y1.1 from ?_) (fun hy1 => ?_)
    · unfold y1
      refine OnlyM.comp (postStore_only _ _ _ _ _) (by rfl) ?_
      refine OnlyM.comp (signStore_only _ _ _ _ _) (by rfl) ?_
      exact OnlyM.refl _ _
    clear_value y1
    refine OnlyM.ite ?_ ?_
    · assumption
    · refine OnlyM.comp (lateFault_only _ _ _) (by rfl) ?_
      assumption

theorem execEstimatedSyntheticEdge_only : ∀ x0, OutOnly 1520032964222192 x0 (execEstimatedSyntheticEdge x0) := by
  intro x0
  unfold execEstimatedSyntheticEdge
  refine OutOnly.next ?_
  refine OnlyM.ite ?_ ?_
  · refine OnlyM.comp (estimateEdge_only _) (by rfl) ?_
    exact OnlyM.refl _ _
  · exact OnlyM.refl _ _

theorem execEthernetLinkLoss_only : ∀ x0, OutOnly 1407392076268736 x0 (execEthernetLinkLoss x0) := by
  intro x0
  unfold execEthernetLinkLoss
  refine OutOnly.next ?_
  refine OnlyM.ite ?_ ?_
  · refine OnlyM.comp (hostClockLoss_only _) (by rfl) ?_
    exact OnlyM.refl _ _
  · exact OnlyM.refl _ _

theorem execExpectationMiss_only : ∀ x0, OutOnly 387036695494848 x0 (execExpectationMiss x0) := by
  intro x0
  unfold execExpectationMiss
  refine OutOnly.next ?_
  split
  · exact OnlyM.refl _ _
  · lift_lets
    intro y0
    clear_value y0
    intro y1
    clear_value y1
    intro y2
    clear_value y2
    intro y3
    refine OnlyM.useHave (show OnlyM 387036695494848 x0 y3 from ?_) (fun hy3 => ?_)
    · unfold y3
      refine OnlyM.comp (bump_only _ _ _ _) (by rfl) ?_
      refine OnlyM.comp (upd_saf _ _) (by rfl) ?_
      exact OnlyM.refl _ _
    clear_value y3
    refine OnlyM.ite ?_ ?_
    · exact OnlyM.refl _ _
    · refine OnlyM.comp (startReaction_only _ _ _ _ _ _ _ _ _) (by rfl) ?_
      assumption

theorem execFResetLLow_only : ∀ x0, OutOnly 2218848589430001 x0 (execFResetLLow x0) := by
  intro x0
  unfold execFResetLLow
  refine OutOnly.next ?_
  refine OnlyM.ite ?_ ?_
  · exact OnlyM.refl _ _
  · refine OnlyM.comp (fieldReset_only _ _) (by rfl) ?_
    exact OnlyM.refl _ _

theorem execFaultLogFlashWrite_only : ∀ x0 x1, OutOnly 281483566645440 x1 (execFaultLogFlashWrite x0 x1) := by
  intro x0 x1
  unfold execFaultLogFlashWrite
  refine OutOnly.next ?_
  split
  · refine OnlyM.ite ?_ ?_
    · lift_lets
      intro y0
      clear_value y0
      intro y1
      clear_value y1
      refine OnlyM.comp (errorBit_only _ _ _) (by rfl) ?_
      refine OnlyM.comp (upd_saf _ _) (by rfl) ?_
      exact OnlyM.refl _ _
    · refine OnlyM.comp (errorBit_only _ _ _) (by rfl) ?_
      exact OnlyM.refl _ _
  · exact OnlyM.refl _ _

theorem fieldRecord_only : ∀ x0 x1, OnlyM 387036695494848 x0 (fieldRecord x0 x1) := by
  intro x0 x1
  unfold fieldRecord
  lift_lets
  intro y0
  clear_value y0
  intro y1
  refine OnlyM.useHave (show OnlyM 387036695494848 x0 y1 from ?_) (fun hy1 => ?_)
  · unfold y1
    refine OnlyM.comp (upd_saf _ _) (by rfl) ?_
    exact OnlyM.refl _ _
  clear_value y1
  intro y2
  refine OnlyM.useHave (show OnlyM 387036695494848 x0 y2 from ?_) (fun hy2 => ?_)
  · unfold y2
    refine OnlyM.ite ?_ ?_
    · refine OnlyM.comp (bump_only _ _ _ _) (by rfl) ?_
      assumption
    · assumption
  clear_value y2
  intro y3
  clear_value y3
  intro y4
  clear_value y4
  refine OnlyM.ite ?_ ?_
  · refine OnlyM.comp (startReaction_only _ _ _ _ _ _ _ _ _) (by rfl) ?_
    refine OnlyM.comp (upd_saf _ _) (by rfl) ?_
    assumption
  · assumption

theorem hostRecord_only : ∀ x0 x1, OnlyM 281474976710848 x0 (hostRecord x0 x1) := by
  intro x0 x1
  unfold hostRecord
  refine OnlyM.comp (bump_only _ _ _ _) (by rfl) ?_
  refine OnlyM.comp (hostCopy_only _ _) (by rfl) ?_
  exact OnlyM.refl _ _

theorem execFaultLogRecordReceive_only : ∀ x0 x1, OutOnly 387036695494848 x1 (execFaultLogRecordReceive x0 x1) := by
  intro x0 x1
  unfold execFaultLogRecordReceive
  refine OutOnly.next ?_
  split
  · lift_lets
    intro y0
    clear_value y0
    split
    · refine OnlyM.ite ?_ ?_
      · refine OnlyM.comp (hostRecord_only _ _) (by rfl) ?_
        exact OnlyM.mono (takeIn_of (by assumption)) (by rfl)
      · exact OnlyM.refl _ _
    · refine OnlyM.ite ?_ ?_
      · refine OnlyM.comp (fieldRecord_only _ _) (by rfl) ?_
        exact OnlyM.mono (takeIn_of (by assumption)) (by rfl)
      · exact OnlyM.refl _ _
  · exact OnlyM.refl _ _

end Sys2Proof.Laws
end

