-- ==== Sys2Proof/Laws/FramesE.lean ====
section
/-! SUPPORT. What each shared operation and each meaning can change, part 5: one frame per definition, each from the
frames of what it calls. -/

namespace Sys2Proof.Laws

open Machine

theorem execFieldBeaconDetect_only : ∀ x0, OutOnly 20971520 x0 (execFieldBeaconDetect x0) := by
  intro x0
  unfold execFieldBeaconDetect
  refine OutOnly.next ?_
  refine OnlyM.ite ?_ ?_
  · refine OnlyM.comp (upd_fend_link _ _ _) (by rfl) ?_
    exact OnlyM.refl _ _
  · exact OnlyM.refl _ _

theorem loadSaved_only : ∀ x0 x1, OnlyM 192 x0 (loadSaved x0 x1) := by
  intro x0 x1
  unfold loadSaved
  refine OnlyM.foldl ?_ (fun _ _ _ => ?_)
  · exact OnlyM.refl _ _
  · refine OnlyM.comp (putObj_only _ _ _ _) (by rfl) ?_
    assumption

theorem fieldLoad_only : ∀ x0, OnlyM 387036695625920 x0 (fieldLoad x0) := by
  intro x0
  unfold fieldLoad
  split
  · exact OnlyM.refl _ _
  · refine OnlyM.comp (emcy_only _ _ _ _) (by rfl) ?_
    refine OnlyM.comp (logField_only _ _) (by rfl) ?_
    exact OnlyM.refl _ _
  · lift_lets
    intro y0
    refine OnlyM.useHave (show OnlyM 387036695625920 x0 y0 from ?_) (fun hy0 => ?_)
    · unfold y0
      refine OnlyM.comp (loadSaved_only _ _) (by rfl) ?_
      exact OnlyM.refl _ _
    clear_value y0
    refine OnlyM.comp (setRole_only _ _) (by rfl) ?_
    assumption

theorem setBusReg_only : ∀ x0 x1 x2, OnlyM 8589934592 x0 (setBusReg x0 x1 x2) := by
  intro x0 x1 x2
  unfold setBusReg
  refine OnlyM.comp (upd_bus _ _) (by rfl) ?_
  exact OnlyM.refl _ _

theorem fieldStart_only : ∀ x0 x1 x2, OnlyM 387036712403137 x0 (fieldStart x0 x1 x2) := by
  intro x0 x1 x2
  unfold fieldStart
  lift_lets
  intro y0
  clear_value y0
  intro y1
  clear_value y1
  intro y2
  refine OnlyM.useHave (show OnlyM 387036712403137 x0 y2 from ?_) (fun hy2 => ?_)
  · unfold y2
    refine OnlyM.comp (upd_fboot_link _ _ _) (by rfl) ?_
    exact OnlyM.refl _ _
  clear_value y2
  intro y3
  clear_value y3
  intro y4
  refine OnlyM.useHave (show OnlyM 387036712403137 x0 y4 from ?_) (fun hy4 => ?_)
  · unfold y4
    refine OnlyM.comp (setBusReg_only _ _ _) (by rfl) ?_
    refine OnlyM.comp (upd_saf _ _) (by rfl) ?_
    assumption
  clear_value y4
  intro y5
  refine OnlyM.useHave (show OnlyM 387036712403137 x0 y5 from ?_) (fun hy5 => ?_)
  · unfold y5
    refine OnlyM.ite ?_ ?_
    · refine OnlyM.comp (logField_only _ _) (by rfl) ?_
      assumption
    · assumption
  clear_value y5
  intro y6
  clear_value y6
  intro y7
  refine OnlyM.useHave (show OnlyM 387036712403137 x0 y7 from ?_) (fun hy7 => ?_)
  · unfold y7
    refine OnlyM.ite ?_ ?_
    · refine OnlyM.comp (logField_only _ _) (by rfl) ?_
      refine OnlyM.comp (upd_saf _ _) (by rfl) ?_
      assumption
    · assumption
  clear_value y7
  refine OnlyM.comp (fieldLoad_only _) (by rfl) ?_
  assumption

theorem execFieldBoot_only : ∀ x0, OutOnly 387036712403137 x0 (execFieldBoot x0) := by
  intro x0
  unfold execFieldBoot
  refine OutOnly.next ?_
  refine OnlyM.ite ?_ ?_
  · exact OnlyM.refl _ _
  · lift_lets
    intro y0
    clear_value y0
    intro y1
    clear_value y1
    intro y2
    refine OnlyM.useHave (show OnlyM 387036712403137 x0 y2 from ?_) (fun hy2 => ?_)
    · unfold y2
      refine OnlyM.comp (upd_fboot _ _) (by rfl) ?_
      exact OnlyM.refl _ _
    clear_value y2
    intro y3
    clear_value y3
    intro y4
    clear_value y4
    split
    · refine OnlyM.comp (upd_fboot_bus _ _ _) (by rfl) ?_
      assumption
    · refine OnlyM.comp (fieldStart_only _ _ _) (by rfl) ?_
      assumption

theorem firmwareHalt_only : ∀ x0, OnlyM 8589934593 x0 (firmwareHalt x0) := by
  intro x0
  unfold firmwareHalt
  refine OnlyM.comp (upd_fboot_bus _ _ _) (by rfl) ?_
  exact OnlyM.refl _ _

theorem execFieldFirmwareHalt_only : ∀ x0, OutOnly 8589934593 x0 (execFieldFirmwareHalt x0) := by
  intro x0
  unfold execFieldFirmwareHalt
  refine OutOnly.next ?_
  refine OnlyM.ite ?_ ?_
  · refine OnlyM.comp (firmwareHalt_only _) (by rfl) ?_
    exact OnlyM.refl _ _
  · exact OnlyM.refl _ _

theorem replicaHeartbeat_only : ∀ x0 x1 x2, OnlyM 524288 x0 (replicaHeartbeat x0 x1 x2) := by
  intro x0 x1 x2
  unfold replicaHeartbeat
  refine OnlyM.ite ?_ ?_
  · exact OnlyM.refl _ _
  · lift_lets
    intro y0
    clear_value y0
    intro y1
    clear_value y1
    intro y2
    clear_value y2
    intro y3
    clear_value y3
    refine OnlyM.ite ?_ ?_
    · refine OnlyM.comp (upd_trep _ _) (by rfl) ?_
      exact OnlyM.refl _ _
    · refine OnlyM.comp (upd_trep _ _) (by rfl) ?_
      exact OnlyM.refl _ _

theorem execFieldHeartbeatReceive_only : ∀ x0, OutOnly 13369344 x0 (execFieldHeartbeatReceive x0) := by
  intro x0
  unfold execFieldHeartbeatReceive
  refine OutOnly.next ?_
  split
  · refine OnlyM.ite ?_ ?_
    · exact OnlyM.refl _ _
    · lift_lets
      intro y0
      clear_value y0
      intro y1
      clear_value y1
      intro y2
      clear_value y2
      refine OnlyM.comp (replicaHeartbeat_only _ _ _) (by rfl) ?_
      refine OnlyM.comp (upd_hclk_hend _ _ _) (by rfl) ?_
      exact OnlyM.mono (takeIn_of (by assumption)) (by rfl)
  · exact OnlyM.refl _ _

theorem execFieldHeartbeatSend_only : ∀ x0, OutOnly 12582912 x0 (execFieldHeartbeatSend x0) := by
  intro x0
  unfold execFieldHeartbeatSend
  refine OutOnly.next ?_
  refine OnlyM.ite ?_ ?_
  · refine OnlyM.comp (ropeSend_only _ _ _) (by rfl) ?_
    exact OnlyM.refl _ _
  · exact OnlyM.refl _ _

theorem fieldLost_only : ∀ x0, OnlyM 1972541321118912 x0 (fieldLost x0) := by
  intro x0
  unfold fieldLost
  lift_lets
  intro y0
  clear_value y0
  intro y1
  refine OnlyM.useHave (show OnlyM 1972541321118912 x0 y1 from ?_) (fun hy1 => ?_)
  · unfold y1
    refine OnlyM.comp (upd_hend _ _) (by rfl) ?_
    exact OnlyM.refl _ _
  clear_value y1
  intro y2
  intro y3
  clear_value y3
  intro y4
  clear_value y4
  intro y5
  refine OnlyM.useHave (show OnlyM 1972541321118912 x0 y5 from ?_) (fun hy5 => ?_)
  · unfold y5
    refine OnlyM.comp (upd_hend _ _) (by rfl) ?_
    assumption
  clear_value y5
  refine OnlyM.comp (linkNotice_only _ _) (by rfl) ?_
  refine OnlyM.comp (hostIrq_only _ _) (by rfl) ?_
  refine OnlyM.comp (failHostFrames_only _ _) (by rfl) ?_
  assumption

theorem execFieldHeartbeatTimeout_only : ∀ x0, OutOnly 1972541321118912 x0 (execFieldHeartbeatTimeout x0) := by
  intro x0
  unfold execFieldHeartbeatTimeout
  refine OutOnly.next ?_
  refine OnlyM.ite ?_ ?_
  · refine OnlyM.comp (fieldLost_only _) (by rfl) ?_
    exact OnlyM.refl _ _
  · exact OnlyM.refl _ _

theorem execFieldOnlyResetCommand_only : ∀ x0, OutOnly 2218848589430001 x0 (execFieldOnlyResetCommand x0) := by
  intro x0
  unfold execFieldOnlyResetCommand
  refine OutOnly.next ?_
  refine OnlyM.ite ?_ ?_
  · refine OnlyM.comp (fieldReset_only _ _) (by rfl) ?_
    refine OnlyM.comp (sdoAnswer_only _ _ _ _ _) (by rfl) ?_
    exact OnlyM.refl _ _
  · exact OnlyM.refl _ _

theorem execFieldSramUncorrectable_only : ∀ x0 x1, OutOnly 387028105560256 x1 (execFieldSramUncorrectable x0 x1) := by
  intro x0 x1
  unfold execFieldSramUncorrectable
  refine OutOnly.next ?_
  refine OnlyM.ite ?_ ?_
  · exact OnlyM.refl _ _
  · lift_lets
    intro y0
    refine OnlyM.useHave (show OnlyM 387028105560256 x1 y0 from ?_) (fun hy0 => ?_)
    · unfold y0
      refine OnlyM.comp (stoAll_only _) (by rfl) ?_
      exact OnlyM.refl _ _
    clear_value y0
    refine OnlyM.ite ?_ ?_
    · refine OnlyM.comp (logField_only _ _) (by rfl) ?_
      refine OnlyM.comp (putN_only _ _ _ _) (by rfl) ?_
      assumption
    · assumption

theorem execFieldTempSample_only : ∀ x0 x1, OutOnly 387036695494848 x1 (execFieldTempSample x0 x1) := by
  intro x0 x1
  unfold execFieldTempSample
  refine OutOnly.next ?_
  refine OnlyM.ite ?_ ?_
  · exact OnlyM.refl _ _
  · lift_lets
    intro y0
    refine OnlyM.useHave (show OnlyM 387036695494848 x1 y0 from ?_) (fun hy0 => ?_)
    · unfold y0
      refine OnlyM.comp (errorBit_only _ _ _) (by rfl) ?_
      refine OnlyM.comp (putI_only _ _ _ _) (by rfl) ?_
      exact OnlyM.refl _ _
    clear_value y0
    intro y1
    clear_value y1
    intro y2
    clear_value y2
    intro y3
    refine OnlyM.useHave (show OnlyM 387036695494848 x1 y3 from ?_) (fun hy3 => ?_)
    · unfold y3
      refine OnlyM.comp (stoAll_only _) (by rfl) ?_
      refine OnlyM.comp (upd_saf _ _) (by rfl) ?_
      assumption
    clear_value y3
    refine OnlyM.ite ?_ ?_
    · refine OnlyM.comp (logField_only _ _) (by rfl) ?_
      refine OnlyM.comp (emcy_only _ _ _ _) (by rfl) ?_
      assumption
    · assumption

theorem fieldTick_only : ∀ x0, OnlyM 2230304 x0 (fieldTick x0) := by
  intro x0
  unfold fieldTick
  lift_lets
  intro y0
  clear_value y0
  intro y1
  clear_value y1
  intro y2
  clear_value y2
  intro y3
  clear_value y3
  refine OnlyM.comp (upd_pulses_pos_fclk_sync _ _ _ _ _) (by rfl) ?_
  exact OnlyM.refl _ _

theorem execFieldTimeTick_only : ∀ x0, OutOnly 2230304 x0 (execFieldTimeTick x0) := by
  intro x0
  unfold execFieldTimeTick
  refine OutOnly.next ?_
  refine OnlyM.ite ?_ ?_
  · refine OnlyM.comp (fieldTick_only _) (by rfl) ?_
    exact OnlyM.refl _ _
  · exact OnlyM.refl _ _

theorem fieldHold_only : ∀ x0 x1 x2, OnlyM 1 x0 (fieldHold x0 x1 x2) := by
  intro x0 x1 x2
  unfold fieldHold
  refine OnlyM.comp (upd_fboot _ _) (by rfl) ?_
  exact OnlyM.refl _ _

theorem fieldHeld_only : ∀ x0 x1 x2, OnlyM 2218848589430001 x0 (fieldHeld x0 x1 x2) := by
  intro x0 x1 x2
  unfold fieldHeld
  refine OnlyM.comp (fieldReset_only _ _) (by rfl) ?_
  refine OnlyM.comp (fieldHold_only _ _ _) (by rfl) ?_
  refine OnlyM.comp (stoAll_only _) (by rfl) ?_
  exact OnlyM.refl _ _

theorem execFieldVinHigh_only : ∀ x0, OutOnly 2218848589430001 x0 (execFieldVinHigh x0) := by
  intro x0
  unfold execFieldVinHigh
  refine OutOnly.next ?_
  refine OnlyM.comp (fieldHeld_only _ _ _) (by rfl) ?_
  exact OnlyM.refl _ _

theorem fieldUnheld_only : ∀ x0 x1, OnlyM 1 x0 (fieldUnheld x0 x1) := by
  intro x0 x1
  unfold fieldUnheld
  refine OnlyM.ite ?_ ?_
  · exact OnlyM.refl _ _
  · lift_lets
    intro y0
    refine OnlyM.useHave (show OnlyM 1 x0 y0 from ?_) (fun hy0 => ?_)
    · unfold y0
      refine OnlyM.comp (fieldHold_only _ _ _) (by rfl) ?_
      exact OnlyM.refl _ _
    clear_value y0
    intro y1
    clear_value y1
    refine OnlyM.ite ?_ ?_
    · refine OnlyM.comp (upd_fboot _ _) (by rfl) ?_
      assumption
    · assumption

theorem execFieldVinHighRelease_only : ∀ x0, OutOnly 1 x0 (execFieldVinHighRelease x0) := by
  intro x0
  unfold execFieldVinHighRelease
  refine OutOnly.next ?_
  refine OnlyM.comp (fieldUnheld_only _ _) (by rfl) ?_
  exact OnlyM.refl _ _

theorem execFieldVinLow_only : ∀ x0, OutOnly 2218848589430001 x0 (execFieldVinLow x0) := by
  intro x0
  unfold execFieldVinLow
  refine OutOnly.next ?_
  refine OnlyM.comp (fieldHeld_only _ _ _) (by rfl) ?_
  exact OnlyM.refl _ _

theorem execFieldVinRise_only : ∀ x0, OutOnly 1 x0 (execFieldVinRise x0) := by
  intro x0
  unfold execFieldVinRise
  refine OutOnly.next ?_
  refine OnlyM.comp (fieldUnheld_only _ _) (by rfl) ?_
  exact OnlyM.refl _ _

theorem execFieldbusPortLinkChange_only : ∀ x0 x1 x2, OutOnly 387036695625920 x2 (execFieldbusPortLinkChange x0 x1 x2) := by
  intro x0 x1 x2
  unfold execFieldbusPortLinkChange
  refine OutOnly.next ?_
  lift_lets
  intro y0
  clear_value y0
  intro y1
  clear_value y1
  intro y2
  refine OnlyM.useHave (show OnlyM 387036695625920 x2 y2 from ?_) (fun hy2 => ?_)
  · unfold y2
    refine OnlyM.ite ?_ ?_
    · refine OnlyM.comp (upd_bus _ _) (by rfl) ?_
      exact OnlyM.refl _ _
    · refine OnlyM.comp (upd_bus _ _) (by rfl) ?_
      exact OnlyM.refl _ _
  clear_value y2
  refine OnlyM.ite ?_ ?_
  · refine OnlyM.comp (fieldClockLoss_only _) (by rfl) ?_
    assumption
  · assumption

theorem execFireReport_only : ∀ x0, OutOnly 73728 x0 (execFireReport x0) := by
  intro x0
  unfold execFireReport
  refine OutOnly.next ?_
  split
  · refine OnlyM.ite ?_ ?_
    · lift_lets
      intro y0
      clear_value y0
      intro y1
      refine OnlyM.useHave (show OnlyM 73728 x0 y1 from ?_) (fun hy1 => ?_)
      · unfold y1
        refine OnlyM.comp (upd_replica _ _) (by rfl) ?_
        exact OnlyM.refl _ _
      clear_value y1
      refine OnlyM.ite ?_ ?_
      · refine OnlyM.comp (upd_hMaster _ _) (by rfl) ?_
        assumption
      · assumption
    · exact OnlyM.refl _ _
  · exact OnlyM.refl _ _

theorem foeAnswer_only : ∀ x0 x1, OnlyM 8589934592 x0 (foeAnswer x0 x1) := by
  intro x0 x1
  unfold foeAnswer
  refine OnlyM.comp (upd_bus _ _) (by rfl) ?_
  exact OnlyM.refl _ _

theorem execFoeReadLog_only : ∀ x0 x1, OutOnly 8589934592 x1 (execFoeReadLog x0 x1) := by
  intro x0 x1
  unfold execFoeReadLog
  refine OutOnly.next ?_
  refine OnlyM.ite ?_ ?_
  · exact OnlyM.refl _ _
  · refine OnlyM.ite ?_ ?_
    · refine OnlyM.comp (foeAnswer_only _ _) (by rfl) ?_
      exact OnlyM.refl _ _
    · refine OnlyM.ite ?_ ?_
      · refine OnlyM.comp (foeAnswer_only _ _) (by rfl) ?_
        exact OnlyM.refl _ _
      · refine OnlyM.comp (foeAnswer_only _ _) (by rfl) ?_
        refine OnlyM.comp (upd_bus _ _) (by rfl) ?_
        exact OnlyM.refl _ _

theorem execFoeWriteIkf_only : ∀ x0 x1 x2 x3, OutOnly 8589934593 x3 (execFoeWriteIkf x0 x1 x2 x3) := by
  intro x0 x1 x2 x3
  unfold execFoeWriteIkf
  refine OutOnly.next ?_
  refine OnlyM.ite ?_ ?_
  · exact OnlyM.refl _ _
  · refine OnlyM.ite ?_ ?_
    · refine OnlyM.comp (foeAnswer_only _ _) (by rfl) ?_
      exact OnlyM.refl _ _
    · refine OnlyM.ite ?_ ?_
      · refine OnlyM.comp (foeAnswer_only _ _) (by rfl) ?_
        exact OnlyM.refl _ _
      · lift_lets
        intro y0
        clear_value y0
        intro y1
        clear_value y1
        intro y2
        clear_value y2
        refine OnlyM.comp (foeAnswer_only _ _) (by rfl) ?_
        refine OnlyM.comp (upd_fboot_bus _ _ _) (by rfl) ?_
        exact OnlyM.refl _ _

theorem execFoeWriteIkh_only : ∀ x0 x1 x2 x3, OutOnly 8589934786 x3 (execFoeWriteIkh x0 x1 x2 x3) := by
  intro x0 x1 x2 x3
  unfold execFoeWriteIkh
  refine OutOnly.next ?_
  refine OnlyM.ite ?_ ?_
  · exact OnlyM.refl _ _
  · refine OnlyM.ite ?_ ?_
    · refine OnlyM.comp (foeAnswer_only _ _) (by rfl) ?_
      exact OnlyM.refl _ _
    · refine OnlyM.ite ?_ ?_
      · refine OnlyM.comp (foeAnswer_only _ _) (by rfl) ?_
        exact OnlyM.refl _ _
      · refine OnlyM.ite ?_ ?_
        · refine OnlyM.comp (foeAnswer_only _ _) (by rfl) ?_
          exact OnlyM.refl _ _
        · refine OnlyM.ite ?_ ?_
          · refine OnlyM.comp (foeAnswer_only _ _) (by rfl) ?_
            exact OnlyM.refl _ _
          · refine OnlyM.ite ?_ ?_
            · lift_lets
              intro y0
              clear_value y0
              intro y1
              clear_value y1
              intro y2
              clear_value y2
              refine OnlyM.comp (foeAnswer_only _ _) (by rfl) ?_
              refine OnlyM.comp (upd_hboot _ _) (by rfl) ?_
              exact OnlyM.refl _ _
            · refine OnlyM.ite ?_ ?_
              · lift_lets
                intro y3
                clear_value y3
                intro y4
                clear_value y4
                refine OnlyM.comp (foeAnswer_only _ _) (by rfl) ?_
                refine OnlyM.comp (putN_only _ _ _ _) (by rfl) ?_
                refine OnlyM.comp (upd_hboot _ _) (by rfl) ?_
                exact OnlyM.refl _ _
              · refine OnlyM.comp (foeAnswer_only _ _) (by rfl) ?_
                exact OnlyM.refl _ _

theorem undoSlot_only : ∀ x0 x1, OnlyM 2147483648 x0 (undoSlot x0 x1) := by
  intro x0 x1
  unfold undoSlot
  split
  · refine OnlyM.ite ?_ ?_
    · refine OnlyM.comp (upd_undo _ _) (by rfl) ?_
      exact OnlyM.refl _ _
    · exact OnlyM.refl _ _
  · exact OnlyM.refl _ _

theorem slotLoad_only : ∀ x0 x1 x2, OnlyM 2201170739200 x0 (slotLoad x0 x1 x2) := by
  intro x0 x1 x2
  unfold slotLoad
  lift_lets
  intro y0
  clear_value y0
  intro y1
  clear_value y1
  intro y2
  clear_value y2
  intro y3
  refine OnlyM.useHave (show OnlyM 2201170739200 x0 y3 from ?_) (fun hy3 => ?_)
  · unfold y3
    refine OnlyM.comp (upd_gal _ _) (by rfl) ?_
    exact OnlyM.refl _ _
  clear_value y3
  refine OnlyM.ite ?_ ?_
  · refine OnlyM.comp (setSlot_only _ _ _) (by rfl) ?_
    refine OnlyM.comp (undoSlot_only _ _) (by rfl) ?_
    assumption
  · exact OnlyM.refl _ _

theorem execFoeWriteIkm_only : ∀ x0 x1 x2 x3 x4, OutOnly 2209760673792 x4 (execFoeWriteIkm x0 x1 x2 x3 x4) := by
  intro x0 x1 x2 x3 x4
  unfold execFoeWriteIkm
  refine OutOnly.next ?_
  refine OnlyM.ite ?_ ?_
  · exact OnlyM.refl _ _
  · refine OnlyM.ite ?_ ?_
    · refine OnlyM.comp (foeAnswer_only _ _) (by rfl) ?_
      exact OnlyM.refl _ _
    · refine OnlyM.ite ?_ ?_
      · refine OnlyM.comp (foeAnswer_only _ _) (by rfl) ?_
        exact OnlyM.refl _ _
      · refine OnlyM.ite ?_ ?_
        · refine OnlyM.comp (foeAnswer_only _ _) (by rfl) ?_
          exact OnlyM.refl _ _
        · refine OnlyM.ite ?_ ?_
          · refine OnlyM.comp (foeAnswer_only _ _) (by rfl) ?_
            exact OnlyM.refl _ _
          · refine OnlyM.ite ?_ ?_
            · refine OnlyM.comp (foeAnswer_only _ _) (by rfl) ?_
              refine OnlyM.comp (slotLoad_only _ _ _) (by rfl) ?_
              exact OnlyM.refl _ _
            · refine OnlyM.comp (foeAnswer_only _ _) (by rfl) ?_
              exact OnlyM.refl _ _

theorem followTake_only : ∀ x0 x1 x2, OnlyM 1520032964222192 x0 (followTake x0 x1 x2) := by
  intro x0 x1 x2
  unfold followTake
  lift_lets
  intro y0
  clear_value y0
  intro y1
  refine OnlyM.useHave (show OnlyM 1520032964222192 x0 y1 from ?_) (fun hy1 => ?_)
  · unfold y1
    refine OnlyM.comp (upd_pos _ _) (by rfl) ?_
    exact OnlyM.refl _ _
  clear_value y1
  intro y2
  clear_value y2
  intro y3
  refine OnlyM.useHave (show OnlyM 1520032964222192 x0 y3 from ?_) (fun hy3 => ?_)
  · unfold y3
    refine OnlyM.comp (upd_pos _ _) (by rfl) ?_
    assumption
  clear_value y3
  intro y4
  clear_value y4
  intro y5
  clear_value y5
  intro y6
  refine OnlyM.useHave (show OnlyM 1520032964222192 x0 y6 from ?_) (fun hy6 => ?_)
  · unfold y6
    refine OnlyM.ite ?_ ?_
    · assumption
    · refine OnlyM.ite ?_ ?_
      · refine OnlyM.comp (encoderReturn_only _) (by rfl) ?_
        assumption
      · assumption
  clear_value y6
  intro y7
  refine OnlyM.useHave (show OnlyM 1520032964222192 x0 y7 from ?_) (fun hy7 => ?_)
  · unfold y7
    refine OnlyM.ite ?_ ?_
    · refine OnlyM.comp (stepTo_only _ _) (by rfl) ?_
      assumption
    · assumption
  clear_value y7
  intro y8
  clear_value y8
  refine OnlyM.ite ?_ ?_
  · assumption
  · refine OnlyM.ite ?_ ?_
    · refine OnlyM.comp (upd_pos _ _) (by rfl) ?_
      assumption
    · assumption

theorem execFollowerSample_only : ∀ x0, OutOnly 1520032964222192 x0 (execFollowerSample x0) := by
  intro x0
  unfold execFollowerSample
  refine OutOnly.next ?_
  refine OnlyM.ite ?_ ?_
  · exact OnlyM.refl _ _
  · lift_lets
    intro y0
    clear_value y0
    intro y1
    clear_value y1
    split
    · refine OnlyM.ite ?_ ?_
      · exact OnlyM.refl _ _
      · refine OnlyM.ite ?_ ?_
        · refine OnlyM.comp (bump_only _ _ _ _) (by rfl) ?_
          exact OnlyM.refl _ _
        · refine OnlyM.comp (followTake_only _ _ _) (by rfl) ?_
          exact OnlyM.refl _ _
    · refine OnlyM.comp (followTake_only _ _ _) (by rfl) ?_
      exact OnlyM.refl _ _

theorem execFollowerSampleTimeout_only : ∀ x0, OutOnly 1520032964222192 x0 (execFollowerSampleTimeout x0) := by
  intro x0
  unfold execFollowerSampleTimeout
  refine OutOnly.next ?_
  refine OnlyM.ite ?_ ?_
  · refine OnlyM.comp (encoderLoss_only _) (by rfl) ?_
    refine OnlyM.comp (upd_pos _ _) (by rfl) ?_
    exact OnlyM.refl _ _
  · exact OnlyM.refl _ _

theorem execFollowerSyntheticEdge_only : ∀ x0, OutOnly 1520024374287600 x0 (execFollowerSyntheticEdge x0) := by
  intro x0
  unfold execFollowerSyntheticEdge
  refine OutOnly.next ?_
  refine OnlyM.ite ?_ ?_
  · lift_lets
    intro y0
    clear_value y0
    intro y1
    clear_value y1
    intro y2
    clear_value y2
    intro y3
    clear_value y3
    refine OnlyM.ite ?_ ?_
    · refine OnlyM.comp (moveOne_only _ _ _) (by rfl) ?_
      refine OnlyM.comp (upd_pos _ _) (by rfl) ?_
      exact OnlyM.refl _ _
    · exact OnlyM.refl _ _
  · exact OnlyM.refl _ _

theorem execFollowingErrorTimeout_only : ∀ x0 x1, OutOnly 387036695494848 x1 (execFollowingErrorTimeout x0 x1) := by
  intro x0 x1
  unfold execFollowingErrorTimeout
  lift_lets
  intro y0
  clear_value y0
  intro y1
  clear_value y1
  intro y2
  clear_value y2
  refine OutOnly.next ?_
  refine OnlyM.ite ?_ ?_
  · refine OnlyM.comp (faultOption_only _ _ _ _ _) (by rfl) ?_
    refine OnlyM.comp (homingFailed_only _ _) (by rfl) ?_
    exact OnlyM.refl _ _
  · exact OnlyM.refl _ _

theorem forwardEnd_only : ∀ x0 x1 x2, OnlyM 8589934592 x0 (forwardEnd x0 x1 x2) := by
  intro x0 x1 x2
  unfold forwardEnd
  lift_lets
  intro y0
  intro y1
  clear_value y1
  intro y2
  clear_value y2
  refine OnlyM.comp (upd_bus _ _) (by rfl) ?_
  exact OnlyM.refl _ _

theorem uploadAnswer_only : ∀ x0 x1 x2 x3 x4, OnlyM 8589934592 x0 (uploadAnswer x0 x1 x2 x3 x4) := by
  intro x0 x1 x2 x3 x4
  unfold uploadAnswer
  refine OnlyM.ite ?_ ?_
  · refine OnlyM.comp (sdoAnswer_only _ _ _ _ _) (by rfl) ?_
    refine OnlyM.comp (endTransfer_only _) (by rfl) ?_
    exact OnlyM.refl _ _
  · refine OnlyM.comp (sdoAnswer_only _ _ _ _ _) (by rfl) ?_
    refine OnlyM.comp (upd_bus _ _) (by rfl) ?_
    exact OnlyM.refl _ _

theorem forwardDone_only : ∀ x0 x1 x2 x3 x4, OnlyM 8589934592 x0 (forwardDone x0 x1 x2 x3 x4) := by
  intro x0 x1 x2 x3 x4
  unfold forwardDone
  lift_lets
  intro y0
  clear_value y0
  intro y1
  clear_value y1
  intro y2
  refine OnlyM.useHave (show OnlyM 8589934592 x0 y2 from ?_) (fun hy2 => ?_)
  · unfold y2
    refine OnlyM.comp (forwardEnd_only _ _ _) (by rfl) ?_
    exact OnlyM.refl _ _
  clear_value y2
  refine OnlyM.ite ?_ ?_
  · refine OnlyM.comp (upd_bus _ _) (by rfl) ?_
    exact OnlyM.refl _ _
  · refine OnlyM.ite ?_ ?_
    · refine OnlyM.comp (sdoAnswer_only _ _ _ _ _) (by rfl) ?_
      assumption
    · refine OnlyM.ite ?_ ?_
      · refine OnlyM.comp (uploadAnswer_only _ _ _ _ _) (by rfl) ?_
        assumption
      · refine OnlyM.ite ?_ ?_
        · refine OnlyM.comp (sdoAnswer_only _ _ _ _ _) (by rfl) ?_
          assumption
        · refine OnlyM.ite ?_ ?_
          · refine OnlyM.comp (sdoAnswer_only _ _ _ _ _) (by rfl) ?_
            assumption
          · assumption

theorem execForwardAnswerArrival_only : ∀ x0, OutOnly 8602517504 x0 (execForwardAnswerArrival x0) := by
  intro x0
  unfold execForwardAnswerArrival
  refine OutOnly.next ?_
  split
  · exact OnlyM.refl _ _
  · refine OnlyM.ite ?_ ?_
    · exact OnlyM.refl _ _
    · lift_lets
      intro y0
      refine OnlyM.useHave (show OnlyM 8602517504 x0 y0 from ?_) (fun hy0 => ?_)
      · unfold y0
        exact OnlyM.mono (takeIn_of (by assumption)) (by rfl)
      clear_value y0
      split
      · assumption
      · refine OnlyM.comp (forwardDone_only _ _ _ _ _) (by rfl) ?_
        assumption

theorem portEnd_only : ∀ x0 x1 x2, OnlyM 1407392076006592 x0 (portEnd x0 x1 x2) := by
  intro x0 x1 x2
  unfold portEnd
  refine OnlyM.comp (portDone_only _ _ _ _ _ _ _ _ _ _) (by rfl) ?_
  exact OnlyM.refl _ _

theorem execForwardTimeout_only : ∀ x0 x1, OutOnly 1407400699495616 x1 (execForwardTimeout x0 x1) := by
  intro x0 x1
  unfold execForwardTimeout
  refine OutOnly.next ?_
  split
  · refine OnlyM.ite ?_ ?_
    · refine OnlyM.comp (sdoAnswer_only _ _ _ _ _) (by rfl) ?_
      refine OnlyM.comp (forwardEnd_only _ _ _) (by rfl) ?_
      exact OnlyM.refl _ _
    · exact OnlyM.refl _ _
  · split
    · exact OnlyM.refl _ _
    · lift_lets
      intro y0
      refine OnlyM.useHave (show OnlyM 1407400699495616 x1 y0 from ?_) (fun hy0 => ?_)
      · unfold y0
        refine OnlyM.comp (upd_hostSlots _ _) (by rfl) ?_
        exact OnlyM.refl _ _
      clear_value y0
      split
      · refine OnlyM.comp (portEnd_only _ _ _) (by rfl) ?_
        assumption
      · assumption

theorem forwardIn_only : ∀ x0 x1 x2 x3 x4 x5, OnlyM 1407392109561024 x0 (forwardIn x0 x1 x2 x3 x4 x5) := by
  intro x0 x1 x2 x3 x4 x5
  unfold forwardIn
  lift_lets
  intro y0
  clear_value y0
  intro y1
  refine OnlyM.useHave (show OnlyM 1407392109561024 x0 y1 from ?_) (fun hy1 => ?_)
  · unfold y1
    refine OnlyM.comp (upd_hostSlots _ _) (by rfl) ?_
    exact OnlyM.refl _ _
  clear_value y1
  intro y2
  refine OnlyM.useHave (show OnlyM 1407392109561024 x0 y2 from ?_) (fun hy2 => ?_)
  · unfold y2
    refine OnlyM.ite ?_ ?_
    · assumption
    · refine OnlyM.comp (engStore_only _ _ _ _) (by rfl) ?_
      assumption
  clear_value y2
  refine OnlyM.comp (d2hPut_only _ _) (by rfl) ?_
  assumption

theorem execForwardedRequestArrival_only : ∀ x0, OutOnly 1407392176669888 x0 (execForwardedRequestArrival x0) := by
  intro x0
  unfold execForwardedRequestArrival
  refine OutOnly.next ?_
  split
  · exact OnlyM.refl _ _
  · refine OnlyM.ite ?_ ?_
    · exact OnlyM.refl _ _
    · lift_lets
      intro y0
      refine OnlyM.useHave (show OnlyM 1407392176669888 x0 y0 from ?_) (fun hy0 => ?_)
      · unfold y0
        exact OnlyM.mono (takeIn_of (by assumption)) (by rfl)
      clear_value y0
      intro y1
      clear_value y1
      intro y2
      clear_value y2
      intro y3
      clear_value y3
      intro y4
      split
      · refine OnlyM.comp (forwardIn_only _ _ _ _ _ _) (by rfl) ?_
        refine OnlyM.comp (upd_fwdValue _ _) (by rfl) ?_
        assumption
      · refine OnlyM.comp (answerMaster_only _ _ _ _ _ _ _) (by rfl) ?_
        refine OnlyM.comp (upd_fwdValue _ _) (by rfl) ?_
        assumption

theorem fieldFraction_only : ∀ x0, OnlyM 1520024374287600 x0 (fieldFraction x0) := by
  intro x0
  unfold fieldFraction
  lift_lets
  intro y0
  clear_value y0
  intro y1
  clear_value y1
  intro y2
  refine OnlyM.useHave (show OnlyM 1520024374287600 x0 y2 from ?_) (fun hy2 => ?_)
  · unfold y2
    refine OnlyM.comp (upd_pos _ _) (by rfl) ?_
    exact OnlyM.refl _ _
  clear_value y2
  intro y3
  refine OnlyM.useHave (show OnlyM 1520024374287600 x0 y3 from ?_) (fun hy3 => ?_)
  · unfold y3
    refine OnlyM.comp (moveCompare_only _ _ _ _ _ _ _) (by rfl) ?_
    assumption
  clear_value y3
  refine OnlyM.comp (pulseCntEnds_only _ _ _ _) (by rfl) ?_
  assumption

theorem replicaFraction_only : ∀ x0, OnlyM 1520024374287600 x0 (replicaFraction x0) := by
  intro x0
  unfold replicaFraction
  lift_lets
  intro y0
  clear_value y0
  intro y1
  clear_value y1
  intro y2
  refine OnlyM.useHave (show OnlyM 1520024374287600 x0 y2 from ?_) (fun hy2 => ?_)
  · unfold y2
    refine OnlyM.comp (upd_replica _ _) (by rfl) ?_
    exact OnlyM.refl _ _
  clear_value y2
  intro y3
  refine OnlyM.useHave (show OnlyM 1520024374287600 x0 y3 from ?_) (fun hy3 => ?_)
  · unfold y3
    refine OnlyM.comp (moveCompare_only _ _ _ _ _ _ _) (by rfl) ?_
    assumption
  clear_value y3
  refine OnlyM.comp (pulseCntEnds_only _ _ _ _) (by rfl) ?_
  assumption

theorem execFractionTick_only : ∀ x0, OutOnly 1520024374287600 x0 (execFractionTick x0) := by
  intro x0
  unfold execFractionTick
  refine OutOnly.next ?_
  lift_lets
  intro y0
  refine OnlyM.useHave (show OnlyM 1520024374287600 x0 y0 from ?_) (fun hy0 => ?_)
  · unfold y0
    refine OnlyM.ite ?_ ?_
    · refine OnlyM.comp (fieldFraction_only _) (by rfl) ?_
      exact OnlyM.refl _ _
    · exact OnlyM.refl _ _
  clear_value y0
  refine OnlyM.ite ?_ ?_
  · refine OnlyM.comp (replicaFraction_only _) (by rfl) ?_
    assumption
  · assumption

theorem execFrameStartDelimiter_only : ∀ x0 x1, OutOnly 8589934592 x1 (execFrameStartDelimiter x0 x1) := by
  intro x0 x1
  unfold execFrameStartDelimiter
  refine OutOnly.next ?_
  refine OnlyM.ite ?_ ?_
  · lift_lets
    intro y0
    clear_value y0
    intro y1
    refine OnlyM.useHave (show OnlyM 8589934592 x1 y1 from ?_) (fun hy1 => ?_)
    · unfold y1
      refine OnlyM.comp (upd_bus _ _) (by rfl) ?_
      exact OnlyM.refl _ _
    clear_value y1
    intro y2
    clear_value y2
    refine OnlyM.comp (upd_bus _ _) (by rfl) ?_
    assumption
  · exact OnlyM.refl _ _

theorem execFullResetCommand_only : ∀ x0, OutOnly 8602517505 x0 (execFullResetCommand x0) := by
  intro x0
  unfold execFullResetCommand
  refine OutOnly.next ?_
  refine OnlyM.ite ?_ ?_
  · lift_lets
    intro y0
    refine OnlyM.useHave (show OnlyM 8602517505 x0 y0.1 from ?_) (fun hy0 => ?_)
    · unfold y0
      refine OnlyM.comp (fullResetWrite_only _) (by rfl) ?_
      exact OnlyM.refl _ _
    clear_value y0
    refine OnlyM.comp (sdoAnswer_only _ _ _ _ _) (by rfl) ?_
    assumption
  · exact OnlyM.refl _ _

theorem execFullResetDelayExpiry_only : ∀ x0, OutOnly 2218848589430001 x0 (execFullResetDelayExpiry x0) := by
  intro x0
  unfold execFullResetDelayExpiry
  refine OutOnly.next ?_
  split
  · refine OnlyM.ite ?_ ?_
    · refine OnlyM.comp (fieldReset_only _ _) (by rfl) ?_
      exact OnlyM.refl _ _
    · exact OnlyM.refl _ _
  · exact OnlyM.refl _ _

theorem execFullResetRequest_only : ∀ x0, OutOnly 12582914 x0 (execFullResetRequest x0) := by
  intro x0
  unfold execFullResetRequest
  refine OutOnly.next ?_
  split
  · lift_lets
    intro y0
    refine OnlyM.useHave (show OnlyM 12582914 x0 y0 from ?_) (fun hy0 => ?_)
    · unfold y0
      refine OnlyM.comp (hostAsk_only _ _) (by rfl) ?_
      exact OnlyM.mono (takeIn_of (by assumption)) (by rfl)
    clear_value y0
    intro y1
    clear_value y1
    refine OnlyM.ite ?_ ?_
    · refine OnlyM.comp (upd_hboot _ _) (by rfl) ?_
      assumption
    · assumption
  · exact OnlyM.refl _ _

theorem execGalleryFrameStart_only : ∀ x0, OutOnly 2199023255552 x0 (execGalleryFrameStart x0) := by
  intro x0
  unfold execGalleryFrameStart
  refine OutOnly.next ?_
  refine OnlyM.ite ?_ ?_
  · refine OnlyM.comp (upd_gal _ _) (by rfl) ?_
    exact OnlyM.refl _ _
  · exact OnlyM.refl _ _

theorem recordDelta_only : ∀ x0, OnlyM 562949953421312 x0 (recordDelta x0) := by
  intro x0
  unfold recordDelta
  split
  · refine OnlyM.ite ?_ ?_
    · refine OnlyM.comp (upd_pwr _ _) (by rfl) ?_
      exact OnlyM.refl _ _
    · exact OnlyM.refl _ _
  · exact OnlyM.refl _ _

theorem execGovernorDeltaP_only : ∀ x0, OutOnly 562949953421312 x0 (execGovernorDeltaP x0) := by
  intro x0
  unfold execGovernorDeltaP
  refine OutOnly.next ?_
  refine OnlyM.comp (recordDelta_only _) (by rfl) ?_
  exact OnlyM.refl _ _

theorem preemptAllB_only : ∀ x0, OnlyM 2199023255552 x0 (preemptAllB x0) := by
  intro x0
  unfold preemptAllB
  refine OnlyM.foldl ?_ (fun _ _ _ => ?_)
  · exact OnlyM.refl _ _
  · split
    · refine OnlyM.ite ?_ ?_
      · refine OnlyM.comp (requestPreemption_only _ _) (by rfl) ?_
        assumption
      · assumption
    · assumption

theorem setLevel_only : ∀ x0 x1, OnlyM 565148976676864 x0 (setLevel x0 x1) := by
  intro x0 x1
  unfold setLevel
  lift_lets
  intro y0
  clear_value y0
  intro y1
  refine OnlyM.useHave (show OnlyM 565148976676864 x0 y1 from ?_) (fun hy1 => ?_)
  · unfold y1
    refine OnlyM.comp (upd_pwr _ _) (by rfl) ?_
    exact OnlyM.refl _ _
  clear_value y1
  refine OnlyM.ite ?_ ?_
  · refine OnlyM.comp (preemptAllB_only _) (by rfl) ?_
    assumption
  · assumption

theorem govern_only : ∀ x0, OnlyM 846623965970624 x0 (govern x0) := by
  intro x0
  unfold govern
  lift_lets
  intro y0
  refine OnlyM.useHave (show OnlyM 846623965970624 x0 y0 from ?_) (fun hy0 => ?_)
  · unfold y0
    refine OnlyM.comp (upd_pwr _ _) (by rfl) ?_
    exact OnlyM.refl _ _
  clear_value y0
  intro y1
  refine OnlyM.useHave (show OnlyM 846623965970624 x0 y1 from ?_) (fun hy1 => ?_)
  · unfold y1
    refine OnlyM.comp (recordDelta_only _) (by rfl) ?_
    assumption
  clear_value y1
  intro y2
  clear_value y2
  intro y3
  clear_value y3
  intro y4
  refine OnlyM.useHave (show OnlyM 846623965970624 x0 y4 from ?_) (fun hy4 => ?_)
  · unfold y4
    refine OnlyM.comp (bump_only _ _ _ _) (by rfl) ?_
    assumption
  clear_value y4
  intro y5
  refine OnlyM.useHave (show OnlyM 846623965970624 x0 y5 from ?_) (fun hy5 => ?_)
  · unfold y5
    refine OnlyM.comp (logHost_only _ _) (by rfl) ?_
    assumption
  clear_value y5
  intro y6
  clear_value y6
  intro y7
  refine OnlyM.useHave (show OnlyM 846623965970624 x0 y7 from ?_) (fun hy7 => ?_)
  · unfold y7
    refine OnlyM.comp (setLevel_only _ _) (by rfl) ?_
    refine OnlyM.comp (bump_only _ _ _ _) (by rfl) ?_
    assumption
  clear_value y7
  intro y8
  clear_value y8
  intro y9
  refine OnlyM.useHave (show OnlyM 846623965970624 x0 y9 from ?_) (fun hy9 => ?_)
  · unfold y9
    refine OnlyM.comp (setLevel_only _ _) (by rfl) ?_
    assumption
  clear_value y9
  intro y10
  clear_value y10
  refine OnlyM.ite ?_ ?_
  · refine OnlyM.ite ?_ ?_
    · refine OnlyM.comp (upd_pwr _ _) (by rfl) ?_
      assumption
    · assumption
  · refine OnlyM.ite ?_ ?_
    · refine OnlyM.comp (upd_pwr _ _) (by rfl) ?_
      assumption
    · refine OnlyM.ite ?_ ?_
      · refine OnlyM.comp (upd_pwr _ _) (by rfl) ?_
        assumption
      · assumption

theorem execGovernorTick_only : ∀ x0, OutOnly 846623965970624 x0 (execGovernorTick x0) := by
  intro x0
  unfold execGovernorTick
  refine OutOnly.next ?_
  refine OnlyM.ite ?_ ?_
  · refine OnlyM.comp (govern_only _) (by rfl) ?_
    exact OnlyM.refl _ _
  · exact OnlyM.refl _ _

theorem execHResetLLow_only : ∀ x0, OutOnly 2 x0 (execHResetLLow x0) := by
  intro x0
  unfold execHResetLLow
  refine OutOnly.next ?_
  refine OnlyM.comp (hostAsk_only _ _) (by rfl) ?_
  exact OnlyM.refl _ _

theorem execHWakeLLow_only : ∀ x0, OutOnly 562949953421506 x0 (execHWakeLLow x0) := by
  intro x0
  unfold execHWakeLLow
  refine OutOnly.next ?_
  refine OnlyM.ite ?_ ?_
  · refine OnlyM.ite ?_ ?_
    · refine OnlyM.comp (hostRelease_only _ _) (by rfl) ?_
      exact OnlyM.refl _ _
    · exact OnlyM.refl _ _
  · refine OnlyM.comp (wakeSource_only _ _) (by rfl) ?_
    exact OnlyM.refl _ _

theorem execHardStopHome_only : ∀ x0 x1, OutOnly 70368744177664 x1 (execHardStopHome x0 x1) := by
  intro x0 x1
  unfold execHardStopHome
  lift_lets
  intro y0
  clear_value y0
  intro y1
  clear_value y1
  intro y2
  clear_value y2
  intro y3
  refine OnlyM.useHave (show OnlyM 70368744177664 x1 y3 from ?_) (fun hy3 => ?_)
  · unfold y3
    refine OnlyM.comp (takeHome_only _ _) (by rfl) ?_
    exact OnlyM.refl _ _
  clear_value y3
  intro y4
  clear_value y4
  refine OutOnly.next ?_
  refine OnlyM.ite ?_ ?_
  · refine OnlyM.comp (setCe_only _ _ _) (by rfl) ?_
    assumption
  · exact OnlyM.refl _ _

theorem hostLost_only : ∀ x0, OnlyM 387037769236672 x0 (hostLost x0) := by
  intro x0
  unfold hostLost
  lift_lets
  intro y0
  clear_value y0
  intro y1
  refine OnlyM.useHave (show OnlyM 387037769236672 x0 y1 from ?_) (fun hy1 => ?_)
  · unfold y1
    refine OnlyM.comp (upd_fend _ _) (by rfl) ?_
    exact OnlyM.refl _ _
  clear_value y1
  refine OnlyM.comp (startReaction_only _ _ _ _ _ _ _ _ _) (by rfl) ?_
  refine OnlyM.comp (forwardsAbort_only _) (by rfl) ?_
  refine OnlyM.comp (setsHostDown_only _) (by rfl) ?_
  assumption

theorem execHeartbeatTimeout_only : ∀ x0, OutOnly 387037769236672 x0 (execHeartbeatTimeout x0) := by
  intro x0
  unfold execHeartbeatTimeout
  refine OutOnly.next ?_
  refine OnlyM.ite ?_ ?_
  · refine OnlyM.comp (hostLost_only _) (by rfl) ?_
    exact OnlyM.refl _ _
  · exact OnlyM.refl _ _

theorem execHintPeriodEnd_only : ∀ x0, OutOnly 8796093022400 x0 (execHintPeriodEnd x0) := by
  intro x0
  unfold execHintPeriodEnd
  refine OutOnly.next ?_
  refine OnlyM.ite ?_ ?_
  · exact OnlyM.refl _ _
  · lift_lets
    intro y0
    refine OnlyM.useHave (show OnlyM 8796093022400 x0 y0 from ?_) (fun hy0 => ?_)
    · unfold y0
      refine OnlyM.foldl ?_ (fun _ _ _ => ?_)
      · exact OnlyM.refl _ _
      · split
        · refine OnlyM.comp (bump_only _ _ _ _) (by rfl) ?_
          refine OnlyM.comp (upd_lan _ _) (by rfl) ?_
          assumption
        · assumption
    clear_value y0
    intro y1
    clear_value y1
    refine OnlyM.comp (upd_lan _ _) (by rfl) ?_
    assumption

theorem execHintSetArrival_only : ∀ x0 x1, OutOnly 1416600485889216 x1 (execHintSetArrival x0 x1) := by
  intro x0 x1
  unfold execHintSetArrival
  lift_lets
  intro y0
  clear_value y0
  intro y1
  clear_value y1
  intro y2
  clear_value y2
  refine OutOnly.next ?_
  split
  · exact OnlyM.refl _ _
  · lift_lets
    intro y3
    refine OnlyM.useHave (show OnlyM 1416600485889216 x1 y3 from ?_) (fun hy3 => ?_)
    · unfold y3
      refine OnlyM.comp (setGph_only _ _ _) (by rfl) ?_
      refine OnlyM.comp (upd_lan _ _) (by rfl) ?_
      exact OnlyM.refl _ _
    clear_value y3
    refine OnlyM.ite ?_ ?_
    · exact OnlyM.refl _ _
    · refine OnlyM.ite ?_ ?_
      · refine OnlyM.comp (graphRequest_only _ _ _) (by rfl) ?_
        assumption
      · assumption

theorem execHoldoverLimitExpiry_only : ∀ x0 x1, OutOnly 1512953782600896 x1 (execHoldoverLimitExpiry x0 x1) := by
  intro x0 x1
  unfold execHoldoverLimitExpiry
  refine OutOnly.next ?_
  split
  · refine OnlyM.ite ?_ ?_
    · refine OnlyM.comp (setFclk_only _ _) (by rfl) ?_
      exact OnlyM.refl _ _
    · exact OnlyM.refl _ _
  · refine OnlyM.ite ?_ ?_
    · refine OnlyM.comp (setHclk_only _ _) (by rfl) ?_
      exact OnlyM.refl _ _
    · exact OnlyM.refl _ _

theorem execHostApply_only : ∀ x0 x1, OutOnly 4361162420722928 x1 (execHostApply x0 x1) := by
  intro x0 x1
  unfold execHostApply
  refine OutOnly.next ?_
  split
  · refine OnlyM.ite ?_ ?_
    · refine OnlyM.comp (hostApplySet_only _ _ _) (by rfl) ?_
      exact OnlyM.refl _ _
    · exact OnlyM.refl _ _
  · exact OnlyM.refl _ _

theorem execHostArmConfirm_only : ∀ x0 x1, OutOnly 4352381360012528 x1 (execHostArmConfirm x0 x1) := by
  intro x0 x1
  unfold execHostArmConfirm
  refine OutOnly.next ?_
  split
  · lift_lets
    intro y0
    clear_value y0
    split
    · refine OnlyM.ite ?_ ?_
      · exact OnlyM.refl _ _
      · refine OnlyM.ite ?_ ?_
        · exact OnlyM.mono (takeIn_of (by assumption)) (by rfl)
        · refine OnlyM.comp (becomeArmed_only _ _ _) (by rfl) ?_
          exact OnlyM.mono (takeIn_of (by assumption)) (by rfl)
    · exact OnlyM.mono (takeIn_of (by assumption)) (by rfl)
  · exact OnlyM.refl _ _

theorem hostRecovery_only : ∀ x0 x1, OnlyM 2 x0 (hostRecovery x0 x1) := by
  intro x0 x1
  unfold hostRecovery
  refine OnlyM.comp (upd_hboot _ _) (by rfl) ?_
  exact OnlyM.refl _ _

theorem hostLoad_only : ∀ x0, OnlyM 3124829238592704 x0 (hostLoad x0) := by
  intro x0
  unfold hostLoad
  split
  · exact OnlyM.refl _ _
  · refine OnlyM.comp (logHost_only _ _) (by rfl) ?_
    exact OnlyM.refl _ _
  · refine OnlyM.comp (hostSettle_only _ _ _) (by rfl) ?_
    refine OnlyM.comp (loadSaved_only _ _) (by rfl) ?_
    exact OnlyM.refl _ _

theorem keepLeave_only : ∀ x0 x1, OnlyM 17179870208 x0 (keepLeave x0 x1) := by
  intro x0 x1
  unfold keepLeave
  lift_lets
  intro y0
  clear_value y0
  intro y1
  clear_value y1
  refine OnlyM.comp (setReg_only _ _ _) (by rfl) ?_
  refine OnlyM.comp (upd_mem _ _) (by rfl) ?_
  exact OnlyM.refl _ _

theorem rehashSlots_only : ∀ x0, OnlyM 2199023255552 x0 (rehashSlots x0) := by
  intro x0
  unfold rehashSlots
  lift_lets
  intro y0
  refine OnlyM.useHave (show OnlyM 2199023255552 x0 y0 from ?_) (fun hy0 => ?_)
  · unfold y0
    refine OnlyM.foldl ?_ (fun _ _ _ => ?_)
    · exact OnlyM.refl _ _
    · lift_lets
      intro y1
      clear_value y1
      refine OnlyM.ite ?_ ?_
      · assumption
      · refine OnlyM.ite ?_ ?_
        · assumption
        · refine OnlyM.comp (setSlot_only _ _ _) (by rfl) ?_
          assumption
  clear_value y0
  intro y2
  clear_value y2
  refine OnlyM.comp (upd_gal _ _) (by rfl) ?_
  assumption

theorem hostStart_only : ∀ x0 x1 x2 x3, OnlyM 3129227285103810 x0 (hostStart x0 x1 x2 x3) := by
  intro x0 x1 x2 x3
  unfold hostStart
  refine OnlyM.ite ?_ ?_
  · refine OnlyM.comp (upd_hboot _ _) (by rfl) ?_
    exact OnlyM.refl _ _
  · lift_lets
    intro y0
    refine OnlyM.useHave (show OnlyM 3129227285103810 x0 y0 from ?_) (fun hy0 => ?_)
    · unfold y0
      refine OnlyM.comp (keepLeave_only _ _) (by rfl) ?_
      exact OnlyM.refl _ _
    clear_value y0
    intro y1
    clear_value y1
    intro y2
    clear_value y2
    intro y3
    clear_value y3
    intro y4
    refine OnlyM.useHave (show OnlyM 3129227285103810 x0 y4 from ?_) (fun hy4 => ?_)
    · unfold y4
      refine OnlyM.comp (upd_hboot_mem_pwr _ _ _ _) (by rfl) ?_
      assumption
    clear_value y4
    intro y5
    refine OnlyM.useHave (show OnlyM 3129227285103810 x0 y5 from ?_) (fun hy5 => ?_)
    · unfold y5
      refine OnlyM.comp (hostLoad_only _) (by rfl) ?_
      assumption
    clear_value y5
    intro y6
    refine OnlyM.useHave (show OnlyM 3129227285103810 x0 y6 from ?_) (fun hy6 => ?_)
    · unfold y6
      refine OnlyM.comp (dropSpilled_only _) (by rfl) ?_
      assumption
    clear_value y6
    refine OnlyM.ite ?_ ?_
    · refine OnlyM.comp (rehashSlots_only _) (by rfl) ?_
      assumption
    · assumption

theorem execHostBoot_only : ∀ x0 x1 x2, OutOnly 3129227285103810 x2 (execHostBoot x0 x1 x2) := by
  intro x0 x1 x2
  unfold execHostBoot
  refine OutOnly.next ?_
  refine OnlyM.ite ?_ ?_
  · exact OnlyM.refl _ _
  · refine OnlyM.ite ?_ ?_
    · refine OnlyM.comp (hostRecovery_only _ _) (by rfl) ?_
      refine OnlyM.comp (upd_pwr _ _) (by rfl) ?_
      exact OnlyM.refl _ _
    · lift_lets
      intro y0
      clear_value y0
      intro y1
      clear_value y1
      intro y2
      clear_value y2
      intro y3
      refine OnlyM.useHave (show OnlyM 3129227285103810 x2 y3 from ?_) (fun hy3 => ?_)
      · unfold y3
        refine OnlyM.comp (upd_hboot_pwr _ _ _) (by rfl) ?_
        exact OnlyM.refl _ _
      clear_value y3
      split
      · refine OnlyM.comp (hostRecovery_only _ _) (by rfl) ?_
        assumption
      · refine OnlyM.comp (hostStart_only _ _ _ _) (by rfl) ?_
        assumption

theorem hostHold_only : ∀ x0 x1 x2, OnlyM 2 x0 (hostHold x0 x1 x2) := by
  intro x0 x1 x2
  unfold hostHold
  refine OnlyM.comp (upd_hboot _ _) (by rfl) ?_
  exact OnlyM.refl _ _

theorem hostUnheld_only : ∀ x0 x1 x2, OnlyM 562949953421314 x0 (hostUnheld x0 x1 x2) := by
  intro x0 x1 x2
  unfold hostUnheld
  refine OnlyM.ite ?_ ?_
  · exact OnlyM.refl _ _
  · lift_lets
    intro y0
    refine OnlyM.useHave (show OnlyM 562949953421314 x0 y0 from ?_) (fun hy0 => ?_)
    · unfold y0
      refine OnlyM.comp (hostHold_only _ _ _) (by rfl) ?_
      exact OnlyM.refl _ _
    clear_value y0
    refine OnlyM.ite ?_ ?_
    · refine OnlyM.comp (hostRelease_only _ _) (by rfl) ?_
      assumption
    · assumption

theorem execHostCrystalRestart_only : ∀ x0, OutOnly 2814749767106562 x0 (execHostCrystalRestart x0) := by
  intro x0
  unfold execHostCrystalRestart
  refine OutOnly.next ?_
  refine OnlyM.ite ?_ ?_
  · refine OnlyM.comp (hostUnheld_only _ _ _) (by rfl) ?_
    refine OnlyM.comp (drawn_only _) (by rfl) ?_
    exact OnlyM.refl _ _
  · exact OnlyM.refl _ _

theorem execHostCrystalStop_only : ∀ x0, OutOnly 2005502764319986 x0 (execHostCrystalStop x0) := by
  intro x0
  unfold execHostCrystalStop
  refine OutOnly.next ?_
  lift_lets
  intro y0
  refine OnlyM.useHave (show OnlyM 2005502764319986 x0 y0 from ?_) (fun hy0 => ?_)
  · unfold y0
    refine OnlyM.comp (hostHold_only _ _ _) (by rfl) ?_
    exact OnlyM.refl _ _
  clear_value y0
  refine OnlyM.ite ?_ ?_
  · assumption
  · refine OnlyM.comp (hostReset_only _ _ _) (by rfl) ?_
    assumption

theorem execHostEntryPush_only : ∀ x0, OutOnly 1520023300545776 x0 (execHostEntryPush x0) := by
  intro x0
  unfold execHostEntryPush
  refine OutOnly.next ?_
  split
  · lift_lets
    intro y0
    refine OnlyM.ite ?_ ?_
    · refine OnlyM.comp (installEntry_only _ _ _ _) (by rfl) ?_
      exact OnlyM.mono (takeIn_of (by assumption)) (by rfl)
    · exact OnlyM.refl _ _
  · exact OnlyM.refl _ _

theorem takePair_only : ∀ x0 x1 x2 x3, OnlyM 1048576 x0 (takePair x0 x1 x2 x3) := by
  intro x0 x1 x2 x3
  unfold takePair
  refine OnlyM.comp (upd_pairs _ _) (by rfl) ?_
  exact OnlyM.refl _ _

theorem hostBeat_only : ∀ x0 x1, OnlyM 5243072 x0 (hostBeat x0 x1) := by
  intro x0 x1
  unfold hostBeat
  lift_lets
  intro y0
  refine OnlyM.useHave (show OnlyM 5243072 x0 y0 from ?_) (fun hy0 => ?_)
  · unfold y0
    refine OnlyM.ite ?_ ?_
    · refine OnlyM.comp (bump_only _ _ _ _) (by rfl) ?_
      exact OnlyM.refl _ _
    · exact OnlyM.refl _ _
  clear_value y0
  intro y1
  clear_value y1
  intro y2
  refine OnlyM.useHave (show OnlyM 5243072 x0 y2 from ?_) (fun hy2 => ?_)
  · unfold y2
    refine OnlyM.ite ?_ ?_
    · assumption
    · refine OnlyM.comp (putN_only _ _ _ _) (by rfl) ?_
      assumption
  clear_value y2
  intro y3
  clear_value y3
  intro y4
  clear_value y4
  intro y5
  refine OnlyM.useHave (show OnlyM 5243072 x0 y5 from ?_) (fun hy5 => ?_)
  · unfold y5
    refine OnlyM.comp (upd_pairs_fend _ _ _) (by rfl) ?_
    assumption
  clear_value y5
  refine OnlyM.comp (takePair_only _ _ _ _) (by rfl) ?_
  assumption

theorem execHostHeartbeatReceive_only : ∀ x0, OutOnly 13631680 x0 (execHostHeartbeatReceive x0) := by
  intro x0
  unfold execHostHeartbeatReceive
  refine OutOnly.next ?_
  split
  · refine OnlyM.ite ?_ ?_
    · refine OnlyM.comp (hostBeat_only _ _) (by rfl) ?_
      exact OnlyM.mono (takeIn_of (by assumption)) (by rfl)
    · exact OnlyM.refl _ _
  · exact OnlyM.refl _ _

theorem execHostHeartbeatSend_only : ∀ x0, OutOnly 12845056 x0 (execHostHeartbeatSend x0) := by
  intro x0
  unfold execHostHeartbeatSend
  refine OutOnly.next ?_
  refine OnlyM.ite ?_ ?_
  · lift_lets
    intro y0
    clear_value y0
    intro y1
    clear_value y1
    intro y2
    refine OnlyM.useHave (show OnlyM 12845056 x0 y2 from ?_) (fun hy2 => ?_)
    · unfold y2
      refine OnlyM.comp (upd_hclk _ _) (by rfl) ?_
      exact OnlyM.refl _ _
    clear_value y2
    refine OnlyM.comp (ropeSend_only _ _ _) (by rfl) ?_
    assumption
  · exact OnlyM.refl _ _

theorem hostStep_only : ∀ x0 x1 x2, OnlyM 281474989555904 x0 (hostStep x0 x1 x2) := by
  intro x0 x1 x2
  unfold hostStep
  lift_lets
  intro y0
  clear_value y0
  intro y1
  clear_value y1
  intro y2
  clear_value y2
  intro y3
  refine OnlyM.useHave (show OnlyM 281474989555904 x0 y3 from ?_) (fun hy3 => ?_)
  · unfold y3
    refine OnlyM.comp (upd_hclk _ _) (by rfl) ?_
    exact OnlyM.refl _ _
  clear_value y3
  refine OnlyM.comp (logHost_only _ _) (by rfl) ?_
  assumption

theorem execHostPairPush_only : ∀ x0, OutOnly 1407392076268736 x0 (execHostPairPush x0) := by
  intro x0
  unfold execHostPairPush
  refine OutOnly.next ?_
  split
  · refine OnlyM.ite ?_ ?_
    · exact OnlyM.refl _ _
    · lift_lets
      intro y0
      intro y1
      refine OnlyM.useHave (show OnlyM 1407392076268736 x0 y1 from ?_) (fun hy1 => ?_)
      · unfold y1
        refine OnlyM.comp (hostStep_only _ _ _) (by rfl) ?_
        exact OnlyM.mono (takeIn_of (by assumption)) (by rfl)
      clear_value y1
      intro y2
      clear_value y2
      refine OnlyM.comp (setHclk_only _ _) (by rfl) ?_
      assumption
  · exact OnlyM.refl _ _

theorem hostTick_only : ∀ x0, OnlyM 262176 x0 (hostTick x0) := by
  intro x0
  unfold hostTick
  lift_lets
  intro y0
  clear_value y0
  intro y1
  clear_value y1
  refine OnlyM.comp (upd_pulses_hclk _ _ _) (by rfl) ?_
  exact OnlyM.refl _ _

theorem lanternTick_only : ∀ x0, OnlyM 8796093022208 x0 (lanternTick x0) := by
  intro x0
  unfold lanternTick
  refine OnlyM.ite ?_ ?_
  · refine OnlyM.comp (upd_lan _ _) (by rfl) ?_
    exact OnlyM.refl _ _
  · refine OnlyM.comp (upd_lan _ _) (by rfl) ?_
    exact OnlyM.refl _ _

theorem execHostPtpTick_only : ∀ x0, OutOnly 8796093284384 x0 (execHostPtpTick x0) := by
  intro x0
  unfold execHostPtpTick
  refine OutOnly.next ?_
  lift_lets
  intro y0
  refine OnlyM.useHave (show OnlyM 8796093284384 x0 y0 from ?_) (fun hy0 => ?_)
  · unfold y0
    refine OnlyM.ite ?_ ?_
    · refine OnlyM.comp (lanternTick_only _) (by rfl) ?_
      exact OnlyM.refl _ _
    · exact OnlyM.refl _ _
  clear_value y0
  refine OnlyM.ite ?_ ?_
  · refine OnlyM.comp (hostTick_only _) (by rfl) ?_
    assumption
  · assumption

theorem resetRequestWrite_only : ∀ x0 x1, OnlyM 2 x0 (resetRequestWrite x0 x1).1 := by
  intro x0 x1
  unfold resetRequestWrite
  refine OnlyM.ite1 ?_ ?_
  · refine OnlyM.pair ?_
    refine OnlyM.comp (hostAsk_only _ _) (by rfl) ?_
    exact OnlyM.refl _ _
  · refine OnlyM.pair ?_
    exact OnlyM.refl _ _

theorem execHostResetRequest_only : ∀ x0 x1, OutOnly 8589934594 x1 (execHostResetRequest x0 x1) := by
  intro x0 x1
  unfold execHostResetRequest
  refine OutOnly.next ?_
  refine OnlyM.ite ?_ ?_
  · lift_lets
    intro y0
    refine OnlyM.useHave (show OnlyM 8589934594 x1 y0.1 from ?_) (fun hy0 => ?_)
    · unfold y0
      refine OnlyM.comp (resetRequestWrite_only _ _) (by rfl) ?_
      exact OnlyM.refl _ _
    clear_value y0
    refine OnlyM.comp (sdoAnswer_only _ _ _ _ _) (by rfl) ?_
    assumption
  · exact OnlyM.refl _ _

theorem execHostTempSample_only : ∀ x0 x1, OutOnly 2005502764319986 x1 (execHostTempSample x0 x1) := by
  intro x0 x1
  unfold execHostTempSample
  refine OutOnly.next ?_
  refine OnlyM.ite ?_ ?_
  · exact OnlyM.refl _ _
  · lift_lets
    intro y0
    clear_value y0
    intro y1
    clear_value y1
    intro y2
    refine OnlyM.useHave (show OnlyM 2005502764319986 x1 y2 from ?_) (fun hy2 => ?_)
    · unfold y2
      refine OnlyM.comp (putI_only _ _ _ _) (by rfl) ?_
      refine OnlyM.comp (upd_pwr _ _) (by rfl) ?_
      exact OnlyM.refl _ _
    clear_value y2
    refine OnlyM.ite ?_ ?_
    · refine OnlyM.comp (hostOff_only _ _) (by rfl) ?_
      assumption
    · assumption

theorem execHostVinHigh_only : ∀ x0, OutOnly 2005502764319986 x0 (execHostVinHigh x0) := by
  intro x0
  unfold execHostVinHigh
  refine OutOnly.next ?_
  lift_lets
  intro y0
  refine OnlyM.useHave (show OnlyM 2005502764319986 x0 y0 from ?_) (fun hy0 => ?_)
  · unfold y0
    refine OnlyM.comp (hostHold_only _ _ _) (by rfl) ?_
    exact OnlyM.refl _ _
  clear_value y0
  refine OnlyM.ite ?_ ?_
  · assumption
  · refine OnlyM.comp (hostFall_only _) (by rfl) ?_
    assumption

theorem execHostVinHighRelease_only : ∀ x0, OutOnly 562949953421314 x0 (execHostVinHighRelease x0) := by
  intro x0
  unfold execHostVinHighRelease
  refine OutOnly.next ?_
  refine OnlyM.comp (hostUnheld_only _ _ _) (by rfl) ?_
  exact OnlyM.refl _ _

theorem execHostVinLow_only : ∀ x0, OutOnly 2005502764319986 x0 (execHostVinLow x0) := by
  intro x0
  unfold execHostVinLow
  refine OutOnly.next ?_
  lift_lets
  intro y0
  refine OnlyM.useHave (show OnlyM 2005502764319986 x0 y0 from ?_) (fun hy0 => ?_)
  · unfold y0
    refine OnlyM.comp (hostHold_only _ _ _) (by rfl) ?_
    exact OnlyM.refl _ _
  clear_value y0
  refine OnlyM.ite ?_ ?_
  · assumption
  · refine OnlyM.comp (hostFall_only _) (by rfl) ?_
    assumption

theorem execHostVinRise_only : ∀ x0, OutOnly 562949953421314 x0 (execHostVinRise x0) := by
  intro x0
  unfold execHostVinRise
  refine OutOnly.next ?_
  refine OnlyM.ite ?_ ?_
  · lift_lets
    intro y0
    refine OnlyM.useHave (show OnlyM 562949953421314 x0 y0 from ?_) (fun hy0 => ?_)
    · unfold y0
      refine OnlyM.comp (hostHold_only _ _ _) (by rfl) ?_
      exact OnlyM.refl _ _
    clear_value y0
    refine OnlyM.ite ?_ ?_
    · refine OnlyM.comp (hostRelease_only _ _) (by rfl) ?_
      assumption
    · assumption
  · exact OnlyM.refl _ _

theorem execHostVote_only : ∀ x0 x1, OutOnly 4352381360012528 x1 (execHostVote x0 x1) := by
  intro x0 x1
  unfold execHostVote
  refine OutOnly.next ?_
  split
  · lift_lets
    intro y0
    refine OnlyM.ite ?_ ?_
    · exact OnlyM.refl _ _
    · refine OnlyM.ite ?_ ?_
      · exact OnlyM.mono (takeIn_of (by assumption)) (by rfl)
      · refine OnlyM.ite ?_ ?_
        · refine OnlyM.comp (becomeChecked_only _ _) (by rfl) ?_
          exact OnlyM.mono (takeIn_of (by assumption)) (by rfl)
        · refine OnlyM.comp (failSet_only _ _ _ _ _) (by rfl) ?_
          exact OnlyM.mono (takeIn_of (by assumption)) (by rfl)
  · exact OnlyM.refl _ _

theorem execHostVoteTimeout_only : ∀ x0 x1, OutOnly 9676259520 x1 (execHostVoteTimeout x0 x1) := by
  intro x0 x1
  unfold execHostVoteTimeout
  refine OutOnly.next ?_
  lift_lets
  intro y0
  clear_value y0
  refine OnlyM.ite ?_ ?_
  · refine OnlyM.comp (failSet_only _ _ _ _ _) (by rfl) ?_
    exact OnlyM.refl _ _
  · exact OnlyM.refl _ _

theorem execHostWarmReset_only : ∀ x0, OutOnly 2005502764319986 x0 (execHostWarmReset x0) := by
  intro x0
  unfold execHostWarmReset
  refine OutOnly.next ?_
  split
  · refine OnlyM.comp (hostReset_only _ _ _) (by rfl) ?_
    exact OnlyM.refl _ _
  · exact OnlyM.refl _ _

theorem execHpdFall_only : ∀ x0, OutOnly 1143509272757248 x0 (execHpdFall x0) := by
  intro x0
  unfold execHpdFall
  refine OutOnly.next ?_
  lift_lets
  intro y0
  clear_value y0
  intro y1
  refine OnlyM.useHave (show OnlyM 1143509272757248 x0 y1 from ?_) (fun hy1 => ?_)
  · unfold y1
    refine OnlyM.comp (upd_comp _ _) (by rfl) ?_
    exact OnlyM.refl _ _
  clear_value y1
  refine OnlyM.ite ?_ ?_
  · refine OnlyM.comp (compIrq_only _ _) (by rfl) ?_
    refine OnlyM.comp (setReg_only _ _ _) (by rfl) ?_
    assumption
  · assumption

theorem execHpdRise_only : ∀ x0, OutOnly 1143509272757248 x0 (execHpdRise x0) := by
  intro x0
  unfold execHpdRise
  refine OutOnly.next ?_
  lift_lets
  intro y0
  clear_value y0
  intro y1
  refine OnlyM.useHave (show OnlyM 1143509272757248 x0 y1 from ?_) (fun hy1 => ?_)
  · unfold y1
    refine OnlyM.comp (upd_comp _ _) (by rfl) ?_
    exact OnlyM.refl _ _
  clear_value y1
  refine OnlyM.ite ?_ ?_
  · refine OnlyM.comp (compIrq_only _ _) (by rfl) ?_
    assumption
  · assumption

theorem indexSeen_only : ∀ x0, OnlyM 1520032964222192 x0 (indexSeen x0) := by
  intro x0
  unfold indexSeen
  refine OnlyM.ite ?_ ?_
  · exact OnlyM.refl _ _
  · lift_lets
    intro y0
    intro y1
    intro y2
    intro y3
    refine OnlyM.useHave (show OnlyM 1520032964222192 x0 y3 from ?_) (fun hy3 => ?_)
    · unfold y3
      refine OnlyM.comp (upd_pos _ _) (by rfl) ?_
      exact OnlyM.refl _ _
    intro y4
    clear_value y4
    intro y5
    refine OnlyM.useHave (show OnlyM 1520032964222192 x0 y5 from ?_) (fun hy5 => ?_)
    · unfold y5
      refine OnlyM.ite ?_ ?_
      · refine OnlyM.comp (upd_pos _ _) (by rfl) ?_
        assumption
      · assumption
    clear_value y5
    split
    · refine OnlyM.ite ?_ ?_
      · assumption
      · refine OnlyM.comp (positionNotice_only _ _) (by rfl) ?_
        assumption
    · lift_lets
      intro y6
      clear_value y6
      refine OnlyM.ite ?_ ?_
      · exact OnlyM.refl _ _
      · split
        · refine OnlyM.comp (setPosMode_only _ _) (by rfl) ?_
          refine OnlyM.ite ?_ ?_
          · exact OnlyM.refl _ _
          · refine OnlyM.comp (stepTo_only _ _) (by rfl) ?_
            exact OnlyM.refl _ _
        · refine OnlyM.ite ?_ ?_
          · refine OnlyM.comp (posRec_only _ _ _ _ _ _ _) (by rfl) ?_
            exact OnlyM.refl _ _
          · refine OnlyM.ite ?_ ?_
            · exact OnlyM.refl _ _
            · refine OnlyM.comp (stepTo_only _ _) (by rfl) ?_
              exact OnlyM.refl _ _
        · exact OnlyM.refl _ _

theorem execIndexMark_only : ∀ x0 x1, OutOnly 1520032964222192 x1 (execIndexMark x0 x1) := by
  intro x0 x1
  unfold execIndexMark
  refine OutOnly.next ?_
  refine OnlyM.ite ?_ ?_
  · refine OnlyM.comp (indexSeen_only _) (by rfl) ?_
    exact OnlyM.refl _ _
  · exact OnlyM.refl _ _

theorem execInstallHostImage_only : ∀ x0 x1 x2, OutOnly 8589934786 x2 (execInstallHostImage x0 x1 x2) := by
  intro x0 x1 x2
  unfold execInstallHostImage
  refine OutOnly.next ?_
  refine OnlyM.ite ?_ ?_
  · lift_lets
    intro y0
    clear_value y0
    intro y1
    clear_value y1
    refine OnlyM.comp (sdoAnswer_only _ _ _ _ _) (by rfl) ?_
    refine OnlyM.comp (putN_only _ _ _ _) (by rfl) ?_
    refine OnlyM.comp (upd_hboot _ _) (by rfl) ?_
    exact OnlyM.refl _ _
  · exact OnlyM.refl _ _

theorem execInstantHoldTimeout_only : ∀ x0 x1, OutOnly 9676259520 x1 (execInstantHoldTimeout x0 x1) := by
  intro x0 x1
  unfold execInstantHoldTimeout
  refine OutOnly.next ?_
  lift_lets
  intro y0
  clear_value y0
  split
  · refine OnlyM.ite ?_ ?_
    · refine OnlyM.comp (failSet_only _ _ _ _ _) (by rfl) ?_
      exact OnlyM.refl _ _
    · exact OnlyM.refl _ _
  · exact OnlyM.refl _ _

theorem execIspOutputComplete_only : ∀ x0 x1, OutOnly 1414435822372032 x1 (execIspOutputComplete x0 x1) := by
  intro x0 x1
  unfold execIspOutputComplete
  lift_lets
  intro y0
  clear_value y0
  intro y1
  clear_value y1
  refine OutOnly.next ?_
  refine OnlyM.ite ?_ ?_
  · exact OnlyM.refl _ _
  · split
    · exact OnlyM.refl _ _
    · lift_lets
      intro y2
      clear_value y2
      intro y3
      refine OnlyM.useHave (show OnlyM 1414435822372032 x1 y3 from ?_) (fun hy3 => ?_)
      · unfold y3
        refine OnlyM.comp (setStm_only _ _ _) (by rfl) ?_
        exact OnlyM.refl _ _
      clear_value y3
      refine OnlyM.foldl ?_ (fun _ _ _ => ?_)
      · refine OnlyM.comp (finishFrame_only _ _ _) (by rfl) ?_
        assumption
      · refine OnlyM.comp (finishFrame_only _ _ _) (by rfl) ?_
        assumption

theorem execJobComplete_only : ∀ x0 x1, OutOnly 288226677884096 x1 (execJobComplete x0 x1) := by
  intro x0 x1
  unfold execJobComplete
  lift_lets
  intro y0
  clear_value y0
  refine OutOnly.next ?_
  split
  · lift_lets
    intro y1
    clear_value y1
    refine OnlyM.ite ?_ ?_
    · refine OnlyM.comp (completeJob_only _ _ _ _) (by rfl) ?_
      refine OnlyM.comp (setJob_only _ _ _) (by rfl) ?_
      exact OnlyM.refl _ _
    · exact OnlyM.refl _ _
  · exact OnlyM.refl _ _

theorem execJobDispatch_only : ∀ x0 x1, OutOnly 288226677884096 x1 (execJobDispatch x0 x1) := by
  intro x0 x1
  unfold execJobDispatch
  refine OutOnly.next ?_
  refine OnlyM.ite ?_ ?_
  · refine OnlyM.comp (dispatchJob_only _ _) (by rfl) ?_
    exact OnlyM.refl _ _
  · exact OnlyM.refl _ _

theorem execKernelBoundary_only : ∀ x0 x1 x2 x3 x4, OutOnly 2539889052614848 x4 (execKernelBoundary x0 x1 x2 x3 x4) := by
  intro x0 x1 x2 x3 x4
  unfold execKernelBoundary
  refine OutOnly.next ?_
  refine OnlyM.ite ?_ ?_
  · refine OnlyM.comp (boundary_only _ _ _ _ _) (by rfl) ?_
    exact OnlyM.refl _ _
  · exact OnlyM.refl _ _

theorem execKvClose_only : ∀ x0 x1 x2, OutOnly 288089238930624 x2 (execKvClose x0 x1 x2) := by
  intro x0 x1 x2
  unfold execKvClose
  refine OutOnly.next ?_
  refine OnlyM.ite ?_ ?_
  · refine OnlyM.comp (kvRetry_only _ _) (by rfl) ?_
    refine OnlyM.comp (kvCloseSeq_only _ _ _) (by rfl) ?_
    exact OnlyM.refl _ _
  · exact OnlyM.refl _ _

theorem execKvOpen_only : ∀ x0 x1 x2, OutOnly 4398046512128 x2 (execKvOpen x0 x1 x2) := by
  intro x0 x1 x2
  unfold execKvOpen
  refine OutOnly.next ?_
  refine OnlyM.ite ?_ ?_
  · refine OnlyM.comp (kvOpenSeq_only _ _ _) (by rfl) ?_
    exact OnlyM.refl _ _
  · exact OnlyM.refl _ _

theorem execKvPin_only : ∀ x0 x1 x2, OutOnly 4398046512128 x2 (execKvPin x0 x1 x2) := by
  intro x0 x1 x2
  unfold execKvPin
  refine OutOnly.next ?_
  refine OnlyM.ite ?_ ?_
  · refine OnlyM.comp (kvPinSeq_only _ _ _ _) (by rfl) ?_
    exact OnlyM.refl _ _
  · exact OnlyM.refl _ _

theorem execKvPrefetch_only : ∀ x0 x1 x2, OutOnly 288089238930624 x2 (execKvPrefetch x0 x1 x2) := by
  intro x0 x1 x2
  unfold execKvPrefetch
  refine OutOnly.next ?_
  refine OnlyM.ite ?_ ?_
  · refine OnlyM.comp (kvPrefetchSeq_only _ _ _) (by rfl) ?_
    exact OnlyM.refl _ _
  · exact OnlyM.refl _ _

theorem execKvReset_only : ∀ x0 x1 x2, OutOnly 288089238930624 x2 (execKvReset x0 x1 x2) := by
  intro x0 x1 x2
  unfold execKvReset
  refine OutOnly.next ?_
  refine OnlyM.ite ?_ ?_
  · refine OnlyM.comp (kvRetry_only _ _) (by rfl) ?_
    refine OnlyM.comp (kvResetSeq_only _ _ _) (by rfl) ?_
    exact OnlyM.refl _ _
  · exact OnlyM.refl _ _

theorem execKvUnpin_only : ∀ x0 x1 x2, OutOnly 4398046512128 x2 (execKvUnpin x0 x1 x2) := by
  intro x0 x1 x2
  unfold execKvUnpin
  refine OutOnly.next ?_
  refine OnlyM.ite ?_ ?_
  · refine OnlyM.comp (kvPinSeq_only _ _ _ _) (by rfl) ?_
    exact OnlyM.refl _ _
  · exact OnlyM.refl _ _

theorem execKvWinDataAccess_only : ∀ x0 x1, OutOnly 4398046512128 x1 (execKvWinDataAccess x0 x1) := by
  intro x0 x1
  unfold execKvWinDataAccess
  refine OutOnly.next ?_
  refine OnlyM.ite ?_ ?_
  · refine OnlyM.comp (winAccess_only _ _) (by rfl) ?_
    exact OnlyM.refl _ _
  · exact OnlyM.refl _ _

theorem execLanternCsiPacket_only : ∀ x0 x1 x2 x3 x4 x5, OutOnly 8796093022400 x5 (execLanternCsiPacket x0 x1 x2 x3 x4 x5) := by
  intro x0 x1 x2 x3 x4 x5
  unfold execLanternCsiPacket
  refine OutOnly.next ?_
  refine OnlyM.ite ?_ ?_
  · exact OnlyM.refl _ _
  · lift_lets
    intro y0
    clear_value y0
    intro y1
    clear_value y1
    intro y2
    refine OnlyM.useHave (show OnlyM 8796093022400 x5 y2 from ?_) (fun hy2 => ?_)
    · unfold y2
      refine OnlyM.comp (upd_lan _ _) (by rfl) ?_
      exact OnlyM.refl _ _
    clear_value y2
    intro y3
    refine OnlyM.useHave (show OnlyM 8796093022400 x5 y3 from ?_) (fun hy3 => ?_)
    · unfold y3
      refine OnlyM.foldl ?_ (fun _ _ _ => ?_)
      · assumption
      · refine OnlyM.comp (eventWord_only _ _) (by rfl) ?_
        assumption
    clear_value y3
    intro y4
    clear_value y4
    refine OnlyM.ite ?_ ?_
    · refine OnlyM.comp (bump_only _ _ _ _) (by rfl) ?_
      exact OnlyM.refl _ _
    · refine OnlyM.comp (upd_lan _ _) (by rfl) ?_
      assumption

theorem execLatchEdge_only : ∀ x0 x1 x2, OutOnly 8589934784 x2 (execLatchEdge x0 x1 x2) := by
  intro x0 x1 x2
  unfold execLatchEdge
  refine OutOnly.next ?_
  refine OnlyM.ite ?_ ?_
  · lift_lets
    intro y0
    clear_value y0
    refine OnlyM.comp (putI_only _ _ _ _) (by rfl) ?_
    refine OnlyM.comp (setBusReg_only _ _ _) (by rfl) ?_
    exact OnlyM.refl _ _
  · exact OnlyM.refl _ _

theorem safeStandby_only : ∀ x0, OnlyM 387037769236672 x0 (safeStandby x0) := by
  intro x0
  unfold safeStandby
  lift_lets
  intro y0
  clear_value y0
  intro y1
  refine OnlyM.useHave (show OnlyM 387037769236672 x0 y1 from ?_) (fun hy1 => ?_)
  · unfold y1
    refine OnlyM.comp (startReaction_only _ _ _ _ _ _ _ _ _) (by rfl) ?_
    exact OnlyM.refl _ _
  clear_value y1
  refine OnlyM.ite ?_ ?_
  · refine OnlyM.comp (setAl_only _ _ _ _ _) (by rfl) ?_
    exact OnlyM.refl _ _
  · refine OnlyM.ite ?_ ?_
    · refine OnlyM.comp (setAl_only _ _ _ _ _) (by rfl) ?_
      assumption
    · assumption

theorem fieldLevels_only : ∀ x0 x1, OnlyM 387037786013889 x0 (fieldLevels x0 x1) := by
  intro x0 x1
  unfold fieldLevels
  lift_lets
  intro y0
  clear_value y0
  intro y1
  clear_value y1
  intro y2
  clear_value y2
  intro y3
  refine OnlyM.useHave (show OnlyM 387037786013889 x0 y3 from ?_) (fun hy3 => ?_)
  · unfold y3
    refine OnlyM.comp (upd_link _ _) (by rfl) ?_
    exact OnlyM.refl _ _
  clear_value y3
  intro y4
  refine OnlyM.useHave (show OnlyM 387037786013889 x0 y4 from ?_) (fun hy4 => ?_)
  · unfold y4
    refine OnlyM.comp (putN_only _ _ _ _) (by rfl) ?_
    refine OnlyM.comp (putN_only _ _ _ _) (by rfl) ?_
    assumption
  clear_value y4
  intro y5
  refine OnlyM.useHave (show OnlyM 387037786013889 x0 y5 from ?_) (fun hy5 => ?_)
  · unfold y5
    refine OnlyM.comp (upd_fboot _ _) (by rfl) ?_
    assumption
  clear_value y5
  refine OnlyM.ite ?_ ?_
  · refine OnlyM.comp (safeStandby_only _) (by rfl) ?_
    refine OnlyM.comp (setsHostDown_only _) (by rfl) ?_
    assumption
  · refine OnlyM.ite ?_ ?_
    · refine OnlyM.comp (emcy_only _ _ _ _) (by rfl) ?_
      assumption
    · assumption

theorem hostLevels_only : ∀ x0 x1 x2, OnlyM 1090584770 x0 (hostLevels x0 x1 x2) := by
  intro x0 x1 x2
  unfold hostLevels
  lift_lets
  intro y0
  clear_value y0
  intro y1
  clear_value y1
  intro y2
  clear_value y2
  intro y3
  refine OnlyM.useHave (show OnlyM 1090584770 x0 y3 from ?_) (fun hy3 => ?_)
  · unfold y3
    refine OnlyM.comp (upd_replica_link_sets _ _ _ _) (by rfl) ?_
    exact OnlyM.refl _ _
  clear_value y3
  intro y4
  refine OnlyM.useHave (show OnlyM 1090584770 x0 y4 from ?_) (fun hy4 => ?_)
  · unfold y4
    refine OnlyM.foldl ?_ (fun _ _ _ => ?_)
    · assumption
    · refine OnlyM.comp (putObj_only _ _ _ _) (by rfl) ?_
      assumption
  clear_value y4
  refine OnlyM.ite ?_ ?_
  · assumption
  · refine OnlyM.comp (upd_hboot _ _) (by rfl) ?_
    assumption

theorem pushPair_only : ∀ x0, OnlyM 12582912 x0 (pushPair x0) := by
  intro x0
  unfold pushPair
  split
  · refine OnlyM.comp (ropeSend_only _ _ _) (by rfl) ?_
    exact OnlyM.refl _ _
  · exact OnlyM.refl _ _

theorem pushAll_only : ∀ x0, OnlyM 12664832 x0 (pushAll x0) := by
  intro x0
  unfold pushAll
  lift_lets
  intro y0
  refine OnlyM.useHave (show OnlyM 12664832 x0 y0 from ?_) (fun hy0 => ?_)
  · unfold y0
    refine OnlyM.foldl ?_ (fun _ _ _ => ?_)
    · exact OnlyM.refl _ _
    · refine OnlyM.comp (pushHostEntry_only _ _) (by rfl) ?_
      refine OnlyM.comp (upd_hostPush _ _) (by rfl) ?_
      assumption
  clear_value y0
  intro y1
  clear_value y1
  intro y2
  refine OnlyM.useHave (show OnlyM 12664832 x0 y2 from ?_) (fun hy2 => ?_)
  · unfold y2
    refine OnlyM.comp (upd_replica _ _) (by rfl) ?_
    assumption
  clear_value y2
  refine OnlyM.ite ?_ ?_
  · refine OnlyM.comp (pushPair_only _) (by rfl) ?_
    refine OnlyM.foldl ?_ (fun _ _ _ => ?_)
    · assumption
    · refine OnlyM.comp (pushPtp_only _ _) (by rfl) ?_
      assumption
  · assumption

theorem reloadKept_only : ∀ x0, OnlyM 2843354261882048 x0 (reloadKept x0) := by
  intro x0
  unfold reloadKept
  refine OnlyM.comp (hostSettle_only _ _ _) (by rfl) ?_
  refine OnlyM.foldl ?_ (fun _ _ _ => ?_)
  · exact OnlyM.refl _ _
  · refine OnlyM.comp (putObj_only _ _ _ _) (by rfl) ?_
    assumption

theorem levelsDone_only : ∀ x0, OnlyM 2843354278741184 x0 (levelsDone x0) := by
  intro x0
  unfold levelsDone
  refine OnlyM.ite ?_ ?_
  · lift_lets
    intro y0
    intro y1
    refine OnlyM.useHave (show OnlyM 2843354278741184 x0 y1 from ?_) (fun hy1 => ?_)
    · unfold y1
      refine OnlyM.comp (upd_link _ _) (by rfl) ?_
      exact OnlyM.refl _ _
    refine OnlyM.ite ?_ ?_
    · assumption
    · refine OnlyM.comp (pushAll_only _) (by rfl) ?_
      refine OnlyM.comp (reloadKept_only _) (by rfl) ?_
      assumption
  · exact OnlyM.refl _ _

theorem wireTail_only : ∀ x0 x1, OnlyM 12582912 x0 (wireTail x0 x1) := by
  intro x0 x1
  unfold wireTail
  refine OnlyM.comp (setEnd_only _ _ _) (by rfl) ?_
  exact OnlyM.refl _ _

theorem takeControl_of {x0 : State} {x1 : Die} {x2 : Nat} {f : Frame} {t : State} (h : takeControl x0 x1 x2 = some (f, t)) : OnlyM 12582912 x0 t :=
  by
  unfold takeControl at h
  split at h
  · split at h
    · cases h
      exact (wireTail_only _ _).mono (by rfl)
    · cases h
  · cases h

theorem execLevelsFrame_only : ∀ x0 x1, OutOnly 4356292210672835 x1 (execLevelsFrame x0 x1) := by
  intro x0 x1
  unfold execLevelsFrame
  refine OutOnly.next ?_
  refine OnlyM.ite ?_ ?_
  · exact OnlyM.refl _ _
  · split
    · lift_lets
      intro y0
      refine OnlyM.useHave (show OnlyM 4356292210672835 x1 y0 from ?_) (fun hy0 => ?_)
      · unfold y0
        refine OnlyM.comp (takeFields_only _ _ _) (by rfl) ?_
        exact OnlyM.mono (takeControl_of (by assumption)) (by rfl)
      clear_value y0
      refine OnlyM.comp (levelsDone_only _) (by rfl) ?_
      split
      · refine OnlyM.comp (fieldLevels_only _ _) (by rfl) ?_
        assumption
      · refine OnlyM.comp (hostLevels_only _ _ _) (by rfl) ?_
        assumption
    · exact OnlyM.refl _ _

theorem execLineBreak_only : ∀ x0, OutOnly 1520032964222192 x0 (execLineBreak x0) := by
  intro x0
  unfold execLineBreak
  refine OutOnly.next ?_
  refine OnlyM.ite ?_ ?_
  · refine OnlyM.comp (encoderLoss_only _) (by rfl) ?_
    refine OnlyM.comp (bump_only _ _ _ _) (by rfl) ?_
    refine OnlyM.comp (upd_pos _ _) (by rfl) ?_
    exact OnlyM.refl _ _
  · exact OnlyM.refl _ _

theorem quadratureError_only : ∀ x0, OnlyM 1520032964222192 x0 (quadratureError x0) := by
  intro x0
  unfold quadratureError
  lift_lets
  intro y0
  clear_value y0
  intro y1
  clear_value y1
  intro y2
  refine OnlyM.useHave (show OnlyM 1520032964222192 x0 y2 from ?_) (fun hy2 => ?_)
  · unfold y2
    refine OnlyM.comp (bump_only _ _ _ _) (by rfl) ?_
    refine OnlyM.comp (upd_pos _ _) (by rfl) ?_
    exact OnlyM.refl _ _
  clear_value y2
  refine OnlyM.ite ?_ ?_
  · refine OnlyM.comp (encoderLoss_only _) (by rfl) ?_
    assumption
  · assumption

theorem execLineEncoderEdge_only : ∀ x0 x1 x2 x3 x4, OutOnly 3771832777907440 x4 (execLineEncoderEdge x0 x1 x2 x3 x4) := by
  intro x0 x1 x2 x3 x4
  unfold execLineEncoderEdge
  lift_lets
  intro y0
  clear_value y0
  intro y1
  clear_value y1
  intro y2
  clear_value y2
  intro y3
  clear_value y3
  intro y4
  clear_value y4
  intro y5
  refine OnlyM.useHave (show OnlyM 3771832777907440 x4 y5 from ?_) (fun hy5 => ?_)
  · unfold y5
    refine OnlyM.comp (upd_pos _ _) (by rfl) ?_
    exact OnlyM.refl _ _
  clear_value y5
  refine OutOnly.next ?_
  refine OnlyM.ite ?_ ?_
  · exact OnlyM.refl _ _
  · refine OnlyM.ite ?_ ?_
    · assumption
    · refine OnlyM.ite ?_ ?_
      · refine OnlyM.ite ?_ ?_
        · refine OnlyM.comp (countEdge_only _ _) (by rfl) ?_
          assumption
        · assumption
      · refine OnlyM.ite ?_ ?_
        · refine OnlyM.comp (quadratureError_only _) (by rfl) ?_
          assumption
        · refine OnlyM.ite ?_ ?_
          · refine OnlyM.comp (countEdge_only _ _) (by rfl) ?_
            assumption
          · refine OnlyM.ite ?_ ?_
            · refine OnlyM.comp (countEdge_only _ _) (by rfl) ?_
              assumption
            · assumption

theorem execLinkFrame_only : ∀ x0 x1, OutOnly 1407392361219265 x1 (execLinkFrame x0 x1) := by
  intro x0 x1
  unfold execLinkFrame
  refine OutOnly.next ?_
  refine OnlyM.ite ?_ ?_
  · exact OnlyM.refl _ _
  · split
    · refine OnlyM.comp (linkIn_only _ _ _) (by rfl) ?_
      exact OnlyM.mono (takeControl_of (by assumption)) (by rfl)
    · exact OnlyM.refl _ _

theorem linkUpEnds_only : ∀ x0 x1 x2 x3, OnlyM 1407392344442049 x0 (linkUpEnds x0 x1 x2 x3) := by
  intro x0 x1 x2 x3
  unfold linkUpEnds
  lift_lets
  intro y0
  refine OnlyM.useHave (show OnlyM 1407392344442049 x0 y0 from ?_) (fun hy0 => ?_)
  · unfold y0
    refine OnlyM.comp (acked_only _ _ _) (by rfl) ?_
    refine OnlyM.comp (acked_only _ _ _) (by rfl) ?_
    exact OnlyM.refl _ _
  clear_value y0
  intro y1
  refine OnlyM.useHave (show OnlyM 1407392344442049 x0 y1 from ?_) (fun hy1 => ?_)
  · unfold y1
    refine OnlyM.ite ?_ ?_
    · refine OnlyM.comp (upd_fend_hend _ _ _) (by rfl) ?_
      exact OnlyM.refl _ _
    · refine OnlyM.comp (upd_fend_hend _ _ _) (by rfl) ?_
      assumption
  clear_value y1
  refine OnlyM.comp (upd_fend_hend _ _ _) (by rfl) ?_
  assumption

theorem flushHeld_only : ∀ x0, OnlyM 281474989293568 x0 (flushHeld x0) := by
  intro x0
  unfold flushHeld
  lift_lets
  intro y0
  clear_value y0
  intro y1
  clear_value y1
  refine OnlyM.foldl ?_ (fun _ _ _ => ?_)
  · refine OnlyM.comp (upd_saf _ _) (by rfl) ?_
    exact OnlyM.refl _ _
  · refine OnlyM.comp (ropeSend_only _ _ _) (by rfl) ?_
    assumption

theorem ropeControl_only : ∀ x0 x1 x2 x3 x4, OnlyM 12582912 x0 (ropeControl x0 x1 x2 x3 x4) := by
  intro x0 x1 x2 x3 x4
  unfold ropeControl
  lift_lets
  intro y0
  clear_value y0
  intro y1
  clear_value y1
  refine OnlyM.comp (setEnd_only _ _ _) (by rfl) ?_
  exact OnlyM.refl _ _

theorem linkUpNews_only : ∀ x0 x1 x2 x3 x4, OnlyM 1407400665941184 x0 (linkUpNews x0 x1 x2 x3 x4) := by
  intro x0 x1 x2 x3 x4
  unfold linkUpNews
  lift_lets
  intro y0
  refine OnlyM.useHave (show OnlyM 1407400665941184 x0 y0 from ?_) (fun hy0 => ?_)
  · unfold y0
    refine OnlyM.ite ?_ ?_
    · refine OnlyM.comp (ropeControl_only _ _ _ _ _) (by rfl) ?_
      exact OnlyM.refl _ _
    · exact OnlyM.refl _ _
  clear_value y0
  intro y1
  refine OnlyM.useHave (show OnlyM 1407400665941184 x0 y1 from ?_) (fun hy1 => ?_)
  · unfold y1
    refine OnlyM.ite ?_ ?_
    · refine OnlyM.comp (ropeControl_only _ _ _ _ _) (by rfl) ?_
      assumption
    · assumption
  clear_value y1
  intro y2
  refine OnlyM.useHave (show OnlyM 1407400665941184 x0 y2 from ?_) (fun hy2 => ?_)
  · unfold y2
    refine OnlyM.ite ?_ ?_
    · refine OnlyM.comp (emcy_only _ _ _ _) (by rfl) ?_
      refine OnlyM.comp (bump_only _ _ _ _) (by rfl) ?_
      assumption
    · assumption
  clear_value y2
  intro y3
  refine OnlyM.useHave (show OnlyM 1407400665941184 x0 y3 from ?_) (fun hy3 => ?_)
  · unfold y3
    refine OnlyM.ite ?_ ?_
    · refine OnlyM.comp (linkNotice_only _ _) (by rfl) ?_
      assumption
    · assumption
  clear_value y3
  refine OnlyM.comp (flushHeld_only _) (by rfl) ?_
  assumption

end Sys2Proof.Laws
end

