-- ==== Sys2Proof/Laws/FramesF.lean ====
section
/-! SUPPORT. What each shared operation and each meaning can change, part 6: one frame per definition, each from the
frames of what it calls. -/

namespace Sys2Proof.Laws

open Machine

theorem linkUpState_only : ∀ x0 x1 x2 x3, OnlyM 16777216 x0 (linkUpState x0 x1 x2 x3) := by
  intro x0 x1 x2 x3
  unfold linkUpState
  lift_lets
  intro y0
  clear_value y0
  intro y1
  clear_value y1
  refine OnlyM.comp (upd_link _ _) (by rfl) ?_
  exact OnlyM.refl _ _

theorem linkTrained_only : ∀ x0 x1 x2, OnlyM 1972549927830721 x0 (linkTrained x0 x1 x2) := by
  intro x0 x1 x2
  unfold linkTrained
  lift_lets
  intro y0
  clear_value y0
  intro y1
  clear_value y1
  intro y2
  clear_value y2
  intro y3
  clear_value y3
  intro y4
  clear_value y4
  intro y5
  refine OnlyM.useHave (show OnlyM 1972549927830721 x0 y5 from ?_) (fun hy5 => ?_)
  · unfold y5
    refine OnlyM.comp (linkUpState_only _ _ _ _) (by rfl) ?_
    exact OnlyM.refl _ _
  clear_value y5
  intro y6
  refine OnlyM.useHave (show OnlyM 1972549927830721 x0 y6 from ?_) (fun hy6 => ?_)
  · unfold y6
    refine OnlyM.ite ?_ ?_
    · refine OnlyM.comp (putN_only _ _ _ _) (by rfl) ?_
      assumption
    · assumption
  clear_value y6
  intro y7
  refine OnlyM.useHave (show OnlyM 1972549927830721 x0 y7 from ?_) (fun hy7 => ?_)
  · unfold y7
    refine OnlyM.comp (linkUpEnds_only _ _ _ _) (by rfl) ?_
    assumption
  clear_value y7
  intro y8
  refine OnlyM.useHave (show OnlyM 1972549927830721 x0 y8 from ?_) (fun hy8 => ?_)
  · unfold y8
    refine OnlyM.comp (linkUpNews_only _ _ _ _ _) (by rfl) ?_
    assumption
  clear_value y8
  refine OnlyM.ite ?_ ?_
  · refine OnlyM.comp (linkDown_only _) (by rfl) ?_
    refine OnlyM.comp (upd_link _ _) (by rfl) ?_
    exact OnlyM.refl _ _
  · split
    · refine OnlyM.comp (retrain_only _ _ _ _) (by rfl) ?_
      assumption
    · assumption

theorem execLinkUp_only : ∀ x0 x1 x2, OutOnly 1972549927830721 x2 (execLinkUp x0 x1 x2) := by
  intro x0 x1 x2
  unfold execLinkUp
  refine OutOnly.next ?_
  refine OnlyM.ite ?_ ?_
  · refine OnlyM.comp (linkTrained_only _ _ _) (by rfl) ?_
    exact OnlyM.refl _ _
  · exact OnlyM.refl _ _

theorem execLoadReport_only : ∀ x0, OutOnly 65728 x0 (execLoadReport x0) := by
  intro x0
  unfold execLoadReport
  refine OutOnly.next ?_
  refine OnlyM.ite ?_ ?_
  · refine OnlyM.comp (bump_only _ _ _ _) (by rfl) ?_
    refine OnlyM.comp (upd_replica _ _) (by rfl) ?_
    exact OnlyM.refl _ _
  · exact OnlyM.refl _ _

theorem execLockstepMismatch_only : ∀ x0, OutOnly 387036682911745 x0 (execLockstepMismatch x0) := by
  intro x0
  unfold execLockstepMismatch
  refine OutOnly.next ?_
  refine OnlyM.ite ?_ ?_
  · refine OnlyM.comp (firmwareHalt_only _) (by rfl) ?_
    refine OnlyM.comp (stoAll_only _) (by rfl) ?_
    refine OnlyM.comp (upd_saf _ _) (by rfl) ?_
    exact OnlyM.refl _ _
  · exact OnlyM.refl _ _

theorem execMailboxUnsupported_only : ∀ x0 x1, OutOnly 8589934592 x1 (execMailboxUnsupported x0 x1) := by
  intro x0 x1
  unfold execMailboxUnsupported
  refine OutOnly.next ?_
  refine OnlyM.ite ?_ ?_
  · refine OnlyM.comp (upd_bus _ _) (by rfl) ?_
    exact OnlyM.refl _ _
  · exact OnlyM.refl _ _

theorem fastPath_only : ∀ x0 x1, OnlyM 565148976677056 x0 (fastPath x0 x1) := by
  intro x0 x1
  unfold fastPath
  lift_lets
  intro y0
  intro y1
  intro y2
  refine OnlyM.useHave (show OnlyM 565148976677056 x0 y2 from ?_) (fun hy2 => ?_)
  · unfold y2
    refine OnlyM.comp (upd_pwr _ _) (by rfl) ?_
    exact OnlyM.refl _ _
  intro y3
  refine OnlyM.useHave (show OnlyM 565148976677056 x0 y3 from ?_) (fun hy3 => ?_)
  · unfold y3
    refine OnlyM.comp (setLevel_only _ _) (by rfl) ?_
    refine OnlyM.comp (bump_only _ _ _ _) (by rfl) ?_
    assumption
  clear_value y3
  intro y4
  clear_value y4
  refine OnlyM.ite ?_ ?_
  · refine OnlyM.comp (upd_pwr _ _) (by rfl) ?_
    assumption
  · assumption

theorem shareEnergy_only : ∀ x0 x1 x2, OnlyM 2253998836940800 x0 (shareEnergy x0 x1 x2) := by
  intro x0 x1 x2
  unfold shareEnergy
  lift_lets
  intro y0
  clear_value y0
  intro y1
  clear_value y1
  intro y2
  clear_value y2
  intro y3
  clear_value y3
  refine OnlyM.foldl ?_ (fun _ _ _ => ?_)
  · refine OnlyM.comp (drawn_only _) (by rfl) ?_
    exact OnlyM.refl _ _
  · split
    · refine OnlyM.ite ?_ ?_
      · refine OnlyM.comp (setJob_only _ _ _) (by rfl) ?_
        assumption
      · assumption
    · assumption

theorem meters_only : ∀ x0 x1, OnlyM 2816948790362112 x0 (meters x0 x1) := by
  intro x0 x1
  unfold meters
  lift_lets
  intro y0
  intro y1
  clear_value y1
  refine OnlyM.comp (shareEnergy_only _ _ _) (by rfl) ?_
  refine OnlyM.comp (upd_pwr _ _) (by rfl) ?_
  exact OnlyM.refl _ _

theorem shedPhases_only : ∀ x0 x1, OnlyM 562949953421312 x0 (shedPhases x0 x1) := by
  intro x0 x1
  unfold shedPhases
  refine OnlyM.comp (upd_pwr _ _) (by rfl) ?_
  exact OnlyM.refl _ _

theorem execMeterSample_only : ∀ x0 x1, OutOnly 2816948790362304 x1 (execMeterSample x0 x1) := by
  intro x0 x1
  unfold execMeterSample
  refine OutOnly.next ?_
  refine OnlyM.ite ?_ ?_
  · exact OnlyM.refl _ _
  · refine OnlyM.comp (fastPath_only _ _) (by rfl) ?_
    refine OnlyM.comp (shedPhases_only _ _) (by rfl) ?_
    refine OnlyM.comp (meters_only _ _) (by rfl) ?_
    exact OnlyM.refl _ _

theorem execMeterSenseFailure_only : ∀ x0 x1, OutOnly 565148976677056 x1 (execMeterSenseFailure x0 x1) := by
  intro x0 x1
  unfold execMeterSenseFailure
  refine OutOnly.next ?_
  refine OnlyM.ite ?_ ?_
  · exact OnlyM.refl _ _
  · lift_lets
    intro y0
    intro y1
    refine OnlyM.useHave (show OnlyM 565148976677056 x1 y1 from ?_) (fun hy1 => ?_)
    · unfold y1
      refine OnlyM.comp (upd_pwr _ _) (by rfl) ?_
      exact OnlyM.refl _ _
    refine OnlyM.ite ?_ ?_
    · refine OnlyM.comp (setLevel_only _ _) (by rfl) ?_
      refine OnlyM.comp (bump_only _ _ _ _) (by rfl) ?_
      assumption
    · assumption

theorem positionCommand_only : ∀ x0 x1, OnlyM 1520023300545776 x0 (positionCommand x0 x1).1 := by
  intro x0 x1
  have h : ∀ (e : Nat) (l : List Nat), OnlyM 1520023300545776 x0 (if !entryOk .field e then (x0, some (4, 0xFF))
      else match l with
        | [] => (x0, some (1, 0xFF))
        | n :: _ => (fieldEntrySet x0 n e, none)).1 := by
    intro e l
    refine OnlyM.ite1 (OnlyM.refl _ _) ?_
    cases l with
    | nil => exact OnlyM.refl _ _
    | cons n t => exact (fieldEntrySet_only _ _ _).mono (by rfl)
  exact h _ _

theorem mirrorCommand_only : ∀ x0 x1, OnlyM 1520023300545776 x0 (mirrorCommand x0 x1).1 := by
  intro x0 x1
  unfold mirrorCommand
  refine OnlyM.ite1 ?_ ?_
  · refine OnlyM.pair ?_
    exact OnlyM.refl _ _
  · refine OnlyM.ite1 ?_ ?_
    · refine OnlyM.comp (positionCommand_only _ _) (by rfl) ?_
      exact OnlyM.refl _ _
    · refine OnlyM.ite1 ?_ ?_
      · refine OnlyM.comp (axisCommand_only _ _) (by rfl) ?_
        exact OnlyM.refl _ _
      · refine OnlyM.pair ?_
        exact OnlyM.refl _ _

theorem takeMirror_only : ∀ x0 x1, OnlyM 1520031890480368 x0 (takeMirror x0 x1) := by
  intro x0 x1
  unfold takeMirror
  lift_lets
  intro y0
  clear_value y0
  intro y1
  refine OnlyM.useHave (show OnlyM 1520031890480368 x0 y1 from ?_) (fun hy1 => ?_)
  · unfold y1
    refine OnlyM.comp (ageCount_only _ _) (by rfl) ?_
    exact OnlyM.refl _ _
  clear_value y1
  intro y2
  refine OnlyM.useHave (show OnlyM 1520031890480368 x0 y2.1 from ?_) (fun hy2 => ?_)
  · unfold y2
    refine OnlyM.comp (mirrorCommand_only _ _) (by rfl) ?_
    assumption
  clear_value y2
  refine OnlyM.ite ?_ ?_
  · refine OnlyM.comp (placeResult_only _ _ _ _) (by rfl) ?_
    refine OnlyM.comp (ageReject_only _ _ _) (by rfl) ?_
    assumption
  · split
    · refine OnlyM.comp (placeResult_only _ _ _ _) (by rfl) ?_
      refine OnlyM.comp (commandRejected_only _ _ _ _) (by rfl) ?_
      assumption
    · refine OnlyM.comp (placeResult_only _ _ _ _) (by rfl) ?_
      assumption

theorem execMirrorMessage_only : ∀ x0, OutOnly 1520031890480368 x0 (execMirrorMessage x0) := by
  intro x0
  unfold execMirrorMessage
  refine OutOnly.next ?_
  split
  · refine OnlyM.ite ?_ ?_
    · refine OnlyM.comp (takeMirror_only _ _) (by rfl) ?_
      exact OnlyM.mono (takeIn_of (by assumption)) (by rfl)
    · exact OnlyM.refl _ _
  · exact OnlyM.refl _ _

theorem execModeOfOperationWrite_only : ∀ x0 x1 x2, OutOnly 4493119672025073 x2 (execModeOfOperationWrite x0 x1 x2) := by
  intro x0 x1 x2
  unfold execModeOfOperationWrite
  refine OutOnly.next ?_
  refine OnlyM.comp (objectWrite_only _ _ _ _) (by rfl) ?_
  exact OnlyM.refl _ _

theorem slotBody_only : ∀ x0 x1 x2, OnlyM 2199023255552 x0 (slotBody x0 x1 x2) := by
  intro x0 x1 x2
  unfold slotBody
  lift_lets
  intro y0
  clear_value y0
  intro y1
  clear_value y1
  intro y2
  clear_value y2
  refine OnlyM.comp (upd_gal _ _) (by rfl) ?_
  exact OnlyM.refl _ _

theorem slotLoaded_only : ∀ x0 x1 x2, OnlyM 2199023255744 x0 (slotLoaded x0 x1 x2) := by
  intro x0 x1 x2
  unfold slotLoaded
  lift_lets
  intro y0
  clear_value y0
  intro y1
  refine OnlyM.useHave (show OnlyM 2199023255744 x0 y1 from ?_) (fun hy1 => ?_)
  · unfold y1
    split
    · refine OnlyM.comp (galEcc_only _ _) (by rfl) ?_
      exact OnlyM.refl _ _
    · refine OnlyM.comp (galEcc_only _ _) (by rfl) ?_
      exact OnlyM.refl _ _
    · exact OnlyM.refl _ _
  clear_value y1
  split
  · lift_lets
    intro y2
    clear_value y2
    refine OnlyM.ite ?_ ?_
    · refine OnlyM.comp (setSlot_only _ _ _) (by rfl) ?_
      refine OnlyM.comp (slotBody_only _ _ _) (by rfl) ?_
      assumption
    · refine OnlyM.comp (setSlot_only _ _ _) (by rfl) ?_
      assumption
  · exact OnlyM.refl _ _

theorem execModelLoadComplete_only : ∀ x0 x1 x2, OutOnly 2199023255744 x2 (execModelLoadComplete x0 x1 x2) := by
  intro x0 x1 x2
  unfold execModelLoadComplete
  refine OutOnly.next ?_
  refine OnlyM.ite ?_ ?_
  · refine OnlyM.comp (slotLoaded_only _ _ _) (by rfl) ?_
    exact OnlyM.refl _ _
  · exact OnlyM.refl _ _

theorem execModelLoadFromDram_only : ∀ x0 x1 x2 x3, OutOnly 2201170739200 x3 (execModelLoadFromDram x0 x1 x2 x3) := by
  intro x0 x1 x2 x3
  unfold execModelLoadFromDram
  refine OutOnly.next ?_
  refine OnlyM.ite ?_ ?_
  · refine OnlyM.comp (slotLoad_only _ _ _) (by rfl) ?_
    exact OnlyM.refl _ _
  · exact OnlyM.refl _ _

theorem execModelUnload_only : ∀ x0 x1 x2, OutOnly 2201170739200 x2 (execModelUnload x0 x1 x2) := by
  intro x0 x1 x2
  unfold execModelUnload
  lift_lets
  intro y0
  clear_value y0
  refine OutOnly.next ?_
  refine OnlyM.ite ?_ ?_
  · refine OnlyM.comp (setSlot_only _ _ _) (by rfl) ?_
    refine OnlyM.comp (undoSlot_only _ _) (by rfl) ?_
    exact OnlyM.refl _ _
  · exact OnlyM.refl _ _

theorem execMotionOverrideWrite_only : ∀ x0 x1, OutOnly 8589934784 x1 (execMotionOverrideWrite x0 x1) := by
  intro x0 x1
  unfold execMotionOverrideWrite
  refine OutOnly.next ?_
  refine OnlyM.ite ?_ ?_
  · lift_lets
    intro y0
    refine OnlyM.useHave (show OnlyM 8589934784 x1 y0.1 from ?_) (fun hy0 => ?_)
    · unfold y0
      refine OnlyM.comp (overrideWrite_only _ _) (by rfl) ?_
      exact OnlyM.refl _ _
    clear_value y0
    refine OnlyM.comp (sdoAnswer_only _ _ _ _ _) (by rfl) ?_
    assumption
  · exact OnlyM.refl _ _

theorem leaveEngines_only : ∀ x0 x1, OnlyM 1099511627776 x0 (leaveEngines x0 x1) := by
  intro x0 x1
  unfold leaveEngines
  refine OnlyM.foldl ?_ (fun _ _ _ => ?_)
  · exact OnlyM.refl _ _
  · refine OnlyM.comp (upd_engines _ _) (by rfl) ?_
    assumption

theorem publishCopies_only : ∀ x0 x1 x2 x3, OnlyM 288226677884096 x0 (publishCopies x0 x1 x2 x3) := by
  intro x0 x1 x2 x3
  unfold publishCopies
  refine OnlyM.foldl ?_ (fun _ _ _ => ?_)
  · exact OnlyM.refl _ _
  · refine OnlyM.ite ?_ ?_
    · refine OnlyM.comp (publish_only _ _ _ _ _ _ _) (by rfl) ?_
      assumption
    · assumption

theorem publishNode_only : ∀ x0 x1 x2 x3, OnlyM 288501555791040 x0 (publishNode x0 x1 x2 x3) := by
  intro x0 x1 x2 x3
  unfold publishNode
  lift_lets
  intro y0
  clear_value y0
  intro y1
  clear_value y1
  refine OnlyM.ite ?_ ?_
  · refine OnlyM.comp (publishCopies_only _ _ _ _) (by rfl) ?_
    exact OnlyM.refl _ _
  · split
    · refine OnlyM.comp (setGph_only _ _ _) (by rfl) ?_
      exact OnlyM.refl _ _
    · exact OnlyM.refl _ _

theorem readSurface_only : ∀ x0 x1 x2 x3, OnlyM 281492169162944 x0 (readSurface x0 x1 x2 x3).1 := by
  intro x0 x1 x2 x3
  unfold readSurface
  refine OnlyM.ite1 ?_ ?_
  · refine OnlyM.pair ?_
    exact OnlyM.refl _ _
  · lift_lets
    intro y0
    clear_value y0
    intro y1
    refine OnlyM.useHave (show OnlyM 281492169162944 x0 y1.1 from ?_) (fun hy1 => ?_)
    · unfold y1
      refine OnlyM.comp (engLoad_only _ _ _ _) (by rfl) ?_
      exact OnlyM.refl _ _
    clear_value y1
    refine OnlyM.pair ?_
    refine OnlyM.comp (countLine_only _ _ _) (by rfl) ?_
    assumption

theorem readInputs_only : ∀ x0 x1 x2 x3, OnlyM 281492169162944 x0 (readInputs x0 x1 x2 x3).1 := by
  intro x0 x1 x2 x3
  unfold readInputs
  refine OnlyM.foldl1 ?_ (fun _ _ _ => ?_)
  · refine OnlyM.pair ?_
    exact OnlyM.refl _ _
  · lift_lets
    intro y0
    clear_value y0
    intro y1
    refine OnlyM.useHave (show OnlyM 281492169162944 x0 y1.1 from ?_) (fun hy1 => ?_)
    · unfold y1
      refine OnlyM.comp (readSurface_only _ _ _ _) (by rfl) ?_
      assumption
    clear_value y1
    refine OnlyM.pair ?_
    assumption

theorem releaseRead_only : ∀ x0 x1, OnlyM 412316860608 x0 (releaseRead x0 x1) := by
  intro x0 x1
  unfold releaseRead
  split
  · exact OnlyM.refl _ _
  · refine OnlyM.foldl ?_ (fun _ _ _ => ?_)
    · exact OnlyM.refl _ _
    · split
      · assumption
      · split
        · refine OnlyM.ite ?_ ?_
          · assumption
          · refine OnlyM.comp (flagRelease_only _ _) (by rfl) ?_
            refine OnlyM.comp (setGph_only _ _ _) (by rfl) ?_
            assumption
        · assumption

theorem writeSurface_only : ∀ x0 x1 x2 x3 x4, OnlyM 281767047069888 x0 (writeSurface x0 x1 x2 x3 x4) := by
  intro x0 x1 x2 x3 x4
  unfold writeSurface
  refine OnlyM.ite ?_ ?_
  · refine OnlyM.comp (grottoWrite_only _ _ _) (by rfl) ?_
    exact OnlyM.refl _ _
  · refine OnlyM.foldl ?_ (fun _ _ _ => ?_)
    · exact OnlyM.refl _ _
    · lift_lets
      intro y0
      refine OnlyM.useHave (show OnlyM 281767047069888 x0 y0.1 from ?_) (fun hy0 => ?_)
      · unfold y0
        refine OnlyM.comp (postStore_only _ _ _ _ _) (by rfl) ?_
        assumption
      clear_value y0
      refine OnlyM.ite ?_ ?_
      · assumption
      · refine OnlyM.comp (runLateFault_only _ _ _) (by rfl) ?_
        assumption

theorem writeOutputs_only : ∀ x0 x1 x2 x3 x4 x5, OnlyM 281767047069888 x0 (writeOutputs x0 x1 x2 x3 x4 x5) := by
  intro x0 x1 x2 x3 x4 x5
  unfold writeOutputs
  refine OnlyM.foldl ?_ (fun _ _ _ => ?_)
  · exact OnlyM.refl _ _
  · lift_lets
    intro y0
    clear_value y0
    refine OnlyM.comp (writeSurface_only _ _ _ _ _) (by rfl) ?_
    assumption

theorem execNodeComplete_only : ∀ x0 x1 x2 x3, OutOnly 3667300787946688 x3 (execNodeComplete x0 x1 x2 x3) := by
  intro x0 x1 x2 x3
  unfold execNodeComplete
  lift_lets
  intro y0
  clear_value y0
  intro y1
  clear_value y1
  refine OutOnly.next ?_
  split
  · exact OnlyM.refl _ _
  · lift_lets
    intro y2
    clear_value y2
    intro y3
    clear_value y3
    intro y4
    refine OnlyM.useHave (show OnlyM 3667300787946688 x3 y4.1 from ?_) (fun hy4 => ?_)
    · unfold y4
      refine OnlyM.comp (readInputs_only _ _ _ _) (by rfl) ?_
      exact OnlyM.refl _ _
    clear_value y4
    intro y5
    clear_value y5
    intro y6
    clear_value y6
    intro y7
    clear_value y7
    intro y8
    refine OnlyM.useHave (show OnlyM 3667300787946688 x3 y8 from ?_) (fun hy8 => ?_)
    · unfold y8
      refine OnlyM.comp (leaveEngines_only _ _) (by rfl) ?_
      refine OnlyM.comp (setGph_only _ _ _) (by rfl) ?_
      assumption
    clear_value y8
    intro y9
    refine OnlyM.useHave (show OnlyM 3667300787946688 x3 y9 from ?_) (fun hy9 => ?_)
    · unfold y9
      refine OnlyM.comp (writeOutputs_only _ _ _ _ _ _) (by rfl) ?_
      assumption
    clear_value y9
    intro y10
    refine OnlyM.useHave (show OnlyM 3667300787946688 x3 y10 from ?_) (fun hy10 => ?_)
    · unfold y10
      refine OnlyM.ite ?_ ?_
      · refine OnlyM.comp (bump_only _ _ _ _) (by rfl) ?_
        assumption
      · assumption
    clear_value y10
    intro y11
    refine OnlyM.useHave (show OnlyM 3667300787946688 x3 y11 from ?_) (fun hy11 => ?_)
    · unfold y11
      refine OnlyM.ite ?_ ?_
      · refine OnlyM.comp (drawn_only _) (by rfl) ?_
        refine OnlyM.comp (logHost_only _ _) (by rfl) ?_
        refine OnlyM.comp (bump_only _ _ _ _) (by rfl) ?_
        assumption
      · assumption
    clear_value y11
    refine OnlyM.ite ?_ ?_
    · exact OnlyM.refl _ _
    · refine OnlyM.comp (runTryEnd_only _ _) (by rfl) ?_
      refine OnlyM.comp (releaseRead_only _ _) (by rfl) ?_
      refine OnlyM.comp (publishNode_only _ _ _ _) (by rfl) ?_
      assumption

theorem startNode_only : ∀ x0 x1 x2 x3, OnlyM 412316860416 x0 (startNode x0 x1 x2 x3) := by
  intro x0 x1 x2 x3
  unfold startNode
  lift_lets
  intro y0
  refine OnlyM.useHave (show OnlyM 412316860416 x0 y0 from ?_) (fun hy0 => ?_)
  · unfold y0
    refine OnlyM.foldl ?_ (fun _ _ _ => ?_)
    · exact OnlyM.refl _ _
    · lift_lets
      intro y1
      clear_value y1
      intro y2
      clear_value y2
      refine OnlyM.ite ?_ ?_
      · refine OnlyM.comp (setFlag_only _ _ _) (by rfl) ?_
        assumption
      · assumption
  clear_value y0
  intro y3
  clear_value y3
  refine OnlyM.comp (setGph_only _ _ _) (by rfl) ?_
  assumption

theorem execNodeDispatch_only : ∀ x0 x1, OutOnly 1511828488192 x1 (execNodeDispatch x0 x1) := by
  intro x0 x1
  unfold execNodeDispatch
  lift_lets
  intro y0
  clear_value y0
  refine OutOnly.next ?_
  refine OnlyM.ite ?_ ?_
  · exact OnlyM.refl _ _
  · split
    · exact OnlyM.refl _ _
    · split
      · lift_lets
        intro y1
        refine OnlyM.useHave (show OnlyM 1511828488192 x1 y1 from ?_) (fun hy1 => ?_)
        · unfold y1
          refine OnlyM.comp (startNode_only _ _ _ _) (by rfl) ?_
          exact OnlyM.refl _ _
        clear_value y1
        refine OnlyM.comp (upd_engines _ _) (by rfl) ?_
        assumption
      · exact OnlyM.refl _ _

theorem execNodeTimeLimit_only : ∀ x0 x1 x2, OutOnly 1408903904494784 x2 (execNodeTimeLimit x0 x1 x2) := by
  intro x0 x1 x2
  unfold execNodeTimeLimit
  lift_lets
  intro y0
  clear_value y0
  intro y1
  clear_value y1
  intro y2
  clear_value y2
  refine OutOnly.next ?_
  split
  · exact OnlyM.refl _ _
  · lift_lets
    intro y3
    refine OnlyM.useHave (show OnlyM 1408903904494784 x2 y3 from ?_) (fun hy3 => ?_)
    · unfold y3
      refine OnlyM.comp (setGph_only _ _ _) (by rfl) ?_
      exact OnlyM.refl _ _
    clear_value y3
    refine OnlyM.ite ?_ ?_
    · exact OnlyM.refl _ _
    · refine OnlyM.comp (runTryEnd_only _ _) (by rfl) ?_
      refine OnlyM.comp (releaseRead_only _ _) (by rfl) ?_
      refine OnlyM.comp (leaveEngines_only _ _) (by rfl) ?_
      assumption

theorem execNqCancel_only : ∀ x0 x1 x2, OutOnly 288226677884096 x2 (execNqCancel x0 x1 x2) := by
  intro x0 x1 x2
  unfold execNqCancel
  refine OutOnly.next ?_
  refine OnlyM.ite ?_ ?_
  · refine OnlyM.comp (cancelHead_only _ _) (by rfl) ?_
    exact OnlyM.refl _ _
  · exact OnlyM.refl _ _

theorem execNqDoorbell_only : ∀ x0 x1 x2, OutOnly 1024 x2 (execNqDoorbell x0 x1 x2) := by
  intro x0 x1 x2
  unfold execNqDoorbell
  refine OutOnly.next ?_
  refine OnlyM.ite ?_ ?_
  · refine OnlyM.comp (setReg_only _ _ _) (by rfl) ?_
    exact OnlyM.refl _ _
  · exact OnlyM.refl _ _

theorem execNqRelease_only : ∀ x0 x1 x2, OutOnly 288226677884096 x2 (execNqRelease x0 x1 x2) := by
  intro x0 x1 x2
  unfold execNqRelease
  refine OutOnly.next ?_
  refine OnlyM.ite ?_ ?_
  · refine OnlyM.comp (jobRelease_only _ _) (by rfl) ?_
    exact OnlyM.refl _ _
  · exact OnlyM.refl _ _

theorem execPairFault_only : ∀ x0 x1, OutOnly 1972541337896128 x1 (execPairFault x0 x1) := by
  intro x0 x1
  unfold execPairFault
  refine OutOnly.next ?_
  refine OnlyM.ite ?_ ?_
  · exact OnlyM.refl _ _
  · refine OnlyM.comp (pairsFault_only _ _ _) (by rfl) ?_
    exact OnlyM.refl _ _

theorem execPartnerBootTimeout_only : ∀ x0 x1, OutOnly 2078104101061824 x1 (execPartnerBootTimeout x0 x1) := by
  intro x0 x1
  unfold execPartnerBootTimeout
  refine OutOnly.next ?_
  split
  · refine OnlyM.ite ?_ ?_
    · refine OnlyM.comp (hostLost_only _) (by rfl) ?_
      refine OnlyM.ite ?_ ?_
      · refine OnlyM.comp (putN_only _ _ _ _) (by rfl) ?_
        exact OnlyM.refl _ _
      · exact OnlyM.refl _ _
    · exact OnlyM.refl _ _
  · refine OnlyM.ite ?_ ?_
    · refine OnlyM.comp (fieldLost_only _) (by rfl) ?_
      exact OnlyM.refl _ _
    · exact OnlyM.refl _ _

theorem execPatrolScrub_only : ∀ x0 x1 x2 x3, OutOnly 281492169162944 x3 (execPatrolScrub x0 x1 x2 x3) := by
  intro x0 x1 x2 x3
  unfold execPatrolScrub
  refine OutOnly.next ?_
  refine OnlyM.ite ?_ ?_
  · exact OnlyM.refl _ _
  · lift_lets
    intro y0
    refine OnlyM.useHave (show OnlyM 281492169162944 x3 y0 from ?_) (fun hy0 => ?_)
    · unfold y0
      refine OnlyM.comp (eccRead_only _ _ _) (by rfl) ?_
      exact OnlyM.refl _ _
    clear_value y0
    intro y1
    clear_value y1
    refine OnlyM.ite ?_ ?_
    · refine OnlyM.comp (upd_mem _ _) (by rfl) ?_
      assumption
    · assumption

theorem portBufFault_only : ∀ x0, OnlyM 1024 x0 (portBufFault x0) := by
  intro x0
  unfold portBufFault
  refine OnlyM.comp (setReg_only _ _ _) (by rfl) ?_
  exact OnlyM.refl _ _

theorem portData_only : ∀ x0 x1, OnlyM 281492169163968 x0 (portData x0 x1).1 := by
  intro x0 x1
  unfold portData
  refine OnlyM.ite1 ?_ ?_
  · refine OnlyM.ite1 ?_ ?_
    · refine OnlyM.pair ?_
      exact OnlyM.refl _ _
    · refine OnlyM.pair ?_
      exact OnlyM.refl _ _
  · lift_lets
    intro y0
    refine OnlyM.useHave (show OnlyM 281492169163968 x0 y0.1 from ?_) (fun hy0 => ?_)
    · unfold y0
      refine OnlyM.comp (engLoad_only _ _ _ _) (by rfl) ?_
      exact OnlyM.refl _ _
    clear_value y0
    refine OnlyM.ite1 ?_ ?_
    · refine OnlyM.pair ?_
      assumption
    · refine OnlyM.pair ?_
      refine OnlyM.comp (portBufFault_only _) (by rfl) ?_
      assumption

theorem h2dNext_only : ∀ x0 r, h2dNext x0 = some r → OnlyM 281492169163968 x0 r.1 := by
  intro x0 r h
  unfold h2dNext at h
  dsimp -proj only at h
  split at h
  · cases h
  · cases h
    exact OnlyM.comp (setReg_only _ _ _) rfl ((engLoad_only _ _ _ _).mono rfl)

theorem h2dNext_of {x0 t : State} {e : H2d} (h : h2dNext x0 = some (t, e)) : OnlyM 281492169163968 x0 t :=
  h2dNext_only _ _ h

theorem portRequest_only : ∀ x0 x1 r, portRequest x0 x1 = some r → OnlyM 281492169163968 x0 r.1 := by
  intro x0 x1 r h
  unfold portRequest at h
  split at h
  · rename_i t e he
    split at h
    · cases h
      exact (h2dNext_only _ _ he).mono rfl
    · cases h
  · cases h

theorem portRequest_of {x0 t : State} {x1 : Nat} {e : H2d} (h : portRequest x0 x1 = some (t, e)) : OnlyM 281492169163968 x0 t :=
  portRequest_only _ _ _ h

theorem forwardPort_only : ∀ x0 x1 x2, OnlyM 1407392109561024 x0 (forwardPort x0 x1 x2) := by
  intro x0 x1 x2
  unfold forwardPort
  lift_lets
  intro y0
  clear_value y0
  intro y1
  clear_value y1
  refine OnlyM.ite ?_ ?_
  · refine OnlyM.comp (portEnd_only _ _ _) (by rfl) ?_
    exact OnlyM.refl _ _
  · refine OnlyM.ite ?_ ?_
    · refine OnlyM.comp (portEnd_only _ _ _) (by rfl) ?_
      exact OnlyM.refl _ _
    · refine OnlyM.foldl ?_ (fun _ _ _ => ?_)
      · exact OnlyM.refl _ _
      · lift_lets
        intro y2
        clear_value y2
        refine OnlyM.comp (forwardIn_only _ _ _ _ _ _) (by rfl) ?_
        assumption

theorem portAwait_only : ∀ x0 x1, OnlyM 268435456 x0 (portAwait x0 x1) := by
  intro x0 x1
  unfold portAwait
  refine OnlyM.comp (upd_portWaits _ _) (by rfl) ?_
  exact OnlyM.refl _ _

theorem portFrame_only : ∀ x0 x1 x2 x3 x4 x5, OnlyM 12582912 x0 (portFrame x0 x1 x2 x3 x4 x5) := by
  intro x0 x1 x2 x3 x4 x5
  unfold portFrame
  refine OnlyM.comp (ropeSend_only _ _ _) (by rfl) ?_
  exact OnlyM.refl _ _

theorem portWriteOf_only : ∀ x0 x1 x2, OnlyM 1407392377996480 x0 (portWriteOf x0 x1 x2) := by
  intro x0 x1 x2
  unfold portWriteOf
  lift_lets
  intro y0
  clear_value y0
  intro y1
  clear_value y1
  refine OnlyM.ite ?_ ?_
  · refine OnlyM.comp (forwardPort_only _ _ _) (by rfl) ?_
    exact OnlyM.refl _ _
  · refine OnlyM.ite ?_ ?_
    · refine OnlyM.comp (portEnd_only _ _ _) (by rfl) ?_
      exact OnlyM.refl _ _
    · refine OnlyM.comp (portFrame_only _ _ _ _ _ _) (by rfl) ?_
      refine OnlyM.comp (portAwait_only _ _) (by rfl) ?_
      exact OnlyM.refl _ _

theorem execPortConfirmedWrite_only : ∀ x0, OutOnly 1407392377996480 x0 (execPortConfirmedWrite x0) := by
  intro x0
  unfold execPortConfirmedWrite
  refine OutOnly.next ?_
  split
  · lift_lets
    intro y0
    refine OnlyM.useHave (show OnlyM 1407392377996480 x0 y0.1 from ?_) (fun hy0 => ?_)
    · unfold y0
      refine OnlyM.comp (portData_only _ _) (by rfl) ?_
      exact OnlyM.mono (portRequest_of (by assumption)) (by rfl)
    clear_value y0
    refine OnlyM.ite ?_ ?_
    · refine OnlyM.comp (portEnd_only _ _ _) (by rfl) ?_
      assumption
    · refine OnlyM.comp (portWriteOf_only _ _ _) (by rfl) ?_
      assumption
  · exact OnlyM.refl _ _

theorem portReturn_only : ∀ x0 x1 x2, OnlyM 1407392076006592 x0 (portReturn x0 x1 x2) := by
  intro x0 x1 x2
  unfold portReturn
  lift_lets
  intro y0
  clear_value y0
  intro y1
  refine OnlyM.useHave (show OnlyM 1407392076006592 x0 y1.1 from ?_) (fun hy1 => ?_)
  · unfold y1
    refine OnlyM.comp (engStore_only _ _ _ _) (by rfl) ?_
    exact OnlyM.refl _ _
  clear_value y1
  refine OnlyM.ite ?_ ?_
  · refine OnlyM.comp (portEnd_only _ _ _) (by rfl) ?_
    exact OnlyM.refl _ _
  · refine OnlyM.ite ?_ ?_
    · refine OnlyM.comp (portDone_only _ _ _ _ _ _ _ _ _ _) (by rfl) ?_
      exact OnlyM.refl _ _
    · refine OnlyM.ite ?_ ?_
      · refine OnlyM.comp (portDone_only _ _ _ _ _ _ _ _ _ _) (by rfl) ?_
        exact OnlyM.refl _ _
      · refine OnlyM.ite ?_ ?_
        · refine OnlyM.comp (portDone_only _ _ _ _ _ _ _ _ _ _) (by rfl) ?_
          assumption
        · refine OnlyM.comp (portEnd_only _ _ _) (by rfl) ?_
          refine OnlyM.comp (portBufFault_only _) (by rfl) ?_
          assumption

theorem hostAct_only : ∀ x0 x1 x2 x3, OnlyM 4361172084325618 x0 (hostAct x0 x1 x2 x3).1 := by
  intro x0 x1 x2 x3
  unfold hostAct
  lift_lets
  intro y0
  clear_value y0
  intro y1
  refine OnlyM.useHave (show OnlyM 4361172084325618 x0 y1.1 from ?_) (fun hy1 => ?_)
  · unfold y1
    refine OnlyM.comp (applyValue_only _ _ _ _) (by rfl) ?_
    exact OnlyM.refl _ _
  clear_value y1
  refine OnlyM.ite1 ?_ ?_
  · refine OnlyM.comp (resetRequestWrite_only _ _) (by rfl) ?_
    exact OnlyM.refl _ _
  · refine OnlyM.ite1 ?_ ?_
    · refine OnlyM.pair ?_
      refine OnlyM.comp (upd_hboot _ _) (by rfl) ?_
      exact OnlyM.refl _ _
    · refine OnlyM.ite1 ?_ ?_
      · refine OnlyM.pair ?_
        refine OnlyM.comp (putN_only _ _ _ _) (by rfl) ?_
        exact OnlyM.refl _ _
      · refine OnlyM.ite1 ?_ ?_
        · refine OnlyM.pair ?_
          exact OnlyM.refl _ _
        · refine OnlyM.ite1 ?_ ?_
          · refine OnlyM.ite1 ?_ ?_
            · refine OnlyM.pair ?_
              refine OnlyM.comp (setSlot_only _ _ _) (by rfl) ?_
              refine OnlyM.comp (undoSlot_only _ _) (by rfl) ?_
              exact OnlyM.refl _ _
            · refine OnlyM.pair ?_
              exact OnlyM.refl _ _
          · refine OnlyM.ite1 ?_ ?_
            · refine OnlyM.pair ?_
              refine OnlyM.comp (hostSettle_only _ _ _) (by rfl) ?_
              assumption
            · assumption

theorem writeHost_only : ∀ x0 x1 x2 x3, OnlyM 4361172084325618 x0 (writeHost x0 x1 x2 x3).1 := by
  intro x0 x1 x2 x3
  unfold writeHost
  refine OnlyM.ite1 ?_ ?_
  · refine OnlyM.pair ?_
    exact OnlyM.refl _ _
  · refine OnlyM.ite1 ?_ ?_
    · refine OnlyM.pair ?_
      exact OnlyM.refl _ _
    · refine OnlyM.pair ?_
      refine OnlyM.comp (hostAct_only _ _ _ _) (by rfl) ?_
      exact OnlyM.refl _ _

theorem writeHostAny_only : ∀ x0 x1 x2 x3 x4, OnlyM 4361172084325618 x0 (writeHostAny x0 x1 x2 x3 x4).1 := by
  intro x0 x1 x2 x3 x4
  unfold writeHostAny
  refine OnlyM.ite1 ?_ ?_
  · exact writeComplete_only _ _ _ _ _ _ (fun s i k d => (writeHost_only s i k d).mono (by rfl))
  · exact OnlyM.pair ((writeHost_only _ _ _ _).mono (by rfl))

theorem forwardAnswered_only : ∀ x0 x1 x2 x3, OnlyM 4361172184988914 x0 (forwardAnswered x0 x1 x2 x3) := by
  intro x0 x1 x2 x3
  unfold forwardAnswered
  lift_lets
  intro y0
  clear_value y0
  intro y1
  refine OnlyM.useHave (show OnlyM 4361172184988914 x0 y1 from ?_) (fun hy1 => ?_)
  · unfold y1
    refine OnlyM.comp (upd_hostSlots _ _) (by rfl) ?_
    exact OnlyM.refl _ _
  clear_value y1
  intro y2
  clear_value y2
  intro y3
  refine OnlyM.useHave (show OnlyM 4361172184988914 x0 y3 from ?_) (fun hy3 => ?_)
  · unfold y3
    refine OnlyM.comp (bump_only _ _ _ _) (by rfl) ?_
    assumption
  clear_value y3
  intro y4
  clear_value y4
  intro y5
  clear_value y5
  intro y6
  clear_value y6
  intro y7
  clear_value y7
  intro y8
  refine OnlyM.useHave (show OnlyM 4361172184988914 x0 y8 from ?_) (fun hy8 => ?_)
  · unfold y8
    refine OnlyM.ite ?_ ?_
    · refine OnlyM.comp (upd_fwdValue _ _) (by rfl) ?_
      assumption
    · assumption
  clear_value y8
  intro y9
  refine OnlyM.useHave (show OnlyM 4361172184988914 x0 y9.1 from ?_) (fun hy9 => ?_)
  · unfold y9
    refine OnlyM.ite1 ?_ ?_
    · refine OnlyM.comp (writeHostAny_only _ _ _ _ _) (by rfl) ?_
      assumption
    · refine OnlyM.pair ?_
      assumption
  clear_value y9
  intro y10
  refine OnlyM.useHave (show OnlyM 4361172184988914 x0 y10 from ?_) (fun hy10 => ?_)
  · unfold y10
    assumption
  clear_value y10
  intro y11
  clear_value y11
  intro y12
  clear_value y12
  intro y13
  clear_value y13
  refine OnlyM.ite ?_ ?_
  · refine OnlyM.comp (bump_only _ _ _ _) (by rfl) ?_
    assumption
  · refine OnlyM.ite ?_ ?_
    · refine OnlyM.comp (upd_pwr _ _) (by rfl) ?_
      assumption
    · split
      · lift_lets
        intro y14
        refine OnlyM.useHave (show OnlyM 4361172184988914 x0 y14 from ?_) (fun hy14 => ?_)
        · unfold y14
          refine OnlyM.ite ?_ ?_
          · assumption
          · refine OnlyM.comp (upd_hostSlots _ _) (by rfl) ?_
            assumption
        clear_value y14
        refine OnlyM.ite ?_ ?_
        · assumption
        · refine OnlyM.ite ?_ ?_
          · refine OnlyM.comp (portEnd_only _ _ _) (by rfl) ?_
            assumption
          · refine OnlyM.ite ?_ ?_
            · refine OnlyM.comp (portEnd_only _ _ _) (by rfl) ?_
              assumption
            · refine OnlyM.comp (portReturn_only _ _ _) (by rfl) ?_
              assumption
      · refine OnlyM.ite ?_ ?_
        · assumption
        · refine OnlyM.comp (answerMaster_only _ _ _ _ _ _ _) (by rfl) ?_
          assumption

theorem execPortForwardAnswer_only : ∀ x0, OutOnly 4361172184988914 x0 (execPortForwardAnswer x0) := by
  intro x0
  unfold execPortForwardAnswer
  refine OutOnly.next ?_
  split
  · exact OnlyM.refl _ _
  · refine OnlyM.ite ?_ ?_
    · exact OnlyM.refl _ _
    · split
      · exact OnlyM.mono (h2dNext_of (by assumption)) (by rfl)
      · lift_lets
        intro y0
        refine OnlyM.useHave (show OnlyM 4361172184988914 x0 y0.1 from ?_) (fun hy0 => ?_)
        · unfold y0
          refine OnlyM.ite1 ?_ ?_
          · refine OnlyM.comp (portData_only _ _) (by rfl) ?_
            exact OnlyM.mono (h2dNext_of (by assumption)) (by rfl)
          · refine OnlyM.pair ?_
            exact OnlyM.mono (h2dNext_of (by assumption)) (by rfl)
        clear_value y0
        refine OnlyM.ite ?_ ?_
        · refine OnlyM.comp (forwardAnswered_only _ _ _ _) (by rfl) ?_
          assumption
        · refine OnlyM.comp (forwardAnswered_only _ _ _ _) (by rfl) ?_
          assumption

theorem portPostOf_only : ∀ x0 x1 x2, OnlyM 1407392377996480 x0 (portPostOf x0 x1 x2) := by
  intro x0 x1 x2
  unfold portPostOf
  refine OnlyM.ite ?_ ?_
  · refine OnlyM.comp (forwardPort_only _ _ _) (by rfl) ?_
    exact OnlyM.refl _ _
  · refine OnlyM.ite ?_ ?_
    · refine OnlyM.comp (portWriteOf_only _ _ _) (by rfl) ?_
      exact OnlyM.refl _ _
    · refine OnlyM.ite ?_ ?_
      · refine OnlyM.comp (portEnd_only _ _ _) (by rfl) ?_
        exact OnlyM.refl _ _
      · lift_lets
        intro y0
        clear_value y0
        intro y1
        clear_value y1
        refine OnlyM.foldl ?_ (fun _ _ _ => ?_)
        · refine OnlyM.comp (portAwait_only _ _) (by rfl) ?_
          exact OnlyM.refl _ _
        · refine OnlyM.comp (portFrame_only _ _ _ _ _ _) (by rfl) ?_
          assumption

theorem execPortPostedWrite_only : ∀ x0, OutOnly 1407392377996480 x0 (execPortPostedWrite x0) := by
  intro x0
  unfold execPortPostedWrite
  refine OutOnly.next ?_
  split
  · lift_lets
    intro y0
    refine OnlyM.useHave (show OnlyM 1407392377996480 x0 y0.1 from ?_) (fun hy0 => ?_)
    · unfold y0
      refine OnlyM.comp (portData_only _ _) (by rfl) ?_
      exact OnlyM.mono (portRequest_of (by assumption)) (by rfl)
    clear_value y0
    refine OnlyM.ite ?_ ?_
    · refine OnlyM.comp (portEnd_only _ _ _) (by rfl) ?_
      assumption
    · refine OnlyM.comp (portPostOf_only _ _ _) (by rfl) ?_
      assumption
  · exact OnlyM.refl _ _

theorem portReadOf_only : ∀ x0 x1, OnlyM 1407392377996480 x0 (portReadOf x0 x1) := by
  intro x0 x1
  unfold portReadOf
  refine OnlyM.ite ?_ ?_
  · refine OnlyM.comp (forwardPort_only _ _ _) (by rfl) ?_
    exact OnlyM.refl _ _
  · refine OnlyM.ite ?_ ?_
    · refine OnlyM.comp (portEnd_only _ _ _) (by rfl) ?_
      exact OnlyM.refl _ _
    · refine OnlyM.comp (portFrame_only _ _ _ _ _ _) (by rfl) ?_
      refine OnlyM.comp (portAwait_only _ _) (by rfl) ?_
      exact OnlyM.refl _ _

theorem execPortRead_only : ∀ x0, OutOnly 1407392377996480 x0 (execPortRead x0) := by
  intro x0
  unfold execPortRead
  refine OutOnly.next ?_
  split
  · refine OnlyM.comp (portReadOf_only _ _) (by rfl) ?_
    exact OnlyM.mono (portRequest_of (by assumption)) (by rfl)
  · exact OnlyM.refl _ _

theorem execPortReadSegment_only : ∀ x0, OutOnly 1407392377996480 x0 (execPortReadSegment x0) := by
  intro x0
  unfold execPortReadSegment
  refine OutOnly.next ?_
  split
  · refine OnlyM.comp (portReadOf_only _ _) (by rfl) ?_
    exact OnlyM.mono (portRequest_of (by assumption)) (by rfl)
  · exact OnlyM.refl _ _

theorem execPortUnknownEntry_only : ∀ x0, OutOnly 1407392076006592 x0 (execPortUnknownEntry x0) := by
  intro x0
  unfold execPortUnknownEntry
  refine OutOnly.next ?_
  split
  · refine OnlyM.ite ?_ ?_
    · exact OnlyM.refl _ _
    · refine OnlyM.comp (portEnd_only _ _ _) (by rfl) ?_
      exact OnlyM.mono (h2dNext_of (by assumption)) (by rfl)
  · exact OnlyM.refl _ _

theorem portSegment_only : ∀ x0 x1 x2, OnlyM 1407392512214208 x0 (portSegment x0 x1 x2) := by
  intro x0 x1 x2
  unfold portSegment
  lift_lets
  intro y0
  clear_value y0
  split
  · refine OnlyM.comp (portEnd_only _ _ _) (by rfl) ?_
    refine OnlyM.comp (upd_portXfer _ _) (by rfl) ?_
    exact OnlyM.refl _ _
  · lift_lets
    intro y1
    clear_value y1
    refine OnlyM.ite ?_ ?_
    · refine OnlyM.comp (portWriteOf_only _ _ _) (by rfl) ?_
      refine OnlyM.comp (upd_portXfer _ _) (by rfl) ?_
      exact OnlyM.refl _ _
    · refine OnlyM.comp (portEnd_only _ _ _) (by rfl) ?_
      refine OnlyM.comp (upd_portXfer _ _) (by rfl) ?_
      exact OnlyM.refl _ _

theorem execPortWriteSegment_only : ∀ x0, OutOnly 1407392512214208 x0 (execPortWriteSegment x0) := by
  intro x0
  unfold execPortWriteSegment
  refine OutOnly.next ?_
  split
  · lift_lets
    intro y0
    refine OnlyM.useHave (show OnlyM 1407392512214208 x0 y0.1 from ?_) (fun hy0 => ?_)
    · unfold y0
      refine OnlyM.comp (portData_only _ _) (by rfl) ?_
      exact OnlyM.mono (portRequest_of (by assumption)) (by rfl)
    clear_value y0
    refine OnlyM.ite ?_ ?_
    · refine OnlyM.comp (portEnd_only _ _ _) (by rfl) ?_
      assumption
    · refine OnlyM.comp (portSegment_only _ _ _) (by rfl) ?_
      assumption
  · exact OnlyM.refl _ _

theorem execPositionEntryWrite_only : ∀ x0 x1 x2 x3, OutOnly 4493119672025073 x3 (execPositionEntryWrite x0 x1 x2 x3) := by
  intro x0 x1 x2 x3
  unfold execPositionEntryWrite
  refine OutOnly.next ?_
  lift_lets
  intro y0
  clear_value y0
  refine OnlyM.ite ?_ ?_
  · refine OnlyM.comp (answerWrite_only _ _ _ _ _) (by rfl) ?_
    exact OnlyM.refl _ _
  · refine OnlyM.comp (objectWrite_only _ _ _ _) (by rfl) ?_
    exact OnlyM.refl _ _

theorem lateReject_only : ∀ x0 x1 x2 x3 x4, OnlyM 281474989293760 x0 (lateReject x0 x1 x2 x3 x4) := by
  intro x0 x1 x2 x3 x4
  unfold lateReject
  lift_lets
  intro y0
  refine OnlyM.useHave (show OnlyM 281474989293760 x0 y0 from ?_) (fun hy0 => ?_)
  · unfold y0
    refine OnlyM.comp (bump_only _ _ _ _) (by rfl) ?_
    exact OnlyM.refl _ _
  clear_value y0
  intro y1
  clear_value y1
  refine OnlyM.comp (logField_only _ _) (by rfl) ?_
  refine OnlyM.comp (class2_only _ _) (by rfl) ?_
  refine OnlyM.comp (putObj_only _ _ _ _) (by rfl) ?_
  assumption

theorem execPostedWriteReceive_only : ∀ x0, OutOnly 4493119672025073 x0 (execPostedWriteReceive x0) := by
  intro x0
  unfold execPostedWriteReceive
  refine OutOnly.next ?_
  split
  · exact OnlyM.refl _ _
  · lift_lets
    intro y0
    clear_value y0
    intro y1
    refine OnlyM.useHave (show OnlyM 4493119672025073 x0 y1 from ?_) (fun hy1 => ?_)
    · unfold y1
      refine OnlyM.comp (segmentIn_only _ _) (by rfl) ?_
      exact OnlyM.mono (takeRequest_of (by assumption)) (by rfl)
    clear_value y1
    intro y2
    refine OnlyM.useHave (show OnlyM 4493119672025073 x0 y2.1 from ?_) (fun hy2 => ?_)
    · unfold y2
      refine OnlyM.comp (writeAny_only _ _ _ _ _ _ _) (by rfl) ?_
      assumption
    clear_value y2
    refine OnlyM.ite ?_ ?_
    · assumption
    · refine OnlyM.ite ?_ ?_
      · refine OnlyM.comp (lateReject_only _ _ _ _ _) (by rfl) ?_
        assumption
      · split
        · refine OnlyM.ite ?_ ?_
          · assumption
          · refine OnlyM.comp (lateReject_only _ _ _ _ _) (by rfl) ?_
            assumption
        · assumption

theorem execPowerOn_only : ∀ x0 x1 x2 x3, OutOnly 2251799813684471 x3 (execPowerOn x0 x1 x2 x3) := by
  intro x0 x1 x2 x3
  unfold execPowerOn
  refine OutOnly.next ?_
  intro p hp
  cases p <;> first | rfl | exact absurd hp (by decide)

theorem execPowerRequestActive_only : ∀ x0, OutOnly 562949953421504 x0 (execPowerRequestActive x0) := by
  intro x0
  unfold execPowerRequestActive
  refine OutOnly.next ?_
  refine OnlyM.comp (askActive_only _) (by rfl) ?_
  exact OnlyM.refl _ _

theorem execPowerRequestInspectIdle_only : ∀ x0, OutOnly 2832341953152192 x0 (execPowerRequestInspectIdle x0) := by
  intro x0
  unfold execPowerRequestInspectIdle
  refine OutOnly.next ?_
  refine OnlyM.comp (askIdle_only _) (by rfl) ?_
  exact OnlyM.refl _ _

theorem execPowerRequestLanternWatch_only : ∀ x0, OutOnly 562949966004224 x0 (execPowerRequestLanternWatch x0) := by
  intro x0
  unfold execPowerRequestLanternWatch
  refine OutOnly.next ?_
  refine OnlyM.comp (askLow_only _ _) (by rfl) ?_
  exact OnlyM.refl _ _

theorem execPowerRequestOff_only : ∀ x0, OutOnly 562949966004224 x0 (execPowerRequestOff x0) := by
  intro x0
  unfold execPowerRequestOff
  refine OutOnly.next ?_
  refine OnlyM.comp (askLow_only _ _) (by rfl) ?_
  exact OnlyM.refl _ _

theorem execPpsPulseEnd_only : ∀ x0 x1, OutOnly 393216 x1 (execPpsPulseEnd x0 x1) := by
  intro x0 x1
  unfold execPpsPulseEnd
  refine OutOnly.next ?_
  split
  · refine OnlyM.ite ?_ ?_
    · refine OnlyM.comp (upd_fclk _ _) (by rfl) ?_
      exact OnlyM.refl _ _
    · exact OnlyM.refl _ _
  · refine OnlyM.ite ?_ ?_
    · refine OnlyM.comp (upd_hclk _ _) (by rfl) ?_
      exact OnlyM.refl _ _
    · exact OnlyM.refl _ _

theorem execPpsSecond_only : ∀ x0 x1, OutOnly 393216 x1 (execPpsSecond x0 x1) := by
  intro x0 x1
  unfold execPpsSecond
  refine OutOnly.next ?_
  split
  · refine OnlyM.ite ?_ ?_
    · refine OnlyM.comp (upd_fclk _ _) (by rfl) ?_
      exact OnlyM.refl _ _
    · exact OnlyM.refl _ _
  · refine OnlyM.ite ?_ ?_
    · refine OnlyM.comp (upd_hclk _ _) (by rfl) ?_
      exact OnlyM.refl _ _
    · exact OnlyM.refl _ _

theorem execPredictorQuery_only : ∀ x0 x1, OutOnly 4493119672025073 x1 (execPredictorQuery x0 x1) := by
  intro x0 x1
  unfold execPredictorQuery
  refine OutOnly.next ?_
  refine OnlyM.comp (objectWrite_only _ _ _ _) (by rfl) ?_
  exact OnlyM.refl _ _

theorem stopJob_only : ∀ x0 x1 x2, OnlyM 288226677884096 x0 (stopJob x0 x1 x2) := by
  intro x0 x1 x2
  unfold stopJob
  split
  · exact OnlyM.refl _ _
  · refine OnlyM.ite ?_ ?_
    · refine OnlyM.comp (setJob_only _ _ _) (by rfl) ?_
      refine OnlyM.comp (freeCores_only _ _) (by rfl) ?_
      exact OnlyM.refl _ _
    · refine OnlyM.comp (completeJob_only _ _ _ _) (by rfl) ?_
      exact OnlyM.refl _ _

theorem execPreemptionWatchdogExpiry_only : ∀ x0 x1, OutOnly 288226677884096 x1 (execPreemptionWatchdogExpiry x0 x1) := by
  intro x0 x1
  unfold execPreemptionWatchdogExpiry
  lift_lets
  intro y0
  clear_value y0
  intro y1
  clear_value y1
  intro y2
  refine OnlyM.useHave (show OnlyM 288226677884096 x1 y2 from ?_) (fun hy2 => ?_)
  · unfold y2
    refine OnlyM.foldl ?_ (fun _ _ _ => ?_)
    · exact OnlyM.refl _ _
    · lift_lets
      intro y3
      clear_value y3
      refine OnlyM.comp (setCore_only _ _ _) (by rfl) ?_
      assumption
  clear_value y2
  refine OutOnly.next ?_
  split
  · lift_lets
    intro y4
    refine OnlyM.useHave (show OnlyM 288226677884096 x1 y4 from ?_) (fun hy4 => ?_)
    · unfold y4
      refine OnlyM.comp (logHost_only _ _) (by rfl) ?_
      assumption
    clear_value y4
    refine OnlyM.ite ?_ ?_
    · refine OnlyM.comp (stopJob_only _ _ _) (by rfl) ?_
      assumption
    · exact OnlyM.refl _ _
  · exact OnlyM.refl _ _

theorem execPresetCounter_only : ∀ x0 x1, OutOnly 4493119672025073 x1 (execPresetCounter x0 x1) := by
  intro x0 x1
  unfold execPresetCounter
  refine OutOnly.next ?_
  refine OnlyM.comp (objectWrite_only _ _ _ _) (by rfl) ?_
  exact OnlyM.refl _ _

theorem execPtpConfigPush_only : ∀ x0, OutOnly 12845056 x0 (execPtpConfigPush x0) := by
  intro x0
  unfold execPtpConfigPush
  refine OutOnly.next ?_
  split
  · lift_lets
    intro y0
    clear_value y0
    intro y1
    clear_value y1
    refine OnlyM.ite ?_ ?_
    · refine OnlyM.comp (upd_hclk _ _) (by rfl) ?_
      exact OnlyM.mono (takeIn_of (by assumption)) (by rfl)
    · exact OnlyM.refl _ _
  · exact OnlyM.refl _ _

theorem ptpSync_only : ∀ x0 x1 x2, OnlyM 3659191889953984 x0 (ptpSync x0 x1 x2) := by
  intro x0 x1 x2
  unfold ptpSync
  lift_lets
  intro y0
  clear_value y0
  intro y1
  clear_value y1
  intro y2
  clear_value y2
  intro y3
  clear_value y3
  intro y4
  refine OnlyM.useHave (show OnlyM 3659191889953984 x0 y4 from ?_) (fun hy4 => ?_)
  · unfold y4
    refine OnlyM.comp (upd_hclk _ _) (by rfl) ?_
    exact OnlyM.refl _ _
  clear_value y4
  intro y5
  clear_value y5
  intro y6
  clear_value y6
  intro y7
  clear_value y7
  intro y8
  clear_value y8
  intro y9
  refine OnlyM.useHave (show OnlyM 3659191889953984 x0 y9 from ?_) (fun hy9 => ?_)
  · unfold y9
    refine OnlyM.ite ?_ ?_
    · refine OnlyM.comp (hostStep_only _ _ _) (by rfl) ?_
      assumption
    · refine OnlyM.ite ?_ ?_
      · refine OnlyM.comp (drawn_only _) (by rfl) ?_
        refine OnlyM.comp (upd_hclk _ _) (by rfl) ?_
        assumption
      · refine OnlyM.comp (upd_hclk _ _) (by rfl) ?_
        assumption
  clear_value y9
  intro y10
  clear_value y10
  intro y11
  clear_value y11
  intro y12
  clear_value y12
  refine OnlyM.ite ?_ ?_
  · refine OnlyM.comp (setHclk_only _ _) (by rfl) ?_
    assumption
  · refine OnlyM.ite ?_ ?_
    · refine OnlyM.comp (setHclk_only _ _) (by rfl) ?_
      assumption
    · refine OnlyM.comp (upd_hclk _ _) (by rfl) ?_
      assumption

theorem execPtpSyncMessage_only : ∀ x0 x1, OutOnly 3659191889953984 x1 (execPtpSyncMessage x0 x1) := by
  intro x0 x1
  unfold execPtpSyncMessage
  refine OutOnly.next ?_
  refine OnlyM.ite ?_ ?_
  · refine OnlyM.comp (ptpSync_only _ _ _) (by rfl) ?_
    refine OnlyM.comp (upd_hclk _ _) (by rfl) ?_
    exact OnlyM.refl _ _
  · exact OnlyM.refl _ _

theorem execPulseUsEnd_only : ∀ x0 x1, OutOnly 48 x1 (execPulseUsEnd x0 x1) := by
  intro x0 x1
  unfold execPulseUsEnd
  refine OutOnly.next ?_
  split
  · refine OnlyM.comp (pulseEnd_only _ _) (by rfl) ?_
    exact OnlyM.refl _ _
  · exact OnlyM.refl _ _

theorem execPwmCompareMatch_only : ∀ x0 x1 x2, OutOnly 35184372088832 x2 (execPwmCompareMatch x0 x1 x2) := by
  intro x0 x1 x2
  unfold execPwmCompareMatch
  lift_lets
  intro y0
  clear_value y0
  intro y1
  clear_value y1
  intro y2
  clear_value y2
  refine OutOnly.next ?_
  refine OnlyM.ite ?_ ?_
  · exact OnlyM.refl _ _
  · refine OnlyM.ite ?_ ?_
    · exact OnlyM.refl _ _
    · refine OnlyM.comp (setAx_only _ _ _) (by rfl) ?_
      exact OnlyM.refl _ _

theorem overrun_only : ∀ x0 x1, OnlyM 387036695494848 x0 (overrun x0 x1) := by
  intro x0 x1
  unfold overrun
  lift_lets
  intro y0
  clear_value y0
  intro y1
  refine OnlyM.useHave (show OnlyM 387036695494848 x0 y1 from ?_) (fun hy1 => ?_)
  · unfold y1
    refine OnlyM.comp (bump_only _ _ _ _) (by rfl) ?_
    refine OnlyM.comp (setAx_only _ _ _) (by rfl) ?_
    exact OnlyM.refl _ _
  clear_value y1
  intro y2
  clear_value y2
  refine OnlyM.ite ?_ ?_
  · refine OnlyM.comp (startReaction_only _ _ _ _ _ _ _ _ _) (by rfl) ?_
    assumption
  · assumption

theorem reload_only : ∀ x0 x1, OnlyM 387036695494848 x0 (reload x0 x1) := by
  intro x0 x1
  unfold reload
  lift_lets
  intro y0
  clear_value y0
  intro y1
  clear_value y1
  intro y2
  clear_value y2
  intro y3
  refine OnlyM.useHave (show OnlyM 387036695494848 x0 y3 from ?_) (fun hy3 => ?_)
  · unfold y3
    refine OnlyM.comp (setAx_only _ _ _) (by rfl) ?_
    exact OnlyM.refl _ _
  clear_value y3
  intro y4
  refine OnlyM.useHave (show OnlyM 387036695494848 x0 y4 from ?_) (fun hy4 => ?_)
  · unfold y4
    refine OnlyM.ite ?_ ?_
    · refine OnlyM.comp (driveTrip_only _ _) (by rfl) ?_
      assumption
    · assumption
  clear_value y4
  refine OnlyM.ite ?_ ?_
  · refine OnlyM.comp (overrun_only _ _) (by rfl) ?_
    assumption
  · assumption

theorem execPwmCounterTop_only : ∀ x0 x1, OutOnly 527774183850176 x1 (execPwmCounterTop x0 x1) := by
  intro x0 x1
  unfold execPwmCounterTop
  lift_lets
  intro y0
  clear_value y0
  intro y1
  refine OnlyM.useHave (show OnlyM 527774183850176 x1 y1 from ?_) (fun hy1 => ?_)
  · unfold y1
    refine OnlyM.ite ?_ ?_
    · refine OnlyM.comp (reload_only _ _) (by rfl) ?_
      exact OnlyM.refl _ _
    · exact OnlyM.refl _ _
  clear_value y1
  intro y2
  clear_value y2
  intro y3
  clear_value y3
  intro y4
  refine OnlyM.useHave (show OnlyM 527774183850176 x1 y4 from ?_) (fun hy4 => ?_)
  · unfold y4
    refine OnlyM.comp (setAx_only _ _ _) (by rfl) ?_
    assumption
  clear_value y4
  intro y5
  refine OnlyM.useHave (show OnlyM 527774183850176 x1 y5 from ?_) (fun hy5 => ?_)
  · unfold y5
    refine OnlyM.comp (adcTrigger_only _ _ _) (by rfl) ?_
    assumption
  clear_value y5
  refine OutOnly.next ?_
  refine OnlyM.ite ?_ ?_
  · exact OnlyM.refl _ _
  · refine OnlyM.comp (sampleAt_only _ _ _) (by rfl) ?_
    assumption

theorem execPwmCounterZero_only : ∀ x0 x1, OutOnly 527774183850176 x1 (execPwmCounterZero x0 x1) := by
  intro x0 x1
  unfold execPwmCounterZero
  lift_lets
  intro y0
  clear_value y0
  intro y1
  clear_value y1
  refine OutOnly.next ?_
  split
  · lift_lets
    intro y2
    refine OnlyM.useHave (show OnlyM 527774183850176 x1 y2 from ?_) (fun hy2 => ?_)
    · unfold y2
      refine OnlyM.comp (setAx_only _ _ _) (by rfl) ?_
      exact OnlyM.refl _ _
    clear_value y2
    intro y3
    refine OnlyM.useHave (show OnlyM 527774183850176 x1 y3 from ?_) (fun hy3 => ?_)
    · unfold y3
      refine OnlyM.ite ?_ ?_
      · refine OnlyM.comp (reload_only _ _) (by rfl) ?_
        assumption
      · assumption
    clear_value y3
    intro y4
    clear_value y4
    intro y5
    refine OnlyM.useHave (show OnlyM 527774183850176 x1 y5 from ?_) (fun hy5 => ?_)
    · unfold y5
      refine OnlyM.comp (setAx_only _ _ _) (by rfl) ?_
      assumption
    clear_value y5
    intro y6
    refine OnlyM.useHave (show OnlyM 527774183850176 x1 y6 from ?_) (fun hy6 => ?_)
    · unfold y6
      refine OnlyM.comp (adcTrigger_only _ _ _) (by rfl) ?_
      assumption
    clear_value y6
    refine OnlyM.comp (sampleAt_only _ _ _) (by rfl) ?_
    assumption
  · exact OnlyM.refl _ _

theorem execQueueEnable_only : ∀ x0 x1 x2, OutOnly 283691192419520 x2 (execQueueEnable x0 x1 x2) := by
  intro x0 x1 x2
  unfold execQueueEnable
  refine OutOnly.next ?_
  refine OnlyM.ite ?_ ?_
  · refine OnlyM.comp (queueCtrl_only _ _ _) (by rfl) ?_
    exact OnlyM.refl _ _
  · exact OnlyM.refl _ _

theorem execRailPowerGoodFailure_only : ∀ x0 x1, OutOnly 2005502764319986 x1 (execRailPowerGoodFailure x0 x1) := by
  intro x0 x1
  unfold execRailPowerGoodFailure
  refine OutOnly.next ?_
  refine OnlyM.ite ?_ ?_
  · exact OnlyM.refl _ _
  · refine OnlyM.ite ?_ ?_
    · refine OnlyM.comp (upd_pwr _ _) (by rfl) ?_
      exact OnlyM.refl _ _
    · lift_lets
      intro y0
      refine OnlyM.useHave (show OnlyM 2005502764319986 x1 y0 from ?_) (fun hy0 => ?_)
      · unfold y0
        refine OnlyM.comp (hostOff_only _ _) (by rfl) ?_
        exact OnlyM.refl _ _
      clear_value y0
      intro y1
      clear_value y1
      refine OnlyM.comp (upd_pwr _ _) (by rfl) ?_
      assumption

theorem execRailPowerGoodLoss_only : ∀ x0 x1, OutOnly 2005502764319986 x1 (execRailPowerGoodLoss x0 x1) := by
  intro x0 x1
  unfold execRailPowerGoodLoss
  refine OutOnly.next ?_
  refine OnlyM.ite ?_ ?_
  · lift_lets
    intro y0
    clear_value y0
    intro y1
    refine OnlyM.useHave (show OnlyM 2005502764319986 x1 y1 from ?_) (fun hy1 => ?_)
    · unfold y1
      refine OnlyM.comp (upd_hboot _ _) (by rfl) ?_
      exact OnlyM.refl _ _
    clear_value y1
    refine OnlyM.comp (hostFall_only _) (by rfl) ?_
    assumption
  · exact OnlyM.refl _ _

theorem execReReference_only : ∀ x0 x1, OutOnly 4493119672025073 x1 (execReReference x0 x1) := by
  intro x0 x1
  unfold execReReference
  refine OutOnly.next ?_
  refine OnlyM.comp (objectWrite_only _ _ _ _) (by rfl) ?_
  exact OnlyM.refl _ _

theorem execReacquireCommand_only : ∀ x0 x1, OutOnly 4493119672025073 x1 (execReacquireCommand x0 x1) := by
  intro x0 x1
  unfold execReacquireCommand
  refine OutOnly.next ?_
  refine OnlyM.comp (objectWrite_only _ _ _ _) (by rfl) ?_
  exact OnlyM.refl _ _

theorem execReadRequestReceive_only : ∀ x0, OutOnly 12582912 x0 (execReadRequestReceive x0) := by
  intro x0
  unfold execReadRequestReceive
  refine OutOnly.next ?_
  split
  · exact OnlyM.refl _ _
  · lift_lets
    intro y0
    clear_value y0
    intro y1
    clear_value y1
    intro y2
    clear_value y2
    refine OnlyM.foldl ?_ (fun _ _ _ => ?_)
    · exact OnlyM.mono (takeRequest_of (by assumption)) (by rfl)
    · refine OnlyM.comp (fieldResponse_only _ _ _ _ _ _ _ _ _) (by rfl) ?_
      assumption

theorem execReferenceRoleWrite_only : ∀ x0 x1, OutOnly 4493119672025073 x1 (execReferenceRoleWrite x0 x1) := by
  intro x0 x1
  unfold execReferenceRoleWrite
  refine OutOnly.next ?_
  refine OnlyM.comp (objectWrite_only _ _ _ _) (by rfl) ?_
  exact OnlyM.refl _ _

theorem execRefineTimeLimit_only : ∀ x0 x1 x2 x3, OutOnly 274877906944 x3 (execRefineTimeLimit x0 x1 x2 x3) := by
  intro x0 x1 x2 x3
  unfold execRefineTimeLimit
  lift_lets
  intro y0
  clear_value y0
  intro y1
  clear_value y1
  refine OutOnly.next ?_
  split
  · exact OnlyM.refl _ _
  · refine OnlyM.ite ?_ ?_
    · refine OnlyM.comp (setGph_only _ _ _) (by rfl) ?_
      exact OnlyM.refl _ _
    · exact OnlyM.refl _ _

theorem writeWide_only : ∀ x0 x1 x2 x3 x4 x5 r, writeWide x0 x1 x2 x3 x4 x5 = some r → OnlyM 2003739711898816 x0 r := by
  intro x0 x1 x2 x3 x4 x5 r h
  unfold writeWide at h
  split at h
  · cases h; exact (winAccess_only _ _).mono rfl
  · split at h
    · cases h
    · rename_i t ht
      have g : OnlyM 2003739711898816 x0 t := (writeBlock_only _ _ _ _ _ _ ht).mono rfl
      split at h
      · exact OnlyM.comp (writeBlock_only _ _ _ _ _ _ h) rfl g
      · cases h; exact g

theorem writeWide_of {x0 t : State} {x1 : String} {x2 x3 x4 x5 : Nat} (h : writeWide x0 x1 x2 x3 x4 x5 = some t) : OnlyM 2003739711898816 x0 t :=
  writeWide_only _ _ _ _ _ _ _ h

theorem execRegisterWrite_only : ∀ x0 x1 x2 x3 x4 x5, OutOnly 2003739711898816 x5 (execRegisterWrite x0 x1 x2 x3 x4 x5) := by
  intro x0 x1 x2 x3 x4 x5
  unfold execRegisterWrite
  lift_lets
  intro y0
  clear_value y0
  intro y1
  clear_value y1
  intro y2
  clear_value y2
  refine OutOnly.ite ?_ ?_
  · refine OutOnly.next ?_
    exact OnlyM.refl _ _
  · refine OutOnly.ite ?_ ?_
    · refine OutOnly.ite ?_ ?_
      · refine OutOnly.next ?_
        refine OnlyM.comp (coreFaults_only _ _) (by rfl) ?_
        exact OnlyM.refl _ _
      · split
        · refine OutOnly.next ?_
          refine OnlyM.comp (fabFault_only _ _) (by rfl) ?_
          refine OnlyM.comp (coreOk_only _) (by rfl) ?_
          exact OnlyM.refl _ _
        · refine OutOnly.ite ?_ ?_
          · refine OutOnly.next ?_
            refine OnlyM.comp (fabFault_only _ _) (by rfl) ?_
            refine OnlyM.comp (coreFaults_only _ _) (by rfl) ?_
            exact OnlyM.refl _ _
          · split
            · refine OutOnly.next ?_
              refine OnlyM.comp (writeWide_of (by assumption)) (by rfl) ?_
              refine OnlyM.comp (coreOk_only _) (by rfl) ?_
              exact OnlyM.refl _ _
            · exact OutOnly.refused _ _ _
    · refine OutOnly.ite ?_ ?_
      · exact OutOnly.refused _ _ _
      · refine OutOnly.ite ?_ ?_
        · refine OutOnly.next ?_
          refine OnlyM.comp (dramWrite_only _ _ _) (by rfl) ?_
          refine OnlyM.comp (coreOk_only _) (by rfl) ?_
          exact OnlyM.refl _ _
        · refine OutOnly.next ?_
          refine OnlyM.comp (coreFaults_only _ _) (by rfl) ?_
          exact OnlyM.refl _ _

theorem execReplayTimeout_only : ∀ x0 x1, OutOnly 29360320 x1 (execReplayTimeout x0 x1) := by
  intro x0 x1
  unfold execReplayTimeout
  refine OutOnly.next ?_
  refine OnlyM.ite ?_ ?_
  · refine OnlyM.comp (replay_only _ _) (by rfl) ?_
    exact OnlyM.refl _ _
  · exact OnlyM.refl _ _

theorem replicaMove_only : ∀ x0 x1, OnlyM 1520024374287600 x0 (replicaMove x0 x1) := by
  intro x0 x1
  unfold replicaMove
  lift_lets
  intro y0
  clear_value y0
  intro y1
  clear_value y1
  intro y2
  clear_value y2
  intro y3
  refine OnlyM.useHave (show OnlyM 1520024374287600 x0 y3 from ?_) (fun hy3 => ?_)
  · unfold y3
    refine OnlyM.comp (upd_replica _ _) (by rfl) ?_
    exact OnlyM.refl _ _
  clear_value y3
  intro y4
  refine OnlyM.useHave (show OnlyM 1520024374287600 x0 y4 from ?_) (fun hy4 => ?_)
  · unfold y4
    refine OnlyM.comp (moveCompare_only _ _ _ _ _ _ _) (by rfl) ?_
    assumption
  clear_value y4
  refine OnlyM.comp (pulseCntEnds_only _ _ _ _) (by rfl) ?_
  assumption

theorem execReplicaEdgeApply_only : ∀ x0 x1, OutOnly 1520024374287600 x1 (execReplicaEdgeApply x0 x1) := by
  intro x0 x1
  unfold execReplicaEdgeApply
  refine OutOnly.next ?_
  lift_lets
  intro y0
  clear_value y0
  intro y1
  refine OnlyM.useHave (show OnlyM 1520024374287600 x1 y1 from ?_) (fun hy1 => ?_)
  · unfold y1
    refine OnlyM.comp (upd_pos _ _) (by rfl) ?_
    exact OnlyM.refl _ _
  clear_value y1
  refine OnlyM.ite ?_ ?_
  · refine OnlyM.comp (replicaMove_only _ _) (by rfl) ?_
    assumption
  · exact OnlyM.refl _ _

theorem replicaTick_only : ∀ x0, OnlyM 524288 x0 (replicaTick x0) := by
  intro x0
  unfold replicaTick
  lift_lets
  intro y0
  clear_value y0
  intro y1
  clear_value y1
  intro y2
  clear_value y2
  intro y3
  clear_value y3
  refine OnlyM.comp (upd_trep _ _) (by rfl) ?_
  exact OnlyM.refl _ _

theorem execReplicaSymbolTick_only : ∀ x0, OutOnly 524288 x0 (execReplicaSymbolTick x0) := by
  intro x0
  unfold execReplicaSymbolTick
  refine OutOnly.next ?_
  refine OnlyM.ite ?_ ?_
  · refine OnlyM.comp (replicaTick_only _) (by rfl) ?_
    exact OnlyM.refl _ _
  · exact OnlyM.refl _ _

theorem execRestoreDefaults_only : ∀ x0 x1 x2, OutOnly 4493119672025073 x2 (execRestoreDefaults x0 x1 x2) := by
  intro x0 x1 x2
  unfold execRestoreDefaults
  refine OutOnly.next ?_
  refine OnlyM.comp (objectWrite_only _ _ _ _) (by rfl) ?_
  exact OnlyM.refl _ _

theorem retrainFail_only : ∀ x0, OnlyM 1972541337896128 x0 (retrainFail x0) := by
  intro x0
  unfold retrainFail
  refine OnlyM.ite ?_ ?_
  · exact OnlyM.refl _ _
  · refine OnlyM.ite ?_ ?_
    · refine OnlyM.comp (linkDown_only _) (by rfl) ?_
      exact OnlyM.refl _ _
    · refine OnlyM.comp (upd_link _ _) (by rfl) ?_
      exact OnlyM.refl _ _

theorem execRetrainPairFail_only : ∀ x0 x1, OutOnly 1972541337896128 x1 (execRetrainPairFail x0 x1) := by
  intro x0 x1
  unfold execRetrainPairFail
  refine OutOnly.next ?_
  refine OnlyM.comp (retrainFail_only _) (by rfl) ?_
  refine OnlyM.comp (upd_link _ _) (by rfl) ?_
  exact OnlyM.refl _ _

theorem supersede_only : ∀ x0, OnlyM 16777408 x0 (supersede x0) := by
  intro x0
  unfold supersede
  lift_lets
  intro y0
  clear_value y0
  intro y1
  refine OnlyM.useHave (show OnlyM 16777408 x0 y1 from ?_) (fun hy1 => ?_)
  · unfold y1
    refine OnlyM.comp (upd_link _ _) (by rfl) ?_
    exact OnlyM.refl _ _
  clear_value y1
  refine OnlyM.ite ?_ ?_
  · refine OnlyM.comp (bump_only _ _ _ _) (by rfl) ?_
    refine OnlyM.comp (putN_only _ _ _ _) (by rfl) ?_
    assumption
  · assumption

theorem execRetrainReqFrame_only : ∀ x0 x1 x2 x3, OutOnly 1972541337896128 x3 (execRetrainReqFrame x0 x1 x2 x3) := by
  intro x0 x1 x2 x3
  unfold execRetrainReqFrame
  refine OutOnly.next ?_
  refine OnlyM.ite ?_ ?_
  · exact OnlyM.refl _ _
  · lift_lets
    intro y0
    refine OnlyM.useHave (show OnlyM 1972541337896128 x3 y0 from ?_) (fun hy0 => ?_)
    · unfold y0
      split
      · exact OnlyM.mono (takeControl_of (by assumption)) (by rfl)
      · exact OnlyM.refl _ _
    clear_value y0
    refine OnlyM.ite ?_ ?_
    · refine OnlyM.comp (supersede_only _) (by rfl) ?_
      assumption
    · refine OnlyM.comp (retrainAsked_only _ _) (by rfl) ?_
      assumption

theorem execRetrainRequestWrite_only : ∀ x0 x1 x2, OutOnly 4493119672025073 x2 (execRetrainRequestWrite x0 x1 x2) := by
  intro x0 x1 x2
  unfold execRetrainRequestWrite
  refine OutOnly.next ?_
  lift_lets
  intro y0
  refine OnlyM.useHave (show OnlyM 4493119672025073 x2 y0 from ?_) (fun hy0 => ?_)
  · unfold y0
    refine OnlyM.comp (objectWrite_only _ _ _ _) (by rfl) ?_
    exact OnlyM.refl _ _
  clear_value y0
  intro y1
  clear_value y1
  refine OnlyM.ite ?_ ?_
  · refine OnlyM.comp (upd_link _ _) (by rfl) ?_
    assumption
  · assumption

theorem execRollback_only : ∀ x0 x1, OutOnly 4352381360012528 x1 (execRollback x0 x1) := by
  intro x0 x1
  unfold execRollback
  refine OutOnly.next ?_
  refine OnlyM.ite ?_ ?_
  · exact OnlyM.refl _ _
  · refine OnlyM.ite ?_ ?_
    · refine OnlyM.comp (settle_only _ _ _ _) (by rfl) ?_
      refine OnlyM.comp (rollbackWrite_only _ _ _) (by rfl) ?_
      exact OnlyM.refl _ _
    · refine OnlyM.comp (answerWrite_only _ _ _ _ _) (by rfl) ?_
      exact OnlyM.refl _ _

theorem execRopeAlive_only : ∀ x0 x1, OutOnly 2 x1 (execRopeAlive x0 x1) := by
  intro x0 x1
  unfold execRopeAlive
  refine OutOnly.next ?_
  refine OnlyM.ite ?_ ?_
  · refine OnlyM.comp (upd_hboot _ _) (by rfl) ?_
    exact OnlyM.refl _ _
  · exact OnlyM.refl _ _

theorem noteViolations_only : ∀ x0 x1 x2, OnlyM 1972541337896128 x0 (noteViolations x0 x1 x2) := by
  intro x0 x1 x2
  unfold noteViolations
  lift_lets
  intro y0
  clear_value y0
  intro y1
  clear_value y1
  intro y2
  clear_value y2
  intro y3
  refine OnlyM.useHave (show OnlyM 1972541337896128 x0 y3 from ?_) (fun hy3 => ?_)
  · unfold y3
    refine OnlyM.comp (upd_link _ _) (by rfl) ?_
    exact OnlyM.refl _ _
  clear_value y3
  intro y4
  clear_value y4
  refine OnlyM.ite ?_ ?_
  · assumption
  · split
    · refine OnlyM.comp (pairsFault_only _ _ _) (by rfl) ?_
      assumption
    · refine OnlyM.comp (ropeControl_only _ _ _ _ _) (by rfl) ?_
      refine OnlyM.comp (upd_link _ _) (by rfl) ?_
      assumption

theorem frameIn_only : ∀ x0 x1 x2, OnlyM 1972541337896129 x0 (frameIn x0 x1 x2) := by
  intro x0 x1 x2
  unfold frameIn
  split
  · lift_lets
    intro y0
    clear_value y0
    intro y1
    refine OnlyM.useHave (show OnlyM 1972541337896129 x0 y1 from ?_) (fun hy1 => ?_)
    · unfold y1
      refine OnlyM.comp (noteViolations_only _ _ _) (by rfl) ?_
      exact OnlyM.refl _ _
    clear_value y1
    refine OnlyM.ite ?_ ?_
    · refine OnlyM.comp (crcError_only _ _) (by rfl) ?_
      assumption
    · assumption
  · refine OnlyM.ite ?_ ?_
    · exact OnlyM.refl _ _
    · refine OnlyM.comp (arrivalIn_only _ _ _ _) (by rfl) ?_
      refine OnlyM.comp (wireTail_only _ _) (by rfl) ?_
      exact OnlyM.refl _ _
  · lift_lets
    intro y2
    refine OnlyM.useHave (show OnlyM 1972541337896129 x0 y2 from ?_) (fun hy2 => ?_)
    · unfold y2
      refine OnlyM.comp (arrivalIn_only _ _ _ _) (by rfl) ?_
      refine OnlyM.comp (wireTail_only _ _) (by rfl) ?_
      exact OnlyM.refl _ _
    clear_value y2
    refine OnlyM.comp (noteViolations_only _ _ _) (by rfl) ?_
    assumption
  · exact OnlyM.refl _ _

theorem portReadDone_only : ∀ x0 x1 x2, OnlyM 1407392076006592 x0 (portReadDone x0 x1 x2) := by
  intro x0 x1 x2
  unfold portReadDone
  refine OnlyM.comp (portReturn_only _ _ _) (by rfl) ?_
  exact OnlyM.refl _ _

theorem portAnswered_only : ∀ x0 x1 x2, OnlyM 1407392344442048 x0 (portAnswered x0 x1 x2) := by
  intro x0 x1 x2
  unfold portAnswered
  lift_lets
  intro y0
  refine OnlyM.useHave (show OnlyM 1407392344442048 x0 y0 from ?_) (fun hy0 => ?_)
  · unfold y0
    refine OnlyM.comp (upd_portWaits _ _) (by rfl) ?_
    exact OnlyM.refl _ _
  clear_value y0
  intro y1
  clear_value y1
  intro y2
  clear_value y2
  refine OnlyM.ite ?_ ?_
  · refine OnlyM.comp (portEnd_only _ _ _) (by rfl) ?_
    assumption
  · refine OnlyM.ite ?_ ?_
    · refine OnlyM.ite ?_ ?_
      · refine OnlyM.comp (portReadDone_only _ _ _) (by rfl) ?_
        assumption
      · refine OnlyM.comp (portAwait_only _ _) (by rfl) ?_
        assumption
    · split
      · refine OnlyM.comp (portEnd_only _ _ _) (by rfl) ?_
        assumption
      · refine OnlyM.comp (portFrame_only _ _ _ _ _ _) (by rfl) ?_
        refine OnlyM.comp (portAwait_only _ _) (by rfl) ?_
        assumption

theorem portResponses_only : ∀ x0, OnlyM 1407392344442048 x0 (portResponses x0) := by
  intro x0
  unfold portResponses
  refine OnlyM.foldl ?_ (fun _ _ _ => ?_)
  · exact OnlyM.refl _ _
  · split
    · refine OnlyM.ite ?_ ?_
      · refine OnlyM.comp (portAnswered_only _ _ _) (by rfl) ?_
        refine OnlyM.comp (dispatched_only _ _ _) (by rfl) ?_
        refine OnlyM.comp (upd_hend _ _) (by rfl) ?_
        assumption
      · assumption
    · assumption

theorem execRopeFrameReceive_only : ∀ x0 x1 x2, OutOnly 1972541337896129 x2 (execRopeFrameReceive x0 x1 x2) := by
  intro x0 x1 x2
  unfold execRopeFrameReceive
  refine OutOnly.next ?_
  refine OnlyM.ite ?_ ?_
  · refine OnlyM.comp (portResponses_only _) (by rfl) ?_
    refine OnlyM.comp (frameIn_only _ _ _) (by rfl) ?_
    exact OnlyM.refl _ _
  · exact OnlyM.refl _ _

theorem transmit_only : ∀ x0 x1, OnlyM 12582912 x0 (transmit x0 x1) := by
  intro x0 x1
  unfold transmit
  lift_lets
  intro y0
  clear_value y0
  intro y1
  refine OnlyM.useHave (show OnlyM 12582912 x0 y1 from ?_) (fun hy1 => ?_)
  · unfold y1
    split
    · dsimp -proj only
      split
      · refine OnlyM.comp (setEnd_only _ _ _) (by rfl) ?_
        exact OnlyM.refl _ _
      · refine OnlyM.comp (setEnd_only _ _ _) (by rfl) ?_
        exact OnlyM.refl _ _
    · split
      · dsimp -proj only
        split
        · refine OnlyM.comp (setEnd_only _ _ _) (by rfl) ?_
          exact OnlyM.refl _ _
        · exact OnlyM.refl _ _
      · dsimp -proj only
        split
        · refine OnlyM.comp (setEnd_only _ _ _) (by rfl) ?_
          exact OnlyM.refl _ _
        · refine OnlyM.comp (setEnd_only _ _ _) (by rfl) ?_
          exact OnlyM.refl _ _
  clear_value y1
  refine OnlyM.comp (returnCredits_only _ _) (by rfl) ?_
  assumption

theorem execRopeFrameTransmit_only : ∀ x0 x1, OutOnly 12582912 x1 (execRopeFrameTransmit x0 x1) := by
  intro x0 x1
  unfold execRopeFrameTransmit
  refine OutOnly.next ?_
  refine OnlyM.ite ?_ ?_
  · refine OnlyM.comp (transmit_only _ _) (by rfl) ?_
    exact OnlyM.refl _ _
  · exact OnlyM.refl _ _

theorem execRunLimitExpiry_only : ∀ x0 x1, OutOnly 1408903904494784 x1 (execRunLimitExpiry x0 x1) := by
  intro x0 x1
  unfold execRunLimitExpiry
  lift_lets
  intro y0
  clear_value y0
  intro y1
  clear_value y1
  refine OutOnly.next ?_
  split
  · exact OnlyM.refl _ _
  · lift_lets
    intro y2
    clear_value y2
    intro y3
    clear_value y3
    intro y4
    refine OnlyM.useHave (show OnlyM 1408903904494784 x1 y4 from ?_) (fun hy4 => ?_)
    · unfold y4
      refine OnlyM.foldl ?_ (fun _ _ _ => ?_)
      · refine OnlyM.comp (setGph_only _ _ _) (by rfl) ?_
        exact OnlyM.refl _ _
      · refine OnlyM.comp (leaveEngines_only _ _) (by rfl) ?_
        assumption
    clear_value y4
    refine OnlyM.ite ?_ ?_
    · exact OnlyM.refl _ _
    · refine OnlyM.comp (runTryEnd_only _ _) (by rfl) ?_
      refine OnlyM.comp (releaseRead_only _ _) (by rfl) ?_
      assumption

theorem execRunStart_only : ∀ x0 x1, OutOnly 1408354148680896 x1 (execRunStart x0 x1) := by
  intro x0 x1
  unfold execRunStart
  refine OutOnly.next ?_
  refine OnlyM.ite ?_ ?_
  · refine OnlyM.comp (beginRun_only _ _) (by rfl) ?_
    exact OnlyM.refl _ _
  · exact OnlyM.refl _ _

theorem takeSStatus_only : ∀ x0 x1, OnlyM 387036695494848 x0 (takeSStatus x0 x1) := by
  intro x0 x1
  unfold takeSStatus
  lift_lets
  intro y0
  intro y1
  refine OnlyM.useHave (show OnlyM 387036695494848 x0 y1 from ?_) (fun hy1 => ?_)
  · unfold y1
    refine OnlyM.comp (logField_only _ _) (by rfl) ?_
    refine OnlyM.comp (bump_only _ _ _ _) (by rfl) ?_
    exact OnlyM.refl _ _
  clear_value y1
  refine OnlyM.comp (startReaction_only _ _ _ _ _ _ _ _ _) (by rfl) ?_
  assumption

theorem execSStatusMessage_only : ∀ x0, OutOnly 387036695494848 x0 (execSStatusMessage x0) := by
  intro x0
  unfold execSStatusMessage
  refine OutOnly.next ?_
  split
  · refine OnlyM.ite ?_ ?_
    · refine OnlyM.comp (takeSStatus_only _ _) (by rfl) ?_
      exact OnlyM.mono (takeIn_of (by assumption)) (by rfl)
    · exact OnlyM.refl _ _
  · exact OnlyM.refl _ _

theorem inputFrame_only : ∀ x0, OnlyM 2251799813685440 x0 (inputFrame x0) := by
  intro x0
  unfold inputFrame
  lift_lets
  intro y0
  clear_value y0
  refine OnlyM.comp (drawn_only _) (by rfl) ?_
  refine OnlyM.comp (putObj_only _ _ _ _) (by rfl) ?_
  exact OnlyM.refl _ _

theorem execSafetyFrame_only : ∀ x0 x1 x2 x3 x4, OutOnly 2357361519886528 x4 (execSafetyFrame x0 x1 x2 x3 x4) := by
  intro x0 x1 x2 x3 x4
  unfold execSafetyFrame
  refine OutOnly.next ?_
  refine OnlyM.ite ?_ ?_
  · exact OnlyM.refl _ _
  · lift_lets
    intro y0
    refine OnlyM.useHave (show OnlyM 2357361519886528 x4 y0 from ?_) (fun hy0 => ?_)
    · unfold y0
      refine OnlyM.comp (putN_only _ _ _ _) (by rfl) ?_
      refine OnlyM.comp (putObj_only _ _ _ _) (by rfl) ?_
      exact OnlyM.refl _ _
    clear_value y0
    intro y1
    clear_value y1
    intro y2
    refine OnlyM.useHave (show OnlyM 2357361519886528 x4 y2 from ?_) (fun hy2 => ?_)
    · unfold y2
      refine OnlyM.comp (upd_bus _ _) (by rfl) ?_
      assumption
    clear_value y2
    refine OnlyM.comp (inputFrame_only _) (by rfl) ?_
    refine OnlyM.comp (applySafe_only _) (by rfl) ?_
    assumption

theorem execSafetyWatchdogExpiry_only : ∀ x0, OutOnly 2638836509180096 x0 (execSafetyWatchdogExpiry x0) := by
  intro x0
  unfold execSafetyWatchdogExpiry
  refine OutOnly.next ?_
  refine OnlyM.ite ?_ ?_
  · exact OnlyM.refl _ _
  · lift_lets
    intro y0
    clear_value y0
    intro y1
    clear_value y1
    intro y2
    refine OnlyM.useHave (show OnlyM 2638836509180096 x0 y2 from ?_) (fun hy2 => ?_)
    · unfold y2
      refine OnlyM.comp (putN_only _ _ _ _) (by rfl) ?_
      refine OnlyM.comp (upd_bus _ _) (by rfl) ?_
      exact OnlyM.refl _ _
    clear_value y2
    intro y3
    refine OnlyM.useHave (show OnlyM 2638836509180096 x0 y3 from ?_) (fun hy3 => ?_)
    · unfold y3
      refine OnlyM.comp (emcy_only _ _ _ _) (by rfl) ?_
      refine OnlyM.comp (putN_only _ _ _ _) (by rfl) ?_
      assumption
    clear_value y3
    intro y4
    refine OnlyM.useHave (show OnlyM 2638836509180096 x0 y4 from ?_) (fun hy4 => ?_)
    · unfold y4
      refine OnlyM.comp (logField_only _ _) (by rfl) ?_
      assumption
    clear_value y4
    refine OnlyM.comp (inputFrame_only _) (by rfl) ?_
    refine OnlyM.comp (applySafe_only _) (by rfl) ?_
    assumption

theorem execSdInputLost_only : ∀ x0 x1, OutOnly 387036695494848 x1 (execSdInputLost x0 x1) := by
  intro x0 x1
  unfold execSdInputLost
  lift_lets
  intro y0
  clear_value y0
  intro y1
  clear_value y1
  intro y2
  refine OnlyM.useHave (show OnlyM 387036695494848 x1 y2 from ?_) (fun hy2 => ?_)
  · unfold y2
    refine OnlyM.comp (setAx_only _ _ _) (by rfl) ?_
    exact OnlyM.refl _ _
  clear_value y2
  intro y3
  refine OnlyM.useHave (show OnlyM 387036695494848 x1 y3 from ?_) (fun hy3 => ?_)
  · unfold y3
    refine OnlyM.comp (emcy_only _ _ _ _) (by rfl) ?_
    refine OnlyM.comp (bump_only _ _ _ _) (by rfl) ?_
    assumption
  clear_value y3
  refine OutOnly.next ?_
  refine OnlyM.ite ?_ ?_
  · exact OnlyM.refl _ _
  · refine OnlyM.comp (startReaction_only _ _ _ _ _ _ _ _ _) (by rfl) ?_
    assumption

theorem execSdResultReady_only : ∀ x0 x1 x2 x3 x4, OutOnly 35184372089024 x4 (execSdResultReady x0 x1 x2 x3 x4) := by
  intro x0 x1 x2 x3 x4
  unfold execSdResultReady
  lift_lets
  intro y0
  clear_value y0
  intro y1
  clear_value y1
  intro y2
  clear_value y2
  intro y3
  clear_value y3
  intro y4
  intro y5
  clear_value y5
  intro y6
  clear_value y6
  intro y7
  clear_value y7
  intro y8
  clear_value y8
  intro y9
  clear_value y9
  intro y10
  refine OnlyM.useHave (show OnlyM 35184372089024 x4 y10 from ?_) (fun hy10 => ?_)
  · unfold y10
    refine OnlyM.comp (setAx_only _ _ _) (by rfl) ?_
    exact OnlyM.refl _ _
  clear_value y10
  refine OutOnly.next ?_
  refine OnlyM.ite ?_ ?_
  · exact OnlyM.refl _ _
  · refine OnlyM.comp (putI_only _ _ _ _) (by rfl) ?_
    refine OnlyM.comp (putI_only _ _ _ _) (by rfl) ?_
    refine OnlyM.comp (putI_only _ _ _ _) (by rfl) ?_
    assumption

theorem takeTag_only : ∀ x0, OnlyM 8589934592 x0 (takeTag x0).1 := by
  intro x0
  unfold takeTag
  refine OnlyM.pair ?_
  refine OnlyM.comp (upd_bus _ _) (by rfl) ?_
  exact OnlyM.refl _ _

theorem forwardOne_only : ∀ x0 x1 x2 x3 x4 x5 x6 x7, OnlyM 8602517504 x0 (forwardOne x0 x1 x2 x3 x4 x5 x6 x7) := by
  intro x0 x1 x2 x3 x4 x5 x6 x7
  unfold forwardOne
  lift_lets
  intro y0
  refine OnlyM.useHave (show OnlyM 8602517504 x0 y0.1 from ?_) (fun hy0 => ?_)
  · unfold y0
    refine OnlyM.comp (takeTag_only _) (by rfl) ?_
    exact OnlyM.refl _ _
  clear_value y0
  intro y1
  refine OnlyM.useHave (show OnlyM 8602517504 x0 y1 from ?_) (fun hy1 => ?_)
  · unfold y1
    assumption
  clear_value y1
  intro y2
  clear_value y2
  intro y3
  refine OnlyM.useHave (show OnlyM 8602517504 x0 y3 from ?_) (fun hy3 => ?_)
  · unfold y3
    refine OnlyM.comp (upd_bus _ _) (by rfl) ?_
    assumption
  clear_value y3
  refine OnlyM.comp (ropeSend_only _ _ _) (by rfl) ?_
  assumption

theorem startTag_only : ∀ x0 x1, OnlyM 8589934592 x0 (startTag x0 x1) := by
  intro x0 x1
  unfold startTag
  refine OnlyM.ite ?_ ?_
  · refine OnlyM.comp (takeTag_only _) (by rfl) ?_
    exact OnlyM.refl _ _
  · exact OnlyM.refl _ _

theorem forwardSend_only : ∀ x0 x1 x2 x3 x4 x5 x6 x7 x8, OnlyM 8602517504 x0 (forwardSend x0 x1 x2 x3 x4 x5 x6 x7 x8) := by
  intro x0 x1 x2 x3 x4 x5 x6 x7 x8
  unfold forwardSend
  lift_lets
  intro y0
  clear_value y0
  intro y1
  clear_value y1
  refine OnlyM.foldl ?_ (fun _ _ _ => ?_)
  · refine OnlyM.comp (startTag_only _ _) (by rfl) ?_
    exact OnlyM.refl _ _
  · refine OnlyM.comp (forwardOne_only _ _ _ _ _ _ _ _) (by rfl) ?_
    assumption

end Sys2Proof.Laws
end

