-- ==== Sys2Proof/Laws/FramesG.lean ====
section
/-! SUPPORT. What each shared operation and each meaning can change, part 7: one frame per definition, each from the
frames of what it calls. -/

namespace Sys2Proof.Laws

open Machine

theorem execSdoDownload_only : ∀ x0 x1 x2 x3 x4 x5, OutOnly 4493119672025073 x5 (execSdoDownload x0 x1 x2 x3 x4 x5) := by
  intro x0 x1 x2 x3 x4 x5
  unfold execSdoDownload
  refine OutOnly.next ?_
  lift_lets
  intro y0
  clear_value y0
  intro y1
  clear_value y1
  intro y2
  refine OnlyM.useHave (show OnlyM 4493119672025073 x5 y2 from ?_) (fun hy2 => ?_)
  · unfold y2
    refine OnlyM.comp (endTransfer_only _) (by rfl) ?_
    exact OnlyM.refl _ _
  clear_value y2
  intro y3
  clear_value y3
  intro y4
  refine OnlyM.useHave (show OnlyM 4493119672025073 x5 y4 from ?_) (fun hy4 => ?_)
  · unfold y4
    refine OnlyM.comp (upd_bus _ _) (by rfl) ?_
    assumption
  clear_value y4
  refine OnlyM.ite ?_ ?_
  · exact OnlyM.refl _ _
  · refine OnlyM.ite ?_ ?_
    · refine OnlyM.comp (sdoAnswer_only _ _ _ _ _) (by rfl) ?_
      assumption
    · refine OnlyM.ite ?_ ?_
      · refine OnlyM.ite ?_ ?_
        · refine OnlyM.comp (sdoAnswer_only _ _ _ _ _) (by rfl) ?_
          assumption
        · refine OnlyM.comp (settle_only _ _ _ _) (by rfl) ?_
          refine OnlyM.comp (writeAny_only _ _ _ _ _ _ _) (by rfl) ?_
          assumption
      · refine OnlyM.ite ?_ ?_
        · refine OnlyM.comp (sdoAnswer_only _ _ _ _ _) (by rfl) ?_
          assumption
        · refine OnlyM.ite ?_ ?_
          · refine OnlyM.comp (forwardSend_only _ _ _ _ _ _ _ _ _) (by rfl) ?_
            assumption
          · refine OnlyM.comp (forwardSend_only _ _ _ _ _ _ _ _ _) (by rfl) ?_
            assumption

theorem execSdoDownloadSegment_only : ∀ x0 x1 x2 x3, OutOnly 4493119672025073 x3 (execSdoDownloadSegment x0 x1 x2 x3) := by
  intro x0 x1 x2 x3
  unfold execSdoDownloadSegment
  refine OutOnly.next ?_
  refine OnlyM.ite ?_ ?_
  · exact OnlyM.refl _ _
  · split
    · refine OnlyM.comp (sdoAnswer_only _ _ _ _ _) (by rfl) ?_
      exact OnlyM.refl _ _
    · lift_lets
      intro y0
      clear_value y0
      intro y1
      clear_value y1
      intro y2
      refine OnlyM.useHave (show OnlyM 4493119672025073 x3 y2 from ?_) (fun hy2 => ?_)
      · unfold y2
        refine OnlyM.comp (upd_bus _ _) (by rfl) ?_
        exact OnlyM.refl _ _
      clear_value y2
      refine OnlyM.ite ?_ ?_
      · refine OnlyM.comp (sdoAnswer_only _ _ _ _ _) (by rfl) ?_
        refine OnlyM.comp (endTransfer_only _) (by rfl) ?_
        exact OnlyM.refl _ _
      · refine OnlyM.ite ?_ ?_
        · refine OnlyM.comp (sdoAnswer_only _ _ _ _ _) (by rfl) ?_
          refine OnlyM.comp (endTransfer_only _) (by rfl) ?_
          exact OnlyM.refl _ _
        · refine OnlyM.ite ?_ ?_
          · refine OnlyM.comp (sdoAnswer_only _ _ _ _ _) (by rfl) ?_
            refine OnlyM.comp (endTransfer_only _) (by rfl) ?_
            exact OnlyM.refl _ _
          · refine OnlyM.ite ?_ ?_
            · refine OnlyM.ite ?_ ?_
              · refine OnlyM.comp (settle_only _ _ _ _) (by rfl) ?_
                refine OnlyM.comp (writeAny_only _ _ _ _ _ _ _) (by rfl) ?_
                assumption
              · refine OnlyM.comp (sdoAnswer_only _ _ _ _ _) (by rfl) ?_
                assumption
            · refine OnlyM.ite ?_ ?_
              · refine OnlyM.comp (sdoAnswer_only _ _ _ _ _) (by rfl) ?_
                refine OnlyM.comp (endTransfer_only _) (by rfl) ?_
                exact OnlyM.refl _ _
              · refine OnlyM.comp (forwardSend_only _ _ _ _ _ _ _ _ _) (by rfl) ?_
                assumption

theorem execSdoInfoEntryDescription_only : ∀ x0 x1 x2, OutOnly 8602517504 x2 (execSdoInfoEntryDescription x0 x1 x2) := by
  intro x0 x1 x2
  unfold execSdoInfoEntryDescription
  refine OutOnly.next ?_
  lift_lets
  intro y0
  clear_value y0
  intro y1
  clear_value y1
  refine OnlyM.ite ?_ ?_
  · exact OnlyM.refl _ _
  · refine OnlyM.ite ?_ ?_
    · split
      · refine OnlyM.comp (sdoAnswer_only _ _ _ _ _) (by rfl) ?_
        exact OnlyM.refl _ _
      · refine OnlyM.comp (sdoAnswer_only _ _ _ _ _) (by rfl) ?_
        exact OnlyM.refl _ _
    · refine OnlyM.ite ?_ ?_
      · refine OnlyM.comp (forwardSend_only _ _ _ _ _ _ _ _ _) (by rfl) ?_
        exact OnlyM.refl _ _
      · refine OnlyM.comp (sdoAnswer_only _ _ _ _ _) (by rfl) ?_
        exact OnlyM.refl _ _

theorem execSdoInfoObjectDescription_only : ∀ x0 x1, OutOnly 2251808416202752 x1 (execSdoInfoObjectDescription x0 x1) := by
  intro x0 x1
  unfold execSdoInfoObjectDescription
  refine OutOnly.next ?_
  lift_lets
  intro y0
  clear_value y0
  refine OnlyM.ite ?_ ?_
  · exact OnlyM.refl _ _
  · refine OnlyM.ite ?_ ?_
    · refine OnlyM.ite ?_ ?_
      · refine OnlyM.comp (sdoAnswer_only _ _ _ _ _) (by rfl) ?_
        refine OnlyM.comp (drawn_only _) (by rfl) ?_
        exact OnlyM.refl _ _
      · refine OnlyM.comp (sdoAnswer_only _ _ _ _ _) (by rfl) ?_
        exact OnlyM.refl _ _
    · refine OnlyM.ite ?_ ?_
      · refine OnlyM.comp (forwardSend_only _ _ _ _ _ _ _ _ _) (by rfl) ?_
        exact OnlyM.refl _ _
      · refine OnlyM.comp (sdoAnswer_only _ _ _ _ _) (by rfl) ?_
        exact OnlyM.refl _ _

theorem execSdoInfoOdList_only : ∀ x0, OutOnly 8602517504 x0 (execSdoInfoOdList x0) := by
  intro x0
  unfold execSdoInfoOdList
  refine OutOnly.next ?_
  refine OnlyM.ite ?_ ?_
  · exact OnlyM.refl _ _
  · refine OnlyM.ite ?_ ?_
    · refine OnlyM.comp (forwardSend_only _ _ _ _ _ _ _ _ _) (by rfl) ?_
      exact OnlyM.refl _ _
    · refine OnlyM.comp (sdoAnswer_only _ _ _ _ _) (by rfl) ?_
      exact OnlyM.refl _ _

theorem execSdoUnknownSpecifier_only : ∀ x0 x1, OutOnly 8589934592 x1 (execSdoUnknownSpecifier x0 x1) := by
  intro x0 x1
  unfold execSdoUnknownSpecifier
  refine OutOnly.next ?_
  refine OnlyM.ite ?_ ?_
  · exact OnlyM.refl _ _
  · split
    · refine OnlyM.comp (sdoAnswer_only _ _ _ _ _) (by rfl) ?_
      refine OnlyM.comp (endTransfer_only _) (by rfl) ?_
      exact OnlyM.refl _ _
    · refine OnlyM.comp (sdoAnswer_only _ _ _ _ _) (by rfl) ?_
      exact OnlyM.refl _ _

theorem execSdoUpload_only : ∀ x0 x1 x2 x3, OutOnly 8602517504 x3 (execSdoUpload x0 x1 x2 x3) := by
  intro x0 x1 x2 x3
  unfold execSdoUpload
  refine OutOnly.next ?_
  lift_lets
  intro y0
  clear_value y0
  intro y1
  clear_value y1
  intro y2
  refine OnlyM.useHave (show OnlyM 8602517504 x3 y2 from ?_) (fun hy2 => ?_)
  · unfold y2
    refine OnlyM.comp (endTransfer_only _) (by rfl) ?_
    exact OnlyM.refl _ _
  clear_value y2
  intro y3
  clear_value y3
  refine OnlyM.ite ?_ ?_
  · exact OnlyM.refl _ _
  · refine OnlyM.ite ?_ ?_
    · refine OnlyM.ite ?_ ?_
      · refine OnlyM.comp (uploadAnswer_only _ _ _ _ _) (by rfl) ?_
        assumption
      · refine OnlyM.comp (sdoAnswer_only _ _ _ _ _) (by rfl) ?_
        assumption
    · refine OnlyM.ite ?_ ?_
      · refine OnlyM.comp (sdoAnswer_only _ _ _ _ _) (by rfl) ?_
        assumption
      · refine OnlyM.comp (forwardSend_only _ _ _ _ _ _ _ _ _) (by rfl) ?_
        assumption

theorem execSdoUploadSegment_only : ∀ x0 x1, OutOnly 8589934592 x1 (execSdoUploadSegment x0 x1) := by
  intro x0 x1
  unfold execSdoUploadSegment
  refine OutOnly.next ?_
  refine OnlyM.ite ?_ ?_
  · exact OnlyM.refl _ _
  · split
    · refine OnlyM.comp (sdoAnswer_only _ _ _ _ _) (by rfl) ?_
      exact OnlyM.refl _ _
    · refine OnlyM.ite ?_ ?_
      · refine OnlyM.comp (sdoAnswer_only _ _ _ _ _) (by rfl) ?_
        refine OnlyM.comp (endTransfer_only _) (by rfl) ?_
        exact OnlyM.refl _ _
      · refine OnlyM.ite ?_ ?_
        · refine OnlyM.comp (sdoAnswer_only _ _ _ _ _) (by rfl) ?_
          refine OnlyM.comp (endTransfer_only _) (by rfl) ?_
          exact OnlyM.refl _ _
        · lift_lets
          intro y0
          clear_value y0
          intro y1
          clear_value y1
          refine OnlyM.comp (sdoAnswer_only _ _ _ _ _) (by rfl) ?_
          refine OnlyM.comp (upd_bus _ _) (by rfl) ?_
          exact OnlyM.refl _ _

theorem execSlewEnd_only : ∀ x0, OutOnly 131072 x0 (execSlewEnd x0) := by
  intro x0
  unfold execSlewEnd
  refine OutOnly.next ?_
  split
  · refine OnlyM.ite ?_ ?_
    · refine OnlyM.comp (upd_fclk _ _) (by rfl) ?_
      exact OnlyM.refl _ _
    · exact OnlyM.refl _ _
  · exact OnlyM.refl _ _

theorem outputValue_only : ∀ x0 x1 x2, OnlyM 192 x0 (outputValue x0 x1 x2) := by
  intro x0 x1 x2
  unfold outputValue
  lift_lets
  intro y0
  clear_value y0
  intro y1
  clear_value y1
  intro y2
  clear_value y2
  split
  · refine OnlyM.ite ?_ ?_
    · refine OnlyM.comp (putObj_only _ _ _ _) (by rfl) ?_
      exact OnlyM.refl _ _
    · exact OnlyM.refl _ _
  · exact OnlyM.refl _ _

theorem execSm2BufferComplete_only : ∀ x0 x1, OutOnly 8589934784 x1 (execSm2BufferComplete x0 x1) := by
  intro x0 x1
  unfold execSm2BufferComplete
  refine OutOnly.next ?_
  refine OnlyM.ite ?_ ?_
  · exact OnlyM.refl _ _
  · refine OnlyM.ite ?_ ?_
    · refine OnlyM.comp (bump_only _ _ _ _) (by rfl) ?_
      exact OnlyM.refl _ _
    · refine OnlyM.ite ?_ ?_
      · refine OnlyM.comp (upd_bus _ _) (by rfl) ?_
        exact OnlyM.refl _ _
      · lift_lets
        intro y0
        refine OnlyM.useHave (show OnlyM 8589934784 x1 y0 from ?_) (fun hy0 => ?_)
        · unfold y0
          refine OnlyM.foldl ?_ (fun _ _ _ => ?_)
          · exact OnlyM.refl _ _
          · refine OnlyM.comp (outputValue_only _ _ _) (by rfl) ?_
            assumption
        clear_value y0
        intro y1
        clear_value y1
        refine OnlyM.comp (upd_bus _ _) (by rfl) ?_
        assumption

theorem execSm2WatchdogExpiry_only : ∀ x0, OutOnly 387037769236672 x0 (execSm2WatchdogExpiry x0) := by
  intro x0
  unfold execSm2WatchdogExpiry
  refine OutOnly.next ?_
  refine OnlyM.ite ?_ ?_
  · refine OnlyM.comp (setAl_only _ _ _ _ _) (by rfl) ?_
    exact OnlyM.refl _ _
  · exact OnlyM.refl _ _

theorem execSs1TimeLimit_only : ∀ x0 x1, OutOnly 105553116266496 x1 (execSs1TimeLimit x0 x1) := by
  intro x0 x1
  unfold execSs1TimeLimit
  lift_lets
  intro y0
  clear_value y0
  intro y1
  clear_value y1
  refine OutOnly.next ?_
  refine OnlyM.ite ?_ ?_
  · refine OnlyM.comp (tripSto_only _ _ _) (by rfl) ?_
    exact OnlyM.refl _ _
  · exact OnlyM.refl _ _

theorem execSsiFrameEnd_only : ∀ x0 x1 x2, OutOnly 35184372089024 x2 (execSsiFrameEnd x0 x1 x2) := by
  intro x0 x1 x2
  unfold execSsiFrameEnd
  lift_lets
  intro y0
  clear_value y0
  intro y1
  clear_value y1
  intro y2
  clear_value y2
  intro y3
  clear_value y3
  intro y4
  clear_value y4
  refine OutOnly.next ?_
  refine OnlyM.ite ?_ ?_
  · exact OnlyM.refl _ _
  · refine OnlyM.comp (goodCapture_only _ _ _) (by rfl) ?_
    refine OnlyM.comp (setAx_only _ _ _) (by rfl) ?_
    exact OnlyM.refl _ _

theorem execSsiTimeout_only : ∀ x0 x1, OutOnly 387036695494848 x1 (execSsiTimeout x0 x1) := by
  intro x0 x1
  unfold execSsiTimeout
  refine OutOnly.next ?_
  refine OnlyM.ite ?_ ?_
  · refine OnlyM.comp (absFault_only _ _ _) (by rfl) ?_
    exact OnlyM.refl _ _
  · exact OnlyM.refl _ _

theorem execStageAppend_only : ∀ x0 x1 x2 x3, OutOnly 9676259328 x3 (execStageAppend x0 x1 x2 x3) := by
  intro x0 x1 x2 x3
  unfold execStageAppend
  refine OutOnly.next ?_
  refine OnlyM.ite ?_ ?_
  · lift_lets
    intro y0
    refine OnlyM.useHave (show OnlyM 9676259328 x3 y0.1 from ?_) (fun hy0 => ?_)
    · unfold y0
      refine OnlyM.comp (stageAppend_only _ _ _ _) (by rfl) ?_
      exact OnlyM.refl _ _
    clear_value y0
    refine OnlyM.comp (answerWrite_only _ _ _ _ _) (by rfl) ?_
    assumption
  · exact OnlyM.refl _ _

theorem execStageArm_only : ∀ x0 x1 x2, OutOnly 4352381360012528 x2 (execStageArm x0 x1 x2) := by
  intro x0 x1 x2
  unfold execStageArm
  refine OutOnly.next ?_
  refine OnlyM.ite ?_ ?_
  · refine OnlyM.comp (settle_only _ _ _ _) (by rfl) ?_
    refine OnlyM.comp (stageArm_only _ _ _ _ _) (by rfl) ?_
    exact OnlyM.refl _ _
  · exact OnlyM.refl _ _

theorem execStageCancel_only : ∀ x0 x1 x2 x3, OutOnly 9676259328 x3 (execStageCancel x0 x1 x2 x3) := by
  intro x0 x1 x2 x3
  unfold execStageCancel
  refine OutOnly.next ?_
  refine OnlyM.ite ?_ ?_
  · lift_lets
    intro y0
    refine OnlyM.useHave (show OnlyM 9676259328 x3 y0.1 from ?_) (fun hy0 => ?_)
    · unfold y0
      refine OnlyM.comp (stageCancel_only _ _ _ _) (by rfl) ?_
      exact OnlyM.refl _ _
    clear_value y0
    refine OnlyM.comp (answerWrite_only _ _ _ _ _) (by rfl) ?_
    assumption
  · exact OnlyM.refl _ _

theorem execStageCheck_only : ∀ x0 x1 x2, OutOnly 4352381360012528 x2 (execStageCheck x0 x1 x2) := by
  intro x0 x1 x2
  unfold execStageCheck
  refine OutOnly.next ?_
  refine OnlyM.ite ?_ ?_
  · refine OnlyM.comp (settle_only _ _ _ _) (by rfl) ?_
    refine OnlyM.comp (stageCheck_only _ _ _ _ _) (by rfl) ?_
    exact OnlyM.refl _ _
  · exact OnlyM.refl _ _

theorem execStageOpen_only : ∀ x0 x1 x2, OutOnly 9676259328 x2 (execStageOpen x0 x1 x2) := by
  intro x0 x1 x2
  unfold execStageOpen
  refine OutOnly.next ?_
  refine OnlyM.ite ?_ ?_
  · lift_lets
    intro y0
    refine OnlyM.useHave (show OnlyM 9676259328 x2 y0.1 from ?_) (fun hy0 => ?_)
    · unfold y0
      refine OnlyM.comp (stageOpen_only _ _ _) (by rfl) ?_
      exact OnlyM.refl _ _
    clear_value y0
    refine OnlyM.comp (answerWrite_only _ _ _ _ _) (by rfl) ?_
    assumption
  · exact OnlyM.refl _ _

theorem execStagingArmMessage_only : ∀ x0 x1, OutOnly 1086324736 x1 (execStagingArmMessage x0 x1) := by
  intro x0 x1
  unfold execStagingArmMessage
  refine OutOnly.next ?_
  split
  · lift_lets
    intro y0
    clear_value y0
    split
    · refine OnlyM.ite ?_ ?_
      · exact OnlyM.refl _ _
      · refine OnlyM.ite ?_ ?_
        · exact OnlyM.mono (takeIn_of (by assumption)) (by rfl)
        · refine OnlyM.comp (stageFrame_only _ _ _ _ _ _) (by rfl) ?_
          refine OnlyM.comp (setStg_only _ _ _) (by rfl) ?_
          exact OnlyM.mono (takeIn_of (by assumption)) (by rfl)
    · exact OnlyM.mono (takeIn_of (by assumption)) (by rfl)
  · exact OnlyM.refl _ _

theorem execStagingPrepare_only : ∀ x0 x1, OutOnly 1086324736 x1 (execStagingPrepare x0 x1) := by
  intro x0 x1
  unfold execStagingPrepare
  refine OutOnly.next ?_
  split
  · lift_lets
    intro y0
    clear_value y0
    refine OnlyM.ite ?_ ?_
    · exact OnlyM.refl _ _
    · refine OnlyM.ite ?_ ?_
      · exact OnlyM.mono (takeIn_of (by assumption)) (by rfl)
      · split
        · refine OnlyM.comp (stageFrame_only _ _ _ _ _ _) (by rfl) ?_
          exact OnlyM.mono (takeIn_of (by assumption)) (by rfl)
        · refine OnlyM.comp (stageFrame_only _ _ _ _ _ _) (by rfl) ?_
          refine OnlyM.comp (setStg_only _ _ _) (by rfl) ?_
          exact OnlyM.mono (takeIn_of (by assumption)) (by rfl)
  · exact OnlyM.refl _ _

theorem execStampCapture_only : ∀ x0 x1, OutOnly 68719476736 x1 (execStampCapture x0 x1) := by
  intro x0 x1
  unfold execStampCapture
  lift_lets
  intro y0
  clear_value y0
  intro y1
  clear_value y1
  intro y2
  clear_value y2
  intro y3
  refine OutOnly.next ?_
  refine OnlyM.ite ?_ ?_
  · exact OnlyM.refl _ _
  · split
    · exact OnlyM.refl _ _
    · refine OnlyM.ite ?_ ?_
      · refine OnlyM.comp (upd_trig _ _) (by rfl) ?_
        exact OnlyM.refl _ _
      · exact OnlyM.refl _ _

theorem execStandstillTimeout_only : ∀ x0, OutOnly 2048 x0 (execStandstillTimeout x0) := by
  intro x0
  unfold execStandstillTimeout
  refine OutOnly.next ?_
  refine OnlyM.ite ?_ ?_
  · refine OnlyM.comp (upd_pos _ _) (by rfl) ?_
    exact OnlyM.refl _ _
  · exact OnlyM.refl _ _

theorem replicaLoad_only : ∀ x0 x1, OnlyM 1520024374287600 x0 (replicaLoad x0 x1) := by
  intro x0 x1
  unfold replicaLoad
  lift_lets
  intro y0
  clear_value y0
  intro y1
  clear_value y1
  intro y2
  clear_value y2
  intro y3
  clear_value y3
  intro y4
  clear_value y4
  intro y5
  refine OnlyM.useHave (show OnlyM 1520024374287600 x0 y5 from ?_) (fun hy5 => ?_)
  · unfold y5
    refine OnlyM.comp (upd_replica _ _) (by rfl) ?_
    exact OnlyM.refl _ _
  clear_value y5
  intro y6
  refine OnlyM.useHave (show OnlyM 1520024374287600 x0 y6 from ?_) (fun hy6 => ?_)
  · unfold y6
    refine OnlyM.comp (stepCompare_only _ _ _ _) (by rfl) ?_
    assumption
  clear_value y6
  refine OnlyM.comp (pulseCntEnds_only _ _ _ _) (by rfl) ?_
  assumption

theorem holdEnds_only : ∀ x0 x1, OnlyM 1520024374287600 x0 (holdEnds x0 x1) := by
  intro x0 x1
  unfold holdEnds
  lift_lets
  intro y0
  clear_value y0
  intro y1
  refine OnlyM.useHave (show OnlyM 1520024374287600 x0 y1 from ?_) (fun hy1 => ?_)
  · unfold y1
    refine OnlyM.comp (upd_replica _ _) (by rfl) ?_
    exact OnlyM.refl _ _
  clear_value y1
  intro y2
  refine OnlyM.useHave (show OnlyM 1520024374287600 x0 y2 from ?_) (fun hy2 => ?_)
  · unfold y2
    refine OnlyM.ite ?_ ?_
    · assumption
    · refine OnlyM.comp (releaseHeld_only _ _ _) (by rfl) ?_
      assumption
  clear_value y2
  intro y3
  refine OnlyM.useHave (show OnlyM 1520024374287600 x0 y3 from ?_) (fun hy3 => ?_)
  · unfold y3
    refine OnlyM.ite ?_ ?_
    · refine OnlyM.comp (replicaLoad_only _ _) (by rfl) ?_
      assumption
    · assumption
  clear_value y3
  intro y4
  clear_value y4
  refine OnlyM.ite ?_ ?_
  · refine OnlyM.comp (judgeHost_only _) (by rfl) ?_
    refine OnlyM.comp (upd_replica _ _) (by rfl) ?_
    assumption
  · assumption

theorem settleHeld_only : ∀ x0 x1, OnlyM 1520023300545776 x0 (settleHeld x0 x1) := by
  intro x0 x1
  unfold settleHeld
  refine OnlyM.foldl ?_ (fun _ _ _ => ?_)
  · exact OnlyM.refl _ _
  · lift_lets
    intro y0
    clear_value y0
    intro y1
    refine OnlyM.useHave (show OnlyM 1520023300545776 x0 y1 from ?_) (fun hy1 => ?_)
    · unfold y1
      refine OnlyM.comp (releasePassed_only _ _ _ _ _) (by rfl) ?_
      refine OnlyM.comp (forgetPassed_only _ _ _) (by rfl) ?_
      assumption
    clear_value y1
    intro y2
    clear_value y2
    refine OnlyM.ite ?_ ?_
    · refine OnlyM.comp (forgetPassed_only _ _ _) (by rfl) ?_
      assumption
    · refine OnlyM.ite ?_ ?_
      · refine OnlyM.comp (setEntry_only _ _ _ _) (by rfl) ?_
        assumption
      · assumption

theorem replicaState_only : ∀ x0 x1, OnlyM 1520023300545776 x0 (replicaState x0 x1) := by
  intro x0 x1
  unfold replicaState
  lift_lets
  intro y0
  clear_value y0
  intro y1
  clear_value y1
  intro y2
  clear_value y2
  intro y3
  clear_value y3
  intro y4
  refine OnlyM.useHave (show OnlyM 1520023300545776 x0 y4 from ?_) (fun hy4 => ?_)
  · unfold y4
    refine OnlyM.comp (upd_replica _ _) (by rfl) ?_
    exact OnlyM.refl _ _
  clear_value y4
  refine OnlyM.ite ?_ ?_
  · assumption
  · refine OnlyM.ite ?_ ?_
    · refine OnlyM.comp (holdAll_only _ _) (by rfl) ?_
      assumption
    · refine OnlyM.ite ?_ ?_
      · refine OnlyM.ite ?_ ?_
        · refine OnlyM.comp (settleHeld_only _ _) (by rfl) ?_
          assumption
        · assumption
      · refine OnlyM.ite ?_ ?_
        · refine OnlyM.comp (releaseHeld_only _ _ _) (by rfl) ?_
          assumption
        · refine OnlyM.ite ?_ ?_
          · refine OnlyM.comp (releaseHeld_only _ _ _) (by rfl) ?_
            assumption
          · assumption

theorem stateFrameGood_only : ∀ x0 x1, OnlyM 1520024374287600 x0 (stateFrameGood x0 x1) := by
  intro x0 x1
  unfold stateFrameGood
  lift_lets
  intro y0
  intro y1
  refine OnlyM.useHave (show OnlyM 1520024374287600 x0 y1 from ?_) (fun hy1 => ?_)
  · unfold y1
    refine OnlyM.comp (replicaState_only _ _) (by rfl) ?_
    refine OnlyM.comp (upd_replica _ _) (by rfl) ?_
    exact OnlyM.refl _ _
  intro y2
  clear_value y2
  intro y3
  refine OnlyM.useHave (show OnlyM 1520024374287600 x0 y3 from ?_) (fun hy3 => ?_)
  · unfold y3
    refine OnlyM.comp (upd_replica _ _) (by rfl) ?_
    assumption
  refine OnlyM.ite ?_ ?_
  · refine OnlyM.ite ?_ ?_
    · assumption
    · refine OnlyM.comp (holdEnds_only _ _) (by rfl) ?_
      assumption
  · refine OnlyM.ite ?_ ?_
    · refine OnlyM.comp (replicaLoad_only _ _) (by rfl) ?_
      assumption
    · assumption

theorem execStateFrame_only : ∀ x0 x1, OutOnly 1520024374287600 x1 (execStateFrame x0 x1) := by
  intro x0 x1
  unfold execStateFrame
  refine OutOnly.next ?_
  refine OnlyM.ite ?_ ?_
  · exact OnlyM.refl _ _
  · split
    · refine OnlyM.comp (stateFrameGood_only _ _) (by rfl) ?_
      exact OnlyM.refl _ _
    · refine OnlyM.comp (upd_replica _ _) (by rfl) ?_
      exact OnlyM.refl _ _

theorem execStateFrameTimeout_only : ∀ x0, OutOnly 69632 x0 (execStateFrameTimeout x0) := by
  intro x0
  unfold execStateFrameTimeout
  refine OutOnly.next ?_
  refine OnlyM.ite ?_ ?_
  · refine OnlyM.comp (holdAll_only _ _) (by rfl) ?_
    refine OnlyM.comp (upd_replica _ _) (by rfl) ?_
    exact OnlyM.refl _ _
  · exact OnlyM.refl _ _

theorem execStoDiscrepancyFault_only : ∀ x0 x1, OutOnly 387036682911936 x1 (execStoDiscrepancyFault x0 x1) := by
  intro x0 x1
  unfold execStoDiscrepancyFault
  lift_lets
  intro y0
  clear_value y0
  intro y1
  clear_value y1
  intro y2
  clear_value y2
  intro y3
  refine OnlyM.useHave (show OnlyM 387036682911936 x1 y3 from ?_) (fun hy3 => ?_)
  · unfold y3
    refine OnlyM.comp (upd_saf _ _) (by rfl) ?_
    exact OnlyM.refl _ _
  clear_value y3
  refine OutOnly.next ?_
  refine OnlyM.ite ?_ ?_
  · exact OnlyM.refl _ _
  · refine OnlyM.foldl ?_ (fun _ _ _ => ?_)
    · assumption
    · refine OnlyM.comp (emcy_only _ _ _ _) (by rfl) ?_
      refine OnlyM.comp (tripSto_only _ _ _) (by rfl) ?_
      assumption

theorem stoChannel_only : ∀ x0 x1 x2 x3, OnlyM 281474976710656 x0 (stoChannel x0 x1 x2 x3) := by
  intro x0 x1 x2 x3
  unfold stoChannel
  lift_lets
  intro y0
  clear_value y0
  intro y1
  refine OnlyM.useHave (show OnlyM 281474976710656 x0 y1 from ?_) (fun hy1 => ?_)
  · unfold y1
    refine OnlyM.comp (upd_saf _ _) (by rfl) ?_
    exact OnlyM.refl _ _
  clear_value y1
  intro y2
  clear_value y2
  refine OnlyM.ite ?_ ?_
  · refine OnlyM.comp (upd_saf _ _) (by rfl) ?_
    assumption
  · assumption

theorem execStoInputEdge_only : ∀ x0 x1 x2 x3, OutOnly 387028092977152 x3 (execStoInputEdge x0 x1 x2 x3) := by
  intro x0 x1 x2 x3
  unfold execStoInputEdge
  lift_lets
  intro y0
  refine OnlyM.useHave (show OnlyM 387028092977152 x3 y0 from ?_) (fun hy0 => ?_)
  · unfold y0
    refine OnlyM.comp (stoChannel_only _ _ _ _) (by rfl) ?_
    exact OnlyM.refl _ _
  clear_value y0
  refine OutOnly.next ?_
  refine OnlyM.ite ?_ ?_
  · assumption
  · refine OnlyM.foldl ?_ (fun _ _ _ => ?_)
    · assumption
    · refine OnlyM.comp (tripSto_only _ _ _) (by rfl) ?_
      assumption

theorem execStopStateTimeout_only : ∀ x0 x1, OutOnly 1414435822372032 x1 (execStopStateTimeout x0 x1) := by
  intro x0 x1
  unfold execStopStateTimeout
  refine OutOnly.next ?_
  refine OnlyM.ite ?_ ?_
  · exact OnlyM.refl _ _
  · refine OnlyM.foldl ?_ (fun _ _ _ => ?_)
    · refine OnlyM.comp (portBit_only _ _ _) (by rfl) ?_
      exact OnlyM.refl _ _
    · refine OnlyM.comp (endFrame_only _ _ _) (by rfl) ?_
      assumption

theorem mergeLine_only : ∀ x0 x1 x2 x3, OnlyM 17179869184 x0 (mergeLine x0 x1 x2 x3) := by
  intro x0 x1 x2 x3
  unfold mergeLine
  refine OnlyM.foldl ?_ (fun _ _ _ => ?_)
  · exact OnlyM.refl _ _
  · refine OnlyM.comp (dramSet_only _ _ _) (by rfl) ?_
    assumption

theorem storeMerged_only : ∀ x0 x1 x2, OnlyM 1410003416122560 x0 (storeMerged x0 x1 x2) := by
  intro x0 x1 x2
  unfold storeMerged
  lift_lets
  intro y0
  refine OnlyM.useHave (show OnlyM 1410003416122560 x0 y0 from ?_) (fun hy0 => ?_)
  · unfold y0
    refine OnlyM.comp (mergeLine_only _ _ _ _) (by rfl) ?_
    exact OnlyM.refl _ _
  clear_value y0
  intro y1
  clear_value y1
  refine OnlyM.ite ?_ ?_
  · refine OnlyM.comp (upd_mem _ _) (by rfl) ?_
    assumption
  · refine OnlyM.ite ?_ ?_
    · assumption
    · split
      · assumption
      · refine OnlyM.comp (ceOne_only _) (by rfl) ?_
        assumption
      · refine OnlyM.comp (lateFault_only _ _ _) (by rfl) ?_
        refine OnlyM.comp (fabFault_only _ _) (by rfl) ?_
        refine OnlyM.comp (poisonLine_only _ _) (by rfl) ?_
        assumption

theorem runStoreTaken_only : ∀ x0 x1 x2, OnlyM 1414401462633664 x0 (runStoreTaken x0 x1 x2) := by
  intro x0 x1 x2
  unfold runStoreTaken
  split
  · exact OnlyM.refl _ _
  · refine OnlyM.ite ?_ ?_
    · exact OnlyM.refl _ _
    · lift_lets
      intro y0
      clear_value y0
      intro y1
      clear_value y1
      intro y2
      refine OnlyM.useHave (show OnlyM 1414401462633664 x0 y2 from ?_) (fun hy2 => ?_)
      · unfold y2
        refine OnlyM.comp (setGph_only _ _ _) (by rfl) ?_
        exact OnlyM.refl _ _
      clear_value y2
      refine OnlyM.comp (runTryEnd_only _ _) (by rfl) ?_
      refine OnlyM.foldl ?_ (fun _ _ _ => ?_)
      · assumption
      · refine OnlyM.comp (publishCopies_only _ _ _ _) (by rfl) ?_
        assumption

theorem spillTaken_only : ∀ x0 x1, OnlyM 4398046511296 x0 (spillTaken x0 x1) := by
  intro x0 x1
  unfold spillTaken
  lift_lets
  intro y0
  clear_value y0
  intro y1
  clear_value y1
  intro y2
  clear_value y2
  intro y3
  refine OnlyM.useHave (show OnlyM 4398046511296 x0 y3 from ?_) (fun hy3 => ?_)
  · unfold y3
    refine OnlyM.comp (bump_only _ _ _ _) (by rfl) ?_
    refine OnlyM.comp (setPte_only _ _ _ _) (by rfl) ?_
    exact OnlyM.refl _ _
  clear_value y3
  intro y4
  clear_value y4
  refine OnlyM.ite ?_ ?_
  · exact OnlyM.refl _ _
  · refine OnlyM.comp (setPool_only _ _ _) (by rfl) ?_
    assumption

theorem storeTaken_only : ∀ x0 x1, OnlyM 1414401462633664 x0 (storeTaken x0 x1) := by
  intro x0 x1
  unfold storeTaken
  refine OnlyM.ite ?_ ?_
  · refine OnlyM.comp (runStoreTaken_only _ _ _) (by rfl) ?_
    exact OnlyM.refl _ _
  · refine OnlyM.ite ?_ ?_
    · refine OnlyM.comp (kvRetry_only _ _) (by rfl) ?_
      refine OnlyM.comp (spillTaken_only _ _) (by rfl) ?_
      exact OnlyM.refl _ _
    · exact OnlyM.refl _ _

theorem execStoreAccept_only : ∀ x0 x1, OutOnly 1414401462633664 x1 (execStoreAccept x0 x1) := by
  intro x0 x1
  unfold execStoreAccept
  refine OutOnly.next ?_
  split
  · refine OnlyM.comp (storeTaken_only _ _) (by rfl) ?_
    refine OnlyM.comp (storeMerged_only _ _ _) (by rfl) ?_
    refine OnlyM.comp (upd_mem _ _) (by rfl) ?_
    exact OnlyM.refl _ _
  · exact OnlyM.refl _ _

theorem execStoreParameters_only : ∀ x0 x1 x2, OutOnly 4493119672025073 x2 (execStoreParameters x0 x1 x2) := by
  intro x0 x1 x2
  unfold execStoreParameters
  refine OutOnly.next ?_
  refine OnlyM.comp (objectWrite_only _ _ _ _) (by rfl) ?_
  exact OnlyM.refl _ _

theorem execSupervisorLockstepMismatch_only : ∀ x0, OutOnly 2 x0 (execSupervisorLockstepMismatch x0) := by
  intro x0
  unfold execSupervisorLockstepMismatch
  refine OutOnly.next ?_
  refine OnlyM.comp (hostAsk_only _ _) (by rfl) ?_
  exact OnlyM.refl _ _

theorem neuronEcc_only : ∀ x0 x1 x2 x3, OnlyM 8796093022400 x0 (neuronEcc x0 x1 x2 x3) := by
  intro x0 x1 x2 x3
  unfold neuronEcc
  split
  · exact OnlyM.refl _ _
  · refine OnlyM.comp (bump_only _ _ _ _) (by rfl) ?_
    exact OnlyM.refl _ _
  · split
    · exact OnlyM.refl _ _
    · lift_lets
      intro y0
      clear_value y0
      intro y1
      clear_value y1
      intro y2
      clear_value y2
      refine OnlyM.comp (setNeuron_only _ _ _ _) (by rfl) ?_
      refine OnlyM.comp (bump_only _ _ _ _) (by rfl) ?_
      refine OnlyM.comp (bump_only _ _ _ _) (by rfl) ?_
      exact OnlyM.refl _ _

theorem synapse_only : ∀ x0 x1 x2 x3, OnlyM 571746046443714 x0 (synapse x0 x1 x2 x3) := by
  intro x0 x1 x2 x3
  unfold synapse
  lift_lets
  intro y0
  clear_value y0
  intro y1
  clear_value y1
  intro y2
  clear_value y2
  intro y3
  clear_value y3
  intro y4
  clear_value y4
  intro y5
  clear_value y5
  intro y6
  clear_value y6
  intro y7
  refine OnlyM.useHave (show OnlyM 571746046443714 x0 y7 from ?_) (fun hy7 => ?_)
  · unfold y7
    refine OnlyM.comp (setNeuron_only _ _ _ _) (by rfl) ?_
    refine OnlyM.comp (bump_only _ _ _ _) (by rfl) ?_
    exact OnlyM.refl _ _
  clear_value y7
  refine OnlyM.ite ?_ ?_
  · refine OnlyM.comp (countWake_only _ _) (by rfl) ?_
    refine OnlyM.comp (countHint_only _ _ _) (by rfl) ?_
    refine OnlyM.comp (routeSpike_only _ _) (by rfl) ?_
    refine OnlyM.comp (bump_only _ _ _ _) (by rfl) ?_
    assumption
  · assumption

theorem runProjection_only : ∀ x0 x1 x2, OnlyM 571746046443714 x0 (runProjection x0 x1 x2) := by
  intro x0 x1 x2
  unfold runProjection
  refine OnlyM.foldl ?_ (fun _ _ _ => ?_)
  · exact OnlyM.refl _ _
  · refine OnlyM.comp (synapse_only _ _ _ _) (by rfl) ?_
    assumption

theorem execSynapticOperation_only : ∀ x0 x1 x2 x3, OutOnly 3105020849422530 x3 (execSynapticOperation x0 x1 x2 x3) := by
  intro x0 x1 x2 x3
  unfold execSynapticOperation
  lift_lets
  intro y0
  clear_value y0
  intro y1
  clear_value y1
  refine OutOnly.next ?_
  split
  · lift_lets
    intro y2
    refine OnlyM.useHave (show OnlyM 3105020849422530 x3 y2 from ?_) (fun hy2 => ?_)
    · unfold y2
      refine OnlyM.comp (upd_lan _ _) (by rfl) ?_
      exact OnlyM.refl _ _
    clear_value y2
    intro y3
    clear_value y3
    intro y4
    refine OnlyM.useHave (show OnlyM 3105020849422530 x3 y4 from ?_) (fun hy4 => ?_)
    · unfold y4
      refine OnlyM.ite ?_ ?_
      · refine OnlyM.comp (bump_only _ _ _ _) (by rfl) ?_
        assumption
      · assumption
    clear_value y4
    intro y5
    clear_value y5
    intro y6
    refine OnlyM.useHave (show OnlyM 3105020849422530 x3 y6 from ?_) (fun hy6 => ?_)
    · unfold y6
      refine OnlyM.foldl ?_ (fun _ _ _ => ?_)
      · assumption
      · refine OnlyM.comp (connFault_only _ _) (by rfl) ?_
        assumption
    clear_value y6
    intro y7
    clear_value y7
    refine OnlyM.foldl ?_ (fun _ _ _ => ?_)
    · refine OnlyM.comp (neuronEcc_only _ _ _ _) (by rfl) ?_
      assumption
    · refine OnlyM.comp (runProjection_only _ _ _) (by rfl) ?_
      assumption
  · exact OnlyM.refl _ _

theorem syncRephase_only : ∀ x0 x1 x2 x3, OnlyM 2097152 x0 (syncRephase x0 x1 x2 x3) := by
  intro x0 x1 x2 x3
  unfold syncRephase
  refine OnlyM.ite ?_ ?_
  · exact OnlyM.refl _ _
  · lift_lets
    intro y0
    clear_value y0
    refine OnlyM.ite ?_ ?_
    · refine OnlyM.ite ?_ ?_
      · exact OnlyM.refl _ _
      · refine OnlyM.comp (rephase_only _ _) (by rfl) ?_
        exact OnlyM.refl _ _
    · refine OnlyM.comp (rephase_only _ _) (by rfl) ?_
      exact OnlyM.refl _ _

theorem execSync0Edge_only : ∀ x0, OutOnly 2097344 x0 (execSync0Edge x0) := by
  intro x0
  unfold execSync0Edge
  refine OutOnly.next ?_
  split
  · refine OnlyM.ite ?_ ?_
    · lift_lets
      intro y0
      clear_value y0
      intro y1
      clear_value y1
      intro y2
      refine OnlyM.useHave (show OnlyM 2097344 x0 y2 from ?_) (fun hy2 => ?_)
      · unfold y2
        refine OnlyM.comp (upd_sync _ _) (by rfl) ?_
        exact OnlyM.refl _ _
      clear_value y2
      intro y3
      refine OnlyM.useHave (show OnlyM 2097344 x0 y3 from ?_) (fun hy3 => ?_)
      · unfold y3
        refine OnlyM.ite ?_ ?_
        · refine OnlyM.comp (putN_only _ _ _ _) (by rfl) ?_
          refine OnlyM.comp (putI_only _ _ _ _) (by rfl) ?_
          assumption
        · assumption
      clear_value y3
      refine OnlyM.comp (syncRephase_only _ _ _ _) (by rfl) ?_
      assumption
    · exact OnlyM.refl _ _
  · exact OnlyM.refl _ _

theorem execSync1Edge_only : ∀ x0, OutOnly 2097152 x0 (execSync1Edge x0) := by
  intro x0
  unfold execSync1Edge
  refine OutOnly.next ?_
  split
  · refine OnlyM.ite ?_ ?_
    · lift_lets
      intro y0
      clear_value y0
      intro y1
      clear_value y1
      refine OnlyM.comp (syncRephase_only _ _ _ _) (by rfl) ?_
      refine OnlyM.comp (upd_sync _ _) (by rfl) ?_
      exact OnlyM.refl _ _
    · exact OnlyM.refl _ _
  · exact OnlyM.refl _ _

theorem syncPlan_only : ∀ x0, OnlyM 2097152 x0 (syncPlan x0) := by
  intro x0
  unfold syncPlan
  lift_lets
  intro y0
  clear_value y0
  intro y1
  clear_value y1
  intro y2
  clear_value y2
  intro y3
  clear_value y3
  refine OnlyM.comp (upd_sync _ _) (by rfl) ?_
  exact OnlyM.refl _ _

theorem timeStepCompare_only : ∀ x0 x1, OnlyM 387028107757808 x0 (timeStepCompare x0 x1) := by
  intro x0 x1
  unfold timeStepCompare
  refine OnlyM.foldl ?_ (fun _ _ _ => ?_)
  · exact OnlyM.refl _ _
  · lift_lets
    intro y0
    clear_value y0
    intro y1
    clear_value y1
    refine OnlyM.ite ?_ ?_
    · refine OnlyM.comp (timeLateOrMiss_only _ _) (by rfl) ?_
      assumption
    · assumption

theorem fieldStep_only : ∀ x0 x1 x2, OnlyM 387028107888880 x0 (fieldStep x0 x1 x2) := by
  intro x0 x1 x2
  unfold fieldStep
  lift_lets
  intro y0
  clear_value y0
  intro y1
  clear_value y1
  intro y2
  clear_value y2
  intro y3
  clear_value y3
  intro y4
  refine OnlyM.useHave (show OnlyM 387028107888880 x0 y4 from ?_) (fun hy4 => ?_)
  · unfold y4
    refine OnlyM.comp (upd_fclk_sync _ _ _) (by rfl) ?_
    exact OnlyM.refl _ _
  clear_value y4
  intro y5
  refine OnlyM.useHave (show OnlyM 387028107888880 x0 y5 from ?_) (fun hy5 => ?_)
  · unfold y5
    refine OnlyM.comp (bump_only _ _ _ _) (by rfl) ?_
    refine OnlyM.comp (logField_only _ _) (by rfl) ?_
    assumption
  clear_value y5
  refine OnlyM.comp (timeStepCompare_only _ _) (by rfl) ?_
  refine OnlyM.comp (syncPlan_only _) (by rfl) ?_
  assumption

theorem offsetWrite_only : ∀ x0 x1, OnlyM 387036697823472 x0 (offsetWrite x0 x1) := by
  intro x0 x1
  unfold offsetWrite
  lift_lets
  intro y0
  clear_value y0
  intro y1
  clear_value y1
  intro y2
  refine OnlyM.useHave (show OnlyM 387036697823472 x0 y2 from ?_) (fun hy2 => ?_)
  · unfold y2
    refine OnlyM.comp (setBusReg_only _ _ _) (by rfl) ?_
    exact OnlyM.refl _ _
  clear_value y2
  intro y3
  clear_value y3
  refine OnlyM.ite ?_ ?_
  · refine OnlyM.comp (fieldStep_only _ _ _) (by rfl) ?_
    assumption
  · refine OnlyM.ite ?_ ?_
    · refine OnlyM.comp (upd_fclk _ _) (by rfl) ?_
      assumption
    · refine OnlyM.comp (upd_fclk _ _) (by rfl) ?_
      assumption

theorem syncFault_only : ∀ x0, OnlyM 387037769236672 x0 (syncFault x0) := by
  intro x0
  unfold syncFault
  refine OnlyM.ite ?_ ?_
  · exact OnlyM.refl _ _
  · refine OnlyM.ite ?_ ?_
    · refine OnlyM.comp (setAl_only _ _ _ _ _) (by rfl) ?_
      exact OnlyM.refl _ _
    · refine OnlyM.ite ?_ ?_
      · refine OnlyM.comp (upd_bus _ _) (by rfl) ?_
        exact OnlyM.refl _ _
      · exact OnlyM.refl _ _

theorem execSyncConfigWrite_only : ∀ x0 x1 x2, OutOnly 387037771565296 x2 (execSyncConfigWrite x0 x1 x2) := by
  intro x0 x1 x2
  unfold execSyncConfigWrite
  refine OutOnly.next ?_
  lift_lets
  intro y0
  clear_value y0
  intro y1
  clear_value y1
  intro y2
  clear_value y2
  intro y3
  refine OnlyM.useHave (show OnlyM 387037771565296 x2 y3 from ?_) (fun hy3 => ?_)
  · unfold y3
    refine OnlyM.comp (setBusReg_only _ _ _) (by rfl) ?_
    exact OnlyM.refl _ _
  clear_value y3
  refine OnlyM.ite ?_ ?_
  · exact OnlyM.refl _ _
  · refine OnlyM.ite ?_ ?_
    · refine OnlyM.comp (upd_bus _ _) (by rfl) ?_
      exact OnlyM.refl _ _
    · refine OnlyM.ite ?_ ?_
      · refine OnlyM.comp (offsetWrite_only _ _) (by rfl) ?_
        exact OnlyM.refl _ _
      · refine OnlyM.ite ?_ ?_
        · refine OnlyM.comp (syncFault_only _) (by rfl) ?_
          refine OnlyM.comp (syncPlan_only _) (by rfl) ?_
          assumption
        · assumption

theorem execSyncPulseEnd_only : ∀ x0 x1, OutOnly 2097152 x1 (execSyncPulseEnd x0 x1) := by
  intro x0 x1
  unfold execSyncPulseEnd
  refine OutOnly.next ?_
  refine OnlyM.ite ?_ ?_
  · refine OnlyM.ite ?_ ?_
    · refine OnlyM.comp (upd_sync _ _) (by rfl) ?_
      exact OnlyM.refl _ _
    · exact OnlyM.refl _ _
  · refine OnlyM.ite ?_ ?_
    · refine OnlyM.comp (upd_sync _ _) (by rfl) ?_
      exact OnlyM.refl _ _
    · exact OnlyM.refl _ _

theorem execSystemTimeOffsetWrite_only : ∀ x0 x1, OutOnly 387036697823472 x1 (execSystemTimeOffsetWrite x0 x1) := by
  intro x0 x1
  unfold execSystemTimeOffsetWrite
  refine OutOnly.next ?_
  refine OnlyM.ite ?_ ?_
  · refine OnlyM.comp (offsetWrite_only _ _) (by rfl) ?_
    exact OnlyM.refl _ _
  · exact OnlyM.refl _ _

theorem execTallyLockAcquired_only : ∀ x0 x1, OutOnly 16777216 x1 (execTallyLockAcquired x0 x1) := by
  intro x0 x1
  unfold execTallyLockAcquired
  refine OutOnly.next ?_
  refine OnlyM.ite ?_ ?_
  · refine OnlyM.comp (upd_link _ _) (by rfl) ?_
    exact OnlyM.refl _ _
  · exact OnlyM.refl _ _

theorem execTallyLockLoss_only : ∀ x0, OutOnly 17303552 x0 (execTallyLockLoss x0) := by
  intro x0
  unfold execTallyLockLoss
  refine OutOnly.next ?_
  refine OnlyM.ite ?_ ?_
  · refine OnlyM.comp (tallyLost_only _) (by rfl) ?_
    exact OnlyM.refl _ _
  · exact OnlyM.refl _ _

theorem execTcxoRestart_only : ∀ x0, OutOnly 1 x0 (execTcxoRestart x0) := by
  intro x0
  unfold execTcxoRestart
  refine OutOnly.next ?_
  refine OnlyM.comp (fieldUnheld_only _ _) (by rfl) ?_
  exact OnlyM.refl _ _

theorem execTcxoStop_only : ∀ x0, OutOnly 4470648403115249 x0 (execTcxoStop x0) := by
  intro x0
  unfold execTcxoStop
  refine OutOnly.next ?_
  refine OnlyM.comp (fieldHeld_only _ _ _) (by rfl) ?_
  refine OnlyM.comp (drawn_only _) (by rfl) ?_
  exact OnlyM.refl _ _

theorem execTimeEntryWrite_only : ∀ x0 x1 x2, OutOnly 4493119672025073 x2 (execTimeEntryWrite x0 x1 x2) := by
  intro x0 x1 x2
  unfold execTimeEntryWrite
  refine OutOnly.next ?_
  refine OnlyM.comp (objectWrite_only _ _ _ _) (by rfl) ?_
  exact OnlyM.refl _ _

theorem execTimeEventFire_only : ∀ x0 x1, OutOnly 387028107757808 x1 (execTimeEventFire x0 x1) := by
  intro x0 x1
  unfold execTimeEventFire
  refine OutOnly.next ?_
  lift_lets
  intro y0
  clear_value y0
  refine OnlyM.ite ?_ ?_
  · refine OnlyM.comp (timeFire_only _ _ _) (by rfl) ?_
    exact OnlyM.refl _ _
  · exact OnlyM.refl _ _

theorem execTrainingAttempt_only : ∀ x0 x1, OutOnly 16777216 x1 (execTrainingAttempt x0 x1) := by
  intro x0 x1
  unfold execTrainingAttempt
  refine OutOnly.next ?_
  refine OnlyM.ite ?_ ?_
  · refine OnlyM.comp (upd_link _ _) (by rfl) ?_
    exact OnlyM.refl _ _
  · exact OnlyM.refl _ _

theorem stoRecord_only : ∀ x0 x1, OnlyM 281474989293760 x0 (stoRecord x0 x1) := by
  intro x0 x1
  unfold stoRecord
  refine OnlyM.ite ?_ ?_
  · refine OnlyM.comp (logField_only _ _) (by rfl) ?_
    refine OnlyM.comp (putN_only _ _ _ _) (by rfl) ?_
    exact OnlyM.refl _ _
  · exact OnlyM.refl _ _

theorem execTripWatchdogExpiry_only : ∀ x0, OutOnly 387028105560256 x0 (execTripWatchdogExpiry x0) := by
  intro x0
  unfold execTripWatchdogExpiry
  refine OutOnly.next ?_
  refine OnlyM.ite ?_ ?_
  · refine OnlyM.comp (stoAll_only _) (by rfl) ?_
    refine OnlyM.comp (stoRecord_only _ _) (by rfl) ?_
    refine OnlyM.comp (upd_saf _ _) (by rfl) ?_
    exact OnlyM.refl _ _
  · exact OnlyM.refl _ _

theorem execVisFlagRelease_only : ∀ x0 x1, OutOnly 137438953664 x1 (execVisFlagRelease x0 x1) := by
  intro x0 x1
  unfold execVisFlagRelease
  refine OutOnly.next ?_
  refine OnlyM.ite ?_ ?_
  · refine OnlyM.comp (flagRelease_only _ _) (by rfl) ?_
    exact OnlyM.refl _ _
  · exact OnlyM.refl _ _

theorem execVisGraphStart_only : ∀ x0 x1, OutOnly 1407804392867008 x1 (execVisGraphStart x0 x1) := by
  intro x0 x1
  unfold execVisGraphStart
  lift_lets
  intro y0
  clear_value y0
  refine OutOnly.next ?_
  refine OnlyM.ite ?_ ?_
  · refine OnlyM.comp (graphRequest_only _ _ _) (by rfl) ?_
    exact OnlyM.refl _ _
  · exact OnlyM.refl _ _

theorem execWaitTimeout_only : ∀ x0 x1, OutOnly 288226677884096 x1 (execWaitTimeout x0 x1) := by
  intro x0 x1
  unfold execWaitTimeout
  refine OutOnly.next ?_
  split
  · refine OnlyM.ite ?_ ?_
    · refine OnlyM.comp (completeJob_only _ _ _ _) (by rfl) ?_
      exact OnlyM.refl _ _
    · exact OnlyM.refl _ _
  · exact OnlyM.refl _ _

theorem execWakeBeacon_only : ∀ x0, OutOnly 562949953421506 x0 (execWakeBeacon x0) := by
  intro x0
  unfold execWakeBeacon
  refine OutOnly.next ?_
  refine OnlyM.ite ?_ ?_
  · refine OnlyM.comp (wakeSource_only _ _) (by rfl) ?_
    exact OnlyM.refl _ _
  · exact OnlyM.refl _ _

theorem execWakeHostCommand_only : ∀ x0 x1, OutOnly 20971520 x1 (execWakeHostCommand x0 x1) := by
  intro x0 x1
  unfold execWakeHostCommand
  refine OutOnly.next ?_
  refine OnlyM.ite ?_ ?_
  · refine OnlyM.comp (upd_fend_link _ _ _) (by rfl) ?_
    exact OnlyM.refl _ _
  · exact OnlyM.refl _ _

theorem execWakeTimerExpiry_only : ∀ x0, OutOnly 562949953421506 x0 (execWakeTimerExpiry x0) := by
  intro x0
  unfold execWakeTimerExpiry
  refine OutOnly.next ?_
  refine OnlyM.ite ?_ ?_
  · exact OnlyM.refl _ _
  · refine OnlyM.comp (wakeSource_only _ _) (by rfl) ?_
    exact OnlyM.refl _ _

theorem lastBeat_only : ∀ x0, OnlyM 5243072 x0 (lastBeat x0) := by
  intro x0
  unfold lastBeat
  refine OnlyM.ite ?_ ?_
  · refine OnlyM.comp (hostBeat_only _ _) (by rfl) ?_
    exact OnlyM.refl _ _
  · exact OnlyM.refl _ _

theorem powerAnswer_only : ∀ x0 x1, OnlyM 1407400665941184 x0 (powerAnswer x0 x1) := by
  intro x0 x1
  unfold powerAnswer
  split
  · exact OnlyM.refl _ _
  · lift_lets
    intro y0
    clear_value y0
    split
    · refine OnlyM.comp (portEnd_only _ _ _) (by rfl) ?_
      exact OnlyM.refl _ _
    · refine OnlyM.ite ?_ ?_
      · refine OnlyM.comp (forwardDone_only _ _ _ _ _) (by rfl) ?_
        exact OnlyM.refl _ _
      · refine OnlyM.comp (answerMaster_only _ _ _ _ _ _ _) (by rfl) ?_
        exact OnlyM.refl _ _
    · refine OnlyM.comp (bump_only _ _ _ _) (by rfl) ?_
      exact OnlyM.refl _ _

theorem execWatchConsentReply_only : ∀ x0, OutOnly 2005502764319986 x0 (execWatchConsentReply x0) := by
  intro x0
  unfold execWatchConsentReply
  refine OutOnly.next ?_
  split
  · refine OnlyM.ite ?_ ?_
    · exact OnlyM.refl _ _
    · split
      · exact OnlyM.mono (takeIn_of (by assumption)) (by rfl)
      · refine OnlyM.ite ?_ ?_
        · refine OnlyM.comp (enterLow_only _ _) (by rfl) ?_
          refine OnlyM.comp (lastBeat_only _) (by rfl) ?_
          refine OnlyM.comp (powerAnswer_only _ _) (by rfl) ?_
          refine OnlyM.comp (upd_pwr _ _) (by rfl) ?_
          exact OnlyM.mono (takeIn_of (by assumption)) (by rfl)
        · lift_lets
          intro y0
          refine OnlyM.useHave (show OnlyM 2005502764319986 x0 y0 from ?_) (fun hy0 => ?_)
          · unfold y0
            refine OnlyM.comp (powerAnswer_only _ _) (by rfl) ?_
            exact OnlyM.mono (takeIn_of (by assumption)) (by rfl)
          clear_value y0
          intro y1
          clear_value y1
          refine OnlyM.comp (upd_pwr _ _) (by rfl) ?_
          assumption
  · exact OnlyM.refl _ _

theorem execWatchConsentRequest_only : ∀ x0, OutOnly 12583104 x0 (execWatchConsentRequest x0) := by
  intro x0
  unfold execWatchConsentRequest
  refine OutOnly.next ?_
  split
  · lift_lets
    intro y0
    intro y1
    clear_value y1
    refine OnlyM.ite ?_ ?_
    · exact OnlyM.refl _ _
    · refine OnlyM.ite ?_ ?_
      · unfold y0
        refine OnlyM.comp (fieldResponse_only _ _ _ _ _ _ _ _ _) (by rfl) ?_
        exact OnlyM.mono (takeIn_of (by assumption)) (by rfl)
      · unfold y0
        refine OnlyM.comp (fieldResponse_only _ _ _ _ _ _ _ _ _) (by rfl) ?_
        refine OnlyM.comp (putN_only _ _ _ _) (by rfl) ?_
        refine OnlyM.comp (upd_fend _ _) (by rfl) ?_
        exact OnlyM.mono (takeIn_of (by assumption)) (by rfl)
  · exact OnlyM.refl _ _

theorem execWritebackFrameDone_only : ∀ x0, OutOnly 1424984262051008 x0 (execWritebackFrameDone x0) := by
  intro x0
  unfold execWritebackFrameDone
  refine OutOnly.next ?_
  refine OnlyM.ite ?_ ?_
  · exact OnlyM.refl _ _
  · split
    · refine OnlyM.ite ?_ ?_
      · exact OnlyM.refl _ _
      · refine OnlyM.comp (wbRecord_only _ _) (by rfl) ?_
        refine OnlyM.comp (upd_comp _ _) (by rfl) ?_
        exact OnlyM.refl _ _
    · refine OnlyM.ite ?_ ?_
      · exact OnlyM.refl _ _
      · refine OnlyM.comp (wbRecord_only _ _) (by rfl) ?_
        refine OnlyM.comp (upd_comp _ _) (by rfl) ?_
        exact OnlyM.refl _ _
    · exact OnlyM.refl _ _

end Sys2Proof.Laws
end

