-- ==== Sys2Proof/Laws/Table.lean ====
section
/-! SUPPORT. The laws of the sparse tables: reading back a write, writes to other keys, and the canonical form. -/

namespace Sys2Proof.Laws

open Machine

variable {α : Type}

theorem tget_tins_same (d v : α) (i : Nat) : ∀ t : Tab α, (∀ p ∈ t, p.1 ≠ i) → tget d (tins t i v) i = v := by
  intro t
  induction t with
  | nil => intro _; simp [tins, tget]
  | cons p t ih =>
    intro h
    obtain ⟨k, w⟩ := p
    have hk : i ≠ k := fun e => h (k, w) (List.mem_cons_self ..) e.symm
    unfold tins
    split
    · simp [tget]
    · simp only [tget, if_neg hk]
      exact ih (fun p hp => h p (List.mem_cons_of_mem _ hp))

theorem tget_tins_other (d v : α) (i j : Nat) (hj : j ≠ i) : ∀ t : Tab α, tget d (tins t i v) j = tget d t j := by
  intro t
  induction t with
  | nil => simp [tins, tget, hj]
  | cons p t ih =>
    obtain ⟨k, w⟩ := p
    unfold tins
    split
    · simp [tget, hj]
    · simp only [tget, ih]

theorem tget_filter (d : α) (i j : Nat) (hj : j ≠ i) : ∀ t : Tab α, tget d (t.filter (fun e => e.1 ≠ i)) j = tget d t j := by
  intro t
  induction t with
  | nil => rfl
  | cons p t ih =>
    obtain ⟨k, w⟩ := p
    rw [List.filter_cons]
    split
    · simp only [tget, ih]
    · rename_i h
      have hk : k = i := by simpa using h
      subst hk
      simp only [tget, if_neg hj, ih]

theorem tget_absent (d : α) (i : Nat) : ∀ t : Tab α, (∀ p ∈ t, p.1 ≠ i) → tget d t i = d := by
  intro t
  induction t with
  | nil => intro _; rfl
  | cons p t ih =>
    intro h
    obtain ⟨k, w⟩ := p
    have hk : i ≠ k := fun e => h (k, w) (List.mem_cons_self ..) e.symm
    simp only [tget, if_neg hk]
    exact ih (fun p hp => h p (List.mem_cons_of_mem _ hp))

/-- Reading a key back after a write to it. -/
@[simp] theorem tget_tset_same [DecidableEq α] (d v : α) (t : Tab α) (i : Nat) : tget d (tset d t i v) i = v := by
  have h : ∀ p ∈ t.filter (fun e => e.1 ≠ i), p.1 ≠ i := fun p hp => by simpa using List.of_mem_filter hp
  unfold tset
  dsimp only
  split
  · rename_i hv
    rw [hv]
    exact tget_absent _ _ _ h
  · exact tget_tins_same _ _ _ _ h

/-- A write to one key leaves every other key as it was. -/
theorem tget_tset_other [DecidableEq α] (d e v : α) (t : Tab α) {i j : Nat} (hj : j ≠ i) :
    tget e (tset d t i v) j = tget e t j := by
  unfold tset
  dsimp only
  split
  · exact tget_filter _ _ _ hj _
  · rw [tget_tins_other _ _ _ _ hj]
    exact tget_filter _ _ _ hj _

theorem tabove_tins {b i : Nat} (v : α) (hi : b < i) : ∀ t : Tab α, tabove b t → tabove b (tins t i v) := by
  intro t
  induction t with
  | nil =>
    intro _ p hp
    cases List.mem_singleton.1 hp
    exact hi
  | cons q t ih =>
    intro h p hp
    unfold tins at hp
    split at hp
    · rcases List.mem_cons.1 hp with rfl | hp
      · exact hi
      · exact h p hp
    · rcases List.mem_cons.1 hp with rfl | hp
      · exact h _ (List.mem_cons_self ..)
      · exact ih (fun p hp => h p (List.mem_cons_of_mem _ hp)) p hp

theorem twf_filter (dk : Nat → α) (f : Nat × α → Bool) : ∀ t : Tab α, twf dk t → twf dk (t.filter f) := by
  intro t
  induction t with
  | nil => intro _; trivial
  | cons q t ih =>
    intro h
    obtain ⟨k, w⟩ := q
    obtain ⟨hw, ha, ht⟩ := h
    rw [List.filter_cons]
    split
    · exact ⟨hw, fun p hp => ha p (List.mem_of_mem_filter hp), ih ht⟩
    · exact ih ht

theorem twf_tins (dk : Nat → α) (i : Nat) (v : α) (hv : v ≠ dk i) :
    ∀ t : Tab α, (∀ p ∈ t, p.1 ≠ i) → twf dk t → twf dk (tins t i v) := by
  intro t
  induction t with
  | nil =>
    intro _ _
    exact ⟨hv, (by intro p hp; cases hp), trivial⟩
  | cons q t ih =>
    intro hn h
    obtain ⟨k, w⟩ := q
    obtain ⟨hw, ha, ht⟩ := h
    have hk : k ≠ i := hn (k, w) (List.mem_cons_self ..)
    unfold tins
    split
    · rename_i hik
      refine ⟨hv, ?_, hw, ha, ht⟩
      intro p hp
      rcases List.mem_cons.1 hp with rfl | hp
      · exact hik
      · exact Nat.lt_trans hik (ha p hp)
    · rename_i hik
      exact ⟨hw, tabove_tins _ (by omega) _ ha, ih (fun p hp => hn p (List.mem_cons_of_mem _ hp)) ht⟩

/-- A write keeps the canonical form, when unlisted keys read as `dk` says. -/
theorem twf_tset [DecidableEq α] (dk : Nat → α) (i : Nat) (v : α) (t : Tab α) (h : twf dk t) : twf dk (tset (dk i) t i v) := by
  unfold tset
  dsimp only
  split
  · exact twf_filter _ _ _ h
  · rename_i hv
    exact twf_tins _ _ _ hv _ (fun p hp => by simpa using List.of_mem_filter hp) (twf_filter _ _ _ h)

/-- Dropping entries keeps the canonical form, also under other values of the keys that are dropped. -/
theorem twf_tkeep (dk dl : Nat → α) (p : Nat → Bool) (h : ∀ a, p a = true → dl a = dk a) :
    ∀ t : Tab α, twf dk t → twf dl (tkeep p t) := by
  intro t
  induction t with
  | nil => intro _; trivial
  | cons q t ih =>
    intro hw
    obtain ⟨k, w⟩ := q
    obtain ⟨h1, h2, h3⟩ := hw
    unfold tkeep at ih ⊢
    rw [List.filter_cons]
    split
    · rename_i hp
      refine ⟨by rw [h k hp]; exact h1, fun r hr => h2 r (List.mem_of_mem_filter hr), ih h3⟩
    · exact ih h3

end Sys2Proof.Laws
end

