-- ==== Sys2Proof/Laws/Keep.lean ====
section
/-! SUPPORT. What every operation keeps: the OTP fields, the refusal of debugger accesses, the bounds of the fault log and the
canonical form of DRAM. -/

namespace Sys2Proof.Laws

open Machine

/-- A die's OTP fields are unchanged, and no debugger access is granted under the lock (R991, R992). -/
def BootKeeps (b c : BootState) : Prop :=
  c.store.debugLock = b.store.debugLock ∧ c.store.keySet = b.store.keySet ∧ c.store.keyHash = b.store.keyHash ∧
    (c.debugOk = true → b.debugOk = true ∨ b.store.debugLock = false)

/-- DRAM contents and their losses are unchanged. -/
def MemKeeps (m n : Memory) : Prop := n.cells = m.cells ∧ n.losses = m.losses

/-- The bounds of the fault log, on its unit's state. -/
def LogFits (x : Safety) : Prop :=
  x.log.length ≤ 1024 ∧ x.flash.length ≤ 16384 ∧ x.hostHeld.length ≤ 64 ∧ x.hostLog.length ≤ 1024

/-- The bounds survive. -/
def SafKeeps (x y : Safety) : Prop := LogFits x → LogFits y

/-- What every operation of the model keeps. -/
def Keeps (s t : State) : Prop :=
  BootKeeps s.fboot t.fboot ∧ BootKeeps s.hboot t.hboot ∧ (DramInv s → DramInv t) ∧ SafKeeps s.saf t.saf

/-- The same for the next state of a command. -/
def OutKeeps (s : State) (o : Out) : Prop := ∀ t, o = .next t → Keeps s t

theorem BootKeeps.refl (b : BootState) : BootKeeps b b := ⟨rfl, rfl, rfl, fun h => .inl h⟩

theorem BootKeeps.trans {a b c : BootState} (h : BootKeeps a b) (k : BootKeeps b c) : BootKeeps a c := by
  refine ⟨k.1.trans h.1, k.2.1.trans h.2.1, k.2.2.1.trans h.2.2.1, fun hc => ?_⟩
  rcases k.2.2.2 hc with hb | hb
  · exact h.2.2.2 hb
  · exact .inr (h.1 ▸ hb)

theorem dramInv_of_mem {s t : State} (h : MemKeeps s.mem t.mem) (k : DramInv s) : DramInv t := by
  unfold DramInv at *
  have e : dramDefault t = dramDefault s := by
    funext a
    unfold dramDefault lossesAt
    rw [h.2]
  rw [e, h.1]
  exact k

theorem Keeps.refl (s : State) : Keeps s s := ⟨.refl _, .refl _, fun h => h, fun h => h⟩

theorem Keeps.trans {s t u : State} (h : Keeps s t) (k : Keeps t u) : Keeps s u :=
  ⟨h.1.trans k.1, h.2.1.trans k.2.1, fun i => k.2.2.1 (h.2.2.1 i), fun i => k.2.2.2 (h.2.2.2 i)⟩

theorem Keeps.comp {s t u : State} (k : Keeps t u) (h : Keeps s t) : Keeps s u := h.trans k

theorem Keeps.of {m : Nat} {s t : State} (h : OnlyM m s t) (hm : m &&& 281492156579843 = 0) : Keeps s t := by
  have bit : ∀ i, (281492156579843 : Nat).testBit i = true → m.testBit i = false := by
    intro i hi
    have : (m &&& 281492156579843).testBit i = false := by rw [hm]; exact Nat.zero_testBit i
    rw [Nat.testBit_and, hi, Bool.and_true] at this
    exact this
  have a : t.fboot = s.fboot := h .fboot (bit _ (by decide))
  have b : t.hboot = s.hboot := h .hboot (bit _ (by decide))
  have c : t.mem = s.mem := h .mem (bit _ (by decide))
  have d : t.saf = s.saf := h .saf (bit _ (by decide))
  exact ⟨a ▸ .refl _, b ▸ .refl _, dramInv_of_mem (c ▸ ⟨rfl, rfl⟩), d ▸ fun h => h⟩

theorem Keeps.ite {c : Prop} [Decidable c] {s t u : State} (h : Keeps s t) (k : Keeps s u) : Keeps s (if c then t else u) := by
  split
  · exact h
  · exact k

theorem Keeps.ite1 {α : Type} {c : Prop} [Decidable c] {s : State} {t u : State × α} (h : Keeps s t.1) (k : Keeps s u.1) :
    Keeps s (if c then t else u).1 := by
  split
  · exact h
  · exact k

theorem Keeps.foldl {β : Type} {s : State} {f : State → β → State} {l : List β} {t : State} (h : Keeps s t)
    (k : ∀ u b, Keeps s u → Keeps s (f u b)) : Keeps s (l.foldl f t) := by
  induction l generalizing t with
  | nil => exact h
  | cons b l ih => exact ih (k t b h)

theorem Keeps.foldl1 {α β : Type} {s : State} {f : State × α → β → State × α} {l : List β} {t : State × α}
    (h : Keeps s t.1) (k : ∀ u b, Keeps s u.1 → Keeps s (f u b).1) : Keeps s (l.foldl f t).1 := by
  induction l generalizing t with
  | nil => exact h
  | cons b l ih => exact ih (k t b h)

theorem Keeps.pair {α : Type} {s t : State} {a : α} (h : Keeps s t) : Keeps s (t, a).1 := h

theorem OutKeeps.next {s t : State} (h : Keeps s t) : OutKeeps s (.next t) := by
  intro u hu
  injection hu with hu
  exact hu ▸ h

theorem OutKeeps.refused (s : State) (r : Refusal) : OutKeeps s (.refused r) := by
  intro u hu
  cases hu

theorem OutKeeps.ite {c : Prop} [Decidable c] {s : State} {a b : Out} (h : OutKeeps s a) (k : OutKeeps s b) :
    OutKeeps s (if c then a else b) := by
  split
  · exact h
  · exact k

theorem OutKeeps.of {m : Nat} {s : State} {o : Out} (h : OutOnly m s o) (hm : m &&& 281492156579843 = 0) : OutKeeps s o :=
  fun t ht => .of (h t ht) hm

theorem keeps_fboot : ∀ (s : State) v0, BootKeeps s.fboot v0 → Keeps s { s with fboot := v0 } :=
  fun _ _ hfboot => ⟨hfboot, .refl _, dramInv_of_mem ⟨rfl, rfl⟩, fun h => h⟩

theorem keeps_hboot : ∀ (s : State) v0, BootKeeps s.hboot v0 → Keeps s { s with hboot := v0 } :=
  fun _ _ hhboot => ⟨.refl _, hhboot, dramInv_of_mem ⟨rfl, rfl⟩, fun h => h⟩

theorem keeps_mem : ∀ (s : State) v0, MemKeeps s.mem v0 → Keeps s { s with mem := v0 } :=
  fun _ _ hmem => ⟨.refl _, .refl _, dramInv_of_mem hmem, fun h => h⟩

theorem keeps_saf : ∀ (s : State) v0, SafKeeps s.saf v0 → Keeps s { s with saf := v0 } :=
  fun _ _ hsaf => ⟨.refl _, .refl _, dramInv_of_mem ⟨rfl, rfl⟩, hsaf⟩

theorem keeps_fboot_bus : ∀ (s : State) v0 v1, BootKeeps s.fboot v0 → Keeps s { s with fboot := v0, bus := v1 } :=
  fun _ _ _ hfboot => ⟨hfboot, .refl _, dramInv_of_mem ⟨rfl, rfl⟩, fun h => h⟩

theorem keeps_fboot_link : ∀ (s : State) v0 v1, BootKeeps s.fboot v0 → Keeps s { s with fboot := v0, link := v1 } :=
  fun _ _ _ hfboot => ⟨hfboot, .refl _, dramInv_of_mem ⟨rfl, rfl⟩, fun h => h⟩

theorem keeps_hboot_bus : ∀ (s : State) v0 v1, BootKeeps s.hboot v0 → Keeps s { s with hboot := v0, bus := v1 } :=
  fun _ _ _ hhboot => ⟨.refl _, hhboot, dramInv_of_mem ⟨rfl, rfl⟩, fun h => h⟩

theorem keeps_hboot_pwr : ∀ (s : State) v0 v1, BootKeeps s.hboot v0 → Keeps s { s with hboot := v0, pwr := v1 } :=
  fun _ _ _ hhboot => ⟨.refl _, hhboot, dramInv_of_mem ⟨rfl, rfl⟩, fun h => h⟩

theorem keeps_hboot_mem_pwr : ∀ (s : State) v0 v1 v2, BootKeeps s.hboot v0 → MemKeeps s.mem v1 → Keeps s { s with hboot := v0, mem := v1, pwr := v2 } :=
  fun _ _ _ _ hhboot hmem => ⟨.refl _, hhboot, dramInv_of_mem hmem, fun h => h⟩

theorem keeps_sync_bus_eng_saf : ∀ (s : State) v0 v1 v2 v3, SafKeeps s.saf v3 → Keeps s { s with sync := v0, bus := v1, eng := v2, saf := v3 } :=
  fun _ _ _ _ _ hsaf => ⟨.refl _, .refl _, dramInv_of_mem ⟨rfl, rfl⟩, hsaf⟩

theorem keeps_fboot_fobj_pos_fEntries_hMaster_tEntries_fclk_pairs_sync_fend_link_fieldXfers_sets_undo_keptHost_bus_axes_ctl_eng_saf : ∀ (s : State) v0 v1 v2 v3 v4 v5 v6 v7 v8 v9 v10 v11 v12 v13 v14 v15 v16 v17 v18 v19, BootKeeps s.fboot v0 → SafKeeps s.saf v19 → Keeps s { s with fboot := v0, fobj := v1, pos := v2, fEntries := v3, hMaster := v4, tEntries := v5, fclk := v6, pairs := v7, sync := v8, fend := v9, link := v10, fieldXfers := v11, sets := v12, undo := v13, keptHost := v14, bus := v15, axes := v16, ctl := v17, eng := v18, saf := v19 } :=
  fun _ _ _ _ _ _ _ _ _ _ _ _ _ _ _ _ _ _ _ _ _ hfboot hsaf => ⟨hfboot, .refl _, dramInv_of_mem ⟨rfl, rfl⟩, hsaf⟩

theorem keeps_hboot_hobj_replica_hclk_trep_pairs_fend_hend_link_hostSlots_fwdValue_portXfer_portWaits_fieldXfers_sets_mem_streams_trig_flags_graphs_runOrder_engines_gal_lan_comp_saf_pwr_hostInts : ∀ (s : State) v0 v1 v2 v3 v4 v5 v6 v7 v8 v9 v10 v11 v12 v13 v14 v15 v16 v17 v18 v19 v20 v21 v22 v23 v24 v25 v26 v27, BootKeeps s.hboot v0 → MemKeeps s.mem v15 → SafKeeps s.saf v25 → Keeps s { s with hboot := v0, hobj := v1, replica := v2, hclk := v3, trep := v4, pairs := v5, fend := v6, hend := v7, link := v8, hostSlots := v9, fwdValue := v10, portXfer := v11, portWaits := v12, fieldXfers := v13, sets := v14, mem := v15, streams := v16, trig := v17, flags := v18, graphs := v19, runOrder := v20, engines := v21, gal := v22, lan := v23, comp := v24, saf := v25, pwr := v26, hostInts := v27 } :=
  fun _ _ _ _ _ _ _ _ _ _ _ _ _ _ _ _ _ _ _ _ _ _ _ _ _ _ _ _ _ hhboot hmem hsaf => ⟨.refl _, hhboot, dramInv_of_mem hmem, hsaf⟩

/-- A storage's OTP fields are unchanged. -/
def OtpKeeps (x y : Storage) : Prop := y.debugLock = x.debugLock ∧ y.keySet = x.keySet ∧ y.keyHash = x.keyHash

theorem BootKeeps.store {b c : BootState} (h : OtpKeeps b.store c.store) (k : c.debugOk = b.debugOk) : BootKeeps b c :=
  ⟨h.1, h.2.1, h.2.2, fun hc => .inl (k ▸ hc)⟩

theorem writeControl_otp (x : Storage) (c : Control) : OtpKeeps x (writeControl x c) := by
  unfold writeControl
  dsimp only
  split <;> exact ⟨rfl, rfl, rfl⟩

theorem setSlotImage_otp (x : Storage) (b : Bool) (i : List Byte) : OtpKeeps x (setSlotImage x b i) := by
  unfold setSlotImage
  split <;> exact ⟨rfl, rfl, rfl⟩

theorem OtpKeeps.trans {x y z : Storage} (h : OtpKeeps x y) (k : OtpKeeps y z) : OtpKeeps x z :=
  ⟨k.1.trans h.1, k.2.1.trans h.2.1, k.2.2.trans h.2.2⟩

theorem chooseSlot_otp (host : Bool) (x : Storage) : OtpKeeps x (chooseSlot host x).store := by
  have a : OtpKeeps x (if (controlOf x).isNone then writeControl x {} else x) := by
    split
    · exact writeControl_otp _ _
    · exact ⟨rfl, rfl, rfl⟩
  unfold chooseSlot
  dsimp only
  split <;> first | exact a.trans (writeControl_otp _ _) | exact a

theorem commitTrial_keeps (b : BootState) : BootKeeps b (commitTrial b) := by
  unfold commitTrial
  split
  · exact .store (writeControl_otp _ _) rfl
  · exact .refl _

theorem commitWrite_keeps (b : BootState) (v : Nat) : BootKeeps b (commitWrite b v).1 := by
  unfold commitWrite
  split
  · exact .refl _
  · split
    · exact commitTrial_keeps _
    · exact .refl _

theorem install_otp (host : Bool) (x : Storage) (i : List Byte) (stored : Bool) : OtpKeeps x (install host x i stored).1 := by
  unfold install
  dsimp only
  split
  · exact ⟨rfl, rfl, rfl⟩
  · dsimp only
    split
    · exact (setSlotImage_otp _ _ _).trans (writeControl_otp _ _)
    · exact setSlotImage_otp _ _ _

theorem recoverSlot_otp (host : Bool) (x : Storage) (i : List Byte) (stored : Bool) : OtpKeeps x (recoverSlot host x i stored).1 := by
  unfold recoverSlot
  dsimp only
  split
  · exact ⟨rfl, rfl, rfl⟩
  · dsimp only
    split
    · exact (setSlotImage_otp _ _ _).trans (writeControl_otp _ _)
    · exact setSlotImage_otp _ _ _

theorem safReset_keeps (x : Safety) : SafKeeps x (safReset x) := fun h => ⟨Nat.zero_le _, h.2.1, h.2.2.1, h.2.2.2⟩

end Sys2Proof.Laws
end

