-- ==== Sys2Proof/Laws/KeepA.lean ====
section
/-! SUPPORT. Every operation that reaches the boot state, DRAM or the fault log keeps what `Keeps` says, part 1. -/

namespace Sys2Proof.Laws

open Machine

theorem logField_keeps : ∀ x0 x1, Keeps x0 (logField x0 x1) := by
  intro x0 x1
  unfold logField
  lift_lets
  intro y0
  clear_value y0
  intro y1
  intro y2
  refine OnlyM.useHave (show Keeps x0 y2 from ?_) (fun hy2 => ?_)
  · unfold y2
    refine Keeps.comp (keeps_saf _ _ ?_) ?_
    · exact fun h => ⟨by first | exact h.1 | exact Nat.zero_le _ | exact List.length_take_le _ _, h.2.1, by first | exact h.2.2.1 | exact Nat.zero_le _, by first | exact h.2.2.2 | exact Nat.zero_le _ | exact List.length_take_le _ _⟩
    · exact Keeps.refl _
  clear_value y2
  refine Keeps.comp (Keeps.of (class2_only _ _) (by rfl)) ?_
  assumption

theorem faultOption_keeps : ∀ x0 x1 x2 x3 x4, Keeps x0 (faultOption x0 x1 x2 x3 x4) := by
  intro x0 x1 x2 x3 x4
  unfold faultOption
  lift_lets
  intro y0
  refine OnlyM.useHave (show Keeps x0 y0 from ?_) (fun hy0 => ?_)
  · unfold y0
    split
    · refine Keeps.comp (Keeps.of (emcy_only _ _ _ _) (by rfl)) ?_
      exact Keeps.refl _
    · exact Keeps.refl _
  clear_value y0
  intro y1
  clear_value y1
  intro y2
  refine OnlyM.useHave (show Keeps x0 y2 from ?_) (fun hy2 => ?_)
  · unfold y2
    refine Keeps.comp (logField_keeps _ _) ?_
    refine Keeps.comp (Keeps.of (putN_only _ _ _ _) (by rfl)) ?_
    assumption
  clear_value y2
  intro y3
  refine OnlyM.useHave (show Keeps x0 y3 from ?_) (fun hy3 => ?_)
  · unfold y3
    refine Keeps.comp (Keeps.of (axisClear_only _ _) (by rfl)) ?_
    assumption
  clear_value y3
  intro y4
  clear_value y4
  intro y5
  refine OnlyM.useHave (show Keeps x0 y5 from ?_) (fun hy5 => ?_)
  · unfold y5
    refine Keeps.comp (Keeps.of (flushFifo_only _ _) (by rfl)) ?_
    assumption
  clear_value y5
  intro y6
  clear_value y6
  refine Keeps.ite ?_ ?_
  · assumption
  · refine Keeps.ite ?_ ?_
    · refine Keeps.comp (Keeps.of (driveTrip_only _ _) (by rfl)) ?_
      refine Keeps.comp (Keeps.of (setCe_only _ _ _) (by rfl)) ?_
      assumption
    · refine Keeps.ite ?_ ?_
      · assumption
      · refine Keeps.comp (Keeps.of (setCe_only _ _ _) (by rfl)) ?_
        assumption

theorem badCapture_keeps : ∀ x0 x1, Keeps x0 (badCapture x0 x1) := by
  intro x0 x1
  unfold badCapture
  lift_lets
  intro y0
  clear_value y0
  intro y1
  refine OnlyM.useHave (show Keeps x0 y1 from ?_) (fun hy1 => ?_)
  · unfold y1
    refine Keeps.comp (Keeps.of (encPublish_only _ _) (by rfl)) ?_
    refine Keeps.comp (Keeps.of (setAx_only _ _ _) (by rfl)) ?_
    exact Keeps.refl _
  clear_value y1
  refine Keeps.ite ?_ ?_
  · refine Keeps.comp (faultOption_keeps _ _ _ _ _) ?_
    assumption
  · assumption

theorem absFault_keeps : ∀ x0 x1 x2, Keeps x0 (absFault x0 x1 x2) := by
  intro x0 x1 x2
  unfold absFault
  lift_lets
  intro y0
  clear_value y0
  intro y1
  clear_value y1
  intro y2
  refine OnlyM.useHave (show Keeps x0 y2 from ?_) (fun hy2 => ?_)
  · unfold y2
    refine Keeps.comp (Keeps.of (bump_only _ _ _ _) (by rfl)) ?_
    refine Keeps.comp (Keeps.of (setAx_only _ _ _) (by rfl)) ?_
    exact Keeps.refl _
  clear_value y2
  intro y3
  refine OnlyM.useHave (show Keeps x0 y3 from ?_) (fun hy3 => ?_)
  · unfold y3
    refine Keeps.comp (badCapture_keeps _ _) ?_
    assumption
  clear_value y3
  refine Keeps.comp (Keeps.of (emcy_only _ _ _ _) (by rfl)) ?_
  assumption

theorem dramSet_keeps : ∀ x0 x1 x2, Keeps x0 (dramSet x0 x1 x2) := by
  intro x0 x1 x2
  refine ⟨.refl _, .refl _, fun h => ?_, fun h => h⟩
  exact twf_tset (dramDefault x0) x1 x2 x0.mem.cells h

theorem dramWrite_keeps : ∀ x0 x1 x2, Keeps x0 (dramWrite x0 x1 x2) := by
  intro x0 x1 x2
  induction x2 generalizing x0 x1 with
  | nil => exact Keeps.refl _
  | cons b t ih => exact Keeps.comp (ih _ _) (dramSet_keeps _ _ _)

theorem hostCopy_keeps : ∀ x0 x1, Keeps x0 (hostCopy x0 x1) := by
  intro x0 x1
  unfold hostCopy
  refine Keeps.comp (keeps_saf _ _ ?_) ?_
  · exact fun h => ⟨by first | exact h.1 | exact Nat.zero_le _ | exact List.length_take_le _ _, h.2.1, by first | exact h.2.2.1 | exact Nat.zero_le _, by first | exact h.2.2.2 | exact Nat.zero_le _ | exact List.length_take_le _ _⟩
  · exact Keeps.refl _

theorem logHost_keeps : ∀ x0 x1, Keeps x0 (logHost x0 x1) := by
  intro x0 x1
  unfold logHost
  lift_lets
  intro y0
  clear_value y0
  intro y1
  intro y2
  refine OnlyM.useHave (show Keeps x0 y2 from ?_) (fun hy2 => ?_)
  · unfold y2
    refine Keeps.comp (hostCopy_keeps _ _) ?_
    exact keeps_saf _ _ (fun h => h)
  clear_value y2
  intro y3
  refine Keeps.ite (Keeps.comp (Keeps.of (ropeSend_only _ _ _) (by rfl)) hy2) ?_
  split
  · rename_i hlt
    refine Keeps.comp (keeps_saf _ _ (fun h => ⟨h.1, h.2.1, ?_, h.2.2.2⟩)) hy2
    show (y2.saf.hostHeld ++ [y0]).length ≤ 64
    rw [List.length_append]
    exact hlt
  · exact Keeps.comp (Keeps.of (bump_only _ _ _ _) (by rfl)) hy2

theorem fabFault_keeps : ∀ x0 x1, Keeps x0 (fabFault x0 x1) := by
  intro x0 x1
  unfold fabFault
  refine Keeps.comp (logHost_keeps _ _) ?_
  refine Keeps.comp (keeps_mem _ _ ?_) ?_
  · exact ⟨rfl, rfl⟩
  · exact Keeps.refl _

theorem engStore_keeps : ∀ x0 x1 x2 x3, Keeps x0 (engStore x0 x1 x2 x3).1 := by
  intro x0 x1 x2 x3
  unfold engStore
  refine Keeps.foldl1 ?_ (fun _ _ _ => ?_)
  · refine Keeps.pair ?_
    exact Keeps.refl _
  · lift_lets
    intro y0
    clear_value y0
    intro y1
    clear_value y1
    intro y2
    refine OnlyM.useHave (show Keeps x0 y2 from ?_) (fun hy2 => ?_)
    · unfold y2
      refine Keeps.comp (dramWrite_keeps _ _ _) ?_
      assumption
    clear_value y2
    intro y3
    split
    · refine Keeps.pair ?_
      refine Keeps.comp (fabFault_keeps _ _) ?_
      assumption
    · refine Keeps.pair ?_
      refine Keeps.ite ?_ ?_
      · refine Keeps.comp (keeps_mem _ _ ?_) ?_
        · exact ⟨rfl, rfl⟩
        · assumption
      · assumption

theorem imsicSet_keeps : ∀ x0 x1 x2, Keeps x0 (imsicSet x0 x1 x2) := by
  intro x0 x1 x2
  unfold imsicSet
  refine Keeps.ite ?_ ?_
  · exact Keeps.refl _
  · refine Keeps.comp (keeps_mem _ _ ?_) ?_
    · exact ⟨rfl, rfl⟩
    · exact Keeps.refl _

theorem setAplic_keeps : ∀ x0 x1 x2, Keeps x0 (setAplic x0 x1 x2) := by
  intro x0 x1 x2
  unfold setAplic
  refine Keeps.ite ?_ ?_
  · refine Keeps.comp (keeps_mem _ _ ?_) ?_
    · exact ⟨rfl, rfl⟩
    · exact Keeps.refl _
  · refine Keeps.comp (keeps_mem _ _ ?_) ?_
    · exact ⟨rfl, rfl⟩
    · exact Keeps.refl _

theorem aplicForward_keeps : ∀ x0 x1 x2, Keeps x0 (aplicForward x0 x1 x2) := by
  intro x0 x1 x2
  unfold aplicForward
  lift_lets
  intro y0
  clear_value y0
  intro y1
  clear_value y1
  refine Keeps.ite ?_ ?_
  · refine Keeps.comp (imsicSet_keeps _ _ _) ?_
    refine Keeps.comp (setAplic_keeps _ _ _) ?_
    exact Keeps.refl _
  · exact Keeps.refl _

theorem aplicPend_keeps : ∀ x0 x1 x2, Keeps x0 (aplicPend x0 x1 x2) := by
  intro x0 x1 x2
  unfold aplicPend
  lift_lets
  intro y0
  clear_value y0
  refine Keeps.ite ?_ ?_
  · exact Keeps.refl _
  · refine Keeps.comp (aplicForward_keeps _ _ _) ?_
    refine Keeps.comp (setAplic_keeps _ _ _) ?_
    exact Keeps.refl _

theorem wireRise_keeps : ∀ x0 x1, Keeps x0 (wireRise x0 x1) := by
  intro x0 x1
  unfold wireRise
  refine Keeps.foldl ?_ (fun _ _ _ => ?_)
  · exact Keeps.refl _
  · refine Keeps.ite ?_ ?_
    · refine Keeps.comp (aplicPend_keeps _ _ _) ?_
      assumption
    · assumption

theorem hostIrq_keeps : ∀ x0 x1, Keeps x0 (hostIrq x0 x1) := by
  intro x0 x1
  unfold hostIrq
  refine Keeps.comp (wireRise_keeps _ _) ?_
  refine Keeps.comp (Keeps.of (upd_hostInts _ _) (by rfl)) ?_
  exact Keeps.refl _

theorem d2hPut_keeps : ∀ x0 x1, Keeps x0 (d2hPut x0 x1) := by
  intro x0 x1
  unfold d2hPut
  lift_lets
  intro y0
  clear_value y0
  intro y1
  refine OnlyM.useHave (show Keeps x0 y1.1 from ?_) (fun hy1 => ?_)
  · unfold y1
    refine Keeps.comp (engStore_keeps _ _ _ _) ?_
    exact Keeps.refl _
  clear_value y1
  intro y2
  refine OnlyM.useHave (show Keeps x0 y2 from ?_) (fun hy2 => ?_)
  · unfold y2
    refine Keeps.comp (Keeps.of (setReg_only _ _ _) (by rfl)) ?_
    assumption
  clear_value y2
  refine Keeps.ite ?_ ?_
  · refine Keeps.comp (hostIrq_keeps _ _) ?_
    assumption
  · assumption

theorem portDone_keeps : ∀ x0 x1 x2 x3 x4 x5 x6 x7 x8 x9, Keeps x0 (portDone x0 x1 x2 x3 x4 x5 x6 x7 x8 x9) := by
  intro x0 x1 x2 x3 x4 x5 x6 x7 x8 x9
  unfold portDone
  lift_lets
  intro y0
  refine OnlyM.useHave (show Keeps x0 y0 from ?_) (fun hy0 => ?_)
  · unfold y0
    refine Keeps.comp (Keeps.of (bump_only _ _ _ _) (by rfl)) ?_
    exact Keeps.refl _
  clear_value y0
  intro y1
  refine OnlyM.useHave (show Keeps x0 y1 from ?_) (fun hy1 => ?_)
  · unfold y1
    refine Keeps.ite ?_ ?_
    · assumption
    · refine Keeps.comp (Keeps.of (bump_only _ _ _ _) (by rfl)) ?_
      assumption
  clear_value y1
  refine Keeps.ite ?_ ?_
  · refine Keeps.comp (d2hPut_keeps _ _) ?_
    assumption
  · assumption

theorem waitDone_keeps : ∀ x0 x1 x2 x3, Keeps x0 (waitDone x0 x1 x2 x3) := by
  intro x0 x1 x2 x3
  unfold waitDone
  refine Keeps.comp (portDone_keeps _ _ _ _ _ _ _ _ _ _) ?_
  exact Keeps.refl _

theorem postedDone_keeps : ∀ x0 x1, Keeps x0 (postedDone x0 x1) := by
  intro x0 x1
  unfold postedDone
  split
  · refine Keeps.comp (waitDone_keeps _ _ _ _) ?_
    refine Keeps.comp (Keeps.of (upd_portWaits _ _) (by rfl)) ?_
    exact Keeps.refl _
  · exact Keeps.refl _

theorem acked_keeps : ∀ x0 x1 x2, Keeps x0 (acked x0 x1 x2) := by
  intro x0 x1 x2
  unfold acked
  lift_lets
  intro y0
  clear_value y0
  intro y1
  clear_value y1
  intro y2
  refine OnlyM.useHave (show Keeps x0 y2 from ?_) (fun hy2 => ?_)
  · unfold y2
    refine Keeps.comp (Keeps.of (setEnd_only _ _ _) (by rfl)) ?_
    exact Keeps.refl _
  clear_value y2
  intro y3
  split
  · refine Keeps.foldl ?_ (fun _ _ _ => ?_)
    · assumption
    · refine Keeps.comp (postedDone_keeps _ _) ?_
      assumption
  · refine Keeps.ite ?_ ?_
    · refine Keeps.comp (keeps_fboot _ _ ?_) ?_
      · exact ⟨rfl, rfl, rfl, fun h => .inl h⟩
      · assumption
    · assumption

theorem ageCount_keeps : ∀ x0 x1, Keeps x0 (ageCount x0 x1) := by
  intro x0 x1
  unfold ageCount
  lift_lets
  intro y0
  refine OnlyM.useHave (show Keeps x0 y0 from ?_) (fun hy0 => ?_)
  · unfold y0
    refine Keeps.comp (Keeps.of (bump_only _ _ _ _) (by rfl)) ?_
    exact Keeps.refl _
  clear_value y0
  intro y1
  refine Keeps.ite ?_ ?_
  · refine Keeps.comp (keeps_saf _ _ ?_) ?_
    · exact fun h => h
    · assumption
  · assumption

theorem startReaction_keeps : ∀ x0 x1 x2 x3 x4 x5 x6 x7 x8, Keeps x0 (startReaction x0 x1 x2 x3 x4 x5 x6 x7 x8) := by
  intro x0 x1 x2 x3 x4 x5 x6 x7 x8
  unfold startReaction
  refine Keeps.ite ?_ ?_
  · exact Keeps.refl _
  · lift_lets
    intro y0
    refine OnlyM.useHave (show Keeps x0 y0 from ?_) (fun hy0 => ?_)
    · unfold y0
      split
      · refine Keeps.comp (Keeps.of (emcy_only _ _ _ _) (by rfl)) ?_
        exact Keeps.refl _
      · exact Keeps.refl _
    clear_value y0
    intro y1
    refine OnlyM.useHave (show Keeps x0 y1 from ?_) (fun hy1 => ?_)
    · unfold y1
      refine Keeps.foldl ?_ (fun _ _ _ => ?_)
      · assumption
      · refine Keeps.comp (Keeps.of (reactAxis_only _ _ _) (by rfl)) ?_
        assumption
    clear_value y1
    intro y2
    refine OnlyM.useHave (show Keeps x0 y2 from ?_) (fun hy2 => ?_)
    · unfold y2
      refine Keeps.comp (Keeps.of (putN_only _ _ _ _) (by rfl)) ?_
      assumption
    clear_value y2
    refine Keeps.ite ?_ ?_
    · assumption
    · refine Keeps.comp (logField_keeps _ _) ?_
      assumption

theorem ageReject_keeps : ∀ x0 x1 x2, Keeps x0 (ageReject x0 x1 x2) := by
  intro x0 x1 x2
  unfold ageReject
  lift_lets
  intro y0
  clear_value y0
  intro y1
  clear_value y1
  intro y2
  refine OnlyM.useHave (show Keeps x0 y2 from ?_) (fun hy2 => ?_)
  · unfold y2
    refine Keeps.comp (logField_keeps _ _) ?_
    exact Keeps.refl _
  clear_value y2
  intro y3
  refine OnlyM.useHave (show Keeps x0 y3 from ?_) (fun hy3 => ?_)
  · unfold y3
    refine Keeps.comp (Keeps.of (commandRejected_only _ _ _ _) (by rfl)) ?_
    assumption
  clear_value y3
  refine Keeps.comp (startReaction_keeps _ _ _ _ _ _ _ _ _) ?_
  assumption

theorem setAl_keeps : ∀ x0 x1 x2 x3 x4, Keeps x0 (setAl x0 x1 x2 x3 x4) := by
  intro x0 x1 x2 x3 x4
  unfold setAl
  lift_lets
  intro y0
  clear_value y0
  intro y1
  clear_value y1
  intro y2
  refine OnlyM.useHave (show Keeps x0 y2 from ?_) (fun hy2 => ?_)
  · unfold y2
    refine Keeps.comp (Keeps.of (upd_bus _ _) (by rfl)) ?_
    exact Keeps.refl _
  clear_value y2
  intro y3
  refine OnlyM.useHave (show Keeps x0 y3 from ?_) (fun hy3 => ?_)
  · unfold y3
    refine Keeps.ite ?_ ?_
    · refine Keeps.comp (startReaction_keeps _ _ _ _ _ _ _ _ _) ?_
      assumption
    · assumption
  clear_value y3
  intro y4
  refine OnlyM.useHave (show Keeps x0 y4 from ?_) (fun hy4 => ?_)
  · unfold y4
    refine Keeps.ite ?_ ?_
    · refine Keeps.comp (Keeps.of (emcyFlush_only _) (by rfl)) ?_
      assumption
    · assumption
  clear_value y4
  intro y5
  refine OnlyM.useHave (show Keeps x0 y5 from ?_) (fun hy5 => ?_)
  · unfold y5
    refine Keeps.ite ?_ ?_
    · refine Keeps.comp (Keeps.of (alSets_only _) (by rfl)) ?_
      assumption
    · assumption
  clear_value y5
  refine Keeps.ite ?_ ?_
  · refine Keeps.comp (Keeps.of (stoAll_only _) (by rfl)) ?_
    assumption
  · assumption

theorem alRequest_keeps : ∀ x0 x1, Keeps x0 (alRequest x0 x1) := by
  intro x0 x1
  unfold alRequest
  refine Keeps.ite ?_ ?_
  · refine Keeps.comp (setAl_keeps _ _ _ _ _) ?_
    exact Keeps.refl _
  · refine Keeps.comp (Keeps.of (upd_bus _ _) (by rfl)) ?_
    exact Keeps.refl _

theorem aplicForwardAll_keeps : ∀ x0 x1, Keeps x0 (aplicForwardAll x0 x1) := by
  intro x0 x1
  unfold aplicForwardAll
  refine Keeps.foldl ?_ (fun _ _ _ => ?_)
  · exact Keeps.refl _
  · refine Keeps.comp (aplicForward_keeps _ _ _) ?_
    assumption

theorem aplicWrite_keeps : ∀ x0 x1 x2 x3, Keeps x0 (aplicWrite x0 x1 x2 x3) := by
  intro x0 x1 x2 x3
  unfold aplicWrite
  lift_lets
  intro y0
  clear_value y0
  intro y1
  clear_value y1
  intro y2
  clear_value y2
  intro y3
  clear_value y3
  intro y4
  refine OnlyM.useHave (show Keeps x0 y4 from ?_) (fun hy4 => ?_)
  · unfold y4
    refine Keeps.comp (setAplic_keeps _ _ _) ?_
    exact Keeps.refl _
  clear_value y4
  intro y5
  clear_value y5
  intro y6
  clear_value y6
  refine Keeps.ite ?_ ?_
  · refine Keeps.comp (aplicForwardAll_keeps _ _) ?_
    refine Keeps.comp (setAplic_keeps _ _ _) ?_
    exact Keeps.refl _
  · refine Keeps.ite ?_ ?_
    · refine Keeps.ite ?_ ?_
      · refine Keeps.comp (setAplic_keeps _ _ _) ?_
        assumption
      · assumption
    · refine Keeps.ite ?_ ?_
      · refine Keeps.ite ?_ ?_
        · exact Keeps.refl _
        · refine Keeps.comp (setAplic_keeps _ _ _) ?_
          exact Keeps.refl _
      · refine Keeps.ite ?_ ?_
        · refine Keeps.foldl ?_ (fun _ _ _ => ?_)
          · exact Keeps.refl _
          · refine Keeps.comp (aplicPend_keeps _ _ _) ?_
            assumption
        · refine Keeps.ite ?_ ?_
          · refine Keeps.comp (aplicPend_keeps _ _ _) ?_
            exact Keeps.refl _
          · refine Keeps.ite ?_ ?_
            · refine Keeps.comp (aplicPend_keeps _ _ _) ?_
              exact Keeps.refl _
            · refine Keeps.ite ?_ ?_
              · refine Keeps.comp (setAplic_keeps _ _ _) ?_
                exact Keeps.refl _
              · refine Keeps.ite ?_ ?_
                · refine Keeps.comp (setAplic_keeps _ _ _) ?_
                  exact Keeps.refl _
                · refine Keeps.ite ?_ ?_
                  · refine Keeps.comp (aplicForwardAll_keeps _ _) ?_
                    refine Keeps.comp (setAplic_keeps _ _ _) ?_
                    exact Keeps.refl _
                  · refine Keeps.ite ?_ ?_
                    · refine Keeps.ite ?_ ?_
                      · exact Keeps.refl _
                      · refine Keeps.comp (aplicForward_keeps _ _ _) ?_
                        refine Keeps.comp (setAplic_keeps _ _ _) ?_
                        exact Keeps.refl _
                    · refine Keeps.ite ?_ ?_
                      · refine Keeps.comp (setAplic_keeps _ _ _) ?_
                        exact Keeps.refl _
                      · refine Keeps.ite ?_ ?_
                        · refine Keeps.comp (setAplic_keeps _ _ _) ?_
                          exact Keeps.refl _
                        · refine Keeps.ite ?_ ?_
                          · refine Keeps.comp (imsicSet_keeps _ _ _) ?_
                            refine Keeps.comp (setAplic_keeps _ _ _) ?_
                            exact Keeps.refl _
                          · refine Keeps.ite ?_ ?_
                            · refine Keeps.ite ?_ ?_
                              · exact Keeps.refl _
                              · refine Keeps.comp (setAplic_keeps _ _ _) ?_
                                exact Keeps.refl _
                            · exact Keeps.refl _

theorem coolReset_keeps : ∀ x0, Keeps x0 (coolReset x0) := by
  intro x0
  unfold coolReset
  refine Keeps.ite ?_ ?_
  · refine Keeps.comp (keeps_saf _ _ ?_) ?_
    · exact fun h => h
    · exact Keeps.refl _
  · exact Keeps.refl _

theorem faultReset_keeps : ∀ x0 x1, Keeps x0 (faultReset x0 x1) := by
  intro x0 x1
  unfold faultReset
  lift_lets
  intro y0
  refine OnlyM.useHave (show Keeps x0 y0 from ?_) (fun hy0 => ?_)
  · unfold y0
    refine Keeps.comp (coolReset_keeps _) ?_
    exact Keeps.refl _
  clear_value y0
  intro y1
  clear_value y1
  intro y2
  refine OnlyM.useHave (show Keeps x0 y2 from ?_) (fun hy2 => ?_)
  · unfold y2
    refine Keeps.comp (Keeps.of (setCe_only _ _ _) (by rfl)) ?_
    assumption
  clear_value y2
  refine Keeps.ite ?_ ?_
  · refine Keeps.comp (Keeps.of (errorCleared_only _ _) (by rfl)) ?_
    refine Keeps.comp (Keeps.of (putN_only _ _ _ _) (by rfl)) ?_
    assumption
  · assumption

theorem controlword_keeps : ∀ x0 x1 x2, Keeps x0 (controlword x0 x1 x2) := by
  intro x0 x1 x2
  unfold controlword
  lift_lets
  intro y0
  clear_value y0
  intro y1
  clear_value y1
  intro y2
  refine OnlyM.useHave (show Keeps x0 y2 from ?_) (fun hy2 => ?_)
  · unfold y2
    refine Keeps.comp (Keeps.of (setCe_only _ _ _) (by rfl)) ?_
    exact Keeps.refl _
  clear_value y2
  intro y3
  refine OnlyM.useHave (show Keeps x0 y3 from ?_) (fun hy3 => ?_)
  · unfold y3
    refine Keeps.ite ?_ ?_
    · refine Keeps.comp (faultReset_keeps _ _) ?_
      assumption
    · refine Keeps.ite ?_ ?_
      · refine Keeps.comp (Keeps.of (disableVoltage_only _ _) (by rfl)) ?_
        assumption
      · refine Keeps.ite ?_ ?_
        · refine Keeps.comp (Keeps.of (quickStop_only _ _) (by rfl)) ?_
          assumption
        · refine Keeps.ite ?_ ?_
          · refine Keeps.comp (Keeps.of (shutdown_only _ _) (by rfl)) ?_
            assumption
          · refine Keeps.ite ?_ ?_
            · refine Keeps.comp (Keeps.of (switchOn_only _ _) (by rfl)) ?_
              assumption
            · refine Keeps.comp (Keeps.of (enableCommand_only _ _) (by rfl)) ?_
              assumption
  clear_value y3
  refine Keeps.comp (Keeps.of (modeBits_only _ _ _ _) (by rfl)) ?_
  assumption

theorem visRecord_keeps : ∀ x0 x1 x2 x3 x4, Keeps x0 (visRecord x0 x1 x2 x3 x4) := by
  intro x0 x1 x2 x3 x4
  unfold visRecord
  lift_lets
  intro y0
  refine OnlyM.useHave (show Keeps x0 y0 from ?_) (fun hy0 => ?_)
  · unfold y0
    refine Keeps.comp (Keeps.of (putObj_only _ _ _ _) (by rfl)) ?_
    exact Keeps.refl _
  clear_value y0
  intro y1
  clear_value y1
  intro y2
  clear_value y2
  intro y3
  clear_value y3
  intro y4
  refine OnlyM.useHave (show Keeps x0 y4.1 from ?_) (fun hy4 => ?_)
  · unfold y4
    refine Keeps.comp (engStore_keeps _ _ _ _) ?_
    assumption
  clear_value y4
  intro y5
  refine OnlyM.useHave (show Keeps x0 y5 from ?_) (fun hy5 => ?_)
  · unfold y5
    refine Keeps.comp (Keeps.of (setReg_only _ _ _) (by rfl)) ?_
    assumption
  clear_value y5
  refine Keeps.ite ?_ ?_
  · refine Keeps.ite ?_ ?_
    · refine Keeps.comp (hostIrq_keeps _ _) ?_
      assumption
    · assumption
  · assumption

theorem noRun_keeps : ∀ x0 x1 x2 x3, Keeps x0 (noRun x0 x1 x2 x3) := by
  intro x0 x1 x2 x3
  unfold noRun
  lift_lets
  intro y0
  clear_value y0
  intro y1
  clear_value y1
  intro y2
  clear_value y2
  intro y3
  refine OnlyM.useHave (show Keeps x0 y3 from ?_) (fun hy3 => ?_)
  · unfold y3
    refine Keeps.comp (Keeps.of (setGph_only _ _ _) (by rfl)) ?_
    exact Keeps.refl _
  clear_value y3
  intro y4
  refine OnlyM.useHave (show Keeps x0 y4 from ?_) (fun hy4 => ?_)
  · unfold y4
    split
    · refine Keeps.comp (Keeps.of (bump_only _ _ _ _) (by rfl)) ?_
      assumption
    · refine Keeps.comp (Keeps.of (bump_only _ _ _ _) (by rfl)) ?_
      assumption
    · refine Keeps.comp (Keeps.of (bump_only _ _ _ _) (by rfl)) ?_
      assumption
    · assumption
  clear_value y4
  refine Keeps.foldl ?_ (fun _ _ _ => ?_)
  · refine Keeps.comp (visRecord_keeps _ _ _ _ _) ?_
    assumption
  · refine Keeps.comp (Keeps.of (flagRelease_only _ _) (by rfl)) ?_
    assumption

theorem graphRequest_keeps : ∀ x0 x1 x2, Keeps x0 (graphRequest x0 x1 x2) := by
  intro x0 x1 x2
  unfold graphRequest
  lift_lets
  intro y0
  clear_value y0
  intro y1
  clear_value y1
  refine Keeps.ite ?_ ?_
  · exact Keeps.refl _
  · refine Keeps.ite ?_ ?_
    · refine Keeps.comp (Keeps.of (setGph_only _ _ _) (by rfl)) ?_
      exact Keeps.refl _
    · refine Keeps.ite ?_ ?_
      · refine Keeps.comp (noRun_keeps _ _ _ _) ?_
        exact Keeps.refl _
      · refine Keeps.comp (noRun_keeps _ _ _ _) ?_
        refine Keeps.comp (Keeps.of (useFresh_only _ _ _) (by rfl)) ?_
        exact Keeps.refl _

theorem graphStartEvent_keeps : ∀ x0 x1, Keeps x0 (graphStartEvent x0 x1) := by
  intro x0 x1
  unfold graphStartEvent
  refine Keeps.ite ?_ ?_
  · refine Keeps.comp (graphRequest_keeps _ _ _) ?_
    exact Keeps.refl _
  · exact Keeps.refl _

theorem engLoad_keeps : ∀ x0 x1 x2 x3, Keeps x0 (engLoad x0 x1 x2 x3).1 := by
  intro x0 x1 x2 x3
  unfold engLoad
  refine Keeps.foldl1 ?_ (fun _ _ _ => ?_)
  · refine Keeps.pair ?_
    exact Keeps.refl _
  · lift_lets
    intro y0
    clear_value y0
    intro y1
    clear_value y1
    split
    · refine Keeps.pair ?_
      refine Keeps.comp (fabFault_keeps _ _) ?_
      assumption
    · refine Keeps.ite1 ?_ ?_
      · refine Keeps.pair ?_
        refine Keeps.comp (fabFault_keeps _ _) ?_
        assumption
      · refine Keeps.pair ?_
        assumption

theorem prefetchPage_keeps : ∀ x0 x1 x2 x3, Keeps x0 (prefetchPage x0 x1 x2 x3).1 := by
  intro x0 x1 x2 x3
  unfold prefetchPage
  lift_lets
  intro y0
  clear_value y0
  intro y1
  refine OnlyM.useHave (show Keeps x0 y1.1 from ?_) (fun hy1 => ?_)
  · unfold y1
    refine Keeps.comp (engLoad_keeps _ _ _ _) ?_
    exact Keeps.refl _
  clear_value y1
  refine Keeps.ite1 ?_ ?_
  · refine Keeps.pair ?_
    refine Keeps.comp (Keeps.of (bump_only _ _ _ _) (by rfl)) ?_
    refine Keeps.comp (Keeps.of (setPte_only _ _ _ _) (by rfl)) ?_
    refine Keeps.comp (Keeps.of (cavWrite_only _ _ _) (by rfl)) ?_
    assumption
  · refine Keeps.pair ?_
    assumption

theorem prefetchSeq_keeps : ∀ x0 x1 x2, Keeps x0 (prefetchSeq x0 x1 x2).1 := by
  intro x0 x1 x2
  unfold prefetchSeq
  lift_lets
  intro y0
  clear_value y0
  intro y1
  clear_value y1
  intro y2
  refine OnlyM.useHave (show Keeps x0 y2.1 from ?_) (fun hy2 => ?_)
  · unfold y2
    refine Keeps.foldl1 ?_ (fun _ _ _ => ?_)
    · refine Keeps.pair ?_
      exact Keeps.refl _
    · refine Keeps.ite1 ?_ ?_
      · refine Keeps.comp (prefetchPage_keeps _ _ _ _) ?_
        assumption
      · assumption
  clear_value y2
  intro y3
  clear_value y3
  refine Keeps.ite1 ?_ ?_
  · refine Keeps.pair ?_
    refine Keeps.comp (Keeps.of (setSeq_only _ _ _ _) (by rfl)) ?_
    assumption
  · refine Keeps.ite1 ?_ ?_
    · refine Keeps.pair ?_
      refine Keeps.comp (Keeps.of (setSeq_only _ _ _ _) (by rfl)) ?_
      assumption
    · refine Keeps.pair ?_
      assumption

theorem bringBack_keeps : ∀ x0 x1 x2, Keeps x0 (bringBack x0 x1 x2).1 := by
  intro x0 x1 x2
  unfold bringBack
  refine Keeps.foldl1 ?_ (fun _ _ _ => ?_)
  · refine Keeps.pair ?_
    exact Keeps.refl _
  · refine Keeps.ite1 ?_ ?_
    · refine Keeps.comp (prefetchSeq_keeps _ _ _) ?_
      assumption
    · assumption

theorem countLine_keeps : ∀ x0 x1 x2, Keeps x0 (countLine x0 x1 x2) := by
  intro x0 x1 x2
  unfold countLine
  split
  · refine Keeps.comp (keeps_mem _ _ ?_) ?_
    · exact ⟨rfl, rfl⟩
    · exact Keeps.refl _
  · refine Keeps.comp (keeps_mem _ _ ?_) ?_
    · exact ⟨rfl, rfl⟩
    · exact Keeps.refl _
  · refine Keeps.comp (keeps_mem _ _ ?_) ?_
    · exact ⟨rfl, rfl⟩
    · exact Keeps.refl _
  · exact Keeps.refl _

theorem postStore_keeps : ∀ x0 x1 x2 x3 x4, Keeps x0 (postStore x0 x1 x2 x3 x4).1 := by
  intro x0 x1 x2 x3 x4
  unfold postStore
  lift_lets
  intro y0
  refine OnlyM.useHave (show Keeps x0 y0 from ?_) (fun hy0 => ?_)
  · unfold y0
    refine Keeps.comp (countLine_keeps _ _ _) ?_
    exact Keeps.refl _
  clear_value y0
  intro y1
  split
  · refine Keeps.pair ?_
    refine Keeps.comp (fabFault_keeps _ _) ?_
    assumption
  · refine Keeps.pair ?_
    refine Keeps.comp (keeps_mem _ _ ?_) ?_
    · exact ⟨rfl, rfl⟩
    · assumption

theorem spillPage_keeps : ∀ x0 x1 x2 x3, Keeps x0 (spillPage x0 x1 x2 x3) := by
  intro x0 x1 x2 x3
  unfold spillPage
  lift_lets
  intro y0
  clear_value y0
  intro y1
  refine OnlyM.useHave (show Keeps x0 y1.1 from ?_) (fun hy1 => ?_)
  · unfold y1
    refine Keeps.foldl1 ?_ (fun _ _ _ => ?_)
    · refine Keeps.pair ?_
      exact Keeps.refl _
    · lift_lets
      intro y2
      refine OnlyM.useHave (show Keeps x0 y2.1 from ?_) (fun hy2 => ?_)
      · unfold y2
        refine Keeps.comp (postStore_keeps _ _ _ _ _) ?_
        assumption
      clear_value y2
      refine Keeps.pair ?_
      assumption
  clear_value y1
  refine Keeps.ite ?_ ?_
  · refine Keeps.comp (Keeps.of (setPte_only _ _ _ _) (by rfl)) ?_
    assumption
  · assumption

theorem spillVictim_keeps : ∀ x0 x1 x2, Keeps x0 (spillVictim x0 x1 x2) := by
  intro x0 x1 x2
  unfold spillVictim
  lift_lets
  intro y0
  clear_value y0
  intro y1
  clear_value y1
  refine Keeps.ite ?_ ?_
  · refine Keeps.comp (Keeps.of (setSeq_only _ _ _ _) (by rfl)) ?_
    exact Keeps.refl _
  · refine Keeps.ite ?_ ?_
    · exact Keeps.refl _
    · refine Keeps.foldl ?_ (fun _ _ _ => ?_)
      · exact Keeps.refl _
      · refine Keeps.comp (spillPage_keeps _ _ _ _) ?_
        assumption

theorem makeRoom_keeps : ∀ x0 x1 x2 x3, Keeps x0 (makeRoom x0 x1 x2 x3) := by
  intro x0 x1 x2 x3
  induction x3 generalizing x0 with
  | nil => exact Keeps.refl _
  | cons q t ih =>
    unfold makeRoom
    refine Keeps.ite (Keeps.refl _) ?_
    refine Keeps.comp (ih _) ?_
    refine Keeps.ite ?_ ?_
    · exact Keeps.of (dropVictim_only _ _ _) (by rfl)
    · exact spillVictim_keeps _ _ _

theorem kvTakeFrames_keeps : ∀ x0 x1 x2 x3, Keeps x0 (kvTakeFrames x0 x1 x2 x3).1 := by
  intro x0 x1 x2 x3
  unfold kvTakeFrames
  lift_lets
  intro y0
  clear_value y0
  intro y1
  clear_value y1
  intro y2
  clear_value y2
  intro y3
  clear_value y3
  intro y4
  refine OnlyM.useHave (show Keeps x0 y4 from ?_) (fun hy4 => ?_)
  · unfold y4
    refine Keeps.comp (makeRoom_keeps _ _ _ _) ?_
    exact Keeps.refl _
  clear_value y4
  intro y5
  refine OnlyM.useHave (show Keeps x0 y5.1 from ?_) (fun hy5 => ?_)
  · unfold y5
    refine Keeps.ite1 ?_ ?_
    · refine Keeps.comp (bringBack_keeps _ _ _) ?_
      assumption
    · refine Keeps.pair ?_
      assumption
  clear_value y5
  intro y6
  clear_value y6
  intro y7
  refine OnlyM.useHave (show Keeps x0 y7 from ?_) (fun hy7 => ?_)
  · unfold y7
    refine Keeps.foldl ?_ (fun _ _ _ => ?_)
    · assumption
    · lift_lets
      intro y8
      clear_value y8
      refine Keeps.comp (Keeps.of (setPte_only _ _ _ _) (by rfl)) ?_
      assumption
  clear_value y7
  intro y9
  clear_value y9
  intro y10
  clear_value y10
  refine Keeps.ite1 ?_ ?_
  · refine Keeps.pair ?_
    exact Keeps.refl _
  · refine Keeps.ite1 ?_ ?_
    · refine Keeps.pair ?_
      assumption
    · refine Keeps.ite1 ?_ ?_
      · refine Keeps.pair ?_
        assumption
      · refine Keeps.pair ?_
        refine Keeps.comp (Keeps.of (upd_kv _ _) (by rfl)) ?_
        assumption

theorem kvRetry_keeps : ∀ x0 x1, Keeps x0 (kvRetry x0 x1) := by
  intro x0 x1
  unfold kvRetry
  refine Keeps.foldl ?_ (fun _ _ _ => ?_)
  · exact Keeps.refl _
  · split
    · split
      · refine Keeps.ite ?_ ?_
        · lift_lets
          intro y0
          refine OnlyM.useHave (show Keeps x0 y0.1 from ?_) (fun hy0 => ?_)
          · unfold y0
            refine Keeps.comp (kvTakeFrames_keeps _ _ _ _) ?_
            assumption
          clear_value y0
          split
          · refine Keeps.comp (Keeps.of (setJob_only _ _ _) (by rfl)) ?_
            assumption
          · refine Keeps.comp (Keeps.of (setJob_only _ _ _) (by rfl)) ?_
            assumption
          · assumption
        · assumption
      · assumption
    · assumption

theorem imsicWrite_keeps : ∀ x0 x1 x2 x3, Keeps x0 (imsicWrite x0 x1 x2 x3) := by
  intro x0 x1 x2 x3
  unfold imsicWrite
  refine Keeps.ite ?_ ?_
  · refine Keeps.comp (imsicSet_keeps _ _ _) ?_
    exact Keeps.refl _
  · refine Keeps.ite ?_ ?_
    · refine Keeps.comp (imsicSet_keeps _ _ _) ?_
      exact Keeps.refl _
    · exact Keeps.refl _

theorem msiWrite_keeps : ∀ x0 x1 x2, Keeps x0 (msiWrite x0 x1 x2) := by
  intro x0 x1 x2
  unfold msiWrite
  split
  · refine Keeps.comp (imsicWrite_keeps _ _ _ _) ?_
    exact Keeps.refl _
  · exact Keeps.refl _

theorem writeRecord_keeps : ∀ x0 x1 x2 x3 x4, Keeps x0 (writeRecord x0 x1 x2 x3 x4) := by
  intro x0 x1 x2 x3 x4
  unfold writeRecord
  lift_lets
  intro y0
  clear_value y0
  intro y1
  clear_value y1
  intro y2
  refine OnlyM.useHave (show Keeps x0 y2.1 from ?_) (fun hy2 => ?_)
  · unfold y2
    refine Keeps.comp (engStore_keeps _ _ _ _) ?_
    exact Keeps.refl _
  clear_value y2
  intro y3
  refine OnlyM.useHave (show Keeps x0 y3 from ?_) (fun hy3 => ?_)
  · unfold y3
    refine Keeps.comp (Keeps.of (setReg_only _ _ _) (by rfl)) ?_
    assumption
  clear_value y3
  intro y4
  clear_value y4
  refine Keeps.ite ?_ ?_
  · refine Keeps.comp (Keeps.of (bufFault_only _ _) (by rfl)) ?_
    assumption
  · refine Keeps.ite ?_ ?_
    · refine Keeps.comp (msiWrite_keeps _ _ _) ?_
      refine Keeps.comp (Keeps.of (upd_gal _ _) (by rfl)) ?_
      assumption
    · assumption

theorem completeJob_keeps : ∀ x0 x1 x2 x3, Keeps x0 (completeJob x0 x1 x2 x3) := by
  intro x0 x1 x2 x3
  unfold completeJob
  split
  · exact Keeps.refl _
  · lift_lets
    intro y0
    clear_value y0
    intro y1
    refine OnlyM.useHave (show Keeps x0 y1.1 from ?_) (fun hy1 => ?_)
    · unfold y1
      refine Keeps.ite1 ?_ ?_
      · refine Keeps.comp (Keeps.of (emitResult_only _ _ _) (by rfl)) ?_
        exact Keeps.refl _
      · refine Keeps.pair ?_
        exact Keeps.refl _
    clear_value y1
    intro y2
    refine OnlyM.useHave (show Keeps x0 y2 from ?_) (fun hy2 => ?_)
    · unfold y2
      refine Keeps.comp (Keeps.of (kvEnd_only _ _ _ _) (by rfl)) ?_
      assumption
    clear_value y2
    intro y3
    refine OnlyM.useHave (show Keeps x0 y3 from ?_) (fun hy3 => ?_)
    · unfold y3
      refine Keeps.ite ?_ ?_
      · refine Keeps.comp (Keeps.of (ropeSend_only _ _ _) (by rfl)) ?_
        assumption
      · assumption
    clear_value y3
    intro y4
    refine OnlyM.useHave (show Keeps x0 y4 from ?_) (fun hy4 => ?_)
    · unfold y4
      refine Keeps.comp (Keeps.of (waitReleases_only _ _) (by rfl)) ?_
      assumption
    clear_value y4
    intro y5
    refine OnlyM.useHave (show Keeps x0 y5 from ?_) (fun hy5 => ?_)
    · unfold y5
      refine Keeps.comp (Keeps.of (account_only _ _) (by rfl)) ?_
      assumption
    clear_value y5
    intro y6
    clear_value y6
    intro y7
    refine OnlyM.useHave (show Keeps x0 y7 from ?_) (fun hy7 => ?_)
    · unfold y7
      refine Keeps.ite ?_ ?_
      · refine Keeps.comp (Keeps.of (bump_only _ _ _ _) (by rfl)) ?_
        assumption
      · assumption
    clear_value y7
    intro y8
    refine OnlyM.useHave (show Keeps x0 y8 from ?_) (fun hy8 => ?_)
    · unfold y8
      refine Keeps.comp (writeRecord_keeps _ _ _ _ _) ?_
      assumption
    clear_value y8
    intro y9
    refine OnlyM.useHave (show Keeps x0 y9 from ?_) (fun hy9 => ?_)
    · unfold y9
      refine Keeps.comp (Keeps.of (freeCores_only _ _) (by rfl)) ?_
      assumption
    clear_value y9
    intro y10
    clear_value y10
    intro y11
    refine OnlyM.useHave (show Keeps x0 y11 from ?_) (fun hy11 => ?_)
    · unfold y11
      refine Keeps.ite ?_ ?_
      · refine Keeps.comp (Keeps.of (setSlot_only _ _ _) (by rfl)) ?_
        assumption
      · assumption
    clear_value y11
    intro y12
    clear_value y12
    intro y13
    refine OnlyM.useHave (show Keeps x0 y13 from ?_) (fun hy13 => ?_)
    · unfold y13
      refine Keeps.comp (Keeps.of (setQue_only _ _ _) (by rfl)) ?_
      assumption
    clear_value y13
    split
    · refine Keeps.comp (kvRetry_keeps _ _) ?_
      assumption
    · assumption

theorem kvRelease_keeps : ∀ x0 x1 x2 x3, Keeps x0 (kvRelease x0 x1 x2 x3).1 := by
  intro x0 x1 x2 x3
  unfold kvRelease
  lift_lets
  intro y0
  clear_value y0
  intro y1
  refine OnlyM.useHave (show Keeps x0 y1 from ?_) (fun hy1 => ?_)
  · unfold y1
    refine Keeps.foldl ?_ (fun _ _ _ => ?_)
    · exact Keeps.refl _
    · lift_lets
      intro y2
      clear_value y2
      intro y3
      clear_value y3
      intro y4
      refine OnlyM.useHave (show Keeps x0 y4 from ?_) (fun hy4 => ?_)
      · unfold y4
        refine Keeps.comp (Keeps.of (setSeq_only _ _ _ _) (by rfl)) ?_
        assumption
      clear_value y4
      refine Keeps.comp (Keeps.of (setBatchByte_only _ _ _ _) (by rfl)) ?_
      assumption
  clear_value y1
  intro y5
  clear_value y5
  intro y6
  clear_value y6
  refine Keeps.ite1 ?_ ?_
  · refine Keeps.pair ?_
    exact Keeps.refl _
  · refine Keeps.comp (kvTakeFrames_keeps _ _ _ _) ?_
    refine Keeps.comp (Keeps.of (upd_kv _ _) (by rfl)) ?_
    assumption

theorem releaseNow_keeps : ∀ x0 x1 x2, Keeps x0 (releaseNow x0 x1 x2) := by
  intro x0 x1 x2
  unfold releaseNow
  lift_lets
  intro y0
  refine OnlyM.useHave (show Keeps x0 y0 from ?_) (fun hy0 => ?_)
  · unfold y0
    refine Keeps.comp (Keeps.of (setJob_only _ _ _) (by rfl)) ?_
    exact Keeps.refl _
  clear_value y0
  split
  · assumption
  · lift_lets
    intro y1
    refine OnlyM.useHave (show Keeps x0 y1.1 from ?_) (fun hy1 => ?_)
    · unfold y1
      refine Keeps.comp (kvRelease_keeps _ _ _ _) ?_
      assumption
    clear_value y1
    intro y2
    clear_value y2
    refine Keeps.ite ?_ ?_
    · refine Keeps.comp (completeJob_keeps _ _ _ _) ?_
      assumption
    · split
      · assumption
      · refine Keeps.comp (Keeps.of (setQue_only _ _ _) (by rfl)) ?_
        assumption
      · refine Keeps.comp (completeJob_keeps _ _ _ _) ?_
        assumption
      · refine Keeps.comp (completeJob_keeps _ _ _ _) ?_
        assumption

theorem jobAdvance_keeps : ∀ x0 x1, Keeps x0 (jobAdvance x0 x1) := by
  intro x0 x1
  unfold jobAdvance
  split
  · refine Keeps.ite ?_ ?_
    · refine Keeps.comp (releaseNow_keeps _ _ _) ?_
      exact Keeps.refl _
    · exact Keeps.refl _
  · exact Keeps.refl _

theorem jobRelease_keeps : ∀ x0 x1, Keeps x0 (jobRelease x0 x1) := by
  intro x0 x1
  unfold jobRelease
  lift_lets
  intro y0
  clear_value y0
  split
  · refine Keeps.ite ?_ ?_
    · refine Keeps.comp (jobAdvance_keeps _ _) ?_
      refine Keeps.comp (Keeps.of (setJob_only _ _ _) (by rfl)) ?_
      exact Keeps.refl _
    · refine Keeps.comp (Keeps.of (setQue_only _ _ _) (by rfl)) ?_
      exact Keeps.refl _
  · refine Keeps.comp (Keeps.of (setQue_only _ _ _) (by rfl)) ?_
    exact Keeps.refl _

theorem posAct_keeps : ∀ x0 x1 x2 x3 x4 x5, Keeps x0 (posAct x0 x1 x2 x3 x4 x5) := by
  intro x0 x1 x2 x3 x4 x5
  unfold posAct
  lift_lets
  intro y0
  clear_value y0
  intro y1
  clear_value y1
  intro y2
  clear_value y2
  intro y3
  refine OnlyM.useHave (show Keeps x0 y3 from ?_) (fun hy3 => ?_)
  · unfold y3
    refine Keeps.comp (Keeps.of (pulseTimed_only _ _ _) (by rfl)) ?_
    exact Keeps.refl _
  clear_value y3
  refine Keeps.ite ?_ ?_
  · refine Keeps.ite ?_ ?_
    · exact Keeps.refl _
    · refine Keeps.comp (Keeps.of (pulseCntAct_only _ _ _ _) (by rfl)) ?_
      exact Keeps.refl _
  · refine Keeps.ite ?_ ?_
    · refine Keeps.ite ?_ ?_
      · refine Keeps.comp (Keeps.of (rephase_only _ _) (by rfl)) ?_
        exact Keeps.refl _
      · exact Keeps.refl _
    · refine Keeps.ite ?_ ?_
      · refine Keeps.comp (Keeps.of (eventMsg_only _ _ _ _) (by rfl)) ?_
        exact Keeps.refl _
      · refine Keeps.ite ?_ ?_
        · refine Keeps.ite ?_ ?_
          · exact Keeps.refl _
          · refine Keeps.ite ?_ ?_
            · refine Keeps.comp (Keeps.of (trigPush_only _ _ _) (by rfl)) ?_
              assumption
            · assumption
        · refine Keeps.ite ?_ ?_
          · refine Keeps.ite ?_ ?_
            · exact Keeps.refl _
            · refine Keeps.comp (Keeps.of (pulseTimed_only _ _ _) (by rfl)) ?_
              exact Keeps.refl _
          · refine Keeps.ite ?_ ?_
            · refine Keeps.comp (jobRelease_keeps _ _) ?_
              exact Keeps.refl _
            · refine Keeps.ite ?_ ?_
              · refine Keeps.comp (graphStartEvent_keeps _ _) ?_
                exact Keeps.refl _
              · refine Keeps.comp (Keeps.of (commonAct_only _ _ _ _ _ _) (by rfl)) ?_
                exact Keeps.refl _

theorem posRec_keeps : ∀ x0 x1 x2 x3 x4 x5 x6, Keeps x0 (posRec x0 x1 x2 x3 x4 x5 x6) := by
  intro x0 x1 x2 x3 x4 x5 x6
  unfold posRec
  lift_lets
  intro y0
  clear_value y0
  split
  · refine Keeps.comp (logField_keeps _ _) ?_
    exact Keeps.refl _
  · refine Keeps.comp (logHost_keeps _ _) ?_
    exact Keeps.refl _

theorem fire_keeps : ∀ x0 x1 x2 x3 x4, Keeps x0 (fire x0 x1 x2 x3 x4) := by
  intro x0 x1 x2 x3 x4
  unfold fire
  lift_lets
  intro y0
  clear_value y0
  intro y1
  clear_value y1
  intro y2
  refine OnlyM.useHave (show Keeps x0 y2 from ?_) (fun hy2 => ?_)
  · unfold y2
    refine Keeps.comp (Keeps.of (setEntry_only _ _ _ _) (by rfl)) ?_
    exact Keeps.refl _
  clear_value y2
  intro y3
  refine OnlyM.useHave (show Keeps x0 y3 from ?_) (fun hy3 => ?_)
  · unfold y3
    refine Keeps.comp (posAct_keeps _ _ _ _ _ _) ?_
    assumption
  clear_value y3
  intro y4
  refine OnlyM.useHave (show Keeps x0 y4 from ?_) (fun hy4 => ?_)
  · unfold y4
    split
    · refine Keeps.comp (Keeps.of (fireReportOf_only _ _) (by rfl)) ?_
      assumption
    · refine Keeps.comp (Keeps.of (noteDrove_only _ _) (by rfl)) ?_
      assumption
  clear_value y4
  intro y5
  refine OnlyM.useHave (show Keeps x0 y5 from ?_) (fun hy5 => ?_)
  · unfold y5
    split
    · refine Keeps.comp (Keeps.of (bump_only _ _ _ _) (by rfl)) ?_
      assumption
    · assumption
  clear_value y5
  refine Keeps.ite ?_ ?_
  · refine Keeps.comp (posRec_keeps _ _ _ _ _ _ _) ?_
    assumption
  · assumption

theorem miss_keeps : ∀ x0 x1 x2 x3, Keeps x0 (miss x0 x1 x2 x3) := by
  intro x0 x1 x2 x3
  unfold miss
  lift_lets
  intro y0
  clear_value y0
  intro y1
  refine OnlyM.useHave (show Keeps x0 y1 from ?_) (fun hy1 => ?_)
  · unfold y1
    refine Keeps.comp (Keeps.of (setEntry_only _ _ _ _) (by rfl)) ?_
    exact Keeps.refl _
  clear_value y1
  intro y2
  refine OnlyM.useHave (show Keeps x0 y2 from ?_) (fun hy2 => ?_)
  · unfold y2
    split
    · refine Keeps.comp (Keeps.of (bump_only _ _ _ _) (by rfl)) ?_
      assumption
    · assumption
  clear_value y2
  refine Keeps.comp (posRec_keeps _ _ _ _ _ _ _) ?_
  assumption

theorem lateOrMiss_keeps : ∀ x0 x1 x2 x3, Keeps x0 (lateOrMiss x0 x1 x2 x3) := by
  intro x0 x1 x2 x3
  unfold lateOrMiss
  refine Keeps.ite ?_ ?_
  · refine Keeps.comp (fire_keeps _ _ _ _ _) ?_
    exact Keeps.refl _
  · refine Keeps.comp (miss_keeps _ _ _ _) ?_
    exact Keeps.refl _

theorem judgeArmed_keeps : ∀ x0 x1 x2, Keeps x0 (judgeArmed x0 x1 x2) := by
  intro x0 x1 x2
  unfold judgeArmed
  lift_lets
  intro y0
  clear_value y0
  intro y1
  refine OnlyM.useHave (show Keeps x0 y1 from ?_) (fun hy1 => ?_)
  · unfold y1
    refine Keeps.comp (Keeps.of (forgetPassed_only _ _ _) (by rfl)) ?_
    exact Keeps.refl _
  clear_value y1
  intro y2
  refine OnlyM.useHave (show Keeps x0 y2 from ?_) (fun hy2 => ?_)
  · unfold y2
    refine Keeps.comp (Keeps.of (setEntry_only _ _ _ _) (by rfl)) ?_
    assumption
  clear_value y2
  refine Keeps.ite ?_ ?_
  · assumption
  · refine Keeps.ite ?_ ?_
    · refine Keeps.ite ?_ ?_
      · refine Keeps.comp (Keeps.of (notePassed_only _ _ _ _) (by rfl)) ?_
        assumption
      · assumption
    · refine Keeps.ite ?_ ?_
      · refine Keeps.comp (lateOrMiss_keeps _ _ _ _) ?_
        assumption
      · assumption

theorem fieldEntrySet_keeps : ∀ x0 x1 x2, Keeps x0 (fieldEntrySet x0 x1 x2) := by
  intro x0 x1 x2
  unfold fieldEntrySet
  refine Keeps.comp (judgeArmed_keeps _ _ _) ?_
  refine Keeps.comp (Keeps.of (setEntry_only _ _ _ _) (by rfl)) ?_
  exact Keeps.refl _

theorem entryWrite_keeps : ∀ x0 x1 x2 x3, Keeps x0 (entryWrite x0 x1 x2 x3).1 := by
  intro x0 x1 x2 x3
  unfold entryWrite
  split
  · refine Keeps.ite1 ?_ ?_
    · refine Keeps.pair ?_
      exact Keeps.refl _
    · refine Keeps.ite1 ?_ ?_
      · refine Keeps.pair ?_
        exact Keeps.refl _
      · refine Keeps.pair ?_
        refine Keeps.comp (fieldEntrySet_keeps _ _ _) ?_
        exact Keeps.refl _
  · refine Keeps.ite1 ?_ ?_
    · refine Keeps.pair ?_
      exact Keeps.refl _
    · refine Keeps.ite1 ?_ ?_
      · refine Keeps.pair ?_
        refine Keeps.comp (Keeps.of (hostEntrySet_only _ _ _) (by rfl)) ?_
        exact Keeps.refl _
      · refine Keeps.pair ?_
        exact Keeps.refl _

theorem setFclk_keeps : ∀ x0 x1, Keeps x0 (setFclk x0 x1) := by
  intro x0 x1
  unfold setFclk
  lift_lets
  intro y0
  clear_value y0
  intro y1
  clear_value y1
  intro y2
  clear_value y2
  intro y3
  refine OnlyM.useHave (show Keeps x0 y3 from ?_) (fun hy3 => ?_)
  · unfold y3
    refine Keeps.comp (Keeps.of (upd_fclk _ _) (by rfl)) ?_
    exact Keeps.refl _
  clear_value y3
  intro y4
  refine OnlyM.useHave (show Keeps x0 y4 from ?_) (fun hy4 => ?_)
  · unfold y4
    refine Keeps.ite ?_ ?_
    · assumption
    · refine Keeps.comp (Keeps.of (clockNoticeField_only _ _) (by rfl)) ?_
      assumption
  clear_value y4
  refine Keeps.ite ?_ ?_
  · assumption
  · refine Keeps.ite ?_ ?_
    · refine Keeps.comp (Keeps.of (emcy_only _ _ _ _) (by rfl)) ?_
      assumption
    · refine Keeps.ite ?_ ?_
      · refine Keeps.comp (startReaction_keeps _ _ _ _ _ _ _ _ _) ?_
        refine Keeps.comp (Keeps.of (emcy_only _ _ _ _) (by rfl)) ?_
        assumption
      · assumption

theorem setRole_keeps : ∀ x0 x1, Keeps x0 (setRole x0 x1) := by
  intro x0 x1
  unfold setRole
  refine Keeps.ite ?_ ?_
  · refine Keeps.comp (setFclk_keeps _ _) ?_
    exact Keeps.refl _
  · refine Keeps.ite ?_ ?_
    · refine Keeps.comp (setFclk_keeps _ _) ?_
      exact Keeps.refl _
    · exact Keeps.refl _

theorem timeFire_keeps : ∀ x0 x1 x2, Keeps x0 (timeFire x0 x1 x2) := by
  intro x0 x1 x2
  unfold timeFire
  lift_lets
  intro y0
  clear_value y0
  intro y1
  clear_value y1
  intro y2
  refine OnlyM.useHave (show Keeps x0 y2 from ?_) (fun hy2 => ?_)
  · unfold y2
    refine Keeps.comp (Keeps.of (setTimeEntry_only _ _ _) (by rfl)) ?_
    exact Keeps.refl _
  clear_value y2
  intro y3
  refine OnlyM.useHave (show Keeps x0 y3 from ?_) (fun hy3 => ?_)
  · unfold y3
    refine Keeps.ite ?_ ?_
    · refine Keeps.ite ?_ ?_
      · refine Keeps.comp (Keeps.of (rephase_only _ _) (by rfl)) ?_
        assumption
      · assumption
    · refine Keeps.ite ?_ ?_
      · refine Keeps.comp (Keeps.of (eventMsg_only _ _ _ _) (by rfl)) ?_
        assumption
      · refine Keeps.ite ?_ ?_
        · assumption
        · refine Keeps.comp (Keeps.of (commonAct_only _ _ _ _ _ _) (by rfl)) ?_
          assumption
  clear_value y3
  refine Keeps.ite ?_ ?_
  · refine Keeps.comp (posRec_keeps _ _ _ _ _ _ _) ?_
    assumption
  · assumption

theorem timeMiss_keeps : ∀ x0 x1, Keeps x0 (timeMiss x0 x1) := by
  intro x0 x1
  unfold timeMiss
  lift_lets
  intro y0
  clear_value y0
  intro y1
  refine OnlyM.useHave (show Keeps x0 y1 from ?_) (fun hy1 => ?_)
  · unfold y1
    refine Keeps.comp (Keeps.of (setTimeEntry_only _ _ _) (by rfl)) ?_
    exact Keeps.refl _
  clear_value y1
  refine Keeps.comp (posRec_keeps _ _ _ _ _ _ _) ?_
  assumption

theorem timeLateOrMiss_keeps : ∀ x0 x1, Keeps x0 (timeLateOrMiss x0 x1) := by
  intro x0 x1
  unfold timeLateOrMiss
  refine Keeps.ite ?_ ?_
  · refine Keeps.comp (timeFire_keeps _ _ _) ?_
    exact Keeps.refl _
  · refine Keeps.comp (timeMiss_keeps _ _) ?_
    exact Keeps.refl _

theorem timeEntrySet_keeps : ∀ x0 x1 x2, Keeps x0 (timeEntrySet x0 x1 x2) := by
  intro x0 x1 x2
  unfold timeEntrySet
  lift_lets
  intro y0
  clear_value y0
  intro y1
  refine OnlyM.useHave (show Keeps x0 y1 from ?_) (fun hy1 => ?_)
  · unfold y1
    refine Keeps.comp (Keeps.of (setTimeEntry_only _ _ _) (by rfl)) ?_
    exact Keeps.refl _
  clear_value y1
  refine Keeps.ite ?_ ?_
  · refine Keeps.comp (timeLateOrMiss_keeps _ _) ?_
    assumption
  · assumption

theorem timeEntryWrite_keeps : ∀ x0 x1 x2, Keeps x0 (timeEntryWrite x0 x1 x2).1 := by
  intro x0 x1 x2
  unfold timeEntryWrite
  refine Keeps.ite1 ?_ ?_
  · refine Keeps.pair ?_
    exact Keeps.refl _
  · refine Keeps.ite1 ?_ ?_
    · refine Keeps.pair ?_
      exact Keeps.refl _
    · refine Keeps.pair ?_
      refine Keeps.comp (timeEntrySet_keeps _ _ _) ?_
      exact Keeps.refl _

theorem applyValue_keeps : ∀ x0 x1 x2 x3, Keeps x0 (applyValue x0 x1 x2 x3).1 := by
  intro x0 x1 x2 x3
  unfold applyValue
  lift_lets
  intro y0
  clear_value y0
  intro y1
  refine OnlyM.useHave (show Keeps x0 y1 from ?_) (fun hy1 => ?_)
  · unfold y1
    refine Keeps.comp (Keeps.of (putObj_only _ _ _ _) (by rfl)) ?_
    exact Keeps.refl _
  clear_value y1
  refine Keeps.ite1 ?_ ?_
  · refine Keeps.comp (entryWrite_keeps _ _ _ _) ?_
    exact Keeps.refl _
  · refine Keeps.ite1 ?_ ?_
    · refine Keeps.comp (entryWrite_keeps _ _ _ _) ?_
      exact Keeps.refl _
    · refine Keeps.ite1 ?_ ?_
      · refine Keeps.comp (timeEntryWrite_keeps _ _ _) ?_
        exact Keeps.refl _
      · refine Keeps.ite1 ?_ ?_
        · refine Keeps.pair ?_
          refine Keeps.comp (setRole_keeps _ _) ?_
          assumption
        · refine Keeps.ite1 ?_ ?_
          · refine Keeps.comp (Keeps.of (queryWrite_only _ _) (by rfl)) ?_
            exact Keeps.refl _
          · refine Keeps.ite1 ?_ ?_
            · refine Keeps.pair ?_
              refine Keeps.comp (Keeps.of (conversionWrite_only _ _) (by rfl)) ?_
              exact Keeps.refl _
            · refine Keeps.ite1 ?_ ?_
              · refine Keeps.pair ?_
                refine Keeps.comp (Keeps.of (pushPtp_only _ _) (by rfl)) ?_
                assumption
              · refine Keeps.ite1 ?_ ?_
                · refine Keeps.ite1 ?_ ?_
                  · refine Keeps.pair ?_
                    exact Keeps.refl _
                  · refine Keeps.pair ?_
                    assumption
                · refine Keeps.ite1 ?_ ?_
                  · refine Keeps.comp (Keeps.of (overrideWrite_only _ _) (by rfl)) ?_
                    exact Keeps.refl _
                  · refine Keeps.ite1 ?_ ?_
                    · refine Keeps.comp (Keeps.of (powerWrite_only _ _) (by rfl)) ?_
                      exact Keeps.refl _
                    · refine Keeps.ite1 ?_ ?_
                      · refine Keeps.ite1 ?_ ?_
                        · refine Keeps.pair ?_
                          assumption
                        · refine Keeps.pair ?_
                          exact Keeps.refl _
                      · refine Keeps.ite1 ?_ ?_
                        · refine Keeps.ite1 ?_ ?_
                          · refine Keeps.pair ?_
                            assumption
                          · refine Keeps.pair ?_
                            exact Keeps.refl _
                        · refine Keeps.ite1 ?_ ?_
                          · refine Keeps.ite1 ?_ ?_
                            · refine Keeps.pair ?_
                              assumption
                            · refine Keeps.pair ?_
                              exact Keeps.refl _
                          · refine Keeps.ite1 ?_ ?_
                            · refine Keeps.pair ?_
                              refine Keeps.comp (controlword_keeps _ _ _) ?_
                              assumption
                            · refine Keeps.ite1 ?_ ?_
                              · refine Keeps.pair ?_
                                refine Keeps.comp (Keeps.of (modeSelect_only _ _) (by rfl)) ?_
                                assumption
                              · refine Keeps.ite1 ?_ ?_
                                · refine Keeps.pair ?_
                                  exact Keeps.refl _
                                · refine Keeps.pair ?_
                                  assumption

theorem fieldSwitch_keeps : ∀ x0 x1, Keeps x0 (fieldSwitch x0 x1) := by
  intro x0 x1
  unfold fieldSwitch
  lift_lets
  intro y0
  clear_value y0
  intro y1
  refine OnlyM.useHave (show Keeps x0 y1 from ?_) (fun hy1 => ?_)
  · unfold y1
    refine Keeps.foldl ?_ (fun _ _ _ => ?_)
    · exact Keeps.refl _
    · refine Keeps.comp (Keeps.of (putObj_only _ _ _ _) (by rfl)) ?_
      assumption
  clear_value y1
  refine Keeps.foldl ?_ (fun _ _ _ => ?_)
  · assumption
  · lift_lets
    intro y2
    clear_value y2
    refine Keeps.ite ?_ ?_
    · refine Keeps.comp (Keeps.of (upd_hMaster_hostPush _ _ _) (by rfl)) ?_
      assumption
    · refine Keeps.ite ?_ ?_
      · refine Keeps.comp (fieldEntrySet_keeps _ _ _) ?_
        assumption
      · refine Keeps.ite ?_ ?_
        · refine Keeps.comp (timeEntrySet_keeps _ _ _) ?_
          assumption
        · refine Keeps.comp (applyValue_keeps _ _ _ _) ?_
          assumption

theorem applySet_keeps : ∀ x0 x1 x2, Keeps x0 (applySet x0 x1 x2) := by
  intro x0 x1 x2
  unfold applySet
  lift_lets
  intro y0
  clear_value y0
  intro y1
  clear_value y1
  intro y2
  refine OnlyM.useHave (show Keeps x0 y2 from ?_) (fun hy2 => ?_)
  · unfold y2
    refine Keeps.comp (fieldSwitch_keeps _ _) ?_
    exact Keeps.refl _
  clear_value y2
  intro y3
  clear_value y3
  intro y4
  refine OnlyM.useHave (show Keeps x0 y4 from ?_) (fun hy4 => ?_)
  · unfold y4
    refine Keeps.comp (Keeps.of (setStg_only _ _ _) (by rfl)) ?_
    assumption
  clear_value y4
  intro y5
  refine OnlyM.useHave (show Keeps x0 y5 from ?_) (fun hy5 => ?_)
  · unfold y5
    refine Keeps.comp (Keeps.of (putN_only _ _ _ _) (by rfl)) ?_
    refine Keeps.comp (Keeps.of (upd_undo_keptHost _ _ _) (by rfl)) ?_
    assumption
  clear_value y5
  intro y6
  refine OnlyM.useHave (show Keeps x0 y6 from ?_) (fun hy6 => ?_)
  · unfold y6
    refine Keeps.ite ?_ ?_
    · refine Keeps.comp (Keeps.of (bump_only _ _ _ _) (by rfl)) ?_
      assumption
    · assumption
  clear_value y6
  refine Keeps.ite ?_ ?_
  · refine Keeps.comp (Keeps.of (stageFrame_only _ _ _ _ _ _) (by rfl)) ?_
    assumption
  · assumption

theorem applyDue_keeps : ∀ x0 x1, Keeps x0 (applyDue x0 x1) := by
  intro x0 x1
  unfold applyDue
  lift_lets
  intro y0
  clear_value y0
  refine Keeps.ite ?_ ?_
  · exact Keeps.refl _
  · split
    · refine Keeps.ite ?_ ?_
      · refine Keeps.comp (applySet_keeps _ _ _) ?_
        exact Keeps.refl _
      · exact Keeps.refl _
    · split
      · refine Keeps.ite ?_ ?_
        · exact Keeps.refl _
        · refine Keeps.comp (applySet_keeps _ _ _) ?_
          exact Keeps.refl _
      · exact Keeps.refl _
    · exact Keeps.refl _

theorem becomeArmed_keeps : ∀ x0 x1 x2, Keeps x0 (becomeArmed x0 x1 x2) := by
  intro x0 x1 x2
  unfold becomeArmed
  lift_lets
  intro y0
  clear_value y0
  intro y1
  refine OnlyM.useHave (show Keeps x0 y1 from ?_) (fun hy1 => ?_)
  · unfold y1
    refine Keeps.comp (Keeps.of (setAnswer_only _ _ _) (by rfl)) ?_
    refine Keeps.comp (Keeps.of (setStg_only _ _ _) (by rfl)) ?_
    exact Keeps.refl _
  clear_value y1
  intro y2
  clear_value y2
  split
  · refine Keeps.ite ?_ ?_
    · refine Keeps.comp (applySet_keeps _ _ _) ?_
      assumption
    · assumption
  · refine Keeps.ite ?_ ?_
    · assumption
    · refine Keeps.ite ?_ ?_
      · refine Keeps.comp (Keeps.of (setStg_only _ _ _) (by rfl)) ?_
        assumption
      · refine Keeps.comp (applySet_keeps _ _ _) ?_
        assumption

theorem armSet_keeps : ∀ x0 x1 x2 x3, Keeps x0 (armSet x0 x1 x2 x3) := by
  intro x0 x1 x2 x3
  unfold armSet
  lift_lets
  intro y0
  intro y1
  clear_value y1
  split
  · unfold y0
    dsimp -proj only
    refine Keeps.comp (Keeps.of (setAnswer_only _ _ _) (by rfl)) ?_
    refine Keeps.comp (Keeps.of (setStg_only _ _ _) (by rfl)) ?_
    exact Keeps.refl _
  · refine Keeps.ite ?_ ?_
    · unfold y0
      dsimp -proj only
      refine Keeps.comp (Keeps.of (setAnswer_only _ _ _) (by rfl)) ?_
      refine Keeps.comp (Keeps.of (setStg_only _ _ _) (by rfl)) ?_
      exact Keeps.refl _
    · refine Keeps.ite ?_ ?_
      · refine Keeps.comp (Keeps.of (stageAsk_only _ _ _) (by rfl)) ?_
        refine Keeps.comp (Keeps.of (setStg_only _ _ _) (by rfl)) ?_
        exact Keeps.refl _
      · refine Keeps.comp (becomeArmed_keeps _ _ _) ?_
        exact Keeps.refl _

theorem takeFields_keeps : ∀ x0 x1 x2, Keeps x0 (takeFields x0 x1 x2) := by
  intro x0 x1 x2
  unfold takeFields
  lift_lets
  intro y0
  refine OnlyM.useHave (show Keeps x0 y0 from ?_) (fun hy0 => ?_)
  · unfold y0
    split
    · refine Keeps.comp (acked_keeps _ _ _) ?_
      exact Keeps.refl _
    · exact Keeps.refl _
  clear_value y0
  refine Keeps.ite ?_ ?_
  · assumption
  · refine Keeps.comp (Keeps.of (creditsBack_only _ _ _ _) (by rfl)) ?_
    assumption

theorem classIn_keeps : ∀ x0 x1 x2 x3, Keeps x0 (classIn x0 x1 x2 x3) := by
  intro x0 x1 x2 x3
  unfold classIn
  lift_lets
  intro y0
  clear_value y0
  intro y1
  clear_value y1
  intro y2
  refine OnlyM.useHave (show Keeps x0 y2 from ?_) (fun hy2 => ?_)
  · unfold y2
    refine Keeps.comp (Keeps.of (setEnd_only _ _ _) (by rfl)) ?_
    exact Keeps.refl _
  clear_value y2
  intro y3
  refine OnlyM.useHave (show Keeps x0 y3 from ?_) (fun hy3 => ?_)
  · unfold y3
    refine Keeps.comp (takeFields_keeps _ _ _) ?_
    assumption
  clear_value y3
  intro y4
  refine OnlyM.useHave (show Keeps x0 y4 from ?_) (fun hy4 => ?_)
  · unfold y4
    refine Keeps.ite ?_ ?_
    · refine Keeps.comp (Keeps.of (bump_only _ _ _ _) (by rfl)) ?_
      refine Keeps.comp (Keeps.of (dispatched_only _ _ _) (by rfl)) ?_
      assumption
    · refine Keeps.comp (Keeps.of (deliver_only _ _ _) (by rfl)) ?_
      assumption
  clear_value y4
  refine Keeps.ite ?_ ?_
  · exact Keeps.refl _
  · refine Keeps.ite ?_ ?_
    · refine Keeps.comp (Keeps.of (crcError_only _ _) (by rfl)) ?_
      exact Keeps.refl _
    · refine Keeps.ite ?_ ?_
      · refine Keeps.comp (Keeps.of (replay_only _ _) (by rfl)) ?_
        assumption
      · assumption

theorem linkIn_keeps : ∀ x0 x1 x2, Keeps x0 (linkIn x0 x1 x2) := by
  intro x0 x1 x2
  unfold linkIn
  lift_lets
  intro y0
  refine OnlyM.useHave (show Keeps x0 y0 from ?_) (fun hy0 => ?_)
  · unfold y0
    refine Keeps.comp (takeFields_keeps _ _ _) ?_
    exact Keeps.refl _
  clear_value y0
  refine Keeps.ite ?_ ?_
  · refine Keeps.comp (Keeps.of (replay_only _ _) (by rfl)) ?_
    assumption
  · assumption

theorem consentGone_keeps : ∀ x0, Keeps x0 (consentGone x0) := by
  intro x0
  unfold consentGone
  lift_lets
  intro y0
  clear_value y0
  intro y1
  refine OnlyM.useHave (show Keeps x0 y1 from ?_) (fun hy1 => ?_)
  · unfold y1
    refine Keeps.comp (Keeps.of (upd_pwr _ _) (by rfl)) ?_
    exact Keeps.refl _
  clear_value y1
  split
  · exact Keeps.refl _
  · refine Keeps.comp (portDone_keeps _ _ _ _ _ _ _ _ _ _) ?_
    assumption
  · assumption

theorem portWaitsAbort_keeps : ∀ x0, Keeps x0 (portWaitsAbort x0) := by
  intro x0
  unfold portWaitsAbort
  refine Keeps.foldl ?_ (fun _ _ _ => ?_)
  · refine Keeps.comp (Keeps.of (upd_portWaits _ _) (by rfl)) ?_
    exact Keeps.refl _
  · refine Keeps.comp (waitDone_keeps _ _ _ _) ?_
    assumption

theorem failHostFrames_keeps : ∀ x0 x1, Keeps x0 (failHostFrames x0 x1) := by
  intro x0 x1
  unfold failHostFrames
  refine Keeps.comp (consentGone_keeps _) ?_
  refine Keeps.comp (portWaitsAbort_keeps _) ?_
  refine Keeps.comp (Keeps.of (upd_gal _ _) (by rfl)) ?_
  exact Keeps.refl _

theorem d2hEvent_keeps : ∀ x0 x1, Keeps x0 (d2hEvent x0 x1) := by
  intro x0 x1
  unfold d2hEvent
  refine Keeps.ite ?_ ?_
  · exact Keeps.refl _
  · refine Keeps.ite ?_ ?_
    · refine Keeps.comp (d2hPut_keeps _ _) ?_
      exact Keeps.refl _
    · refine Keeps.comp (Keeps.of (setReg_only _ _ _) (by rfl)) ?_
      exact Keeps.refl _

theorem linkNotice_keeps : ∀ x0 x1, Keeps x0 (linkNotice x0 x1) := by
  intro x0 x1
  unfold linkNotice
  refine Keeps.comp (d2hEvent_keeps _ _) ?_
  exact Keeps.refl _

theorem linkDown_keeps : ∀ x0, Keeps x0 (linkDown x0) := by
  intro x0
  unfold linkDown
  refine Keeps.ite ?_ ?_
  · exact Keeps.refl _
  · lift_lets
    intro y0
    clear_value y0
    intro y1
    clear_value y1
    intro y2
    refine OnlyM.useHave (show Keeps x0 y2 from ?_) (fun hy2 => ?_)
    · unfold y2
      refine Keeps.comp (Keeps.of (upd_fend_hend_link _ _ _ _) (by rfl)) ?_
      exact Keeps.refl _
    clear_value y2
    refine Keeps.comp (linkNotice_keeps _ _) ?_
    refine Keeps.comp (failHostFrames_keeps _ _) ?_
    assumption

theorem pairsFault_keeps : ∀ x0 x1 x2, Keeps x0 (pairsFault x0 x1 x2) := by
  intro x0 x1 x2
  unfold pairsFault
  lift_lets
  intro y0
  clear_value y0
  intro y1
  refine OnlyM.useHave (show Keeps x0 y1 from ?_) (fun hy1 => ?_)
  · unfold y1
    refine Keeps.comp (Keeps.of (upd_link _ _) (by rfl)) ?_
    exact Keeps.refl _
  refine Keeps.ite ?_ ?_
  · refine Keeps.comp (linkDown_keeps _) ?_
    assumption
  · refine Keeps.comp (Keeps.of (retrain_only _ _ _ _) (by rfl)) ?_
    assumption

theorem retrainAsked_keeps : ∀ x0 x1, Keeps x0 (retrainAsked x0 x1) := by
  intro x0 x1
  unfold retrainAsked
  refine Keeps.ite ?_ ?_
  · refine Keeps.comp (pairsFault_keeps _ _ _) ?_
    exact Keeps.refl _
  · refine Keeps.comp (Keeps.of (retrain_only _ _ _ _) (by rfl)) ?_
    exact Keeps.refl _

theorem controlIn_keeps : ∀ x0 x1 x2, Keeps x0 (controlIn x0 x1 x2) := by
  intro x0 x1 x2
  unfold controlIn
  refine Keeps.ite ?_ ?_
  · refine Keeps.comp (linkIn_keeps _ _ _) ?_
    exact Keeps.refl _
  · refine Keeps.ite ?_ ?_
    · refine Keeps.comp (retrainAsked_keeps _ _) ?_
      refine Keeps.comp (takeFields_keeps _ _ _) ?_
      exact Keeps.refl _
    · exact Keeps.refl _

theorem arrivalIn_keeps : ∀ x0 x1 x2 x3, Keeps x0 (arrivalIn x0 x1 x2 x3) := by
  intro x0 x1 x2 x3
  unfold arrivalIn
  split
  · refine Keeps.ite ?_ ?_
    · refine Keeps.comp (controlIn_keeps _ _ _) ?_
      exact Keeps.refl _
    · refine Keeps.comp (classIn_keeps _ _ _ _) ?_
      exact Keeps.refl _
  · refine Keeps.ite ?_ ?_
    · refine Keeps.comp (Keeps.of (controlBad_only _ _ _) (by rfl)) ?_
      exact Keeps.refl _
    · refine Keeps.comp (classIn_keeps _ _ _ _) ?_
      exact Keeps.refl _

theorem finiteCheck_keeps : ∀ x0 x1 x2, Keeps x0 (finiteCheck x0 x1 x2) := by
  intro x0 x1 x2
  unfold finiteCheck
  lift_lets
  intro y0
  clear_value y0
  refine Keeps.ite ?_ ?_
  · exact Keeps.refl _
  · refine Keeps.comp (startReaction_keeps _ _ _ _ _ _ _ _ _) ?_
    exact Keeps.refl _

theorem plausibility_keeps : ∀ x0 x1 x2, Keeps x0 (plausibility x0 x1 x2) := by
  intro x0 x1 x2
  unfold plausibility
  lift_lets
  intro y0
  clear_value y0
  intro y1
  clear_value y1
  intro y2
  clear_value y2
  intro y3
  clear_value y3
  intro y4
  clear_value y4
  intro y5
  clear_value y5
  intro y6
  clear_value y6
  intro y7
  clear_value y7
  intro y8
  clear_value y8
  intro y9
  clear_value y9
  intro y10
  clear_value y10
  intro y11
  clear_value y11
  intro y12
  clear_value y12
  intro y13
  clear_value y13
  intro y14
  clear_value y14
  intro y15
  refine OnlyM.useHave (show Keeps x0 y15 from ?_) (fun hy15 => ?_)
  · unfold y15
    refine Keeps.comp (Keeps.of (setCe_only _ _ _) (by rfl)) ?_
    exact Keeps.refl _
  clear_value y15
  refine Keeps.ite ?_ ?_
  · refine Keeps.comp (Keeps.of (setCe_only _ _ _) (by rfl)) ?_
    exact Keeps.refl _
  · refine Keeps.ite ?_ ?_
    · refine Keeps.comp (Keeps.of (setCe_only _ _ _) (by rfl)) ?_
      exact Keeps.refl _
    · refine Keeps.ite ?_ ?_
      · refine Keeps.comp (startReaction_keeps _ _ _ _ _ _ _ _ _) ?_
        assumption
      · assumption

theorem axisPass_keeps : ∀ x0 x1, Keeps x0 (axisPass x0 x1) := by
  intro x0 x1
  unfold axisPass
  lift_lets
  intro y0
  clear_value y0
  intro y1
  clear_value y1
  intro y2
  refine OnlyM.useHave (show Keeps x0 y2 from ?_) (fun hy2 => ?_)
  · unfold y2
    refine Keeps.comp (Keeps.of (actual_only _ _ _) (by rfl)) ?_
    exact Keeps.refl _
  clear_value y2
  intro y3
  refine OnlyM.useHave (show Keeps x0 y3 from ?_) (fun hy3 => ?_)
  · unfold y3
    refine Keeps.comp (Keeps.of (setpointStep_only _ _ _) (by rfl)) ?_
    assumption
  clear_value y3
  intro y4
  clear_value y4
  intro y5
  refine OnlyM.useHave (show Keeps x0 y5 from ?_) (fun hy5 => ?_)
  · unfold y5
    refine Keeps.ite ?_ ?_
    · refine Keeps.comp (Keeps.of (outerPass_only _ _ _) (by rfl)) ?_
      refine Keeps.comp (plausibility_keeps _ _ _) ?_
      assumption
    · assumption
  clear_value y5
  intro y6
  clear_value y6
  intro y7
  refine OnlyM.useHave (show Keeps x0 y7 from ?_) (fun hy7 => ?_)
  · unfold y7
    refine Keeps.comp (Keeps.of (setCe_only _ _ _) (by rfl)) ?_
    assumption
  clear_value y7
  intro y8
  refine OnlyM.useHave (show Keeps x0 y8.1 from ?_) (fun hy8 => ?_)
  · unfold y8
    refine Keeps.comp (Keeps.of (currentPass_only _ _ _) (by rfl)) ?_
    assumption
  clear_value y8
  intro y9
  refine OnlyM.useHave (show Keeps x0 y9 from ?_) (fun hy9 => ?_)
  · unfold y9
    refine Keeps.comp (Keeps.of (bump_only _ _ _ _) (by rfl)) ?_
    assumption
  clear_value y9
  refine Keeps.ite ?_ ?_
  · assumption
  · refine Keeps.ite ?_ ?_
    · assumption
    · refine Keeps.comp (Keeps.of (ss1Standstill_only _ _) (by rfl)) ?_
      refine Keeps.comp (finiteCheck_keeps _ _ _) ?_
      refine Keeps.comp (Keeps.of (standTimes_only _ _) (by rfl)) ?_
      assumption

theorem becomeChecked_keeps : ∀ x0 x1, Keeps x0 (becomeChecked x0 x1) := by
  intro x0 x1
  unfold becomeChecked
  lift_lets
  intro y0
  clear_value y0
  intro y1
  refine OnlyM.useHave (show Keeps x0 y1 from ?_) (fun hy1 => ?_)
  · unfold y1
    refine Keeps.comp (Keeps.of (setStg_only _ _ _) (by rfl)) ?_
    exact Keeps.refl _
  clear_value y1
  refine Keeps.ite ?_ ?_
  · refine Keeps.comp (armSet_keeps _ _ _ _) ?_
    assumption
  · refine Keeps.comp (Keeps.of (setAnswer_only _ _ _) (by rfl)) ?_
    assumption

theorem beginRun_keeps : ∀ x0 x1, Keeps x0 (beginRun x0 x1) := by
  intro x0 x1
  unfold beginRun
  lift_lets
  intro y0
  clear_value y0
  intro y1
  clear_value y1
  intro y2
  clear_value y2
  dsimp -proj only
  split
  · refine Keeps.ite ?_ ?_
    · refine Keeps.comp (noRun_keeps _ _ _ _) ?_
      refine Keeps.comp (Keeps.of (useFresh_only _ _ _) (by rfl)) ?_
      refine Keeps.comp (Keeps.of (setGph_only _ _ _) (by rfl)) ?_
      exact Keeps.refl _
    · refine Keeps.ite ?_ ?_
      · refine Keeps.comp (noRun_keeps _ _ _ _) ?_
        refine Keeps.comp (Keeps.of (useFresh_only _ _ _) (by rfl)) ?_
        refine Keeps.comp (Keeps.of (setGph_only _ _ _) (by rfl)) ?_
        exact Keeps.refl _
      · refine Keeps.comp (Keeps.of (setGph_only _ _ _) (by rfl)) ?_
        refine Keeps.comp (Keeps.of (upd_runOrder _ _) (by rfl)) ?_
        refine Keeps.comp (Keeps.of (useFresh_only _ _ _) (by rfl)) ?_
        refine Keeps.comp (Keeps.of (setGph_only _ _ _) (by rfl)) ?_
        exact Keeps.refl _
  · exact Keeps.refl _

theorem foreignAccess_keeps : ∀ x0 x1 x2, Keeps x0.s (foreignAccess x0 x1 x2).s := by
  intro x0 x1 x2
  exact logHost_keeps x0.s _

theorem cavStore_keeps : ∀ x0 x1 x2 x3, Keeps x0.s (cavStore x0 x1 x2 x3).s := by
  intro x0 x1 x2 x3
  unfold cavStore
  split
  · exact foreignAccess_keeps _ _ _
  · dsimp only
    split
    · exact Keeps.of (cavWrite_only x0.s _ _) (by rfl)
    · exact Keeps.refl _

theorem dramStore_fold_keeps (s : State) (x : KernelCtx) (w : Origin) (l : List (Nat × Nat × List Byte)) :
    ∀ r : KernelRun, Keeps s r.s → Keeps s (l.foldl (fun r e =>
      let p := postStore r.s w e.1 e.2.1 e.2.2
      { r with s := if p.2 then p.1 else jobLateFault p.1 x.queue x.job.seq }) r).s := by
  induction l with
  | nil => exact fun r h => h
  | cons e l ih =>
    intro r h
    refine ih _ ?_
    show Keeps s (if _ then _ else _)
    exact Keeps.ite (Keeps.comp (postStore_keeps _ _ _ _ _) h) (Keeps.comp (Keeps.of (jobLateFault_only _ _ _) (by rfl)) (Keeps.comp (postStore_keeps _ _ _ _ _) h))

theorem dramStore_keeps : ∀ x0 x1 x2 x3, Keeps x0.s (dramStore x0 x1 x2 x3).s := by
  intro x0 x1 x2 x3
  unfold dramStore
  dsimp only
  split
  · exact Keeps.refl _
  · exact dramStore_fold_keeps x0.s x1 _ _ _ (Keeps.refl _)

theorem cavLoad_keeps : ∀ x0 x1 x2 x3, Keeps x0.s (cavLoad x0 x1 x2 x3).1.s := by
  intro x0 x1 x2 x3
  unfold cavLoad
  split
  · exact foreignAccess_keeps _ _ _
  · dsimp only
    split
    · exact Keeps.refl _
    · show Keeps x0.s (if _ then kvLose x0.s x1.queue else x0.s)
      exact Keeps.ite (Keeps.of (kvLose_only _ _) (by rfl)) (Keeps.refl _)

theorem dramLoad_keeps : ∀ x0 x1 x2 x3, Keeps x0.s (dramLoad x0 x1 x2 x3).1.s := by
  intro x0 x1 x2 x3
  unfold dramLoad
  split
  · exact Keeps.refl _
  · dsimp only
    refine OnlyM.useHave (P := Keeps x0.s (countLine (engLoad x0.s (jobOrigin x1.queue x1.job) x2 x3).1 (jobOrigin x1.queue x1.job).tag (linesOf x2 x3).length)) ?_ (fun h => ?_)
    · refine Keeps.comp (t := (engLoad x0.s (jobOrigin x1.queue x1.job) x2 x3).1) ?_ (engLoad_keeps _ _ _ _)
      exact countLine_keeps _ _ _
    · split
      · exact h
      · exact h

theorem streamLoad_keeps : ∀ x0 x1 x2 x3 x4, Keeps x0.s (streamLoad x0 x1 x2 x3 x4).1.s := by
  intro x0 x1 x2 x3 x4
  unfold streamLoad
  dsimp only
  split
  · exact cavLoad_keeps _ _ _ _
  · split
    · exact Keeps.refl _
    · exact dramLoad_keeps _ _ _ _

theorem kernelOp_keeps : ∀ x0 x1 x2 x3, Keeps x2.s (kernelOp x0 x1 x2 x3).s := by
  intro x0 x1 x2 x3
  have put : ∀ e, Keeps x2.s (opResult x2 x0 e).s := fun e => Keeps.of (opResult_only x2 x0 e) (by rfl)
  have load : ∀ (src : Place) (a n : Nat), Keeps x2.s (streamLoad x2 x0 src a n).1.s := fun src a n => streamLoad_keeps _ _ _ _ _
  have loaded : ∀ (src : Place) (a n : Nat) (e : Tab Byte × Bool), Keeps x2.s (opResult (streamLoad x2 x0 src a n).1 x0 e).s :=
    fun src a n e => (load src a n).trans (Keeps.of (opResult_only _ _ _) (by rfl))
  cases x3 <;> try exact put _
  case load src step addr len =>
    show Keeps x2.s (KernelRun.s (match (streamLoad x2 x0 src (x0.j * step) len).2 with | some b => _ | none => _))
    split
    · exact loaded _ _ _ _
    · exact load _ _ _
  case loadNchw src dst =>
    unfold kernelOp
    dsimp only
    split
    · exact Keeps.refl _
    · split
      · exact loaded _ _ _ _
      · exact load _ _ _
  case store addr len dst step =>
    unfold kernelOp
    dsimp only
    split
    · exact Keeps.refl _
    · split
      · exact cavStore_keeps _ _ _ _
      · exact dramStore_keeps _ _ _ _
  case append a => exact Keeps.refl _
  case attend a =>
    unfold kernelOp
    dsimp only
    split
    · exact Keeps.comp (Keeps.of (kvLose_only _ _) (by rfl)) (Keeps.of (setPocket_only x2.s _ _ _) (by rfl))
    · exact Keeps.of (setPocket_only x2.s _ _ _) (by rfl)
  case result addr =>
    unfold kernelOp
    dsimp only
    split
    · exact Keeps.refl _
    · exact Keeps.refl _

theorem kernelOps_keeps : ∀ x0 x1 x2, Keeps x2.s (kernelOps x0 x1 x2).s := by
  intro x0 x1 x2
  unfold kernelOps
  split
  · exact Keeps.refl _
  · induction x1.ops generalizing x2 with
    | nil => exact Keeps.refl _
    | cons o l ih => exact (kernelOp_keeps x0 x1.share x2 o).trans (ih _)

theorem multicastLoads_keeps : ∀ x0 x1 x2, Keeps x0.s (multicastLoads x0 x1 x2).s := by
  intro x0 x1 x2
  unfold multicastLoads
  induction x2 generalizing x0 with
  | nil => exact Keeps.refl _
  | cons e l ih =>
    rw [List.foldl_cons]
    refine Keeps.trans ?_ (ih _)
    dsimp only
    split
    · exact streamLoad_keeps _ _ _ _ _
    · refine Keeps.trans (t := (streamLoad x0 x1 e.1 0 e.2.2).1.s) (streamLoad_keeps _ _ _ _ _) ?_
      refine Keeps.foldl (Keeps.refl _) (fun u i hu => ?_)
      exact Keeps.comp (Keeps.of (setPocket_only _ _ _ _) (by rfl)) hu

theorem runKernel_keeps : ∀ x0 x1 x2, Keeps x2.s (runKernel x0 x1 x2).s := by
  intro x0 x1 x2
  unfold runKernel
  dsimp only
  refine Keeps.trans ?_ (Keeps.of (kernelSends_only _ _ _) (by rfl))
  refine Keeps.trans ?_ (kernelOps_keeps _ _ _)
  split
  · exact multicastLoads_keeps _ _ _
  · exact Keeps.refl _

theorem spendTime_keeps : ∀ x0 x1 x2, Keeps x0 (spendTime x0 x1 x2) := by
  intro x0 x1 x2
  unfold spendTime
  lift_lets
  intro y0
  clear_value y0
  intro y1
  refine OnlyM.useHave (show Keeps x0 y1 from ?_) (fun hy1 => ?_)
  · unfold y1
    refine Keeps.comp (Keeps.of (upd_gal _ _) (by rfl)) ?_
    exact Keeps.refl _
  clear_value y1
  intro y2
  clear_value y2
  intro y3
  refine OnlyM.useHave (show Keeps x0 y3 from ?_) (fun hy3 => ?_)
  · unfold y3
    refine Keeps.comp (Keeps.of (bump_only _ _ _ _) (by rfl)) ?_
    refine Keeps.comp (Keeps.of (upd_gal _ _) (by rfl)) ?_
    assumption
  clear_value y3
  intro y4
  refine OnlyM.useHave (show Keeps x0 y4 from ?_) (fun hy4 => ?_)
  · unfold y4
    refine Keeps.comp (Keeps.of (upd_gal _ _) (by rfl)) ?_
    exact Keeps.refl _
  clear_value y4
  intro y5
  clear_value y5
  refine Keeps.ite ?_ ?_
  · refine Keeps.ite ?_ ?_
    · refine Keeps.comp (logHost_keeps _ _) ?_
      assumption
    · assumption
  · refine Keeps.ite ?_ ?_
    · refine Keeps.ite ?_ ?_
      · refine Keeps.comp (Keeps.of (bump_only _ _ _ _) (by rfl)) ?_
        refine Keeps.comp (Keeps.of (upd_gal _ _) (by rfl)) ?_
        assumption
      · assumption
    · refine Keeps.comp (Keeps.of (upd_gal _ _) (by rfl)) ?_
      exact Keeps.refl _

theorem boundary_keeps : ∀ x0 x1 x2 x3 x4, Keeps x0 (boundary x0 x1 x2 x3 x4) := by
  intro x0 x1 x2 x3 x4
  unfold boundary
  split
  · exact Keeps.refl _
  · dsimp only
    split
    · split
      · exact Keeps.refl _
      · have hk : ∀ (x : KernelCtx) (k : Kernel) (r : KernelRun), Keeps x0 r.s → Keeps x0 (runKernel x k r).s :=
          fun x k r h => h.trans (runKernel_keeps x k r)
        have ha : ∀ s a b c d e f g h, Keeps s (afterKernel s a b c d e f g h) := by
          intro s a b c d e f g h
          exact Keeps.of (afterKernel_only _ _ _ _ _ _ _ _ _) (by rfl)
        have he : ∀ s p i, Keeps s (kernelEcc s p i) := by
          intro s p i
          exact Keeps.of (kernelEcc_only _ _ _) (by rfl)
        have ht : ∀ s p i, Keeps s (spendTime s p i) := by
          intro s p i
          exact spendTime_keeps _ _ _
        refine Keeps.comp (ha _ _ _ _ _ _ _ _ _) ?_
        have hs : ∀ (p u q : Nat) (i : KernelEnd), Keeps x0 (kernelEcc (spendTime x0 p u) q i) :=
          fun p u q i => Keeps.comp (he _ _ _) (ht _ _ _)
        refine Keeps.ite ?_ ?_
        · exact Keeps.comp (Keeps.of (setCore_only _ _ _) (by rfl)) (hk _ _ _ (hs _ _ _ _))
        · exact hk _ _ _ (hs _ _ _ _)
    · exact Keeps.refl _

theorem cancelHead_keeps : ∀ x0 x1, Keeps x0 (cancelHead x0 x1) := by
  intro x0 x1
  unfold cancelHead
  split
  · refine Keeps.ite ?_ ?_
    · refine Keeps.comp (completeJob_keeps _ _ _ _) ?_
      exact Keeps.refl _
    · exact Keeps.refl _
  · exact Keeps.refl _

theorem ceOne_keeps : ∀ x0, Keeps x0 (ceOne x0) := by
  intro x0
  unfold ceOne
  lift_lets
  intro y0
  intro y1
  refine OnlyM.useHave (show Keeps x0 y1 from ?_) (fun hy1 => ?_)
  · unfold y1
    refine Keeps.comp (keeps_mem _ _ ?_) ?_
    · exact ⟨rfl, rfl⟩
    · exact Keeps.refl _
  refine Keeps.ite ?_ ?_
  · refine Keeps.comp (logHost_keeps _ _) ?_
    assumption
  · assumption

end Sys2Proof.Laws
end

