-- ==== Sys2Proof/Laws/KeepB.lean ====
section
/-! SUPPORT. Every operation that reaches the boot state, DRAM or the fault log keeps what `Keeps` says, part 2. -/

namespace Sys2Proof.Laws

open Machine

theorem checkSet_keeps : ∀ x0 x1, Keeps x0 (checkSet x0 x1) := by
  intro x0 x1
  unfold checkSet
  split
  · refine Keeps.comp (Keeps.of (failSet_only _ _ _ _ _) (by rfl)) ?_
    exact Keeps.refl _
  · refine Keeps.ite ?_ ?_
    · refine Keeps.comp (Keeps.of (stageAsk_only _ _ _) (by rfl)) ?_
      exact Keeps.refl _
    · refine Keeps.comp (becomeChecked_keeps _ _) ?_
      exact Keeps.refl _

theorem d2hRecord_keeps : ∀ x0 x1, Keeps x0 (d2hRecord x0 x1) := by
  intro x0 x1
  unfold d2hRecord
  refine Keeps.comp (d2hEvent_keeps _ _) ?_
  exact Keeps.refl _

theorem clockNoticeHost_keeps : ∀ x0 x1, Keeps x0 (clockNoticeHost x0 x1) := by
  intro x0 x1
  unfold clockNoticeHost
  lift_lets
  intro y0
  clear_value y0
  refine Keeps.comp (d2hRecord_keeps _ _) ?_
  refine Keeps.comp (Keeps.of (ropeSend_only _ _ _) (by rfl)) ?_
  exact Keeps.refl _

theorem compIrq_keeps : ∀ x0 x1, Keeps x0 (compIrq x0 x1) := by
  intro x0 x1
  unfold compIrq
  lift_lets
  intro y0
  refine OnlyM.useHave (show Keeps x0 y0 from ?_) (fun hy0 => ?_)
  · unfold y0
    refine Keeps.comp (Keeps.of (setReg_only _ _ _) (by rfl)) ?_
    exact Keeps.refl _
  clear_value y0
  refine Keeps.ite ?_ ?_
  · refine Keeps.comp (hostIrq_keeps _ _) ?_
    assumption
  · assumption

theorem hostRelease_keeps : ∀ x0 x1, Keeps x0 (hostRelease x0 x1) := by
  intro x0 x1
  unfold hostRelease
  refine Keeps.comp (keeps_hboot_pwr _ _ _ ?_) ?_
  · exact ⟨rfl, rfl, rfl, fun h => .inl h⟩
  · exact Keeps.refl _

theorem wakeUp_keeps : ∀ x0 x1, Keeps x0 (wakeUp x0 x1) := by
  intro x0 x1
  unfold wakeUp
  lift_lets
  intro y0
  refine OnlyM.useHave (show Keeps x0 y0 from ?_) (fun hy0 => ?_)
  · unfold y0
    refine Keeps.comp (Keeps.of (putN_only _ _ _ _) (by rfl)) ?_
    exact Keeps.refl _
  clear_value y0
  intro y1
  clear_value y1
  refine Keeps.comp (hostRelease_keeps _ _) ?_
  refine Keeps.comp (Keeps.of (upd_pwr _ _) (by rfl)) ?_
  assumption

theorem wakeSource_keeps : ∀ x0 x1, Keeps x0 (wakeSource x0 x1) := by
  intro x0 x1
  unfold wakeSource
  lift_lets
  intro y0
  clear_value y0
  intro y1
  clear_value y1
  refine Keeps.ite ?_ ?_
  · exact Keeps.refl _
  · refine Keeps.ite ?_ ?_
    · refine Keeps.comp (wakeUp_keeps _ _) ?_
      exact Keeps.refl _
    · refine Keeps.ite ?_ ?_
      · refine Keeps.comp (Keeps.of (upd_pwr _ _) (by rfl)) ?_
        exact Keeps.refl _
      · refine Keeps.ite ?_ ?_
        · refine Keeps.comp (Keeps.of (putN_only _ _ _ _) (by rfl)) ?_
          refine Keeps.comp (Keeps.of (upd_pwr _ _) (by rfl)) ?_
          exact Keeps.refl _
        · exact Keeps.refl _

theorem connFault_keeps : ∀ x0 x1, Keeps x0 (connFault x0 x1) := by
  intro x0 x1
  unfold connFault
  lift_lets
  intro y0
  refine OnlyM.useHave (show Keeps x0 y0 from ?_) (fun hy0 => ?_)
  · unfold y0
    refine Keeps.comp (Keeps.of (drawn_only _) (by rfl)) ?_
    refine Keeps.comp (logHost_keeps _ _) ?_
    exact Keeps.refl _
  clear_value y0
  intro y1
  clear_value y1
  intro y2
  refine OnlyM.useHave (show Keeps x0 y2 from ?_) (fun hy2 => ?_)
  · unfold y2
    refine Keeps.comp (Keeps.of (bump_only _ _ _ _) (by rfl)) ?_
    refine Keeps.comp (Keeps.of (upd_lan _ _) (by rfl)) ?_
    assumption
  clear_value y2
  intro y3
  clear_value y3
  refine Keeps.ite ?_ ?_
  · refine Keeps.comp (wakeSource_keeps _ _) ?_
    refine Keeps.comp (Keeps.of (upd_lan _ _) (by rfl)) ?_
    assumption
  · assumption

theorem coreFaults_keeps : ∀ x0 x1, Keeps x0 (coreFaults x0 x1) := by
  intro x0 x1
  unfold coreFaults
  refine Keeps.comp (keeps_mem _ _ ?_) ?_
  · exact ⟨rfl, rfl⟩
  · exact Keeps.refl _

theorem coreOk_keeps : ∀ x0, Keeps x0 (coreOk x0) := by
  intro x0
  unfold coreOk
  refine Keeps.comp (keeps_mem _ _ ?_) ?_
  · exact ⟨rfl, rfl⟩
  · exact Keeps.refl _

theorem coreRead_keeps : ∀ x0 x1, Keeps x0 (coreRead x0 x1) := by
  intro x0 x1
  exact ⟨.refl _, .refl _, dramInv_of_mem ⟨rfl, rfl⟩, fun h => h⟩

theorem moveCompare_keeps : ∀ x0 x1 x2 x3 x4 x5 x6, Keeps x0 (moveCompare x0 x1 x2 x3 x4 x5 x6) := by
  intro x0 x1 x2 x3 x4 x5 x6
  unfold moveCompare
  refine Keeps.foldl ?_ (fun _ _ _ => ?_)
  · refine Keeps.comp (Keeps.of (crossSets_only _ _ _ _ _ _) (by rfl)) ?_
    exact Keeps.refl _
  · lift_lets
    intro y0
    clear_value y0
    intro y1
    intro y2
    clear_value y2
    refine Keeps.ite ?_ ?_
    · refine Keeps.ite ?_ ?_
      · refine Keeps.comp (Keeps.of (notePassed_only _ _ _ _) (by rfl)) ?_
        assumption
      · refine Keeps.comp (fire_keeps _ _ _ _ _) ?_
        assumption
    · assumption

theorem moveOne_keeps : ∀ x0 x1 x2, Keeps x0 (moveOne x0 x1 x2) := by
  intro x0 x1 x2
  unfold moveOne
  lift_lets
  intro y0
  clear_value y0
  intro y1
  clear_value y1
  intro y2
  clear_value y2
  intro y3
  refine OnlyM.useHave (show Keeps x0 y3 from ?_) (fun hy3 => ?_)
  · unfold y3
    refine Keeps.comp (Keeps.of (upd_pos _ _) (by rfl)) ?_
    exact Keeps.refl _
  clear_value y3
  intro y4
  clear_value y4
  intro y5
  refine OnlyM.useHave (show Keeps x0 y5 from ?_) (fun hy5 => ?_)
  · unfold y5
    refine Keeps.ite ?_ ?_
    · refine Keeps.comp (Keeps.of (upd_pos _ _) (by rfl)) ?_
      assumption
    · assumption
  clear_value y5
  intro y6
  refine OnlyM.useHave (show Keeps x0 y6 from ?_) (fun hy6 => ?_)
  · unfold y6
    refine Keeps.comp (moveCompare_keeps _ _ _ _ _ _ _) ?_
    assumption
  clear_value y6
  refine Keeps.comp (Keeps.of (pulseCntEnds_only _ _ _ _) (by rfl)) ?_
  assumption

theorem countEdge_keeps : ∀ x0 x1, Keeps x0 (countEdge x0 x1) := by
  intro x0 x1
  unfold countEdge
  lift_lets
  intro y0
  clear_value y0
  intro y1
  refine OnlyM.useHave (show Keeps x0 y1 from ?_) (fun hy1 => ?_)
  · unfold y1
    refine Keeps.comp (moveOne_keeps _ _ _) ?_
    refine Keeps.comp (Keeps.of (predictorEdge_only _ _) (by rfl)) ?_
    exact Keeps.refl _
  clear_value y1
  intro y2
  refine Keeps.ite ?_ ?_
  · refine Keeps.comp (keeps_saf _ _ ?_) ?_
    · exact fun h => h
    · assumption
  · exact Keeps.refl _

theorem lanWake_keeps : ∀ x0, Keeps x0 (lanWake x0) := by
  intro x0
  unfold lanWake
  lift_lets
  intro y0
  clear_value y0
  intro y1
  refine OnlyM.useHave (show Keeps x0 y1 from ?_) (fun hy1 => ?_)
  · unfold y1
    refine Keeps.comp (Keeps.of (bump_only _ _ _ _) (by rfl)) ?_
    refine Keeps.comp (Keeps.of (upd_lan _ _) (by rfl)) ?_
    exact Keeps.refl _
  clear_value y1
  refine Keeps.comp (wakeSource_keeps _ _) ?_
  assumption

theorem countWake_keeps : ∀ x0 x1, Keeps x0 (countWake x0 x1) := by
  intro x0 x1
  unfold countWake
  refine Keeps.ite ?_ ?_
  · exact Keeps.refl _
  · lift_lets
    intro y0
    clear_value y0
    intro y1
    clear_value y1
    intro y2
    refine OnlyM.useHave (show Keeps x0 y2 from ?_) (fun hy2 => ?_)
    · unfold y2
      refine Keeps.comp (Keeps.of (upd_lan _ _) (by rfl)) ?_
      exact Keeps.refl _
    clear_value y2
    refine Keeps.ite ?_ ?_
    · refine Keeps.comp (lanWake_keeps _) ?_
      assumption
    · assumption

theorem outputsTaken_keeps : ∀ x0, Keeps x0 (outputsTaken x0) := by
  intro x0
  unfold outputsTaken
  refine Keeps.foldl ?_ (fun _ _ _ => ?_)
  · exact Keeps.refl _
  · refine Keeps.ite ?_ ?_
    · lift_lets
      intro y0
      clear_value y0
      refine Keeps.ite ?_ ?_
      · refine Keeps.comp (controlword_keeps _ _ _) ?_
        assumption
      · refine Keeps.ite ?_ ?_
        · refine Keeps.comp (Keeps.of (modeSelect_only _ _) (by rfl)) ?_
          assumption
        · assumption
    · assumption

theorem encCapture_keeps : ∀ x0 x1, Keeps x0 (encCapture x0 x1) := by
  intro x0 x1
  unfold encCapture
  lift_lets
  intro y0
  clear_value y0
  intro y1
  clear_value y1
  intro y2
  clear_value y2
  intro y3
  refine OnlyM.useHave (show Keeps x0 y3 from ?_) (fun hy3 => ?_)
  · unfold y3
    refine Keeps.comp (Keeps.of (setAx_only _ _ _) (by rfl)) ?_
    exact Keeps.refl _
  clear_value y3
  intro y4
  clear_value y4
  refine Keeps.ite ?_ ?_
  · refine Keeps.ite ?_ ?_
    · refine Keeps.comp (badCapture_keeps _ _) ?_
      assumption
    · refine Keeps.ite ?_ ?_
      · refine Keeps.comp (Keeps.of (goodCapture_only _ _ _) (by rfl)) ?_
        assumption
      · refine Keeps.comp (Keeps.of (setAx_only _ _ _) (by rfl)) ?_
        assumption
  · refine Keeps.ite ?_ ?_
    · refine Keeps.ite ?_ ?_
      · refine Keeps.comp (Keeps.of (setAx_only _ _ _) (by rfl)) ?_
        exact Keeps.refl _
      · refine Keeps.comp (Keeps.of (setAx_only _ _ _) (by rfl)) ?_
        exact Keeps.refl _
    · refine Keeps.comp (Keeps.of (setAx_only _ _ _) (by rfl)) ?_
      exact Keeps.refl _

theorem samplePoint_keeps : ∀ x0 x1, Keeps x0 (samplePoint x0 x1) := by
  intro x0 x1
  unfold samplePoint
  lift_lets
  intro y0
  clear_value y0
  intro y1
  refine OnlyM.useHave (show Keeps x0 y1 from ?_) (fun hy1 => ?_)
  · unfold y1
    refine Keeps.ite ?_ ?_
    · exact Keeps.refl _
    · refine Keeps.comp (Keeps.of (upd_eng _ _) (by rfl)) ?_
      exact Keeps.refl _
  clear_value y1
  intro y2
  clear_value y2
  refine Keeps.comp (encCapture_keeps _ _) ?_
  refine Keeps.comp (Keeps.of (setAx_only _ _ _) (by rfl)) ?_
  assumption

theorem sampleAt_keeps : ∀ x0 x1 x2, Keeps x0 (sampleAt x0 x1 x2) := by
  intro x0 x1 x2
  unfold sampleAt
  refine Keeps.ite ?_ ?_
  · refine Keeps.comp (samplePoint_keeps _ _) ?_
    exact Keeps.refl _
  · exact Keeps.refl _

theorem cycleWork_keeps : ∀ x0, Keeps x0 (cycleWork x0) := by
  intro x0
  unfold cycleWork
  lift_lets
  intro y0
  refine OnlyM.useHave (show Keeps x0 y0 from ?_) (fun hy0 => ?_)
  · unfold y0
    refine Keeps.ite ?_ ?_
    · refine Keeps.comp (outputsTaken_keeps _) ?_
      exact Keeps.refl _
    · exact Keeps.refl _
  clear_value y0
  intro y1
  refine OnlyM.useHave (show Keeps x0 y1 from ?_) (fun hy1 => ?_)
  · unfold y1
    refine Keeps.comp (Keeps.of (engineCycle_only _) (by rfl)) ?_
    assumption
  clear_value y1
  intro y2
  clear_value y2
  intro y3
  clear_value y3
  intro y4
  clear_value y4
  intro y5
  intro y6
  refine OnlyM.useHave (show Keeps x0 y6 from ?_) (fun hy6 => ?_)
  · unfold y6
    refine Keeps.comp (keeps_sync_bus_eng_saf _ _ _ _ _ ?_) ?_
    · exact fun h => h
    · assumption
  clear_value y6
  intro y7
  refine OnlyM.useHave (show Keeps x0 y7 from ?_) (fun hy7 => ?_)
  · unfold y7
    refine Keeps.foldl ?_ (fun _ _ _ => ?_)
    · assumption
    · refine Keeps.comp (sampleAt_keeps _ _ _) ?_
      refine Keeps.comp (Keeps.of (adcTrigger_only _ _ _) (by rfl)) ?_
      assumption
  clear_value y7
  refine Keeps.comp (Keeps.of (sm3Refresh_only _) (by rfl)) ?_
  assumption

theorem dispatchJob_keeps : ∀ x0 x1, Keeps x0 (dispatchJob x0 x1) := by
  intro x0 x1
  unfold dispatchJob
  split
  · exact Keeps.refl _
  · refine Keeps.ite ?_ ?_
    · refine Keeps.comp (completeJob_keeps _ _ _ _) ?_
      exact Keeps.refl _
    · refine Keeps.ite ?_ ?_
      · exact Keeps.refl _
      · refine Keeps.ite ?_ ?_
        · refine Keeps.comp (completeJob_keeps _ _ _ _) ?_
          exact Keeps.refl _
        · refine Keeps.ite ?_ ?_
          · refine Keeps.comp (completeJob_keeps _ _ _ _) ?_
            exact Keeps.refl _
          · lift_lets
            intro y0
            clear_value y0
            intro y1
            clear_value y1
            split
            · refine Keeps.comp (Keeps.of (preemptFor_only _ _ _ _ _) (by rfl)) ?_
              exact Keeps.refl _
            · refine Keeps.ite ?_ ?_
              · refine Keeps.ite ?_ ?_
                · exact Keeps.refl _
                · refine Keeps.comp (Keeps.of (startJob_only _ _ _ _ _) (by rfl)) ?_
                  exact Keeps.refl _
              · split
                · refine Keeps.ite ?_ ?_
                  · exact Keeps.refl _
                  · refine Keeps.comp (Keeps.of (startJob_only _ _ _ _ _) (by rfl)) ?_
                    exact Keeps.refl _
                · refine Keeps.comp (Keeps.of (preemptFor_only _ _ _ _ _) (by rfl)) ?_
                  exact Keeps.refl _

theorem writePlanes_keeps : ∀ x0 x1 x2 x3, (∀ s p r b, Keeps s (x3 s p r b)) → Keeps x0 (writePlanes x0 x1 x2 x3) := by
  intro x0 x1 x2 x3 h
  unfold writePlanes
  refine Keeps.foldl (Keeps.refl _) (fun _ _ hu => ?_)
  refine Keeps.foldl hu (fun _ _ hv => ?_)
  exact hv.trans (h _ _ _ _)

theorem dramImage_keeps : ∀ x0 x1 x2, Keeps x0 (dramImage x0 x1 x2) := by
  intro x0 x1 x2
  unfold dramImage
  split
  · exact Keeps.refl _
  · exact writePlanes_keeps _ _ _ _ (fun s p r b => engStore_keeps _ _ _ _)

theorem dramLose_keeps : ∀ x0 x1, Keeps x0 (dramLose x0 x1) := by
  intro x0 x1
  refine ⟨.refl _, .refl _, fun h => ?_, fun h => h⟩
  show twf (dramDefault (dramLose x0 x1)) (tkeep (fun a => x1.any (fun r => decide (r.1 ≤ a) && decide (a < r.1 + r.2))) x0.mem.cells)
  refine twf_tkeep (dramDefault x0) _ _ (fun a ha => ?_) _ h
  unfold dramDefault lossesAt
  have e : (dramLose x0 x1).mem.losses = x1 :: x0.mem.losses := rfl
  rw [e, List.filter_cons, ha]
  rfl

theorem driftFrame_keeps : ∀ x0 x1, Keeps x0 (driftFrame x0 x1) := by
  intro x0 x1
  unfold driftFrame
  refine Keeps.ite ?_ ?_
  · exact Keeps.refl _
  · lift_lets
    intro y0
    clear_value y0
    intro y1
    clear_value y1
    intro y2
    clear_value y2
    intro y3
    refine OnlyM.useHave (show Keeps x0 y3 from ?_) (fun hy3 => ?_)
    · unfold y3
      refine Keeps.comp (Keeps.of (putI_only _ _ _ _) (by rfl)) ?_
      exact Keeps.refl _
    clear_value y3
    intro y4
    clear_value y4
    intro y5
    refine OnlyM.useHave (show Keeps x0 y5 from ?_) (fun hy5 => ?_)
    · unfold y5
      refine Keeps.ite ?_ ?_
      · refine Keeps.comp (Keeps.of (upd_fclk _ _) (by rfl)) ?_
        assumption
      · assumption
    clear_value y5
    intro y6
    clear_value y6
    intro y7
    clear_value y7
    intro y8
    refine OnlyM.useHave (show Keeps x0 y8 from ?_) (fun hy8 => ?_)
    · unfold y8
      refine Keeps.ite ?_ ?_
      · refine Keeps.comp (Keeps.of (driftInPlace_only _ _ _) (by rfl)) ?_
        assumption
      · refine Keeps.ite ?_ ?_
        · refine Keeps.comp (Keeps.of (upd_fclk _ _) (by rfl)) ?_
          assumption
        · refine Keeps.comp (Keeps.of (driftRho_only _ _ _) (by rfl)) ?_
          assumption
    clear_value y8
    intro y9
    clear_value y9
    intro y10
    clear_value y10
    refine Keeps.ite ?_ ?_
    · refine Keeps.comp (setFclk_keeps _ _) ?_
      assumption
    · refine Keeps.ite ?_ ?_
      · refine Keeps.comp (setFclk_keeps _ _) ?_
        assumption
      · refine Keeps.comp (Keeps.of (upd_fclk _ _) (by rfl)) ?_
        assumption

theorem poisonLine_keeps : ∀ x0 x1, Keeps x0 (poisonLine x0 x1) := by
  intro x0 x1
  unfold poisonLine
  refine Keeps.comp (keeps_mem _ _ ?_) ?_
  · exact ⟨rfl, rfl⟩
  · exact Keeps.refl _

theorem eccRead_keeps : ∀ x0 x1 x2, Keeps x0 (eccRead x0 x1 x2) := by
  intro x0 x1 x2
  unfold eccRead
  refine Keeps.ite ?_ ?_
  · exact Keeps.refl _
  · split
    · exact Keeps.refl _
    · refine Keeps.comp (ceOne_keeps _) ?_
      exact Keeps.refl _
    · refine Keeps.comp (poisonLine_keeps _ _) ?_
      exact Keeps.refl _

theorem embLines_keeps : ∀ x0 x1 x2, Keeps x0 (embLines x0 x1 x2) := by
  intro x0 x1 x2
  unfold embLines
  split
  · exact Keeps.refl _
  · lift_lets
    intro y0
    clear_value y0
    intro y1
    clear_value y1
    intro y2
    clear_value y2
    refine Keeps.foldl ?_ (fun _ _ _ => ?_)
    · exact Keeps.refl _
    · refine Keeps.comp (engStore_keeps _ _ _ _) ?_
      assumption

theorem setPosMode_keeps : ∀ x0 x1, Keeps x0 (setPosMode x0 x1) := by
  intro x0 x1
  unfold setPosMode
  lift_lets
  intro y0
  clear_value y0
  intro y1
  clear_value y1
  intro y2
  refine OnlyM.useHave (show Keeps x0 y2 from ?_) (fun hy2 => ?_)
  · unfold y2
    refine Keeps.comp (Keeps.of (holdAll_only _ _) (by rfl)) ?_
    refine Keeps.comp (Keeps.of (upd_pos _ _) (by rfl)) ?_
    exact Keeps.refl _
  clear_value y2
  intro y3
  refine OnlyM.useHave (show Keeps x0 y3 from ?_) (fun hy3 => ?_)
  · unfold y3
    refine Keeps.ite ?_ ?_
    · assumption
    · refine Keeps.comp (Keeps.of (positionNotice_only _ _) (by rfl)) ?_
      assumption
  clear_value y3
  refine Keeps.ite ?_ ?_
  · refine Keeps.comp (startReaction_keeps _ _ _ _ _ _ _ _ _) ?_
    refine Keeps.comp (Keeps.of (emcy_only _ _ _ _) (by rfl)) ?_
    assumption
  · refine Keeps.ite ?_ ?_
    · refine Keeps.comp (startReaction_keeps _ _ _ _ _ _ _ _ _) ?_
      refine Keeps.comp (Keeps.of (emcy_only _ _ _ _) (by rfl)) ?_
      assumption
    · assumption

theorem estimateEdge_keeps : ∀ x0, Keeps x0 (estimateEdge x0) := by
  intro x0
  unfold estimateEdge
  lift_lets
  intro y0
  refine OnlyM.useHave (show Keeps x0 y0 from ?_) (fun hy0 => ?_)
  · unfold y0
    refine Keeps.comp (moveOne_keeps _ _ _) ?_
    exact Keeps.refl _
  clear_value y0
  intro y1
  clear_value y1
  intro y2
  refine OnlyM.useHave (show Keeps x0 y2 from ?_) (fun hy2 => ?_)
  · unfold y2
    refine Keeps.comp (Keeps.of (bump_only _ _ _ _) (by rfl)) ?_
    refine Keeps.comp (Keeps.of (upd_pos _ _) (by rfl)) ?_
    assumption
  clear_value y2
  intro y3
  clear_value y3
  refine Keeps.ite ?_ ?_
  · refine Keeps.comp (setPosMode_keeps _ _) ?_
    refine Keeps.comp (Keeps.of (upd_pos _ _) (by rfl)) ?_
    assumption
  · assumption

theorem estimateEdges_keeps : ∀ x0 x1, Keeps x1 (estimateEdges x0 x1) := by
  intro x0
  induction x0 with
  | zero => exact fun x1 => Keeps.refl _
  | succ n ih => exact fun x1 => Keeps.comp (ih _) (estimateEdge_keeps _)

theorem encoderLoss_keeps : ∀ x0, Keeps x0 (encoderLoss x0) := by
  intro x0
  unfold encoderLoss
  lift_lets
  intro y0
  intro y1
  refine OnlyM.useHave (show Keeps x0 y1 from ?_) (fun hy1 => ?_)
  · unfold y1
    refine Keeps.comp (Keeps.of (upd_pos _ _) (by rfl)) ?_
    exact Keeps.refl _
  intro y2
  clear_value y2
  intro y3
  refine OnlyM.useHave (show Keeps x0 y3 from ?_) (fun hy3 => ?_)
  · unfold y3
    refine Keeps.comp (Keeps.of (putN_only _ _ _ _) (by rfl)) ?_
    refine Keeps.comp (Keeps.of (upd_pos _ _) (by rfl)) ?_
    assumption
  clear_value y3
  intro y4
  clear_value y4
  intro y5
  refine OnlyM.useHave (show Keeps x0 y5 from ?_) (fun hy5 => ?_)
  · unfold y5
    refine Keeps.ite ?_ ?_
    · refine Keeps.comp (setPosMode_keeps _ _) ?_
      refine Keeps.comp (Keeps.of (upd_pos _ _) (by rfl)) ?_
      assumption
    · refine Keeps.comp (setPosMode_keeps _ _) ?_
      assumption
  clear_value y5
  refine Keeps.ite ?_ ?_
  · refine Keeps.comp (estimateEdges_keeps _ _) ?_
    assumption
  · assumption

theorem releasePassed_keeps : ∀ x0 x1 x2 x3 x4, Keeps x0 (releasePassed x0 x1 x2 x3 x4) := by
  intro x0 x1 x2 x3 x4
  unfold releasePassed
  split
  · refine Keeps.comp (lateOrMiss_keeps _ _ _ _) ?_
    exact Keeps.refl _
  · refine Keeps.comp (miss_keeps _ _ _ _) ?_
    exact Keeps.refl _
  · exact Keeps.refl _

theorem releaseHeld_keeps : ∀ x0 x1 x2, Keeps x0 (releaseHeld x0 x1 x2) := by
  intro x0 x1 x2
  unfold releaseHeld
  refine Keeps.foldl ?_ (fun _ _ _ => ?_)
  · exact Keeps.refl _
  · lift_lets
    intro y0
    clear_value y0
    intro y1
    clear_value y1
    intro y2
    refine OnlyM.useHave (show Keeps x0 y2 from ?_) (fun hy2 => ?_)
    · unfold y2
      refine Keeps.comp (Keeps.of (forgetPassed_only _ _ _) (by rfl)) ?_
      refine Keeps.comp (Keeps.of (setEntry_only _ _ _ _) (by rfl)) ?_
      assumption
    clear_value y2
    refine Keeps.ite ?_ ?_
    · split
      · refine Keeps.comp (releasePassed_keeps _ _ _ _ _) ?_
        assumption
      · assumption
    · assumption

theorem encoderReturn_keeps : ∀ x0, Keeps x0 (encoderReturn x0) := by
  intro x0
  unfold encoderReturn
  lift_lets
  intro y0
  clear_value y0
  intro y1
  refine OnlyM.useHave (show Keeps x0 y1 from ?_) (fun hy1 => ?_)
  · unfold y1
    refine Keeps.comp (Keeps.of (upd_pos _ _) (by rfl)) ?_
    exact Keeps.refl _
  clear_value y1
  intro y2
  clear_value y2
  intro y3
  refine OnlyM.useHave (show Keeps x0 y3 from ?_) (fun hy3 => ?_)
  · unfold y3
    refine Keeps.comp (setPosMode_keeps _ _) ?_
    refine Keeps.comp (Keeps.of (upd_pos _ _) (by rfl)) ?_
    assumption
  clear_value y3
  intro y4
  clear_value y4
  intro y5
  refine OnlyM.useHave (show Keeps x0 y5 from ?_) (fun hy5 => ?_)
  · unfold y5
    refine Keeps.comp (setPosMode_keeps _ _) ?_
    refine Keeps.comp (Keeps.of (upd_pos _ _) (by rfl)) ?_
    assumption
  clear_value y5
  split
  · refine Keeps.comp (releaseHeld_keeps _ _ _) ?_
    assumption
  · refine Keeps.comp (releaseHeld_keeps _ _ _) ?_
    assumption
  · assumption

theorem frameRecord_keeps : ∀ x0 x1 x2, Keeps x0 (frameRecord x0 x1 x2) := by
  intro x0 x1 x2
  unfold frameRecord
  lift_lets
  intro y0
  clear_value y0
  intro y1
  refine OnlyM.useHave (show Keeps x0 y1 from ?_) (fun hy1 => ?_)
  · unfold y1
    refine Keeps.comp (Keeps.of (putObj_only _ _ _ _) (by rfl)) ?_
    exact Keeps.refl _
  clear_value y1
  intro y2
  clear_value y2
  intro y3
  clear_value y3
  intro y4
  clear_value y4
  intro y5
  intro y6
  refine OnlyM.useHave (show Keeps x0 y6.1 from ?_) (fun hy6 => ?_)
  · unfold y6
    refine Keeps.comp (engStore_keeps _ _ _ _) ?_
    assumption
  clear_value y6
  intro y7
  refine OnlyM.useHave (show Keeps x0 y7 from ?_) (fun hy7 => ?_)
  · unfold y7
    unfold y5
    dsimp -proj only
    split
    · refine Keeps.comp (Keeps.of (setStm_only _ _ _) (by rfl)) ?_
      refine Keeps.comp (Keeps.of (setReg_only _ _ _) (by rfl)) ?_
      assumption
    · refine Keeps.comp (Keeps.of (setReg_only _ _ _) (by rfl)) ?_
      assumption
  clear_value y7
  refine Keeps.ite ?_ ?_
  · refine Keeps.ite ?_ ?_
    · refine Keeps.comp (hostIrq_keeps _ _) ?_
      assumption
    · assumption
  · unfold y5
    dsimp -proj only
    split
    · refine Keeps.comp (Keeps.of (setStm_only _ _ _) (by rfl)) ?_
      refine Keeps.comp (Keeps.of (bump_only _ _ _ _) (by rfl)) ?_
      assumption
    · refine Keeps.comp (Keeps.of (bump_only _ _ _ _) (by rfl)) ?_
      assumption

theorem grottoWrite_keeps : ∀ x0 x1 x2, Keeps x0 (grottoWrite x0 x1 x2) := by
  intro x0 x1 x2
  unfold grottoWrite
  refine Keeps.comp (keeps_mem _ _ ?_) ?_
  · exact ⟨rfl, rfl⟩
  · exact Keeps.refl _

theorem grottoImage_keeps : ∀ x0 x1, Keeps x0 (grottoImage x0 x1) := by
  intro x0 x1
  have h : ∀ s a l, Keeps s (grottoWrite s a l) := fun s a l => ⟨.refl _, .refl _, dramInv_of_mem ⟨rfl, rfl⟩, fun h => h⟩
  unfold grottoImage
  split
  · exact Keeps.refl _
  · unfold writePlanes
    refine Keeps.foldl (Keeps.refl _) (fun _ _ hu => ?_)
    refine Keeps.foldl hu (fun _ _ hv => ?_)
    exact hv.trans (h _ _ _)

theorem streamStart_keeps : ∀ x0 x1, Keeps x0 (streamStart x0 x1) := by
  intro x0 x1
  unfold streamStart
  refine Keeps.ite ?_ ?_
  · exact Keeps.refl _
  · split
    · split
      · refine Keeps.comp (graphRequest_keeps _ _ _) ?_
        refine Keeps.comp (Keeps.of (useFresh_only _ _ _) (by rfl)) ?_
        exact Keeps.refl _
      · exact Keeps.refl _
    · split
      · lift_lets
        intro y0
        clear_value y0
        intro y1
        clear_value y1
        intro y2
        clear_value y2
        intro y3
        clear_value y3
        refine Keeps.ite ?_ ?_
        · refine Keeps.comp (noRun_keeps _ _ _ _) ?_
          refine Keeps.comp (Keeps.of (useFresh_only _ _ _) (by rfl)) ?_
          exact Keeps.refl _
        · refine Keeps.comp (graphRequest_keeps _ _ _) ?_
          refine Keeps.comp (Keeps.of (useFresh_only _ _ _) (by rfl)) ?_
          exact Keeps.refl _
      · exact Keeps.refl _
    · exact Keeps.refl _

theorem offerBuffer_keeps : ∀ x0 x1 x2 x3, Keeps x0 (offerBuffer x0 x1 x2 x3) := by
  intro x0 x1 x2 x3
  unfold offerBuffer
  refine Keeps.ite ?_ ?_
  · exact Keeps.refl _
  · refine Keeps.comp (streamStart_keeps _ _) ?_
    refine Keeps.comp (Keeps.of (setGph_only _ _ _) (by rfl)) ?_
    exact Keeps.refl _

theorem wakeQueue_keeps : ∀ x0 x1 x2 x3, Keeps x0 (wakeQueue x0 x1 x2 x3) := by
  intro x0 x1 x2 x3
  unfold wakeQueue
  split
  · exact Keeps.refl _
  · refine Keeps.ite ?_ ?_
    · exact Keeps.refl _
    · lift_lets
      intro y0
      clear_value y0
      intro y1
      clear_value y1
      split
      · refine Keeps.comp (jobAdvance_keeps _ _) ?_
        refine Keeps.comp (Keeps.of (setJob_only _ _ _) (by rfl)) ?_
        exact Keeps.refl _
      · refine Keeps.comp (completeJob_keeps _ _ _ _) ?_
        exact Keeps.refl _

theorem publish_keeps : ∀ x0 x1 x2 x3 x4 x5 x6, Keeps x0 (publish x0 x1 x2 x3 x4 x5 x6) := by
  intro x0 x1 x2 x3 x4 x5 x6
  unfold publish
  lift_lets
  intro y0
  clear_value y0
  intro y1
  refine OnlyM.useHave (show Keeps x0 y1 from ?_) (fun hy1 => ?_)
  · unfold y1
    refine Keeps.comp (Keeps.of (setFlag_only _ _ _) (by rfl)) ?_
    exact Keeps.refl _
  clear_value y1
  refine Keeps.foldl ?_ (fun _ _ _ => ?_)
  · assumption
  · refine Keeps.comp (wakeQueue_keeps _ _ _ _) ?_
    assumption

theorem finishFrame_keeps : ∀ x0 x1 x2, Keeps x0 (finishFrame x0 x1 x2) := by
  intro x0 x1 x2
  unfold finishFrame
  lift_lets
  intro y0
  clear_value y0
  intro y1
  clear_value y1
  intro y2
  refine OnlyM.useHave (show Keeps x0 y2 from ?_) (fun hy2 => ?_)
  · unfold y2
    refine Keeps.comp (embLines_keeps _ _ _) ?_
    refine Keeps.comp (dramImage_keeps _ _ _) ?_
    refine Keeps.comp (grottoImage_keeps _ _) ?_
    exact Keeps.refl _
  clear_value y2
  intro y3
  refine OnlyM.useHave (show Keeps x0 y3 from ?_) (fun hy3 => ?_)
  · unfold y3
    refine Keeps.ite ?_ ?_
    · refine Keeps.comp (Keeps.of (bump_only _ _ _ _) (by rfl)) ?_
      assumption
    · refine Keeps.ite ?_ ?_
      · refine Keeps.comp (Keeps.of (bump_only _ _ _ _) (by rfl)) ?_
        assumption
      · assumption
  clear_value y3
  intro y4
  refine OnlyM.useHave (show Keeps x0 y4 from ?_) (fun hy4 => ?_)
  · unfold y4
    refine Keeps.ite ?_ ?_
    · refine Keeps.comp (Keeps.of (bump_only _ _ _ _) (by rfl)) ?_
      assumption
    · assumption
  clear_value y4
  intro y5
  refine OnlyM.useHave (show Keeps x0 y5 from ?_) (fun hy5 => ?_)
  · unfold y5
    refine Keeps.comp (frameRecord_keeps _ _ _) ?_
    assumption
  clear_value y5
  split
  · assumption
  · lift_lets
    intro y6
    clear_value y6
    intro y7
    clear_value y7
    refine Keeps.ite ?_ ?_
    · refine Keeps.comp (offerBuffer_keeps _ _ _ _) ?_
      refine Keeps.comp (publish_keeps _ _ _ _ _ _ _) ?_
      assumption
    · refine Keeps.comp (Keeps.of (setFlag_only _ _ _) (by rfl)) ?_
      assumption

theorem endFrame_keeps : ∀ x0 x1 x2, Keeps x0 (endFrame x0 x1 x2) := by
  intro x0 x1 x2
  unfold endFrame
  lift_lets
  intro y0
  clear_value y0
  split
  · exact Keeps.refl _
  · lift_lets
    intro y1
    clear_value y1
    refine Keeps.ite ?_ ?_
    · refine Keeps.comp (finishFrame_keeps _ _ _) ?_
      refine Keeps.comp (Keeps.of (setStm_only _ _ _) (by rfl)) ?_
      exact Keeps.refl _
    · refine Keeps.comp (Keeps.of (setStm_only _ _ _) (by rfl)) ?_
      exact Keeps.refl _

theorem endRun_keeps : ∀ x0 x1 x2, Keeps x0 (endRun x0 x1 x2) := by
  intro x0 x1 x2
  unfold endRun
  lift_lets
  intro y0
  refine OnlyM.useHave (show Keeps x0 y0 from ?_) (fun hy0 => ?_)
  · unfold y0
    refine Keeps.comp (Keeps.of (endCopies_only _ _ _) (by rfl)) ?_
    exact Keeps.refl _
  clear_value y0
  intro y1
  refine OnlyM.useHave (show Keeps x0 y1 from ?_) (fun hy1 => ?_)
  · unfold y1
    refine Keeps.ite ?_ ?_
    · refine Keeps.comp (Keeps.of (bump_only _ _ _ _) (by rfl)) ?_
      assumption
    · refine Keeps.ite ?_ ?_
      · refine Keeps.comp (Keeps.of (bump_only _ _ _ _) (by rfl)) ?_
        assumption
      · assumption
  clear_value y1
  intro y2
  refine OnlyM.useHave (show Keeps x0 y2 from ?_) (fun hy2 => ?_)
  · unfold y2
    refine Keeps.ite ?_ ?_
    · refine Keeps.comp (Keeps.of (bump_only _ _ _ _) (by rfl)) ?_
      assumption
    · assumption
  clear_value y2
  intro y3
  clear_value y3
  intro y4
  refine OnlyM.useHave (show Keeps x0 y4 from ?_) (fun hy4 => ?_)
  · unfold y4
    refine Keeps.comp (visRecord_keeps _ _ _ _ _) ?_
    assumption
  clear_value y4
  intro y5
  refine OnlyM.useHave (show Keeps x0 y5 from ?_) (fun hy5 => ?_)
  · unfold y5
    refine Keeps.foldl ?_ (fun _ _ _ => ?_)
    · assumption
    · refine Keeps.comp (Keeps.of (flagRelease_only _ _) (by rfl)) ?_
      assumption
  clear_value y5
  intro y6
  clear_value y6
  refine Keeps.comp (Keeps.of (setGph_only _ _ _) (by rfl)) ?_
  assumption

theorem keepEnter_keeps : ∀ x0, Keeps x0 (keepEnter x0) := by
  intro x0
  unfold keepEnter
  lift_lets
  intro y0
  clear_value y0
  intro y1
  refine OnlyM.useHave (show Keeps x0 y1 from ?_) (fun hy1 => ?_)
  · unfold y1
    refine Keeps.foldl ?_ (fun _ _ _ => ?_)
    · exact Keeps.refl _
    · refine Keeps.comp (Keeps.of (setReg_only _ _ _) (by rfl)) ?_
      assumption
  clear_value y1
  intro y2
  refine OnlyM.useHave (show Keeps x0 y2 from ?_) (fun hy2 => ?_)
  · unfold y2
    refine Keeps.comp (Keeps.of (setReg_only _ _ _) (by rfl)) ?_
    assumption
  clear_value y2
  intro y3
  refine Keeps.comp (dramLose_keeps _ _) ?_
  refine Keeps.comp (keeps_mem _ _ ?_) ?_
  · exact ⟨rfl, rfl⟩
  · assumption

theorem hostReset_keeps : ∀ x0 x1 x2, Keeps x0 (hostReset x0 x1 x2) := by
  intro x0 x1 x2
  unfold hostReset
  lift_lets
  intro y0
  intro y1
  refine OnlyM.useHave (show Keeps x0 y1 from ?_) (fun hy1 => ?_)
  · unfold y1
    refine Keeps.ite ?_ ?_
    · refine Keeps.comp (keepEnter_keeps _) ?_
      refine Keeps.comp (keeps_mem _ _ ?_) ?_
      · exact ⟨rfl, rfl⟩
      · exact Keeps.refl _
    · refine Keeps.comp (dramLose_keeps _ _) ?_
      exact Keeps.refl _
  clear_value y1
  intro y2
  clear_value y2
  intro y3
  refine OnlyM.useHave (show Keeps x0 y3 from ?_) (fun hy3 => ?_)
  · unfold y3
    refine Keeps.comp (Keeps.of (resetRegs_only _ _) (by rfl)) ?_
    assumption
  clear_value y3
  intro y4
  refine OnlyM.useHave (show Keeps x0 y4 from ?_) (fun hy4 => ?_)
  · unfold y4
    refine Keeps.ite ?_ ?_
    · refine Keeps.comp (Keeps.of (setReg_only _ _ _) (by rfl)) ?_
      assumption
    · assumption
  clear_value y4
  intro y5
  refine OnlyM.useHave (show Keeps x0 y5 from ?_) (fun hy5 => ?_)
  · unfold y5
    refine Keeps.comp (Keeps.of (kvReset_only _ _) (by rfl)) ?_
    refine Keeps.comp (Keeps.of (forwardsAbort_only _) (by rfl)) ?_
    refine Keeps.comp (Keeps.of (setsHostDown_only _) (by rfl)) ?_
    assumption
  clear_value y5
  intro y6
  clear_value y6
  intro y7
  refine OnlyM.useHave (show Keeps x0 y7 from ?_) (fun hy7 => ?_)
  · unfold y7
    refine Keeps.comp (Keeps.of (bump_only _ _ _ _) (by rfl)) ?_
    assumption
  clear_value y7
  intro y8
  refine OnlyM.useHave (show Keeps x0 y8 from ?_) (fun hy8 => ?_)
  · unfold y8
    refine Keeps.comp (Keeps.of (dropPins_only _ _) (by rfl)) ?_
    assumption
  clear_value y8
  intro y9
  intro y10
  clear_value y10
  intro y11
  clear_value y11
  intro y12
  clear_value y12
  intro y13
  intro y14
  clear_value y14
  refine Keeps.comp (keeps_hboot_hobj_replica_hclk_trep_pairs_fend_hend_link_hostSlots_fwdValue_portXfer_portWaits_fieldXfers_sets_mem_streams_trig_flags_graphs_runOrder_engines_gal_lan_comp_saf_pwr_hostInts _ _ _ _ _ _ _ _ _ _ _ _ _ _ _ _ _ _ _ _ _ _ _ _ _ _ _ _ _ ?_ ?_ ?_) ?_
  · exact ⟨rfl, rfl, rfl, fun h => absurd h Bool.false_ne_true⟩
  · exact ⟨rfl, rfl⟩
  · exact fun h => ⟨by first | exact h.1 | exact Nat.zero_le _ | exact List.length_take_le _ _, h.2.1, by first | exact h.2.2.1 | exact Nat.zero_le _, by first | exact h.2.2.2 | exact Nat.zero_le _ | exact List.length_take_le _ _⟩
  · assumption

theorem hostFall_keeps : ∀ x0, Keeps x0 (hostFall x0) := by
  intro x0
  unfold hostFall
  lift_lets
  intro y0
  refine OnlyM.useHave (show Keeps x0 y0 from ?_) (fun hy0 => ?_)
  · unfold y0
    refine Keeps.comp (hostReset_keeps _ _ _) ?_
    exact Keeps.refl _
  clear_value y0
  intro y1
  clear_value y1
  refine Keeps.comp (Keeps.of (upd_pwr _ _) (by rfl)) ?_
  assumption

theorem hostOff_keeps : ∀ x0 x1, Keeps x0 (hostOff x0 x1) := by
  intro x0 x1
  unfold hostOff
  lift_lets
  intro y0
  refine OnlyM.useHave (show Keeps x0 y0 from ?_) (fun hy0 => ?_)
  · unfold y0
    refine Keeps.comp (hostFall_keeps _) ?_
    exact Keeps.refl _
  clear_value y0
  intro y1
  intro y2
  clear_value y2
  refine Keeps.comp (keeps_hboot_pwr _ _ _ ?_) ?_
  · exact ⟨rfl, rfl, rfl, fun h => .inl h⟩
  · assumption

theorem enterLow_keeps : ∀ x0 x1, Keeps x0 (enterLow x0 x1) := by
  intro x0 x1
  unfold enterLow
  lift_lets
  intro y0
  clear_value y0
  intro y1
  clear_value y1
  intro y2
  clear_value y2
  intro y3
  refine OnlyM.useHave (show Keeps x0 y3 from ?_) (fun hy3 => ?_)
  · unfold y3
    refine Keeps.comp (hostReset_keeps _ _ _) ?_
    exact Keeps.refl _
  clear_value y3
  intro y4
  refine OnlyM.useHave (show Keeps x0 y4 from ?_) (fun hy4 => ?_)
  · unfold y4
    refine Keeps.foldl ?_ (fun _ _ _ => ?_)
    · assumption
    · refine Keeps.comp (Keeps.of (putObj_only _ _ _ _) (by rfl)) ?_
      assumption
  clear_value y4
  intro y5
  intro y6
  clear_value y6
  intro y7
  refine OnlyM.useHave (show Keeps x0 y7 from ?_) (fun hy7 => ?_)
  · unfold y7
    refine Keeps.comp (keeps_hboot_pwr _ _ _ ?_) ?_
    · exact ⟨rfl, rfl, rfl, fun h => .inl h⟩
    · assumption
  clear_value y7
  refine Keeps.ite ?_ ?_
  · refine Keeps.comp (hostOff_keeps _ _) ?_
    exact Keeps.refl _
  · refine Keeps.ite ?_ ?_
    · refine Keeps.comp (wakeUp_keeps _ _) ?_
      assumption
    · assumption

theorem fieldReset_keeps : ∀ x0 x1, Keeps x0 (fieldReset x0 x1) := by
  intro x0 x1
  unfold fieldReset
  lift_lets
  intro y0
  refine OnlyM.useHave (show Keeps x0 y0 from ?_) (fun hy0 => ?_)
  · unfold y0
    refine Keeps.comp (Keeps.of (tallyLost_only _) (by rfl)) ?_
    refine Keeps.comp (linkDown_keeps _) ?_
    exact Keeps.refl _
  clear_value y0
  intro y1
  clear_value y1
  intro y2
  refine OnlyM.useHave (show Keeps x0 y2 from ?_) (fun hy2 => ?_)
  · unfold y2
    refine Keeps.comp (Keeps.of (dropPins_only _ _) (by rfl)) ?_
    assumption
  clear_value y2
  intro y3
  clear_value y3
  intro y4
  refine OnlyM.useHave (show Keeps x0 y4 from ?_) (fun hy4 => ?_)
  · unfold y4
    refine Keeps.comp (Keeps.of (holdAll_only _ _) (by rfl)) ?_
    refine Keeps.comp (Keeps.of (upd_replica _ _) (by rfl)) ?_
    assumption
  clear_value y4
  intro y5
  intro y6
  clear_value y6
  refine Keeps.comp (keeps_fboot_fobj_pos_fEntries_hMaster_tEntries_fclk_pairs_sync_fend_link_fieldXfers_sets_undo_keptHost_bus_axes_ctl_eng_saf _ _ _ _ _ _ _ _ _ _ _ _ _ _ _ _ _ _ _ _ _ ?_ ?_) ?_
  · exact ⟨rfl, rfl, rfl, fun h => absurd h Bool.false_ne_true⟩
  · exact safReset_keeps _
  · assumption

theorem fullResetWrite_keeps : ∀ x0, Keeps x0 (fullResetWrite x0).1 := by
  intro x0
  unfold fullResetWrite
  refine Keeps.ite1 ?_ ?_
  · refine Keeps.pair ?_
    exact Keeps.refl _
  · refine Keeps.pair ?_
    refine Keeps.comp (Keeps.of (ropeSend_only _ _ _) (by rfl)) ?_
    refine Keeps.comp (keeps_fboot _ _ ?_) ?_
    · exact ⟨rfl, rfl, rfl, fun h => .inl h⟩
    · exact Keeps.refl _

theorem stepCompare_keeps : ∀ x0 x1 x2 x3, Keeps x0 (stepCompare x0 x1 x2 x3) := by
  intro x0 x1 x2 x3
  unfold stepCompare
  lift_lets
  intro y0
  clear_value y0
  intro y1
  clear_value y1
  refine Keeps.foldl ?_ (fun _ _ _ => ?_)
  · refine Keeps.comp (Keeps.of (crossSets_only _ _ _ _ _ _) (by rfl)) ?_
    exact Keeps.refl _
  · lift_lets
    intro y2
    clear_value y2
    intro y3
    clear_value y3
    refine Keeps.ite ?_ ?_
    · refine Keeps.ite ?_ ?_
      · refine Keeps.comp (Keeps.of (notePassed_only _ _ _ _) (by rfl)) ?_
        assumption
      · refine Keeps.comp (lateOrMiss_keeps _ _ _ _) ?_
        assumption
    · assumption

theorem stepTo_keeps : ∀ x0 x1, Keeps x0 (stepTo x0 x1) := by
  intro x0 x1
  unfold stepTo
  lift_lets
  intro y0
  clear_value y0
  intro y1
  clear_value y1
  intro y2
  refine OnlyM.useHave (show Keeps x0 y2 from ?_) (fun hy2 => ?_)
  · unfold y2
    refine Keeps.comp (Keeps.of (setReading_only _ _) (by rfl)) ?_
    exact Keeps.refl _
  clear_value y2
  intro y3
  refine OnlyM.useHave (show Keeps x0 y3 from ?_) (fun hy3 => ?_)
  · unfold y3
    refine Keeps.comp (Keeps.of (putI_only _ _ _ _) (by rfl)) ?_
    assumption
  clear_value y3
  intro y4
  refine OnlyM.useHave (show Keeps x0 y4 from ?_) (fun hy4 => ?_)
  · unfold y4
    refine Keeps.comp (posRec_keeps _ _ _ _ _ _ _) ?_
    assumption
  clear_value y4
  intro y5
  refine OnlyM.useHave (show Keeps x0 y5 from ?_) (fun hy5 => ?_)
  · unfold y5
    refine Keeps.comp (stepCompare_keeps _ _ _ _) ?_
    assumption
  clear_value y5
  refine Keeps.comp (Keeps.of (pulseCntEnds_only _ _ _ _) (by rfl)) ?_
  assumption

theorem rereferenceWrite_keeps : ∀ x0 x1, Keeps x0 (rereferenceWrite x0 x1).1 := by
  intro x0 x1
  unfold rereferenceWrite
  refine Keeps.ite1 ?_ ?_
  · refine Keeps.pair ?_
    exact Keeps.refl _
  · lift_lets
    intro y0
    clear_value y0
    intro y1
    clear_value y1
    intro y2
    clear_value y2
    intro y3
    clear_value y3
    intro y4
    clear_value y4
    intro y5
    refine OnlyM.useHave (show Keeps x0 y5 from ?_) (fun hy5 => ?_)
    · unfold y5
      refine Keeps.comp (Keeps.of (upd_pos _ _) (by rfl)) ?_
      exact Keeps.refl _
    clear_value y5
    intro y6
    refine OnlyM.useHave (show Keeps x0 y6 from ?_) (fun hy6 => ?_)
    · unfold y6
      split
      · refine Keeps.comp (releaseHeld_keeps _ _ _) ?_
        assumption
      · refine Keeps.comp (releaseHeld_keeps _ _ _) ?_
        assumption
      · assumption
    clear_value y6
    intro y7
    refine OnlyM.useHave (show Keeps x0 y7 from ?_) (fun hy7 => ?_)
    · unfold y7
      refine Keeps.comp (Keeps.of (moveIndexRef_only _ _) (by rfl)) ?_
      refine Keeps.comp (stepTo_keeps _ _) ?_
      assumption
    clear_value y7
    intro y8
    clear_value y8
    intro y9
    refine OnlyM.useHave (show Keeps x0 y9 from ?_) (fun hy9 => ?_)
    · unfold y9
      refine Keeps.comp (Keeps.of (putN_only _ _ _ _) (by rfl)) ?_
      refine Keeps.comp (Keeps.of (upd_pos _ _) (by rfl)) ?_
      assumption
    clear_value y9
    intro y10
    refine OnlyM.useHave (show Keeps x0 y10 from ?_) (fun hy10 => ?_)
    · unfold y10
      refine Keeps.ite ?_ ?_
      · assumption
      · refine Keeps.comp (Keeps.of (positionNotice_only _ _) (by rfl)) ?_
        assumption
    clear_value y10
    intro y11
    clear_value y11
    refine Keeps.pair ?_
    refine Keeps.ite ?_ ?_
    · assumption
    · refine Keeps.comp (encoderLoss_keeps _) ?_
      assumption

theorem rollbackWrite_keeps : ∀ x0 x1 x2, Keeps x0 (rollbackWrite x0 x1 x2).1 := by
  intro x0 x1 x2
  unfold rollbackWrite
  split
  · refine Keeps.pair ?_
    exact Keeps.refl _
  · lift_lets
    intro y0
    clear_value y0
    intro y1
    refine OnlyM.useHave (show Keeps x0 y1 from ?_) (fun hy1 => ?_)
    · unfold y1
      refine Keeps.comp (Keeps.of (setStg_only _ _ _) (by rfl)) ?_
      exact Keeps.refl _
    clear_value y1
    refine Keeps.pair ?_
    refine Keeps.ite ?_ ?_
    · refine Keeps.comp (Keeps.of (failSet_only _ _ _ _ _) (by rfl)) ?_
      assumption
    · refine Keeps.comp (checkSet_keeps _ _) ?_
      assumption

theorem stageArm_keeps : ∀ x0 x1 x2 x3 x4, Keeps x0 (stageArm x0 x1 x2 x3 x4).1 := by
  intro x0 x1 x2 x3 x4
  unfold stageArm
  lift_lets
  intro y0
  clear_value y0
  refine Keeps.ite1 ?_ ?_
  · refine Keeps.pair ?_
    exact Keeps.refl _
  · refine Keeps.pair ?_
    refine Keeps.comp (armSet_keeps _ _ _ _) ?_
    refine Keeps.comp (Keeps.of (setStg_only _ _ _) (by rfl)) ?_
    exact Keeps.refl _

theorem stageCheck_keeps : ∀ x0 x1 x2 x3 x4, Keeps x0 (stageCheck x0 x1 x2 x3 x4).1 := by
  intro x0 x1 x2 x3 x4
  unfold stageCheck
  lift_lets
  intro y0
  clear_value y0
  refine Keeps.ite1 ?_ ?_
  · refine Keeps.pair ?_
    exact Keeps.refl _
  · refine Keeps.pair ?_
    refine Keeps.comp (checkSet_keeps _ _) ?_
    refine Keeps.comp (Keeps.of (setStg_only _ _ _) (by rfl)) ?_
    exact Keeps.refl _

theorem stageCommand_keeps : ∀ x0 x1 x2 x3 x4, Keeps x0 (stageCommand x0 x1 x2 x3 x4).1 := by
  intro x0 x1 x2 x3 x4
  unfold stageCommand
  lift_lets
  intro y0
  clear_value y0
  intro y1
  split
  · unfold y1
    refine Keeps.pair ?_
    refine Keeps.comp (Keeps.of (stageOpen_only _ _ _) (by rfl)) ?_
    exact Keeps.refl _
  · refine Keeps.comp (stageCheck_keeps _ _ _ _ _) ?_
    exact Keeps.refl _
  · refine Keeps.comp (stageArm_keeps _ _ _ _ _) ?_
    exact Keeps.refl _
  · unfold y1
    refine Keeps.pair ?_
    refine Keeps.comp (Keeps.of (stageCancel_only _ _ _ _) (by rfl)) ?_
    exact Keeps.refl _
  · refine Keeps.pair ?_
    exact Keeps.refl _

theorem writeAct_keeps : ∀ x0 x1 x2 x3 x4 x5, Keeps x0 (writeAct x0 x1 x2 x3 x4 x5).1 := by
  intro x0 x1 x2 x3 x4 x5
  unfold writeAct
  lift_lets
  intro y0
  clear_value y0
  intro y1
  intro y2
  refine Keeps.ite1 ?_ ?_
  · unfold y1
    refine Keeps.pair ?_
    refine Keeps.comp (Keeps.of (storeWrite_only _ _ _ _) (by rfl)) ?_
    exact Keeps.refl _
  · refine Keeps.ite1 ?_ ?_
    · unfold y1
      refine Keeps.pair ?_
      refine Keeps.comp (Keeps.of (storeWrite_only _ _ _ _) (by rfl)) ?_
      exact Keeps.refl _
    · refine Keeps.ite1 ?_ ?_
      · refine Keeps.comp (rollbackWrite_keeps _ _ _) ?_
        exact Keeps.refl _
      · refine Keeps.ite1 ?_ ?_
        · refine Keeps.comp (stageCommand_keeps _ _ _ _ _) ?_
          exact Keeps.refl _
        · refine Keeps.ite1 ?_ ?_
          · unfold y1
            refine Keeps.pair ?_
            refine Keeps.comp (Keeps.of (stageAppend_only _ _ _ _) (by rfl)) ?_
            exact Keeps.refl _
          · refine Keeps.ite1 ?_ ?_
            · unfold y1
              refine Keeps.pair ?_
              refine Keeps.comp (Keeps.of (presetWrite_only _ _) (by rfl)) ?_
              exact Keeps.refl _
            · refine Keeps.ite1 ?_ ?_
              · unfold y1
                refine Keeps.pair ?_
                refine Keeps.comp (rereferenceWrite_keeps _ _) ?_
                exact Keeps.refl _
              · refine Keeps.ite1 ?_ ?_
                · unfold y1
                  refine Keeps.pair ?_
                  refine Keeps.comp (Keeps.of (reacquireWrite_only _) (by rfl)) ?_
                  exact Keeps.refl _
                · refine Keeps.ite1 ?_ ?_
                  · unfold y2
                    refine Keeps.pair ?_
                    refine Keeps.comp (Keeps.of (retrainWrite_only _ _) (by rfl)) ?_
                    exact Keeps.refl _
                  · refine Keeps.ite1 ?_ ?_
                    · unfold y2
                      refine Keeps.pair ?_
                      refine Keeps.comp (Keeps.of (putN_only _ _ _ _) (by rfl)) ?_
                      exact Keeps.refl _
                    · refine Keeps.ite1 ?_ ?_
                      · unfold y2
                        refine Keeps.pair ?_
                        refine Keeps.comp (Keeps.of (wakeWrite_only _) (by rfl)) ?_
                        exact Keeps.refl _
                      · refine Keeps.ite1 ?_ ?_
                        · refine Keeps.ite1 ?_ ?_
                          · unfold y2
                            refine Keeps.pair ?_
                            refine Keeps.comp (fieldReset_keeps _ _) ?_
                            exact Keeps.refl _
                          · unfold y1
                            refine Keeps.pair ?_
                            refine Keeps.comp (fullResetWrite_keeps _) ?_
                            exact Keeps.refl _
                        · refine Keeps.ite1 ?_ ?_
                          · unfold y1
                            refine Keeps.pair ?_
                            refine Keeps.pair ?_
                            refine Keeps.comp (keeps_fboot _ _ ?_) ?_
                            · exact commitWrite_keeps _ _
                            · exact Keeps.refl _
                          · refine Keeps.ite1 ?_ ?_
                            · unfold y2
                              refine Keeps.pair ?_
                              refine Keeps.comp (Keeps.of (clearLatchesOf_only _ _) (by rfl)) ?_
                              exact Keeps.refl _
                            · refine Keeps.ite1 ?_ ?_
                              · unfold y2
                                refine Keeps.pair ?_
                                refine Keeps.comp (Keeps.of (adcStart_only _ _) (by rfl)) ?_
                                exact Keeps.refl _
                              · refine Keeps.ite1 ?_ ?_
                                · unfold y2
                                  refine Keeps.pair ?_
                                  refine Keeps.comp (Keeps.of (flushFifo_only _ _) (by rfl)) ?_
                                  exact Keeps.refl _
                                · unfold y1
                                  refine Keeps.pair ?_
                                  refine Keeps.comp (applyValue_keeps _ _ _ _) ?_
                                  exact Keeps.refl _

theorem writeField_keeps : ∀ x0 x1 x2 x3 x4 x5, Keeps x0 (writeField x0 x1 x2 x3 x4 x5).1 := by
  intro x0 x1 x2 x3 x4 x5
  unfold writeField
  refine Keeps.ite1 ?_ ?_
  · refine Keeps.pair ?_
    exact Keeps.refl _
  · refine Keeps.ite1 ?_ ?_
    · refine Keeps.pair ?_
      exact Keeps.refl _
    · refine Keeps.comp (writeAct_keeps _ _ _ _ _ _) ?_
      exact Keeps.refl _

theorem objectWrite_keeps : ∀ x0 x1 x2 x3, Keeps x0 (objectWrite x0 x1 x2 x3) := by
  intro x0 x1 x2 x3
  unfold objectWrite
  refine Keeps.ite ?_ ?_
  · refine Keeps.comp (Keeps.of (settle_only _ _ _ _) (by rfl)) ?_
    refine Keeps.comp (writeField_keeps _ _ _ _ _ _) ?_
    exact Keeps.refl _
  · refine Keeps.ite ?_ ?_
    · refine Keeps.comp (Keeps.of (settle_only _ _ _ _) (by rfl)) ?_
      refine Keeps.comp (writeField_keeps _ _ _ _ _ _) ?_
      exact Keeps.refl _
    · exact Keeps.refl _

theorem execAdcSoftwareStart_keeps : ∀ x0 x1 x2, OutKeeps x2 (execAdcSoftwareStart x0 x1 x2) := by
  intro x0 x1 x2
  unfold execAdcSoftwareStart
  refine OutKeeps.next ?_
  refine Keeps.comp (objectWrite_keeps _ _ _ _) ?_
  exact Keeps.refl _

theorem execAlRequestBoot_keeps : ∀ x0, OutKeeps x0 (execAlRequestBoot x0) := by
  intro x0
  unfold execAlRequestBoot
  refine OutKeeps.next ?_
  refine Keeps.ite ?_ ?_
  · refine Keeps.comp (alRequest_keeps _ _) ?_
    exact Keeps.refl _
  · exact Keeps.refl _

theorem execAlRequestInit_keeps : ∀ x0, OutKeeps x0 (execAlRequestInit x0) := by
  intro x0
  unfold execAlRequestInit
  refine OutKeeps.next ?_
  refine Keeps.ite ?_ ?_
  · exact Keeps.refl _
  · refine Keeps.ite ?_ ?_
    · refine Keeps.comp (fieldReset_keeps _ _) ?_
      exact Keeps.refl _
    · refine Keeps.comp (alRequest_keeps _ _) ?_
      exact Keeps.refl _

theorem execAlRequestOp_keeps : ∀ x0, OutKeeps x0 (execAlRequestOp x0) := by
  intro x0
  unfold execAlRequestOp
  refine OutKeeps.next ?_
  refine Keeps.ite ?_ ?_
  · refine Keeps.comp (alRequest_keeps _ _) ?_
    exact Keeps.refl _
  · exact Keeps.refl _

theorem execAlRequestPreop_keeps : ∀ x0, OutKeeps x0 (execAlRequestPreop x0) := by
  intro x0
  unfold execAlRequestPreop
  refine OutKeeps.next ?_
  refine Keeps.ite ?_ ?_
  · refine Keeps.comp (alRequest_keeps _ _) ?_
    exact Keeps.refl _
  · exact Keeps.refl _

theorem execAlRequestSafeop_keeps : ∀ x0, OutKeeps x0 (execAlRequestSafeop x0) := by
  intro x0
  unfold execAlRequestSafeop
  refine OutKeeps.next ?_
  refine Keeps.ite ?_ ?_
  · refine Keeps.comp (alRequest_keeps _ _) ?_
    exact Keeps.refl _
  · exact Keeps.refl _

theorem execAliasWrite_keeps : ∀ x0 x1 x2, OutKeeps x2 (execAliasWrite x0 x1 x2) := by
  intro x0 x1 x2
  unfold execAliasWrite
  refine OutKeeps.next ?_
  refine Keeps.ite ?_ ?_
  · exact Keeps.refl _
  · refine Keeps.ite ?_ ?_
    · refine Keeps.comp (Keeps.of (upd_bus _ _) (by rfl)) ?_
      exact Keeps.refl _
    · refine Keeps.comp (keeps_hboot_bus _ _ _ ?_) ?_
      · exact ⟨rfl, rfl, rfl, fun h => .inl h⟩
      · exact Keeps.refl _

theorem hostAsk_keeps : ∀ x0 x1, Keeps x0 (hostAsk x0 x1) := by
  intro x0 x1
  unfold hostAsk
  refine Keeps.ite ?_ ?_
  · refine Keeps.comp (keeps_hboot _ _ ?_) ?_
    · exact ⟨rfl, rfl, rfl, fun h => .inl h⟩
    · exact Keeps.refl _
  · exact Keeps.refl _

theorem execAliveExpiry_keeps : ∀ x0, OutKeeps x0 (execAliveExpiry x0) := by
  intro x0
  unfold execAliveExpiry
  refine OutKeeps.next ?_
  refine Keeps.ite ?_ ?_
  · refine Keeps.comp (hostAsk_keeps _ _) ?_
    exact Keeps.refl _
  · exact Keeps.refl _

theorem switchWindows_keeps : ∀ x0, Keeps x0 (switchWindows x0) := by
  intro x0
  unfold switchWindows
  lift_lets
  intro y0
  clear_value y0
  intro y1
  clear_value y1
  intro y2
  refine Keeps.comp (keeps_mem _ _ ?_) ?_
  · exact ⟨rfl, rfl⟩
  · exact Keeps.refl _

theorem hostSettle_keeps : ∀ x0 x1 x2, Keeps x1 (hostSettle x0 x1 x2) := by
  intro x0 x1 x2
  unfold hostSettle
  lift_lets
  intro y0
  intro y1
  refine OnlyM.useHave (show Keeps x1 y1 from ?_) (fun hy1 => ?_)
  · unfold y1
    refine Keeps.ite ?_ ?_
    · refine Keeps.comp (Keeps.of (rebind_only _) (by rfl)) ?_
      exact Keeps.refl _
    · exact Keeps.refl _
  clear_value y1
  intro y2
  refine OnlyM.useHave (show Keeps x1 y2 from ?_) (fun hy2 => ?_)
  · unfold y2
    refine Keeps.ite ?_ ?_
    · refine Keeps.comp (Keeps.of (clearMoved_only _ _) (by rfl)) ?_
      assumption
    · assumption
  clear_value y2
  intro y3
  refine OnlyM.useHave (show Keeps x1 y3 from ?_) (fun hy3 => ?_)
  · unfold y3
    refine Keeps.ite ?_ ?_
    · refine Keeps.comp (switchWindows_keeps _) ?_
      assumption
    · assumption
  clear_value y3
  intro y4
  refine OnlyM.useHave (show Keeps x1 y4 from ?_) (fun hy4 => ?_)
  · unfold y4
    refine Keeps.ite ?_ ?_
    · refine Keeps.comp (Keeps.of (lanternApply_only _ _ _) (by rfl)) ?_
      assumption
    · assumption
  clear_value y4
  intro y5
  clear_value y5
  intro y6
  refine OnlyM.useHave (show Keeps x1 y6 from ?_) (fun hy6 => ?_)
  · unfold y6
    refine Keeps.ite ?_ ?_
    · refine Keeps.comp (Keeps.of (upd_pwr _ _) (by rfl)) ?_
      assumption
    · assumption
  clear_value y6
  refine Keeps.ite ?_ ?_
  · refine Keeps.comp (Keeps.of (powerWrite_only _ _) (by rfl)) ?_
    refine Keeps.comp (Keeps.of (putObj_only _ _ _ _) (by rfl)) ?_
    assumption
  · assumption

theorem judgeHost_keeps : ∀ x0, Keeps x0 (judgeHost x0) := by
  intro x0
  unfold judgeHost
  refine Keeps.foldl ?_ (fun _ _ _ => ?_)
  · exact Keeps.refl _
  · lift_lets
    intro y0
    clear_value y0
    refine Keeps.comp (judgeArmed_keeps _ _ _) ?_
    refine Keeps.ite ?_ ?_
    · refine Keeps.comp (Keeps.of (setEntry_only _ _ _ _) (by rfl)) ?_
      assumption
    · assumption

theorem installEntry_keeps : ∀ x0 x1 x2 x3, Keeps x0 (installEntry x0 x1 x2 x3) := by
  intro x0 x1 x2 x3
  unfold installEntry
  lift_lets
  intro y0
  clear_value y0
  intro y1
  refine OnlyM.useHave (show Keeps x0 y1 from ?_) (fun hy1 => ?_)
  · unfold y1
    refine Keeps.comp (Keeps.of (upd_replica _ _) (by rfl)) ?_
    exact Keeps.refl _
  clear_value y1
  intro y2
  refine OnlyM.useHave (show Keeps x0 y2 from ?_) (fun hy2 => ?_)
  · unfold y2
    refine Keeps.comp (judgeArmed_keeps _ _ _) ?_
    assumption
  clear_value y2
  intro y3
  clear_value y3
  intro y4
  refine OnlyM.useHave (show Keeps x0 y4 from ?_) (fun hy4 => ?_)
  · unfold y4
    refine Keeps.comp (Keeps.of (upd_replica _ _) (by rfl)) ?_
    assumption
  clear_value y4
  intro y5
  clear_value y5
  refine Keeps.ite ?_ ?_
  · refine Keeps.ite ?_ ?_
    · refine Keeps.comp (Keeps.of (upd_replica _ _) (by rfl)) ?_
      assumption
    · refine Keeps.comp (judgeHost_keeps _) ?_
      assumption
  · assumption

theorem hostSwitch_keeps : ∀ x0 x1 x2, Keeps x0 (hostSwitch x0 x1 x2) := by
  intro x0 x1 x2
  unfold hostSwitch
  lift_lets
  intro y0
  clear_value y0
  intro y1
  refine OnlyM.useHave (show Keeps x0 y1 from ?_) (fun hy1 => ?_)
  · unfold y1
    exact Keeps.refl _
  clear_value y1
  intro y2
  refine OnlyM.useHave (show Keeps x0 y2 from ?_) (fun hy2 => ?_)
  · unfold y2
    refine Keeps.foldl ?_ (fun _ _ _ => ?_)
    · exact Keeps.refl _
    · refine Keeps.comp (Keeps.of (putObj_only _ _ _ _) (by rfl)) ?_
      assumption
  clear_value y2
  intro y3
  refine OnlyM.useHave (show Keeps x0 y3 from ?_) (fun hy3 => ?_)
  · unfold y3
    refine Keeps.comp (hostSettle_keeps _ _ _) ?_
    assumption
  clear_value y3
  intro y4
  refine OnlyM.useHave (show Keeps x0 y4 from ?_) (fun hy4 => ?_)
  · unfold y4
    refine Keeps.foldl ?_ (fun _ _ _ => ?_)
    · assumption
    · refine Keeps.comp (Keeps.of (upd_hclk _ _) (by rfl)) ?_
      assumption
  clear_value y4
  refine Keeps.foldl ?_ (fun _ _ _ => ?_)
  · assumption
  · lift_lets
    intro y5
    clear_value y5
    refine Keeps.comp (installEntry_keeps _ _ _ _) ?_
    assumption

theorem hostApplySet_keeps : ∀ x0 x1 x2, Keeps x0 (hostApplySet x0 x1 x2) := by
  intro x0 x1 x2
  unfold hostApplySet
  lift_lets
  intro y0
  clear_value y0
  split
  · dsimp -proj only
    split
    · exact Keeps.refl _
    · refine Keeps.comp (Keeps.of (bump_only _ _ _ _) (by rfl)) ?_
      refine Keeps.comp (Keeps.of (setStg_only _ _ _) (by rfl)) ?_
      refine Keeps.comp (hostSwitch_keeps _ _ _) ?_
      exact Keeps.refl _
  · dsimp -proj only
    split
    · exact Keeps.refl _
    · refine Keeps.comp (Keeps.of (setStg_only _ _ _) (by rfl)) ?_
      refine Keeps.comp (hostSwitch_keeps _ _ _) ?_
      exact Keeps.refl _

theorem execApplyConfirmation_keeps : ∀ x0 x1, OutKeeps x1 (execApplyConfirmation x0 x1) := by
  intro x0 x1
  unfold execApplyConfirmation
  refine OutKeeps.next ?_
  split
  · refine Keeps.ite ?_ ?_
    · exact Keeps.refl _
    · split
      · refine Keeps.ite ?_ ?_
        · refine Keeps.comp (hostApplySet_keeps _ _ _) ?_
          exact Keeps.of (takeIn_of (by assumption)) (by rfl)
        · exact Keeps.of (takeIn_of (by assumption)) (by rfl)
      · exact Keeps.of (takeIn_of (by assumption)) (by rfl)
  · exact Keeps.refl _

theorem execApplyInstant_keeps : ∀ x0 x1, OutKeeps x1 (execApplyInstant x0 x1) := by
  intro x0 x1
  unfold execApplyInstant
  refine OutKeeps.next ?_
  refine Keeps.ite ?_ ?_
  · refine Keeps.comp (applyDue_keeps _ _) ?_
    refine Keeps.foldl ?_ (fun _ _ _ => ?_)
    · exact Keeps.refl _
    · refine Keeps.ite ?_ ?_
      · refine Keeps.comp (applyDue_keeps _ _) ?_
        assumption
      · assumption
  · exact Keeps.refl _

theorem execAxisCommandFlush_keeps : ∀ x0 x1 x2, OutKeeps x2 (execAxisCommandFlush x0 x1 x2) := by
  intro x0 x1 x2
  unfold execAxisCommandFlush
  refine OutKeeps.next ?_
  refine Keeps.comp (objectWrite_keeps _ _ _ _) ?_
  exact Keeps.refl _

theorem execAxisPass_keeps : ∀ x0 x1, OutKeeps x1 (execAxisPass x0 x1) := by
  intro x0 x1
  unfold execAxisPass
  lift_lets
  intro y0
  clear_value y0
  intro y1
  clear_value y1
  intro y2
  refine OnlyM.useHave (show Keeps x1 y2 from ?_) (fun hy2 => ?_)
  · unfold y2
    refine Keeps.comp (Keeps.of (upd_eng _ _) (by rfl)) ?_
    exact Keeps.refl _
  clear_value y2
  intro y3
  refine OnlyM.useHave (show Keeps x1 y3 from ?_) (fun hy3 => ?_)
  · unfold y3
    refine Keeps.comp (axisPass_keeps _ _) ?_
    assumption
  clear_value y3
  refine OutKeeps.next ?_
  refine Keeps.ite ?_ ?_
  · exact Keeps.refl _
  · refine Keeps.ite ?_ ?_
    · refine Keeps.comp (Keeps.of (cycleEnd_only _) (by rfl)) ?_
      assumption
    · assumption

theorem execBandwidthPeriod_keeps : ∀ x0, OutKeeps x0 (execBandwidthPeriod x0) := by
  intro x0
  unfold execBandwidthPeriod
  refine OutKeeps.next ?_
  refine Keeps.comp (keeps_mem _ _ ?_) ?_
  · exact ⟨rfl, rfl⟩
  · exact Keeps.refl _

theorem execBissFrameEnd_keeps : ∀ x0 x1 x2 x3 x4 x5 x6, OutKeeps x6 (execBissFrameEnd x0 x1 x2 x3 x4 x5 x6) := by
  intro x0 x1 x2 x3 x4 x5 x6
  unfold execBissFrameEnd
  lift_lets
  intro y0
  clear_value y0
  intro y1
  clear_value y1
  intro y2
  clear_value y2
  intro y3
  clear_value y3
  intro y4
  clear_value y4
  intro y5
  clear_value y5
  intro y6
  intro y7
  clear_value y7
  intro y8
  refine OnlyM.useHave (show Keeps x6 y8 from ?_) (fun hy8 => ?_)
  · unfold y8
    refine Keeps.comp (Keeps.of (putN_only _ _ _ _) (by rfl)) ?_
    refine Keeps.comp (Keeps.of (setAx_only _ _ _) (by rfl)) ?_
    exact Keeps.refl _
  clear_value y8
  refine OutKeeps.next ?_
  refine Keeps.ite ?_ ?_
  · exact Keeps.refl _
  · refine Keeps.ite ?_ ?_
    · refine Keeps.comp (Keeps.of (goodCapture_only _ _ _) (by rfl)) ?_
      refine Keeps.comp (Keeps.of (setAx_only _ _ _) (by rfl)) ?_
      assumption
    · refine Keeps.comp (absFault_keeps _ _ _) ?_
      assumption

theorem execBootLimitExpiry_keeps : ∀ x0, OutKeeps x0 (execBootLimitExpiry x0) := by
  intro x0
  unfold execBootLimitExpiry
  refine OutKeeps.next ?_
  refine Keeps.ite ?_ ?_
  · refine Keeps.comp (hostAsk_keeps _ _) ?_
    exact Keeps.refl _
  · exact Keeps.refl _

theorem portRecord_keeps : ∀ x0 x1, Keeps x0 (portRecord x0 x1) := by
  intro x0 x1
  unfold portRecord
  lift_lets
  intro y0
  refine Keeps.ite ?_ ?_
  · refine Keeps.comp (d2hEvent_keeps _ _) ?_
    exact Keeps.refl _
  · refine Keeps.ite ?_ ?_
    · refine Keeps.comp (d2hRecord_keeps _ _) ?_
      exact Keeps.refl _
    · exact Keeps.refl _

theorem execClass2RecordReceive_keeps : ∀ x0, OutKeeps x0 (execClass2RecordReceive x0) := by
  intro x0
  unfold execClass2RecordReceive
  refine OutKeeps.next ?_
  split
  · refine Keeps.ite ?_ ?_
    · refine Keeps.comp (portRecord_keeps _ _) ?_
      exact Keeps.of (takeIn_of (by assumption)) (by rfl)
    · exact Keeps.refl _
  · exact Keeps.refl _

theorem execClass5Result_keeps : ∀ x0, OutKeeps x0 (execClass5Result x0) := by
  intro x0
  unfold execClass5Result
  refine OutKeeps.next ?_
  split
  · lift_lets
    intro y0
    clear_value y0
    refine Keeps.ite ?_ ?_
    · refine Keeps.comp (Keeps.of (placeResult_only _ _ _ _) (by rfl)) ?_
      refine Keeps.comp (ageCount_keeps _ _) ?_
      exact Keeps.of (takeIn_of (by assumption)) (by rfl)
    · exact Keeps.refl _
  · exact Keeps.refl _

theorem execClearLatches_keeps : ∀ x0 x1 x2, OutKeeps x2 (execClearLatches x0 x1 x2) := by
  intro x0 x1 x2
  unfold execClearLatches
  refine OutKeeps.next ?_
  refine Keeps.comp (objectWrite_keeps _ _ _ _) ?_
  exact Keeps.refl _

theorem fieldClockLoss_keeps : ∀ x0, Keeps x0 (fieldClockLoss x0) := by
  intro x0
  unfold fieldClockLoss
  lift_lets
  intro y0
  clear_value y0
  intro y1
  clear_value y1
  refine Keeps.ite ?_ ?_
  · exact Keeps.refl _
  · split
    · refine Keeps.comp (setFclk_keeps _ _) ?_
      exact Keeps.refl _
    · refine Keeps.comp (Keeps.of (upd_fclk _ _) (by rfl)) ?_
      exact Keeps.refl _
    · refine Keeps.comp (Keeps.of (upd_fclk _ _) (by rfl)) ?_
      exact Keeps.refl _

theorem setHclk_keeps : ∀ x0 x1, Keeps x0 (setHclk x0 x1) := by
  intro x0 x1
  unfold setHclk
  lift_lets
  intro y0
  clear_value y0
  intro y1
  clear_value y1
  intro y2
  clear_value y2
  intro y3
  refine OnlyM.useHave (show Keeps x0 y3 from ?_) (fun hy3 => ?_)
  · unfold y3
    refine Keeps.comp (Keeps.of (upd_hclk _ _) (by rfl)) ?_
    exact Keeps.refl _
  clear_value y3
  intro y4
  refine OnlyM.useHave (show Keeps x0 y4 from ?_) (fun hy4 => ?_)
  · unfold y4
    refine Keeps.ite ?_ ?_
    · assumption
    · refine Keeps.comp (clockNoticeHost_keeps _ _) ?_
      assumption
  clear_value y4
  refine Keeps.ite ?_ ?_
  · assumption
  · refine Keeps.ite ?_ ?_
    · refine Keeps.comp (hostIrq_keeps _ _) ?_
      refine Keeps.comp (logHost_keeps _ _) ?_
      assumption
    · refine Keeps.ite ?_ ?_
      · refine Keeps.comp (hostIrq_keeps _ _) ?_
        refine Keeps.comp (logHost_keeps _ _) ?_
        assumption
      · assumption

theorem hostClockLoss_keeps : ∀ x0, Keeps x0 (hostClockLoss x0) := by
  intro x0
  unfold hostClockLoss
  lift_lets
  intro y0
  clear_value y0
  intro y1
  clear_value y1
  split
  · refine Keeps.comp (setHclk_keeps _ _) ?_
    exact Keeps.refl _
  · refine Keeps.comp (Keeps.of (upd_hclk _ _) (by rfl)) ?_
    exact Keeps.refl _
  · refine Keeps.comp (Keeps.of (upd_hclk _ _) (by rfl)) ?_
    exact Keeps.refl _

theorem execClockLossTimeout_keeps : ∀ x0 x1, OutKeeps x1 (execClockLossTimeout x0 x1) := by
  intro x0 x1
  unfold execClockLossTimeout
  refine OutKeeps.next ?_
  split
  · refine Keeps.ite ?_ ?_
    · refine Keeps.comp (fieldClockLoss_keeps _) ?_
      exact Keeps.refl _
    · exact Keeps.refl _
  · refine Keeps.ite ?_ ?_
    · refine Keeps.comp (hostClockLoss_keeps _) ?_
      exact Keeps.refl _
    · exact Keeps.refl _

theorem execCommitFieldTrial_keeps : ∀ x0 x1, OutKeeps x1 (execCommitFieldTrial x0 x1) := by
  intro x0 x1
  unfold execCommitFieldTrial
  refine OutKeeps.next ?_
  refine Keeps.ite ?_ ?_
  · lift_lets
    intro y0
    refine Keeps.comp (Keeps.of (sdoAnswer_only _ _ _ _ _) (by rfl)) ?_
    refine Keeps.comp (keeps_fboot _ _ ?_) ?_
    · exact commitWrite_keeps _ _
    · exact Keeps.refl _
  · exact Keeps.refl _

theorem execCommitHostTrial_keeps : ∀ x0 x1, OutKeeps x1 (execCommitHostTrial x0 x1) := by
  intro x0 x1
  unfold execCommitHostTrial
  refine OutKeeps.next ?_
  refine Keeps.ite ?_ ?_
  · lift_lets
    intro y0
    refine Keeps.comp (Keeps.of (sdoAnswer_only _ _ _ _ _) (by rfl)) ?_
    refine Keeps.comp (keeps_hboot _ _ ?_) ?_
    · exact commitWrite_keeps _ _
    · exact Keeps.refl _
  · exact Keeps.refl _

theorem wbRecord_keeps : ∀ x0 x1, Keeps x0 (wbRecord x0 x1) := by
  intro x0 x1
  unfold wbRecord
  lift_lets
  intro y0
  clear_value y0
  intro y1
  clear_value y1
  intro y2
  clear_value y2
  intro y3
  clear_value y3
  intro y4
  clear_value y4
  intro y5
  clear_value y5
  intro y6
  refine OnlyM.useHave (show Keeps x0 y6 from ?_) (fun hy6 => ?_)
  · unfold y6
    refine Keeps.comp (Keeps.of (upd_comp _ _) (by rfl)) ?_
    exact Keeps.refl _
  clear_value y6
  intro y7
  refine OnlyM.useHave (show Keeps x0 y7 from ?_) (fun hy7 => ?_)
  · unfold y7
    refine Keeps.ite ?_ ?_
    · refine Keeps.comp (Keeps.of (setReg_only _ _ _) (by rfl)) ?_
      refine Keeps.comp (engStore_keeps _ _ _ _) ?_
      assumption
    · assumption
  clear_value y7
  intro y8
  refine OnlyM.useHave (show Keeps x0 y8 from ?_) (fun hy8 => ?_)
  · unfold y8
    refine Keeps.ite ?_ ?_
    · refine Keeps.comp (hostIrq_keeps _ _) ?_
      assumption
    · assumption
  clear_value y8
  refine Keeps.comp (compIrq_keeps _ _) ?_
  assumption

theorem wbDrop_keeps : ∀ x0 x1, Keeps x0 (wbDrop x0 x1) := by
  intro x0 x1
  unfold wbDrop
  refine Keeps.comp (wbRecord_keeps _ _) ?_
  refine Keeps.comp (Keeps.of (bump_only _ _ _ _) (by rfl)) ?_
  exact Keeps.refl _

theorem wbStart_keeps : ∀ x0, Keeps x0 (wbStart x0) := by
  intro x0
  unfold wbStart
  refine Keeps.ite ?_ ?_
  · exact Keeps.refl _
  · lift_lets
    intro y0
    clear_value y0
    intro y1
    clear_value y1
    intro y2
    clear_value y2
    refine Keeps.ite ?_ ?_
    · refine Keeps.comp (Keeps.of (upd_comp _ _) (by rfl)) ?_
      exact Keeps.refl _
    · refine Keeps.comp (wbDrop_keeps _ _) ?_
      exact Keeps.refl _

theorem execCompFrameStart_keeps : ∀ x0, OutKeeps x0 (execCompFrameStart x0) := by
  intro x0
  unfold execCompFrameStart
  refine OutKeeps.next ?_
  refine Keeps.ite ?_ ?_
  · exact Keeps.refl _
  · lift_lets
    intro y0
    clear_value y0
    intro y1
    clear_value y1
    intro y2
    refine OnlyM.useHave (show Keeps x0 y2 from ?_) (fun hy2 => ?_)
    · unfold y2
      refine Keeps.comp (Keeps.of (upd_comp _ _) (by rfl)) ?_
      exact Keeps.refl _
    clear_value y2
    intro y3
    refine OnlyM.useHave (show Keeps x0 y3 from ?_) (fun hy3 => ?_)
    · unfold y3
      refine Keeps.comp (Keeps.of (bump_only _ _ _ _) (by rfl)) ?_
      refine Keeps.comp (Keeps.of (bump_only _ _ _ _) (by rfl)) ?_
      assumption
    clear_value y3
    refine Keeps.comp (wbStart_keeps _) ?_
    refine Keeps.comp (compIrq_keeps _ _) ?_
    assumption

theorem fetchLine_keeps : ∀ x0 x1, Keeps x0 (fetchLine x0 x1).1 := by
  intro x0 x1
  unfold fetchLine
  refine Keeps.foldl1 ?_ (fun _ _ _ => ?_)
  · refine Keeps.pair ?_
    exact Keeps.refl _
  · lift_lets
    intro y0
    refine OnlyM.useHave (show Keeps x0 y0.1 from ?_) (fun hy0 => ?_)
    · unfold y0
      refine Keeps.comp (engLoad_keeps _ _ _ _) ?_
      refine Keeps.comp (countLine_keeps _ _ _) ?_
      assumption
    clear_value y0
    refine Keeps.pair ?_
    assumption

theorem wbLine_keeps : ∀ x0 x1, Keeps x0 (wbLine x0 x1) := by
  intro x0 x1
  unfold wbLine
  split
  · exact Keeps.refl _
  · lift_lets
    intro y0
    clear_value y0
    intro y1
    clear_value y1
    intro y2
    intro y3
    refine OnlyM.useHave (show Keeps x0 y3 from ?_) (fun hy3 => ?_)
    · unfold y3
      unfold y2
      refine Keeps.foldl ?_ (fun _ _ _ => ?_)
      · exact Keeps.refl _
      · refine Keeps.comp (postStore_keeps _ _ _ _ _) ?_
        assumption
    clear_value y3
    split
    · unfold y2
      refine Keeps.foldl ?_ (fun _ _ _ => ?_)
      · exact Keeps.refl _
      · refine Keeps.comp (postStore_keeps _ _ _ _ _) ?_
        assumption
    · unfold y2
      refine Keeps.foldl ?_ (fun _ _ _ => ?_)
      · exact Keeps.refl _
      · refine Keeps.comp (postStore_keeps _ _ _ _ _) ?_
        assumption
    · refine Keeps.ite ?_ ?_
      · refine Keeps.comp (Keeps.of (drawn_only _) (by rfl)) ?_
        unfold y2
        refine Keeps.foldl ?_ (fun _ _ _ => ?_)
        · assumption
        · refine Keeps.comp (postStore_keeps _ _ _ _ _) ?_
          assumption
      · assumption
    · exact Keeps.refl _

theorem execCompLineStart_keeps : ∀ x0 x1 x2 x3, OutKeeps x3 (execCompLineStart x0 x1 x2 x3) := by
  intro x0 x1 x2 x3
  unfold execCompLineStart
  refine OutKeeps.next ?_
  refine Keeps.ite ?_ ?_
  · exact Keeps.refl _
  · lift_lets
    intro y0
    clear_value y0
    intro y1
    clear_value y1
    intro y2
    refine OnlyM.useHave (show Keeps x3 y2.1 from ?_) (fun hy2 => ?_)
    · unfold y2
      refine Keeps.comp (fetchLine_keeps _ _) ?_
      exact Keeps.refl _
    clear_value y2
    intro y3
    clear_value y3
    intro y4
    refine OnlyM.useHave (show Keeps x3 y4 from ?_) (fun hy4 => ?_)
    · unfold y4
      refine Keeps.ite ?_ ?_
      · assumption
      · refine Keeps.comp (Keeps.of (bump_only _ _ _ _) (by rfl)) ?_
        assumption
    clear_value y4
    intro y5
    clear_value y5
    intro y6
    clear_value y6
    intro y7
    clear_value y7
    intro y8
    clear_value y8
    intro y9
    refine OnlyM.useHave (show Keeps x3 y9 from ?_) (fun hy9 => ?_)
    · unfold y9
      refine Keeps.comp (Keeps.of (drawn_only _) (by rfl)) ?_
      refine Keeps.comp (Keeps.of (upd_comp _ _) (by rfl)) ?_
      assumption
    clear_value y9
    intro y10
    refine OnlyM.useHave (show Keeps x3 y10 from ?_) (fun hy10 => ?_)
    · unfold y10
      refine Keeps.ite ?_ ?_
      · refine Keeps.comp (compIrq_keeps _ _) ?_
        refine Keeps.comp (Keeps.of (bump_only _ _ _ _) (by rfl)) ?_
        assumption
      · assumption
    clear_value y10
    intro y11
    clear_value y11
    split
    · refine Keeps.comp (wbDrop_keeps _ _) ?_
      refine Keeps.comp (Keeps.of (upd_comp _ _) (by rfl)) ?_
      assumption
    · refine Keeps.comp (wbLine_keeps _ _) ?_
      assumption

theorem writeComplete_keeps : ∀ x0 x1 x2 x3 x4, (∀ s i k d, Keeps s (x0 s i k d).1) → Keeps x1 (writeComplete x0 x1 x2 x3 x4).1 := by
  intro x0 x1 x2 x3 x4 hw
  unfold writeComplete
  split
  · exact Keeps.refl _
  · refine OnlyM.useHave (P := Keeps x1 (List.foldl (fun (acc : State × List Byte × Nat) k =>
        let n := if k = 0 then 2 else osize x2 k
        if acc.2.2 ≠ 0 then acc
        else if acc.2.1.length < n then (acc.1, [], 0x06070010)
        else if k = 0 then (acc.1, acc.2.1.drop n, if acc.2.1.take n = live x1 x2 0 ++ [0] then 0 else 0x06010002)
        else
          let t := x0 acc.1 x2 k (acc.2.1.take n)
          (t.1, acc.2.1.drop n, t.2.getD 0)) (x1, x4, 0) (completeSubs x2 x3)).1) ?_ (fun h => ?_)
    · refine Keeps.foldl1 (Keeps.refl _) (fun u b hu => ?_)
      dsimp only
      refine Keeps.ite1 hu (Keeps.ite1 hu (Keeps.ite1 hu ?_))
      exact hu.trans (hw _ _ _ _)
    · dsimp only
      split
      · exact Keeps.refl _
      · split
        · exact h
        · exact Keeps.refl _

theorem writeAny_keeps : ∀ x0 x1 x2 x3 x4 x5 x6, Keeps x0 (writeAny x0 x1 x2 x3 x4 x5 x6).1 := by
  intro x0 x1 x2 x3 x4 x5 x6
  unfold writeAny
  refine Keeps.ite1 ?_ ?_
  · refine Keeps.pair ?_
    exact writeComplete_keeps _ _ _ _ _ (fun s i k d => writeField_keeps s x1 x2 i k d)
  · exact writeField_keeps _ _ _ _ _ _

theorem execConfirmedWriteReceive_keeps : ∀ x0 x1, OutKeeps x1 (execConfirmedWriteReceive x0 x1) := by
  intro x0 x1
  unfold execConfirmedWriteReceive
  refine OutKeeps.next ?_
  split
  · exact Keeps.refl _
  · lift_lets
    intro y0
    clear_value y0
    intro y1
    refine Keeps.ite ?_ ?_
    · refine Keeps.comp (Keeps.of (fieldResponse_only _ _ _ _ _ _ _ _ _) (by rfl)) ?_
      refine Keeps.ite ?_ ?_
      · refine Keeps.comp (Keeps.of (segmentIn_only _ _) (by rfl)) ?_
        exact Keeps.of (takeRequest_of (by assumption)) (by rfl)
      · exact Keeps.of (takeRequest_of (by assumption)) (by rfl)
    · refine Keeps.comp (Keeps.of (settle_only _ _ _ _) (by rfl)) ?_
      refine Keeps.comp (writeAny_keeps _ _ _ _ _ _ _) ?_
      refine Keeps.comp (Keeps.of (segmentIn_only _ _) (by rfl)) ?_
      exact Keeps.of (takeRequest_of (by assumption)) (by rfl)

theorem execControlCycleStart_keeps : ∀ x0, OutKeeps x0 (execControlCycleStart x0) := by
  intro x0
  unfold execControlCycleStart
  refine OutKeeps.next ?_
  refine Keeps.ite ?_ ?_
  · exact Keeps.refl _
  · lift_lets
    intro y0
    refine OnlyM.useHave (show Keeps x0 y0.1 from ?_) (fun hy0 => ?_)
    · unfold y0
      refine Keeps.comp (Keeps.of (cycleStarts_only _) (by rfl)) ?_
      exact Keeps.refl _
    clear_value y0
    refine Keeps.ite ?_ ?_
    · refine Keeps.comp (cycleWork_keeps _) ?_
      assumption
    · assumption

theorem execControlwordFaultReset_keeps : ∀ x0 x1, OutKeeps x1 (execControlwordFaultReset x0 x1) := by
  intro x0 x1
  unfold execControlwordFaultReset
  refine OutKeeps.next ?_
  refine Keeps.ite ?_ ?_
  · refine Keeps.comp (faultReset_keeps _ _) ?_
    exact Keeps.refl _
  · exact Keeps.refl _

theorem execConversionQuery_keeps : ∀ x0 x1, OutKeeps x1 (execConversionQuery x0 x1) := by
  intro x0 x1
  unfold execConversionQuery
  refine OutKeeps.next ?_
  refine Keeps.comp (objectWrite_keeps _ _ _ _) ?_
  exact Keeps.refl _

theorem rasRaise_keeps : ∀ x0 x1, Keeps x0 (rasRaise x0 x1) := by
  intro x0 x1
  unfold rasRaise
  refine Keeps.comp (imsicSet_keeps _ _ _) ?_
  refine Keeps.comp (keeps_mem _ _ ?_) ?_
  · exact ⟨rfl, rfl⟩
  · exact Keeps.refl _

theorem execCoreLateStoreFault_keeps : ∀ x0 x1, OutKeeps x1 (execCoreLateStoreFault x0 x1) := by
  intro x0 x1
  unfold execCoreLateStoreFault
  refine OutKeeps.next ?_
  refine Keeps.ite ?_ ?_
  · exact Keeps.refl _
  · lift_lets
    intro y0
    refine OnlyM.useHave (show Keeps x1 y0 from ?_) (fun hy0 => ?_)
    · unfold y0
      refine Keeps.comp (rasRaise_keeps _ _) ?_
      exact Keeps.refl _
    clear_value y0
    intro y1
    clear_value y1
    refine Keeps.comp (Keeps.of (drawn_only _) (by rfl)) ?_
    refine Keeps.comp (fabFault_keeps _ _) ?_
    assumption

theorem kvPrefetchSeq_keeps : ∀ x0 x1 x2, Keeps x0 (kvPrefetchSeq x0 x1 x2) := by
  intro x0 x1 x2
  unfold kvPrefetchSeq
  lift_lets
  intro y0
  clear_value y0
  refine Keeps.ite ?_ ?_
  · refine Keeps.comp (Keeps.of (kvResult_only _ _) (by rfl)) ?_
    exact Keeps.refl _
  · refine Keeps.ite ?_ ?_
    · refine Keeps.comp (Keeps.of (kvResult_only _ _) (by rfl)) ?_
      exact Keeps.refl _
    · refine Keeps.comp (Keeps.of (kvResult_only _ _) (by rfl)) ?_
      refine Keeps.comp (prefetchSeq_keeps _ _ _) ?_
      exact Keeps.refl _

theorem kvCommand_keeps : ∀ x0 x1, Keeps x0 (kvCommand x0 x1) := by
  intro x0 x1
  unfold kvCommand
  lift_lets
  intro y0
  clear_value y0
  intro y1
  clear_value y1
  split
  · refine Keeps.comp (Keeps.of (kvOpenSeq_only _ _ _) (by rfl)) ?_
    exact Keeps.refl _
  · refine Keeps.comp (kvRetry_keeps _ _) ?_
    refine Keeps.comp (Keeps.of (kvCloseSeq_only _ _ _) (by rfl)) ?_
    exact Keeps.refl _
  · refine Keeps.comp (Keeps.of (kvPinSeq_only _ _ _ _) (by rfl)) ?_
    exact Keeps.refl _
  · refine Keeps.comp (Keeps.of (kvPinSeq_only _ _ _ _) (by rfl)) ?_
    exact Keeps.refl _
  · refine Keeps.comp (kvPrefetchSeq_keeps _ _ _) ?_
    exact Keeps.refl _
  · refine Keeps.comp (kvRetry_keeps _ _) ?_
    refine Keeps.comp (Keeps.of (kvResetSeq_only _ _ _) (by rfl)) ?_
    exact Keeps.refl _
  · refine Keeps.comp (Keeps.of (kvResult_only _ _) (by rfl)) ?_
    exact Keeps.refl _

end Sys2Proof.Laws
end

