-- ==== Sys2Proof/Laws/KeepC.lean ====
section
/-! SUPPORT. Every operation that reaches the boot state, DRAM or the fault log keeps what `Keeps` says, part 3. -/

namespace Sys2Proof.Laws

open Machine

theorem writeGal_keeps : ∀ x0 x1 x2, Keeps x0 (writeGal x0 x1 x2) := by
  intro x0 x1 x2
  unfold writeGal
  refine Keeps.ite ?_ ?_
  · refine Keeps.comp (Keeps.of (upd_gal _ _) (by rfl)) ?_
    exact Keeps.refl _
  · refine Keeps.ite ?_ ?_
    · refine Keeps.comp (Keeps.of (setReg_only _ _ _) (by rfl)) ?_
      exact Keeps.refl _
    · refine Keeps.ite ?_ ?_
      · refine Keeps.comp (Keeps.of (winAccess_only _ _) (by rfl)) ?_
        exact Keeps.refl _
      · refine Keeps.ite ?_ ?_
        · refine Keeps.comp (kvCommand_keeps _ _) ?_
          exact Keeps.refl _
        · refine Keeps.ite ?_ ?_
          · refine Keeps.comp (Keeps.of (setReg_only _ _ _) (by rfl)) ?_
            exact Keeps.refl _
          · exact Keeps.refl _

theorem writeMc_keeps : ∀ x0 x1 x2 x3, Keeps x0 (writeMc x0 x1 x2 x3) := by
  intro x0 x1 x2 x3
  unfold writeMc
  refine Keeps.ite ?_ ?_
  · refine Keeps.ite ?_ ?_
    · refine Keeps.comp (keeps_mem _ _ ?_) ?_
      · exact ⟨rfl, rfl⟩
      · exact Keeps.refl _
    · exact Keeps.refl _
  · refine Keeps.ite ?_ ?_
    · exact Keeps.refl _
    · refine Keeps.comp (fabFault_keeps _ _) ?_
      exact Keeps.refl _

theorem queueCtrl_keeps : ∀ x0 x1 x2, Keeps x0 (queueCtrl x0 x1 x2) := by
  intro x0 x1 x2
  unfold queueCtrl
  lift_lets
  intro y0
  refine OnlyM.useHave (show Keeps x0 y0 from ?_) (fun hy0 => ?_)
  · unfold y0
    refine Keeps.comp (Keeps.of (setReg_only _ _ _) (by rfl)) ?_
    exact Keeps.refl _
  clear_value y0
  intro y1
  clear_value y1
  intro y2
  clear_value y2
  intro y3
  refine OnlyM.useHave (show Keeps x0 y3 from ?_) (fun hy3 => ?_)
  · unfold y3
    refine Keeps.comp (Keeps.of (setQue_only _ _ _) (by rfl)) ?_
    assumption
  clear_value y3
  refine Keeps.ite ?_ ?_
  · assumption
  · refine Keeps.foldl ?_ (fun _ _ _ => ?_)
    · assumption
    · refine Keeps.comp (writeRecord_keeps _ _ _ _ _) ?_
      assumption

theorem writeNq_keeps : ∀ x0 x1 x2 x3, Keeps x0 (writeNq x0 x1 x2 x3) := by
  intro x0 x1 x2 x3
  unfold writeNq
  lift_lets
  intro y0
  refine Keeps.ite ?_ ?_
  · refine Keeps.comp (Keeps.of (setHalf_only _ _ _ _) (by rfl)) ?_
    exact Keeps.refl _
  · refine Keeps.ite ?_ ?_
    · refine Keeps.comp (Keeps.of (setHalf_only _ _ _ _) (by rfl)) ?_
      exact Keeps.refl _
    · refine Keeps.ite ?_ ?_
      · refine Keeps.comp (Keeps.of (setHalf_only _ _ _ _) (by rfl)) ?_
        exact Keeps.refl _
      · refine Keeps.ite ?_ ?_
        · refine Keeps.comp (queueCtrl_keeps _ _ _) ?_
          exact Keeps.refl _
        · refine Keeps.ite ?_ ?_
          · refine Keeps.comp (Keeps.of (w1c_only _ _ _ _) (by rfl)) ?_
            exact Keeps.refl _
          · refine Keeps.ite ?_ ?_
            · refine Keeps.comp (Keeps.of (setReg_only _ _ _) (by rfl)) ?_
              exact Keeps.refl _
            · refine Keeps.ite ?_ ?_
              · refine Keeps.comp (Keeps.of (setReg_only _ _ _) (by rfl)) ?_
                exact Keeps.refl _
              · refine Keeps.ite ?_ ?_
                · refine Keeps.ite ?_ ?_
                  · refine Keeps.comp (jobRelease_keeps _ _) ?_
                    exact Keeps.refl _
                  · exact Keeps.refl _
                · refine Keeps.ite ?_ ?_
                  · refine Keeps.ite ?_ ?_
                    · refine Keeps.comp (cancelHead_keeps _ _) ?_
                      exact Keeps.refl _
                    · exact Keeps.refl _
                  · exact Keeps.refl _

theorem writePwin_keeps : ∀ x0 x1 x2, Keeps x0 (writePwin x0 x1 x2) := by
  intro x0 x1 x2
  unfold writePwin
  refine Keeps.ite ?_ ?_
  · lift_lets
    intro y0
    clear_value y0
    intro y1
    clear_value y1
    intro y2
    clear_value y2
    intro y3
    refine Keeps.comp (keeps_mem _ _ ?_) ?_
    · exact ⟨rfl, rfl⟩
    · exact Keeps.refl _
  · exact Keeps.refl _

theorem writeVis_keeps : ∀ x0 x1 x2, Keeps x0 (writeVis x0 x1 x2) := by
  intro x0 x1 x2
  unfold writeVis
  refine Keeps.ite ?_ ?_
  · refine Keeps.ite ?_ ?_
    · refine Keeps.comp (graphRequest_keeps _ _ _) ?_
      exact Keeps.refl _
    · exact Keeps.refl _
  · refine Keeps.ite ?_ ?_
    · refine Keeps.comp (Keeps.of (flagRelease_only _ _) (by rfl)) ?_
      exact Keeps.refl _
    · refine Keeps.comp (Keeps.of (writeRing_only _ _ _ _) (by rfl)) ?_
      exact Keeps.refl _

theorem writeBlock_keeps_of {x0 t : State} {x1 : String} {x2 x3 x4 : Nat} (h : writeBlock x0 x1 x2 x3 x4 = some t) : Keeps x0 t := by
  unfold writeBlock at h
  split at h <;> first | cases h | skip
  · exact Keeps.refl _
  · exact Keeps.refl _
  · exact Keeps.of (OnlyM.ite ((upd_link _ _).mono rfl) (OnlyM.refl (16777216) _)) (by rfl)
  · exact Keeps.of (writeDp_only _ _ _) (by rfl)
  · exact writeMc_keeps _ _ _ _
  · exact Keeps.ite (Keeps.of (setHalf_only _ _ _ _) (by rfl)) (Keeps.refl _)
  · exact writePwin_keeps _ _ _
  · exact Keeps.ite (Keeps.of (upd_pwr _ _) (by rfl)) (Keeps.refl _)
  · exact writeNq_keeps _ _ _ _
  · exact writeGal_keeps _ _ _
  · exact Keeps.ite (Keeps.of (writeRing_only _ _ _ _) (by rfl)) (Keeps.refl _)
  · exact writeVis_keeps _ _ _
  · exact Keeps.ite (Keeps.of (upd_lan _ _) (by rfl)) (Keeps.refl _)
  · exact Keeps.of (writeComp_only _ _ _) (by rfl)
  · exact aplicWrite_keeps _ _ _ _
  · exact aplicWrite_keeps _ _ _ _
  · exact imsicWrite_keeps _ _ _ _
  · exact imsicWrite_keeps _ _ _ _

theorem execCoreLoad_keeps : ∀ x0 x1 x2, OutKeeps x2 (execCoreLoad x0 x1 x2) := by
  intro x0 x1 x2
  unfold execCoreLoad
  lift_lets
  intro y0
  clear_value y0
  intro y1
  refine OnlyM.useHave (show Keeps x2 y1 from ?_) (fun hy1 => ?_)
  · unfold y1
    refine Keeps.ite ?_ ?_
    · refine Keeps.comp (Keeps.of (winAccess_only _ _) (by rfl)) ?_
      exact Keeps.refl _
    · exact Keeps.refl _
  clear_value y1
  refine OutKeeps.ite ?_ ?_
  · refine OutKeeps.next ?_
    exact Keeps.refl _
  · refine OutKeeps.ite ?_ ?_
    · refine OutKeeps.next ?_
      refine Keeps.comp (Keeps.of (drawn_only _) (by rfl)) ?_
      refine Keeps.comp (coreRead_keeps _ _) ?_
      exact Keeps.refl _
    · refine OutKeeps.ite ?_ ?_
      · refine OutKeeps.ite ?_ ?_
        · refine OutKeeps.next ?_
          refine Keeps.comp (coreFaults_keeps _ _) ?_
          exact Keeps.refl _
        · split
          · refine OutKeeps.next ?_
            refine Keeps.comp (fabFault_keeps _ _) ?_
            refine Keeps.comp (coreRead_keeps _ _) ?_
            exact Keeps.refl _
          · refine OutKeeps.ite ?_ ?_
            · refine OutKeeps.next ?_
              refine Keeps.comp (coreRead_keeps _ _) ?_
              assumption
            · exact OutKeeps.refused _ _
      · refine OutKeeps.ite ?_ ?_
        · exact OutKeeps.refused _ _
        · refine OutKeeps.ite ?_ ?_
          · refine OutKeeps.next ?_
            refine Keeps.comp (coreRead_keeps _ _) ?_
            exact Keeps.refl _
          · refine OutKeeps.next ?_
            refine Keeps.comp (coreFaults_keeps _ _) ?_
            exact Keeps.refl _

theorem execCsiFrameEnd_keeps : ∀ x0 x1 x2, OutKeeps x2 (execCsiFrameEnd x0 x1 x2) := by
  intro x0 x1 x2
  unfold execCsiFrameEnd
  refine OutKeeps.next ?_
  refine Keeps.ite ?_ ?_
  · exact Keeps.refl _
  · refine Keeps.ite ?_ ?_
    · refine Keeps.comp (Keeps.of (portBit_only _ _ _) (by rfl)) ?_
      exact Keeps.refl _
    · refine Keeps.foldl ?_ (fun _ _ _ => ?_)
      · exact Keeps.refl _
      · refine Keeps.comp (endFrame_keeps _ _ _) ?_
        assumption

theorem openFrame_keeps : ∀ x0 x1, Keeps x0 (openFrame x0 x1) := by
  intro x0 x1
  unfold openFrame
  refine Keeps.ite ?_ ?_
  · exact Keeps.refl _
  · lift_lets
    intro y0
    refine OnlyM.useHave (show Keeps x0 y0 from ?_) (fun hy0 => ?_)
    · unfold y0
      refine Keeps.comp (endFrame_keeps _ _ _) ?_
      exact Keeps.refl _
    clear_value y0
    intro y1
    refine OnlyM.useHave (show Keeps x0 y1.1 from ?_) (fun hy1 => ?_)
    · unfold y1
      refine Keeps.comp (Keeps.of (frameStamp_only _ _) (by rfl)) ?_
      assumption
    clear_value y1
    intro y2
    refine OnlyM.useHave (show Keeps x0 y2.1 from ?_) (fun hy2 => ?_)
    · unfold y2
      refine Keeps.comp (Keeps.of (takeBuffer_only _ _ _) (by rfl)) ?_
      assumption
    clear_value y2
    intro y3
    refine OnlyM.useHave (show Keeps x0 y3.1 from ?_) (fun hy3 => ?_)
    · unfold y3
      refine Keeps.comp (Keeps.of (takeDram_only _ _ _) (by rfl)) ?_
      assumption
    clear_value y3
    intro y4
    clear_value y4
    refine Keeps.comp (Keeps.of (setStm_only _ _ _) (by rfl)) ?_
    assumption

theorem execCsiFrameStart_keeps : ∀ x0 x1 x2, OutKeeps x2 (execCsiFrameStart x0 x1 x2) := by
  intro x0 x1 x2
  unfold execCsiFrameStart
  refine OutKeeps.next ?_
  refine Keeps.ite ?_ ?_
  · exact Keeps.refl _
  · lift_lets
    intro y0
    refine OnlyM.useHave (show Keeps x2 y0 from ?_) (fun hy0 => ?_)
    · unfold y0
      refine Keeps.comp (Keeps.of (portBit_only _ _ _) (by rfl)) ?_
      exact Keeps.refl _
    clear_value y0
    intro y1
    refine OnlyM.useHave (show Keeps x2 y1 from ?_) (fun hy1 => ?_)
    · unfold y1
      refine Keeps.foldl ?_ (fun _ _ _ => ?_)
      · assumption
      · refine Keeps.comp (endFrame_keeps _ _ _) ?_
        assumption
    clear_value y1
    refine Keeps.ite ?_ ?_
    · refine Keeps.comp (Keeps.of (portBit_only _ _ _) (by rfl)) ?_
      assumption
    · refine Keeps.ite ?_ ?_
      · refine Keeps.foldl ?_ (fun _ _ _ => ?_)
        · assumption
        · refine Keeps.comp (openFrame_keeps _ _) ?_
          assumption
      · assumption

theorem execDebuggerAccess_keeps : ∀ x0 x1, OutKeeps x1 (execDebuggerAccess x0 x1) := by
  intro x0 x1
  unfold execDebuggerAccess
  refine OutKeeps.next ?_
  split
  · split
    · exact Keeps.refl _
    · rename_i h
      exact keeps_fboot _ _ ⟨rfl, rfl, rfl, fun _ => .inr (by simpa using h)⟩
  · split
    · exact Keeps.refl _
    · rename_i h
      exact keeps_hboot _ _ ⟨rfl, rfl, rfl, fun _ => .inr (by simpa using h)⟩

theorem takeJob_keeps : ∀ x0 x1 x2, Keeps x0 (takeJob x0 x1 x2) := by
  intro x0 x1 x2
  unfold takeJob
  lift_lets
  intro y0
  clear_value y0
  intro y1
  clear_value y1
  intro y2
  clear_value y2
  intro y3
  clear_value y3
  intro y4
  clear_value y4
  intro y5
  clear_value y5
  intro y6
  clear_value y6
  intro y7
  refine OnlyM.useHave (show Keeps x0 y7 from ?_) (fun hy7 => ?_)
  · unfold y7
    refine Keeps.comp (Keeps.of (setQue_only _ _ _) (by rfl)) ?_
    exact Keeps.refl _
  clear_value y7
  intro y8
  clear_value y8
  intro y9
  refine OnlyM.useHave (show Keeps x0 y9 from ?_) (fun hy9 => ?_)
  · unfold y9
    refine Keeps.ite ?_ ?_
    · refine Keeps.comp (Keeps.of (setSlot_only _ _ _) (by rfl)) ?_
      assumption
    · assumption
  clear_value y9
  intro y10
  clear_value y10
  refine Keeps.ite ?_ ?_
  · refine Keeps.comp (completeJob_keeps _ _ _ _) ?_
    assumption
  · refine Keeps.ite ?_ ?_
    · refine Keeps.comp (completeJob_keeps _ _ _ _) ?_
      assumption
    · refine Keeps.ite ?_ ?_
      · refine Keeps.comp (completeJob_keeps _ _ _ _) ?_
        assumption
      · refine Keeps.comp (jobAdvance_keeps _ _) ?_
        assumption

theorem takeNext_keeps : ∀ x0 x1, Keeps x0 (takeNext x0 x1) := by
  intro x0 x1
  unfold takeNext
  lift_lets
  intro y0
  clear_value y0
  intro y1
  clear_value y1
  intro y2
  refine OnlyM.useHave (show Keeps x0 y2.1 from ?_) (fun hy2 => ?_)
  · unfold y2
    refine Keeps.comp (engLoad_keeps _ _ _ _) ?_
    exact Keeps.refl _
  clear_value y2
  intro y3
  refine OnlyM.useHave (show Keeps x0 y3 from ?_) (fun hy3 => ?_)
  · unfold y3
    refine Keeps.comp (takeJob_keeps _ _ _) ?_
    refine Keeps.comp (Keeps.of (setReg_only _ _ _) (by rfl)) ?_
    assumption
  clear_value y3
  refine Keeps.ite ?_ ?_
  · refine Keeps.comp (Keeps.of (bufFault_only _ _) (by rfl)) ?_
    assumption
  · refine Keeps.ite ?_ ?_
    · assumption
    · split
      · refine Keeps.comp (completeJob_keeps _ _ _ _) ?_
        assumption
      · assumption

theorem execDescriptorTake_keeps : ∀ x0 x1, OutKeeps x1 (execDescriptorTake x0 x1) := by
  intro x0 x1
  unfold execDescriptorTake
  refine OutKeeps.next ?_
  refine Keeps.ite ?_ ?_
  · refine Keeps.comp (takeNext_keeps _ _) ?_
    exact Keeps.refl _
  · exact Keeps.refl _

theorem execDriftFrame_keeps : ∀ x0 x1, OutKeeps x1 (execDriftFrame x0 x1) := by
  intro x0 x1
  unfold execDriftFrame
  refine OutKeeps.next ?_
  refine Keeps.ite ?_ ?_
  · refine Keeps.comp (driftFrame_keeps _ _) ?_
    exact Keeps.refl _
  · exact Keeps.refl _

theorem execEncoderValid_keeps : ∀ x0, OutKeeps x0 (execEncoderValid x0) := by
  intro x0
  unfold execEncoderValid
  refine OutKeeps.next ?_
  refine Keeps.ite ?_ ?_
  · lift_lets
    intro y0
    clear_value y0
    intro y1
    refine OnlyM.useHave (show Keeps x0 y1 from ?_) (fun hy1 => ?_)
    · unfold y1
      refine Keeps.comp (Keeps.of (upd_pos _ _) (by rfl)) ?_
      exact Keeps.refl _
    clear_value y1
    refine Keeps.ite ?_ ?_
    · assumption
    · refine Keeps.comp (encoderReturn_keeps _) ?_
      assumption
  · exact Keeps.refl _

theorem execEngineLoad_keeps : ∀ x0 x1 x2 x3 x4, OutKeeps x4 (execEngineLoad x0 x1 x2 x3 x4) := by
  intro x0 x1 x2 x3 x4
  unfold execEngineLoad
  refine OutKeeps.next ?_
  refine Keeps.ite ?_ ?_
  · exact Keeps.refl _
  · lift_lets
    intro y0
    clear_value y0
    intro y1
    refine OnlyM.useHave (show Keeps x4 y1 from ?_) (fun hy1 => ?_)
    · unfold y1
      refine Keeps.ite ?_ ?_
      · exact Keeps.refl _
      · refine Keeps.comp (eccRead_keeps _ _ _) ?_
        exact Keeps.refl _
    clear_value y1
    intro y2
    refine OnlyM.useHave (show Keeps x4 y2.1 from ?_) (fun hy2 => ?_)
    · unfold y2
      refine Keeps.comp (engLoad_keeps _ _ _ _) ?_
      assumption
    clear_value y2
    intro y3
    refine OnlyM.useHave (show Keeps x4 y3 from ?_) (fun hy3 => ?_)
    · unfold y3
      refine Keeps.comp (countLine_keeps _ _ _) ?_
      assumption
    clear_value y3
    intro y4
    intro y5
    refine OnlyM.useHave (show Keeps x4 y5 from ?_) (fun hy5 => ?_)
    · unfold y5
      refine Keeps.comp (keeps_mem _ _ ?_) ?_
      · exact ⟨rfl, rfl⟩
      · assumption
    clear_value y5
    refine Keeps.ite ?_ ?_
    · assumption
    · refine Keeps.comp (Keeps.of (loadFault_only _ _) (by rfl)) ?_
      assumption

theorem runTryEnd_keeps : ∀ x0 x1, Keeps x0 (runTryEnd x0 x1) := by
  intro x0 x1
  unfold runTryEnd
  split
  · exact Keeps.refl _
  · refine Keeps.ite ?_ ?_
    · exact Keeps.refl _
    · refine Keeps.comp (endRun_keeps _ _ _) ?_
      exact Keeps.refl _

theorem lateFault_keeps : ∀ x0 x1 x2, Keeps x0 (lateFault x0 x1 x2) := by
  intro x0 x1 x2
  unfold lateFault
  split
  · refine Keeps.comp (Keeps.of (jobLateFault_only _ _ _) (by rfl)) ?_
    exact Keeps.refl _
  · refine Keeps.comp (runTryEnd_keeps _ _) ?_
    refine Keeps.comp (Keeps.of (runLateFault_only _ _ _) (by rfl)) ?_
    exact Keeps.refl _
  · refine Keeps.comp (Keeps.of (setReg_only _ _ _) (by rfl)) ?_
    exact Keeps.refl _
  · refine Keeps.comp (rasRaise_keeps _ _) ?_
    exact Keeps.refl _
  · exact Keeps.refl _

theorem execEngineStore_keeps : ∀ x0 x1 x2 x3 x4, OutKeeps x4 (execEngineStore x0 x1 x2 x3 x4) := by
  intro x0 x1 x2 x3 x4
  unfold execEngineStore
  refine OutKeeps.next ?_
  refine Keeps.ite ?_ ?_
  · exact Keeps.refl _
  · lift_lets
    intro y0
    clear_value y0
    intro y1
    refine OnlyM.useHave (show Keeps x4 y1.1 from ?_) (fun hy1 => ?_)
    · unfold y1
      refine Keeps.comp (postStore_keeps _ _ _ _ _) ?_
      refine Keeps.comp (Keeps.of (signStore_only _ _ _ _ _) (by rfl)) ?_
      exact Keeps.refl _
    clear_value y1
    refine Keeps.ite ?_ ?_
    · assumption
    · refine Keeps.comp (lateFault_keeps _ _ _) ?_
      assumption

theorem execEstimatedSyntheticEdge_keeps : ∀ x0, OutKeeps x0 (execEstimatedSyntheticEdge x0) := by
  intro x0
  unfold execEstimatedSyntheticEdge
  refine OutKeeps.next ?_
  refine Keeps.ite ?_ ?_
  · refine Keeps.comp (estimateEdge_keeps _) ?_
    exact Keeps.refl _
  · exact Keeps.refl _

theorem execEthernetLinkLoss_keeps : ∀ x0, OutKeeps x0 (execEthernetLinkLoss x0) := by
  intro x0
  unfold execEthernetLinkLoss
  refine OutKeeps.next ?_
  refine Keeps.ite ?_ ?_
  · refine Keeps.comp (hostClockLoss_keeps _) ?_
    exact Keeps.refl _
  · exact Keeps.refl _

theorem execExpectationMiss_keeps : ∀ x0, OutKeeps x0 (execExpectationMiss x0) := by
  intro x0
  unfold execExpectationMiss
  refine OutKeeps.next ?_
  split
  · exact Keeps.refl _
  · lift_lets
    intro y0
    clear_value y0
    intro y1
    clear_value y1
    intro y2
    intro y3
    refine OnlyM.useHave (show Keeps x0 y3 from ?_) (fun hy3 => ?_)
    · unfold y3
      refine Keeps.comp (Keeps.of (bump_only _ _ _ _) (by rfl)) ?_
      refine Keeps.comp (keeps_saf _ _ ?_) ?_
      · exact fun h => h
      · exact Keeps.refl _
    clear_value y3
    refine Keeps.ite ?_ ?_
    · exact Keeps.refl _
    · refine Keeps.comp (startReaction_keeps _ _ _ _ _ _ _ _ _) ?_
      assumption

theorem execFResetLLow_keeps : ∀ x0, OutKeeps x0 (execFResetLLow x0) := by
  intro x0
  unfold execFResetLLow
  refine OutKeeps.next ?_
  refine Keeps.ite ?_ ?_
  · exact Keeps.refl _
  · refine Keeps.comp (fieldReset_keeps _ _) ?_
    exact Keeps.refl _

theorem execFaultLogFlashWrite_keeps : ∀ x0 x1, OutKeeps x1 (execFaultLogFlashWrite x0 x1) := by
  intro x0 x1
  unfold execFaultLogFlashWrite
  refine OutKeeps.next ?_
  split
  · refine Keeps.ite ?_ ?_
    · lift_lets
      intro y0
      clear_value y0
      intro y1
      refine Keeps.comp (Keeps.of (errorBit_only _ _ _) (by rfl)) ?_
      refine Keeps.comp (keeps_saf _ _ ?_) ?_
      · exact fun h => ⟨h.1, by rw [List.length_drop]; omega, h.2.2⟩
      · exact Keeps.refl _
    · refine Keeps.comp (Keeps.of (errorBit_only _ _ _) (by rfl)) ?_
      exact Keeps.refl _
  · exact Keeps.refl _

theorem fieldRecord_keeps : ∀ x0 x1, Keeps x0 (fieldRecord x0 x1) := by
  intro x0 x1
  unfold fieldRecord
  lift_lets
  intro y0
  intro y1
  refine OnlyM.useHave (show Keeps x0 y1 from ?_) (fun hy1 => ?_)
  · unfold y1
    refine Keeps.comp (keeps_saf _ _ ?_) ?_
    · exact fun h => ⟨by first | exact h.1 | exact Nat.zero_le _ | exact List.length_take_le _ _, h.2.1, by first | exact h.2.2.1 | exact Nat.zero_le _, by first | exact h.2.2.2 | exact Nat.zero_le _ | exact List.length_take_le _ _⟩
    · exact Keeps.refl _
  clear_value y1
  intro y2
  refine OnlyM.useHave (show Keeps x0 y2 from ?_) (fun hy2 => ?_)
  · unfold y2
    refine Keeps.ite ?_ ?_
    · refine Keeps.comp (Keeps.of (bump_only _ _ _ _) (by rfl)) ?_
      assumption
    · assumption
  clear_value y2
  intro y3
  clear_value y3
  intro y4
  refine Keeps.ite ?_ ?_
  · refine Keeps.comp (startReaction_keeps _ _ _ _ _ _ _ _ _) ?_
    refine Keeps.comp (keeps_saf _ _ ?_) ?_
    · exact fun h => h
    · assumption
  · assumption

theorem hostRecord_keeps : ∀ x0 x1, Keeps x0 (hostRecord x0 x1) := by
  intro x0 x1
  unfold hostRecord
  refine Keeps.comp (Keeps.of (bump_only _ _ _ _) (by rfl)) ?_
  refine Keeps.comp (hostCopy_keeps _ _) ?_
  exact Keeps.refl _

theorem execFaultLogRecordReceive_keeps : ∀ x0 x1, OutKeeps x1 (execFaultLogRecordReceive x0 x1) := by
  intro x0 x1
  unfold execFaultLogRecordReceive
  refine OutKeeps.next ?_
  split
  · lift_lets
    intro y0
    clear_value y0
    split
    · refine Keeps.ite ?_ ?_
      · refine Keeps.comp (hostRecord_keeps _ _) ?_
        exact Keeps.of (takeIn_of (by assumption)) (by rfl)
      · exact Keeps.refl _
    · refine Keeps.ite ?_ ?_
      · refine Keeps.comp (fieldRecord_keeps _ _) ?_
        exact Keeps.of (takeIn_of (by assumption)) (by rfl)
      · exact Keeps.refl _
  · exact Keeps.refl _

theorem fieldLoad_keeps : ∀ x0, Keeps x0 (fieldLoad x0) := by
  intro x0
  unfold fieldLoad
  split
  · exact Keeps.refl _
  · refine Keeps.comp (Keeps.of (emcy_only _ _ _ _) (by rfl)) ?_
    refine Keeps.comp (logField_keeps _ _) ?_
    exact Keeps.refl _
  · lift_lets
    intro y0
    refine OnlyM.useHave (show Keeps x0 y0 from ?_) (fun hy0 => ?_)
    · unfold y0
      refine Keeps.comp (Keeps.of (loadSaved_only _ _) (by rfl)) ?_
      exact Keeps.refl _
    clear_value y0
    refine Keeps.comp (setRole_keeps _ _) ?_
    assumption

theorem fieldStart_keeps : ∀ x0 x1 x2, Keeps x0 (fieldStart x0 x1 x2) := by
  intro x0 x1 x2
  unfold fieldStart
  lift_lets
  intro y0
  intro y1
  clear_value y1
  intro y2
  refine OnlyM.useHave (show Keeps x0 y2 from ?_) (fun hy2 => ?_)
  · unfold y2
    refine Keeps.comp (keeps_fboot_link _ _ _ ?_) ?_
    · exact ⟨rfl, rfl, rfl, fun h => .inl h⟩
    · exact Keeps.refl _
  clear_value y2
  intro y3
  intro y4
  refine OnlyM.useHave (show Keeps x0 y4 from ?_) (fun hy4 => ?_)
  · unfold y4
    refine Keeps.comp (Keeps.of (setBusReg_only _ _ _) (by rfl)) ?_
    refine Keeps.comp (keeps_saf _ _ ?_) ?_
    · exact fun h => h
    · assumption
  clear_value y4
  intro y5
  refine OnlyM.useHave (show Keeps x0 y5 from ?_) (fun hy5 => ?_)
  · unfold y5
    refine Keeps.ite ?_ ?_
    · refine Keeps.comp (logField_keeps _ _) ?_
      assumption
    · assumption
  clear_value y5
  intro y6
  intro y7
  refine OnlyM.useHave (show Keeps x0 y7 from ?_) (fun hy7 => ?_)
  · unfold y7
    refine Keeps.ite ?_ ?_
    · refine Keeps.comp (logField_keeps _ _) ?_
      refine Keeps.comp (keeps_saf _ _ ?_) ?_
      · exact fun h => h
      · assumption
    · assumption
  clear_value y7
  refine Keeps.comp (fieldLoad_keeps _) ?_
  assumption

theorem execFieldBoot_keeps : ∀ x0, OutKeeps x0 (execFieldBoot x0) := by
  intro x0
  unfold execFieldBoot
  refine OutKeeps.next ?_
  refine Keeps.ite ?_ ?_
  · exact Keeps.refl _
  · lift_lets
    intro y0
    intro y1
    intro y2
    refine OnlyM.useHave (show Keeps x0 y2 from ?_) (fun hy2 => ?_)
    · unfold y2
      refine Keeps.comp (keeps_fboot _ _ ?_) ?_
      · exact BootKeeps.store (chooseSlot_otp false x0.fboot.store) rfl
      · exact Keeps.refl _
    clear_value y2
    intro y3
    intro y4
    clear_value y4
    split
    · refine Keeps.comp (keeps_fboot_bus _ _ _ ?_) ?_
      · exact ⟨rfl, rfl, rfl, fun h => .inl h⟩
      · assumption
    · refine Keeps.comp (fieldStart_keeps _ _ _) ?_
      assumption

theorem firmwareHalt_keeps : ∀ x0, Keeps x0 (firmwareHalt x0) := by
  intro x0
  unfold firmwareHalt
  refine Keeps.comp (keeps_fboot_bus _ _ _ ?_) ?_
  · exact ⟨rfl, rfl, rfl, fun h => .inl h⟩
  · exact Keeps.refl _

theorem execFieldFirmwareHalt_keeps : ∀ x0, OutKeeps x0 (execFieldFirmwareHalt x0) := by
  intro x0
  unfold execFieldFirmwareHalt
  refine OutKeeps.next ?_
  refine Keeps.ite ?_ ?_
  · refine Keeps.comp (firmwareHalt_keeps _) ?_
    exact Keeps.refl _
  · exact Keeps.refl _

theorem fieldLost_keeps : ∀ x0, Keeps x0 (fieldLost x0) := by
  intro x0
  unfold fieldLost
  lift_lets
  intro y0
  clear_value y0
  intro y1
  refine OnlyM.useHave (show Keeps x0 y1 from ?_) (fun hy1 => ?_)
  · unfold y1
    refine Keeps.comp (Keeps.of (upd_hend _ _) (by rfl)) ?_
    exact Keeps.refl _
  clear_value y1
  intro y2
  intro y3
  clear_value y3
  intro y4
  clear_value y4
  intro y5
  refine OnlyM.useHave (show Keeps x0 y5 from ?_) (fun hy5 => ?_)
  · unfold y5
    refine Keeps.comp (Keeps.of (upd_hend _ _) (by rfl)) ?_
    assumption
  clear_value y5
  refine Keeps.comp (linkNotice_keeps _ _) ?_
  refine Keeps.comp (hostIrq_keeps _ _) ?_
  refine Keeps.comp (failHostFrames_keeps _ _) ?_
  assumption

theorem execFieldHeartbeatTimeout_keeps : ∀ x0, OutKeeps x0 (execFieldHeartbeatTimeout x0) := by
  intro x0
  unfold execFieldHeartbeatTimeout
  refine OutKeeps.next ?_
  refine Keeps.ite ?_ ?_
  · refine Keeps.comp (fieldLost_keeps _) ?_
    exact Keeps.refl _
  · exact Keeps.refl _

theorem execFieldOnlyResetCommand_keeps : ∀ x0, OutKeeps x0 (execFieldOnlyResetCommand x0) := by
  intro x0
  unfold execFieldOnlyResetCommand
  refine OutKeeps.next ?_
  refine Keeps.ite ?_ ?_
  · refine Keeps.comp (fieldReset_keeps _ _) ?_
    refine Keeps.comp (Keeps.of (sdoAnswer_only _ _ _ _ _) (by rfl)) ?_
    exact Keeps.refl _
  · exact Keeps.refl _

theorem execFieldSramUncorrectable_keeps : ∀ x0 x1, OutKeeps x1 (execFieldSramUncorrectable x0 x1) := by
  intro x0 x1
  unfold execFieldSramUncorrectable
  refine OutKeeps.next ?_
  refine Keeps.ite ?_ ?_
  · exact Keeps.refl _
  · lift_lets
    intro y0
    refine OnlyM.useHave (show Keeps x1 y0 from ?_) (fun hy0 => ?_)
    · unfold y0
      refine Keeps.comp (Keeps.of (stoAll_only _) (by rfl)) ?_
      exact Keeps.refl _
    clear_value y0
    refine Keeps.ite ?_ ?_
    · refine Keeps.comp (logField_keeps _ _) ?_
      refine Keeps.comp (Keeps.of (putN_only _ _ _ _) (by rfl)) ?_
      assumption
    · assumption

theorem execFieldTempSample_keeps : ∀ x0 x1, OutKeeps x1 (execFieldTempSample x0 x1) := by
  intro x0 x1
  unfold execFieldTempSample
  refine OutKeeps.next ?_
  refine Keeps.ite ?_ ?_
  · exact Keeps.refl _
  · lift_lets
    intro y0
    refine OnlyM.useHave (show Keeps x1 y0 from ?_) (fun hy0 => ?_)
    · unfold y0
      refine Keeps.comp (Keeps.of (errorBit_only _ _ _) (by rfl)) ?_
      refine Keeps.comp (Keeps.of (putI_only _ _ _ _) (by rfl)) ?_
      exact Keeps.refl _
    clear_value y0
    intro y1
    clear_value y1
    intro y2
    intro y3
    refine OnlyM.useHave (show Keeps x1 y3 from ?_) (fun hy3 => ?_)
    · unfold y3
      refine Keeps.comp (Keeps.of (stoAll_only _) (by rfl)) ?_
      refine Keeps.comp (keeps_saf _ _ ?_) ?_
      · exact fun h => h
      · assumption
    clear_value y3
    refine Keeps.ite ?_ ?_
    · refine Keeps.comp (logField_keeps _ _) ?_
      refine Keeps.comp (Keeps.of (emcy_only _ _ _ _) (by rfl)) ?_
      assumption
    · assumption

theorem fieldHold_keeps : ∀ x0 x1 x2, Keeps x0 (fieldHold x0 x1 x2) := by
  intro x0 x1 x2
  unfold fieldHold
  refine Keeps.comp (keeps_fboot _ _ ?_) ?_
  · exact ⟨rfl, rfl, rfl, fun h => .inl h⟩
  · exact Keeps.refl _

theorem fieldHeld_keeps : ∀ x0 x1 x2, Keeps x0 (fieldHeld x0 x1 x2) := by
  intro x0 x1 x2
  unfold fieldHeld
  refine Keeps.comp (fieldReset_keeps _ _) ?_
  refine Keeps.comp (fieldHold_keeps _ _ _) ?_
  refine Keeps.comp (Keeps.of (stoAll_only _) (by rfl)) ?_
  exact Keeps.refl _

theorem execFieldVinHigh_keeps : ∀ x0, OutKeeps x0 (execFieldVinHigh x0) := by
  intro x0
  unfold execFieldVinHigh
  refine OutKeeps.next ?_
  refine Keeps.comp (fieldHeld_keeps _ _ _) ?_
  exact Keeps.refl _

theorem fieldUnheld_keeps : ∀ x0 x1, Keeps x0 (fieldUnheld x0 x1) := by
  intro x0 x1
  unfold fieldUnheld
  refine Keeps.ite ?_ ?_
  · exact Keeps.refl _
  · lift_lets
    intro y0
    refine OnlyM.useHave (show Keeps x0 y0 from ?_) (fun hy0 => ?_)
    · unfold y0
      refine Keeps.comp (fieldHold_keeps _ _ _) ?_
      exact Keeps.refl _
    clear_value y0
    intro y1
    refine Keeps.ite ?_ ?_
    · refine Keeps.comp (keeps_fboot _ _ ?_) ?_
      · exact ⟨rfl, rfl, rfl, fun h => .inl h⟩
      · assumption
    · assumption

theorem execFieldVinHighRelease_keeps : ∀ x0, OutKeeps x0 (execFieldVinHighRelease x0) := by
  intro x0
  unfold execFieldVinHighRelease
  refine OutKeeps.next ?_
  refine Keeps.comp (fieldUnheld_keeps _ _) ?_
  exact Keeps.refl _

theorem execFieldVinLow_keeps : ∀ x0, OutKeeps x0 (execFieldVinLow x0) := by
  intro x0
  unfold execFieldVinLow
  refine OutKeeps.next ?_
  refine Keeps.comp (fieldHeld_keeps _ _ _) ?_
  exact Keeps.refl _

theorem execFieldVinRise_keeps : ∀ x0, OutKeeps x0 (execFieldVinRise x0) := by
  intro x0
  unfold execFieldVinRise
  refine OutKeeps.next ?_
  refine Keeps.comp (fieldUnheld_keeps _ _) ?_
  exact Keeps.refl _

theorem execFieldbusPortLinkChange_keeps : ∀ x0 x1 x2, OutKeeps x2 (execFieldbusPortLinkChange x0 x1 x2) := by
  intro x0 x1 x2
  unfold execFieldbusPortLinkChange
  refine OutKeeps.next ?_
  lift_lets
  intro y0
  clear_value y0
  intro y1
  clear_value y1
  intro y2
  refine OnlyM.useHave (show Keeps x2 y2 from ?_) (fun hy2 => ?_)
  · unfold y2
    refine Keeps.ite ?_ ?_
    · refine Keeps.comp (Keeps.of (upd_bus _ _) (by rfl)) ?_
      exact Keeps.refl _
    · refine Keeps.comp (Keeps.of (upd_bus _ _) (by rfl)) ?_
      exact Keeps.refl _
  clear_value y2
  refine Keeps.ite ?_ ?_
  · refine Keeps.comp (fieldClockLoss_keeps _) ?_
    assumption
  · assumption

theorem execFoeWriteIkf_keeps : ∀ x0 x1 x2 x3, OutKeeps x3 (execFoeWriteIkf x0 x1 x2 x3) := by
  intro x0 x1 x2 x3
  have h : OtpKeeps x3.fboot.store
      (if x3.bus.romOnly then recoverSlot false x3.fboot.store x1 x2 else install false x3.fboot.store x1 x2).1 := by
    split
    · exact recoverSlot_otp _ _ _ _
    · exact install_otp _ _ _ _
  unfold execFoeWriteIkf
  refine OutKeeps.next ?_
  refine Keeps.ite (Keeps.refl _) ?_
  refine Keeps.ite (Keeps.of (foeAnswer_only _ _) (by rfl)) ?_
  refine Keeps.ite (Keeps.of (foeAnswer_only _ _) (by rfl)) ?_
  exact Keeps.comp (Keeps.of (foeAnswer_only _ _) (by rfl)) (keeps_fboot_bus _ _ _ (.store h rfl))

theorem execFoeWriteIkh_keeps : ∀ x0 x1 x2 x3, OutKeeps x3 (execFoeWriteIkh x0 x1 x2 x3) := by
  intro x0 x1 x2 x3
  unfold execFoeWriteIkh
  refine OutKeeps.next ?_
  refine Keeps.ite (Keeps.refl _) ?_
  refine Keeps.ite (Keeps.of (foeAnswer_only _ _) (by rfl)) ?_
  refine Keeps.ite (Keeps.of (foeAnswer_only _ _) (by rfl)) ?_
  refine Keeps.ite (Keeps.of (foeAnswer_only _ _) (by rfl)) ?_
  refine Keeps.ite (Keeps.of (foeAnswer_only _ _) (by rfl)) ?_
  refine Keeps.ite ?_ ?_
  · refine Keeps.comp (Keeps.of (foeAnswer_only _ _) (by rfl)) (keeps_hboot _ _ ?_)
    dsimp only
    split
    · exact .store (recoverSlot_otp _ _ _ _) rfl
    · exact .store (recoverSlot_otp _ _ _ _) rfl
  · refine Keeps.ite ?_ (Keeps.of (foeAnswer_only _ _) (by rfl))
    refine Keeps.comp (Keeps.of (foeAnswer_only _ _) (by rfl)) ?_
    refine Keeps.comp (Keeps.of (putN_only _ _ _ _) (by rfl)) ?_
    exact keeps_hboot _ _ (.store (install_otp _ _ _ _) rfl)

theorem followTake_keeps : ∀ x0 x1 x2, Keeps x0 (followTake x0 x1 x2) := by
  intro x0 x1 x2
  unfold followTake
  lift_lets
  intro y0
  clear_value y0
  intro y1
  refine OnlyM.useHave (show Keeps x0 y1 from ?_) (fun hy1 => ?_)
  · unfold y1
    refine Keeps.comp (Keeps.of (upd_pos _ _) (by rfl)) ?_
    exact Keeps.refl _
  clear_value y1
  intro y2
  clear_value y2
  intro y3
  refine OnlyM.useHave (show Keeps x0 y3 from ?_) (fun hy3 => ?_)
  · unfold y3
    refine Keeps.comp (Keeps.of (upd_pos _ _) (by rfl)) ?_
    assumption
  clear_value y3
  intro y4
  clear_value y4
  intro y5
  clear_value y5
  intro y6
  refine OnlyM.useHave (show Keeps x0 y6 from ?_) (fun hy6 => ?_)
  · unfold y6
    refine Keeps.ite ?_ ?_
    · assumption
    · refine Keeps.ite ?_ ?_
      · refine Keeps.comp (encoderReturn_keeps _) ?_
        assumption
      · assumption
  clear_value y6
  intro y7
  refine OnlyM.useHave (show Keeps x0 y7 from ?_) (fun hy7 => ?_)
  · unfold y7
    refine Keeps.ite ?_ ?_
    · refine Keeps.comp (stepTo_keeps _ _) ?_
      assumption
    · assumption
  clear_value y7
  intro y8
  clear_value y8
  refine Keeps.ite ?_ ?_
  · assumption
  · refine Keeps.ite ?_ ?_
    · refine Keeps.comp (Keeps.of (upd_pos _ _) (by rfl)) ?_
      assumption
    · assumption

theorem execFollowerSample_keeps : ∀ x0, OutKeeps x0 (execFollowerSample x0) := by
  intro x0
  unfold execFollowerSample
  refine OutKeeps.next ?_
  refine Keeps.ite ?_ ?_
  · exact Keeps.refl _
  · lift_lets
    intro y0
    clear_value y0
    intro y1
    clear_value y1
    split
    · refine Keeps.ite ?_ ?_
      · exact Keeps.refl _
      · refine Keeps.ite ?_ ?_
        · refine Keeps.comp (Keeps.of (bump_only _ _ _ _) (by rfl)) ?_
          exact Keeps.refl _
        · refine Keeps.comp (followTake_keeps _ _ _) ?_
          exact Keeps.refl _
    · refine Keeps.comp (followTake_keeps _ _ _) ?_
      exact Keeps.refl _

theorem execFollowerSampleTimeout_keeps : ∀ x0, OutKeeps x0 (execFollowerSampleTimeout x0) := by
  intro x0
  unfold execFollowerSampleTimeout
  refine OutKeeps.next ?_
  refine Keeps.ite ?_ ?_
  · refine Keeps.comp (encoderLoss_keeps _) ?_
    refine Keeps.comp (Keeps.of (upd_pos _ _) (by rfl)) ?_
    exact Keeps.refl _
  · exact Keeps.refl _

theorem execFollowerSyntheticEdge_keeps : ∀ x0, OutKeeps x0 (execFollowerSyntheticEdge x0) := by
  intro x0
  unfold execFollowerSyntheticEdge
  refine OutKeeps.next ?_
  refine Keeps.ite ?_ ?_
  · lift_lets
    intro y0
    clear_value y0
    intro y1
    clear_value y1
    intro y2
    clear_value y2
    intro y3
    clear_value y3
    refine Keeps.ite ?_ ?_
    · refine Keeps.comp (moveOne_keeps _ _ _) ?_
      refine Keeps.comp (Keeps.of (upd_pos _ _) (by rfl)) ?_
      exact Keeps.refl _
    · exact Keeps.refl _
  · exact Keeps.refl _

theorem execFollowingErrorTimeout_keeps : ∀ x0 x1, OutKeeps x1 (execFollowingErrorTimeout x0 x1) := by
  intro x0 x1
  unfold execFollowingErrorTimeout
  lift_lets
  intro y0
  clear_value y0
  intro y1
  clear_value y1
  intro y2
  clear_value y2
  refine OutKeeps.next ?_
  refine Keeps.ite ?_ ?_
  · refine Keeps.comp (faultOption_keeps _ _ _ _ _) ?_
    refine Keeps.comp (Keeps.of (homingFailed_only _ _) (by rfl)) ?_
    exact Keeps.refl _
  · exact Keeps.refl _

theorem portEnd_keeps : ∀ x0 x1 x2, Keeps x0 (portEnd x0 x1 x2) := by
  intro x0 x1 x2
  unfold portEnd
  refine Keeps.comp (portDone_keeps _ _ _ _ _ _ _ _ _ _) ?_
  exact Keeps.refl _

theorem execForwardTimeout_keeps : ∀ x0 x1, OutKeeps x1 (execForwardTimeout x0 x1) := by
  intro x0 x1
  unfold execForwardTimeout
  refine OutKeeps.next ?_
  split
  · refine Keeps.ite ?_ ?_
    · refine Keeps.comp (Keeps.of (sdoAnswer_only _ _ _ _ _) (by rfl)) ?_
      refine Keeps.comp (Keeps.of (forwardEnd_only _ _ _) (by rfl)) ?_
      exact Keeps.refl _
    · exact Keeps.refl _
  · split
    · exact Keeps.refl _
    · lift_lets
      intro y0
      refine OnlyM.useHave (show Keeps x1 y0 from ?_) (fun hy0 => ?_)
      · unfold y0
        refine Keeps.comp (Keeps.of (upd_hostSlots _ _) (by rfl)) ?_
        exact Keeps.refl _
      clear_value y0
      split
      · refine Keeps.comp (portEnd_keeps _ _ _) ?_
        assumption
      · assumption

theorem forwardIn_keeps : ∀ x0 x1 x2 x3 x4 x5, Keeps x0 (forwardIn x0 x1 x2 x3 x4 x5) := by
  intro x0 x1 x2 x3 x4 x5
  unfold forwardIn
  lift_lets
  intro y0
  clear_value y0
  intro y1
  refine OnlyM.useHave (show Keeps x0 y1 from ?_) (fun hy1 => ?_)
  · unfold y1
    refine Keeps.comp (Keeps.of (upd_hostSlots _ _) (by rfl)) ?_
    exact Keeps.refl _
  clear_value y1
  intro y2
  refine OnlyM.useHave (show Keeps x0 y2 from ?_) (fun hy2 => ?_)
  · unfold y2
    refine Keeps.ite ?_ ?_
    · assumption
    · refine Keeps.comp (engStore_keeps _ _ _ _) ?_
      assumption
  clear_value y2
  refine Keeps.comp (d2hPut_keeps _ _) ?_
  assumption

theorem execForwardedRequestArrival_keeps : ∀ x0, OutKeeps x0 (execForwardedRequestArrival x0) := by
  intro x0
  unfold execForwardedRequestArrival
  refine OutKeeps.next ?_
  split
  · exact Keeps.refl _
  · refine Keeps.ite ?_ ?_
    · exact Keeps.refl _
    · lift_lets
      intro y0
      refine OnlyM.useHave (show Keeps x0 y0 from ?_) (fun hy0 => ?_)
      · unfold y0
        exact Keeps.of (takeIn_of (by assumption)) (by rfl)
      clear_value y0
      intro y1
      clear_value y1
      intro y2
      clear_value y2
      intro y3
      clear_value y3
      intro y4
      split
      · refine Keeps.comp (forwardIn_keeps _ _ _ _ _ _) ?_
        refine Keeps.comp (Keeps.of (upd_fwdValue _ _) (by rfl)) ?_
        assumption
      · refine Keeps.comp (Keeps.of (answerMaster_only _ _ _ _ _ _ _) (by rfl)) ?_
        refine Keeps.comp (Keeps.of (upd_fwdValue _ _) (by rfl)) ?_
        assumption

theorem fieldFraction_keeps : ∀ x0, Keeps x0 (fieldFraction x0) := by
  intro x0
  unfold fieldFraction
  lift_lets
  intro y0
  clear_value y0
  intro y1
  clear_value y1
  intro y2
  refine OnlyM.useHave (show Keeps x0 y2 from ?_) (fun hy2 => ?_)
  · unfold y2
    refine Keeps.comp (Keeps.of (upd_pos _ _) (by rfl)) ?_
    exact Keeps.refl _
  clear_value y2
  intro y3
  refine OnlyM.useHave (show Keeps x0 y3 from ?_) (fun hy3 => ?_)
  · unfold y3
    refine Keeps.comp (moveCompare_keeps _ _ _ _ _ _ _) ?_
    assumption
  clear_value y3
  refine Keeps.comp (Keeps.of (pulseCntEnds_only _ _ _ _) (by rfl)) ?_
  assumption

theorem replicaFraction_keeps : ∀ x0, Keeps x0 (replicaFraction x0) := by
  intro x0
  unfold replicaFraction
  lift_lets
  intro y0
  clear_value y0
  intro y1
  clear_value y1
  intro y2
  refine OnlyM.useHave (show Keeps x0 y2 from ?_) (fun hy2 => ?_)
  · unfold y2
    refine Keeps.comp (Keeps.of (upd_replica _ _) (by rfl)) ?_
    exact Keeps.refl _
  clear_value y2
  intro y3
  refine OnlyM.useHave (show Keeps x0 y3 from ?_) (fun hy3 => ?_)
  · unfold y3
    refine Keeps.comp (moveCompare_keeps _ _ _ _ _ _ _) ?_
    assumption
  clear_value y3
  refine Keeps.comp (Keeps.of (pulseCntEnds_only _ _ _ _) (by rfl)) ?_
  assumption

theorem execFractionTick_keeps : ∀ x0, OutKeeps x0 (execFractionTick x0) := by
  intro x0
  unfold execFractionTick
  refine OutKeeps.next ?_
  lift_lets
  intro y0
  refine OnlyM.useHave (show Keeps x0 y0 from ?_) (fun hy0 => ?_)
  · unfold y0
    refine Keeps.ite ?_ ?_
    · refine Keeps.comp (fieldFraction_keeps _) ?_
      exact Keeps.refl _
    · exact Keeps.refl _
  clear_value y0
  refine Keeps.ite ?_ ?_
  · refine Keeps.comp (replicaFraction_keeps _) ?_
    assumption
  · assumption

theorem execFullResetCommand_keeps : ∀ x0, OutKeeps x0 (execFullResetCommand x0) := by
  intro x0
  unfold execFullResetCommand
  refine OutKeeps.next ?_
  refine Keeps.ite ?_ ?_
  · lift_lets
    intro y0
    refine OnlyM.useHave (show Keeps x0 y0.1 from ?_) (fun hy0 => ?_)
    · unfold y0
      refine Keeps.comp (fullResetWrite_keeps _) ?_
      exact Keeps.refl _
    clear_value y0
    refine Keeps.comp (Keeps.of (sdoAnswer_only _ _ _ _ _) (by rfl)) ?_
    assumption
  · exact Keeps.refl _

theorem execFullResetDelayExpiry_keeps : ∀ x0, OutKeeps x0 (execFullResetDelayExpiry x0) := by
  intro x0
  unfold execFullResetDelayExpiry
  refine OutKeeps.next ?_
  split
  · refine Keeps.ite ?_ ?_
    · refine Keeps.comp (fieldReset_keeps _ _) ?_
      exact Keeps.refl _
    · exact Keeps.refl _
  · exact Keeps.refl _

theorem execFullResetRequest_keeps : ∀ x0, OutKeeps x0 (execFullResetRequest x0) := by
  intro x0
  unfold execFullResetRequest
  refine OutKeeps.next ?_
  split
  · lift_lets
    intro y0
    refine OnlyM.useHave (show Keeps x0 y0 from ?_) (fun hy0 => ?_)
    · unfold y0
      refine Keeps.comp (hostAsk_keeps _ _) ?_
      exact Keeps.of (takeIn_of (by assumption)) (by rfl)
    clear_value y0
    intro y1
    refine Keeps.ite ?_ ?_
    · refine Keeps.comp (keeps_hboot _ _ ?_) ?_
      · exact ⟨rfl, rfl, rfl, fun h => .inl h⟩
      · assumption
    · assumption
  · exact Keeps.refl _

theorem govern_keeps : ∀ x0, Keeps x0 (govern x0) := by
  intro x0
  unfold govern
  lift_lets
  intro y0
  refine OnlyM.useHave (show Keeps x0 y0 from ?_) (fun hy0 => ?_)
  · unfold y0
    refine Keeps.comp (Keeps.of (upd_pwr _ _) (by rfl)) ?_
    exact Keeps.refl _
  clear_value y0
  intro y1
  refine OnlyM.useHave (show Keeps x0 y1 from ?_) (fun hy1 => ?_)
  · unfold y1
    refine Keeps.comp (Keeps.of (recordDelta_only _) (by rfl)) ?_
    assumption
  clear_value y1
  intro y2
  clear_value y2
  intro y3
  clear_value y3
  intro y4
  refine OnlyM.useHave (show Keeps x0 y4 from ?_) (fun hy4 => ?_)
  · unfold y4
    refine Keeps.comp (Keeps.of (bump_only _ _ _ _) (by rfl)) ?_
    assumption
  clear_value y4
  intro y5
  refine OnlyM.useHave (show Keeps x0 y5 from ?_) (fun hy5 => ?_)
  · unfold y5
    refine Keeps.comp (logHost_keeps _ _) ?_
    assumption
  clear_value y5
  intro y6
  clear_value y6
  intro y7
  refine OnlyM.useHave (show Keeps x0 y7 from ?_) (fun hy7 => ?_)
  · unfold y7
    refine Keeps.comp (Keeps.of (setLevel_only _ _) (by rfl)) ?_
    refine Keeps.comp (Keeps.of (bump_only _ _ _ _) (by rfl)) ?_
    assumption
  clear_value y7
  intro y8
  clear_value y8
  intro y9
  refine OnlyM.useHave (show Keeps x0 y9 from ?_) (fun hy9 => ?_)
  · unfold y9
    refine Keeps.comp (Keeps.of (setLevel_only _ _) (by rfl)) ?_
    assumption
  clear_value y9
  intro y10
  clear_value y10
  refine Keeps.ite ?_ ?_
  · refine Keeps.ite ?_ ?_
    · refine Keeps.comp (Keeps.of (upd_pwr _ _) (by rfl)) ?_
      assumption
    · assumption
  · refine Keeps.ite ?_ ?_
    · refine Keeps.comp (Keeps.of (upd_pwr _ _) (by rfl)) ?_
      assumption
    · refine Keeps.ite ?_ ?_
      · refine Keeps.comp (Keeps.of (upd_pwr _ _) (by rfl)) ?_
        assumption
      · assumption

theorem execGovernorTick_keeps : ∀ x0, OutKeeps x0 (execGovernorTick x0) := by
  intro x0
  unfold execGovernorTick
  refine OutKeeps.next ?_
  refine Keeps.ite ?_ ?_
  · refine Keeps.comp (govern_keeps _) ?_
    exact Keeps.refl _
  · exact Keeps.refl _

theorem execHResetLLow_keeps : ∀ x0, OutKeeps x0 (execHResetLLow x0) := by
  intro x0
  unfold execHResetLLow
  refine OutKeeps.next ?_
  refine Keeps.comp (hostAsk_keeps _ _) ?_
  exact Keeps.refl _

theorem execHWakeLLow_keeps : ∀ x0, OutKeeps x0 (execHWakeLLow x0) := by
  intro x0
  unfold execHWakeLLow
  refine OutKeeps.next ?_
  refine Keeps.ite ?_ ?_
  · refine Keeps.ite ?_ ?_
    · refine Keeps.comp (hostRelease_keeps _ _) ?_
      exact Keeps.refl _
    · exact Keeps.refl _
  · refine Keeps.comp (wakeSource_keeps _ _) ?_
    exact Keeps.refl _

theorem hostLost_keeps : ∀ x0, Keeps x0 (hostLost x0) := by
  intro x0
  unfold hostLost
  lift_lets
  intro y0
  clear_value y0
  intro y1
  refine OnlyM.useHave (show Keeps x0 y1 from ?_) (fun hy1 => ?_)
  · unfold y1
    refine Keeps.comp (Keeps.of (upd_fend _ _) (by rfl)) ?_
    exact Keeps.refl _
  clear_value y1
  refine Keeps.comp (startReaction_keeps _ _ _ _ _ _ _ _ _) ?_
  refine Keeps.comp (Keeps.of (forwardsAbort_only _) (by rfl)) ?_
  refine Keeps.comp (Keeps.of (setsHostDown_only _) (by rfl)) ?_
  assumption

theorem execHeartbeatTimeout_keeps : ∀ x0, OutKeeps x0 (execHeartbeatTimeout x0) := by
  intro x0
  unfold execHeartbeatTimeout
  refine OutKeeps.next ?_
  refine Keeps.ite ?_ ?_
  · refine Keeps.comp (hostLost_keeps _) ?_
    exact Keeps.refl _
  · exact Keeps.refl _

theorem execHintSetArrival_keeps : ∀ x0 x1, OutKeeps x1 (execHintSetArrival x0 x1) := by
  intro x0 x1
  unfold execHintSetArrival
  lift_lets
  intro y0
  clear_value y0
  intro y1
  clear_value y1
  intro y2
  clear_value y2
  refine OutKeeps.next ?_
  split
  · exact Keeps.refl _
  · lift_lets
    intro y3
    refine OnlyM.useHave (show Keeps x1 y3 from ?_) (fun hy3 => ?_)
    · unfold y3
      refine Keeps.comp (Keeps.of (setGph_only _ _ _) (by rfl)) ?_
      refine Keeps.comp (Keeps.of (upd_lan _ _) (by rfl)) ?_
      exact Keeps.refl _
    clear_value y3
    refine Keeps.ite ?_ ?_
    · exact Keeps.refl _
    · refine Keeps.ite ?_ ?_
      · refine Keeps.comp (graphRequest_keeps _ _ _) ?_
        assumption
      · assumption

theorem execHoldoverLimitExpiry_keeps : ∀ x0 x1, OutKeeps x1 (execHoldoverLimitExpiry x0 x1) := by
  intro x0 x1
  unfold execHoldoverLimitExpiry
  refine OutKeeps.next ?_
  split
  · refine Keeps.ite ?_ ?_
    · refine Keeps.comp (setFclk_keeps _ _) ?_
      exact Keeps.refl _
    · exact Keeps.refl _
  · refine Keeps.ite ?_ ?_
    · refine Keeps.comp (setHclk_keeps _ _) ?_
      exact Keeps.refl _
    · exact Keeps.refl _

theorem execHostApply_keeps : ∀ x0 x1, OutKeeps x1 (execHostApply x0 x1) := by
  intro x0 x1
  unfold execHostApply
  refine OutKeeps.next ?_
  split
  · refine Keeps.ite ?_ ?_
    · refine Keeps.comp (hostApplySet_keeps _ _ _) ?_
      exact Keeps.refl _
    · exact Keeps.refl _
  · exact Keeps.refl _

theorem execHostArmConfirm_keeps : ∀ x0 x1, OutKeeps x1 (execHostArmConfirm x0 x1) := by
  intro x0 x1
  unfold execHostArmConfirm
  refine OutKeeps.next ?_
  split
  · lift_lets
    intro y0
    clear_value y0
    split
    · refine Keeps.ite ?_ ?_
      · exact Keeps.refl _
      · refine Keeps.ite ?_ ?_
        · exact Keeps.of (takeIn_of (by assumption)) (by rfl)
        · refine Keeps.comp (becomeArmed_keeps _ _ _) ?_
          exact Keeps.of (takeIn_of (by assumption)) (by rfl)
    · exact Keeps.of (takeIn_of (by assumption)) (by rfl)
  · exact Keeps.refl _

theorem hostRecovery_keeps : ∀ x0 x1, Keeps x0 (hostRecovery x0 x1) := by
  intro x0 x1
  unfold hostRecovery
  refine Keeps.comp (keeps_hboot _ _ ?_) ?_
  · exact ⟨rfl, rfl, rfl, fun h => .inl h⟩
  · exact Keeps.refl _

theorem hostLoad_keeps : ∀ x0, Keeps x0 (hostLoad x0) := by
  intro x0
  unfold hostLoad
  split
  · exact Keeps.refl _
  · refine Keeps.comp (logHost_keeps _ _) ?_
    exact Keeps.refl _
  · refine Keeps.comp (hostSettle_keeps _ _ _) ?_
    refine Keeps.comp (Keeps.of (loadSaved_only _ _) (by rfl)) ?_
    exact Keeps.refl _

theorem keepLeave_keeps : ∀ x0 x1, Keeps x0 (keepLeave x0 x1) := by
  intro x0 x1
  unfold keepLeave
  lift_lets
  intro y0
  clear_value y0
  intro y1
  refine Keeps.comp (Keeps.of (setReg_only _ _ _) (by rfl)) ?_
  refine Keeps.comp (keeps_mem _ _ ?_) ?_
  · exact ⟨rfl, rfl⟩
  · exact Keeps.refl _

theorem hostStart_keeps : ∀ x0 x1 x2 x3, Keeps x0 (hostStart x0 x1 x2 x3) := by
  intro x0 x1 x2 x3
  unfold hostStart
  refine Keeps.ite ?_ ?_
  · refine Keeps.comp (keeps_hboot _ _ ?_) ?_
    · exact ⟨rfl, rfl, rfl, fun h => .inl h⟩
    · exact Keeps.refl _
  · lift_lets
    intro y0
    refine OnlyM.useHave (show Keeps x0 y0 from ?_) (fun hy0 => ?_)
    · unfold y0
      refine Keeps.comp (keepLeave_keeps _ _) ?_
      exact Keeps.refl _
    clear_value y0
    intro y1
    intro y2
    intro y3
    clear_value y3
    intro y4
    refine OnlyM.useHave (show Keeps x0 y4 from ?_) (fun hy4 => ?_)
    · unfold y4
      refine Keeps.comp (keeps_hboot_mem_pwr _ _ _ _ ?_ ?_) ?_
      · exact ⟨rfl, rfl, rfl, fun h => .inl h⟩
      · exact ⟨rfl, rfl⟩
      · assumption
    clear_value y4
    intro y5
    refine OnlyM.useHave (show Keeps x0 y5 from ?_) (fun hy5 => ?_)
    · unfold y5
      refine Keeps.comp (hostLoad_keeps _) ?_
      assumption
    clear_value y5
    intro y6
    refine OnlyM.useHave (show Keeps x0 y6 from ?_) (fun hy6 => ?_)
    · unfold y6
      refine Keeps.comp (Keeps.of (dropSpilled_only _) (by rfl)) ?_
      assumption
    clear_value y6
    refine Keeps.ite ?_ ?_
    · refine Keeps.comp (Keeps.of (rehashSlots_only _) (by rfl)) ?_
      assumption
    · assumption

theorem execHostBoot_keeps : ∀ x0 x1 x2, OutKeeps x2 (execHostBoot x0 x1 x2) := by
  intro x0 x1 x2
  unfold execHostBoot
  refine OutKeeps.next ?_
  refine Keeps.ite ?_ ?_
  · exact Keeps.refl _
  · refine Keeps.ite ?_ ?_
    · refine Keeps.comp (hostRecovery_keeps _ _) ?_
      refine Keeps.comp (Keeps.of (upd_pwr _ _) (by rfl)) ?_
      exact Keeps.refl _
    · lift_lets
      intro y0
      intro y1
      intro y2
      clear_value y2
      intro y3
      refine OnlyM.useHave (show Keeps x2 y3 from ?_) (fun hy3 => ?_)
      · unfold y3
        refine Keeps.comp (keeps_hboot_pwr _ _ _ ?_) ?_
        · exact BootKeeps.store (chooseSlot_otp true x2.hboot.store) rfl
        · exact Keeps.refl _
      clear_value y3
      split
      · refine Keeps.comp (hostRecovery_keeps _ _) ?_
        assumption
      · refine Keeps.comp (hostStart_keeps _ _ _ _) ?_
        assumption

theorem hostHold_keeps : ∀ x0 x1 x2, Keeps x0 (hostHold x0 x1 x2) := by
  intro x0 x1 x2
  unfold hostHold
  refine Keeps.comp (keeps_hboot _ _ ?_) ?_
  · exact ⟨rfl, rfl, rfl, fun h => .inl h⟩
  · exact Keeps.refl _

theorem hostUnheld_keeps : ∀ x0 x1 x2, Keeps x0 (hostUnheld x0 x1 x2) := by
  intro x0 x1 x2
  unfold hostUnheld
  refine Keeps.ite ?_ ?_
  · exact Keeps.refl _
  · lift_lets
    intro y0
    refine OnlyM.useHave (show Keeps x0 y0 from ?_) (fun hy0 => ?_)
    · unfold y0
      refine Keeps.comp (hostHold_keeps _ _ _) ?_
      exact Keeps.refl _
    clear_value y0
    refine Keeps.ite ?_ ?_
    · refine Keeps.comp (hostRelease_keeps _ _) ?_
      assumption
    · assumption

theorem execHostCrystalRestart_keeps : ∀ x0, OutKeeps x0 (execHostCrystalRestart x0) := by
  intro x0
  unfold execHostCrystalRestart
  refine OutKeeps.next ?_
  refine Keeps.ite ?_ ?_
  · refine Keeps.comp (hostUnheld_keeps _ _ _) ?_
    refine Keeps.comp (Keeps.of (drawn_only _) (by rfl)) ?_
    exact Keeps.refl _
  · exact Keeps.refl _

theorem execHostCrystalStop_keeps : ∀ x0, OutKeeps x0 (execHostCrystalStop x0) := by
  intro x0
  unfold execHostCrystalStop
  refine OutKeeps.next ?_
  lift_lets
  intro y0
  refine OnlyM.useHave (show Keeps x0 y0 from ?_) (fun hy0 => ?_)
  · unfold y0
    refine Keeps.comp (hostHold_keeps _ _ _) ?_
    exact Keeps.refl _
  clear_value y0
  refine Keeps.ite ?_ ?_
  · assumption
  · refine Keeps.comp (hostReset_keeps _ _ _) ?_
    assumption

theorem execHostEntryPush_keeps : ∀ x0, OutKeeps x0 (execHostEntryPush x0) := by
  intro x0
  unfold execHostEntryPush
  refine OutKeeps.next ?_
  split
  · lift_lets
    intro y0
    refine Keeps.ite ?_ ?_
    · refine Keeps.comp (installEntry_keeps _ _ _ _) ?_
      exact Keeps.of (takeIn_of (by assumption)) (by rfl)
    · exact Keeps.refl _
  · exact Keeps.refl _

theorem hostStep_keeps : ∀ x0 x1 x2, Keeps x0 (hostStep x0 x1 x2) := by
  intro x0 x1 x2
  unfold hostStep
  lift_lets
  intro y0
  clear_value y0
  intro y1
  clear_value y1
  intro y2
  clear_value y2
  intro y3
  refine OnlyM.useHave (show Keeps x0 y3 from ?_) (fun hy3 => ?_)
  · unfold y3
    refine Keeps.comp (Keeps.of (upd_hclk _ _) (by rfl)) ?_
    exact Keeps.refl _
  clear_value y3
  refine Keeps.comp (logHost_keeps _ _) ?_
  assumption

theorem execHostPairPush_keeps : ∀ x0, OutKeeps x0 (execHostPairPush x0) := by
  intro x0
  unfold execHostPairPush
  refine OutKeeps.next ?_
  split
  · refine Keeps.ite ?_ ?_
    · exact Keeps.refl _
    · lift_lets
      intro y0
      intro y1
      refine OnlyM.useHave (show Keeps x0 y1 from ?_) (fun hy1 => ?_)
      · unfold y1
        refine Keeps.comp (hostStep_keeps _ _ _) ?_
        exact Keeps.of (takeIn_of (by assumption)) (by rfl)
      clear_value y1
      intro y2
      clear_value y2
      refine Keeps.comp (setHclk_keeps _ _) ?_
      assumption
  · exact Keeps.refl _

theorem resetRequestWrite_keeps : ∀ x0 x1, Keeps x0 (resetRequestWrite x0 x1).1 := by
  intro x0 x1
  unfold resetRequestWrite
  refine Keeps.ite1 ?_ ?_
  · refine Keeps.pair ?_
    refine Keeps.comp (hostAsk_keeps _ _) ?_
    exact Keeps.refl _
  · refine Keeps.pair ?_
    exact Keeps.refl _

theorem execHostResetRequest_keeps : ∀ x0 x1, OutKeeps x1 (execHostResetRequest x0 x1) := by
  intro x0 x1
  unfold execHostResetRequest
  refine OutKeeps.next ?_
  refine Keeps.ite ?_ ?_
  · lift_lets
    intro y0
    refine OnlyM.useHave (show Keeps x1 y0.1 from ?_) (fun hy0 => ?_)
    · unfold y0
      refine Keeps.comp (resetRequestWrite_keeps _ _) ?_
      exact Keeps.refl _
    clear_value y0
    refine Keeps.comp (Keeps.of (sdoAnswer_only _ _ _ _ _) (by rfl)) ?_
    assumption
  · exact Keeps.refl _

theorem execHostTempSample_keeps : ∀ x0 x1, OutKeeps x1 (execHostTempSample x0 x1) := by
  intro x0 x1
  unfold execHostTempSample
  refine OutKeeps.next ?_
  refine Keeps.ite ?_ ?_
  · exact Keeps.refl _
  · lift_lets
    intro y0
    clear_value y0
    intro y1
    clear_value y1
    intro y2
    refine OnlyM.useHave (show Keeps x1 y2 from ?_) (fun hy2 => ?_)
    · unfold y2
      refine Keeps.comp (Keeps.of (putI_only _ _ _ _) (by rfl)) ?_
      refine Keeps.comp (Keeps.of (upd_pwr _ _) (by rfl)) ?_
      exact Keeps.refl _
    clear_value y2
    refine Keeps.ite ?_ ?_
    · refine Keeps.comp (hostOff_keeps _ _) ?_
      assumption
    · assumption

theorem execHostVinHigh_keeps : ∀ x0, OutKeeps x0 (execHostVinHigh x0) := by
  intro x0
  unfold execHostVinHigh
  refine OutKeeps.next ?_
  lift_lets
  intro y0
  refine OnlyM.useHave (show Keeps x0 y0 from ?_) (fun hy0 => ?_)
  · unfold y0
    refine Keeps.comp (hostHold_keeps _ _ _) ?_
    exact Keeps.refl _
  clear_value y0
  refine Keeps.ite ?_ ?_
  · assumption
  · refine Keeps.comp (hostFall_keeps _) ?_
    assumption

theorem execHostVinHighRelease_keeps : ∀ x0, OutKeeps x0 (execHostVinHighRelease x0) := by
  intro x0
  unfold execHostVinHighRelease
  refine OutKeeps.next ?_
  refine Keeps.comp (hostUnheld_keeps _ _ _) ?_
  exact Keeps.refl _

theorem execHostVinLow_keeps : ∀ x0, OutKeeps x0 (execHostVinLow x0) := by
  intro x0
  unfold execHostVinLow
  refine OutKeeps.next ?_
  lift_lets
  intro y0
  refine OnlyM.useHave (show Keeps x0 y0 from ?_) (fun hy0 => ?_)
  · unfold y0
    refine Keeps.comp (hostHold_keeps _ _ _) ?_
    exact Keeps.refl _
  clear_value y0
  refine Keeps.ite ?_ ?_
  · assumption
  · refine Keeps.comp (hostFall_keeps _) ?_
    assumption

theorem execHostVinRise_keeps : ∀ x0, OutKeeps x0 (execHostVinRise x0) := by
  intro x0
  unfold execHostVinRise
  refine OutKeeps.next ?_
  refine Keeps.ite ?_ ?_
  · lift_lets
    intro y0
    refine OnlyM.useHave (show Keeps x0 y0 from ?_) (fun hy0 => ?_)
    · unfold y0
      refine Keeps.comp (hostHold_keeps _ _ _) ?_
      exact Keeps.refl _
    clear_value y0
    refine Keeps.ite ?_ ?_
    · refine Keeps.comp (hostRelease_keeps _ _) ?_
      assumption
    · assumption
  · exact Keeps.refl _

theorem execHostVote_keeps : ∀ x0 x1, OutKeeps x1 (execHostVote x0 x1) := by
  intro x0 x1
  unfold execHostVote
  refine OutKeeps.next ?_
  split
  · lift_lets
    intro y0
    refine Keeps.ite ?_ ?_
    · exact Keeps.refl _
    · refine Keeps.ite ?_ ?_
      · exact Keeps.of (takeIn_of (by assumption)) (by rfl)
      · refine Keeps.ite ?_ ?_
        · refine Keeps.comp (becomeChecked_keeps _ _) ?_
          exact Keeps.of (takeIn_of (by assumption)) (by rfl)
        · refine Keeps.comp (Keeps.of (failSet_only _ _ _ _ _) (by rfl)) ?_
          exact Keeps.of (takeIn_of (by assumption)) (by rfl)
  · exact Keeps.refl _

theorem execHostWarmReset_keeps : ∀ x0, OutKeeps x0 (execHostWarmReset x0) := by
  intro x0
  unfold execHostWarmReset
  refine OutKeeps.next ?_
  split
  · refine Keeps.comp (hostReset_keeps _ _ _) ?_
    exact Keeps.refl _
  · exact Keeps.refl _

theorem execHpdFall_keeps : ∀ x0, OutKeeps x0 (execHpdFall x0) := by
  intro x0
  unfold execHpdFall
  refine OutKeeps.next ?_
  lift_lets
  intro y0
  clear_value y0
  intro y1
  refine OnlyM.useHave (show Keeps x0 y1 from ?_) (fun hy1 => ?_)
  · unfold y1
    refine Keeps.comp (Keeps.of (upd_comp _ _) (by rfl)) ?_
    exact Keeps.refl _
  clear_value y1
  refine Keeps.ite ?_ ?_
  · refine Keeps.comp (compIrq_keeps _ _) ?_
    refine Keeps.comp (Keeps.of (setReg_only _ _ _) (by rfl)) ?_
    assumption
  · assumption

theorem execHpdRise_keeps : ∀ x0, OutKeeps x0 (execHpdRise x0) := by
  intro x0
  unfold execHpdRise
  refine OutKeeps.next ?_
  lift_lets
  intro y0
  clear_value y0
  intro y1
  refine OnlyM.useHave (show Keeps x0 y1 from ?_) (fun hy1 => ?_)
  · unfold y1
    refine Keeps.comp (Keeps.of (upd_comp _ _) (by rfl)) ?_
    exact Keeps.refl _
  clear_value y1
  refine Keeps.ite ?_ ?_
  · refine Keeps.comp (compIrq_keeps _ _) ?_
    assumption
  · assumption

theorem indexSeen_keeps : ∀ x0, Keeps x0 (indexSeen x0) := by
  intro x0
  unfold indexSeen
  refine Keeps.ite ?_ ?_
  · exact Keeps.refl _
  · lift_lets
    intro y0
    intro y1
    intro y2
    intro y3
    refine OnlyM.useHave (show Keeps x0 y3 from ?_) (fun hy3 => ?_)
    · unfold y3
      refine Keeps.comp (Keeps.of (upd_pos _ _) (by rfl)) ?_
      exact Keeps.refl _
    intro y4
    clear_value y4
    intro y5
    refine OnlyM.useHave (show Keeps x0 y5 from ?_) (fun hy5 => ?_)
    · unfold y5
      refine Keeps.ite ?_ ?_
      · refine Keeps.comp (Keeps.of (upd_pos _ _) (by rfl)) ?_
        assumption
      · assumption
    clear_value y5
    split
    · refine Keeps.ite ?_ ?_
      · assumption
      · refine Keeps.comp (Keeps.of (positionNotice_only _ _) (by rfl)) ?_
        assumption
    · lift_lets
      intro y6
      clear_value y6
      refine Keeps.ite ?_ ?_
      · exact Keeps.refl _
      · split
        · refine Keeps.comp (setPosMode_keeps _ _) ?_
          refine Keeps.ite ?_ ?_
          · exact Keeps.refl _
          · refine Keeps.comp (stepTo_keeps _ _) ?_
            exact Keeps.refl _
        · refine Keeps.ite ?_ ?_
          · refine Keeps.comp (posRec_keeps _ _ _ _ _ _ _) ?_
            exact Keeps.refl _
          · refine Keeps.ite ?_ ?_
            · exact Keeps.refl _
            · refine Keeps.comp (stepTo_keeps _ _) ?_
              exact Keeps.refl _
        · exact Keeps.refl _

theorem execIndexMark_keeps : ∀ x0 x1, OutKeeps x1 (execIndexMark x0 x1) := by
  intro x0 x1
  unfold execIndexMark
  refine OutKeeps.next ?_
  refine Keeps.ite ?_ ?_
  · refine Keeps.comp (indexSeen_keeps _) ?_
    exact Keeps.refl _
  · exact Keeps.refl _

theorem execInstallHostImage_keeps : ∀ x0 x1 x2, OutKeeps x2 (execInstallHostImage x0 x1 x2) := by
  intro x0 x1 x2
  unfold execInstallHostImage
  refine OutKeeps.next ?_
  refine Keeps.ite ?_ ?_
  · lift_lets
    intro y0
    intro y1
    refine Keeps.comp (Keeps.of (sdoAnswer_only _ _ _ _ _) (by rfl)) ?_
    refine Keeps.comp (Keeps.of (putN_only _ _ _ _) (by rfl)) ?_
    refine Keeps.comp (keeps_hboot _ _ ?_) ?_
    · exact .store (install_otp _ _ _ _) rfl
    · exact Keeps.refl _
  · exact Keeps.refl _

theorem execIspOutputComplete_keeps : ∀ x0 x1, OutKeeps x1 (execIspOutputComplete x0 x1) := by
  intro x0 x1
  unfold execIspOutputComplete
  lift_lets
  intro y0
  clear_value y0
  intro y1
  clear_value y1
  refine OutKeeps.next ?_
  refine Keeps.ite ?_ ?_
  · exact Keeps.refl _
  · split
    · exact Keeps.refl _
    · lift_lets
      intro y2
      clear_value y2
      intro y3
      refine OnlyM.useHave (show Keeps x1 y3 from ?_) (fun hy3 => ?_)
      · unfold y3
        refine Keeps.comp (Keeps.of (setStm_only _ _ _) (by rfl)) ?_
        exact Keeps.refl _
      clear_value y3
      refine Keeps.foldl ?_ (fun _ _ _ => ?_)
      · refine Keeps.comp (finishFrame_keeps _ _ _) ?_
        assumption
      · refine Keeps.comp (finishFrame_keeps _ _ _) ?_
        assumption

theorem execJobComplete_keeps : ∀ x0 x1, OutKeeps x1 (execJobComplete x0 x1) := by
  intro x0 x1
  unfold execJobComplete
  lift_lets
  intro y0
  clear_value y0
  refine OutKeeps.next ?_
  split
  · lift_lets
    intro y1
    clear_value y1
    refine Keeps.ite ?_ ?_
    · refine Keeps.comp (completeJob_keeps _ _ _ _) ?_
      refine Keeps.comp (Keeps.of (setJob_only _ _ _) (by rfl)) ?_
      exact Keeps.refl _
    · exact Keeps.refl _
  · exact Keeps.refl _

theorem execJobDispatch_keeps : ∀ x0 x1, OutKeeps x1 (execJobDispatch x0 x1) := by
  intro x0 x1
  unfold execJobDispatch
  refine OutKeeps.next ?_
  refine Keeps.ite ?_ ?_
  · refine Keeps.comp (dispatchJob_keeps _ _) ?_
    exact Keeps.refl _
  · exact Keeps.refl _

theorem execKernelBoundary_keeps : ∀ x0 x1 x2 x3 x4, OutKeeps x4 (execKernelBoundary x0 x1 x2 x3 x4) := by
  intro x0 x1 x2 x3 x4
  unfold execKernelBoundary
  refine OutKeeps.next ?_
  refine Keeps.ite ?_ ?_
  · refine Keeps.comp (boundary_keeps _ _ _ _ _) ?_
    exact Keeps.refl _
  · exact Keeps.refl _

theorem execKvClose_keeps : ∀ x0 x1 x2, OutKeeps x2 (execKvClose x0 x1 x2) := by
  intro x0 x1 x2
  unfold execKvClose
  refine OutKeeps.next ?_
  refine Keeps.ite ?_ ?_
  · refine Keeps.comp (kvRetry_keeps _ _) ?_
    refine Keeps.comp (Keeps.of (kvCloseSeq_only _ _ _) (by rfl)) ?_
    exact Keeps.refl _
  · exact Keeps.refl _

theorem execKvPrefetch_keeps : ∀ x0 x1 x2, OutKeeps x2 (execKvPrefetch x0 x1 x2) := by
  intro x0 x1 x2
  unfold execKvPrefetch
  refine OutKeeps.next ?_
  refine Keeps.ite ?_ ?_
  · refine Keeps.comp (kvPrefetchSeq_keeps _ _ _) ?_
    exact Keeps.refl _
  · exact Keeps.refl _

theorem execKvReset_keeps : ∀ x0 x1 x2, OutKeeps x2 (execKvReset x0 x1 x2) := by
  intro x0 x1 x2
  unfold execKvReset
  refine OutKeeps.next ?_
  refine Keeps.ite ?_ ?_
  · refine Keeps.comp (kvRetry_keeps _ _) ?_
    refine Keeps.comp (Keeps.of (kvResetSeq_only _ _ _) (by rfl)) ?_
    exact Keeps.refl _
  · exact Keeps.refl _

theorem safeStandby_keeps : ∀ x0, Keeps x0 (safeStandby x0) := by
  intro x0
  unfold safeStandby
  lift_lets
  intro y0
  clear_value y0
  intro y1
  refine OnlyM.useHave (show Keeps x0 y1 from ?_) (fun hy1 => ?_)
  · unfold y1
    refine Keeps.comp (startReaction_keeps _ _ _ _ _ _ _ _ _) ?_
    exact Keeps.refl _
  clear_value y1
  refine Keeps.ite ?_ ?_
  · refine Keeps.comp (setAl_keeps _ _ _ _ _) ?_
    exact Keeps.refl _
  · refine Keeps.ite ?_ ?_
    · refine Keeps.comp (setAl_keeps _ _ _ _ _) ?_
      assumption
    · assumption

theorem fieldLevels_keeps : ∀ x0 x1, Keeps x0 (fieldLevels x0 x1) := by
  intro x0 x1
  unfold fieldLevels
  lift_lets
  intro y0
  clear_value y0
  intro y1
  clear_value y1
  intro y2
  clear_value y2
  intro y3
  refine OnlyM.useHave (show Keeps x0 y3 from ?_) (fun hy3 => ?_)
  · unfold y3
    refine Keeps.comp (Keeps.of (upd_link _ _) (by rfl)) ?_
    exact Keeps.refl _
  clear_value y3
  intro y4
  refine OnlyM.useHave (show Keeps x0 y4 from ?_) (fun hy4 => ?_)
  · unfold y4
    refine Keeps.comp (Keeps.of (putN_only _ _ _ _) (by rfl)) ?_
    refine Keeps.comp (Keeps.of (putN_only _ _ _ _) (by rfl)) ?_
    assumption
  clear_value y4
  intro y5
  refine OnlyM.useHave (show Keeps x0 y5 from ?_) (fun hy5 => ?_)
  · unfold y5
    refine Keeps.comp (keeps_fboot _ _ ?_) ?_
    · exact commitTrial_keeps _
    · assumption
  clear_value y5
  refine Keeps.ite ?_ ?_
  · refine Keeps.comp (safeStandby_keeps _) ?_
    refine Keeps.comp (Keeps.of (setsHostDown_only _) (by rfl)) ?_
    assumption
  · refine Keeps.ite ?_ ?_
    · refine Keeps.comp (Keeps.of (emcy_only _ _ _ _) (by rfl)) ?_
      assumption
    · assumption

theorem hostLevels_keeps : ∀ x0 x1 x2, Keeps x0 (hostLevels x0 x1 x2) := by
  intro x0 x1 x2
  unfold hostLevels
  lift_lets
  intro y0
  clear_value y0
  intro y1
  clear_value y1
  intro y2
  clear_value y2
  intro y3
  refine OnlyM.useHave (show Keeps x0 y3 from ?_) (fun hy3 => ?_)
  · unfold y3
    refine Keeps.comp (Keeps.of (upd_replica_link_sets _ _ _ _) (by rfl)) ?_
    exact Keeps.refl _
  clear_value y3
  intro y4
  refine OnlyM.useHave (show Keeps x0 y4 from ?_) (fun hy4 => ?_)
  · unfold y4
    refine Keeps.foldl ?_ (fun _ _ _ => ?_)
    · assumption
    · refine Keeps.comp (Keeps.of (putObj_only _ _ _ _) (by rfl)) ?_
      assumption
  clear_value y4
  refine Keeps.ite ?_ ?_
  · assumption
  · refine Keeps.comp (keeps_hboot _ _ ?_) ?_
    · exact commitTrial_keeps _
    · assumption

theorem reloadKept_keeps : ∀ x0, Keeps x0 (reloadKept x0) := by
  intro x0
  unfold reloadKept
  refine Keeps.comp (hostSettle_keeps _ _ _) ?_
  refine Keeps.foldl ?_ (fun _ _ _ => ?_)
  · exact Keeps.refl _
  · refine Keeps.comp (Keeps.of (putObj_only _ _ _ _) (by rfl)) ?_
    assumption

theorem levelsDone_keeps : ∀ x0, Keeps x0 (levelsDone x0) := by
  intro x0
  unfold levelsDone
  refine Keeps.ite ?_ ?_
  · lift_lets
    intro y0
    intro y1
    refine OnlyM.useHave (show Keeps x0 y1 from ?_) (fun hy1 => ?_)
    · unfold y1
      refine Keeps.comp (Keeps.of (upd_link _ _) (by rfl)) ?_
      exact Keeps.refl _
    refine Keeps.ite ?_ ?_
    · assumption
    · refine Keeps.comp (Keeps.of (pushAll_only _) (by rfl)) ?_
      refine Keeps.comp (reloadKept_keeps _) ?_
      assumption
  · exact Keeps.refl _

theorem execLevelsFrame_keeps : ∀ x0 x1, OutKeeps x1 (execLevelsFrame x0 x1) := by
  intro x0 x1
  unfold execLevelsFrame
  refine OutKeeps.next ?_
  refine Keeps.ite ?_ ?_
  · exact Keeps.refl _
  · split
    · lift_lets
      intro y0
      refine OnlyM.useHave (show Keeps x1 y0 from ?_) (fun hy0 => ?_)
      · unfold y0
        refine Keeps.comp (takeFields_keeps _ _ _) ?_
        exact Keeps.of (takeControl_of (by assumption)) (by rfl)
      clear_value y0
      refine Keeps.comp (levelsDone_keeps _) ?_
      split
      · refine Keeps.comp (fieldLevels_keeps _ _) ?_
        assumption
      · refine Keeps.comp (hostLevels_keeps _ _ _) ?_
        assumption
    · exact Keeps.refl _

theorem execLineBreak_keeps : ∀ x0, OutKeeps x0 (execLineBreak x0) := by
  intro x0
  unfold execLineBreak
  refine OutKeeps.next ?_
  refine Keeps.ite ?_ ?_
  · refine Keeps.comp (encoderLoss_keeps _) ?_
    refine Keeps.comp (Keeps.of (bump_only _ _ _ _) (by rfl)) ?_
    refine Keeps.comp (Keeps.of (upd_pos _ _) (by rfl)) ?_
    exact Keeps.refl _
  · exact Keeps.refl _

theorem quadratureError_keeps : ∀ x0, Keeps x0 (quadratureError x0) := by
  intro x0
  unfold quadratureError
  lift_lets
  intro y0
  clear_value y0
  intro y1
  clear_value y1
  intro y2
  refine OnlyM.useHave (show Keeps x0 y2 from ?_) (fun hy2 => ?_)
  · unfold y2
    refine Keeps.comp (Keeps.of (bump_only _ _ _ _) (by rfl)) ?_
    refine Keeps.comp (Keeps.of (upd_pos _ _) (by rfl)) ?_
    exact Keeps.refl _
  clear_value y2
  refine Keeps.ite ?_ ?_
  · refine Keeps.comp (encoderLoss_keeps _) ?_
    assumption
  · assumption

theorem execLineEncoderEdge_keeps : ∀ x0 x1 x2 x3 x4, OutKeeps x4 (execLineEncoderEdge x0 x1 x2 x3 x4) := by
  intro x0 x1 x2 x3 x4
  unfold execLineEncoderEdge
  lift_lets
  intro y0
  clear_value y0
  intro y1
  clear_value y1
  intro y2
  clear_value y2
  intro y3
  clear_value y3
  intro y4
  clear_value y4
  intro y5
  refine OnlyM.useHave (show Keeps x4 y5 from ?_) (fun hy5 => ?_)
  · unfold y5
    refine Keeps.comp (Keeps.of (upd_pos _ _) (by rfl)) ?_
    exact Keeps.refl _
  clear_value y5
  refine OutKeeps.next ?_
  refine Keeps.ite ?_ ?_
  · exact Keeps.refl _
  · refine Keeps.ite ?_ ?_
    · assumption
    · refine Keeps.ite ?_ ?_
      · refine Keeps.ite ?_ ?_
        · refine Keeps.comp (countEdge_keeps _ _) ?_
          assumption
        · assumption
      · refine Keeps.ite ?_ ?_
        · refine Keeps.comp (quadratureError_keeps _) ?_
          assumption
        · refine Keeps.ite ?_ ?_
          · refine Keeps.comp (countEdge_keeps _ _) ?_
            assumption
          · refine Keeps.ite ?_ ?_
            · refine Keeps.comp (countEdge_keeps _ _) ?_
              assumption
            · assumption

theorem execLinkFrame_keeps : ∀ x0 x1, OutKeeps x1 (execLinkFrame x0 x1) := by
  intro x0 x1
  unfold execLinkFrame
  refine OutKeeps.next ?_
  refine Keeps.ite ?_ ?_
  · exact Keeps.refl _
  · split
    · refine Keeps.comp (linkIn_keeps _ _ _) ?_
      exact Keeps.of (takeControl_of (by assumption)) (by rfl)
    · exact Keeps.refl _

theorem linkUpEnds_keeps : ∀ x0 x1 x2 x3, Keeps x0 (linkUpEnds x0 x1 x2 x3) := by
  intro x0 x1 x2 x3
  unfold linkUpEnds
  lift_lets
  intro y0
  refine OnlyM.useHave (show Keeps x0 y0 from ?_) (fun hy0 => ?_)
  · unfold y0
    refine Keeps.comp (acked_keeps _ _ _) ?_
    refine Keeps.comp (acked_keeps _ _ _) ?_
    exact Keeps.refl _
  clear_value y0
  intro y1
  refine OnlyM.useHave (show Keeps x0 y1 from ?_) (fun hy1 => ?_)
  · unfold y1
    refine Keeps.ite ?_ ?_
    · refine Keeps.comp (Keeps.of (upd_fend_hend _ _ _) (by rfl)) ?_
      exact Keeps.refl _
    · refine Keeps.comp (Keeps.of (upd_fend_hend _ _ _) (by rfl)) ?_
      assumption
  clear_value y1
  refine Keeps.comp (Keeps.of (upd_fend_hend _ _ _) (by rfl)) ?_
  assumption

theorem flushHeld_keeps : ∀ x0, Keeps x0 (flushHeld x0) := by
  intro x0
  unfold flushHeld
  lift_lets
  intro y0
  clear_value y0
  intro y1
  refine Keeps.foldl ?_ (fun _ _ _ => ?_)
  · refine Keeps.comp (keeps_saf _ _ ?_) ?_
    · exact fun h => ⟨by first | exact h.1 | exact Nat.zero_le _ | exact List.length_take_le _ _, h.2.1, by first | exact h.2.2.1 | exact Nat.zero_le _, by first | exact h.2.2.2 | exact Nat.zero_le _ | exact List.length_take_le _ _⟩
    · exact Keeps.refl _
  · refine Keeps.comp (Keeps.of (ropeSend_only _ _ _) (by rfl)) ?_
    assumption

theorem linkUpNews_keeps : ∀ x0 x1 x2 x3 x4, Keeps x0 (linkUpNews x0 x1 x2 x3 x4) := by
  intro x0 x1 x2 x3 x4
  unfold linkUpNews
  lift_lets
  intro y0
  refine OnlyM.useHave (show Keeps x0 y0 from ?_) (fun hy0 => ?_)
  · unfold y0
    refine Keeps.ite ?_ ?_
    · refine Keeps.comp (Keeps.of (ropeControl_only _ _ _ _ _) (by rfl)) ?_
      exact Keeps.refl _
    · exact Keeps.refl _
  clear_value y0
  intro y1
  refine OnlyM.useHave (show Keeps x0 y1 from ?_) (fun hy1 => ?_)
  · unfold y1
    refine Keeps.ite ?_ ?_
    · refine Keeps.comp (Keeps.of (ropeControl_only _ _ _ _ _) (by rfl)) ?_
      assumption
    · assumption
  clear_value y1
  intro y2
  refine OnlyM.useHave (show Keeps x0 y2 from ?_) (fun hy2 => ?_)
  · unfold y2
    refine Keeps.ite ?_ ?_
    · refine Keeps.comp (Keeps.of (emcy_only _ _ _ _) (by rfl)) ?_
      refine Keeps.comp (Keeps.of (bump_only _ _ _ _) (by rfl)) ?_
      assumption
    · assumption
  clear_value y2
  intro y3
  refine OnlyM.useHave (show Keeps x0 y3 from ?_) (fun hy3 => ?_)
  · unfold y3
    refine Keeps.ite ?_ ?_
    · refine Keeps.comp (linkNotice_keeps _ _) ?_
      assumption
    · assumption
  clear_value y3
  refine Keeps.comp (flushHeld_keeps _) ?_
  assumption

theorem linkTrained_keeps : ∀ x0 x1 x2, Keeps x0 (linkTrained x0 x1 x2) := by
  intro x0 x1 x2
  unfold linkTrained
  lift_lets
  intro y0
  clear_value y0
  intro y1
  clear_value y1
  intro y2
  clear_value y2
  intro y3
  clear_value y3
  intro y4
  clear_value y4
  intro y5
  refine OnlyM.useHave (show Keeps x0 y5 from ?_) (fun hy5 => ?_)
  · unfold y5
    refine Keeps.comp (Keeps.of (linkUpState_only _ _ _ _) (by rfl)) ?_
    exact Keeps.refl _
  clear_value y5
  intro y6
  refine OnlyM.useHave (show Keeps x0 y6 from ?_) (fun hy6 => ?_)
  · unfold y6
    refine Keeps.ite ?_ ?_
    · refine Keeps.comp (Keeps.of (putN_only _ _ _ _) (by rfl)) ?_
      assumption
    · assumption
  clear_value y6
  intro y7
  refine OnlyM.useHave (show Keeps x0 y7 from ?_) (fun hy7 => ?_)
  · unfold y7
    refine Keeps.comp (linkUpEnds_keeps _ _ _ _) ?_
    assumption
  clear_value y7
  intro y8
  refine OnlyM.useHave (show Keeps x0 y8 from ?_) (fun hy8 => ?_)
  · unfold y8
    refine Keeps.comp (linkUpNews_keeps _ _ _ _ _) ?_
    assumption
  clear_value y8
  refine Keeps.ite ?_ ?_
  · refine Keeps.comp (linkDown_keeps _) ?_
    refine Keeps.comp (Keeps.of (upd_link _ _) (by rfl)) ?_
    exact Keeps.refl _
  · split
    · refine Keeps.comp (Keeps.of (retrain_only _ _ _ _) (by rfl)) ?_
      assumption
    · assumption

theorem execLinkUp_keeps : ∀ x0 x1 x2, OutKeeps x2 (execLinkUp x0 x1 x2) := by
  intro x0 x1 x2
  unfold execLinkUp
  refine OutKeeps.next ?_
  refine Keeps.ite ?_ ?_
  · refine Keeps.comp (linkTrained_keeps _ _ _) ?_
    exact Keeps.refl _
  · exact Keeps.refl _

theorem execLockstepMismatch_keeps : ∀ x0, OutKeeps x0 (execLockstepMismatch x0) := by
  intro x0
  unfold execLockstepMismatch
  refine OutKeeps.next ?_
  refine Keeps.ite ?_ ?_
  · refine Keeps.comp (firmwareHalt_keeps _) ?_
    refine Keeps.comp (Keeps.of (stoAll_only _) (by rfl)) ?_
    refine Keeps.comp (keeps_saf _ _ ?_) ?_
    · exact fun h => h
    · exact Keeps.refl _
  · exact Keeps.refl _

theorem positionCommand_keeps : ∀ x0 x1, Keeps x0 (positionCommand x0 x1).1 := by
  intro x0 x1
  have h : ∀ (e : Nat) (l : List Nat), Keeps x0 (if !entryOk .field e then (x0, some (4, 0xFF))
      else match l with
        | [] => (x0, some (1, 0xFF))
        | n :: _ => (fieldEntrySet x0 n e, none)).1 := by
    intro e l
    refine Keeps.ite1 (Keeps.refl _) ?_
    cases l with
    | nil => exact Keeps.refl _
    | cons n t => exact fieldEntrySet_keeps _ _ _
  exact h _ _

theorem mirrorCommand_keeps : ∀ x0 x1, Keeps x0 (mirrorCommand x0 x1).1 := by
  intro x0 x1
  unfold mirrorCommand
  refine Keeps.ite1 ?_ ?_
  · refine Keeps.pair ?_
    exact Keeps.refl _
  · refine Keeps.ite1 ?_ ?_
    · refine Keeps.comp (positionCommand_keeps _ _) ?_
      exact Keeps.refl _
    · refine Keeps.ite1 ?_ ?_
      · refine Keeps.comp (Keeps.of (axisCommand_only _ _) (by rfl)) ?_
        exact Keeps.refl _
      · refine Keeps.pair ?_
        exact Keeps.refl _

theorem takeMirror_keeps : ∀ x0 x1, Keeps x0 (takeMirror x0 x1) := by
  intro x0 x1
  unfold takeMirror
  lift_lets
  intro y0
  clear_value y0
  intro y1
  refine OnlyM.useHave (show Keeps x0 y1 from ?_) (fun hy1 => ?_)
  · unfold y1
    refine Keeps.comp (ageCount_keeps _ _) ?_
    exact Keeps.refl _
  clear_value y1
  intro y2
  refine OnlyM.useHave (show Keeps x0 y2.1 from ?_) (fun hy2 => ?_)
  · unfold y2
    refine Keeps.comp (mirrorCommand_keeps _ _) ?_
    assumption
  clear_value y2
  refine Keeps.ite ?_ ?_
  · refine Keeps.comp (Keeps.of (placeResult_only _ _ _ _) (by rfl)) ?_
    refine Keeps.comp (ageReject_keeps _ _ _) ?_
    assumption
  · split
    · refine Keeps.comp (Keeps.of (placeResult_only _ _ _ _) (by rfl)) ?_
      refine Keeps.comp (Keeps.of (commandRejected_only _ _ _ _) (by rfl)) ?_
      assumption
    · refine Keeps.comp (Keeps.of (placeResult_only _ _ _ _) (by rfl)) ?_
      assumption

end Sys2Proof.Laws
end

