-- ==== Sys2Proof/Laws/KeepD.lean ====
section
/-! SUPPORT. Every operation that reaches the boot state, DRAM or the fault log keeps what `Keeps` says, part 4. -/

namespace Sys2Proof.Laws

open Machine

theorem execMirrorMessage_keeps : ∀ x0, OutKeeps x0 (execMirrorMessage x0) := by
  intro x0
  unfold execMirrorMessage
  refine OutKeeps.next ?_
  split
  · refine Keeps.ite ?_ ?_
    · refine Keeps.comp (takeMirror_keeps _ _) ?_
      exact Keeps.of (takeIn_of (by assumption)) (by rfl)
    · exact Keeps.refl _
  · exact Keeps.refl _

theorem execModeOfOperationWrite_keeps : ∀ x0 x1 x2, OutKeeps x2 (execModeOfOperationWrite x0 x1 x2) := by
  intro x0 x1 x2
  unfold execModeOfOperationWrite
  refine OutKeeps.next ?_
  refine Keeps.comp (objectWrite_keeps _ _ _ _) ?_
  exact Keeps.refl _

theorem publishCopies_keeps : ∀ x0 x1 x2 x3, Keeps x0 (publishCopies x0 x1 x2 x3) := by
  intro x0 x1 x2 x3
  unfold publishCopies
  refine Keeps.foldl ?_ (fun _ _ _ => ?_)
  · exact Keeps.refl _
  · refine Keeps.ite ?_ ?_
    · refine Keeps.comp (publish_keeps _ _ _ _ _ _ _) ?_
      assumption
    · assumption

theorem publishNode_keeps : ∀ x0 x1 x2 x3, Keeps x0 (publishNode x0 x1 x2 x3) := by
  intro x0 x1 x2 x3
  unfold publishNode
  lift_lets
  intro y0
  clear_value y0
  intro y1
  clear_value y1
  refine Keeps.ite ?_ ?_
  · refine Keeps.comp (publishCopies_keeps _ _ _ _) ?_
    exact Keeps.refl _
  · split
    · refine Keeps.comp (Keeps.of (setGph_only _ _ _) (by rfl)) ?_
      exact Keeps.refl _
    · exact Keeps.refl _

theorem readSurface_keeps : ∀ x0 x1 x2 x3, Keeps x0 (readSurface x0 x1 x2 x3).1 := by
  intro x0 x1 x2 x3
  unfold readSurface
  refine Keeps.ite1 ?_ ?_
  · refine Keeps.pair ?_
    exact Keeps.refl _
  · lift_lets
    intro y0
    clear_value y0
    intro y1
    refine OnlyM.useHave (show Keeps x0 y1.1 from ?_) (fun hy1 => ?_)
    · unfold y1
      refine Keeps.comp (engLoad_keeps _ _ _ _) ?_
      exact Keeps.refl _
    clear_value y1
    refine Keeps.pair ?_
    refine Keeps.comp (countLine_keeps _ _ _) ?_
    assumption

theorem readInputs_keeps : ∀ x0 x1 x2 x3, Keeps x0 (readInputs x0 x1 x2 x3).1 := by
  intro x0 x1 x2 x3
  unfold readInputs
  refine Keeps.foldl1 ?_ (fun _ _ _ => ?_)
  · refine Keeps.pair ?_
    exact Keeps.refl _
  · lift_lets
    intro y0
    clear_value y0
    intro y1
    refine OnlyM.useHave (show Keeps x0 y1.1 from ?_) (fun hy1 => ?_)
    · unfold y1
      refine Keeps.comp (readSurface_keeps _ _ _ _) ?_
      assumption
    clear_value y1
    refine Keeps.pair ?_
    assumption

theorem writeSurface_keeps : ∀ x0 x1 x2 x3 x4, Keeps x0 (writeSurface x0 x1 x2 x3 x4) := by
  intro x0 x1 x2 x3 x4
  unfold writeSurface
  refine Keeps.ite ?_ ?_
  · refine Keeps.comp (grottoWrite_keeps _ _ _) ?_
    exact Keeps.refl _
  · refine Keeps.foldl ?_ (fun _ _ _ => ?_)
    · exact Keeps.refl _
    · lift_lets
      intro y0
      refine OnlyM.useHave (show Keeps x0 y0.1 from ?_) (fun hy0 => ?_)
      · unfold y0
        refine Keeps.comp (postStore_keeps _ _ _ _ _) ?_
        assumption
      clear_value y0
      refine Keeps.ite ?_ ?_
      · assumption
      · refine Keeps.comp (Keeps.of (runLateFault_only _ _ _) (by rfl)) ?_
        assumption

theorem writeOutputs_keeps : ∀ x0 x1 x2 x3 x4 x5, Keeps x0 (writeOutputs x0 x1 x2 x3 x4 x5) := by
  intro x0 x1 x2 x3 x4 x5
  unfold writeOutputs
  refine Keeps.foldl ?_ (fun _ _ _ => ?_)
  · exact Keeps.refl _
  · lift_lets
    intro y0
    clear_value y0
    refine Keeps.comp (writeSurface_keeps _ _ _ _ _) ?_
    assumption

theorem execNodeComplete_keeps : ∀ x0 x1 x2 x3, OutKeeps x3 (execNodeComplete x0 x1 x2 x3) := by
  intro x0 x1 x2 x3
  unfold execNodeComplete
  lift_lets
  intro y0
  clear_value y0
  intro y1
  clear_value y1
  refine OutKeeps.next ?_
  split
  · exact Keeps.refl _
  · lift_lets
    intro y2
    clear_value y2
    intro y3
    clear_value y3
    intro y4
    refine OnlyM.useHave (show Keeps x3 y4.1 from ?_) (fun hy4 => ?_)
    · unfold y4
      refine Keeps.comp (readInputs_keeps _ _ _ _) ?_
      exact Keeps.refl _
    clear_value y4
    intro y5
    clear_value y5
    intro y6
    clear_value y6
    intro y7
    clear_value y7
    intro y8
    refine OnlyM.useHave (show Keeps x3 y8 from ?_) (fun hy8 => ?_)
    · unfold y8
      refine Keeps.comp (Keeps.of (leaveEngines_only _ _) (by rfl)) ?_
      refine Keeps.comp (Keeps.of (setGph_only _ _ _) (by rfl)) ?_
      assumption
    clear_value y8
    intro y9
    refine OnlyM.useHave (show Keeps x3 y9 from ?_) (fun hy9 => ?_)
    · unfold y9
      refine Keeps.comp (writeOutputs_keeps _ _ _ _ _ _) ?_
      assumption
    clear_value y9
    intro y10
    refine OnlyM.useHave (show Keeps x3 y10 from ?_) (fun hy10 => ?_)
    · unfold y10
      refine Keeps.ite ?_ ?_
      · refine Keeps.comp (Keeps.of (bump_only _ _ _ _) (by rfl)) ?_
        assumption
      · assumption
    clear_value y10
    intro y11
    refine OnlyM.useHave (show Keeps x3 y11 from ?_) (fun hy11 => ?_)
    · unfold y11
      refine Keeps.ite ?_ ?_
      · refine Keeps.comp (Keeps.of (drawn_only _) (by rfl)) ?_
        refine Keeps.comp (logHost_keeps _ _) ?_
        refine Keeps.comp (Keeps.of (bump_only _ _ _ _) (by rfl)) ?_
        assumption
      · assumption
    clear_value y11
    refine Keeps.ite ?_ ?_
    · exact Keeps.refl _
    · refine Keeps.comp (runTryEnd_keeps _ _) ?_
      refine Keeps.comp (Keeps.of (releaseRead_only _ _) (by rfl)) ?_
      refine Keeps.comp (publishNode_keeps _ _ _ _) ?_
      assumption

theorem execNodeTimeLimit_keeps : ∀ x0 x1 x2, OutKeeps x2 (execNodeTimeLimit x0 x1 x2) := by
  intro x0 x1 x2
  unfold execNodeTimeLimit
  lift_lets
  intro y0
  clear_value y0
  intro y1
  clear_value y1
  intro y2
  clear_value y2
  refine OutKeeps.next ?_
  split
  · exact Keeps.refl _
  · lift_lets
    intro y3
    refine OnlyM.useHave (show Keeps x2 y3 from ?_) (fun hy3 => ?_)
    · unfold y3
      refine Keeps.comp (Keeps.of (setGph_only _ _ _) (by rfl)) ?_
      exact Keeps.refl _
    clear_value y3
    refine Keeps.ite ?_ ?_
    · exact Keeps.refl _
    · refine Keeps.comp (runTryEnd_keeps _ _) ?_
      refine Keeps.comp (Keeps.of (releaseRead_only _ _) (by rfl)) ?_
      refine Keeps.comp (Keeps.of (leaveEngines_only _ _) (by rfl)) ?_
      assumption

theorem execNqCancel_keeps : ∀ x0 x1 x2, OutKeeps x2 (execNqCancel x0 x1 x2) := by
  intro x0 x1 x2
  unfold execNqCancel
  refine OutKeeps.next ?_
  refine Keeps.ite ?_ ?_
  · refine Keeps.comp (cancelHead_keeps _ _) ?_
    exact Keeps.refl _
  · exact Keeps.refl _

theorem execNqRelease_keeps : ∀ x0 x1 x2, OutKeeps x2 (execNqRelease x0 x1 x2) := by
  intro x0 x1 x2
  unfold execNqRelease
  refine OutKeeps.next ?_
  refine Keeps.ite ?_ ?_
  · refine Keeps.comp (jobRelease_keeps _ _) ?_
    exact Keeps.refl _
  · exact Keeps.refl _

theorem execPairFault_keeps : ∀ x0 x1, OutKeeps x1 (execPairFault x0 x1) := by
  intro x0 x1
  unfold execPairFault
  refine OutKeeps.next ?_
  refine Keeps.ite ?_ ?_
  · exact Keeps.refl _
  · refine Keeps.comp (pairsFault_keeps _ _ _) ?_
    exact Keeps.refl _

theorem execPartnerBootTimeout_keeps : ∀ x0 x1, OutKeeps x1 (execPartnerBootTimeout x0 x1) := by
  intro x0 x1
  unfold execPartnerBootTimeout
  refine OutKeeps.next ?_
  split
  · refine Keeps.ite ?_ ?_
    · refine Keeps.comp (hostLost_keeps _) ?_
      refine Keeps.ite ?_ ?_
      · refine Keeps.comp (Keeps.of (putN_only _ _ _ _) (by rfl)) ?_
        exact Keeps.refl _
      · exact Keeps.refl _
    · exact Keeps.refl _
  · refine Keeps.ite ?_ ?_
    · refine Keeps.comp (fieldLost_keeps _) ?_
      exact Keeps.refl _
    · exact Keeps.refl _

theorem execPatrolScrub_keeps : ∀ x0 x1 x2 x3, OutKeeps x3 (execPatrolScrub x0 x1 x2 x3) := by
  intro x0 x1 x2 x3
  unfold execPatrolScrub
  refine OutKeeps.next ?_
  refine Keeps.ite ?_ ?_
  · exact Keeps.refl _
  · lift_lets
    intro y0
    refine OnlyM.useHave (show Keeps x3 y0 from ?_) (fun hy0 => ?_)
    · unfold y0
      refine Keeps.comp (eccRead_keeps _ _ _) ?_
      exact Keeps.refl _
    clear_value y0
    intro y1
    refine Keeps.ite ?_ ?_
    · refine Keeps.comp (keeps_mem _ _ ?_) ?_
      · exact ⟨rfl, rfl⟩
      · assumption
    · assumption

theorem portData_keeps : ∀ x0 x1, Keeps x0 (portData x0 x1).1 := by
  intro x0 x1
  unfold portData
  refine Keeps.ite1 ?_ ?_
  · refine Keeps.ite1 ?_ ?_
    · refine Keeps.pair ?_
      exact Keeps.refl _
    · refine Keeps.pair ?_
      exact Keeps.refl _
  · lift_lets
    intro y0
    refine OnlyM.useHave (show Keeps x0 y0.1 from ?_) (fun hy0 => ?_)
    · unfold y0
      refine Keeps.comp (engLoad_keeps _ _ _ _) ?_
      exact Keeps.refl _
    clear_value y0
    refine Keeps.ite1 ?_ ?_
    · refine Keeps.pair ?_
      assumption
    · refine Keeps.pair ?_
      refine Keeps.comp (Keeps.of (portBufFault_only _) (by rfl)) ?_
      assumption

theorem h2dNext_keeps_of {x0 t : State} {e : H2d} (h : h2dNext x0 = some (t, e)) : Keeps x0 t := by
  unfold h2dNext at h
  dsimp -proj only at h
  split at h
  · cases h
  · cases h
    exact Keeps.comp (Keeps.of (setReg_only _ _ _) (by rfl)) (engLoad_keeps _ _ _ _)

theorem portRequest_keeps_of {x0 t : State} {x1 : Nat} {e : H2d} (h : portRequest x0 x1 = some (t, e)) : Keeps x0 t := by
  unfold portRequest at h
  split at h
  · rename_i t' e' he
    split at h
    · cases h
      exact h2dNext_keeps_of he
    · cases h
  · cases h

theorem forwardPort_keeps : ∀ x0 x1 x2, Keeps x0 (forwardPort x0 x1 x2) := by
  intro x0 x1 x2
  unfold forwardPort
  lift_lets
  intro y0
  clear_value y0
  intro y1
  clear_value y1
  refine Keeps.ite ?_ ?_
  · refine Keeps.comp (portEnd_keeps _ _ _) ?_
    exact Keeps.refl _
  · refine Keeps.ite ?_ ?_
    · refine Keeps.comp (portEnd_keeps _ _ _) ?_
      exact Keeps.refl _
    · refine Keeps.foldl ?_ (fun _ _ _ => ?_)
      · exact Keeps.refl _
      · lift_lets
        intro y2
        clear_value y2
        refine Keeps.comp (forwardIn_keeps _ _ _ _ _ _) ?_
        assumption

theorem portWriteOf_keeps : ∀ x0 x1 x2, Keeps x0 (portWriteOf x0 x1 x2) := by
  intro x0 x1 x2
  unfold portWriteOf
  lift_lets
  intro y0
  clear_value y0
  intro y1
  clear_value y1
  refine Keeps.ite ?_ ?_
  · refine Keeps.comp (forwardPort_keeps _ _ _) ?_
    exact Keeps.refl _
  · refine Keeps.ite ?_ ?_
    · refine Keeps.comp (portEnd_keeps _ _ _) ?_
      exact Keeps.refl _
    · refine Keeps.comp (Keeps.of (portFrame_only _ _ _ _ _ _) (by rfl)) ?_
      refine Keeps.comp (Keeps.of (portAwait_only _ _) (by rfl)) ?_
      exact Keeps.refl _

theorem execPortConfirmedWrite_keeps : ∀ x0, OutKeeps x0 (execPortConfirmedWrite x0) := by
  intro x0
  unfold execPortConfirmedWrite
  refine OutKeeps.next ?_
  split
  · lift_lets
    intro y0
    refine OnlyM.useHave (show Keeps x0 y0.1 from ?_) (fun hy0 => ?_)
    · unfold y0
      refine Keeps.comp (portData_keeps _ _) ?_
      exact portRequest_keeps_of (by assumption)
    clear_value y0
    refine Keeps.ite ?_ ?_
    · refine Keeps.comp (portEnd_keeps _ _ _) ?_
      assumption
    · refine Keeps.comp (portWriteOf_keeps _ _ _) ?_
      assumption
  · exact Keeps.refl _

theorem portReturn_keeps : ∀ x0 x1 x2, Keeps x0 (portReturn x0 x1 x2) := by
  intro x0 x1 x2
  unfold portReturn
  lift_lets
  intro y0
  clear_value y0
  intro y1
  refine OnlyM.useHave (show Keeps x0 y1.1 from ?_) (fun hy1 => ?_)
  · unfold y1
    refine Keeps.comp (engStore_keeps _ _ _ _) ?_
    exact Keeps.refl _
  clear_value y1
  refine Keeps.ite ?_ ?_
  · refine Keeps.comp (portEnd_keeps _ _ _) ?_
    exact Keeps.refl _
  · refine Keeps.ite ?_ ?_
    · refine Keeps.comp (portDone_keeps _ _ _ _ _ _ _ _ _ _) ?_
      exact Keeps.refl _
    · refine Keeps.ite ?_ ?_
      · refine Keeps.comp (portDone_keeps _ _ _ _ _ _ _ _ _ _) ?_
        exact Keeps.refl _
      · refine Keeps.ite ?_ ?_
        · refine Keeps.comp (portDone_keeps _ _ _ _ _ _ _ _ _ _) ?_
          assumption
        · refine Keeps.comp (portEnd_keeps _ _ _) ?_
          refine Keeps.comp (Keeps.of (portBufFault_only _) (by rfl)) ?_
          assumption

theorem hostAct_keeps : ∀ x0 x1 x2 x3, Keeps x0 (hostAct x0 x1 x2 x3).1 := by
  intro x0 x1 x2 x3
  unfold hostAct
  lift_lets
  intro y0
  clear_value y0
  intro y1
  refine OnlyM.useHave (show Keeps x0 y1.1 from ?_) (fun hy1 => ?_)
  · unfold y1
    refine Keeps.comp (applyValue_keeps _ _ _ _) ?_
    exact Keeps.refl _
  clear_value y1
  refine Keeps.ite1 ?_ ?_
  · refine Keeps.comp (resetRequestWrite_keeps _ _) ?_
    exact Keeps.refl _
  · refine Keeps.ite1 ?_ ?_
    · refine Keeps.pair ?_
      refine Keeps.comp (keeps_hboot _ _ ?_) ?_
      · exact commitWrite_keeps _ _
      · exact Keeps.refl _
    · refine Keeps.ite1 ?_ ?_
      · refine Keeps.pair ?_
        refine Keeps.comp (Keeps.of (putN_only _ _ _ _) (by rfl)) ?_
        exact Keeps.refl _
      · refine Keeps.ite1 ?_ ?_
        · refine Keeps.pair ?_
          exact Keeps.refl _
        · refine Keeps.ite1 ?_ ?_
          · refine Keeps.ite1 ?_ ?_
            · refine Keeps.pair ?_
              refine Keeps.comp (Keeps.of (setSlot_only _ _ _) (by rfl)) ?_
              refine Keeps.comp (Keeps.of (undoSlot_only _ _) (by rfl)) ?_
              exact Keeps.refl _
            · refine Keeps.pair ?_
              exact Keeps.refl _
          · refine Keeps.ite1 ?_ ?_
            · refine Keeps.pair ?_
              refine Keeps.comp (hostSettle_keeps _ _ _) ?_
              assumption
            · assumption

theorem writeHost_keeps : ∀ x0 x1 x2 x3, Keeps x0 (writeHost x0 x1 x2 x3).1 := by
  intro x0 x1 x2 x3
  unfold writeHost
  refine Keeps.ite1 ?_ ?_
  · refine Keeps.pair ?_
    exact Keeps.refl _
  · refine Keeps.ite1 ?_ ?_
    · refine Keeps.pair ?_
      exact Keeps.refl _
    · refine Keeps.pair ?_
      refine Keeps.comp (hostAct_keeps _ _ _ _) ?_
      exact Keeps.refl _

theorem writeHostAny_keeps : ∀ x0 x1 x2 x3 x4, Keeps x0 (writeHostAny x0 x1 x2 x3 x4).1 := by
  intro x0 x1 x2 x3 x4
  unfold writeHostAny
  refine Keeps.ite1 ?_ ?_
  · exact writeComplete_keeps _ _ _ _ _ (fun s i k d => writeHost_keeps s i k d)
  · exact Keeps.pair (writeHost_keeps _ _ _ _)

theorem forwardAnswered_keeps : ∀ x0 x1 x2 x3, Keeps x0 (forwardAnswered x0 x1 x2 x3) := by
  intro x0 x1 x2 x3
  unfold forwardAnswered
  lift_lets
  intro y0
  clear_value y0
  intro y1
  refine OnlyM.useHave (show Keeps x0 y1 from ?_) (fun hy1 => ?_)
  · unfold y1
    refine Keeps.comp (Keeps.of (upd_hostSlots _ _) (by rfl)) ?_
    exact Keeps.refl _
  clear_value y1
  intro y2
  clear_value y2
  intro y3
  refine OnlyM.useHave (show Keeps x0 y3 from ?_) (fun hy3 => ?_)
  · unfold y3
    refine Keeps.comp (Keeps.of (bump_only _ _ _ _) (by rfl)) ?_
    assumption
  clear_value y3
  intro y4
  clear_value y4
  intro y5
  clear_value y5
  intro y6
  clear_value y6
  intro y7
  clear_value y7
  intro y8
  refine OnlyM.useHave (show Keeps x0 y8 from ?_) (fun hy8 => ?_)
  · unfold y8
    refine Keeps.ite ?_ ?_
    · refine Keeps.comp (Keeps.of (upd_fwdValue _ _) (by rfl)) ?_
      assumption
    · assumption
  clear_value y8
  intro y9
  refine OnlyM.useHave (show Keeps x0 y9.1 from ?_) (fun hy9 => ?_)
  · unfold y9
    refine Keeps.ite1 ?_ ?_
    · refine Keeps.comp (writeHostAny_keeps _ _ _ _ _) ?_
      assumption
    · refine Keeps.pair ?_
      assumption
  clear_value y9
  intro y10
  refine OnlyM.useHave (show Keeps x0 y10 from ?_) (fun hy10 => ?_)
  · unfold y10
    assumption
  clear_value y10
  intro y11
  clear_value y11
  intro y12
  clear_value y12
  intro y13
  clear_value y13
  refine Keeps.ite ?_ ?_
  · refine Keeps.comp (Keeps.of (bump_only _ _ _ _) (by rfl)) ?_
    assumption
  · refine Keeps.ite ?_ ?_
    · refine Keeps.comp (Keeps.of (upd_pwr _ _) (by rfl)) ?_
      assumption
    · split
      · lift_lets
        intro y14
        refine OnlyM.useHave (show Keeps x0 y14 from ?_) (fun hy14 => ?_)
        · unfold y14
          refine Keeps.ite ?_ ?_
          · assumption
          · refine Keeps.comp (Keeps.of (upd_hostSlots _ _) (by rfl)) ?_
            assumption
        clear_value y14
        refine Keeps.ite ?_ ?_
        · assumption
        · refine Keeps.ite ?_ ?_
          · refine Keeps.comp (portEnd_keeps _ _ _) ?_
            assumption
          · refine Keeps.ite ?_ ?_
            · refine Keeps.comp (portEnd_keeps _ _ _) ?_
              assumption
            · refine Keeps.comp (portReturn_keeps _ _ _) ?_
              assumption
      · refine Keeps.ite ?_ ?_
        · assumption
        · refine Keeps.comp (Keeps.of (answerMaster_only _ _ _ _ _ _ _) (by rfl)) ?_
          assumption

theorem execPortForwardAnswer_keeps : ∀ x0, OutKeeps x0 (execPortForwardAnswer x0) := by
  intro x0
  unfold execPortForwardAnswer
  refine OutKeeps.next ?_
  split
  · exact Keeps.refl _
  · refine Keeps.ite ?_ ?_
    · exact Keeps.refl _
    · split
      · exact h2dNext_keeps_of (by assumption)
      · lift_lets
        intro y0
        refine OnlyM.useHave (show Keeps x0 y0.1 from ?_) (fun hy0 => ?_)
        · unfold y0
          refine Keeps.ite1 ?_ ?_
          · refine Keeps.comp (portData_keeps _ _) ?_
            exact h2dNext_keeps_of (by assumption)
          · refine Keeps.pair ?_
            exact h2dNext_keeps_of (by assumption)
        clear_value y0
        refine Keeps.ite ?_ ?_
        · refine Keeps.comp (forwardAnswered_keeps _ _ _ _) ?_
          assumption
        · refine Keeps.comp (forwardAnswered_keeps _ _ _ _) ?_
          assumption

theorem portPostOf_keeps : ∀ x0 x1 x2, Keeps x0 (portPostOf x0 x1 x2) := by
  intro x0 x1 x2
  unfold portPostOf
  refine Keeps.ite ?_ ?_
  · refine Keeps.comp (forwardPort_keeps _ _ _) ?_
    exact Keeps.refl _
  · refine Keeps.ite ?_ ?_
    · refine Keeps.comp (portWriteOf_keeps _ _ _) ?_
      exact Keeps.refl _
    · refine Keeps.ite ?_ ?_
      · refine Keeps.comp (portEnd_keeps _ _ _) ?_
        exact Keeps.refl _
      · lift_lets
        intro y0
        clear_value y0
        intro y1
        clear_value y1
        refine Keeps.foldl ?_ (fun _ _ _ => ?_)
        · refine Keeps.comp (Keeps.of (portAwait_only _ _) (by rfl)) ?_
          exact Keeps.refl _
        · refine Keeps.comp (Keeps.of (portFrame_only _ _ _ _ _ _) (by rfl)) ?_
          assumption

theorem execPortPostedWrite_keeps : ∀ x0, OutKeeps x0 (execPortPostedWrite x0) := by
  intro x0
  unfold execPortPostedWrite
  refine OutKeeps.next ?_
  split
  · lift_lets
    intro y0
    refine OnlyM.useHave (show Keeps x0 y0.1 from ?_) (fun hy0 => ?_)
    · unfold y0
      refine Keeps.comp (portData_keeps _ _) ?_
      exact portRequest_keeps_of (by assumption)
    clear_value y0
    refine Keeps.ite ?_ ?_
    · refine Keeps.comp (portEnd_keeps _ _ _) ?_
      assumption
    · refine Keeps.comp (portPostOf_keeps _ _ _) ?_
      assumption
  · exact Keeps.refl _

theorem portReadOf_keeps : ∀ x0 x1, Keeps x0 (portReadOf x0 x1) := by
  intro x0 x1
  unfold portReadOf
  refine Keeps.ite ?_ ?_
  · refine Keeps.comp (forwardPort_keeps _ _ _) ?_
    exact Keeps.refl _
  · refine Keeps.ite ?_ ?_
    · refine Keeps.comp (portEnd_keeps _ _ _) ?_
      exact Keeps.refl _
    · refine Keeps.comp (Keeps.of (portFrame_only _ _ _ _ _ _) (by rfl)) ?_
      refine Keeps.comp (Keeps.of (portAwait_only _ _) (by rfl)) ?_
      exact Keeps.refl _

theorem execPortRead_keeps : ∀ x0, OutKeeps x0 (execPortRead x0) := by
  intro x0
  unfold execPortRead
  refine OutKeeps.next ?_
  split
  · refine Keeps.comp (portReadOf_keeps _ _) ?_
    exact portRequest_keeps_of (by assumption)
  · exact Keeps.refl _

theorem execPortReadSegment_keeps : ∀ x0, OutKeeps x0 (execPortReadSegment x0) := by
  intro x0
  unfold execPortReadSegment
  refine OutKeeps.next ?_
  split
  · refine Keeps.comp (portReadOf_keeps _ _) ?_
    exact portRequest_keeps_of (by assumption)
  · exact Keeps.refl _

theorem execPortUnknownEntry_keeps : ∀ x0, OutKeeps x0 (execPortUnknownEntry x0) := by
  intro x0
  unfold execPortUnknownEntry
  refine OutKeeps.next ?_
  split
  · refine Keeps.ite ?_ ?_
    · exact Keeps.refl _
    · refine Keeps.comp (portEnd_keeps _ _ _) ?_
      exact h2dNext_keeps_of (by assumption)
  · exact Keeps.refl _

theorem portSegment_keeps : ∀ x0 x1 x2, Keeps x0 (portSegment x0 x1 x2) := by
  intro x0 x1 x2
  unfold portSegment
  lift_lets
  intro y0
  clear_value y0
  split
  · refine Keeps.comp (portEnd_keeps _ _ _) ?_
    refine Keeps.comp (Keeps.of (upd_portXfer _ _) (by rfl)) ?_
    exact Keeps.refl _
  · lift_lets
    intro y1
    clear_value y1
    refine Keeps.ite ?_ ?_
    · refine Keeps.comp (portWriteOf_keeps _ _ _) ?_
      refine Keeps.comp (Keeps.of (upd_portXfer _ _) (by rfl)) ?_
      exact Keeps.refl _
    · refine Keeps.comp (portEnd_keeps _ _ _) ?_
      refine Keeps.comp (Keeps.of (upd_portXfer _ _) (by rfl)) ?_
      exact Keeps.refl _

theorem execPortWriteSegment_keeps : ∀ x0, OutKeeps x0 (execPortWriteSegment x0) := by
  intro x0
  unfold execPortWriteSegment
  refine OutKeeps.next ?_
  split
  · lift_lets
    intro y0
    refine OnlyM.useHave (show Keeps x0 y0.1 from ?_) (fun hy0 => ?_)
    · unfold y0
      refine Keeps.comp (portData_keeps _ _) ?_
      exact portRequest_keeps_of (by assumption)
    clear_value y0
    refine Keeps.ite ?_ ?_
    · refine Keeps.comp (portEnd_keeps _ _ _) ?_
      assumption
    · refine Keeps.comp (portSegment_keeps _ _ _) ?_
      assumption
  · exact Keeps.refl _

theorem execPositionEntryWrite_keeps : ∀ x0 x1 x2 x3, OutKeeps x3 (execPositionEntryWrite x0 x1 x2 x3) := by
  intro x0 x1 x2 x3
  unfold execPositionEntryWrite
  refine OutKeeps.next ?_
  lift_lets
  intro y0
  clear_value y0
  refine Keeps.ite ?_ ?_
  · refine Keeps.comp (Keeps.of (answerWrite_only _ _ _ _ _) (by rfl)) ?_
    exact Keeps.refl _
  · refine Keeps.comp (objectWrite_keeps _ _ _ _) ?_
    exact Keeps.refl _

theorem lateReject_keeps : ∀ x0 x1 x2 x3 x4, Keeps x0 (lateReject x0 x1 x2 x3 x4) := by
  intro x0 x1 x2 x3 x4
  unfold lateReject
  lift_lets
  intro y0
  refine OnlyM.useHave (show Keeps x0 y0 from ?_) (fun hy0 => ?_)
  · unfold y0
    refine Keeps.comp (Keeps.of (bump_only _ _ _ _) (by rfl)) ?_
    exact Keeps.refl _
  clear_value y0
  intro y1
  clear_value y1
  refine Keeps.comp (logField_keeps _ _) ?_
  refine Keeps.comp (Keeps.of (class2_only _ _) (by rfl)) ?_
  refine Keeps.comp (Keeps.of (putObj_only _ _ _ _) (by rfl)) ?_
  assumption

theorem execPostedWriteReceive_keeps : ∀ x0, OutKeeps x0 (execPostedWriteReceive x0) := by
  intro x0
  unfold execPostedWriteReceive
  refine OutKeeps.next ?_
  split
  · exact Keeps.refl _
  · lift_lets
    intro y0
    clear_value y0
    intro y1
    refine OnlyM.useHave (show Keeps x0 y1 from ?_) (fun hy1 => ?_)
    · unfold y1
      refine Keeps.comp (Keeps.of (segmentIn_only _ _) (by rfl)) ?_
      exact Keeps.of (takeRequest_of (by assumption)) (by rfl)
    clear_value y1
    intro y2
    refine OnlyM.useHave (show Keeps x0 y2.1 from ?_) (fun hy2 => ?_)
    · unfold y2
      refine Keeps.comp (writeAny_keeps _ _ _ _ _ _ _) ?_
      assumption
    clear_value y2
    refine Keeps.ite ?_ ?_
    · assumption
    · refine Keeps.ite ?_ ?_
      · refine Keeps.comp (lateReject_keeps _ _ _ _ _) ?_
        assumption
      · split
        · refine Keeps.ite ?_ ?_
          · assumption
          · refine Keeps.comp (lateReject_keeps _ _ _ _ _) ?_
            assumption
        · assumption

theorem execPowerOn_keeps : ∀ x0 x1 x2 x3, OutKeeps x3 (execPowerOn x0 x1 x2 x3) := by
  intro x0 x1 x2 x3
  unfold execPowerOn
  refine OutKeeps.next ⟨⟨rfl, rfl, rfl, fun h => nomatch h⟩, ⟨rfl, rfl, rfl, fun h => nomatch h⟩, fun _ => trivial, fun h => ?_⟩
  exact ⟨Nat.zero_le _, h.2.1, Nat.zero_le _, Nat.zero_le _⟩

theorem execPredictorQuery_keeps : ∀ x0 x1, OutKeeps x1 (execPredictorQuery x0 x1) := by
  intro x0 x1
  unfold execPredictorQuery
  refine OutKeeps.next ?_
  refine Keeps.comp (objectWrite_keeps _ _ _ _) ?_
  exact Keeps.refl _

theorem stopJob_keeps : ∀ x0 x1 x2, Keeps x0 (stopJob x0 x1 x2) := by
  intro x0 x1 x2
  unfold stopJob
  split
  · exact Keeps.refl _
  · refine Keeps.ite ?_ ?_
    · refine Keeps.comp (Keeps.of (setJob_only _ _ _) (by rfl)) ?_
      refine Keeps.comp (Keeps.of (freeCores_only _ _) (by rfl)) ?_
      exact Keeps.refl _
    · refine Keeps.comp (completeJob_keeps _ _ _ _) ?_
      exact Keeps.refl _

theorem execPreemptionWatchdogExpiry_keeps : ∀ x0 x1, OutKeeps x1 (execPreemptionWatchdogExpiry x0 x1) := by
  intro x0 x1
  unfold execPreemptionWatchdogExpiry
  lift_lets
  intro y0
  clear_value y0
  intro y1
  clear_value y1
  intro y2
  refine OnlyM.useHave (show Keeps x1 y2 from ?_) (fun hy2 => ?_)
  · unfold y2
    refine Keeps.foldl ?_ (fun _ _ _ => ?_)
    · exact Keeps.refl _
    · lift_lets
      intro y3
      clear_value y3
      refine Keeps.comp (Keeps.of (setCore_only _ _ _) (by rfl)) ?_
      assumption
  clear_value y2
  refine OutKeeps.next ?_
  split
  · lift_lets
    intro y4
    refine OnlyM.useHave (show Keeps x1 y4 from ?_) (fun hy4 => ?_)
    · unfold y4
      refine Keeps.comp (logHost_keeps _ _) ?_
      assumption
    clear_value y4
    refine Keeps.ite ?_ ?_
    · refine Keeps.comp (stopJob_keeps _ _ _) ?_
      assumption
    · exact Keeps.refl _
  · exact Keeps.refl _

theorem execPresetCounter_keeps : ∀ x0 x1, OutKeeps x1 (execPresetCounter x0 x1) := by
  intro x0 x1
  unfold execPresetCounter
  refine OutKeeps.next ?_
  refine Keeps.comp (objectWrite_keeps _ _ _ _) ?_
  exact Keeps.refl _

theorem ptpSync_keeps : ∀ x0 x1 x2, Keeps x0 (ptpSync x0 x1 x2) := by
  intro x0 x1 x2
  unfold ptpSync
  lift_lets
  intro y0
  clear_value y0
  intro y1
  clear_value y1
  intro y2
  clear_value y2
  intro y3
  clear_value y3
  intro y4
  refine OnlyM.useHave (show Keeps x0 y4 from ?_) (fun hy4 => ?_)
  · unfold y4
    refine Keeps.comp (Keeps.of (upd_hclk _ _) (by rfl)) ?_
    exact Keeps.refl _
  clear_value y4
  intro y5
  clear_value y5
  intro y6
  clear_value y6
  intro y7
  clear_value y7
  intro y8
  clear_value y8
  intro y9
  refine OnlyM.useHave (show Keeps x0 y9 from ?_) (fun hy9 => ?_)
  · unfold y9
    refine Keeps.ite ?_ ?_
    · refine Keeps.comp (hostStep_keeps _ _ _) ?_
      assumption
    · refine Keeps.ite ?_ ?_
      · refine Keeps.comp (Keeps.of (drawn_only _) (by rfl)) ?_
        refine Keeps.comp (Keeps.of (upd_hclk _ _) (by rfl)) ?_
        assumption
      · refine Keeps.comp (Keeps.of (upd_hclk _ _) (by rfl)) ?_
        assumption
  clear_value y9
  intro y10
  clear_value y10
  intro y11
  clear_value y11
  intro y12
  clear_value y12
  refine Keeps.ite ?_ ?_
  · refine Keeps.comp (setHclk_keeps _ _) ?_
    assumption
  · refine Keeps.ite ?_ ?_
    · refine Keeps.comp (setHclk_keeps _ _) ?_
      assumption
    · refine Keeps.comp (Keeps.of (upd_hclk _ _) (by rfl)) ?_
      assumption

theorem execPtpSyncMessage_keeps : ∀ x0 x1, OutKeeps x1 (execPtpSyncMessage x0 x1) := by
  intro x0 x1
  unfold execPtpSyncMessage
  refine OutKeeps.next ?_
  refine Keeps.ite ?_ ?_
  · refine Keeps.comp (ptpSync_keeps _ _ _) ?_
    refine Keeps.comp (Keeps.of (upd_hclk _ _) (by rfl)) ?_
    exact Keeps.refl _
  · exact Keeps.refl _

theorem overrun_keeps : ∀ x0 x1, Keeps x0 (overrun x0 x1) := by
  intro x0 x1
  unfold overrun
  lift_lets
  intro y0
  clear_value y0
  intro y1
  refine OnlyM.useHave (show Keeps x0 y1 from ?_) (fun hy1 => ?_)
  · unfold y1
    refine Keeps.comp (Keeps.of (bump_only _ _ _ _) (by rfl)) ?_
    refine Keeps.comp (Keeps.of (setAx_only _ _ _) (by rfl)) ?_
    exact Keeps.refl _
  clear_value y1
  intro y2
  clear_value y2
  refine Keeps.ite ?_ ?_
  · refine Keeps.comp (startReaction_keeps _ _ _ _ _ _ _ _ _) ?_
    assumption
  · assumption

theorem reload_keeps : ∀ x0 x1, Keeps x0 (reload x0 x1) := by
  intro x0 x1
  unfold reload
  lift_lets
  intro y0
  clear_value y0
  intro y1
  clear_value y1
  intro y2
  clear_value y2
  intro y3
  refine OnlyM.useHave (show Keeps x0 y3 from ?_) (fun hy3 => ?_)
  · unfold y3
    refine Keeps.comp (Keeps.of (setAx_only _ _ _) (by rfl)) ?_
    exact Keeps.refl _
  clear_value y3
  intro y4
  refine OnlyM.useHave (show Keeps x0 y4 from ?_) (fun hy4 => ?_)
  · unfold y4
    refine Keeps.ite ?_ ?_
    · refine Keeps.comp (Keeps.of (driveTrip_only _ _) (by rfl)) ?_
      assumption
    · assumption
  clear_value y4
  refine Keeps.ite ?_ ?_
  · refine Keeps.comp (overrun_keeps _ _) ?_
    assumption
  · assumption

theorem execPwmCounterTop_keeps : ∀ x0 x1, OutKeeps x1 (execPwmCounterTop x0 x1) := by
  intro x0 x1
  unfold execPwmCounterTop
  lift_lets
  intro y0
  clear_value y0
  intro y1
  refine OnlyM.useHave (show Keeps x1 y1 from ?_) (fun hy1 => ?_)
  · unfold y1
    refine Keeps.ite ?_ ?_
    · refine Keeps.comp (reload_keeps _ _) ?_
      exact Keeps.refl _
    · exact Keeps.refl _
  clear_value y1
  intro y2
  clear_value y2
  intro y3
  clear_value y3
  intro y4
  refine OnlyM.useHave (show Keeps x1 y4 from ?_) (fun hy4 => ?_)
  · unfold y4
    refine Keeps.comp (Keeps.of (setAx_only _ _ _) (by rfl)) ?_
    assumption
  clear_value y4
  intro y5
  refine OnlyM.useHave (show Keeps x1 y5 from ?_) (fun hy5 => ?_)
  · unfold y5
    refine Keeps.comp (Keeps.of (adcTrigger_only _ _ _) (by rfl)) ?_
    assumption
  clear_value y5
  refine OutKeeps.next ?_
  refine Keeps.ite ?_ ?_
  · exact Keeps.refl _
  · refine Keeps.comp (sampleAt_keeps _ _ _) ?_
    assumption

theorem execPwmCounterZero_keeps : ∀ x0 x1, OutKeeps x1 (execPwmCounterZero x0 x1) := by
  intro x0 x1
  unfold execPwmCounterZero
  lift_lets
  intro y0
  clear_value y0
  intro y1
  clear_value y1
  refine OutKeeps.next ?_
  split
  · lift_lets
    intro y2
    refine OnlyM.useHave (show Keeps x1 y2 from ?_) (fun hy2 => ?_)
    · unfold y2
      refine Keeps.comp (Keeps.of (setAx_only _ _ _) (by rfl)) ?_
      exact Keeps.refl _
    clear_value y2
    intro y3
    refine OnlyM.useHave (show Keeps x1 y3 from ?_) (fun hy3 => ?_)
    · unfold y3
      refine Keeps.ite ?_ ?_
      · refine Keeps.comp (reload_keeps _ _) ?_
        assumption
      · assumption
    clear_value y3
    intro y4
    clear_value y4
    intro y5
    refine OnlyM.useHave (show Keeps x1 y5 from ?_) (fun hy5 => ?_)
    · unfold y5
      refine Keeps.comp (Keeps.of (setAx_only _ _ _) (by rfl)) ?_
      assumption
    clear_value y5
    intro y6
    refine OnlyM.useHave (show Keeps x1 y6 from ?_) (fun hy6 => ?_)
    · unfold y6
      refine Keeps.comp (Keeps.of (adcTrigger_only _ _ _) (by rfl)) ?_
      assumption
    clear_value y6
    refine Keeps.comp (sampleAt_keeps _ _ _) ?_
    assumption
  · exact Keeps.refl _

theorem execQueueEnable_keeps : ∀ x0 x1 x2, OutKeeps x2 (execQueueEnable x0 x1 x2) := by
  intro x0 x1 x2
  unfold execQueueEnable
  refine OutKeeps.next ?_
  refine Keeps.ite ?_ ?_
  · refine Keeps.comp (queueCtrl_keeps _ _ _) ?_
    exact Keeps.refl _
  · exact Keeps.refl _

theorem execRailPowerGoodFailure_keeps : ∀ x0 x1, OutKeeps x1 (execRailPowerGoodFailure x0 x1) := by
  intro x0 x1
  unfold execRailPowerGoodFailure
  refine OutKeeps.next ?_
  refine Keeps.ite ?_ ?_
  · exact Keeps.refl _
  · refine Keeps.ite ?_ ?_
    · refine Keeps.comp (Keeps.of (upd_pwr _ _) (by rfl)) ?_
      exact Keeps.refl _
    · lift_lets
      intro y0
      refine OnlyM.useHave (show Keeps x1 y0 from ?_) (fun hy0 => ?_)
      · unfold y0
        refine Keeps.comp (hostOff_keeps _ _) ?_
        exact Keeps.refl _
      clear_value y0
      intro y1
      clear_value y1
      refine Keeps.comp (Keeps.of (upd_pwr _ _) (by rfl)) ?_
      assumption

theorem execRailPowerGoodLoss_keeps : ∀ x0 x1, OutKeeps x1 (execRailPowerGoodLoss x0 x1) := by
  intro x0 x1
  unfold execRailPowerGoodLoss
  refine OutKeeps.next ?_
  refine Keeps.ite ?_ ?_
  · lift_lets
    intro y0
    intro y1
    refine OnlyM.useHave (show Keeps x1 y1 from ?_) (fun hy1 => ?_)
    · unfold y1
      refine Keeps.comp (keeps_hboot _ _ ?_) ?_
      · exact ⟨rfl, rfl, rfl, fun h => .inl h⟩
      · exact Keeps.refl _
    clear_value y1
    refine Keeps.comp (hostFall_keeps _) ?_
    assumption
  · exact Keeps.refl _

theorem execReReference_keeps : ∀ x0 x1, OutKeeps x1 (execReReference x0 x1) := by
  intro x0 x1
  unfold execReReference
  refine OutKeeps.next ?_
  refine Keeps.comp (objectWrite_keeps _ _ _ _) ?_
  exact Keeps.refl _

theorem execReacquireCommand_keeps : ∀ x0 x1, OutKeeps x1 (execReacquireCommand x0 x1) := by
  intro x0 x1
  unfold execReacquireCommand
  refine OutKeeps.next ?_
  refine Keeps.comp (objectWrite_keeps _ _ _ _) ?_
  exact Keeps.refl _

theorem execReferenceRoleWrite_keeps : ∀ x0 x1, OutKeeps x1 (execReferenceRoleWrite x0 x1) := by
  intro x0 x1
  unfold execReferenceRoleWrite
  refine OutKeeps.next ?_
  refine Keeps.comp (objectWrite_keeps _ _ _ _) ?_
  exact Keeps.refl _

theorem writeWide_keeps_of {x0 t : State} {x1 : String} {x2 x3 x4 x5 : Nat} (h : writeWide x0 x1 x2 x3 x4 x5 = some t) : Keeps x0 t := by
  unfold writeWide at h
  split at h
  · cases h; exact Keeps.of (winAccess_only _ _) (by rfl)
  · split at h
    · cases h
    · rename_i t' ht
      split at h
      · exact Keeps.comp (writeBlock_keeps_of h) (writeBlock_keeps_of ht)
      · cases h; exact writeBlock_keeps_of ht

theorem execRegisterWrite_keeps : ∀ x0 x1 x2 x3 x4 x5, OutKeeps x5 (execRegisterWrite x0 x1 x2 x3 x4 x5) := by
  intro x0 x1 x2 x3 x4 x5
  unfold execRegisterWrite
  lift_lets
  intro y0
  clear_value y0
  intro y1
  clear_value y1
  intro y2
  clear_value y2
  refine OutKeeps.ite ?_ ?_
  · refine OutKeeps.next ?_
    exact Keeps.refl _
  · refine OutKeeps.ite ?_ ?_
    · refine OutKeeps.ite ?_ ?_
      · refine OutKeeps.next ?_
        refine Keeps.comp (coreFaults_keeps _ _) ?_
        exact Keeps.refl _
      · split
        · refine OutKeeps.next ?_
          refine Keeps.comp (fabFault_keeps _ _) ?_
          refine Keeps.comp (coreOk_keeps _) ?_
          exact Keeps.refl _
        · refine OutKeeps.ite ?_ ?_
          · refine OutKeeps.next ?_
            refine Keeps.comp (fabFault_keeps _ _) ?_
            refine Keeps.comp (coreFaults_keeps _ _) ?_
            exact Keeps.refl _
          · split
            · refine OutKeeps.next ?_
              refine Keeps.comp (writeWide_keeps_of (by assumption)) ?_
              refine Keeps.comp (coreOk_keeps _) ?_
              exact Keeps.refl _
            · exact OutKeeps.refused _ _
    · refine OutKeeps.ite ?_ ?_
      · exact OutKeeps.refused _ _
      · refine OutKeeps.ite ?_ ?_
        · refine OutKeeps.next ?_
          refine Keeps.comp (dramWrite_keeps _ _ _) ?_
          refine Keeps.comp (coreOk_keeps _) ?_
          exact Keeps.refl _
        · refine OutKeeps.next ?_
          refine Keeps.comp (coreFaults_keeps _ _) ?_
          exact Keeps.refl _

theorem replicaMove_keeps : ∀ x0 x1, Keeps x0 (replicaMove x0 x1) := by
  intro x0 x1
  unfold replicaMove
  lift_lets
  intro y0
  clear_value y0
  intro y1
  clear_value y1
  intro y2
  clear_value y2
  intro y3
  refine OnlyM.useHave (show Keeps x0 y3 from ?_) (fun hy3 => ?_)
  · unfold y3
    refine Keeps.comp (Keeps.of (upd_replica _ _) (by rfl)) ?_
    exact Keeps.refl _
  clear_value y3
  intro y4
  refine OnlyM.useHave (show Keeps x0 y4 from ?_) (fun hy4 => ?_)
  · unfold y4
    refine Keeps.comp (moveCompare_keeps _ _ _ _ _ _ _) ?_
    assumption
  clear_value y4
  refine Keeps.comp (Keeps.of (pulseCntEnds_only _ _ _ _) (by rfl)) ?_
  assumption

theorem execReplicaEdgeApply_keeps : ∀ x0 x1, OutKeeps x1 (execReplicaEdgeApply x0 x1) := by
  intro x0 x1
  unfold execReplicaEdgeApply
  refine OutKeeps.next ?_
  lift_lets
  intro y0
  clear_value y0
  intro y1
  refine OnlyM.useHave (show Keeps x1 y1 from ?_) (fun hy1 => ?_)
  · unfold y1
    refine Keeps.comp (Keeps.of (upd_pos _ _) (by rfl)) ?_
    exact Keeps.refl _
  clear_value y1
  refine Keeps.ite ?_ ?_
  · refine Keeps.comp (replicaMove_keeps _ _) ?_
    assumption
  · exact Keeps.refl _

theorem execRestoreDefaults_keeps : ∀ x0 x1 x2, OutKeeps x2 (execRestoreDefaults x0 x1 x2) := by
  intro x0 x1 x2
  unfold execRestoreDefaults
  refine OutKeeps.next ?_
  refine Keeps.comp (objectWrite_keeps _ _ _ _) ?_
  exact Keeps.refl _

theorem retrainFail_keeps : ∀ x0, Keeps x0 (retrainFail x0) := by
  intro x0
  unfold retrainFail
  refine Keeps.ite ?_ ?_
  · exact Keeps.refl _
  · refine Keeps.ite ?_ ?_
    · refine Keeps.comp (linkDown_keeps _) ?_
      exact Keeps.refl _
    · refine Keeps.comp (Keeps.of (upd_link _ _) (by rfl)) ?_
      exact Keeps.refl _

theorem execRetrainPairFail_keeps : ∀ x0 x1, OutKeeps x1 (execRetrainPairFail x0 x1) := by
  intro x0 x1
  unfold execRetrainPairFail
  refine OutKeeps.next ?_
  refine Keeps.comp (retrainFail_keeps _) ?_
  refine Keeps.comp (Keeps.of (upd_link _ _) (by rfl)) ?_
  exact Keeps.refl _

theorem execRetrainReqFrame_keeps : ∀ x0 x1 x2 x3, OutKeeps x3 (execRetrainReqFrame x0 x1 x2 x3) := by
  intro x0 x1 x2 x3
  unfold execRetrainReqFrame
  refine OutKeeps.next ?_
  refine Keeps.ite ?_ ?_
  · exact Keeps.refl _
  · lift_lets
    intro y0
    refine OnlyM.useHave (show Keeps x3 y0 from ?_) (fun hy0 => ?_)
    · unfold y0
      split
      · exact Keeps.of (takeControl_of (by assumption)) (by rfl)
      · exact Keeps.refl _
    clear_value y0
    refine Keeps.ite ?_ ?_
    · refine Keeps.comp (Keeps.of (supersede_only _) (by rfl)) ?_
      assumption
    · refine Keeps.comp (retrainAsked_keeps _ _) ?_
      assumption

theorem execRetrainRequestWrite_keeps : ∀ x0 x1 x2, OutKeeps x2 (execRetrainRequestWrite x0 x1 x2) := by
  intro x0 x1 x2
  unfold execRetrainRequestWrite
  refine OutKeeps.next ?_
  lift_lets
  intro y0
  refine OnlyM.useHave (show Keeps x2 y0 from ?_) (fun hy0 => ?_)
  · unfold y0
    refine Keeps.comp (objectWrite_keeps _ _ _ _) ?_
    exact Keeps.refl _
  clear_value y0
  intro y1
  clear_value y1
  refine Keeps.ite ?_ ?_
  · refine Keeps.comp (Keeps.of (upd_link _ _) (by rfl)) ?_
    assumption
  · assumption

theorem execRollback_keeps : ∀ x0 x1, OutKeeps x1 (execRollback x0 x1) := by
  intro x0 x1
  unfold execRollback
  refine OutKeeps.next ?_
  refine Keeps.ite ?_ ?_
  · exact Keeps.refl _
  · refine Keeps.ite ?_ ?_
    · refine Keeps.comp (Keeps.of (settle_only _ _ _ _) (by rfl)) ?_
      refine Keeps.comp (rollbackWrite_keeps _ _ _) ?_
      exact Keeps.refl _
    · refine Keeps.comp (Keeps.of (answerWrite_only _ _ _ _ _) (by rfl)) ?_
      exact Keeps.refl _

theorem execRopeAlive_keeps : ∀ x0 x1, OutKeeps x1 (execRopeAlive x0 x1) := by
  intro x0 x1
  unfold execRopeAlive
  refine OutKeeps.next ?_
  refine Keeps.ite ?_ ?_
  · refine Keeps.comp (keeps_hboot _ _ ?_) ?_
    · exact ⟨rfl, rfl, rfl, fun h => .inl h⟩
    · exact Keeps.refl _
  · exact Keeps.refl _

theorem noteViolations_keeps : ∀ x0 x1 x2, Keeps x0 (noteViolations x0 x1 x2) := by
  intro x0 x1 x2
  unfold noteViolations
  lift_lets
  intro y0
  clear_value y0
  intro y1
  clear_value y1
  intro y2
  clear_value y2
  intro y3
  refine OnlyM.useHave (show Keeps x0 y3 from ?_) (fun hy3 => ?_)
  · unfold y3
    refine Keeps.comp (Keeps.of (upd_link _ _) (by rfl)) ?_
    exact Keeps.refl _
  clear_value y3
  intro y4
  clear_value y4
  refine Keeps.ite ?_ ?_
  · assumption
  · split
    · refine Keeps.comp (pairsFault_keeps _ _ _) ?_
      assumption
    · refine Keeps.comp (Keeps.of (ropeControl_only _ _ _ _ _) (by rfl)) ?_
      refine Keeps.comp (Keeps.of (upd_link _ _) (by rfl)) ?_
      assumption

theorem frameIn_keeps : ∀ x0 x1 x2, Keeps x0 (frameIn x0 x1 x2) := by
  intro x0 x1 x2
  unfold frameIn
  split
  · lift_lets
    intro y0
    clear_value y0
    intro y1
    refine OnlyM.useHave (show Keeps x0 y1 from ?_) (fun hy1 => ?_)
    · unfold y1
      refine Keeps.comp (noteViolations_keeps _ _ _) ?_
      exact Keeps.refl _
    clear_value y1
    refine Keeps.ite ?_ ?_
    · refine Keeps.comp (Keeps.of (crcError_only _ _) (by rfl)) ?_
      assumption
    · assumption
  · refine Keeps.ite ?_ ?_
    · exact Keeps.refl _
    · refine Keeps.comp (arrivalIn_keeps _ _ _ _) ?_
      refine Keeps.comp (Keeps.of (wireTail_only _ _) (by rfl)) ?_
      exact Keeps.refl _
  · lift_lets
    intro y2
    refine OnlyM.useHave (show Keeps x0 y2 from ?_) (fun hy2 => ?_)
    · unfold y2
      refine Keeps.comp (arrivalIn_keeps _ _ _ _) ?_
      refine Keeps.comp (Keeps.of (wireTail_only _ _) (by rfl)) ?_
      exact Keeps.refl _
    clear_value y2
    refine Keeps.comp (noteViolations_keeps _ _ _) ?_
    assumption
  · exact Keeps.refl _

theorem portReadDone_keeps : ∀ x0 x1 x2, Keeps x0 (portReadDone x0 x1 x2) := by
  intro x0 x1 x2
  unfold portReadDone
  refine Keeps.comp (portReturn_keeps _ _ _) ?_
  exact Keeps.refl _

theorem portAnswered_keeps : ∀ x0 x1 x2, Keeps x0 (portAnswered x0 x1 x2) := by
  intro x0 x1 x2
  unfold portAnswered
  lift_lets
  intro y0
  refine OnlyM.useHave (show Keeps x0 y0 from ?_) (fun hy0 => ?_)
  · unfold y0
    refine Keeps.comp (Keeps.of (upd_portWaits _ _) (by rfl)) ?_
    exact Keeps.refl _
  clear_value y0
  intro y1
  clear_value y1
  intro y2
  clear_value y2
  refine Keeps.ite ?_ ?_
  · refine Keeps.comp (portEnd_keeps _ _ _) ?_
    assumption
  · refine Keeps.ite ?_ ?_
    · refine Keeps.ite ?_ ?_
      · refine Keeps.comp (portReadDone_keeps _ _ _) ?_
        assumption
      · refine Keeps.comp (Keeps.of (portAwait_only _ _) (by rfl)) ?_
        assumption
    · split
      · refine Keeps.comp (portEnd_keeps _ _ _) ?_
        assumption
      · refine Keeps.comp (Keeps.of (portFrame_only _ _ _ _ _ _) (by rfl)) ?_
        refine Keeps.comp (Keeps.of (portAwait_only _ _) (by rfl)) ?_
        assumption

theorem portResponses_keeps : ∀ x0, Keeps x0 (portResponses x0) := by
  intro x0
  unfold portResponses
  refine Keeps.foldl ?_ (fun _ _ _ => ?_)
  · exact Keeps.refl _
  · split
    · refine Keeps.ite ?_ ?_
      · refine Keeps.comp (portAnswered_keeps _ _ _) ?_
        refine Keeps.comp (Keeps.of (dispatched_only _ _ _) (by rfl)) ?_
        refine Keeps.comp (Keeps.of (upd_hend _ _) (by rfl)) ?_
        assumption
      · assumption
    · assumption

theorem execRopeFrameReceive_keeps : ∀ x0 x1 x2, OutKeeps x2 (execRopeFrameReceive x0 x1 x2) := by
  intro x0 x1 x2
  unfold execRopeFrameReceive
  refine OutKeeps.next ?_
  refine Keeps.ite ?_ ?_
  · refine Keeps.comp (portResponses_keeps _) ?_
    refine Keeps.comp (frameIn_keeps _ _ _) ?_
    exact Keeps.refl _
  · exact Keeps.refl _

theorem execRunLimitExpiry_keeps : ∀ x0 x1, OutKeeps x1 (execRunLimitExpiry x0 x1) := by
  intro x0 x1
  unfold execRunLimitExpiry
  lift_lets
  intro y0
  clear_value y0
  intro y1
  clear_value y1
  refine OutKeeps.next ?_
  split
  · exact Keeps.refl _
  · lift_lets
    intro y2
    clear_value y2
    intro y3
    clear_value y3
    intro y4
    refine OnlyM.useHave (show Keeps x1 y4 from ?_) (fun hy4 => ?_)
    · unfold y4
      refine Keeps.foldl ?_ (fun _ _ _ => ?_)
      · refine Keeps.comp (Keeps.of (setGph_only _ _ _) (by rfl)) ?_
        exact Keeps.refl _
      · refine Keeps.comp (Keeps.of (leaveEngines_only _ _) (by rfl)) ?_
        assumption
    clear_value y4
    refine Keeps.ite ?_ ?_
    · exact Keeps.refl _
    · refine Keeps.comp (runTryEnd_keeps _ _) ?_
      refine Keeps.comp (Keeps.of (releaseRead_only _ _) (by rfl)) ?_
      assumption

theorem execRunStart_keeps : ∀ x0 x1, OutKeeps x1 (execRunStart x0 x1) := by
  intro x0 x1
  unfold execRunStart
  refine OutKeeps.next ?_
  refine Keeps.ite ?_ ?_
  · refine Keeps.comp (beginRun_keeps _ _) ?_
    exact Keeps.refl _
  · exact Keeps.refl _

theorem takeSStatus_keeps : ∀ x0 x1, Keeps x0 (takeSStatus x0 x1) := by
  intro x0 x1
  unfold takeSStatus
  lift_lets
  intro y0
  intro y1
  refine OnlyM.useHave (show Keeps x0 y1 from ?_) (fun hy1 => ?_)
  · unfold y1
    refine Keeps.comp (logField_keeps _ _) ?_
    refine Keeps.comp (Keeps.of (bump_only _ _ _ _) (by rfl)) ?_
    exact Keeps.refl _
  clear_value y1
  refine Keeps.comp (startReaction_keeps _ _ _ _ _ _ _ _ _) ?_
  assumption

theorem execSStatusMessage_keeps : ∀ x0, OutKeeps x0 (execSStatusMessage x0) := by
  intro x0
  unfold execSStatusMessage
  refine OutKeeps.next ?_
  split
  · refine Keeps.ite ?_ ?_
    · refine Keeps.comp (takeSStatus_keeps _ _) ?_
      exact Keeps.of (takeIn_of (by assumption)) (by rfl)
    · exact Keeps.refl _
  · exact Keeps.refl _

theorem execSafetyWatchdogExpiry_keeps : ∀ x0, OutKeeps x0 (execSafetyWatchdogExpiry x0) := by
  intro x0
  unfold execSafetyWatchdogExpiry
  refine OutKeeps.next ?_
  refine Keeps.ite ?_ ?_
  · exact Keeps.refl _
  · lift_lets
    intro y0
    clear_value y0
    intro y1
    clear_value y1
    intro y2
    refine OnlyM.useHave (show Keeps x0 y2 from ?_) (fun hy2 => ?_)
    · unfold y2
      refine Keeps.comp (Keeps.of (putN_only _ _ _ _) (by rfl)) ?_
      refine Keeps.comp (Keeps.of (upd_bus _ _) (by rfl)) ?_
      exact Keeps.refl _
    clear_value y2
    intro y3
    refine OnlyM.useHave (show Keeps x0 y3 from ?_) (fun hy3 => ?_)
    · unfold y3
      refine Keeps.comp (Keeps.of (emcy_only _ _ _ _) (by rfl)) ?_
      refine Keeps.comp (Keeps.of (putN_only _ _ _ _) (by rfl)) ?_
      assumption
    clear_value y3
    intro y4
    refine OnlyM.useHave (show Keeps x0 y4 from ?_) (fun hy4 => ?_)
    · unfold y4
      refine Keeps.comp (logField_keeps _ _) ?_
      assumption
    clear_value y4
    refine Keeps.comp (Keeps.of (inputFrame_only _) (by rfl)) ?_
    refine Keeps.comp (Keeps.of (applySafe_only _) (by rfl)) ?_
    assumption

theorem execSdInputLost_keeps : ∀ x0 x1, OutKeeps x1 (execSdInputLost x0 x1) := by
  intro x0 x1
  unfold execSdInputLost
  lift_lets
  intro y0
  clear_value y0
  intro y1
  clear_value y1
  intro y2
  refine OnlyM.useHave (show Keeps x1 y2 from ?_) (fun hy2 => ?_)
  · unfold y2
    refine Keeps.comp (Keeps.of (setAx_only _ _ _) (by rfl)) ?_
    exact Keeps.refl _
  clear_value y2
  intro y3
  refine OnlyM.useHave (show Keeps x1 y3 from ?_) (fun hy3 => ?_)
  · unfold y3
    refine Keeps.comp (Keeps.of (emcy_only _ _ _ _) (by rfl)) ?_
    refine Keeps.comp (Keeps.of (bump_only _ _ _ _) (by rfl)) ?_
    assumption
  clear_value y3
  refine OutKeeps.next ?_
  refine Keeps.ite ?_ ?_
  · exact Keeps.refl _
  · refine Keeps.comp (startReaction_keeps _ _ _ _ _ _ _ _ _) ?_
    assumption

theorem execSdoDownload_keeps : ∀ x0 x1 x2 x3 x4 x5, OutKeeps x5 (execSdoDownload x0 x1 x2 x3 x4 x5) := by
  intro x0 x1 x2 x3 x4 x5
  unfold execSdoDownload
  refine OutKeeps.next ?_
  lift_lets
  intro y0
  clear_value y0
  intro y1
  clear_value y1
  intro y2
  refine OnlyM.useHave (show Keeps x5 y2 from ?_) (fun hy2 => ?_)
  · unfold y2
    refine Keeps.comp (Keeps.of (endTransfer_only _) (by rfl)) ?_
    exact Keeps.refl _
  clear_value y2
  intro y3
  clear_value y3
  intro y4
  refine OnlyM.useHave (show Keeps x5 y4 from ?_) (fun hy4 => ?_)
  · unfold y4
    refine Keeps.comp (Keeps.of (upd_bus _ _) (by rfl)) ?_
    assumption
  clear_value y4
  refine Keeps.ite ?_ ?_
  · exact Keeps.refl _
  · refine Keeps.ite ?_ ?_
    · refine Keeps.comp (Keeps.of (sdoAnswer_only _ _ _ _ _) (by rfl)) ?_
      assumption
    · refine Keeps.ite ?_ ?_
      · refine Keeps.ite ?_ ?_
        · refine Keeps.comp (Keeps.of (sdoAnswer_only _ _ _ _ _) (by rfl)) ?_
          assumption
        · refine Keeps.comp (Keeps.of (settle_only _ _ _ _) (by rfl)) ?_
          refine Keeps.comp (writeAny_keeps _ _ _ _ _ _ _) ?_
          assumption
      · refine Keeps.ite ?_ ?_
        · refine Keeps.comp (Keeps.of (sdoAnswer_only _ _ _ _ _) (by rfl)) ?_
          assumption
        · refine Keeps.ite ?_ ?_
          · refine Keeps.comp (Keeps.of (forwardSend_only _ _ _ _ _ _ _ _ _) (by rfl)) ?_
            assumption
          · refine Keeps.comp (Keeps.of (forwardSend_only _ _ _ _ _ _ _ _ _) (by rfl)) ?_
            assumption

theorem execSdoDownloadSegment_keeps : ∀ x0 x1 x2 x3, OutKeeps x3 (execSdoDownloadSegment x0 x1 x2 x3) := by
  intro x0 x1 x2 x3
  unfold execSdoDownloadSegment
  refine OutKeeps.next ?_
  refine Keeps.ite ?_ ?_
  · exact Keeps.refl _
  · split
    · refine Keeps.comp (Keeps.of (sdoAnswer_only _ _ _ _ _) (by rfl)) ?_
      exact Keeps.refl _
    · lift_lets
      intro y0
      clear_value y0
      intro y1
      clear_value y1
      intro y2
      refine OnlyM.useHave (show Keeps x3 y2 from ?_) (fun hy2 => ?_)
      · unfold y2
        refine Keeps.comp (Keeps.of (upd_bus _ _) (by rfl)) ?_
        exact Keeps.refl _
      clear_value y2
      refine Keeps.ite ?_ ?_
      · refine Keeps.comp (Keeps.of (sdoAnswer_only _ _ _ _ _) (by rfl)) ?_
        refine Keeps.comp (Keeps.of (endTransfer_only _) (by rfl)) ?_
        exact Keeps.refl _
      · refine Keeps.ite ?_ ?_
        · refine Keeps.comp (Keeps.of (sdoAnswer_only _ _ _ _ _) (by rfl)) ?_
          refine Keeps.comp (Keeps.of (endTransfer_only _) (by rfl)) ?_
          exact Keeps.refl _
        · refine Keeps.ite ?_ ?_
          · refine Keeps.comp (Keeps.of (sdoAnswer_only _ _ _ _ _) (by rfl)) ?_
            refine Keeps.comp (Keeps.of (endTransfer_only _) (by rfl)) ?_
            exact Keeps.refl _
          · refine Keeps.ite ?_ ?_
            · refine Keeps.ite ?_ ?_
              · refine Keeps.comp (Keeps.of (settle_only _ _ _ _) (by rfl)) ?_
                refine Keeps.comp (writeAny_keeps _ _ _ _ _ _ _) ?_
                assumption
              · refine Keeps.comp (Keeps.of (sdoAnswer_only _ _ _ _ _) (by rfl)) ?_
                assumption
            · refine Keeps.ite ?_ ?_
              · refine Keeps.comp (Keeps.of (sdoAnswer_only _ _ _ _ _) (by rfl)) ?_
                refine Keeps.comp (Keeps.of (endTransfer_only _) (by rfl)) ?_
                exact Keeps.refl _
              · refine Keeps.comp (Keeps.of (forwardSend_only _ _ _ _ _ _ _ _ _) (by rfl)) ?_
                assumption

theorem execSm2WatchdogExpiry_keeps : ∀ x0, OutKeeps x0 (execSm2WatchdogExpiry x0) := by
  intro x0
  unfold execSm2WatchdogExpiry
  refine OutKeeps.next ?_
  refine Keeps.ite ?_ ?_
  · refine Keeps.comp (setAl_keeps _ _ _ _ _) ?_
    exact Keeps.refl _
  · exact Keeps.refl _

theorem execSsiTimeout_keeps : ∀ x0 x1, OutKeeps x1 (execSsiTimeout x0 x1) := by
  intro x0 x1
  unfold execSsiTimeout
  refine OutKeeps.next ?_
  refine Keeps.ite ?_ ?_
  · refine Keeps.comp (absFault_keeps _ _ _) ?_
    exact Keeps.refl _
  · exact Keeps.refl _

theorem execStageArm_keeps : ∀ x0 x1 x2, OutKeeps x2 (execStageArm x0 x1 x2) := by
  intro x0 x1 x2
  unfold execStageArm
  refine OutKeeps.next ?_
  refine Keeps.ite ?_ ?_
  · refine Keeps.comp (Keeps.of (settle_only _ _ _ _) (by rfl)) ?_
    refine Keeps.comp (stageArm_keeps _ _ _ _ _) ?_
    exact Keeps.refl _
  · exact Keeps.refl _

theorem execStageCheck_keeps : ∀ x0 x1 x2, OutKeeps x2 (execStageCheck x0 x1 x2) := by
  intro x0 x1 x2
  unfold execStageCheck
  refine OutKeeps.next ?_
  refine Keeps.ite ?_ ?_
  · refine Keeps.comp (Keeps.of (settle_only _ _ _ _) (by rfl)) ?_
    refine Keeps.comp (stageCheck_keeps _ _ _ _ _) ?_
    exact Keeps.refl _
  · exact Keeps.refl _

theorem replicaLoad_keeps : ∀ x0 x1, Keeps x0 (replicaLoad x0 x1) := by
  intro x0 x1
  unfold replicaLoad
  lift_lets
  intro y0
  clear_value y0
  intro y1
  clear_value y1
  intro y2
  clear_value y2
  intro y3
  clear_value y3
  intro y4
  clear_value y4
  intro y5
  refine OnlyM.useHave (show Keeps x0 y5 from ?_) (fun hy5 => ?_)
  · unfold y5
    refine Keeps.comp (Keeps.of (upd_replica _ _) (by rfl)) ?_
    exact Keeps.refl _
  clear_value y5
  intro y6
  refine OnlyM.useHave (show Keeps x0 y6 from ?_) (fun hy6 => ?_)
  · unfold y6
    refine Keeps.comp (stepCompare_keeps _ _ _ _) ?_
    assumption
  clear_value y6
  refine Keeps.comp (Keeps.of (pulseCntEnds_only _ _ _ _) (by rfl)) ?_
  assumption

theorem holdEnds_keeps : ∀ x0 x1, Keeps x0 (holdEnds x0 x1) := by
  intro x0 x1
  unfold holdEnds
  lift_lets
  intro y0
  clear_value y0
  intro y1
  refine OnlyM.useHave (show Keeps x0 y1 from ?_) (fun hy1 => ?_)
  · unfold y1
    refine Keeps.comp (Keeps.of (upd_replica _ _) (by rfl)) ?_
    exact Keeps.refl _
  clear_value y1
  intro y2
  refine OnlyM.useHave (show Keeps x0 y2 from ?_) (fun hy2 => ?_)
  · unfold y2
    refine Keeps.ite ?_ ?_
    · assumption
    · refine Keeps.comp (releaseHeld_keeps _ _ _) ?_
      assumption
  clear_value y2
  intro y3
  refine OnlyM.useHave (show Keeps x0 y3 from ?_) (fun hy3 => ?_)
  · unfold y3
    refine Keeps.ite ?_ ?_
    · refine Keeps.comp (replicaLoad_keeps _ _) ?_
      assumption
    · assumption
  clear_value y3
  intro y4
  clear_value y4
  refine Keeps.ite ?_ ?_
  · refine Keeps.comp (judgeHost_keeps _) ?_
    refine Keeps.comp (Keeps.of (upd_replica _ _) (by rfl)) ?_
    assumption
  · assumption

theorem settleHeld_keeps : ∀ x0 x1, Keeps x0 (settleHeld x0 x1) := by
  intro x0 x1
  unfold settleHeld
  refine Keeps.foldl ?_ (fun _ _ _ => ?_)
  · exact Keeps.refl _
  · lift_lets
    intro y0
    clear_value y0
    intro y1
    refine OnlyM.useHave (show Keeps x0 y1 from ?_) (fun hy1 => ?_)
    · unfold y1
      refine Keeps.comp (releasePassed_keeps _ _ _ _ _) ?_
      refine Keeps.comp (Keeps.of (forgetPassed_only _ _ _) (by rfl)) ?_
      assumption
    clear_value y1
    intro y2
    clear_value y2
    refine Keeps.ite ?_ ?_
    · refine Keeps.comp (Keeps.of (forgetPassed_only _ _ _) (by rfl)) ?_
      assumption
    · refine Keeps.ite ?_ ?_
      · refine Keeps.comp (Keeps.of (setEntry_only _ _ _ _) (by rfl)) ?_
        assumption
      · assumption

theorem replicaState_keeps : ∀ x0 x1, Keeps x0 (replicaState x0 x1) := by
  intro x0 x1
  unfold replicaState
  lift_lets
  intro y0
  clear_value y0
  intro y1
  clear_value y1
  intro y2
  clear_value y2
  intro y3
  clear_value y3
  intro y4
  refine OnlyM.useHave (show Keeps x0 y4 from ?_) (fun hy4 => ?_)
  · unfold y4
    refine Keeps.comp (Keeps.of (upd_replica _ _) (by rfl)) ?_
    exact Keeps.refl _
  clear_value y4
  refine Keeps.ite ?_ ?_
  · assumption
  · refine Keeps.ite ?_ ?_
    · refine Keeps.comp (Keeps.of (holdAll_only _ _) (by rfl)) ?_
      assumption
    · refine Keeps.ite ?_ ?_
      · refine Keeps.ite ?_ ?_
        · refine Keeps.comp (settleHeld_keeps _ _) ?_
          assumption
        · assumption
      · refine Keeps.ite ?_ ?_
        · refine Keeps.comp (releaseHeld_keeps _ _ _) ?_
          assumption
        · refine Keeps.ite ?_ ?_
          · refine Keeps.comp (releaseHeld_keeps _ _ _) ?_
            assumption
          · assumption

theorem stateFrameGood_keeps : ∀ x0 x1, Keeps x0 (stateFrameGood x0 x1) := by
  intro x0 x1
  unfold stateFrameGood
  lift_lets
  intro y0
  intro y1
  refine OnlyM.useHave (show Keeps x0 y1 from ?_) (fun hy1 => ?_)
  · unfold y1
    refine Keeps.comp (replicaState_keeps _ _) ?_
    refine Keeps.comp (Keeps.of (upd_replica _ _) (by rfl)) ?_
    exact Keeps.refl _
  intro y2
  clear_value y2
  intro y3
  refine OnlyM.useHave (show Keeps x0 y3 from ?_) (fun hy3 => ?_)
  · unfold y3
    refine Keeps.comp (Keeps.of (upd_replica _ _) (by rfl)) ?_
    assumption
  refine Keeps.ite ?_ ?_
  · refine Keeps.ite ?_ ?_
    · assumption
    · refine Keeps.comp (holdEnds_keeps _ _) ?_
      assumption
  · refine Keeps.ite ?_ ?_
    · refine Keeps.comp (replicaLoad_keeps _ _) ?_
      assumption
    · assumption

theorem execStateFrame_keeps : ∀ x0 x1, OutKeeps x1 (execStateFrame x0 x1) := by
  intro x0 x1
  unfold execStateFrame
  refine OutKeeps.next ?_
  refine Keeps.ite ?_ ?_
  · exact Keeps.refl _
  · split
    · refine Keeps.comp (stateFrameGood_keeps _ _) ?_
      exact Keeps.refl _
    · refine Keeps.comp (Keeps.of (upd_replica _ _) (by rfl)) ?_
      exact Keeps.refl _

theorem execStoDiscrepancyFault_keeps : ∀ x0 x1, OutKeeps x1 (execStoDiscrepancyFault x0 x1) := by
  intro x0 x1
  unfold execStoDiscrepancyFault
  lift_lets
  intro y0
  clear_value y0
  intro y1
  clear_value y1
  intro y2
  intro y3
  refine OnlyM.useHave (show Keeps x1 y3 from ?_) (fun hy3 => ?_)
  · unfold y3
    refine Keeps.comp (keeps_saf _ _ ?_) ?_
    · exact fun h => h
    · exact Keeps.refl _
  clear_value y3
  refine OutKeeps.next ?_
  refine Keeps.ite ?_ ?_
  · exact Keeps.refl _
  · refine Keeps.foldl ?_ (fun _ _ _ => ?_)
    · assumption
    · refine Keeps.comp (Keeps.of (emcy_only _ _ _ _) (by rfl)) ?_
      refine Keeps.comp (Keeps.of (tripSto_only _ _ _) (by rfl)) ?_
      assumption

theorem stoChannel_keeps : ∀ x0 x1 x2 x3, Keeps x0 (stoChannel x0 x1 x2 x3) := by
  intro x0 x1 x2 x3
  unfold stoChannel
  lift_lets
  intro y0
  intro y1
  refine OnlyM.useHave (show Keeps x0 y1 from ?_) (fun hy1 => ?_)
  · unfold y1
    refine Keeps.comp (keeps_saf _ _ ?_) ?_
    · exact fun h => h
    · exact Keeps.refl _
  clear_value y1
  intro y2
  refine Keeps.ite ?_ ?_
  · refine Keeps.comp (keeps_saf _ _ ?_) ?_
    · exact fun h => h
    · assumption
  · assumption

theorem execStoInputEdge_keeps : ∀ x0 x1 x2 x3, OutKeeps x3 (execStoInputEdge x0 x1 x2 x3) := by
  intro x0 x1 x2 x3
  unfold execStoInputEdge
  lift_lets
  intro y0
  refine OnlyM.useHave (show Keeps x3 y0 from ?_) (fun hy0 => ?_)
  · unfold y0
    refine Keeps.comp (stoChannel_keeps _ _ _ _) ?_
    exact Keeps.refl _
  clear_value y0
  refine OutKeeps.next ?_
  refine Keeps.ite ?_ ?_
  · assumption
  · refine Keeps.foldl ?_ (fun _ _ _ => ?_)
    · assumption
    · refine Keeps.comp (Keeps.of (tripSto_only _ _ _) (by rfl)) ?_
      assumption

theorem execStopStateTimeout_keeps : ∀ x0 x1, OutKeeps x1 (execStopStateTimeout x0 x1) := by
  intro x0 x1
  unfold execStopStateTimeout
  refine OutKeeps.next ?_
  refine Keeps.ite ?_ ?_
  · exact Keeps.refl _
  · refine Keeps.foldl ?_ (fun _ _ _ => ?_)
    · refine Keeps.comp (Keeps.of (portBit_only _ _ _) (by rfl)) ?_
      exact Keeps.refl _
    · refine Keeps.comp (endFrame_keeps _ _ _) ?_
      assumption

theorem mergeLine_keeps : ∀ x0 x1 x2 x3, Keeps x0 (mergeLine x0 x1 x2 x3) := by
  intro x0 x1 x2 x3
  unfold mergeLine
  refine Keeps.foldl ?_ (fun _ _ _ => ?_)
  · exact Keeps.refl _
  · refine Keeps.comp (dramSet_keeps _ _ _) ?_
    assumption

theorem storeMerged_keeps : ∀ x0 x1 x2, Keeps x0 (storeMerged x0 x1 x2) := by
  intro x0 x1 x2
  unfold storeMerged
  lift_lets
  intro y0
  refine OnlyM.useHave (show Keeps x0 y0 from ?_) (fun hy0 => ?_)
  · unfold y0
    refine Keeps.comp (mergeLine_keeps _ _ _ _) ?_
    exact Keeps.refl _
  clear_value y0
  intro y1
  refine Keeps.ite ?_ ?_
  · refine Keeps.comp (keeps_mem _ _ ?_) ?_
    · exact ⟨rfl, rfl⟩
    · assumption
  · refine Keeps.ite ?_ ?_
    · assumption
    · split
      · assumption
      · refine Keeps.comp (ceOne_keeps _) ?_
        assumption
      · refine Keeps.comp (lateFault_keeps _ _ _) ?_
        refine Keeps.comp (fabFault_keeps _ _) ?_
        refine Keeps.comp (poisonLine_keeps _ _) ?_
        assumption

theorem runStoreTaken_keeps : ∀ x0 x1 x2, Keeps x0 (runStoreTaken x0 x1 x2) := by
  intro x0 x1 x2
  unfold runStoreTaken
  split
  · exact Keeps.refl _
  · refine Keeps.ite ?_ ?_
    · exact Keeps.refl _
    · lift_lets
      intro y0
      clear_value y0
      intro y1
      clear_value y1
      intro y2
      refine OnlyM.useHave (show Keeps x0 y2 from ?_) (fun hy2 => ?_)
      · unfold y2
        refine Keeps.comp (Keeps.of (setGph_only _ _ _) (by rfl)) ?_
        exact Keeps.refl _
      clear_value y2
      refine Keeps.comp (runTryEnd_keeps _ _) ?_
      refine Keeps.foldl ?_ (fun _ _ _ => ?_)
      · assumption
      · refine Keeps.comp (publishCopies_keeps _ _ _ _) ?_
        assumption

theorem storeTaken_keeps : ∀ x0 x1, Keeps x0 (storeTaken x0 x1) := by
  intro x0 x1
  unfold storeTaken
  refine Keeps.ite ?_ ?_
  · refine Keeps.comp (runStoreTaken_keeps _ _ _) ?_
    exact Keeps.refl _
  · refine Keeps.ite ?_ ?_
    · refine Keeps.comp (kvRetry_keeps _ _) ?_
      refine Keeps.comp (Keeps.of (spillTaken_only _ _) (by rfl)) ?_
      exact Keeps.refl _
    · exact Keeps.refl _

theorem execStoreAccept_keeps : ∀ x0 x1, OutKeeps x1 (execStoreAccept x0 x1) := by
  intro x0 x1
  unfold execStoreAccept
  refine OutKeeps.next ?_
  split
  · refine Keeps.comp (storeTaken_keeps _ _) ?_
    refine Keeps.comp (storeMerged_keeps _ _ _) ?_
    refine Keeps.comp (keeps_mem _ _ ?_) ?_
    · exact ⟨rfl, rfl⟩
    · exact Keeps.refl _
  · exact Keeps.refl _

theorem execStoreParameters_keeps : ∀ x0 x1 x2, OutKeeps x2 (execStoreParameters x0 x1 x2) := by
  intro x0 x1 x2
  unfold execStoreParameters
  refine OutKeeps.next ?_
  refine Keeps.comp (objectWrite_keeps _ _ _ _) ?_
  exact Keeps.refl _

theorem execSupervisorLockstepMismatch_keeps : ∀ x0, OutKeeps x0 (execSupervisorLockstepMismatch x0) := by
  intro x0
  unfold execSupervisorLockstepMismatch
  refine OutKeeps.next ?_
  refine Keeps.comp (hostAsk_keeps _ _) ?_
  exact Keeps.refl _

theorem synapse_keeps : ∀ x0 x1 x2 x3, Keeps x0 (synapse x0 x1 x2 x3) := by
  intro x0 x1 x2 x3
  unfold synapse
  lift_lets
  intro y0
  clear_value y0
  intro y1
  clear_value y1
  intro y2
  clear_value y2
  intro y3
  clear_value y3
  intro y4
  clear_value y4
  intro y5
  clear_value y5
  intro y6
  clear_value y6
  intro y7
  refine OnlyM.useHave (show Keeps x0 y7 from ?_) (fun hy7 => ?_)
  · unfold y7
    refine Keeps.comp (Keeps.of (setNeuron_only _ _ _ _) (by rfl)) ?_
    refine Keeps.comp (Keeps.of (bump_only _ _ _ _) (by rfl)) ?_
    exact Keeps.refl _
  clear_value y7
  refine Keeps.ite ?_ ?_
  · refine Keeps.comp (countWake_keeps _ _) ?_
    refine Keeps.comp (Keeps.of (countHint_only _ _ _) (by rfl)) ?_
    refine Keeps.comp (Keeps.of (routeSpike_only _ _) (by rfl)) ?_
    refine Keeps.comp (Keeps.of (bump_only _ _ _ _) (by rfl)) ?_
    assumption
  · assumption

theorem runProjection_keeps : ∀ x0 x1 x2, Keeps x0 (runProjection x0 x1 x2) := by
  intro x0 x1 x2
  unfold runProjection
  refine Keeps.foldl ?_ (fun _ _ _ => ?_)
  · exact Keeps.refl _
  · refine Keeps.comp (synapse_keeps _ _ _ _) ?_
    assumption

theorem execSynapticOperation_keeps : ∀ x0 x1 x2 x3, OutKeeps x3 (execSynapticOperation x0 x1 x2 x3) := by
  intro x0 x1 x2 x3
  unfold execSynapticOperation
  lift_lets
  intro y0
  clear_value y0
  intro y1
  clear_value y1
  refine OutKeeps.next ?_
  split
  · lift_lets
    intro y2
    refine OnlyM.useHave (show Keeps x3 y2 from ?_) (fun hy2 => ?_)
    · unfold y2
      refine Keeps.comp (Keeps.of (upd_lan _ _) (by rfl)) ?_
      exact Keeps.refl _
    clear_value y2
    intro y3
    clear_value y3
    intro y4
    refine OnlyM.useHave (show Keeps x3 y4 from ?_) (fun hy4 => ?_)
    · unfold y4
      refine Keeps.ite ?_ ?_
      · refine Keeps.comp (Keeps.of (bump_only _ _ _ _) (by rfl)) ?_
        assumption
      · assumption
    clear_value y4
    intro y5
    clear_value y5
    intro y6
    refine OnlyM.useHave (show Keeps x3 y6 from ?_) (fun hy6 => ?_)
    · unfold y6
      refine Keeps.foldl ?_ (fun _ _ _ => ?_)
      · assumption
      · refine Keeps.comp (connFault_keeps _ _) ?_
        assumption
    clear_value y6
    intro y7
    clear_value y7
    refine Keeps.foldl ?_ (fun _ _ _ => ?_)
    · refine Keeps.comp (Keeps.of (neuronEcc_only _ _ _ _) (by rfl)) ?_
      assumption
    · refine Keeps.comp (runProjection_keeps _ _ _) ?_
      assumption
  · exact Keeps.refl _

theorem timeStepCompare_keeps : ∀ x0 x1, Keeps x0 (timeStepCompare x0 x1) := by
  intro x0 x1
  unfold timeStepCompare
  refine Keeps.foldl ?_ (fun _ _ _ => ?_)
  · exact Keeps.refl _
  · lift_lets
    intro y0
    clear_value y0
    intro y1
    clear_value y1
    refine Keeps.ite ?_ ?_
    · refine Keeps.comp (timeLateOrMiss_keeps _ _) ?_
      assumption
    · assumption

theorem fieldStep_keeps : ∀ x0 x1 x2, Keeps x0 (fieldStep x0 x1 x2) := by
  intro x0 x1 x2
  unfold fieldStep
  lift_lets
  intro y0
  clear_value y0
  intro y1
  clear_value y1
  intro y2
  clear_value y2
  intro y3
  clear_value y3
  intro y4
  refine OnlyM.useHave (show Keeps x0 y4 from ?_) (fun hy4 => ?_)
  · unfold y4
    refine Keeps.comp (Keeps.of (upd_fclk_sync _ _ _) (by rfl)) ?_
    exact Keeps.refl _
  clear_value y4
  intro y5
  refine OnlyM.useHave (show Keeps x0 y5 from ?_) (fun hy5 => ?_)
  · unfold y5
    refine Keeps.comp (Keeps.of (bump_only _ _ _ _) (by rfl)) ?_
    refine Keeps.comp (logField_keeps _ _) ?_
    assumption
  clear_value y5
  refine Keeps.comp (timeStepCompare_keeps _ _) ?_
  refine Keeps.comp (Keeps.of (syncPlan_only _) (by rfl)) ?_
  assumption

theorem offsetWrite_keeps : ∀ x0 x1, Keeps x0 (offsetWrite x0 x1) := by
  intro x0 x1
  unfold offsetWrite
  lift_lets
  intro y0
  clear_value y0
  intro y1
  clear_value y1
  intro y2
  refine OnlyM.useHave (show Keeps x0 y2 from ?_) (fun hy2 => ?_)
  · unfold y2
    refine Keeps.comp (Keeps.of (setBusReg_only _ _ _) (by rfl)) ?_
    exact Keeps.refl _
  clear_value y2
  intro y3
  clear_value y3
  refine Keeps.ite ?_ ?_
  · refine Keeps.comp (fieldStep_keeps _ _ _) ?_
    assumption
  · refine Keeps.ite ?_ ?_
    · refine Keeps.comp (Keeps.of (upd_fclk _ _) (by rfl)) ?_
      assumption
    · refine Keeps.comp (Keeps.of (upd_fclk _ _) (by rfl)) ?_
      assumption

theorem syncFault_keeps : ∀ x0, Keeps x0 (syncFault x0) := by
  intro x0
  unfold syncFault
  refine Keeps.ite ?_ ?_
  · exact Keeps.refl _
  · refine Keeps.ite ?_ ?_
    · refine Keeps.comp (setAl_keeps _ _ _ _ _) ?_
      exact Keeps.refl _
    · refine Keeps.ite ?_ ?_
      · refine Keeps.comp (Keeps.of (upd_bus _ _) (by rfl)) ?_
        exact Keeps.refl _
      · exact Keeps.refl _

theorem execSyncConfigWrite_keeps : ∀ x0 x1 x2, OutKeeps x2 (execSyncConfigWrite x0 x1 x2) := by
  intro x0 x1 x2
  unfold execSyncConfigWrite
  refine OutKeeps.next ?_
  lift_lets
  intro y0
  clear_value y0
  intro y1
  clear_value y1
  intro y2
  clear_value y2
  intro y3
  refine OnlyM.useHave (show Keeps x2 y3 from ?_) (fun hy3 => ?_)
  · unfold y3
    refine Keeps.comp (Keeps.of (setBusReg_only _ _ _) (by rfl)) ?_
    exact Keeps.refl _
  clear_value y3
  refine Keeps.ite ?_ ?_
  · exact Keeps.refl _
  · refine Keeps.ite ?_ ?_
    · refine Keeps.comp (Keeps.of (upd_bus _ _) (by rfl)) ?_
      exact Keeps.refl _
    · refine Keeps.ite ?_ ?_
      · refine Keeps.comp (offsetWrite_keeps _ _) ?_
        exact Keeps.refl _
      · refine Keeps.ite ?_ ?_
        · refine Keeps.comp (syncFault_keeps _) ?_
          refine Keeps.comp (Keeps.of (syncPlan_only _) (by rfl)) ?_
          assumption
        · assumption

theorem execSystemTimeOffsetWrite_keeps : ∀ x0 x1, OutKeeps x1 (execSystemTimeOffsetWrite x0 x1) := by
  intro x0 x1
  unfold execSystemTimeOffsetWrite
  refine OutKeeps.next ?_
  refine Keeps.ite ?_ ?_
  · refine Keeps.comp (offsetWrite_keeps _ _) ?_
    exact Keeps.refl _
  · exact Keeps.refl _

theorem execTcxoRestart_keeps : ∀ x0, OutKeeps x0 (execTcxoRestart x0) := by
  intro x0
  unfold execTcxoRestart
  refine OutKeeps.next ?_
  refine Keeps.comp (fieldUnheld_keeps _ _) ?_
  exact Keeps.refl _

theorem execTcxoStop_keeps : ∀ x0, OutKeeps x0 (execTcxoStop x0) := by
  intro x0
  unfold execTcxoStop
  refine OutKeeps.next ?_
  refine Keeps.comp (fieldHeld_keeps _ _ _) ?_
  refine Keeps.comp (Keeps.of (drawn_only _) (by rfl)) ?_
  exact Keeps.refl _

theorem execTimeEntryWrite_keeps : ∀ x0 x1 x2, OutKeeps x2 (execTimeEntryWrite x0 x1 x2) := by
  intro x0 x1 x2
  unfold execTimeEntryWrite
  refine OutKeeps.next ?_
  refine Keeps.comp (objectWrite_keeps _ _ _ _) ?_
  exact Keeps.refl _

theorem execTimeEventFire_keeps : ∀ x0 x1, OutKeeps x1 (execTimeEventFire x0 x1) := by
  intro x0 x1
  unfold execTimeEventFire
  refine OutKeeps.next ?_
  lift_lets
  intro y0
  clear_value y0
  refine Keeps.ite ?_ ?_
  · refine Keeps.comp (timeFire_keeps _ _ _) ?_
    exact Keeps.refl _
  · exact Keeps.refl _

theorem stoRecord_keeps : ∀ x0 x1, Keeps x0 (stoRecord x0 x1) := by
  intro x0 x1
  unfold stoRecord
  refine Keeps.ite ?_ ?_
  · refine Keeps.comp (logField_keeps _ _) ?_
    refine Keeps.comp (Keeps.of (putN_only _ _ _ _) (by rfl)) ?_
    exact Keeps.refl _
  · exact Keeps.refl _

theorem execTripWatchdogExpiry_keeps : ∀ x0, OutKeeps x0 (execTripWatchdogExpiry x0) := by
  intro x0
  unfold execTripWatchdogExpiry
  refine OutKeeps.next ?_
  refine Keeps.ite ?_ ?_
  · refine Keeps.comp (Keeps.of (stoAll_only _) (by rfl)) ?_
    refine Keeps.comp (stoRecord_keeps _ _) ?_
    refine Keeps.comp (keeps_saf _ _ ?_) ?_
    · exact fun h => h
    · exact Keeps.refl _
  · exact Keeps.refl _

theorem execVisGraphStart_keeps : ∀ x0 x1, OutKeeps x1 (execVisGraphStart x0 x1) := by
  intro x0 x1
  unfold execVisGraphStart
  lift_lets
  intro y0
  clear_value y0
  refine OutKeeps.next ?_
  refine Keeps.ite ?_ ?_
  · refine Keeps.comp (graphRequest_keeps _ _ _) ?_
    exact Keeps.refl _
  · exact Keeps.refl _

theorem execWaitTimeout_keeps : ∀ x0 x1, OutKeeps x1 (execWaitTimeout x0 x1) := by
  intro x0 x1
  unfold execWaitTimeout
  refine OutKeeps.next ?_
  split
  · refine Keeps.ite ?_ ?_
    · refine Keeps.comp (completeJob_keeps _ _ _ _) ?_
      exact Keeps.refl _
    · exact Keeps.refl _
  · exact Keeps.refl _

theorem execWakeBeacon_keeps : ∀ x0, OutKeeps x0 (execWakeBeacon x0) := by
  intro x0
  unfold execWakeBeacon
  refine OutKeeps.next ?_
  refine Keeps.ite ?_ ?_
  · refine Keeps.comp (wakeSource_keeps _ _) ?_
    exact Keeps.refl _
  · exact Keeps.refl _

theorem execWakeTimerExpiry_keeps : ∀ x0, OutKeeps x0 (execWakeTimerExpiry x0) := by
  intro x0
  unfold execWakeTimerExpiry
  refine OutKeeps.next ?_
  refine Keeps.ite ?_ ?_
  · exact Keeps.refl _
  · refine Keeps.comp (wakeSource_keeps _ _) ?_
    exact Keeps.refl _

theorem powerAnswer_keeps : ∀ x0 x1, Keeps x0 (powerAnswer x0 x1) := by
  intro x0 x1
  unfold powerAnswer
  split
  · exact Keeps.refl _
  · lift_lets
    intro y0
    clear_value y0
    split
    · refine Keeps.comp (portEnd_keeps _ _ _) ?_
      exact Keeps.refl _
    · refine Keeps.ite ?_ ?_
      · refine Keeps.comp (Keeps.of (forwardDone_only _ _ _ _ _) (by rfl)) ?_
        exact Keeps.refl _
      · refine Keeps.comp (Keeps.of (answerMaster_only _ _ _ _ _ _ _) (by rfl)) ?_
        exact Keeps.refl _
    · refine Keeps.comp (Keeps.of (bump_only _ _ _ _) (by rfl)) ?_
      exact Keeps.refl _

theorem execWatchConsentReply_keeps : ∀ x0, OutKeeps x0 (execWatchConsentReply x0) := by
  intro x0
  unfold execWatchConsentReply
  refine OutKeeps.next ?_
  split
  · refine Keeps.ite ?_ ?_
    · exact Keeps.refl _
    · split
      · exact Keeps.of (takeIn_of (by assumption)) (by rfl)
      · refine Keeps.ite ?_ ?_
        · refine Keeps.comp (enterLow_keeps _ _) ?_
          refine Keeps.comp (Keeps.of (lastBeat_only _) (by rfl)) ?_
          refine Keeps.comp (powerAnswer_keeps _ _) ?_
          refine Keeps.comp (Keeps.of (upd_pwr _ _) (by rfl)) ?_
          exact Keeps.of (takeIn_of (by assumption)) (by rfl)
        · lift_lets
          intro y0
          refine OnlyM.useHave (show Keeps x0 y0 from ?_) (fun hy0 => ?_)
          · unfold y0
            refine Keeps.comp (powerAnswer_keeps _ _) ?_
            exact Keeps.of (takeIn_of (by assumption)) (by rfl)
          clear_value y0
          intro y1
          clear_value y1
          refine Keeps.comp (Keeps.of (upd_pwr _ _) (by rfl)) ?_
          assumption
  · exact Keeps.refl _

theorem execWritebackFrameDone_keeps : ∀ x0, OutKeeps x0 (execWritebackFrameDone x0) := by
  intro x0
  unfold execWritebackFrameDone
  refine OutKeeps.next ?_
  refine Keeps.ite ?_ ?_
  · exact Keeps.refl _
  · split
    · refine Keeps.ite ?_ ?_
      · exact Keeps.refl _
      · refine Keeps.comp (wbRecord_keeps _ _) ?_
        refine Keeps.comp (Keeps.of (upd_comp _ _) (by rfl)) ?_
        exact Keeps.refl _
    · refine Keeps.ite ?_ ?_
      · exact Keeps.refl _
      · refine Keeps.comp (wbRecord_keeps _ _) ?_
        refine Keeps.comp (Keeps.of (upd_comp _ _) (by rfl)) ?_
        exact Keeps.refl _
    · exact Keeps.refl _

end Sys2Proof.Laws
end

