-- ==== Sys2Proof/Laws/Exec.lean ====
section
/-! SUPPORT. From the frame of a meaning, given as a mask over `Part`, to the two forms that statements use. -/

namespace Sys2Proof.Laws

open Machine

/-- A command that completes changes only the parts of its mask. -/
theorem touches_of {m : Nat} {ps : List Part} {c : Instr} (h : ∀ s, OutOnly m s (exec c s))
    (k : ∀ p : Part, p ∉ ps → m.testBit p.ctorIdx = false) : Touches ps c :=
  fun s t e p hp => h s t e p (k p hp)

/-- A command that completes leaves every part that its mask does not name. -/
theorem leaves_of {m : Nat} {ps : List Part} {c : Instr} (h : ∀ s, OutOnly m s (exec c s))
    (k : ∀ p ∈ ps, m.testBit p.ctorIdx = false) : Leaves ps c :=
  fun s t e p hp => h s t e p (k p hp)

/-- A value of at most 248 octets crosses in one piece. -/
theorem cut_short (l : List Byte) (h : l.length ≤ 248) : cut l.length 248 l = [l] := by
  cases l with
  | nil => rfl
  | cons a t => simp only [List.length_cons] at *; simp [cut, h]

end Sys2Proof.Laws
end

