-- ==== Sys2Proof/Laws/Memory.lean ====
section
/-! SUPPORT. The laws of DRAM: its canonical form as `Memory.wf`, that every operation over it keeps that form, and what a read
gives after a write. -/

namespace Sys2Proof.Laws

open Machine

theorem twf_iff {α : Type} (dk : Nat → α) (t : Tab α) :
    twf dk t ↔ t.Pairwise (fun p q => p.1 < q.1) ∧ ∀ e ∈ t, e.2 ≠ dk e.1 := by
  induction t with
  | nil => simp [twf]
  | cons e t ih =>
    obtain ⟨k, v⟩ := e
    simp only [twf, tabove, ih, List.pairwise_cons, List.mem_cons, forall_eq_or_imp]
    tauto

/-- The decidable form and the recursive one agree. -/
theorem dram_wf_iff (s : State) : Memory.wf s = true ↔ DramInv s := by
  unfold Memory.wf DramInv
  rw [twf_iff]
  simp

theorem dramSet_wf (s : State) (a : Nat) (b : Byte) (h : Memory.wf s = true) : Memory.wf (dramSet s a b) = true :=
  (dram_wf_iff _).2 ((dramSet_keeps s a b).2.2.1 ((dram_wf_iff _).1 h))

theorem dramWrite_wf (s : State) (a : Nat) (d : List Byte) (h : Memory.wf s = true) : Memory.wf (dramWrite s a d) = true :=
  (dram_wf_iff _).2 ((dramWrite_keeps s a d).2.2.1 ((dram_wf_iff _).1 h))

theorem mergeLine_wf (s : State) (l m : Nat) (d : List Byte) (h : Memory.wf s = true) : Memory.wf (mergeLine s l m d) = true :=
  (dram_wf_iff _).2 ((mergeLine_keeps s l m d).2.2.1 ((dram_wf_iff _).1 h))

theorem dramLose_wf (s : State) (l : List (Nat × Nat)) (h : Memory.wf s = true) : Memory.wf (dramLose s l) = true :=
  (dram_wf_iff _).2 ((dramLose_keeps s l).2.2.1 ((dram_wf_iff _).1 h))

theorem dramGet_dramSet_same (s : State) (a : Nat) (b : Byte) : dramGet (dramSet s a b) a = b := by
  unfold dramGet
  exact tget_tset_same ..

theorem dramGet_dramSet_other (s : State) (a c : Nat) (b : Byte) (h : c ≠ a) : dramGet (dramSet s a b) c = dramGet s c := by
  unfold dramGet dramSet
  exact tget_tset_other _ _ _ _ h

/-- A read after a write of several octets. -/
theorem dramGet_dramWrite (s : State) (a c : Nat) (d : List Byte) :
    dramGet (dramWrite s a d) c = if a ≤ c ∧ c < a + d.length then d.getD (c - a) 0 else dramGet s c := by
  induction d generalizing s a with
  | nil =>
    have h : ¬ (a ≤ c ∧ c < a + ([] : List Byte).length) := by simp only [List.length_nil]; omega
    rw [if_neg h]; rfl
  | cons b t ih =>
    rw [dramWrite, ih]
    by_cases hc : c = a
    · subst hc
      have h1 : ¬ (c + 1 ≤ c ∧ c < c + 1 + t.length) := by omega
      rw [if_neg h1, dramGet_dramSet_same]
      simp
    · rw [dramGet_dramSet_other _ _ _ _ hc]
      by_cases h1 : a + 1 ≤ c ∧ c < a + 1 + t.length
      · have h2 : a ≤ c ∧ c < a + (b :: t).length := by simp only [List.length_cons]; omega
        obtain ⟨k, hk⟩ : ∃ k, c - a = k + 1 := ⟨c - a - 1, by omega⟩
        have hk' : c - (a + 1) = k := by omega
        rw [if_pos h1, if_pos h2, hk, hk', List.getD_cons_succ]
      · have h2 : ¬ (a ≤ c ∧ c < a + (b :: t).length) := by simp only [List.length_cons]; omega
        rw [if_neg h1, if_neg h2]

theorem dramGet_fold_other (s : State) (l : List Nat) (line c : Nat) (d : List Byte) (h : ∀ i ∈ l, c ≠ line + i) :
    dramGet (l.foldl (fun s i => dramSet s (line + i) (lget 0 d i)) s) c = dramGet s c := by
  induction l generalizing s with
  | nil => rfl
  | cons i t ih =>
    rw [List.foldl_cons, ih _ (fun j hj => h j (List.mem_cons_of_mem _ hj)), dramGet_dramSet_other _ _ _ _ (h i (List.mem_cons_self ..))]

theorem dramGet_fold_mem (s : State) (l : List Nat) (line i : Nat) (d : List Byte) (h : i ∈ l) :
    dramGet (l.foldl (fun s i => dramSet s (line + i) (lget 0 d i)) s) (line + i) = lget 0 d i := by
  induction l generalizing s with
  | nil => simp at h
  | cons j t ih =>
    rw [List.foldl_cons]
    by_cases ht : i ∈ t
    · exact ih _ ht
    · have hj : i = j := by simpa [ht] using h
      subst hj
      have hn : ∀ k ∈ t, line + i ≠ line + k := fun k hk e => ht ((Nat.add_left_cancel e) ▸ hk)
      rw [dramGet_fold_other _ _ _ _ _ hn, dramGet_dramSet_same]

theorem mem_bitList (v n i : Nat) : i ∈ bitList v n ↔ i < n ∧ v.testBit i = true := by
  simp [bitList]

/-- A read after a merge under a byte mask (R392). -/
theorem dramGet_mergeLine (s : State) (line mask c : Nat) (d : List Byte) :
    dramGet (mergeLine s line mask d) c =
      if line ≤ c ∧ c < line + 64 ∧ mask.testBit (c - line) = true then lget 0 d (c - line) else dramGet s c := by
  unfold mergeLine
  split
  · rename_i h
    have := dramGet_fold_mem s (bitList mask 64) line (c - line) d ((mem_bitList ..).2 ⟨by omega, h.2.2⟩)
    rwa [show line + (c - line) = c by omega] at this
  · rename_i h
    refine dramGet_fold_other _ _ _ _ _ (fun i hi e => h ?_)
    obtain ⟨h1, h2⟩ := (mem_bitList ..).1 hi
    subst e
    exact ⟨by omega, by omega, by rwa [show line + i - line = i by omega]⟩

/-- A write of one octet leaves the ECC setting. -/
theorem dramSet_ecc (s : State) (a : Nat) (b : Byte) : (dramSet s a b).mem.ecc = s.mem.ecc := rfl

/-- A masked write of a line leaves the ECC setting. -/
theorem mergeLine_ecc (s : State) (l m : Nat) (d : List Byte) : (mergeLine s l m d).mem.ecc = s.mem.ecc := by
  unfold mergeLine
  generalize bitList m 64 = xs
  induction xs generalizing s with
  | nil => rfl
  | cons x t ih => rw [List.foldl_cons, ih]; rfl

end Sys2Proof.Laws
end

