-- ==== Sys2Proof/Laws/State.lean ====
section
/-! SUPPORT. One law per field for each update of State, so that no proof unfolds a record update, and the laws of reading back
what an update wrote. -/

namespace Sys2Proof.Laws

open Machine

/-! ### `setAx` -/

@[simp] theorem setAx_fboot (s : State) (a : Nat) (m : Motion) : (setAx s a m).fboot = s.fboot := rfl
@[simp] theorem setAx_hboot (s : State) (a : Nat) (m : Motion) : (setAx s a m).hboot = s.hboot := rfl
@[simp] theorem setAx_hBoot (s : State) (a : Nat) (m : Motion) : (setAx s a m).hBoot = s.hBoot := rfl
@[simp] theorem setAx_gradeI (s : State) (a : Nat) (m : Motion) : (setAx s a m).gradeI = s.gradeI := rfl
@[simp] theorem setAx_pins (s : State) (a : Nat) (m : Motion) : (setAx s a m).pins = s.pins := rfl
@[simp] theorem setAx_pulses (s : State) (a : Nat) (m : Motion) : (setAx s a m).pulses = s.pulses := rfl
@[simp] theorem setAx_fobj (s : State) (a : Nat) (m : Motion) : (setAx s a m).fobj = s.fobj := rfl
@[simp] theorem setAx_hobj (s : State) (a : Nat) (m : Motion) : (setAx s a m).hobj = s.hobj := rfl
@[simp] theorem setAx_fsaved (s : State) (a : Nat) (m : Motion) : (setAx s a m).fsaved = s.fsaved := rfl
@[simp] theorem setAx_hsaved (s : State) (a : Nat) (m : Motion) : (setAx s a m).hsaved = s.hsaved := rfl
@[simp] theorem setAx_regs (s : State) (a : Nat) (m : Motion) : (setAx s a m).regs = s.regs := rfl
@[simp] theorem setAx_pos (s : State) (a : Nat) (m : Motion) : (setAx s a m).pos = s.pos := rfl
@[simp] theorem setAx_fEntries (s : State) (a : Nat) (m : Motion) : (setAx s a m).fEntries = s.fEntries := rfl
@[simp] theorem setAx_hMaster (s : State) (a : Nat) (m : Motion) : (setAx s a m).hMaster = s.hMaster := rfl
@[simp] theorem setAx_hostPush (s : State) (a : Nat) (m : Motion) : (setAx s a m).hostPush = s.hostPush := rfl
@[simp] theorem setAx_tEntries (s : State) (a : Nat) (m : Motion) : (setAx s a m).tEntries = s.tEntries := rfl
@[simp] theorem setAx_replica (s : State) (a : Nat) (m : Motion) : (setAx s a m).replica = s.replica := rfl
@[simp] theorem setAx_fclk (s : State) (a : Nat) (m : Motion) : (setAx s a m).fclk = s.fclk := rfl
@[simp] theorem setAx_hclk (s : State) (a : Nat) (m : Motion) : (setAx s a m).hclk = s.hclk := rfl
@[simp] theorem setAx_trep (s : State) (a : Nat) (m : Motion) : (setAx s a m).trep = s.trep := rfl
@[simp] theorem setAx_pairs (s : State) (a : Nat) (m : Motion) : (setAx s a m).pairs = s.pairs := rfl
@[simp] theorem setAx_sync (s : State) (a : Nat) (m : Motion) : (setAx s a m).sync = s.sync := rfl
@[simp] theorem setAx_fend (s : State) (a : Nat) (m : Motion) : (setAx s a m).fend = s.fend := rfl
@[simp] theorem setAx_hend (s : State) (a : Nat) (m : Motion) : (setAx s a m).hend = s.hend := rfl
@[simp] theorem setAx_link (s : State) (a : Nat) (m : Motion) : (setAx s a m).link = s.link := rfl
@[simp] theorem setAx_hostSlots (s : State) (a : Nat) (m : Motion) : (setAx s a m).hostSlots = s.hostSlots := rfl
@[simp] theorem setAx_fwdValue (s : State) (a : Nat) (m : Motion) : (setAx s a m).fwdValue = s.fwdValue := rfl
@[simp] theorem setAx_portXfer (s : State) (a : Nat) (m : Motion) : (setAx s a m).portXfer = s.portXfer := rfl
@[simp] theorem setAx_portWaits (s : State) (a : Nat) (m : Motion) : (setAx s a m).portWaits = s.portWaits := rfl
@[simp] theorem setAx_fieldXfers (s : State) (a : Nat) (m : Motion) : (setAx s a m).fieldXfers = s.fieldXfers := rfl
@[simp] theorem setAx_sets (s : State) (a : Nat) (m : Motion) : (setAx s a m).sets = s.sets := rfl
@[simp] theorem setAx_undo (s : State) (a : Nat) (m : Motion) : (setAx s a m).undo = s.undo := rfl
@[simp] theorem setAx_keptHost (s : State) (a : Nat) (m : Motion) : (setAx s a m).keptHost = s.keptHost := rfl
@[simp] theorem setAx_bus (s : State) (a : Nat) (m : Motion) : (setAx s a m).bus = s.bus := rfl
@[simp] theorem setAx_mem (s : State) (a : Nat) (m : Motion) : (setAx s a m).mem = s.mem := rfl
@[simp] theorem setAx_streams (s : State) (a : Nat) (m : Motion) : (setAx s a m).streams = s.streams := rfl
@[simp] theorem setAx_trig (s : State) (a : Nat) (m : Motion) : (setAx s a m).trig = s.trig := rfl
@[simp] theorem setAx_flags (s : State) (a : Nat) (m : Motion) : (setAx s a m).flags = s.flags := rfl
@[simp] theorem setAx_graphs (s : State) (a : Nat) (m : Motion) : (setAx s a m).graphs = s.graphs := rfl
@[simp] theorem setAx_runOrder (s : State) (a : Nat) (m : Motion) : (setAx s a m).runOrder = s.runOrder := rfl
@[simp] theorem setAx_engines (s : State) (a : Nat) (m : Motion) : (setAx s a m).engines = s.engines := rfl
@[simp] theorem setAx_gal (s : State) (a : Nat) (m : Motion) : (setAx s a m).gal = s.gal := rfl
@[simp] theorem setAx_kv (s : State) (a : Nat) (m : Motion) : (setAx s a m).kv = s.kv := rfl
@[simp] theorem setAx_lan (s : State) (a : Nat) (m : Motion) : (setAx s a m).lan = s.lan := rfl
@[simp] theorem setAx_comp (s : State) (a : Nat) (m : Motion) : (setAx s a m).comp = s.comp := rfl
@[simp] theorem setAx_ctl (s : State) (a : Nat) (m : Motion) : (setAx s a m).ctl = s.ctl := rfl
@[simp] theorem setAx_eng (s : State) (a : Nat) (m : Motion) : (setAx s a m).eng = s.eng := rfl
@[simp] theorem setAx_saf (s : State) (a : Nat) (m : Motion) : (setAx s a m).saf = s.saf := rfl
@[simp] theorem setAx_pwr (s : State) (a : Nat) (m : Motion) : (setAx s a m).pwr = s.pwr := rfl
@[simp] theorem setAx_hostInts (s : State) (a : Nat) (m : Motion) : (setAx s a m).hostInts = s.hostInts := rfl
@[simp] theorem setAx_freeCtr (s : State) (a : Nat) (m : Motion) : (setAx s a m).freeCtr = s.freeCtr := rfl
@[simp] theorem setAx_pending (s : State) (a : Nat) (m : Motion) : (setAx s a m).pending = s.pending := rfl

/-! ### `setCe` -/

@[simp] theorem setCe_fboot (s : State) (a : Nat) (c : AxisCtl) : (setCe s a c).fboot = s.fboot := rfl
@[simp] theorem setCe_hboot (s : State) (a : Nat) (c : AxisCtl) : (setCe s a c).hboot = s.hboot := rfl
@[simp] theorem setCe_hBoot (s : State) (a : Nat) (c : AxisCtl) : (setCe s a c).hBoot = s.hBoot := rfl
@[simp] theorem setCe_gradeI (s : State) (a : Nat) (c : AxisCtl) : (setCe s a c).gradeI = s.gradeI := rfl
@[simp] theorem setCe_pins (s : State) (a : Nat) (c : AxisCtl) : (setCe s a c).pins = s.pins := rfl
@[simp] theorem setCe_pulses (s : State) (a : Nat) (c : AxisCtl) : (setCe s a c).pulses = s.pulses := rfl
@[simp] theorem setCe_fobj (s : State) (a : Nat) (c : AxisCtl) : (setCe s a c).fobj = s.fobj := rfl
@[simp] theorem setCe_hobj (s : State) (a : Nat) (c : AxisCtl) : (setCe s a c).hobj = s.hobj := rfl
@[simp] theorem setCe_fsaved (s : State) (a : Nat) (c : AxisCtl) : (setCe s a c).fsaved = s.fsaved := rfl
@[simp] theorem setCe_hsaved (s : State) (a : Nat) (c : AxisCtl) : (setCe s a c).hsaved = s.hsaved := rfl
@[simp] theorem setCe_regs (s : State) (a : Nat) (c : AxisCtl) : (setCe s a c).regs = s.regs := rfl
@[simp] theorem setCe_pos (s : State) (a : Nat) (c : AxisCtl) : (setCe s a c).pos = s.pos := rfl
@[simp] theorem setCe_fEntries (s : State) (a : Nat) (c : AxisCtl) : (setCe s a c).fEntries = s.fEntries := rfl
@[simp] theorem setCe_hMaster (s : State) (a : Nat) (c : AxisCtl) : (setCe s a c).hMaster = s.hMaster := rfl
@[simp] theorem setCe_hostPush (s : State) (a : Nat) (c : AxisCtl) : (setCe s a c).hostPush = s.hostPush := rfl
@[simp] theorem setCe_tEntries (s : State) (a : Nat) (c : AxisCtl) : (setCe s a c).tEntries = s.tEntries := rfl
@[simp] theorem setCe_replica (s : State) (a : Nat) (c : AxisCtl) : (setCe s a c).replica = s.replica := rfl
@[simp] theorem setCe_fclk (s : State) (a : Nat) (c : AxisCtl) : (setCe s a c).fclk = s.fclk := rfl
@[simp] theorem setCe_hclk (s : State) (a : Nat) (c : AxisCtl) : (setCe s a c).hclk = s.hclk := rfl
@[simp] theorem setCe_trep (s : State) (a : Nat) (c : AxisCtl) : (setCe s a c).trep = s.trep := rfl
@[simp] theorem setCe_pairs (s : State) (a : Nat) (c : AxisCtl) : (setCe s a c).pairs = s.pairs := rfl
@[simp] theorem setCe_sync (s : State) (a : Nat) (c : AxisCtl) : (setCe s a c).sync = s.sync := rfl
@[simp] theorem setCe_fend (s : State) (a : Nat) (c : AxisCtl) : (setCe s a c).fend = s.fend := rfl
@[simp] theorem setCe_hend (s : State) (a : Nat) (c : AxisCtl) : (setCe s a c).hend = s.hend := rfl
@[simp] theorem setCe_link (s : State) (a : Nat) (c : AxisCtl) : (setCe s a c).link = s.link := rfl
@[simp] theorem setCe_hostSlots (s : State) (a : Nat) (c : AxisCtl) : (setCe s a c).hostSlots = s.hostSlots := rfl
@[simp] theorem setCe_fwdValue (s : State) (a : Nat) (c : AxisCtl) : (setCe s a c).fwdValue = s.fwdValue := rfl
@[simp] theorem setCe_portXfer (s : State) (a : Nat) (c : AxisCtl) : (setCe s a c).portXfer = s.portXfer := rfl
@[simp] theorem setCe_portWaits (s : State) (a : Nat) (c : AxisCtl) : (setCe s a c).portWaits = s.portWaits := rfl
@[simp] theorem setCe_fieldXfers (s : State) (a : Nat) (c : AxisCtl) : (setCe s a c).fieldXfers = s.fieldXfers := rfl
@[simp] theorem setCe_sets (s : State) (a : Nat) (c : AxisCtl) : (setCe s a c).sets = s.sets := rfl
@[simp] theorem setCe_undo (s : State) (a : Nat) (c : AxisCtl) : (setCe s a c).undo = s.undo := rfl
@[simp] theorem setCe_keptHost (s : State) (a : Nat) (c : AxisCtl) : (setCe s a c).keptHost = s.keptHost := rfl
@[simp] theorem setCe_bus (s : State) (a : Nat) (c : AxisCtl) : (setCe s a c).bus = s.bus := rfl
@[simp] theorem setCe_mem (s : State) (a : Nat) (c : AxisCtl) : (setCe s a c).mem = s.mem := rfl
@[simp] theorem setCe_streams (s : State) (a : Nat) (c : AxisCtl) : (setCe s a c).streams = s.streams := rfl
@[simp] theorem setCe_trig (s : State) (a : Nat) (c : AxisCtl) : (setCe s a c).trig = s.trig := rfl
@[simp] theorem setCe_flags (s : State) (a : Nat) (c : AxisCtl) : (setCe s a c).flags = s.flags := rfl
@[simp] theorem setCe_graphs (s : State) (a : Nat) (c : AxisCtl) : (setCe s a c).graphs = s.graphs := rfl
@[simp] theorem setCe_runOrder (s : State) (a : Nat) (c : AxisCtl) : (setCe s a c).runOrder = s.runOrder := rfl
@[simp] theorem setCe_engines (s : State) (a : Nat) (c : AxisCtl) : (setCe s a c).engines = s.engines := rfl
@[simp] theorem setCe_gal (s : State) (a : Nat) (c : AxisCtl) : (setCe s a c).gal = s.gal := rfl
@[simp] theorem setCe_kv (s : State) (a : Nat) (c : AxisCtl) : (setCe s a c).kv = s.kv := rfl
@[simp] theorem setCe_lan (s : State) (a : Nat) (c : AxisCtl) : (setCe s a c).lan = s.lan := rfl
@[simp] theorem setCe_comp (s : State) (a : Nat) (c : AxisCtl) : (setCe s a c).comp = s.comp := rfl
@[simp] theorem setCe_axes (s : State) (a : Nat) (c : AxisCtl) : (setCe s a c).axes = s.axes := rfl
@[simp] theorem setCe_eng (s : State) (a : Nat) (c : AxisCtl) : (setCe s a c).eng = s.eng := rfl
@[simp] theorem setCe_saf (s : State) (a : Nat) (c : AxisCtl) : (setCe s a c).saf = s.saf := rfl
@[simp] theorem setCe_pwr (s : State) (a : Nat) (c : AxisCtl) : (setCe s a c).pwr = s.pwr := rfl
@[simp] theorem setCe_hostInts (s : State) (a : Nat) (c : AxisCtl) : (setCe s a c).hostInts = s.hostInts := rfl
@[simp] theorem setCe_freeCtr (s : State) (a : Nat) (c : AxisCtl) : (setCe s a c).freeCtr = s.freeCtr := rfl
@[simp] theorem setCe_pending (s : State) (a : Nat) (c : AxisCtl) : (setCe s a c).pending = s.pending := rfl

/-! ### `setReg` -/

@[simp] theorem setReg_fboot (s : State) (a v : Nat) : (setReg s a v).fboot = s.fboot := rfl
@[simp] theorem setReg_hboot (s : State) (a v : Nat) : (setReg s a v).hboot = s.hboot := rfl
@[simp] theorem setReg_hBoot (s : State) (a v : Nat) : (setReg s a v).hBoot = s.hBoot := rfl
@[simp] theorem setReg_gradeI (s : State) (a v : Nat) : (setReg s a v).gradeI = s.gradeI := rfl
@[simp] theorem setReg_pins (s : State) (a v : Nat) : (setReg s a v).pins = s.pins := rfl
@[simp] theorem setReg_pulses (s : State) (a v : Nat) : (setReg s a v).pulses = s.pulses := rfl
@[simp] theorem setReg_fobj (s : State) (a v : Nat) : (setReg s a v).fobj = s.fobj := rfl
@[simp] theorem setReg_hobj (s : State) (a v : Nat) : (setReg s a v).hobj = s.hobj := rfl
@[simp] theorem setReg_fsaved (s : State) (a v : Nat) : (setReg s a v).fsaved = s.fsaved := rfl
@[simp] theorem setReg_hsaved (s : State) (a v : Nat) : (setReg s a v).hsaved = s.hsaved := rfl
@[simp] theorem setReg_pos (s : State) (a v : Nat) : (setReg s a v).pos = s.pos := rfl
@[simp] theorem setReg_fEntries (s : State) (a v : Nat) : (setReg s a v).fEntries = s.fEntries := rfl
@[simp] theorem setReg_hMaster (s : State) (a v : Nat) : (setReg s a v).hMaster = s.hMaster := rfl
@[simp] theorem setReg_hostPush (s : State) (a v : Nat) : (setReg s a v).hostPush = s.hostPush := rfl
@[simp] theorem setReg_tEntries (s : State) (a v : Nat) : (setReg s a v).tEntries = s.tEntries := rfl
@[simp] theorem setReg_replica (s : State) (a v : Nat) : (setReg s a v).replica = s.replica := rfl
@[simp] theorem setReg_fclk (s : State) (a v : Nat) : (setReg s a v).fclk = s.fclk := rfl
@[simp] theorem setReg_hclk (s : State) (a v : Nat) : (setReg s a v).hclk = s.hclk := rfl
@[simp] theorem setReg_trep (s : State) (a v : Nat) : (setReg s a v).trep = s.trep := rfl
@[simp] theorem setReg_pairs (s : State) (a v : Nat) : (setReg s a v).pairs = s.pairs := rfl
@[simp] theorem setReg_sync (s : State) (a v : Nat) : (setReg s a v).sync = s.sync := rfl
@[simp] theorem setReg_fend (s : State) (a v : Nat) : (setReg s a v).fend = s.fend := rfl
@[simp] theorem setReg_hend (s : State) (a v : Nat) : (setReg s a v).hend = s.hend := rfl
@[simp] theorem setReg_link (s : State) (a v : Nat) : (setReg s a v).link = s.link := rfl
@[simp] theorem setReg_hostSlots (s : State) (a v : Nat) : (setReg s a v).hostSlots = s.hostSlots := rfl
@[simp] theorem setReg_fwdValue (s : State) (a v : Nat) : (setReg s a v).fwdValue = s.fwdValue := rfl
@[simp] theorem setReg_portXfer (s : State) (a v : Nat) : (setReg s a v).portXfer = s.portXfer := rfl
@[simp] theorem setReg_portWaits (s : State) (a v : Nat) : (setReg s a v).portWaits = s.portWaits := rfl
@[simp] theorem setReg_fieldXfers (s : State) (a v : Nat) : (setReg s a v).fieldXfers = s.fieldXfers := rfl
@[simp] theorem setReg_sets (s : State) (a v : Nat) : (setReg s a v).sets = s.sets := rfl
@[simp] theorem setReg_undo (s : State) (a v : Nat) : (setReg s a v).undo = s.undo := rfl
@[simp] theorem setReg_keptHost (s : State) (a v : Nat) : (setReg s a v).keptHost = s.keptHost := rfl
@[simp] theorem setReg_bus (s : State) (a v : Nat) : (setReg s a v).bus = s.bus := rfl
@[simp] theorem setReg_mem (s : State) (a v : Nat) : (setReg s a v).mem = s.mem := rfl
@[simp] theorem setReg_streams (s : State) (a v : Nat) : (setReg s a v).streams = s.streams := rfl
@[simp] theorem setReg_trig (s : State) (a v : Nat) : (setReg s a v).trig = s.trig := rfl
@[simp] theorem setReg_flags (s : State) (a v : Nat) : (setReg s a v).flags = s.flags := rfl
@[simp] theorem setReg_graphs (s : State) (a v : Nat) : (setReg s a v).graphs = s.graphs := rfl
@[simp] theorem setReg_runOrder (s : State) (a v : Nat) : (setReg s a v).runOrder = s.runOrder := rfl
@[simp] theorem setReg_engines (s : State) (a v : Nat) : (setReg s a v).engines = s.engines := rfl
@[simp] theorem setReg_gal (s : State) (a v : Nat) : (setReg s a v).gal = s.gal := rfl
@[simp] theorem setReg_kv (s : State) (a v : Nat) : (setReg s a v).kv = s.kv := rfl
@[simp] theorem setReg_lan (s : State) (a v : Nat) : (setReg s a v).lan = s.lan := rfl
@[simp] theorem setReg_comp (s : State) (a v : Nat) : (setReg s a v).comp = s.comp := rfl
@[simp] theorem setReg_axes (s : State) (a v : Nat) : (setReg s a v).axes = s.axes := rfl
@[simp] theorem setReg_ctl (s : State) (a v : Nat) : (setReg s a v).ctl = s.ctl := rfl
@[simp] theorem setReg_eng (s : State) (a v : Nat) : (setReg s a v).eng = s.eng := rfl
@[simp] theorem setReg_saf (s : State) (a v : Nat) : (setReg s a v).saf = s.saf := rfl
@[simp] theorem setReg_pwr (s : State) (a v : Nat) : (setReg s a v).pwr = s.pwr := rfl
@[simp] theorem setReg_hostInts (s : State) (a v : Nat) : (setReg s a v).hostInts = s.hostInts := rfl
@[simp] theorem setReg_freeCtr (s : State) (a v : Nat) : (setReg s a v).freeCtr = s.freeCtr := rfl
@[simp] theorem setReg_pending (s : State) (a v : Nat) : (setReg s a v).pending = s.pending := rfl

/-! ### `setStm` -/

@[simp] theorem setStm_fboot (s : State) (n : Nat) (x : Stream) : (setStm s n x).fboot = s.fboot := rfl
@[simp] theorem setStm_hboot (s : State) (n : Nat) (x : Stream) : (setStm s n x).hboot = s.hboot := rfl
@[simp] theorem setStm_hBoot (s : State) (n : Nat) (x : Stream) : (setStm s n x).hBoot = s.hBoot := rfl
@[simp] theorem setStm_gradeI (s : State) (n : Nat) (x : Stream) : (setStm s n x).gradeI = s.gradeI := rfl
@[simp] theorem setStm_pins (s : State) (n : Nat) (x : Stream) : (setStm s n x).pins = s.pins := rfl
@[simp] theorem setStm_pulses (s : State) (n : Nat) (x : Stream) : (setStm s n x).pulses = s.pulses := rfl
@[simp] theorem setStm_fobj (s : State) (n : Nat) (x : Stream) : (setStm s n x).fobj = s.fobj := rfl
@[simp] theorem setStm_hobj (s : State) (n : Nat) (x : Stream) : (setStm s n x).hobj = s.hobj := rfl
@[simp] theorem setStm_fsaved (s : State) (n : Nat) (x : Stream) : (setStm s n x).fsaved = s.fsaved := rfl
@[simp] theorem setStm_hsaved (s : State) (n : Nat) (x : Stream) : (setStm s n x).hsaved = s.hsaved := rfl
@[simp] theorem setStm_regs (s : State) (n : Nat) (x : Stream) : (setStm s n x).regs = s.regs := rfl
@[simp] theorem setStm_pos (s : State) (n : Nat) (x : Stream) : (setStm s n x).pos = s.pos := rfl
@[simp] theorem setStm_fEntries (s : State) (n : Nat) (x : Stream) : (setStm s n x).fEntries = s.fEntries := rfl
@[simp] theorem setStm_hMaster (s : State) (n : Nat) (x : Stream) : (setStm s n x).hMaster = s.hMaster := rfl
@[simp] theorem setStm_hostPush (s : State) (n : Nat) (x : Stream) : (setStm s n x).hostPush = s.hostPush := rfl
@[simp] theorem setStm_tEntries (s : State) (n : Nat) (x : Stream) : (setStm s n x).tEntries = s.tEntries := rfl
@[simp] theorem setStm_replica (s : State) (n : Nat) (x : Stream) : (setStm s n x).replica = s.replica := rfl
@[simp] theorem setStm_fclk (s : State) (n : Nat) (x : Stream) : (setStm s n x).fclk = s.fclk := rfl
@[simp] theorem setStm_hclk (s : State) (n : Nat) (x : Stream) : (setStm s n x).hclk = s.hclk := rfl
@[simp] theorem setStm_trep (s : State) (n : Nat) (x : Stream) : (setStm s n x).trep = s.trep := rfl
@[simp] theorem setStm_pairs (s : State) (n : Nat) (x : Stream) : (setStm s n x).pairs = s.pairs := rfl
@[simp] theorem setStm_sync (s : State) (n : Nat) (x : Stream) : (setStm s n x).sync = s.sync := rfl
@[simp] theorem setStm_fend (s : State) (n : Nat) (x : Stream) : (setStm s n x).fend = s.fend := rfl
@[simp] theorem setStm_hend (s : State) (n : Nat) (x : Stream) : (setStm s n x).hend = s.hend := rfl
@[simp] theorem setStm_link (s : State) (n : Nat) (x : Stream) : (setStm s n x).link = s.link := rfl
@[simp] theorem setStm_hostSlots (s : State) (n : Nat) (x : Stream) : (setStm s n x).hostSlots = s.hostSlots := rfl
@[simp] theorem setStm_fwdValue (s : State) (n : Nat) (x : Stream) : (setStm s n x).fwdValue = s.fwdValue := rfl
@[simp] theorem setStm_portXfer (s : State) (n : Nat) (x : Stream) : (setStm s n x).portXfer = s.portXfer := rfl
@[simp] theorem setStm_portWaits (s : State) (n : Nat) (x : Stream) : (setStm s n x).portWaits = s.portWaits := rfl
@[simp] theorem setStm_fieldXfers (s : State) (n : Nat) (x : Stream) : (setStm s n x).fieldXfers = s.fieldXfers := rfl
@[simp] theorem setStm_sets (s : State) (n : Nat) (x : Stream) : (setStm s n x).sets = s.sets := rfl
@[simp] theorem setStm_undo (s : State) (n : Nat) (x : Stream) : (setStm s n x).undo = s.undo := rfl
@[simp] theorem setStm_keptHost (s : State) (n : Nat) (x : Stream) : (setStm s n x).keptHost = s.keptHost := rfl
@[simp] theorem setStm_bus (s : State) (n : Nat) (x : Stream) : (setStm s n x).bus = s.bus := rfl
@[simp] theorem setStm_mem (s : State) (n : Nat) (x : Stream) : (setStm s n x).mem = s.mem := rfl
@[simp] theorem setStm_trig (s : State) (n : Nat) (x : Stream) : (setStm s n x).trig = s.trig := rfl
@[simp] theorem setStm_flags (s : State) (n : Nat) (x : Stream) : (setStm s n x).flags = s.flags := rfl
@[simp] theorem setStm_graphs (s : State) (n : Nat) (x : Stream) : (setStm s n x).graphs = s.graphs := rfl
@[simp] theorem setStm_runOrder (s : State) (n : Nat) (x : Stream) : (setStm s n x).runOrder = s.runOrder := rfl
@[simp] theorem setStm_engines (s : State) (n : Nat) (x : Stream) : (setStm s n x).engines = s.engines := rfl
@[simp] theorem setStm_gal (s : State) (n : Nat) (x : Stream) : (setStm s n x).gal = s.gal := rfl
@[simp] theorem setStm_kv (s : State) (n : Nat) (x : Stream) : (setStm s n x).kv = s.kv := rfl
@[simp] theorem setStm_lan (s : State) (n : Nat) (x : Stream) : (setStm s n x).lan = s.lan := rfl
@[simp] theorem setStm_comp (s : State) (n : Nat) (x : Stream) : (setStm s n x).comp = s.comp := rfl
@[simp] theorem setStm_axes (s : State) (n : Nat) (x : Stream) : (setStm s n x).axes = s.axes := rfl
@[simp] theorem setStm_ctl (s : State) (n : Nat) (x : Stream) : (setStm s n x).ctl = s.ctl := rfl
@[simp] theorem setStm_eng (s : State) (n : Nat) (x : Stream) : (setStm s n x).eng = s.eng := rfl
@[simp] theorem setStm_saf (s : State) (n : Nat) (x : Stream) : (setStm s n x).saf = s.saf := rfl
@[simp] theorem setStm_pwr (s : State) (n : Nat) (x : Stream) : (setStm s n x).pwr = s.pwr := rfl
@[simp] theorem setStm_hostInts (s : State) (n : Nat) (x : Stream) : (setStm s n x).hostInts = s.hostInts := rfl
@[simp] theorem setStm_freeCtr (s : State) (n : Nat) (x : Stream) : (setStm s n x).freeCtr = s.freeCtr := rfl
@[simp] theorem setStm_pending (s : State) (n : Nat) (x : Stream) : (setStm s n x).pending = s.pending := rfl

/-! ### `setGph` -/

@[simp] theorem setGph_fboot (s : State) (n : Nat) (x : Graph) : (setGph s n x).fboot = s.fboot := rfl
@[simp] theorem setGph_hboot (s : State) (n : Nat) (x : Graph) : (setGph s n x).hboot = s.hboot := rfl
@[simp] theorem setGph_hBoot (s : State) (n : Nat) (x : Graph) : (setGph s n x).hBoot = s.hBoot := rfl
@[simp] theorem setGph_gradeI (s : State) (n : Nat) (x : Graph) : (setGph s n x).gradeI = s.gradeI := rfl
@[simp] theorem setGph_pins (s : State) (n : Nat) (x : Graph) : (setGph s n x).pins = s.pins := rfl
@[simp] theorem setGph_pulses (s : State) (n : Nat) (x : Graph) : (setGph s n x).pulses = s.pulses := rfl
@[simp] theorem setGph_fobj (s : State) (n : Nat) (x : Graph) : (setGph s n x).fobj = s.fobj := rfl
@[simp] theorem setGph_hobj (s : State) (n : Nat) (x : Graph) : (setGph s n x).hobj = s.hobj := rfl
@[simp] theorem setGph_fsaved (s : State) (n : Nat) (x : Graph) : (setGph s n x).fsaved = s.fsaved := rfl
@[simp] theorem setGph_hsaved (s : State) (n : Nat) (x : Graph) : (setGph s n x).hsaved = s.hsaved := rfl
@[simp] theorem setGph_regs (s : State) (n : Nat) (x : Graph) : (setGph s n x).regs = s.regs := rfl
@[simp] theorem setGph_pos (s : State) (n : Nat) (x : Graph) : (setGph s n x).pos = s.pos := rfl
@[simp] theorem setGph_fEntries (s : State) (n : Nat) (x : Graph) : (setGph s n x).fEntries = s.fEntries := rfl
@[simp] theorem setGph_hMaster (s : State) (n : Nat) (x : Graph) : (setGph s n x).hMaster = s.hMaster := rfl
@[simp] theorem setGph_hostPush (s : State) (n : Nat) (x : Graph) : (setGph s n x).hostPush = s.hostPush := rfl
@[simp] theorem setGph_tEntries (s : State) (n : Nat) (x : Graph) : (setGph s n x).tEntries = s.tEntries := rfl
@[simp] theorem setGph_replica (s : State) (n : Nat) (x : Graph) : (setGph s n x).replica = s.replica := rfl
@[simp] theorem setGph_fclk (s : State) (n : Nat) (x : Graph) : (setGph s n x).fclk = s.fclk := rfl
@[simp] theorem setGph_hclk (s : State) (n : Nat) (x : Graph) : (setGph s n x).hclk = s.hclk := rfl
@[simp] theorem setGph_trep (s : State) (n : Nat) (x : Graph) : (setGph s n x).trep = s.trep := rfl
@[simp] theorem setGph_pairs (s : State) (n : Nat) (x : Graph) : (setGph s n x).pairs = s.pairs := rfl
@[simp] theorem setGph_sync (s : State) (n : Nat) (x : Graph) : (setGph s n x).sync = s.sync := rfl
@[simp] theorem setGph_fend (s : State) (n : Nat) (x : Graph) : (setGph s n x).fend = s.fend := rfl
@[simp] theorem setGph_hend (s : State) (n : Nat) (x : Graph) : (setGph s n x).hend = s.hend := rfl
@[simp] theorem setGph_link (s : State) (n : Nat) (x : Graph) : (setGph s n x).link = s.link := rfl
@[simp] theorem setGph_hostSlots (s : State) (n : Nat) (x : Graph) : (setGph s n x).hostSlots = s.hostSlots := rfl
@[simp] theorem setGph_fwdValue (s : State) (n : Nat) (x : Graph) : (setGph s n x).fwdValue = s.fwdValue := rfl
@[simp] theorem setGph_portXfer (s : State) (n : Nat) (x : Graph) : (setGph s n x).portXfer = s.portXfer := rfl
@[simp] theorem setGph_portWaits (s : State) (n : Nat) (x : Graph) : (setGph s n x).portWaits = s.portWaits := rfl
@[simp] theorem setGph_fieldXfers (s : State) (n : Nat) (x : Graph) : (setGph s n x).fieldXfers = s.fieldXfers := rfl
@[simp] theorem setGph_sets (s : State) (n : Nat) (x : Graph) : (setGph s n x).sets = s.sets := rfl
@[simp] theorem setGph_undo (s : State) (n : Nat) (x : Graph) : (setGph s n x).undo = s.undo := rfl
@[simp] theorem setGph_keptHost (s : State) (n : Nat) (x : Graph) : (setGph s n x).keptHost = s.keptHost := rfl
@[simp] theorem setGph_bus (s : State) (n : Nat) (x : Graph) : (setGph s n x).bus = s.bus := rfl
@[simp] theorem setGph_mem (s : State) (n : Nat) (x : Graph) : (setGph s n x).mem = s.mem := rfl
@[simp] theorem setGph_streams (s : State) (n : Nat) (x : Graph) : (setGph s n x).streams = s.streams := rfl
@[simp] theorem setGph_trig (s : State) (n : Nat) (x : Graph) : (setGph s n x).trig = s.trig := rfl
@[simp] theorem setGph_flags (s : State) (n : Nat) (x : Graph) : (setGph s n x).flags = s.flags := rfl
@[simp] theorem setGph_runOrder (s : State) (n : Nat) (x : Graph) : (setGph s n x).runOrder = s.runOrder := rfl
@[simp] theorem setGph_engines (s : State) (n : Nat) (x : Graph) : (setGph s n x).engines = s.engines := rfl
@[simp] theorem setGph_gal (s : State) (n : Nat) (x : Graph) : (setGph s n x).gal = s.gal := rfl
@[simp] theorem setGph_kv (s : State) (n : Nat) (x : Graph) : (setGph s n x).kv = s.kv := rfl
@[simp] theorem setGph_lan (s : State) (n : Nat) (x : Graph) : (setGph s n x).lan = s.lan := rfl
@[simp] theorem setGph_comp (s : State) (n : Nat) (x : Graph) : (setGph s n x).comp = s.comp := rfl
@[simp] theorem setGph_axes (s : State) (n : Nat) (x : Graph) : (setGph s n x).axes = s.axes := rfl
@[simp] theorem setGph_ctl (s : State) (n : Nat) (x : Graph) : (setGph s n x).ctl = s.ctl := rfl
@[simp] theorem setGph_eng (s : State) (n : Nat) (x : Graph) : (setGph s n x).eng = s.eng := rfl
@[simp] theorem setGph_saf (s : State) (n : Nat) (x : Graph) : (setGph s n x).saf = s.saf := rfl
@[simp] theorem setGph_pwr (s : State) (n : Nat) (x : Graph) : (setGph s n x).pwr = s.pwr := rfl
@[simp] theorem setGph_hostInts (s : State) (n : Nat) (x : Graph) : (setGph s n x).hostInts = s.hostInts := rfl
@[simp] theorem setGph_freeCtr (s : State) (n : Nat) (x : Graph) : (setGph s n x).freeCtr = s.freeCtr := rfl
@[simp] theorem setGph_pending (s : State) (n : Nat) (x : Graph) : (setGph s n x).pending = s.pending := rfl

/-! ### `setFlag` -/

@[simp] theorem setFlag_fboot (s : State) (n : Nat) (x : Flag) : (setFlag s n x).fboot = s.fboot := rfl
@[simp] theorem setFlag_hboot (s : State) (n : Nat) (x : Flag) : (setFlag s n x).hboot = s.hboot := rfl
@[simp] theorem setFlag_hBoot (s : State) (n : Nat) (x : Flag) : (setFlag s n x).hBoot = s.hBoot := rfl
@[simp] theorem setFlag_gradeI (s : State) (n : Nat) (x : Flag) : (setFlag s n x).gradeI = s.gradeI := rfl
@[simp] theorem setFlag_pins (s : State) (n : Nat) (x : Flag) : (setFlag s n x).pins = s.pins := rfl
@[simp] theorem setFlag_pulses (s : State) (n : Nat) (x : Flag) : (setFlag s n x).pulses = s.pulses := rfl
@[simp] theorem setFlag_fobj (s : State) (n : Nat) (x : Flag) : (setFlag s n x).fobj = s.fobj := rfl
@[simp] theorem setFlag_hobj (s : State) (n : Nat) (x : Flag) : (setFlag s n x).hobj = s.hobj := rfl
@[simp] theorem setFlag_fsaved (s : State) (n : Nat) (x : Flag) : (setFlag s n x).fsaved = s.fsaved := rfl
@[simp] theorem setFlag_hsaved (s : State) (n : Nat) (x : Flag) : (setFlag s n x).hsaved = s.hsaved := rfl
@[simp] theorem setFlag_regs (s : State) (n : Nat) (x : Flag) : (setFlag s n x).regs = s.regs := rfl
@[simp] theorem setFlag_pos (s : State) (n : Nat) (x : Flag) : (setFlag s n x).pos = s.pos := rfl
@[simp] theorem setFlag_fEntries (s : State) (n : Nat) (x : Flag) : (setFlag s n x).fEntries = s.fEntries := rfl
@[simp] theorem setFlag_hMaster (s : State) (n : Nat) (x : Flag) : (setFlag s n x).hMaster = s.hMaster := rfl
@[simp] theorem setFlag_hostPush (s : State) (n : Nat) (x : Flag) : (setFlag s n x).hostPush = s.hostPush := rfl
@[simp] theorem setFlag_tEntries (s : State) (n : Nat) (x : Flag) : (setFlag s n x).tEntries = s.tEntries := rfl
@[simp] theorem setFlag_replica (s : State) (n : Nat) (x : Flag) : (setFlag s n x).replica = s.replica := rfl
@[simp] theorem setFlag_fclk (s : State) (n : Nat) (x : Flag) : (setFlag s n x).fclk = s.fclk := rfl
@[simp] theorem setFlag_hclk (s : State) (n : Nat) (x : Flag) : (setFlag s n x).hclk = s.hclk := rfl
@[simp] theorem setFlag_trep (s : State) (n : Nat) (x : Flag) : (setFlag s n x).trep = s.trep := rfl
@[simp] theorem setFlag_pairs (s : State) (n : Nat) (x : Flag) : (setFlag s n x).pairs = s.pairs := rfl
@[simp] theorem setFlag_sync (s : State) (n : Nat) (x : Flag) : (setFlag s n x).sync = s.sync := rfl
@[simp] theorem setFlag_fend (s : State) (n : Nat) (x : Flag) : (setFlag s n x).fend = s.fend := rfl
@[simp] theorem setFlag_hend (s : State) (n : Nat) (x : Flag) : (setFlag s n x).hend = s.hend := rfl
@[simp] theorem setFlag_link (s : State) (n : Nat) (x : Flag) : (setFlag s n x).link = s.link := rfl
@[simp] theorem setFlag_hostSlots (s : State) (n : Nat) (x : Flag) : (setFlag s n x).hostSlots = s.hostSlots := rfl
@[simp] theorem setFlag_fwdValue (s : State) (n : Nat) (x : Flag) : (setFlag s n x).fwdValue = s.fwdValue := rfl
@[simp] theorem setFlag_portXfer (s : State) (n : Nat) (x : Flag) : (setFlag s n x).portXfer = s.portXfer := rfl
@[simp] theorem setFlag_portWaits (s : State) (n : Nat) (x : Flag) : (setFlag s n x).portWaits = s.portWaits := rfl
@[simp] theorem setFlag_fieldXfers (s : State) (n : Nat) (x : Flag) : (setFlag s n x).fieldXfers = s.fieldXfers := rfl
@[simp] theorem setFlag_sets (s : State) (n : Nat) (x : Flag) : (setFlag s n x).sets = s.sets := rfl
@[simp] theorem setFlag_undo (s : State) (n : Nat) (x : Flag) : (setFlag s n x).undo = s.undo := rfl
@[simp] theorem setFlag_keptHost (s : State) (n : Nat) (x : Flag) : (setFlag s n x).keptHost = s.keptHost := rfl
@[simp] theorem setFlag_bus (s : State) (n : Nat) (x : Flag) : (setFlag s n x).bus = s.bus := rfl
@[simp] theorem setFlag_mem (s : State) (n : Nat) (x : Flag) : (setFlag s n x).mem = s.mem := rfl
@[simp] theorem setFlag_streams (s : State) (n : Nat) (x : Flag) : (setFlag s n x).streams = s.streams := rfl
@[simp] theorem setFlag_trig (s : State) (n : Nat) (x : Flag) : (setFlag s n x).trig = s.trig := rfl
@[simp] theorem setFlag_graphs (s : State) (n : Nat) (x : Flag) : (setFlag s n x).graphs = s.graphs := rfl
@[simp] theorem setFlag_runOrder (s : State) (n : Nat) (x : Flag) : (setFlag s n x).runOrder = s.runOrder := rfl
@[simp] theorem setFlag_engines (s : State) (n : Nat) (x : Flag) : (setFlag s n x).engines = s.engines := rfl
@[simp] theorem setFlag_gal (s : State) (n : Nat) (x : Flag) : (setFlag s n x).gal = s.gal := rfl
@[simp] theorem setFlag_kv (s : State) (n : Nat) (x : Flag) : (setFlag s n x).kv = s.kv := rfl
@[simp] theorem setFlag_lan (s : State) (n : Nat) (x : Flag) : (setFlag s n x).lan = s.lan := rfl
@[simp] theorem setFlag_comp (s : State) (n : Nat) (x : Flag) : (setFlag s n x).comp = s.comp := rfl
@[simp] theorem setFlag_axes (s : State) (n : Nat) (x : Flag) : (setFlag s n x).axes = s.axes := rfl
@[simp] theorem setFlag_ctl (s : State) (n : Nat) (x : Flag) : (setFlag s n x).ctl = s.ctl := rfl
@[simp] theorem setFlag_eng (s : State) (n : Nat) (x : Flag) : (setFlag s n x).eng = s.eng := rfl
@[simp] theorem setFlag_saf (s : State) (n : Nat) (x : Flag) : (setFlag s n x).saf = s.saf := rfl
@[simp] theorem setFlag_pwr (s : State) (n : Nat) (x : Flag) : (setFlag s n x).pwr = s.pwr := rfl
@[simp] theorem setFlag_hostInts (s : State) (n : Nat) (x : Flag) : (setFlag s n x).hostInts = s.hostInts := rfl
@[simp] theorem setFlag_freeCtr (s : State) (n : Nat) (x : Flag) : (setFlag s n x).freeCtr = s.freeCtr := rfl
@[simp] theorem setFlag_pending (s : State) (n : Nat) (x : Flag) : (setFlag s n x).pending = s.pending := rfl

/-! ### `setStg` -/

@[simp] theorem setStg_fboot (s : State) (n : Nat) (x : StageSet) : (setStg s n x).fboot = s.fboot := rfl
@[simp] theorem setStg_hboot (s : State) (n : Nat) (x : StageSet) : (setStg s n x).hboot = s.hboot := rfl
@[simp] theorem setStg_hBoot (s : State) (n : Nat) (x : StageSet) : (setStg s n x).hBoot = s.hBoot := rfl
@[simp] theorem setStg_gradeI (s : State) (n : Nat) (x : StageSet) : (setStg s n x).gradeI = s.gradeI := rfl
@[simp] theorem setStg_pins (s : State) (n : Nat) (x : StageSet) : (setStg s n x).pins = s.pins := rfl
@[simp] theorem setStg_pulses (s : State) (n : Nat) (x : StageSet) : (setStg s n x).pulses = s.pulses := rfl
@[simp] theorem setStg_fobj (s : State) (n : Nat) (x : StageSet) : (setStg s n x).fobj = s.fobj := rfl
@[simp] theorem setStg_hobj (s : State) (n : Nat) (x : StageSet) : (setStg s n x).hobj = s.hobj := rfl
@[simp] theorem setStg_fsaved (s : State) (n : Nat) (x : StageSet) : (setStg s n x).fsaved = s.fsaved := rfl
@[simp] theorem setStg_hsaved (s : State) (n : Nat) (x : StageSet) : (setStg s n x).hsaved = s.hsaved := rfl
@[simp] theorem setStg_regs (s : State) (n : Nat) (x : StageSet) : (setStg s n x).regs = s.regs := rfl
@[simp] theorem setStg_pos (s : State) (n : Nat) (x : StageSet) : (setStg s n x).pos = s.pos := rfl
@[simp] theorem setStg_fEntries (s : State) (n : Nat) (x : StageSet) : (setStg s n x).fEntries = s.fEntries := rfl
@[simp] theorem setStg_hMaster (s : State) (n : Nat) (x : StageSet) : (setStg s n x).hMaster = s.hMaster := rfl
@[simp] theorem setStg_hostPush (s : State) (n : Nat) (x : StageSet) : (setStg s n x).hostPush = s.hostPush := rfl
@[simp] theorem setStg_tEntries (s : State) (n : Nat) (x : StageSet) : (setStg s n x).tEntries = s.tEntries := rfl
@[simp] theorem setStg_replica (s : State) (n : Nat) (x : StageSet) : (setStg s n x).replica = s.replica := rfl
@[simp] theorem setStg_fclk (s : State) (n : Nat) (x : StageSet) : (setStg s n x).fclk = s.fclk := rfl
@[simp] theorem setStg_hclk (s : State) (n : Nat) (x : StageSet) : (setStg s n x).hclk = s.hclk := rfl
@[simp] theorem setStg_trep (s : State) (n : Nat) (x : StageSet) : (setStg s n x).trep = s.trep := rfl
@[simp] theorem setStg_pairs (s : State) (n : Nat) (x : StageSet) : (setStg s n x).pairs = s.pairs := rfl
@[simp] theorem setStg_sync (s : State) (n : Nat) (x : StageSet) : (setStg s n x).sync = s.sync := rfl
@[simp] theorem setStg_fend (s : State) (n : Nat) (x : StageSet) : (setStg s n x).fend = s.fend := rfl
@[simp] theorem setStg_hend (s : State) (n : Nat) (x : StageSet) : (setStg s n x).hend = s.hend := rfl
@[simp] theorem setStg_link (s : State) (n : Nat) (x : StageSet) : (setStg s n x).link = s.link := rfl
@[simp] theorem setStg_hostSlots (s : State) (n : Nat) (x : StageSet) : (setStg s n x).hostSlots = s.hostSlots := rfl
@[simp] theorem setStg_fwdValue (s : State) (n : Nat) (x : StageSet) : (setStg s n x).fwdValue = s.fwdValue := rfl
@[simp] theorem setStg_portXfer (s : State) (n : Nat) (x : StageSet) : (setStg s n x).portXfer = s.portXfer := rfl
@[simp] theorem setStg_portWaits (s : State) (n : Nat) (x : StageSet) : (setStg s n x).portWaits = s.portWaits := rfl
@[simp] theorem setStg_fieldXfers (s : State) (n : Nat) (x : StageSet) : (setStg s n x).fieldXfers = s.fieldXfers := rfl
@[simp] theorem setStg_undo (s : State) (n : Nat) (x : StageSet) : (setStg s n x).undo = s.undo := rfl
@[simp] theorem setStg_keptHost (s : State) (n : Nat) (x : StageSet) : (setStg s n x).keptHost = s.keptHost := rfl
@[simp] theorem setStg_bus (s : State) (n : Nat) (x : StageSet) : (setStg s n x).bus = s.bus := rfl
@[simp] theorem setStg_mem (s : State) (n : Nat) (x : StageSet) : (setStg s n x).mem = s.mem := rfl
@[simp] theorem setStg_streams (s : State) (n : Nat) (x : StageSet) : (setStg s n x).streams = s.streams := rfl
@[simp] theorem setStg_trig (s : State) (n : Nat) (x : StageSet) : (setStg s n x).trig = s.trig := rfl
@[simp] theorem setStg_flags (s : State) (n : Nat) (x : StageSet) : (setStg s n x).flags = s.flags := rfl
@[simp] theorem setStg_graphs (s : State) (n : Nat) (x : StageSet) : (setStg s n x).graphs = s.graphs := rfl
@[simp] theorem setStg_runOrder (s : State) (n : Nat) (x : StageSet) : (setStg s n x).runOrder = s.runOrder := rfl
@[simp] theorem setStg_engines (s : State) (n : Nat) (x : StageSet) : (setStg s n x).engines = s.engines := rfl
@[simp] theorem setStg_gal (s : State) (n : Nat) (x : StageSet) : (setStg s n x).gal = s.gal := rfl
@[simp] theorem setStg_kv (s : State) (n : Nat) (x : StageSet) : (setStg s n x).kv = s.kv := rfl
@[simp] theorem setStg_lan (s : State) (n : Nat) (x : StageSet) : (setStg s n x).lan = s.lan := rfl
@[simp] theorem setStg_comp (s : State) (n : Nat) (x : StageSet) : (setStg s n x).comp = s.comp := rfl
@[simp] theorem setStg_axes (s : State) (n : Nat) (x : StageSet) : (setStg s n x).axes = s.axes := rfl
@[simp] theorem setStg_ctl (s : State) (n : Nat) (x : StageSet) : (setStg s n x).ctl = s.ctl := rfl
@[simp] theorem setStg_eng (s : State) (n : Nat) (x : StageSet) : (setStg s n x).eng = s.eng := rfl
@[simp] theorem setStg_saf (s : State) (n : Nat) (x : StageSet) : (setStg s n x).saf = s.saf := rfl
@[simp] theorem setStg_pwr (s : State) (n : Nat) (x : StageSet) : (setStg s n x).pwr = s.pwr := rfl
@[simp] theorem setStg_hostInts (s : State) (n : Nat) (x : StageSet) : (setStg s n x).hostInts = s.hostInts := rfl
@[simp] theorem setStg_freeCtr (s : State) (n : Nat) (x : StageSet) : (setStg s n x).freeCtr = s.freeCtr := rfl
@[simp] theorem setStg_pending (s : State) (n : Nat) (x : StageSet) : (setStg s n x).pending = s.pending := rfl

/-! ### `setPool` -/

@[simp] theorem setPool_fboot (s : State) (n : Nat) (x : Pool) : (setPool s n x).fboot = s.fboot := rfl
@[simp] theorem setPool_hboot (s : State) (n : Nat) (x : Pool) : (setPool s n x).hboot = s.hboot := rfl
@[simp] theorem setPool_hBoot (s : State) (n : Nat) (x : Pool) : (setPool s n x).hBoot = s.hBoot := rfl
@[simp] theorem setPool_gradeI (s : State) (n : Nat) (x : Pool) : (setPool s n x).gradeI = s.gradeI := rfl
@[simp] theorem setPool_pins (s : State) (n : Nat) (x : Pool) : (setPool s n x).pins = s.pins := rfl
@[simp] theorem setPool_pulses (s : State) (n : Nat) (x : Pool) : (setPool s n x).pulses = s.pulses := rfl
@[simp] theorem setPool_fobj (s : State) (n : Nat) (x : Pool) : (setPool s n x).fobj = s.fobj := rfl
@[simp] theorem setPool_hobj (s : State) (n : Nat) (x : Pool) : (setPool s n x).hobj = s.hobj := rfl
@[simp] theorem setPool_fsaved (s : State) (n : Nat) (x : Pool) : (setPool s n x).fsaved = s.fsaved := rfl
@[simp] theorem setPool_hsaved (s : State) (n : Nat) (x : Pool) : (setPool s n x).hsaved = s.hsaved := rfl
@[simp] theorem setPool_regs (s : State) (n : Nat) (x : Pool) : (setPool s n x).regs = s.regs := rfl
@[simp] theorem setPool_pos (s : State) (n : Nat) (x : Pool) : (setPool s n x).pos = s.pos := rfl
@[simp] theorem setPool_fEntries (s : State) (n : Nat) (x : Pool) : (setPool s n x).fEntries = s.fEntries := rfl
@[simp] theorem setPool_hMaster (s : State) (n : Nat) (x : Pool) : (setPool s n x).hMaster = s.hMaster := rfl
@[simp] theorem setPool_hostPush (s : State) (n : Nat) (x : Pool) : (setPool s n x).hostPush = s.hostPush := rfl
@[simp] theorem setPool_tEntries (s : State) (n : Nat) (x : Pool) : (setPool s n x).tEntries = s.tEntries := rfl
@[simp] theorem setPool_replica (s : State) (n : Nat) (x : Pool) : (setPool s n x).replica = s.replica := rfl
@[simp] theorem setPool_fclk (s : State) (n : Nat) (x : Pool) : (setPool s n x).fclk = s.fclk := rfl
@[simp] theorem setPool_hclk (s : State) (n : Nat) (x : Pool) : (setPool s n x).hclk = s.hclk := rfl
@[simp] theorem setPool_trep (s : State) (n : Nat) (x : Pool) : (setPool s n x).trep = s.trep := rfl
@[simp] theorem setPool_pairs (s : State) (n : Nat) (x : Pool) : (setPool s n x).pairs = s.pairs := rfl
@[simp] theorem setPool_sync (s : State) (n : Nat) (x : Pool) : (setPool s n x).sync = s.sync := rfl
@[simp] theorem setPool_fend (s : State) (n : Nat) (x : Pool) : (setPool s n x).fend = s.fend := rfl
@[simp] theorem setPool_hend (s : State) (n : Nat) (x : Pool) : (setPool s n x).hend = s.hend := rfl
@[simp] theorem setPool_link (s : State) (n : Nat) (x : Pool) : (setPool s n x).link = s.link := rfl
@[simp] theorem setPool_hostSlots (s : State) (n : Nat) (x : Pool) : (setPool s n x).hostSlots = s.hostSlots := rfl
@[simp] theorem setPool_fwdValue (s : State) (n : Nat) (x : Pool) : (setPool s n x).fwdValue = s.fwdValue := rfl
@[simp] theorem setPool_portXfer (s : State) (n : Nat) (x : Pool) : (setPool s n x).portXfer = s.portXfer := rfl
@[simp] theorem setPool_portWaits (s : State) (n : Nat) (x : Pool) : (setPool s n x).portWaits = s.portWaits := rfl
@[simp] theorem setPool_fieldXfers (s : State) (n : Nat) (x : Pool) : (setPool s n x).fieldXfers = s.fieldXfers := rfl
@[simp] theorem setPool_sets (s : State) (n : Nat) (x : Pool) : (setPool s n x).sets = s.sets := rfl
@[simp] theorem setPool_undo (s : State) (n : Nat) (x : Pool) : (setPool s n x).undo = s.undo := rfl
@[simp] theorem setPool_keptHost (s : State) (n : Nat) (x : Pool) : (setPool s n x).keptHost = s.keptHost := rfl
@[simp] theorem setPool_bus (s : State) (n : Nat) (x : Pool) : (setPool s n x).bus = s.bus := rfl
@[simp] theorem setPool_mem (s : State) (n : Nat) (x : Pool) : (setPool s n x).mem = s.mem := rfl
@[simp] theorem setPool_streams (s : State) (n : Nat) (x : Pool) : (setPool s n x).streams = s.streams := rfl
@[simp] theorem setPool_trig (s : State) (n : Nat) (x : Pool) : (setPool s n x).trig = s.trig := rfl
@[simp] theorem setPool_flags (s : State) (n : Nat) (x : Pool) : (setPool s n x).flags = s.flags := rfl
@[simp] theorem setPool_graphs (s : State) (n : Nat) (x : Pool) : (setPool s n x).graphs = s.graphs := rfl
@[simp] theorem setPool_runOrder (s : State) (n : Nat) (x : Pool) : (setPool s n x).runOrder = s.runOrder := rfl
@[simp] theorem setPool_engines (s : State) (n : Nat) (x : Pool) : (setPool s n x).engines = s.engines := rfl
@[simp] theorem setPool_gal (s : State) (n : Nat) (x : Pool) : (setPool s n x).gal = s.gal := rfl
@[simp] theorem setPool_lan (s : State) (n : Nat) (x : Pool) : (setPool s n x).lan = s.lan := rfl
@[simp] theorem setPool_comp (s : State) (n : Nat) (x : Pool) : (setPool s n x).comp = s.comp := rfl
@[simp] theorem setPool_axes (s : State) (n : Nat) (x : Pool) : (setPool s n x).axes = s.axes := rfl
@[simp] theorem setPool_ctl (s : State) (n : Nat) (x : Pool) : (setPool s n x).ctl = s.ctl := rfl
@[simp] theorem setPool_eng (s : State) (n : Nat) (x : Pool) : (setPool s n x).eng = s.eng := rfl
@[simp] theorem setPool_saf (s : State) (n : Nat) (x : Pool) : (setPool s n x).saf = s.saf := rfl
@[simp] theorem setPool_pwr (s : State) (n : Nat) (x : Pool) : (setPool s n x).pwr = s.pwr := rfl
@[simp] theorem setPool_hostInts (s : State) (n : Nat) (x : Pool) : (setPool s n x).hostInts = s.hostInts := rfl
@[simp] theorem setPool_freeCtr (s : State) (n : Nat) (x : Pool) : (setPool s n x).freeCtr = s.freeCtr := rfl
@[simp] theorem setPool_pending (s : State) (n : Nat) (x : Pool) : (setPool s n x).pending = s.pending := rfl

/-! ### `setQue` -/

@[simp] theorem setQue_fboot (s : State) (n : Nat) (x : Queue) : (setQue s n x).fboot = s.fboot := rfl
@[simp] theorem setQue_hboot (s : State) (n : Nat) (x : Queue) : (setQue s n x).hboot = s.hboot := rfl
@[simp] theorem setQue_hBoot (s : State) (n : Nat) (x : Queue) : (setQue s n x).hBoot = s.hBoot := rfl
@[simp] theorem setQue_gradeI (s : State) (n : Nat) (x : Queue) : (setQue s n x).gradeI = s.gradeI := rfl
@[simp] theorem setQue_pins (s : State) (n : Nat) (x : Queue) : (setQue s n x).pins = s.pins := rfl
@[simp] theorem setQue_pulses (s : State) (n : Nat) (x : Queue) : (setQue s n x).pulses = s.pulses := rfl
@[simp] theorem setQue_fobj (s : State) (n : Nat) (x : Queue) : (setQue s n x).fobj = s.fobj := rfl
@[simp] theorem setQue_hobj (s : State) (n : Nat) (x : Queue) : (setQue s n x).hobj = s.hobj := rfl
@[simp] theorem setQue_fsaved (s : State) (n : Nat) (x : Queue) : (setQue s n x).fsaved = s.fsaved := rfl
@[simp] theorem setQue_hsaved (s : State) (n : Nat) (x : Queue) : (setQue s n x).hsaved = s.hsaved := rfl
@[simp] theorem setQue_regs (s : State) (n : Nat) (x : Queue) : (setQue s n x).regs = s.regs := rfl
@[simp] theorem setQue_pos (s : State) (n : Nat) (x : Queue) : (setQue s n x).pos = s.pos := rfl
@[simp] theorem setQue_fEntries (s : State) (n : Nat) (x : Queue) : (setQue s n x).fEntries = s.fEntries := rfl
@[simp] theorem setQue_hMaster (s : State) (n : Nat) (x : Queue) : (setQue s n x).hMaster = s.hMaster := rfl
@[simp] theorem setQue_hostPush (s : State) (n : Nat) (x : Queue) : (setQue s n x).hostPush = s.hostPush := rfl
@[simp] theorem setQue_tEntries (s : State) (n : Nat) (x : Queue) : (setQue s n x).tEntries = s.tEntries := rfl
@[simp] theorem setQue_replica (s : State) (n : Nat) (x : Queue) : (setQue s n x).replica = s.replica := rfl
@[simp] theorem setQue_fclk (s : State) (n : Nat) (x : Queue) : (setQue s n x).fclk = s.fclk := rfl
@[simp] theorem setQue_hclk (s : State) (n : Nat) (x : Queue) : (setQue s n x).hclk = s.hclk := rfl
@[simp] theorem setQue_trep (s : State) (n : Nat) (x : Queue) : (setQue s n x).trep = s.trep := rfl
@[simp] theorem setQue_pairs (s : State) (n : Nat) (x : Queue) : (setQue s n x).pairs = s.pairs := rfl
@[simp] theorem setQue_sync (s : State) (n : Nat) (x : Queue) : (setQue s n x).sync = s.sync := rfl
@[simp] theorem setQue_fend (s : State) (n : Nat) (x : Queue) : (setQue s n x).fend = s.fend := rfl
@[simp] theorem setQue_hend (s : State) (n : Nat) (x : Queue) : (setQue s n x).hend = s.hend := rfl
@[simp] theorem setQue_link (s : State) (n : Nat) (x : Queue) : (setQue s n x).link = s.link := rfl
@[simp] theorem setQue_hostSlots (s : State) (n : Nat) (x : Queue) : (setQue s n x).hostSlots = s.hostSlots := rfl
@[simp] theorem setQue_fwdValue (s : State) (n : Nat) (x : Queue) : (setQue s n x).fwdValue = s.fwdValue := rfl
@[simp] theorem setQue_portXfer (s : State) (n : Nat) (x : Queue) : (setQue s n x).portXfer = s.portXfer := rfl
@[simp] theorem setQue_portWaits (s : State) (n : Nat) (x : Queue) : (setQue s n x).portWaits = s.portWaits := rfl
@[simp] theorem setQue_fieldXfers (s : State) (n : Nat) (x : Queue) : (setQue s n x).fieldXfers = s.fieldXfers := rfl
@[simp] theorem setQue_sets (s : State) (n : Nat) (x : Queue) : (setQue s n x).sets = s.sets := rfl
@[simp] theorem setQue_undo (s : State) (n : Nat) (x : Queue) : (setQue s n x).undo = s.undo := rfl
@[simp] theorem setQue_keptHost (s : State) (n : Nat) (x : Queue) : (setQue s n x).keptHost = s.keptHost := rfl
@[simp] theorem setQue_bus (s : State) (n : Nat) (x : Queue) : (setQue s n x).bus = s.bus := rfl
@[simp] theorem setQue_mem (s : State) (n : Nat) (x : Queue) : (setQue s n x).mem = s.mem := rfl
@[simp] theorem setQue_streams (s : State) (n : Nat) (x : Queue) : (setQue s n x).streams = s.streams := rfl
@[simp] theorem setQue_trig (s : State) (n : Nat) (x : Queue) : (setQue s n x).trig = s.trig := rfl
@[simp] theorem setQue_flags (s : State) (n : Nat) (x : Queue) : (setQue s n x).flags = s.flags := rfl
@[simp] theorem setQue_graphs (s : State) (n : Nat) (x : Queue) : (setQue s n x).graphs = s.graphs := rfl
@[simp] theorem setQue_runOrder (s : State) (n : Nat) (x : Queue) : (setQue s n x).runOrder = s.runOrder := rfl
@[simp] theorem setQue_engines (s : State) (n : Nat) (x : Queue) : (setQue s n x).engines = s.engines := rfl
@[simp] theorem setQue_kv (s : State) (n : Nat) (x : Queue) : (setQue s n x).kv = s.kv := rfl
@[simp] theorem setQue_lan (s : State) (n : Nat) (x : Queue) : (setQue s n x).lan = s.lan := rfl
@[simp] theorem setQue_comp (s : State) (n : Nat) (x : Queue) : (setQue s n x).comp = s.comp := rfl
@[simp] theorem setQue_axes (s : State) (n : Nat) (x : Queue) : (setQue s n x).axes = s.axes := rfl
@[simp] theorem setQue_ctl (s : State) (n : Nat) (x : Queue) : (setQue s n x).ctl = s.ctl := rfl
@[simp] theorem setQue_eng (s : State) (n : Nat) (x : Queue) : (setQue s n x).eng = s.eng := rfl
@[simp] theorem setQue_saf (s : State) (n : Nat) (x : Queue) : (setQue s n x).saf = s.saf := rfl
@[simp] theorem setQue_pwr (s : State) (n : Nat) (x : Queue) : (setQue s n x).pwr = s.pwr := rfl
@[simp] theorem setQue_hostInts (s : State) (n : Nat) (x : Queue) : (setQue s n x).hostInts = s.hostInts := rfl
@[simp] theorem setQue_freeCtr (s : State) (n : Nat) (x : Queue) : (setQue s n x).freeCtr = s.freeCtr := rfl
@[simp] theorem setQue_pending (s : State) (n : Nat) (x : Queue) : (setQue s n x).pending = s.pending := rfl

/-! ### `setBusReg` -/

@[simp] theorem setBusReg_fboot (s : State) (a v : Nat) : (setBusReg s a v).fboot = s.fboot := rfl
@[simp] theorem setBusReg_hboot (s : State) (a v : Nat) : (setBusReg s a v).hboot = s.hboot := rfl
@[simp] theorem setBusReg_hBoot (s : State) (a v : Nat) : (setBusReg s a v).hBoot = s.hBoot := rfl
@[simp] theorem setBusReg_gradeI (s : State) (a v : Nat) : (setBusReg s a v).gradeI = s.gradeI := rfl
@[simp] theorem setBusReg_pins (s : State) (a v : Nat) : (setBusReg s a v).pins = s.pins := rfl
@[simp] theorem setBusReg_pulses (s : State) (a v : Nat) : (setBusReg s a v).pulses = s.pulses := rfl
@[simp] theorem setBusReg_fobj (s : State) (a v : Nat) : (setBusReg s a v).fobj = s.fobj := rfl
@[simp] theorem setBusReg_hobj (s : State) (a v : Nat) : (setBusReg s a v).hobj = s.hobj := rfl
@[simp] theorem setBusReg_fsaved (s : State) (a v : Nat) : (setBusReg s a v).fsaved = s.fsaved := rfl
@[simp] theorem setBusReg_hsaved (s : State) (a v : Nat) : (setBusReg s a v).hsaved = s.hsaved := rfl
@[simp] theorem setBusReg_regs (s : State) (a v : Nat) : (setBusReg s a v).regs = s.regs := rfl
@[simp] theorem setBusReg_pos (s : State) (a v : Nat) : (setBusReg s a v).pos = s.pos := rfl
@[simp] theorem setBusReg_fEntries (s : State) (a v : Nat) : (setBusReg s a v).fEntries = s.fEntries := rfl
@[simp] theorem setBusReg_hMaster (s : State) (a v : Nat) : (setBusReg s a v).hMaster = s.hMaster := rfl
@[simp] theorem setBusReg_hostPush (s : State) (a v : Nat) : (setBusReg s a v).hostPush = s.hostPush := rfl
@[simp] theorem setBusReg_tEntries (s : State) (a v : Nat) : (setBusReg s a v).tEntries = s.tEntries := rfl
@[simp] theorem setBusReg_replica (s : State) (a v : Nat) : (setBusReg s a v).replica = s.replica := rfl
@[simp] theorem setBusReg_fclk (s : State) (a v : Nat) : (setBusReg s a v).fclk = s.fclk := rfl
@[simp] theorem setBusReg_hclk (s : State) (a v : Nat) : (setBusReg s a v).hclk = s.hclk := rfl
@[simp] theorem setBusReg_trep (s : State) (a v : Nat) : (setBusReg s a v).trep = s.trep := rfl
@[simp] theorem setBusReg_pairs (s : State) (a v : Nat) : (setBusReg s a v).pairs = s.pairs := rfl
@[simp] theorem setBusReg_sync (s : State) (a v : Nat) : (setBusReg s a v).sync = s.sync := rfl
@[simp] theorem setBusReg_fend (s : State) (a v : Nat) : (setBusReg s a v).fend = s.fend := rfl
@[simp] theorem setBusReg_hend (s : State) (a v : Nat) : (setBusReg s a v).hend = s.hend := rfl
@[simp] theorem setBusReg_link (s : State) (a v : Nat) : (setBusReg s a v).link = s.link := rfl
@[simp] theorem setBusReg_hostSlots (s : State) (a v : Nat) : (setBusReg s a v).hostSlots = s.hostSlots := rfl
@[simp] theorem setBusReg_fwdValue (s : State) (a v : Nat) : (setBusReg s a v).fwdValue = s.fwdValue := rfl
@[simp] theorem setBusReg_portXfer (s : State) (a v : Nat) : (setBusReg s a v).portXfer = s.portXfer := rfl
@[simp] theorem setBusReg_portWaits (s : State) (a v : Nat) : (setBusReg s a v).portWaits = s.portWaits := rfl
@[simp] theorem setBusReg_fieldXfers (s : State) (a v : Nat) : (setBusReg s a v).fieldXfers = s.fieldXfers := rfl
@[simp] theorem setBusReg_sets (s : State) (a v : Nat) : (setBusReg s a v).sets = s.sets := rfl
@[simp] theorem setBusReg_undo (s : State) (a v : Nat) : (setBusReg s a v).undo = s.undo := rfl
@[simp] theorem setBusReg_keptHost (s : State) (a v : Nat) : (setBusReg s a v).keptHost = s.keptHost := rfl
@[simp] theorem setBusReg_mem (s : State) (a v : Nat) : (setBusReg s a v).mem = s.mem := rfl
@[simp] theorem setBusReg_streams (s : State) (a v : Nat) : (setBusReg s a v).streams = s.streams := rfl
@[simp] theorem setBusReg_trig (s : State) (a v : Nat) : (setBusReg s a v).trig = s.trig := rfl
@[simp] theorem setBusReg_flags (s : State) (a v : Nat) : (setBusReg s a v).flags = s.flags := rfl
@[simp] theorem setBusReg_graphs (s : State) (a v : Nat) : (setBusReg s a v).graphs = s.graphs := rfl
@[simp] theorem setBusReg_runOrder (s : State) (a v : Nat) : (setBusReg s a v).runOrder = s.runOrder := rfl
@[simp] theorem setBusReg_engines (s : State) (a v : Nat) : (setBusReg s a v).engines = s.engines := rfl
@[simp] theorem setBusReg_gal (s : State) (a v : Nat) : (setBusReg s a v).gal = s.gal := rfl
@[simp] theorem setBusReg_kv (s : State) (a v : Nat) : (setBusReg s a v).kv = s.kv := rfl
@[simp] theorem setBusReg_lan (s : State) (a v : Nat) : (setBusReg s a v).lan = s.lan := rfl
@[simp] theorem setBusReg_comp (s : State) (a v : Nat) : (setBusReg s a v).comp = s.comp := rfl
@[simp] theorem setBusReg_axes (s : State) (a v : Nat) : (setBusReg s a v).axes = s.axes := rfl
@[simp] theorem setBusReg_ctl (s : State) (a v : Nat) : (setBusReg s a v).ctl = s.ctl := rfl
@[simp] theorem setBusReg_eng (s : State) (a v : Nat) : (setBusReg s a v).eng = s.eng := rfl
@[simp] theorem setBusReg_saf (s : State) (a v : Nat) : (setBusReg s a v).saf = s.saf := rfl
@[simp] theorem setBusReg_pwr (s : State) (a v : Nat) : (setBusReg s a v).pwr = s.pwr := rfl
@[simp] theorem setBusReg_hostInts (s : State) (a v : Nat) : (setBusReg s a v).hostInts = s.hostInts := rfl
@[simp] theorem setBusReg_freeCtr (s : State) (a v : Nat) : (setBusReg s a v).freeCtr = s.freeCtr := rfl
@[simp] theorem setBusReg_pending (s : State) (a v : Nat) : (setBusReg s a v).pending = s.pending := rfl

/-! ### `hostIrq` -/

@[simp] theorem hostIrq_fboot (s : State) (k : Nat) : (hostIrq s k).fboot = s.fboot := hostIrq_only s k .fboot (by decide)
@[simp] theorem hostIrq_hboot (s : State) (k : Nat) : (hostIrq s k).hboot = s.hboot := hostIrq_only s k .hboot (by decide)
@[simp] theorem hostIrq_hBoot (s : State) (k : Nat) : (hostIrq s k).hBoot = s.hBoot := hostIrq_only s k .hBoot (by decide)
@[simp] theorem hostIrq_gradeI (s : State) (k : Nat) : (hostIrq s k).gradeI = s.gradeI := hostIrq_only s k .gradeI (by decide)
@[simp] theorem hostIrq_pins (s : State) (k : Nat) : (hostIrq s k).pins = s.pins := hostIrq_only s k .pins (by decide)
@[simp] theorem hostIrq_pulses (s : State) (k : Nat) : (hostIrq s k).pulses = s.pulses := hostIrq_only s k .pulses (by decide)
@[simp] theorem hostIrq_fobj (s : State) (k : Nat) : (hostIrq s k).fobj = s.fobj := hostIrq_only s k .fobj (by decide)
@[simp] theorem hostIrq_hobj (s : State) (k : Nat) : (hostIrq s k).hobj = s.hobj := hostIrq_only s k .hobj (by decide)
@[simp] theorem hostIrq_fsaved (s : State) (k : Nat) : (hostIrq s k).fsaved = s.fsaved := hostIrq_only s k .fsaved (by decide)
@[simp] theorem hostIrq_hsaved (s : State) (k : Nat) : (hostIrq s k).hsaved = s.hsaved := hostIrq_only s k .hsaved (by decide)
@[simp] theorem hostIrq_regs (s : State) (k : Nat) : (hostIrq s k).regs = s.regs := hostIrq_only s k .regs (by decide)
@[simp] theorem hostIrq_pos (s : State) (k : Nat) : (hostIrq s k).pos = s.pos := hostIrq_only s k .pos (by decide)
@[simp] theorem hostIrq_fEntries (s : State) (k : Nat) : (hostIrq s k).fEntries = s.fEntries := hostIrq_only s k .fEntries (by decide)
@[simp] theorem hostIrq_hMaster (s : State) (k : Nat) : (hostIrq s k).hMaster = s.hMaster := hostIrq_only s k .hMaster (by decide)
@[simp] theorem hostIrq_hostPush (s : State) (k : Nat) : (hostIrq s k).hostPush = s.hostPush := hostIrq_only s k .hostPush (by decide)
@[simp] theorem hostIrq_tEntries (s : State) (k : Nat) : (hostIrq s k).tEntries = s.tEntries := hostIrq_only s k .tEntries (by decide)
@[simp] theorem hostIrq_replica (s : State) (k : Nat) : (hostIrq s k).replica = s.replica := hostIrq_only s k .replica (by decide)
@[simp] theorem hostIrq_fclk (s : State) (k : Nat) : (hostIrq s k).fclk = s.fclk := hostIrq_only s k .fclk (by decide)
@[simp] theorem hostIrq_hclk (s : State) (k : Nat) : (hostIrq s k).hclk = s.hclk := hostIrq_only s k .hclk (by decide)
@[simp] theorem hostIrq_trep (s : State) (k : Nat) : (hostIrq s k).trep = s.trep := hostIrq_only s k .trep (by decide)
@[simp] theorem hostIrq_pairs (s : State) (k : Nat) : (hostIrq s k).pairs = s.pairs := hostIrq_only s k .pairs (by decide)
@[simp] theorem hostIrq_sync (s : State) (k : Nat) : (hostIrq s k).sync = s.sync := hostIrq_only s k .sync (by decide)
@[simp] theorem hostIrq_fend (s : State) (k : Nat) : (hostIrq s k).fend = s.fend := hostIrq_only s k .fend (by decide)
@[simp] theorem hostIrq_hend (s : State) (k : Nat) : (hostIrq s k).hend = s.hend := hostIrq_only s k .hend (by decide)
@[simp] theorem hostIrq_link (s : State) (k : Nat) : (hostIrq s k).link = s.link := hostIrq_only s k .link (by decide)
@[simp] theorem hostIrq_hostSlots (s : State) (k : Nat) : (hostIrq s k).hostSlots = s.hostSlots := hostIrq_only s k .hostSlots (by decide)
@[simp] theorem hostIrq_fwdValue (s : State) (k : Nat) : (hostIrq s k).fwdValue = s.fwdValue := hostIrq_only s k .fwdValue (by decide)
@[simp] theorem hostIrq_portXfer (s : State) (k : Nat) : (hostIrq s k).portXfer = s.portXfer := hostIrq_only s k .portXfer (by decide)
@[simp] theorem hostIrq_portWaits (s : State) (k : Nat) : (hostIrq s k).portWaits = s.portWaits := hostIrq_only s k .portWaits (by decide)
@[simp] theorem hostIrq_fieldXfers (s : State) (k : Nat) : (hostIrq s k).fieldXfers = s.fieldXfers := hostIrq_only s k .fieldXfers (by decide)
@[simp] theorem hostIrq_sets (s : State) (k : Nat) : (hostIrq s k).sets = s.sets := hostIrq_only s k .sets (by decide)
@[simp] theorem hostIrq_undo (s : State) (k : Nat) : (hostIrq s k).undo = s.undo := hostIrq_only s k .undo (by decide)
@[simp] theorem hostIrq_keptHost (s : State) (k : Nat) : (hostIrq s k).keptHost = s.keptHost := hostIrq_only s k .keptHost (by decide)
@[simp] theorem hostIrq_bus (s : State) (k : Nat) : (hostIrq s k).bus = s.bus := hostIrq_only s k .bus (by decide)
@[simp] theorem hostIrq_streams (s : State) (k : Nat) : (hostIrq s k).streams = s.streams := hostIrq_only s k .streams (by decide)
@[simp] theorem hostIrq_trig (s : State) (k : Nat) : (hostIrq s k).trig = s.trig := hostIrq_only s k .trig (by decide)
@[simp] theorem hostIrq_flags (s : State) (k : Nat) : (hostIrq s k).flags = s.flags := hostIrq_only s k .flags (by decide)
@[simp] theorem hostIrq_graphs (s : State) (k : Nat) : (hostIrq s k).graphs = s.graphs := hostIrq_only s k .graphs (by decide)
@[simp] theorem hostIrq_runOrder (s : State) (k : Nat) : (hostIrq s k).runOrder = s.runOrder := hostIrq_only s k .runOrder (by decide)
@[simp] theorem hostIrq_engines (s : State) (k : Nat) : (hostIrq s k).engines = s.engines := hostIrq_only s k .engines (by decide)
@[simp] theorem hostIrq_gal (s : State) (k : Nat) : (hostIrq s k).gal = s.gal := hostIrq_only s k .gal (by decide)
@[simp] theorem hostIrq_kv (s : State) (k : Nat) : (hostIrq s k).kv = s.kv := hostIrq_only s k .kv (by decide)
@[simp] theorem hostIrq_lan (s : State) (k : Nat) : (hostIrq s k).lan = s.lan := hostIrq_only s k .lan (by decide)
@[simp] theorem hostIrq_comp (s : State) (k : Nat) : (hostIrq s k).comp = s.comp := hostIrq_only s k .comp (by decide)
@[simp] theorem hostIrq_axes (s : State) (k : Nat) : (hostIrq s k).axes = s.axes := hostIrq_only s k .axes (by decide)
@[simp] theorem hostIrq_ctl (s : State) (k : Nat) : (hostIrq s k).ctl = s.ctl := hostIrq_only s k .ctl (by decide)
@[simp] theorem hostIrq_eng (s : State) (k : Nat) : (hostIrq s k).eng = s.eng := hostIrq_only s k .eng (by decide)
@[simp] theorem hostIrq_saf (s : State) (k : Nat) : (hostIrq s k).saf = s.saf := hostIrq_only s k .saf (by decide)
@[simp] theorem hostIrq_pwr (s : State) (k : Nat) : (hostIrq s k).pwr = s.pwr := hostIrq_only s k .pwr (by decide)
@[simp] theorem hostIrq_freeCtr (s : State) (k : Nat) : (hostIrq s k).freeCtr = s.freeCtr := hostIrq_only s k .freeCtr (by decide)
@[simp] theorem hostIrq_pending (s : State) (k : Nat) : (hostIrq s k).pending = s.pending := hostIrq_only s k .pending (by decide)

/-! ### `drawn` -/

@[simp] theorem drawn_fboot (s : State) : (drawn s).fboot = s.fboot := rfl
@[simp] theorem drawn_hboot (s : State) : (drawn s).hboot = s.hboot := rfl
@[simp] theorem drawn_hBoot (s : State) : (drawn s).hBoot = s.hBoot := rfl
@[simp] theorem drawn_gradeI (s : State) : (drawn s).gradeI = s.gradeI := rfl
@[simp] theorem drawn_pins (s : State) : (drawn s).pins = s.pins := rfl
@[simp] theorem drawn_pulses (s : State) : (drawn s).pulses = s.pulses := rfl
@[simp] theorem drawn_fobj (s : State) : (drawn s).fobj = s.fobj := rfl
@[simp] theorem drawn_hobj (s : State) : (drawn s).hobj = s.hobj := rfl
@[simp] theorem drawn_fsaved (s : State) : (drawn s).fsaved = s.fsaved := rfl
@[simp] theorem drawn_hsaved (s : State) : (drawn s).hsaved = s.hsaved := rfl
@[simp] theorem drawn_regs (s : State) : (drawn s).regs = s.regs := rfl
@[simp] theorem drawn_pos (s : State) : (drawn s).pos = s.pos := rfl
@[simp] theorem drawn_fEntries (s : State) : (drawn s).fEntries = s.fEntries := rfl
@[simp] theorem drawn_hMaster (s : State) : (drawn s).hMaster = s.hMaster := rfl
@[simp] theorem drawn_hostPush (s : State) : (drawn s).hostPush = s.hostPush := rfl
@[simp] theorem drawn_tEntries (s : State) : (drawn s).tEntries = s.tEntries := rfl
@[simp] theorem drawn_replica (s : State) : (drawn s).replica = s.replica := rfl
@[simp] theorem drawn_fclk (s : State) : (drawn s).fclk = s.fclk := rfl
@[simp] theorem drawn_hclk (s : State) : (drawn s).hclk = s.hclk := rfl
@[simp] theorem drawn_trep (s : State) : (drawn s).trep = s.trep := rfl
@[simp] theorem drawn_pairs (s : State) : (drawn s).pairs = s.pairs := rfl
@[simp] theorem drawn_sync (s : State) : (drawn s).sync = s.sync := rfl
@[simp] theorem drawn_fend (s : State) : (drawn s).fend = s.fend := rfl
@[simp] theorem drawn_hend (s : State) : (drawn s).hend = s.hend := rfl
@[simp] theorem drawn_link (s : State) : (drawn s).link = s.link := rfl
@[simp] theorem drawn_hostSlots (s : State) : (drawn s).hostSlots = s.hostSlots := rfl
@[simp] theorem drawn_fwdValue (s : State) : (drawn s).fwdValue = s.fwdValue := rfl
@[simp] theorem drawn_portXfer (s : State) : (drawn s).portXfer = s.portXfer := rfl
@[simp] theorem drawn_portWaits (s : State) : (drawn s).portWaits = s.portWaits := rfl
@[simp] theorem drawn_fieldXfers (s : State) : (drawn s).fieldXfers = s.fieldXfers := rfl
@[simp] theorem drawn_sets (s : State) : (drawn s).sets = s.sets := rfl
@[simp] theorem drawn_undo (s : State) : (drawn s).undo = s.undo := rfl
@[simp] theorem drawn_keptHost (s : State) : (drawn s).keptHost = s.keptHost := rfl
@[simp] theorem drawn_bus (s : State) : (drawn s).bus = s.bus := rfl
@[simp] theorem drawn_mem (s : State) : (drawn s).mem = s.mem := rfl
@[simp] theorem drawn_streams (s : State) : (drawn s).streams = s.streams := rfl
@[simp] theorem drawn_trig (s : State) : (drawn s).trig = s.trig := rfl
@[simp] theorem drawn_flags (s : State) : (drawn s).flags = s.flags := rfl
@[simp] theorem drawn_graphs (s : State) : (drawn s).graphs = s.graphs := rfl
@[simp] theorem drawn_runOrder (s : State) : (drawn s).runOrder = s.runOrder := rfl
@[simp] theorem drawn_engines (s : State) : (drawn s).engines = s.engines := rfl
@[simp] theorem drawn_gal (s : State) : (drawn s).gal = s.gal := rfl
@[simp] theorem drawn_kv (s : State) : (drawn s).kv = s.kv := rfl
@[simp] theorem drawn_lan (s : State) : (drawn s).lan = s.lan := rfl
@[simp] theorem drawn_comp (s : State) : (drawn s).comp = s.comp := rfl
@[simp] theorem drawn_axes (s : State) : (drawn s).axes = s.axes := rfl
@[simp] theorem drawn_ctl (s : State) : (drawn s).ctl = s.ctl := rfl
@[simp] theorem drawn_eng (s : State) : (drawn s).eng = s.eng := rfl
@[simp] theorem drawn_saf (s : State) : (drawn s).saf = s.saf := rfl
@[simp] theorem drawn_pwr (s : State) : (drawn s).pwr = s.pwr := rfl
@[simp] theorem drawn_hostInts (s : State) : (drawn s).hostInts = s.hostInts := rfl
@[simp] theorem drawn_pending (s : State) : (drawn s).pending = s.pending := rfl

/-! ### `drive` -/

@[simp] theorem drive_fboot (s : State) (p : OutPin) (h : Bool) : (drive s p h).fboot = s.fboot := rfl
@[simp] theorem drive_hboot (s : State) (p : OutPin) (h : Bool) : (drive s p h).hboot = s.hboot := rfl
@[simp] theorem drive_hBoot (s : State) (p : OutPin) (h : Bool) : (drive s p h).hBoot = s.hBoot := rfl
@[simp] theorem drive_gradeI (s : State) (p : OutPin) (h : Bool) : (drive s p h).gradeI = s.gradeI := rfl
@[simp] theorem drive_pulses (s : State) (p : OutPin) (h : Bool) : (drive s p h).pulses = s.pulses := rfl
@[simp] theorem drive_fobj (s : State) (p : OutPin) (h : Bool) : (drive s p h).fobj = s.fobj := rfl
@[simp] theorem drive_hobj (s : State) (p : OutPin) (h : Bool) : (drive s p h).hobj = s.hobj := rfl
@[simp] theorem drive_fsaved (s : State) (p : OutPin) (h : Bool) : (drive s p h).fsaved = s.fsaved := rfl
@[simp] theorem drive_hsaved (s : State) (p : OutPin) (h : Bool) : (drive s p h).hsaved = s.hsaved := rfl
@[simp] theorem drive_regs (s : State) (p : OutPin) (h : Bool) : (drive s p h).regs = s.regs := rfl
@[simp] theorem drive_pos (s : State) (p : OutPin) (h : Bool) : (drive s p h).pos = s.pos := rfl
@[simp] theorem drive_fEntries (s : State) (p : OutPin) (h : Bool) : (drive s p h).fEntries = s.fEntries := rfl
@[simp] theorem drive_hMaster (s : State) (p : OutPin) (h : Bool) : (drive s p h).hMaster = s.hMaster := rfl
@[simp] theorem drive_hostPush (s : State) (p : OutPin) (h : Bool) : (drive s p h).hostPush = s.hostPush := rfl
@[simp] theorem drive_tEntries (s : State) (p : OutPin) (h : Bool) : (drive s p h).tEntries = s.tEntries := rfl
@[simp] theorem drive_replica (s : State) (p : OutPin) (h : Bool) : (drive s p h).replica = s.replica := rfl
@[simp] theorem drive_fclk (s : State) (p : OutPin) (h : Bool) : (drive s p h).fclk = s.fclk := rfl
@[simp] theorem drive_hclk (s : State) (p : OutPin) (h : Bool) : (drive s p h).hclk = s.hclk := rfl
@[simp] theorem drive_trep (s : State) (p : OutPin) (h : Bool) : (drive s p h).trep = s.trep := rfl
@[simp] theorem drive_pairs (s : State) (p : OutPin) (h : Bool) : (drive s p h).pairs = s.pairs := rfl
@[simp] theorem drive_sync (s : State) (p : OutPin) (h : Bool) : (drive s p h).sync = s.sync := rfl
@[simp] theorem drive_fend (s : State) (p : OutPin) (h : Bool) : (drive s p h).fend = s.fend := rfl
@[simp] theorem drive_hend (s : State) (p : OutPin) (h : Bool) : (drive s p h).hend = s.hend := rfl
@[simp] theorem drive_link (s : State) (p : OutPin) (h : Bool) : (drive s p h).link = s.link := rfl
@[simp] theorem drive_hostSlots (s : State) (p : OutPin) (h : Bool) : (drive s p h).hostSlots = s.hostSlots := rfl
@[simp] theorem drive_fwdValue (s : State) (p : OutPin) (h : Bool) : (drive s p h).fwdValue = s.fwdValue := rfl
@[simp] theorem drive_portXfer (s : State) (p : OutPin) (h : Bool) : (drive s p h).portXfer = s.portXfer := rfl
@[simp] theorem drive_portWaits (s : State) (p : OutPin) (h : Bool) : (drive s p h).portWaits = s.portWaits := rfl
@[simp] theorem drive_fieldXfers (s : State) (p : OutPin) (h : Bool) : (drive s p h).fieldXfers = s.fieldXfers := rfl
@[simp] theorem drive_sets (s : State) (p : OutPin) (h : Bool) : (drive s p h).sets = s.sets := rfl
@[simp] theorem drive_undo (s : State) (p : OutPin) (h : Bool) : (drive s p h).undo = s.undo := rfl
@[simp] theorem drive_keptHost (s : State) (p : OutPin) (h : Bool) : (drive s p h).keptHost = s.keptHost := rfl
@[simp] theorem drive_bus (s : State) (p : OutPin) (h : Bool) : (drive s p h).bus = s.bus := rfl
@[simp] theorem drive_mem (s : State) (p : OutPin) (h : Bool) : (drive s p h).mem = s.mem := rfl
@[simp] theorem drive_streams (s : State) (p : OutPin) (h : Bool) : (drive s p h).streams = s.streams := rfl
@[simp] theorem drive_trig (s : State) (p : OutPin) (h : Bool) : (drive s p h).trig = s.trig := rfl
@[simp] theorem drive_flags (s : State) (p : OutPin) (h : Bool) : (drive s p h).flags = s.flags := rfl
@[simp] theorem drive_graphs (s : State) (p : OutPin) (h : Bool) : (drive s p h).graphs = s.graphs := rfl
@[simp] theorem drive_runOrder (s : State) (p : OutPin) (h : Bool) : (drive s p h).runOrder = s.runOrder := rfl
@[simp] theorem drive_engines (s : State) (p : OutPin) (h : Bool) : (drive s p h).engines = s.engines := rfl
@[simp] theorem drive_gal (s : State) (p : OutPin) (h : Bool) : (drive s p h).gal = s.gal := rfl
@[simp] theorem drive_kv (s : State) (p : OutPin) (h : Bool) : (drive s p h).kv = s.kv := rfl
@[simp] theorem drive_lan (s : State) (p : OutPin) (h : Bool) : (drive s p h).lan = s.lan := rfl
@[simp] theorem drive_comp (s : State) (p : OutPin) (h : Bool) : (drive s p h).comp = s.comp := rfl
@[simp] theorem drive_axes (s : State) (p : OutPin) (h : Bool) : (drive s p h).axes = s.axes := rfl
@[simp] theorem drive_ctl (s : State) (p : OutPin) (h : Bool) : (drive s p h).ctl = s.ctl := rfl
@[simp] theorem drive_eng (s : State) (p : OutPin) (h : Bool) : (drive s p h).eng = s.eng := rfl
@[simp] theorem drive_saf (s : State) (p : OutPin) (h : Bool) : (drive s p h).saf = s.saf := rfl
@[simp] theorem drive_pwr (s : State) (p : OutPin) (h : Bool) : (drive s p h).pwr = s.pwr := rfl
@[simp] theorem drive_hostInts (s : State) (p : OutPin) (h : Bool) : (drive s p h).hostInts = s.hostInts := rfl
@[simp] theorem drive_freeCtr (s : State) (p : OutPin) (h : Bool) : (drive s p h).freeCtr = s.freeCtr := rfl
@[simp] theorem drive_pending (s : State) (p : OutPin) (h : Bool) : (drive s p h).pending = s.pending := rfl

/-! ### Objects -/

@[simp] theorem putObj_fboot (s : State) (i k : Nat) (b : List Byte) : (putObj s i k b).fboot = s.fboot := by
  unfold putObj; split <;> rfl
@[simp] theorem putObj_hboot (s : State) (i k : Nat) (b : List Byte) : (putObj s i k b).hboot = s.hboot := by
  unfold putObj; split <;> rfl
@[simp] theorem putObj_hBoot (s : State) (i k : Nat) (b : List Byte) : (putObj s i k b).hBoot = s.hBoot := by
  unfold putObj; split <;> rfl
@[simp] theorem putObj_gradeI (s : State) (i k : Nat) (b : List Byte) : (putObj s i k b).gradeI = s.gradeI := by
  unfold putObj; split <;> rfl
@[simp] theorem putObj_pins (s : State) (i k : Nat) (b : List Byte) : (putObj s i k b).pins = s.pins := by
  unfold putObj; split <;> rfl
@[simp] theorem putObj_pulses (s : State) (i k : Nat) (b : List Byte) : (putObj s i k b).pulses = s.pulses := by
  unfold putObj; split <;> rfl
@[simp] theorem putObj_fsaved (s : State) (i k : Nat) (b : List Byte) : (putObj s i k b).fsaved = s.fsaved := by
  unfold putObj; split <;> rfl
@[simp] theorem putObj_hsaved (s : State) (i k : Nat) (b : List Byte) : (putObj s i k b).hsaved = s.hsaved := by
  unfold putObj; split <;> rfl
@[simp] theorem putObj_regs (s : State) (i k : Nat) (b : List Byte) : (putObj s i k b).regs = s.regs := by
  unfold putObj; split <;> rfl
@[simp] theorem putObj_pos (s : State) (i k : Nat) (b : List Byte) : (putObj s i k b).pos = s.pos := by
  unfold putObj; split <;> rfl
@[simp] theorem putObj_fEntries (s : State) (i k : Nat) (b : List Byte) : (putObj s i k b).fEntries = s.fEntries := by
  unfold putObj; split <;> rfl
@[simp] theorem putObj_hMaster (s : State) (i k : Nat) (b : List Byte) : (putObj s i k b).hMaster = s.hMaster := by
  unfold putObj; split <;> rfl
@[simp] theorem putObj_hostPush (s : State) (i k : Nat) (b : List Byte) : (putObj s i k b).hostPush = s.hostPush := by
  unfold putObj; split <;> rfl
@[simp] theorem putObj_tEntries (s : State) (i k : Nat) (b : List Byte) : (putObj s i k b).tEntries = s.tEntries := by
  unfold putObj; split <;> rfl
@[simp] theorem putObj_replica (s : State) (i k : Nat) (b : List Byte) : (putObj s i k b).replica = s.replica := by
  unfold putObj; split <;> rfl
@[simp] theorem putObj_fclk (s : State) (i k : Nat) (b : List Byte) : (putObj s i k b).fclk = s.fclk := by
  unfold putObj; split <;> rfl
@[simp] theorem putObj_hclk (s : State) (i k : Nat) (b : List Byte) : (putObj s i k b).hclk = s.hclk := by
  unfold putObj; split <;> rfl
@[simp] theorem putObj_trep (s : State) (i k : Nat) (b : List Byte) : (putObj s i k b).trep = s.trep := by
  unfold putObj; split <;> rfl
@[simp] theorem putObj_pairs (s : State) (i k : Nat) (b : List Byte) : (putObj s i k b).pairs = s.pairs := by
  unfold putObj; split <;> rfl
@[simp] theorem putObj_sync (s : State) (i k : Nat) (b : List Byte) : (putObj s i k b).sync = s.sync := by
  unfold putObj; split <;> rfl
@[simp] theorem putObj_fend (s : State) (i k : Nat) (b : List Byte) : (putObj s i k b).fend = s.fend := by
  unfold putObj; split <;> rfl
@[simp] theorem putObj_hend (s : State) (i k : Nat) (b : List Byte) : (putObj s i k b).hend = s.hend := by
  unfold putObj; split <;> rfl
@[simp] theorem putObj_link (s : State) (i k : Nat) (b : List Byte) : (putObj s i k b).link = s.link := by
  unfold putObj; split <;> rfl
@[simp] theorem putObj_hostSlots (s : State) (i k : Nat) (b : List Byte) : (putObj s i k b).hostSlots = s.hostSlots := by
  unfold putObj; split <;> rfl
@[simp] theorem putObj_fwdValue (s : State) (i k : Nat) (b : List Byte) : (putObj s i k b).fwdValue = s.fwdValue := by
  unfold putObj; split <;> rfl
@[simp] theorem putObj_portXfer (s : State) (i k : Nat) (b : List Byte) : (putObj s i k b).portXfer = s.portXfer := by
  unfold putObj; split <;> rfl
@[simp] theorem putObj_portWaits (s : State) (i k : Nat) (b : List Byte) : (putObj s i k b).portWaits = s.portWaits := by
  unfold putObj; split <;> rfl
@[simp] theorem putObj_fieldXfers (s : State) (i k : Nat) (b : List Byte) : (putObj s i k b).fieldXfers = s.fieldXfers := by
  unfold putObj; split <;> rfl
@[simp] theorem putObj_sets (s : State) (i k : Nat) (b : List Byte) : (putObj s i k b).sets = s.sets := by
  unfold putObj; split <;> rfl
@[simp] theorem putObj_undo (s : State) (i k : Nat) (b : List Byte) : (putObj s i k b).undo = s.undo := by
  unfold putObj; split <;> rfl
@[simp] theorem putObj_keptHost (s : State) (i k : Nat) (b : List Byte) : (putObj s i k b).keptHost = s.keptHost := by
  unfold putObj; split <;> rfl
@[simp] theorem putObj_bus (s : State) (i k : Nat) (b : List Byte) : (putObj s i k b).bus = s.bus := by
  unfold putObj; split <;> rfl
@[simp] theorem putObj_mem (s : State) (i k : Nat) (b : List Byte) : (putObj s i k b).mem = s.mem := by
  unfold putObj; split <;> rfl
@[simp] theorem putObj_streams (s : State) (i k : Nat) (b : List Byte) : (putObj s i k b).streams = s.streams := by
  unfold putObj; split <;> rfl
@[simp] theorem putObj_trig (s : State) (i k : Nat) (b : List Byte) : (putObj s i k b).trig = s.trig := by
  unfold putObj; split <;> rfl
@[simp] theorem putObj_flags (s : State) (i k : Nat) (b : List Byte) : (putObj s i k b).flags = s.flags := by
  unfold putObj; split <;> rfl
@[simp] theorem putObj_graphs (s : State) (i k : Nat) (b : List Byte) : (putObj s i k b).graphs = s.graphs := by
  unfold putObj; split <;> rfl
@[simp] theorem putObj_runOrder (s : State) (i k : Nat) (b : List Byte) : (putObj s i k b).runOrder = s.runOrder := by
  unfold putObj; split <;> rfl
@[simp] theorem putObj_engines (s : State) (i k : Nat) (b : List Byte) : (putObj s i k b).engines = s.engines := by
  unfold putObj; split <;> rfl
@[simp] theorem putObj_gal (s : State) (i k : Nat) (b : List Byte) : (putObj s i k b).gal = s.gal := by
  unfold putObj; split <;> rfl
@[simp] theorem putObj_kv (s : State) (i k : Nat) (b : List Byte) : (putObj s i k b).kv = s.kv := by
  unfold putObj; split <;> rfl
@[simp] theorem putObj_lan (s : State) (i k : Nat) (b : List Byte) : (putObj s i k b).lan = s.lan := by
  unfold putObj; split <;> rfl
@[simp] theorem putObj_comp (s : State) (i k : Nat) (b : List Byte) : (putObj s i k b).comp = s.comp := by
  unfold putObj; split <;> rfl
@[simp] theorem putObj_axes (s : State) (i k : Nat) (b : List Byte) : (putObj s i k b).axes = s.axes := by
  unfold putObj; split <;> rfl
@[simp] theorem putObj_ctl (s : State) (i k : Nat) (b : List Byte) : (putObj s i k b).ctl = s.ctl := by
  unfold putObj; split <;> rfl
@[simp] theorem putObj_eng (s : State) (i k : Nat) (b : List Byte) : (putObj s i k b).eng = s.eng := by
  unfold putObj; split <;> rfl
@[simp] theorem putObj_saf (s : State) (i k : Nat) (b : List Byte) : (putObj s i k b).saf = s.saf := by
  unfold putObj; split <;> rfl
@[simp] theorem putObj_pwr (s : State) (i k : Nat) (b : List Byte) : (putObj s i k b).pwr = s.pwr := by
  unfold putObj; split <;> rfl
@[simp] theorem putObj_hostInts (s : State) (i k : Nat) (b : List Byte) : (putObj s i k b).hostInts = s.hostInts := by
  unfold putObj; split <;> rfl
@[simp] theorem putObj_freeCtr (s : State) (i k : Nat) (b : List Byte) : (putObj s i k b).freeCtr = s.freeCtr := by
  unfold putObj; split <;> rfl
@[simp] theorem putObj_pending (s : State) (i k : Nat) (b : List Byte) : (putObj s i k b).pending = s.pending := by
  unfold putObj; split <;> rfl

@[simp] theorem putN_fboot (s : State) (i k v : Nat) : (putN s i k v).fboot = s.fboot := putObj_fboot ..
@[simp] theorem putN_hboot (s : State) (i k v : Nat) : (putN s i k v).hboot = s.hboot := putObj_hboot ..
@[simp] theorem putN_hBoot (s : State) (i k v : Nat) : (putN s i k v).hBoot = s.hBoot := putObj_hBoot ..
@[simp] theorem putN_gradeI (s : State) (i k v : Nat) : (putN s i k v).gradeI = s.gradeI := putObj_gradeI ..
@[simp] theorem putN_pins (s : State) (i k v : Nat) : (putN s i k v).pins = s.pins := putObj_pins ..
@[simp] theorem putN_pulses (s : State) (i k v : Nat) : (putN s i k v).pulses = s.pulses := putObj_pulses ..
@[simp] theorem putN_fsaved (s : State) (i k v : Nat) : (putN s i k v).fsaved = s.fsaved := putObj_fsaved ..
@[simp] theorem putN_hsaved (s : State) (i k v : Nat) : (putN s i k v).hsaved = s.hsaved := putObj_hsaved ..
@[simp] theorem putN_regs (s : State) (i k v : Nat) : (putN s i k v).regs = s.regs := putObj_regs ..
@[simp] theorem putN_pos (s : State) (i k v : Nat) : (putN s i k v).pos = s.pos := putObj_pos ..
@[simp] theorem putN_fEntries (s : State) (i k v : Nat) : (putN s i k v).fEntries = s.fEntries := putObj_fEntries ..
@[simp] theorem putN_hMaster (s : State) (i k v : Nat) : (putN s i k v).hMaster = s.hMaster := putObj_hMaster ..
@[simp] theorem putN_hostPush (s : State) (i k v : Nat) : (putN s i k v).hostPush = s.hostPush := putObj_hostPush ..
@[simp] theorem putN_tEntries (s : State) (i k v : Nat) : (putN s i k v).tEntries = s.tEntries := putObj_tEntries ..
@[simp] theorem putN_replica (s : State) (i k v : Nat) : (putN s i k v).replica = s.replica := putObj_replica ..
@[simp] theorem putN_fclk (s : State) (i k v : Nat) : (putN s i k v).fclk = s.fclk := putObj_fclk ..
@[simp] theorem putN_hclk (s : State) (i k v : Nat) : (putN s i k v).hclk = s.hclk := putObj_hclk ..
@[simp] theorem putN_trep (s : State) (i k v : Nat) : (putN s i k v).trep = s.trep := putObj_trep ..
@[simp] theorem putN_pairs (s : State) (i k v : Nat) : (putN s i k v).pairs = s.pairs := putObj_pairs ..
@[simp] theorem putN_sync (s : State) (i k v : Nat) : (putN s i k v).sync = s.sync := putObj_sync ..
@[simp] theorem putN_fend (s : State) (i k v : Nat) : (putN s i k v).fend = s.fend := putObj_fend ..
@[simp] theorem putN_hend (s : State) (i k v : Nat) : (putN s i k v).hend = s.hend := putObj_hend ..
@[simp] theorem putN_link (s : State) (i k v : Nat) : (putN s i k v).link = s.link := putObj_link ..
@[simp] theorem putN_hostSlots (s : State) (i k v : Nat) : (putN s i k v).hostSlots = s.hostSlots := putObj_hostSlots ..
@[simp] theorem putN_fwdValue (s : State) (i k v : Nat) : (putN s i k v).fwdValue = s.fwdValue := putObj_fwdValue ..
@[simp] theorem putN_portXfer (s : State) (i k v : Nat) : (putN s i k v).portXfer = s.portXfer := putObj_portXfer ..
@[simp] theorem putN_portWaits (s : State) (i k v : Nat) : (putN s i k v).portWaits = s.portWaits := putObj_portWaits ..
@[simp] theorem putN_fieldXfers (s : State) (i k v : Nat) : (putN s i k v).fieldXfers = s.fieldXfers := putObj_fieldXfers ..
@[simp] theorem putN_sets (s : State) (i k v : Nat) : (putN s i k v).sets = s.sets := putObj_sets ..
@[simp] theorem putN_undo (s : State) (i k v : Nat) : (putN s i k v).undo = s.undo := putObj_undo ..
@[simp] theorem putN_keptHost (s : State) (i k v : Nat) : (putN s i k v).keptHost = s.keptHost := putObj_keptHost ..
@[simp] theorem putN_bus (s : State) (i k v : Nat) : (putN s i k v).bus = s.bus := putObj_bus ..
@[simp] theorem putN_mem (s : State) (i k v : Nat) : (putN s i k v).mem = s.mem := putObj_mem ..
@[simp] theorem putN_streams (s : State) (i k v : Nat) : (putN s i k v).streams = s.streams := putObj_streams ..
@[simp] theorem putN_trig (s : State) (i k v : Nat) : (putN s i k v).trig = s.trig := putObj_trig ..
@[simp] theorem putN_flags (s : State) (i k v : Nat) : (putN s i k v).flags = s.flags := putObj_flags ..
@[simp] theorem putN_graphs (s : State) (i k v : Nat) : (putN s i k v).graphs = s.graphs := putObj_graphs ..
@[simp] theorem putN_runOrder (s : State) (i k v : Nat) : (putN s i k v).runOrder = s.runOrder := putObj_runOrder ..
@[simp] theorem putN_engines (s : State) (i k v : Nat) : (putN s i k v).engines = s.engines := putObj_engines ..
@[simp] theorem putN_gal (s : State) (i k v : Nat) : (putN s i k v).gal = s.gal := putObj_gal ..
@[simp] theorem putN_kv (s : State) (i k v : Nat) : (putN s i k v).kv = s.kv := putObj_kv ..
@[simp] theorem putN_lan (s : State) (i k v : Nat) : (putN s i k v).lan = s.lan := putObj_lan ..
@[simp] theorem putN_comp (s : State) (i k v : Nat) : (putN s i k v).comp = s.comp := putObj_comp ..
@[simp] theorem putN_axes (s : State) (i k v : Nat) : (putN s i k v).axes = s.axes := putObj_axes ..
@[simp] theorem putN_ctl (s : State) (i k v : Nat) : (putN s i k v).ctl = s.ctl := putObj_ctl ..
@[simp] theorem putN_eng (s : State) (i k v : Nat) : (putN s i k v).eng = s.eng := putObj_eng ..
@[simp] theorem putN_saf (s : State) (i k v : Nat) : (putN s i k v).saf = s.saf := putObj_saf ..
@[simp] theorem putN_pwr (s : State) (i k v : Nat) : (putN s i k v).pwr = s.pwr := putObj_pwr ..
@[simp] theorem putN_hostInts (s : State) (i k v : Nat) : (putN s i k v).hostInts = s.hostInts := putObj_hostInts ..
@[simp] theorem putN_freeCtr (s : State) (i k v : Nat) : (putN s i k v).freeCtr = s.freeCtr := putObj_freeCtr ..
@[simp] theorem putN_pending (s : State) (i k v : Nat) : (putN s i k v).pending = s.pending := putObj_pending ..

@[simp] theorem putI_fboot (s : State) (i k : Nat) (v : Int) : (putI s i k v).fboot = s.fboot := putObj_fboot ..
@[simp] theorem putI_hboot (s : State) (i k : Nat) (v : Int) : (putI s i k v).hboot = s.hboot := putObj_hboot ..
@[simp] theorem putI_hBoot (s : State) (i k : Nat) (v : Int) : (putI s i k v).hBoot = s.hBoot := putObj_hBoot ..
@[simp] theorem putI_gradeI (s : State) (i k : Nat) (v : Int) : (putI s i k v).gradeI = s.gradeI := putObj_gradeI ..
@[simp] theorem putI_pins (s : State) (i k : Nat) (v : Int) : (putI s i k v).pins = s.pins := putObj_pins ..
@[simp] theorem putI_pulses (s : State) (i k : Nat) (v : Int) : (putI s i k v).pulses = s.pulses := putObj_pulses ..
@[simp] theorem putI_fsaved (s : State) (i k : Nat) (v : Int) : (putI s i k v).fsaved = s.fsaved := putObj_fsaved ..
@[simp] theorem putI_hsaved (s : State) (i k : Nat) (v : Int) : (putI s i k v).hsaved = s.hsaved := putObj_hsaved ..
@[simp] theorem putI_regs (s : State) (i k : Nat) (v : Int) : (putI s i k v).regs = s.regs := putObj_regs ..
@[simp] theorem putI_pos (s : State) (i k : Nat) (v : Int) : (putI s i k v).pos = s.pos := putObj_pos ..
@[simp] theorem putI_fEntries (s : State) (i k : Nat) (v : Int) : (putI s i k v).fEntries = s.fEntries := putObj_fEntries ..
@[simp] theorem putI_hMaster (s : State) (i k : Nat) (v : Int) : (putI s i k v).hMaster = s.hMaster := putObj_hMaster ..
@[simp] theorem putI_hostPush (s : State) (i k : Nat) (v : Int) : (putI s i k v).hostPush = s.hostPush := putObj_hostPush ..
@[simp] theorem putI_tEntries (s : State) (i k : Nat) (v : Int) : (putI s i k v).tEntries = s.tEntries := putObj_tEntries ..
@[simp] theorem putI_replica (s : State) (i k : Nat) (v : Int) : (putI s i k v).replica = s.replica := putObj_replica ..
@[simp] theorem putI_fclk (s : State) (i k : Nat) (v : Int) : (putI s i k v).fclk = s.fclk := putObj_fclk ..
@[simp] theorem putI_hclk (s : State) (i k : Nat) (v : Int) : (putI s i k v).hclk = s.hclk := putObj_hclk ..
@[simp] theorem putI_trep (s : State) (i k : Nat) (v : Int) : (putI s i k v).trep = s.trep := putObj_trep ..
@[simp] theorem putI_pairs (s : State) (i k : Nat) (v : Int) : (putI s i k v).pairs = s.pairs := putObj_pairs ..
@[simp] theorem putI_sync (s : State) (i k : Nat) (v : Int) : (putI s i k v).sync = s.sync := putObj_sync ..
@[simp] theorem putI_fend (s : State) (i k : Nat) (v : Int) : (putI s i k v).fend = s.fend := putObj_fend ..
@[simp] theorem putI_hend (s : State) (i k : Nat) (v : Int) : (putI s i k v).hend = s.hend := putObj_hend ..
@[simp] theorem putI_link (s : State) (i k : Nat) (v : Int) : (putI s i k v).link = s.link := putObj_link ..
@[simp] theorem putI_hostSlots (s : State) (i k : Nat) (v : Int) : (putI s i k v).hostSlots = s.hostSlots := putObj_hostSlots ..
@[simp] theorem putI_fwdValue (s : State) (i k : Nat) (v : Int) : (putI s i k v).fwdValue = s.fwdValue := putObj_fwdValue ..
@[simp] theorem putI_portXfer (s : State) (i k : Nat) (v : Int) : (putI s i k v).portXfer = s.portXfer := putObj_portXfer ..
@[simp] theorem putI_portWaits (s : State) (i k : Nat) (v : Int) : (putI s i k v).portWaits = s.portWaits := putObj_portWaits ..
@[simp] theorem putI_fieldXfers (s : State) (i k : Nat) (v : Int) : (putI s i k v).fieldXfers = s.fieldXfers := putObj_fieldXfers ..
@[simp] theorem putI_sets (s : State) (i k : Nat) (v : Int) : (putI s i k v).sets = s.sets := putObj_sets ..
@[simp] theorem putI_undo (s : State) (i k : Nat) (v : Int) : (putI s i k v).undo = s.undo := putObj_undo ..
@[simp] theorem putI_keptHost (s : State) (i k : Nat) (v : Int) : (putI s i k v).keptHost = s.keptHost := putObj_keptHost ..
@[simp] theorem putI_bus (s : State) (i k : Nat) (v : Int) : (putI s i k v).bus = s.bus := putObj_bus ..
@[simp] theorem putI_mem (s : State) (i k : Nat) (v : Int) : (putI s i k v).mem = s.mem := putObj_mem ..
@[simp] theorem putI_streams (s : State) (i k : Nat) (v : Int) : (putI s i k v).streams = s.streams := putObj_streams ..
@[simp] theorem putI_trig (s : State) (i k : Nat) (v : Int) : (putI s i k v).trig = s.trig := putObj_trig ..
@[simp] theorem putI_flags (s : State) (i k : Nat) (v : Int) : (putI s i k v).flags = s.flags := putObj_flags ..
@[simp] theorem putI_graphs (s : State) (i k : Nat) (v : Int) : (putI s i k v).graphs = s.graphs := putObj_graphs ..
@[simp] theorem putI_runOrder (s : State) (i k : Nat) (v : Int) : (putI s i k v).runOrder = s.runOrder := putObj_runOrder ..
@[simp] theorem putI_engines (s : State) (i k : Nat) (v : Int) : (putI s i k v).engines = s.engines := putObj_engines ..
@[simp] theorem putI_gal (s : State) (i k : Nat) (v : Int) : (putI s i k v).gal = s.gal := putObj_gal ..
@[simp] theorem putI_kv (s : State) (i k : Nat) (v : Int) : (putI s i k v).kv = s.kv := putObj_kv ..
@[simp] theorem putI_lan (s : State) (i k : Nat) (v : Int) : (putI s i k v).lan = s.lan := putObj_lan ..
@[simp] theorem putI_comp (s : State) (i k : Nat) (v : Int) : (putI s i k v).comp = s.comp := putObj_comp ..
@[simp] theorem putI_axes (s : State) (i k : Nat) (v : Int) : (putI s i k v).axes = s.axes := putObj_axes ..
@[simp] theorem putI_ctl (s : State) (i k : Nat) (v : Int) : (putI s i k v).ctl = s.ctl := putObj_ctl ..
@[simp] theorem putI_eng (s : State) (i k : Nat) (v : Int) : (putI s i k v).eng = s.eng := putObj_eng ..
@[simp] theorem putI_saf (s : State) (i k : Nat) (v : Int) : (putI s i k v).saf = s.saf := putObj_saf ..
@[simp] theorem putI_pwr (s : State) (i k : Nat) (v : Int) : (putI s i k v).pwr = s.pwr := putObj_pwr ..
@[simp] theorem putI_hostInts (s : State) (i k : Nat) (v : Int) : (putI s i k v).hostInts = s.hostInts := putObj_hostInts ..
@[simp] theorem putI_freeCtr (s : State) (i k : Nat) (v : Int) : (putI s i k v).freeCtr = s.freeCtr := putObj_freeCtr ..
@[simp] theorem putI_pending (s : State) (i k : Nat) (v : Int) : (putI s i k v).pending = s.pending := putObj_pending ..

@[simp] theorem bump_fboot (s : State) (i k n : Nat) : (bump s i k n).fboot = s.fboot := putObj_fboot ..
@[simp] theorem bump_hboot (s : State) (i k n : Nat) : (bump s i k n).hboot = s.hboot := putObj_hboot ..
@[simp] theorem bump_hBoot (s : State) (i k n : Nat) : (bump s i k n).hBoot = s.hBoot := putObj_hBoot ..
@[simp] theorem bump_gradeI (s : State) (i k n : Nat) : (bump s i k n).gradeI = s.gradeI := putObj_gradeI ..
@[simp] theorem bump_pins (s : State) (i k n : Nat) : (bump s i k n).pins = s.pins := putObj_pins ..
@[simp] theorem bump_pulses (s : State) (i k n : Nat) : (bump s i k n).pulses = s.pulses := putObj_pulses ..
@[simp] theorem bump_fsaved (s : State) (i k n : Nat) : (bump s i k n).fsaved = s.fsaved := putObj_fsaved ..
@[simp] theorem bump_hsaved (s : State) (i k n : Nat) : (bump s i k n).hsaved = s.hsaved := putObj_hsaved ..
@[simp] theorem bump_regs (s : State) (i k n : Nat) : (bump s i k n).regs = s.regs := putObj_regs ..
@[simp] theorem bump_pos (s : State) (i k n : Nat) : (bump s i k n).pos = s.pos := putObj_pos ..
@[simp] theorem bump_fEntries (s : State) (i k n : Nat) : (bump s i k n).fEntries = s.fEntries := putObj_fEntries ..
@[simp] theorem bump_hMaster (s : State) (i k n : Nat) : (bump s i k n).hMaster = s.hMaster := putObj_hMaster ..
@[simp] theorem bump_hostPush (s : State) (i k n : Nat) : (bump s i k n).hostPush = s.hostPush := putObj_hostPush ..
@[simp] theorem bump_tEntries (s : State) (i k n : Nat) : (bump s i k n).tEntries = s.tEntries := putObj_tEntries ..
@[simp] theorem bump_replica (s : State) (i k n : Nat) : (bump s i k n).replica = s.replica := putObj_replica ..
@[simp] theorem bump_fclk (s : State) (i k n : Nat) : (bump s i k n).fclk = s.fclk := putObj_fclk ..
@[simp] theorem bump_hclk (s : State) (i k n : Nat) : (bump s i k n).hclk = s.hclk := putObj_hclk ..
@[simp] theorem bump_trep (s : State) (i k n : Nat) : (bump s i k n).trep = s.trep := putObj_trep ..
@[simp] theorem bump_pairs (s : State) (i k n : Nat) : (bump s i k n).pairs = s.pairs := putObj_pairs ..
@[simp] theorem bump_sync (s : State) (i k n : Nat) : (bump s i k n).sync = s.sync := putObj_sync ..
@[simp] theorem bump_fend (s : State) (i k n : Nat) : (bump s i k n).fend = s.fend := putObj_fend ..
@[simp] theorem bump_hend (s : State) (i k n : Nat) : (bump s i k n).hend = s.hend := putObj_hend ..
@[simp] theorem bump_link (s : State) (i k n : Nat) : (bump s i k n).link = s.link := putObj_link ..
@[simp] theorem bump_hostSlots (s : State) (i k n : Nat) : (bump s i k n).hostSlots = s.hostSlots := putObj_hostSlots ..
@[simp] theorem bump_fwdValue (s : State) (i k n : Nat) : (bump s i k n).fwdValue = s.fwdValue := putObj_fwdValue ..
@[simp] theorem bump_portXfer (s : State) (i k n : Nat) : (bump s i k n).portXfer = s.portXfer := putObj_portXfer ..
@[simp] theorem bump_portWaits (s : State) (i k n : Nat) : (bump s i k n).portWaits = s.portWaits := putObj_portWaits ..
@[simp] theorem bump_fieldXfers (s : State) (i k n : Nat) : (bump s i k n).fieldXfers = s.fieldXfers := putObj_fieldXfers ..
@[simp] theorem bump_sets (s : State) (i k n : Nat) : (bump s i k n).sets = s.sets := putObj_sets ..
@[simp] theorem bump_undo (s : State) (i k n : Nat) : (bump s i k n).undo = s.undo := putObj_undo ..
@[simp] theorem bump_keptHost (s : State) (i k n : Nat) : (bump s i k n).keptHost = s.keptHost := putObj_keptHost ..
@[simp] theorem bump_bus (s : State) (i k n : Nat) : (bump s i k n).bus = s.bus := putObj_bus ..
@[simp] theorem bump_mem (s : State) (i k n : Nat) : (bump s i k n).mem = s.mem := putObj_mem ..
@[simp] theorem bump_streams (s : State) (i k n : Nat) : (bump s i k n).streams = s.streams := putObj_streams ..
@[simp] theorem bump_trig (s : State) (i k n : Nat) : (bump s i k n).trig = s.trig := putObj_trig ..
@[simp] theorem bump_flags (s : State) (i k n : Nat) : (bump s i k n).flags = s.flags := putObj_flags ..
@[simp] theorem bump_graphs (s : State) (i k n : Nat) : (bump s i k n).graphs = s.graphs := putObj_graphs ..
@[simp] theorem bump_runOrder (s : State) (i k n : Nat) : (bump s i k n).runOrder = s.runOrder := putObj_runOrder ..
@[simp] theorem bump_engines (s : State) (i k n : Nat) : (bump s i k n).engines = s.engines := putObj_engines ..
@[simp] theorem bump_gal (s : State) (i k n : Nat) : (bump s i k n).gal = s.gal := putObj_gal ..
@[simp] theorem bump_kv (s : State) (i k n : Nat) : (bump s i k n).kv = s.kv := putObj_kv ..
@[simp] theorem bump_lan (s : State) (i k n : Nat) : (bump s i k n).lan = s.lan := putObj_lan ..
@[simp] theorem bump_comp (s : State) (i k n : Nat) : (bump s i k n).comp = s.comp := putObj_comp ..
@[simp] theorem bump_axes (s : State) (i k n : Nat) : (bump s i k n).axes = s.axes := putObj_axes ..
@[simp] theorem bump_ctl (s : State) (i k n : Nat) : (bump s i k n).ctl = s.ctl := putObj_ctl ..
@[simp] theorem bump_eng (s : State) (i k n : Nat) : (bump s i k n).eng = s.eng := putObj_eng ..
@[simp] theorem bump_saf (s : State) (i k n : Nat) : (bump s i k n).saf = s.saf := putObj_saf ..
@[simp] theorem bump_pwr (s : State) (i k n : Nat) : (bump s i k n).pwr = s.pwr := putObj_pwr ..
@[simp] theorem bump_hostInts (s : State) (i k n : Nat) : (bump s i k n).hostInts = s.hostInts := putObj_hostInts ..
@[simp] theorem bump_freeCtr (s : State) (i k n : Nat) : (bump s i k n).freeCtr = s.freeCtr := putObj_freeCtr ..
@[simp] theorem bump_pending (s : State) (i k n : Nat) : (bump s i k n).pending = s.pending := putObj_pending ..

/-! ### A Rope end -/

@[simp] theorem setEnd_fboot (s : State) (d : Die) (e : RopeEnd) : (setEnd s d e).fboot = s.fboot := by
  cases d <;> rfl
@[simp] theorem setEnd_hboot (s : State) (d : Die) (e : RopeEnd) : (setEnd s d e).hboot = s.hboot := by
  cases d <;> rfl
@[simp] theorem setEnd_hBoot (s : State) (d : Die) (e : RopeEnd) : (setEnd s d e).hBoot = s.hBoot := by
  cases d <;> rfl
@[simp] theorem setEnd_gradeI (s : State) (d : Die) (e : RopeEnd) : (setEnd s d e).gradeI = s.gradeI := by
  cases d <;> rfl
@[simp] theorem setEnd_pins (s : State) (d : Die) (e : RopeEnd) : (setEnd s d e).pins = s.pins := by
  cases d <;> rfl
@[simp] theorem setEnd_pulses (s : State) (d : Die) (e : RopeEnd) : (setEnd s d e).pulses = s.pulses := by
  cases d <;> rfl
@[simp] theorem setEnd_fobj (s : State) (d : Die) (e : RopeEnd) : (setEnd s d e).fobj = s.fobj := by
  cases d <;> rfl
@[simp] theorem setEnd_hobj (s : State) (d : Die) (e : RopeEnd) : (setEnd s d e).hobj = s.hobj := by
  cases d <;> rfl
@[simp] theorem setEnd_fsaved (s : State) (d : Die) (e : RopeEnd) : (setEnd s d e).fsaved = s.fsaved := by
  cases d <;> rfl
@[simp] theorem setEnd_hsaved (s : State) (d : Die) (e : RopeEnd) : (setEnd s d e).hsaved = s.hsaved := by
  cases d <;> rfl
@[simp] theorem setEnd_regs (s : State) (d : Die) (e : RopeEnd) : (setEnd s d e).regs = s.regs := by
  cases d <;> rfl
@[simp] theorem setEnd_pos (s : State) (d : Die) (e : RopeEnd) : (setEnd s d e).pos = s.pos := by
  cases d <;> rfl
@[simp] theorem setEnd_fEntries (s : State) (d : Die) (e : RopeEnd) : (setEnd s d e).fEntries = s.fEntries := by
  cases d <;> rfl
@[simp] theorem setEnd_hMaster (s : State) (d : Die) (e : RopeEnd) : (setEnd s d e).hMaster = s.hMaster := by
  cases d <;> rfl
@[simp] theorem setEnd_hostPush (s : State) (d : Die) (e : RopeEnd) : (setEnd s d e).hostPush = s.hostPush := by
  cases d <;> rfl
@[simp] theorem setEnd_tEntries (s : State) (d : Die) (e : RopeEnd) : (setEnd s d e).tEntries = s.tEntries := by
  cases d <;> rfl
@[simp] theorem setEnd_replica (s : State) (d : Die) (e : RopeEnd) : (setEnd s d e).replica = s.replica := by
  cases d <;> rfl
@[simp] theorem setEnd_fclk (s : State) (d : Die) (e : RopeEnd) : (setEnd s d e).fclk = s.fclk := by
  cases d <;> rfl
@[simp] theorem setEnd_hclk (s : State) (d : Die) (e : RopeEnd) : (setEnd s d e).hclk = s.hclk := by
  cases d <;> rfl
@[simp] theorem setEnd_trep (s : State) (d : Die) (e : RopeEnd) : (setEnd s d e).trep = s.trep := by
  cases d <;> rfl
@[simp] theorem setEnd_pairs (s : State) (d : Die) (e : RopeEnd) : (setEnd s d e).pairs = s.pairs := by
  cases d <;> rfl
@[simp] theorem setEnd_sync (s : State) (d : Die) (e : RopeEnd) : (setEnd s d e).sync = s.sync := by
  cases d <;> rfl
@[simp] theorem setEnd_link (s : State) (d : Die) (e : RopeEnd) : (setEnd s d e).link = s.link := by
  cases d <;> rfl
@[simp] theorem setEnd_hostSlots (s : State) (d : Die) (e : RopeEnd) : (setEnd s d e).hostSlots = s.hostSlots := by
  cases d <;> rfl
@[simp] theorem setEnd_fwdValue (s : State) (d : Die) (e : RopeEnd) : (setEnd s d e).fwdValue = s.fwdValue := by
  cases d <;> rfl
@[simp] theorem setEnd_portXfer (s : State) (d : Die) (e : RopeEnd) : (setEnd s d e).portXfer = s.portXfer := by
  cases d <;> rfl
@[simp] theorem setEnd_portWaits (s : State) (d : Die) (e : RopeEnd) : (setEnd s d e).portWaits = s.portWaits := by
  cases d <;> rfl
@[simp] theorem setEnd_fieldXfers (s : State) (d : Die) (e : RopeEnd) : (setEnd s d e).fieldXfers = s.fieldXfers := by
  cases d <;> rfl
@[simp] theorem setEnd_sets (s : State) (d : Die) (e : RopeEnd) : (setEnd s d e).sets = s.sets := by
  cases d <;> rfl
@[simp] theorem setEnd_undo (s : State) (d : Die) (e : RopeEnd) : (setEnd s d e).undo = s.undo := by
  cases d <;> rfl
@[simp] theorem setEnd_keptHost (s : State) (d : Die) (e : RopeEnd) : (setEnd s d e).keptHost = s.keptHost := by
  cases d <;> rfl
@[simp] theorem setEnd_bus (s : State) (d : Die) (e : RopeEnd) : (setEnd s d e).bus = s.bus := by
  cases d <;> rfl
@[simp] theorem setEnd_mem (s : State) (d : Die) (e : RopeEnd) : (setEnd s d e).mem = s.mem := by
  cases d <;> rfl
@[simp] theorem setEnd_streams (s : State) (d : Die) (e : RopeEnd) : (setEnd s d e).streams = s.streams := by
  cases d <;> rfl
@[simp] theorem setEnd_trig (s : State) (d : Die) (e : RopeEnd) : (setEnd s d e).trig = s.trig := by
  cases d <;> rfl
@[simp] theorem setEnd_flags (s : State) (d : Die) (e : RopeEnd) : (setEnd s d e).flags = s.flags := by
  cases d <;> rfl
@[simp] theorem setEnd_graphs (s : State) (d : Die) (e : RopeEnd) : (setEnd s d e).graphs = s.graphs := by
  cases d <;> rfl
@[simp] theorem setEnd_runOrder (s : State) (d : Die) (e : RopeEnd) : (setEnd s d e).runOrder = s.runOrder := by
  cases d <;> rfl
@[simp] theorem setEnd_engines (s : State) (d : Die) (e : RopeEnd) : (setEnd s d e).engines = s.engines := by
  cases d <;> rfl
@[simp] theorem setEnd_gal (s : State) (d : Die) (e : RopeEnd) : (setEnd s d e).gal = s.gal := by
  cases d <;> rfl
@[simp] theorem setEnd_kv (s : State) (d : Die) (e : RopeEnd) : (setEnd s d e).kv = s.kv := by
  cases d <;> rfl
@[simp] theorem setEnd_lan (s : State) (d : Die) (e : RopeEnd) : (setEnd s d e).lan = s.lan := by
  cases d <;> rfl
@[simp] theorem setEnd_comp (s : State) (d : Die) (e : RopeEnd) : (setEnd s d e).comp = s.comp := by
  cases d <;> rfl
@[simp] theorem setEnd_axes (s : State) (d : Die) (e : RopeEnd) : (setEnd s d e).axes = s.axes := by
  cases d <;> rfl
@[simp] theorem setEnd_ctl (s : State) (d : Die) (e : RopeEnd) : (setEnd s d e).ctl = s.ctl := by
  cases d <;> rfl
@[simp] theorem setEnd_eng (s : State) (d : Die) (e : RopeEnd) : (setEnd s d e).eng = s.eng := by
  cases d <;> rfl
@[simp] theorem setEnd_saf (s : State) (d : Die) (e : RopeEnd) : (setEnd s d e).saf = s.saf := by
  cases d <;> rfl
@[simp] theorem setEnd_pwr (s : State) (d : Die) (e : RopeEnd) : (setEnd s d e).pwr = s.pwr := by
  cases d <;> rfl
@[simp] theorem setEnd_hostInts (s : State) (d : Die) (e : RopeEnd) : (setEnd s d e).hostInts = s.hostInts := by
  cases d <;> rfl
@[simp] theorem setEnd_freeCtr (s : State) (d : Die) (e : RopeEnd) : (setEnd s d e).freeCtr = s.freeCtr := by
  cases d <;> rfl
@[simp] theorem setEnd_pending (s : State) (d : Die) (e : RopeEnd) : (setEnd s d e).pending = s.pending := by
  cases d <;> rfl

/-! ### Reading back -/

@[simp] theorem ax_setAx (s : State) (a : Nat) (m : Motion) : ax (setAx s a m) a = m := tget_tset_same ..

theorem ax_setAx_other (s : State) {a b : Nat} (m : Motion) (h : b ≠ a) : ax (setAx s a m) b = ax s b := tget_tset_other _ _ _ _ h

@[simp] theorem ce_setCe (s : State) (a : Nat) (c : AxisCtl) : ce (setCe s a c) a = c := tget_tset_same ..

theorem ce_setCe_other (s : State) {a b : Nat} (c : AxisCtl) (h : b ≠ a) : ce (setCe s a c) b = ce s b := tget_tset_other _ _ _ _ h

@[simp] theorem reg_setReg (s : State) (a v : Nat) : reg (setReg s a v) a = v := tget_tset_same ..

theorem reg_setReg_other (s : State) {a b : Nat} (v : Nat) (h : b ≠ a) : reg (setReg s a v) b = reg s b := tget_tset_other _ _ _ _ h

@[simp] theorem stg_setStg (s : State) (n : Nat) (x : StageSet) : stg (setStg s n x) n = x := tget_tset_same ..

@[simp] theorem stm_setStm (s : State) (n : Nat) (x : Stream) : stm (setStm s n x) n = x := tget_tset_same ..

@[simp] theorem gph_setGph (s : State) (n : Nat) (x : Graph) : gph (setGph s n x) n = x := tget_tset_same ..

@[simp] theorem flag_setFlag (s : State) (n : Nat) (x : Flag) : flag (setFlag s n x) n = x := tget_tset_same ..

@[simp] theorem ropeEnd_setEnd (s : State) (d : Die) (e : RopeEnd) : ropeEnd (setEnd s d e) d = e := by
  cases d <;> rfl

@[simp] theorem stored_putObj (s : State) (i k : Nat) (b : List Byte) : stored (putObj s i k b) i k = b := by
  unfold stored putObj
  split <;> simp

theorem stored_putObj_other (s : State) (i k j l : Nat) (b : List Byte) (h : okey j l ≠ okey i k) :
    stored (putObj s i k b) j l = stored s j l := by
  unfold stored putObj
  split <;> split <;> simp [tget_tset_other _ _ _ _ h]

@[simp] theorem leNat_leBytes (n v : Nat) : leNat (leBytes n v) = v % 256 ^ n := by
  induction n generalizing v with
  | zero => simp [leBytes, leNat, Nat.mod_one]
  | succ n ih =>
    have h : (256 : Nat) ^ (n + 1) = 256 * 256 ^ n := by rw [Nat.pow_succ, Nat.mul_comm]
    simp only [leBytes, leNat, ih, BitVec.toNat_ofNat, h]
    rw [Nat.mod_mul]

@[simp] theorem objN_putN (s : State) (i k v : Nat) : objN (putN s i k v) i k = v % 256 ^ osize i k := by
  simp [objN, putN]

theorem objN_putN_other (s : State) (i k j l v : Nat) (h : okey j l ≠ okey i k) : objN (putN s i k v) j l = objN s j l := by
  simp [objN, putN, stored_putObj_other _ _ _ _ _ _ h]

/-- A counter advances, and wraps at its size. -/
@[simp] theorem objN_bump (s : State) (i k n : Nat) : objN (bump s i k n) i k = (objN s i k + n) % 256 ^ osize i k := by
  simp [bump]

theorem objN_bump_other (s : State) (i k j l n : Nat) (h : okey j l ≠ okey i k) : objN (bump s i k n) j l = objN s j l :=
  objN_putN_other _ _ _ _ _ _ h

end Sys2Proof.Laws
end

