-- ==== Sys2Proof/WellFormed.lean ====
section
/-! DEFINITION. Which commands are well formed: the operands that the row's rule admits, beyond their types. -/

namespace Sys2Proof

/-- A 64-bit time. -/
def word64 (n : Nat) : Prop := n < 2 ^ 64

/-- A signed 64-bit value. -/
def int64 (i : Int) : Prop := -2 ^ 63 ≤ i ∧ i < 2 ^ 63

/-- The command is well formed. -/
def Instr.WellFormed : Instr → Prop
  | .powerOn _ _ _ => True
  | .hostVinRise => True
  | .hostVinLow => True
  | .fieldVinLow => True
  | .fieldVinRise => True
  | .fieldVinHigh => True
  | .fieldVinHighRelease => True
  | .hostVinHigh => True
  | .hostCrystalStop => True
  | .tcxoStop => True
  | .hResetLLow => True
  | .fResetLLow => True
  | .hostWarmReset => True
  | .hostBoot _ badKeep => badKeep.Nodup
  | .fieldBoot => True
  | .hostResetRequest _ => True
  | .fieldOnlyResetCommand => True
  | .fullResetCommand => True
  | .fullResetRequest => True
  | .fullResetDelayExpiry => True
  | .ropeAlive _ => True
  | .aliveExpiry => True
  | .bootLimitExpiry => True
  | .supervisorLockstepMismatch => True
  | .commitHostTrial _ => True
  | .commitFieldTrial _ => True
  | .installHostImage _ _ => True
  | .motionOverrideWrite _ => True
  | .levelsFrame _ => True
  | .ropeFrameTransmit _ => True
  | .ropeFrameReceive _ _ => True
  | .linkFrame _ => True
  | .ackDue _ => True
  | .creditReturn _ => True
  | .replayTimeout _ => True
  | .pairFault _ => True
  | .retrainReqFrame width faulty _ => faulty.isSome ∨ width ∈ [1, 2, 4]
  | .retrainRequestWrite _ _ => True
  | .retrainPairFail _ => True
  | .trainingAttempt _ => True
  | .linkUp _ _ => True
  | .tallyLockAcquired _ => True
  | .tallyLockLoss => True
  | .fieldHeartbeatSend => True
  | .hostHeartbeatSend => True
  | .hostHeartbeatReceive => True
  | .fieldHeartbeatReceive => True
  | .heartbeatTimeout => True
  | .fieldHeartbeatTimeout => True
  | .partnerBootTimeout _ => True
  | .postedWriteReceive => True
  | .confirmedWriteReceive cls => cls = 1 ∨ cls = 3
  | .readRequestReceive => True
  | .forwardedRequestArrival => True
  | .forwardAnswerArrival => True
  | .forwardTimeout _ => True
  | .class2RecordReceive => True
  | .faultLogRecordReceive _ => True
  | .fireReport => True
  | .loadReport => True
  | .hostEntryPush => True
  | .ptpConfigPush => True
  | .hostPairPush => True
  | .aliasPush => True
  | .sStatusMessage => True
  | .sdoDownload _ _ _ total data => data.length ≤ total
  | .sdoUpload _ _ _ => True
  | .sdoDownloadSegment _ _ _ => True
  | .sdoUploadSegment _ => True
  | .sdoUnknownSpecifier _ => True
  | .sdoInfoOdList => True
  | .sdoInfoObjectDescription _ => True
  | .sdoInfoEntryDescription _ _ => True
  | .mailboxUnsupported _ => True
  | .storeParameters _ _ => True
  | .restoreDefaults _ _ => True
  | .portRead => True
  | .portConfirmedWrite => True
  | .portPostedWrite => True
  | .portReadSegment => True
  | .portWriteSegment => True
  | .portForwardAnswer => True
  | .portUnknownEntry => True
  | .stageOpen _ _ => True
  | .stageAppend _ _ _ => True
  | .stageCheck _ _ => True
  | .stageArm _ _ => True
  | .stageCancel _ _ _ => True
  | .rollback _ => True
  | .stagingPrepare _ => True
  | .hostVote _ => True
  | .hostVoteTimeout _ => True
  | .stagingArmMessage _ => True
  | .hostArmConfirm _ => True
  | .armConfirmTimeout _ => True
  | .applyInstant _ => True
  | .hostApply _ => True
  | .applyConfirmation _ => True
  | .instantHoldTimeout _ => True
  | .lineEncoderEdge _ _ _ _ => True
  | .expectationMiss => True
  | .fractionTick => True
  | .pulseUsEnd _ => True
  | .positionEntryWrite _ _ _ => True
  | .standstillTimeout => True
  | .predictorQuery _ => True
  | .replicaEdgeApply _ => True
  | .stateFrame received => received.all (fun l => decide (l.length = 21)) = true
  | .stateFrameTimeout => True
  | .followerSample => True
  | .followerSyntheticEdge => True
  | .followerSampleTimeout => True
  | .lineBreak => True
  | .encoderValid => True
  | .estimatedSyntheticEdge => True
  | .indexMark _ => True
  | .presetCounter _ => True
  | .reReference _ => True
  | .fieldTimeTick => True
  | .replicaSymbolTick => True
  | .driftFrame _ => True
  | .systemTimeOffsetWrite _ => True
  | .slewEnd => True
  | .reacquireCommand _ => True
  | .referenceRoleWrite _ => True
  | .clockLossTimeout _ => True
  | .holdoverLimitExpiry _ => True
  | .ptpSyncMessage msg =>
    word64 msg.origin ∧ word64 msg.ingress ∧ int64 msg.correction ∧ 0 < msg.interval ∧ word64 msg.d1 ∧ word64 msg.d2 ∧ word64 msg.d3 ∧ word64 msg.d4
  | .conversionQuery _ => True
  | .syncConfigWrite _ _ => True
  | .sync0Edge => True
  | .sync1Edge => True
  | .syncPulseEnd _ => True
  | .latchEdge _ _ => True
  | .ppsSecond _ => True
  | .ppsPulseEnd _ => True
  | .timeEntryWrite _ _ => True
  | .timeEventFire _ => True
  | .controlCycleStart => True
  | .alRequestInit => True
  | .alRequestPreop => True
  | .alRequestSafeop => True
  | .alRequestOp => True
  | .alRequestBoot => True
  | .sm2BufferComplete data => data.length ≤ 1024
  | .sm2WatchdogExpiry => True
  | .frameStartDelimiter _ => True
  | .mirrorMessage => True
  | .class5Result => True
  | .safetyFrame _ connState _ frame => frame.length = 7 ∧ connState.toNat ≤ 4
  | .safetyWatchdogExpiry => True
  | .aliasWrite _ _ => True
  | .foeWriteIkf _ _ _ => True
  | .foeWriteIkh _ _ _ => True
  | .foeWriteIkm _ _ _ _ => True
  | .foeReadLog _ => True
  | .fieldFirmwareHalt => True
  | .engineLoad _ address length _ => 0 < length ∧ address.toNat + length ≤ 2 ^ 40
  | .engineStore _ _ _ data => data.length = 64
  | .storeAccept _ => True
  | .coreLateStoreFault _ => True
  | .registerWrite _ _ _ size _ => size ∈ [1, 2, 4, 8]
  | .bandwidthPeriod => True
  | .patrolScrub _ _ _ => True
  | .csiFrameStart _ _ => True
  | .csiLinePacket _ _ dataType _ _ _ => dataType.toNat < 64
  | .csiFrameEnd _ _ => True
  | .csiDeskewDone _ => True
  | .stopStateTimeout _ => True
  | .stampCapture _ => True
  | .ispOutputComplete _ => True
  | .visFlagRelease _ => True
  | .visGraphStart _ => True
  | .runStart _ => True
  | .nodeDispatch _ => True
  | .nodeComplete _ _ _ => True
  | .nodeTimeLimit _ _ => True
  | .runLimitExpiry _ => True
  | .refineTimeLimit _ _ _ => True
  | .hintSetArrival _ => True
  | .nqDoorbell _ _ => True
  | .descriptorTake _ => True
  | .waitTimeout _ => True
  | .nqRelease _ _ => True
  | .nqCancel _ _ => True
  | .queueEnable _ _ => True
  | .jobDispatch _ => True
  | .kernelBoundary _ _ _ info => info.cavernBank < 24
  | .preemptionWatchdogExpiry _ => True
  | .jobComplete _ => True
  | .galleryFrameStart => True
  | .modelLoadFromDram _ _ _ => True
  | .modelLoadComplete _ _ => True
  | .modelUnload _ _ => True
  | .cavernScrub _ word _ => word < 2 ^ 20
  | .cavernInitDone => True
  | .bankClearDone _ => True
  | .kvOpen _ _ => True
  | .kvClose _ _ => True
  | .kvPin _ _ => True
  | .kvUnpin _ _ => True
  | .kvPrefetch _ _ => True
  | .kvReset _ _ => True
  | .kvWinDataAccess _ => True
  | .aerWord _ => True
  | .lanternCsiPacket _ _ dataType _ _ => dataType.toNat < 64
  | .synapticOperation _ _ _ => True
  | .hintPeriodEnd => True
  | .compFrameStart => True
  | .compLineStart _ _ _ => True
  | .writebackFrameDone => True
  | .compLayerAddrWrite _ _ => True
  | .dpTrainCommand _ => True
  | .auxCommand _ _ _ => True
  | .hpdFall => True
  | .hpdRise => True
  | .pwmCounterZero _ => True
  | .pwmCounterTop _ => True
  | .sdResultReady _ _ _ _ => True
  | .sdInputLost _ => True
  | .adcSoftwareStart _ _ => True
  | .adcConversionDone _ _ => True
  | .axisEncoderEdge _ _ _ _ _ _ _ => True
  | .ssiFrameEnd _ _ => True
  | .ssiTimeout _ => True
  | .bissFrameEnd _ _ _ _ _ _ => True
  | .comparatorTrip _ _ _ _ => True
  | .stoInputEdge _ _ _ => True
  | .stoDiscrepancyFault _ => True
  | .clearLatches _ _ => True
  | .controlEngineStart => True
  | .axisPass _ => True
  | .ss1TimeLimit _ => True
  | .followingErrorTimeout _ => True
  | .cspTargetTimeout _ => True
  | .hardStopHome _ => True
  | .axisCommandDwellEnd _ => True
  | .axisCommandFlush _ _ => True
  | .controlwordEnableOperation _ => True
  | .controlwordFaultReset _ => True
  | .controlwordQuickStop _ => True
  | .controlwordDisable _ => True
  | .modeOfOperationWrite _ _ => True
  | .lockstepMismatch => True
  | .tripWatchdogExpiry => True
  | .fieldSramUncorrectable _ => True
  | .faultLogFlashWrite _ => True
  | .meterSample mw => mw.length = 11
  | .governorTick => True
  | .governorDeltaP => True
  | .powerRequestActive => True
  | .powerRequestInspectIdle => True
  | .powerRequestLanternWatch => True
  | .powerRequestOff => True
  | .watchConsentRequest => True
  | .watchConsentReply => True
  | .wakeBeacon => True
  | .hWakeLLow => True
  | .wakeTimerExpiry => True
  | .wakeHostCommand _ => True
  | .railPowerGoodFailure _ => True
  | .railPowerGoodLoss _ => True
  | .meterSenseFailure _ => True
  | .hostTempSample _ => True
  | .fieldTempSample _ => True
  | .hostVinHighRelease => True
  | .hostCrystalRestart => True
  | .tcxoRestart => True
  | .axisEncoderLineBreak _ => True
  | .fieldbusPortLinkChange _ _ => True
  | .ethernetLinkLoss => True
  | .fieldBeaconDetect => True
  | .pwmCompareMatch _ _ => True
  | .deadTimeExpiry _ _ => True
  | .coreLoad _ _ => True
  | .debuggerAccess _ => True
  | .dpLinkTrainingDone _ _ _ => True
  | .hostPtpTick => True

end Sys2Proof
end

