-- ==== Sys2Proof/Tests/Slice0.lean ====
section
/-! SUPPORT. Witnesses of the statements' hypotheses, small tests against the spec, and the smoke test of WellFormed. -/

set_option Elab.async false

open Sys2Proof Sys2Proof.Machine

/-- A small state or operand for the witnesses. -/
def Wit.up : State :=
  { fboot := { mode := .running }, hboot := { mode := .running }
    link := { mode := .up, width := 4, healthy := 15, tallyLock := true, fieldSeen := true, hostSeen := true, afresh := false }
    fend := { awaiting := false }, hend := { awaiting := false }, pairs := { hrun := 7 }
    bus := { al := .op }
    pwr := { rails := 0x7FFF, pgood := true } }

-- Octets of a signed host image, a signed field image and a signed bundle; the key is the one whose hash the reset state holds (log
-- entry 2).

/-- A small state or operand for the witnesses. -/
def Wit.imageH : List Byte := leBytes 37 0x10000000400000009000000000000b0a0040102000302010300001444000001014d494b49 ++
  List.replicate 27 0 ++
  leBytes 48 0x7058f5aeefc1a22e0c8912cc47697a4fed002094930958ec21132445bd9c783cae1f7d299d7d9f45fda4adf7049e9582 ++
  leBytes 48 0x4b0736cfbfb79c2747eefbf8d931fb683088b6b7abfa099e36bbc6141851cdd51a2c265b46bfab268349085017261e4f ++
  leBytes 48 0xb70a7672385e543a6c2955bf5df20255382a5482e041f759989ba78b623b1d6e74ad20f31ec7b18e37058bbe22ca87aa ++
  leBytes 48 0x5f0eea907c1d437a9d817e1dceb1600ac0b8f0b51331dae97c149a28bd1df4f829dc9292bf989e5d6f2c26964ade1736 ++
  leBytes 6 0x8fc00000002 ++
  List.replicate 122 0 ++
  leBytes 48 0xbe206e67990641ce396e669e9c5d5525422e4b34e5ad446e6e6ac5edb386f27086f03f4a9b4ff5cf45b86c0a1ffcd0c ++
  leBytes 48 0x1c5d9170b4feb5d9a2b802702a3a8141c5c756040a9a355621d8775e2aed26cba9b5bbdc1511631bd5fdc767caa45dd5 ++
  List.replicate 32 0 ++
  leBytes 13 0x6e69616d7472617020746f6f62

/-- A small state or operand for the witnesses. -/
def Wit.imageF : List Byte := leBytes 37 0x1000000000000000a000000000000b0a0040002000301010200000906000001024d494b49 ++
  List.replicate 27 0 ++
  leBytes 48 0x8077cdf77fd3a7d940af86c5e052ab92ff6ee0e8c3ef2d21aa54d932f3352d1d69a4ccfa087978bd25f01ef470762f18 ++
  List.replicate 48 0 ++
  leBytes 48 0xb70a7672385e543a6c2955bf5df20255382a5482e041f759989ba78b623b1d6e74ad20f31ec7b18e37058bbe22ca87aa ++
  leBytes 48 0x5f0eea907c1d437a9d817e1dceb1600ac0b8f0b51331dae97c149a28bd1df4f829dc9292bf989e5d6f2c26964ade1736 ++
  leBytes 6 0x13f000000001 ++
  List.replicate 122 0 ++
  leBytes 48 0xbe206e67990641ce396e669e9c5d5525422e4b34e5ad446e6e6ac5edb386f27086f03f4a9b4ff5cf45b86c0a1ffcd0c ++
  leBytes 48 0xb67082a85e1322c0ccb19655ae520b8b8639650ff3fc144dd1b2f49619acb4800686ce891692c2919a445d6e2d6c6a9d ++
  List.replicate 32 0 ++
  leBytes 10 0x746f6f6220646c656966

/-- A small state or operand for the witnesses. -/
def Wit.bundleFile : List Byte := leBytes 20 0x6f6d65640000004d00010400010201014e424b49 ++
  List.replicate 28 0 ++
  leBytes 48 0x1289bb856480012606e1671e448cd999a3a3f1a0ebe6a158b8e96d9e8df91dc800000010000000010000004000000064 ++
  leBytes 21 0x1000000003ba17b7ccd93bceabc5fdf78cc54fd5e ++
  List.replicate 123 0 ++
  leBytes 48 0xb70a7672385e543a6c2955bf5df20255382a5482e041f759989ba78b623b1d6e74ad20f31ec7b18e37058bbe22ca87aa ++
  leBytes 48 0x5f0eea907c1d437a9d817e1dceb1600ac0b8f0b51331dae97c149a28bd1df4f829dc9292bf989e5d6f2c26964ade1736 ++
  leBytes 48 0xbe206e67990641ce396e669e9c5d5525422e4b34e5ad446e6e6ac5edb386f27086f03f4a9b4ff5cf45b86c0a1ffcd0c ++
  leBytes 48 0x8b3560ec95873fa05cb071676f5238a00cf517e1eea5730a7f57c0d3cb301b19ec4400b807728f0b73360f28a58f8983 ++
  List.replicate 81 0 ++
  leBytes 15 0xf0e0d0c0b0a090807060504030201

/-- A small state or operand for the witnesses. -/
def Wit.boot : State :=
  { fboot := { mode := .rom, store := { slotA := Wit.imageF } }, hboot := { mode := .rom, store := { slotA := Wit.imageH } } }

/-- A small state or operand for the witnesses. -/
def Wit.frame : Frame := { cls := 3, kind := 0, last := true, seq := 0, ack := none, nak := false, crClass := 0, crCount := 0, tag := 0, payload := [] }

/-- A small state or operand for the witnesses. -/
def Wit.forward : Forward := { tag := 1, index := 0x2C00, sub := 1, op := 1 }

/-- A small state or operand for the witnesses. -/
def Wit.request : FwdReq := { fromPort := true, op := 1, index := 0x2C00, sub := 1, complete := false, segment := false, last := true, offset := 0, data := [] }

/-- A small state or operand for the witnesses. -/
def Wit.atField (f : Frame) : State := { Wit.up with fend := { Wit.up.fend with inbox := [f] } }

/-- A small state or operand for the witnesses. -/
def Wit.atHost (f : Frame) : State := { Wit.up with hend := { Wit.up.hend with inbox := [f] } }

/-- A small state or operand for the witnesses. -/
def Wit.took (d : Die) (p : Frame → Bool) (s : State) : Frame × State := (takeIn s d p).getD (Wit.frame, s)

/-- A small state or operand for the witnesses. -/
def Wit.slot : HostSlot := { slot := 0, tag := 1, req := { Wit.request with op := 1 }, value := [], port := none }

/-- A small state or operand for the witnesses. -/
def Wit.port : State := setReg Wit.up (bDP + 0x28) 0x4401

/-- A small state or operand for the witnesses. -/
def Wit.window : BitVec 128 := BitVec.ofNat 128 (0x7F * 2 ^ 69 + 0xFFFFFFF * 2 ^ 28)

/-- A small state or operand for the witnesses. -/
def Wit.open : State := { Wit.up with mem := { pwinLive := [(0, Wit.window)] } }

/-- A small state or operand for the witnesses. -/
def Wit.ported (ty op : Byte) : State :=
  dramWrite (setReg (setReg (setReg { Wit.open with hostSlots := [Wit.slot] } (bDP + 0x28) 0x4401) bDP 0x800000000) (bDP + 8) 1) 0x800000000
    [ty, op, 1, 0, 0x70, 0x22, 1, 1, 8, 0, 0, 0, 0, 0, 0, 0, 5, 0, 0, 0, 0, 0, 0, 0, 0, 0, 0, 0, 0, 0, 0, 0]

/-- A small state or operand for the witnesses. -/
def Wit.h2d (op : Byte) : State × H2d := (portRequest (Wit.ported 1 op) op.toNat).getD (Wit.up, ⟨0, 0, 0, 0, 0, 0, 0, 0, [], 0⟩)

/-- A small state or operand for the witnesses. -/
def Wit.next (ty : Byte) : State × H2d := (h2dNext (Wit.ported ty 1)).getD (Wit.up, ⟨0, 0, 0, 0, 0, 0, 0, 0, [], 0⟩)

/-- A small state or operand for the witnesses. -/
def Wit.mirror : MirrorMsg := { mtype := 1, rtag := 1, part := 1, flags := 0, capPos := 0, capTime := 0, target := 5120, body := 0, result := 0 }

/-- A small state or operand for the witnesses. -/
def Wit.mirrored : State := { Wit.atField (mkFrame 0 0 1 (leBytes 2 1 ++ leBytes 2 1 ++ [1, 0, 0, 0] ++ List.replicate 48 0)) with pos := { mode := .measured } }

/-- A small state or operand for the witnesses. -/
def Wit.bundle : Bundle := bundleOf Wit.bundleFile [[]]

/-- A small state or operand for the witnesses. -/
def Wit.stamp : Stamp := ⟨0, 0, 0, 0, false, false, false, false⟩

/-- A small state or operand for the witnesses. -/
def Wit.pend : PendingStamp := { tag := 0, edge := 0, taken := [] }

/-- A small state or operand for the witnesses. -/
def Wit.open_ : OpenFrame := { stamp := Wit.stamp, buffer := none, dram := none, flags := 0, lines := 0, par := [] }

/-- A small state or operand for the witnesses. -/
def Wit.desc1 : List Byte := [1, 0, 0, 0, 0, 0, 0, 0, 5, 0, 0, 0] ++ List.replicate 1076 0 ++ ([3, 0, 0] ++ List.replicate 61 0) ++ ([3, 0, 1] ++ List.replicate 61 0)

/-- A small state or operand for the witnesses. -/
def Wit.run : Run := { seq := 0, order := 0, desc := Wit.desc1, part := 1, nodes := [.running, .running], cams := [none, none], stamp := Wit.stamp, flags := 0, tiles := 0, status := 0, failNode := 0xFF, startTime := 0, hint := none, winGen := 0 }

/-- A small state or operand for the witnesses. -/
def Wit.refines : Run := { Wit.run with desc := (Wit.desc1.take 1152 ++ [3, 0, 1] ++ List.replicate 53 0 ++ [1, 0] ++ List.replicate 6 0) }

/-- A small state or operand for the witnesses. -/
def Wit.ready : State := { Wit.up with graphs := [(3, { run := some { Wit.run with nodes := [.waiting, .done] } })] }

/-- A small state or operand for the witnesses. -/
def Wit.hint : HintSet := ⟨[], 0⟩

/-- A small state or operand for the witnesses. -/
def Wit.desc : Desc := { op := 1, flags := 0, entry := 0, userTag := 0, inAddr := 0, outAddr := 0, wait0 := 0, gen0 := 0, wait1 := 0, gen1 := 0, deadline := 0, rtag := 0, dlKind := 0, emit := 0, delta := 0, body := 0, reservedZero := true }

/-- A small state or operand for the witnesses. -/
def Wit.job : Job :=
  { desc := Wit.desc, slot := 0, client := 0, part := 1, seq := 0, mode := .waiting, w0 := .none, w1 := .none, held := false, stamp := none
    countFrom := 0, relTime := 0, group := 0, first := 0, copies := [], preemptions := 0, status := 0, flags := 0, coreUs := 0, engineNs := 0
    cavernLines := 0, dramLines := 0, energyNj := 0, fullAcct := true, kv := none, secondFirst := false, reserve := [], frameWait := false, winGen := 0 }

/-- A small state or operand for the witnesses. -/
def Wit.queued (j : Job) : State := { Wit.up with gal := { ready := true, queues := [(5, { job := some j })] } }

/-- A small state or operand for the witnesses. -/
def Wit.kernel : KernelEnd := { coreUs := 0, pocket := .clean, cavern := .clean, cavernBank := 0, halo := .clean }

/-- A small state or operand for the witnesses. -/
def Wit.kv : State := { Wit.up with kv := { pools := [(1, { seqs := [(5, { mode := .opened, spilled := true })] })] } }

/-- A small state or operand for the witnesses. -/
def Wit.lan : State := putN Wit.up 0x2C00 1 1

/-- A small state or operand for the witnesses. -/
def Wit.comp : State := setReg Wit.up bCOMP 1

/-- A small state or operand for the witnesses. -/
def Wit.cmd : AxisCmd := ⟨1, 0, 0, 0, 0, 0, 0, 0, 0, false, false⟩

/-- A small state or operand for the witnesses. -/
def Wit.kvPool : State := putObj (putN (setReg (putN (putN (putN (putN Wit.up 0x2A01 1 1) 0x2A01 7 16) 0x2A01 2 1) 0x2A01 3 1) (bGAL + 0x8014) 1) 0x2A01 6 4) 0x2A01 0x0B ([64, 0, 0, 0] ++ List.replicate 28 0)

/-- A small state or operand for the witnesses. -/
def Wit.adc : State := putObj (setAx Wit.up 3 { group := some [0] }) 0x30F8 1 ([2] ++ List.replicate 15 0xFF)

/-- A small state or operand for the witnesses. -/
def Wit.take : State := setReg (setReg (putN Wit.up 0x2860 6 1) (nqReg 5 0x10) 0x4401) (nqReg 5 0x18) 1

/-- A small state or operand for the witnesses. -/
def Wit.ask : Frame := mkFrame 3 1 0 (leBytes 2 0x3602 ++ [1, 2, 0, 0, 0, 0] ++ leBytes 1 2)

/-- A small state or operand for the witnesses. -/
def Wit.asked : State := { Wit.atHost (mkFrame 3 2 0 (leBytes 2 0x3602 ++ [1, 2, 0, 0, 0, 0])) with pwr := { pendingWatch := some false } }

/-- A small state or operand for the witnesses. -/
def Wit.fullAsk : Frame := mkFrame 3 1 0 (leBytes 2 0x3A40 ++ leBytes 1 3 ++ leBytes 1 2 ++ [0, 0, 0, 0] ++ leBytes 1 2)

/-- A small state or operand for the witnesses. -/
def Wit.entryPush : Frame := mkFrame 3 0 1 (leBytes 2 0x2250 ++ [1, 6, 0, 0, 0, 0] ++ List.replicate 16 0)

/-- A small state or operand for the witnesses. -/
def Wit.onWire (f : Frame) : State := { Wit.up with fend := { Wit.up.fend with wire := [laneSymbols 4 f] } }

/-- A small state or operand for the witnesses. -/
def Wit.reqOnWire : State := { Wit.up with hend := { Wit.up.hend with wire := [laneSymbols 4 { linkFrame false with tag := 0x202 }] } }

/-- A small state or operand for the witnesses. -/
def Wit.tookReq (c : Nat) (l : List Nat) (s : State) : State × DictReq := (takeRequest s c l).getD (s, ⟨0, 0, 0, 0, 0, false, false, []⟩)

/-- A small state or operand for the witnesses. -/
def Wit.request3 (op : Byte) (i : Nat) (d : List Byte) : Frame := mkFrame 3 1 1 (leBytes 2 i ++ [1, op, 0, 0, 0, 0] ++ d)

/-- A small state or operand for the witnesses. -/
def Wit.posted : State := Wit.atField (Wit.request3 3 0x2270 [1, 0, 0, 0, 0, 0, 0, 0])

/-- A small state or operand for the witnesses. -/
def Wit.confirmed : State := Wit.atField (Wit.request3 2 0x2270 [1, 0, 0, 0, 0, 0, 0, 0])

/-- A small state or operand for the witnesses. -/
def Wit.readAsk : State := Wit.atField (Wit.request3 1 0x2201 [])

/-- A small state or operand for the witnesses. -/
def Wit.answered : State := { Wit.atField (mkFrame 3 2 1 (leBytes 2 0x2C00 ++ [1, 1, 0, 0, 0, 0, 5])) with bus := { al := .op, forwards := [Wit.forward] } }

/-- A small state or operand for the witnesses. -/
def Wit.forwarded : State := { Wit.port with hend := { Wit.up.hend with inbox := [Wit.request3 1 0x2C00 []] } }

/-- A small state or operand for the witnesses. -/
def Wit.staged (m : SetMode) (op : Byte) : State :=
  { Wit.up with
    sets := [(2, { mode := m, owner := some .master, instant := some (.time 5), entries := [(0x2C00, 1, [1])] })]
    fend := { Wit.up.fend with inbox := [mkFrame 4 0 2 [op, 2, 1, 0, 0, 0]] }, hend := { Wit.up.hend with inbox := [mkFrame 4 0 2 [op, 2, 1, 0, 0, 0]] } }

/-- A small state or operand for the witnesses. -/
def Wit.confirmedSet : State := { Wit.staged .applied 5 with sets := [(2, { mode := .applied, shadow := some ([], .position 0) })] }

/-- A small state or operand for the witnesses. -/
def Wit.running : Job := { Wit.job with mode := .running, group := 1, copies := [{ mode := .running, steps := [0] }] }

/-- A small state or operand for the witnesses. -/
def Wit.runs : State := { Wit.up with gal := { ready := true, queues := [(5, { job := some Wit.running })], slots := [(0, { mode := .ready, bundle := some { Wit.bundle with code := [[{}]] } })] } }

/-- A small state or operand for the witnesses. -/
def Wit.hinted : State := { Wit.lan with lan := { lt := 2 ^ 31 } }

/-- A small state or operand for the witnesses. -/
def Wit.turned : State := setAx { Wit.up with fclk := { ticks := 100000 } } 3 {}

/-- A small state or operand for the witnesses. -/
def Wit.passing : State :=
  setCe (setAx (putN { Wit.up with bus := { al := .op, safeOut := 0xFFFF }, saf := { ch := 0xF }, fclk := { ticks := 100000 }, eng := { todo := [3, 5] } } 0x1E40 3 4)
    3 { driving := true, internalSto := false }) 3 { drive := .operationEnabled }

/-- A small state or operand for the witnesses. -/
def Wit.sync : PtpSync := ⟨0, true, 10, 20, 0, 1000000000, 0, 0, 0, 0⟩


/-- The state after a command that completes. -/
def after (c : Instr) (s : State) : Option State :=
  match exec c s with
  | .next t => some t
  | _ => none

-- R50: an edge of A that leads B counts one forward.
theorem test_edge_forward : (after (.lineEncoderEdge true false 9 9) Wit.mirrored).map (fun t => t.pos.count) = some 1 := by decide +kernel
-- R54: both phases changing at once leaves the counter and counts a quadrature error.
theorem test_quadrature_error : (after (.lineEncoderEdge true true 9 9) Wit.up).map (fun t => (t.pos.count, objN t 0x2203 1)) = some (0, 1) := by decide +kernel
-- 02_line_position, worked case, step 6: 1,240,012 steps by -12 at the index and the state returns to MEASURED.
theorem test_index_steps_back : (after (.indexMark 9)
    (putN (putN { Wit.up with pos := { mode := .rejoined, count := 1240012, indexRef := some 0, encOk := true } } 0x2201 4 10000) 0x2201 6 2000)).map
    (fun t => (t.pos.count, t.pos.mode)) = some (1240000, .measured) := by decide +kernel
-- 02_line_position, worked case: 30,000 counts at 40,000 counts/s are 750 ms.
theorem test_predictor_lead : (predict { Wit.up with pos := { mode := .measured, count := 1207500, v := 40000 } } (1237500 * 256)).1 = some 750000000 := by decide +kernel
-- 18_safety, worked case, steps 7 and 8: 359.9644 ms is too old for a limit of 200 ms; 0x3450:04 counts it.
theorem test_result_too_old : (after .mirrorMessage
    (putN { Wit.mirrored with fclk := { time := 359964400 } } 0x3410 2 200000)).map (fun t => objN t 0x3450 4) = some 1 := by decide +kernel
-- 06_staged_change, worked case, step 4: armed at 1,201,800 with pitch 5,000 and 8 counts of lead, the gap is 1,205,000.
theorem test_gap_instant : gapAhead (putN (putN { Wit.up with pos := { mode := .measured, count := 1201800, v := 40000 } } 0x2100 6 200) 0x2100 7 5000) = 1205000 * 256 := by decide +kernel
-- R6: a store is little-endian.
theorem test_store_octets : (after (.registerWrite true 0 0x800000000 4 0x11223344) Wit.up).map
    (fun t => [dramGet t 0x800000000, dramGet t 0x800000003, dramGet t 0x800000004]) = some [0x44, 0x11, 0] := by decide +kernel
-- R385: an 8-octet write at a word address faults.
theorem test_unaligned_write : (after (.registerWrite true 6 0x40000004 8 1) Wit.up).map (fun t => t.mem.coreFault) = some (some 6) := by decide +kernel
-- R387: the hole after block PMU reads zeros and leaves a record with cause 4.
theorem test_mmio_hole : (after (.coreLoad 2 0x40080000) Wit.up).map (fun t => (t.mem.loaded, t.mem.fab.map (fun r => r.cause))) = some ([0, 0, 0, 0], [4]) := by decide +kernel
-- R352: configuration word 5 is not writable.
theorem test_word5 : (after (.aliasWrite 5 1) Wit.up).map (fun t => t.bus.eepromError) = some true := by decide +kernel
-- R968: grade C, 110.1 degrees.
theorem test_over_temperature : (after (.hostTempSample 1101) Wit.up).map (fun t => (t.pwr.mode, t.pwr.offCause)) = some (.off, 2) := by decide +kernel
-- R1027: grade C sets bit 3 above 95.0 degrees.
theorem test_field_warm : (after (.fieldTempSample 951) Wit.up).map (fun t => objN t 0x1001 0) = some 8 := by decide +kernel
theorem test_field_not_warm : (after (.fieldTempSample 950) Wit.up).map (fun t => objN t 0x1001 0) = some 0 := by decide +kernel
-- R903: internal STO on axis 7.
theorem test_sram_error : (after (.fieldSramUncorrectable 5) Wit.up).map (fun t => ((ax t 7).internalSto, t.saf.log.map (fun r => r.type))) = some (true, [8]) := by decide +kernel
-- R256: an upload segment without a transfer that repeats its toggle bit.
theorem test_toggle : (after (.sdoUploadSegment true)
    { Wit.up with bus := { al := .op, transfer := some ⟨0x2270, 1, false, true, 8, false, []⟩ } }).map (fun t => t.bus.transfer) = some none := by decide +kernel
-- R291: the port may not check the master's set.
theorem test_foreign_check : (after (.stageCheck .port 3) { Wit.up with sets := [(3, { mode := .opened, owner := some .master })] }).map
    (fun t => (stg t 3).mode) = some .opened := by decide +kernel
-- R974: any value refreshes the alive interval.
theorem test_alive : (after (.ropeAlive 0) Wit.up).map (fun t => t.hboot.aliveRun) = some true := by decide +kernel
-- R166: power-on after a long run.
theorem test_power_on_time : (after (.powerOn 0 0 0) { Wit.up with hclk := { time := 77 } }).map (fun t => t.hclk.time) = some 0 := by decide +kernel
-- R601: a queue that is not enabled takes nothing.
theorem test_disabled_queue : after (.descriptorTake 5) Wit.up = some Wit.up := by decide +kernel
-- the idle step (log entry 1)
theorem test_idle : step Wit.up = .next Wit.up := rfl
-- the queue is first in, first out
theorem test_queue_order : (match step { Wit.up with pending := [.ropeAlive 0, .hostWarmReset] } with | .next t => t.pending | _ => []) = [.hostWarmReset] := by decide +kernel

-- R52: a level that is stable for less than the filter's 4 cycles is not taken.
theorem test_line_filter : (after (.lineEncoderEdge true false 3 9) Wit.mirrored).map (fun t => (t.pos.count, t.pos.lvlA)) = some (0, false) := by decide +kernel
-- R173: octet i goes to lane i mod 2.
theorem test_stripe : stripe 2 1 [10, 11, 12, 13, 14, 15] = [11, 13, 15] := by decide +kernel
-- R176: class 3 in bits 63:61, KIND 1 in 60:59, LAST in 58, SEQ 7 in 55:48, TAG 0x1234 in 31:16, LEN 2 in 8:0.
theorem test_header : (framePadded { mkFrame 3 1 0x1234 [0xAA, 0xBB] with seq := 7 }) = [2, 0, 0x34, 0x12, 0, 0, 7, 0x6C, 0xAA, 0xBB, 0, 0] := by decide +kernel
-- R171: with pair 1 faulty a link of two pairs uses pairs 2 and 3; with pairs 1 and 2 faulty it has the lowest healthy one.
theorem test_pairs : (pairsOf 0b1101 2, pairsOf 0b1001 2) = ([2, 3], [0]) := by decide +kernel
-- R175: the IEEE 802.3 CRC of "123456789".
theorem test_crc32 : crc32 [0x31, 0x32, 0x33, 0x34, 0x35, 0x36, 0x37, 0x38, 0x39] = 0xCBF43926 := by decide +kernel
-- R84: the CRC-16/CCITT of "123456789" from all ones.
theorem test_crc16 : crc16 [0x31, 0x32, 0x33, 0x34, 0x35, 0x36, 0x37, 0x38, 0x39] = 0x29B1 := by decide +kernel
-- FIPS 180-4: the SHA-384 digest of "abc".
theorem test_sha384 : beNat (sha384 [0x61, 0x62, 0x63]) =
    0xcb00753f45a35e8bb5a03d699ac65007272c32ab0eded1631a8b605a43ff5bed8086072ba1e7cc2358baeca134c825a7 := by decide +kernel
-- R980, R988: the host die takes its own signed image and no field image; one changed octet of the boot part is refused.
theorem test_host_image : slotOk true {} Wit.imageH = true := by decide +kernel
theorem test_wrong_kind : slotOk true {} Wit.imageF = false := by decide +kernel
theorem test_changed_image : slotOk true {} (Wit.imageH.set 512 0) = false := by decide +kernel
-- R554: FP8 E4M3 saturates to 448, E5M2 to 57344, FP16 to 65504.
theorem test_saturation : (encodeFlt .e4m3 0x447A0000, encodeFlt .e5m2 0x48000000, encodeFlt .f16 0x48000000) = (0x7E, 0x7B, 0x7BFF) := by decide +kernel
-- R553: half to even at the end of the pass.
theorem test_half_even : ([1, 3, 5, -1, -3] : List Int).map (fun n => rneDiv n 2) = [0, 2, 2, 0, -2] := by decide +kernel
-- R570: ten rows over four members are 3, 3, 3 and 1.
theorem test_stripes : (List.range 4).map (fun j => stripeRows 4 j 10) = [(0, 3), (3, 6), (6, 9), (9, 10)] := by decide +kernel

-- WellFormed refuses an ill-formed operand for each of its checks.
theorem smoke_hostBoot_keep : ¬ Instr.WellFormed (.hostBoot true [1, 1]) := by simp [Instr.WellFormed]
theorem smoke_retrainReq : ¬ Instr.WellFormed (.retrainReqFrame 3 none true) := by simp [Instr.WellFormed]
theorem smoke_confirmedWrite_class : ¬ Instr.WellFormed (.confirmedWriteReceive 2) := by simp [Instr.WellFormed]
theorem smoke_sdoDownload : ¬ Instr.WellFormed (.sdoDownload 0 0 false 1 [0, 0]) := by simp [Instr.WellFormed]
theorem smoke_stateFrame : ¬ Instr.WellFormed (.stateFrame (some [0])) := by simp [Instr.WellFormed]
theorem smoke_ptpSync_origin : ¬ Instr.WellFormed (.ptpSyncMessage { Wit.sync with origin := 2 ^ 64 }) := by simp [Instr.WellFormed, word64]
theorem smoke_ptpSync_ingress : ¬ Instr.WellFormed (.ptpSyncMessage { Wit.sync with ingress := 2 ^ 64 }) := by simp [Instr.WellFormed, word64]
theorem smoke_ptpSync_correction : ¬ Instr.WellFormed (.ptpSyncMessage { Wit.sync with correction := 2 ^ 63 }) := by simp [Instr.WellFormed, int64]
theorem smoke_ptpSync_interval : ¬ Instr.WellFormed (.ptpSyncMessage { Wit.sync with interval := 0 }) := by simp [Instr.WellFormed]
theorem smoke_ptpSync_d1 : ¬ Instr.WellFormed (.ptpSyncMessage { Wit.sync with d1 := 2 ^ 64 }) := by simp [Instr.WellFormed, word64]
theorem smoke_ptpSync_d2 : ¬ Instr.WellFormed (.ptpSyncMessage { Wit.sync with d2 := 2 ^ 64 }) := by simp [Instr.WellFormed, word64]
theorem smoke_ptpSync_d3 : ¬ Instr.WellFormed (.ptpSyncMessage { Wit.sync with d3 := 2 ^ 64 }) := by simp [Instr.WellFormed, word64]
theorem smoke_ptpSync_d4 : ¬ Instr.WellFormed (.ptpSyncMessage { Wit.sync with d4 := 2 ^ 64 }) := by simp [Instr.WellFormed, word64]
theorem smoke_sm2 : ¬ Instr.WellFormed (.sm2BufferComplete (List.replicate 1025 0)) := by simp only [Instr.WellFormed, List.length_replicate]; omega
theorem smoke_safetyFrame_length : ¬ Instr.WellFormed (.safetyFrame 0 0 0 [0]) := by simp [Instr.WellFormed]
theorem smoke_safetyFrame_state : ¬ Instr.WellFormed (.safetyFrame 0 5 0 (List.replicate 7 0)) := by simp [Instr.WellFormed]
theorem smoke_engineLoad_empty : ¬ Instr.WellFormed (.engineLoad portOrigin 0 0 .clean) := by simp [Instr.WellFormed]
theorem smoke_engineLoad_end : ¬ Instr.WellFormed (.engineLoad portOrigin 0xFFFFFFFFFF 2 .clean) := by simp [Instr.WellFormed]
theorem smoke_engineStore : ¬ Instr.WellFormed (.engineStore portOrigin 0 0 []) := by simp [Instr.WellFormed]
theorem smoke_registerWrite : ¬ Instr.WellFormed (.registerWrite false 0 0 3 0) := by simp [Instr.WellFormed]
theorem smoke_csiLine : ¬ Instr.WellFormed (.csiLinePacket 0 0 64 .clean true []) := by simp [Instr.WellFormed]
theorem smoke_kernelBoundary : ¬ Instr.WellFormed (.kernelBoundary 0 0 0 { Wit.kernel with cavernBank := 24 }) := by simp [Instr.WellFormed]
theorem smoke_cavernScrub : ¬ Instr.WellFormed (.cavernScrub 0 (2 ^ 20) .clean) := by simp [Instr.WellFormed]
theorem smoke_lanternCsi : ¬ Instr.WellFormed (.lanternCsiPacket 0 0 64 true []) := by simp [Instr.WellFormed]
theorem smoke_meterSample : ¬ Instr.WellFormed (.meterSample []) := by simp [Instr.WellFormed]

-- Witnesses of the clauses of a completion statement that carry hypotheses of their own.
theorem clause_railPowerGoodFailure : (∃ (r : Fin 15) (s : State), railRises s r.val = true ∧ s.pwr.pgFails = 0) ∧
    (∃ (r : Fin 15) (s : State), railRises s r.val = true ∧ s.pwr.pgFails ≠ 0) :=
  ⟨⟨14, { Wit.up with pwr := { rising := some true } }, by decide +kernel⟩, ⟨14, { Wit.up with pwr := { rising := some true, pgFails := 1 } }, by decide +kernel⟩⟩
def Wit.levels (d : Die) : State :=
  setEnd { Wit.up with link := { Wit.up.link with levelsDue := true } } (otherDie d) { wire := [laneSymbols 4 { mkFrame 0 3 3 (List.replicate 8 0) with seq := 0 }] }
theorem clause_levelsFrame (d : Die) : ∃ f t, ropeUp (Wit.levels d) = true ∧ (Wit.levels d).link.levelsDue = true ∧ takeControl (Wit.levels d) d 3 = some (f, t) := by
  have h : ∀ o : Option (Frame × State), o.isSome = true → ∃ f t, o = some (f, t) := fun o ho => ⟨(o.get ho).1, (o.get ho).2, (Option.some_get ho).symm⟩
  have k : ropeUp (Wit.levels d) = true ∧ (Wit.levels d).link.levelsDue = true ∧ (takeControl (Wit.levels d) d 3).isSome = true := by cases d <;> decide +kernel
  obtain ⟨f, t, e⟩ := h _ k.2.2
  exact ⟨f, t, k.1, k.2.1, e⟩
theorem clause_partnerBootTimeout : (∃ s : State, fieldUp s = true ∧ hostHw s = true ∧ s.fend.awaiting = true ∧ s.fend.lost = false) ∧
    (∃ s : State, fieldUp s = true ∧ hostHw s = true ∧ s.hend.awaiting = true ∧ s.hend.lost = false) :=
  ⟨⟨{ Wit.up with fend := { awaiting := true } }, by decide +kernel⟩, ⟨{ Wit.up with hend := { awaiting := true } }, by decide +kernel⟩⟩
theorem clause_debuggerAccess : Wit.up.fboot.store.debugLock = false ∧ Wit.up.hboot.store.debugLock = false := by decide
theorem clause_lineEncoderEdge : ∃ s : State, fieldHw s = true ∧ objN s 0x2201 1 = 0 ∧ objN s 0x2201 2 ≤ 4 ∧ s.pos.lvlA = false ∧ s.pos.lvlB = false :=
  ⟨Wit.up, by decide +kernel⟩
theorem clause_syncPulseEnd : Wit.up.sync.left0 = 0 ∧ Wit.up.sync.left1 = 0 := by decide
theorem clause_ppsSecond : (∃ s : State, fieldClocks s = true ∧ s.fclk.ppsNext ≤ s.fclk.time) ∧ (∃ s : State, hostHw s = true ∧ s.hclk.ppsNext ≤ s.hclk.time) :=
  ⟨⟨{ Wit.up with fclk := { time := 1000000000, ppsNext := 1000000000 } }, by decide +kernel⟩, ⟨{ Wit.up with hclk := { time := 1000000000, ppsNext := 1000000000 } }, by decide +kernel⟩⟩
theorem clause_ppsPulseEnd : Wit.up.fclk.ppsLeft = 0 ∧ Wit.up.hclk.ppsLeft = 0 := by decide
def Wit.segment (op : Byte) : State := Wit.atField { Wit.request3 op 0x2270 [1, 0] with last := false }
theorem clause_postedWriteReceive : (∃ q t, takeRequest (Wit.segment 6) 3 [3, 6] = some (t, q) ∧ safeObj q.index q.sub = false ∧ q.last = false) ∧
    (∃ q t u c, takeRequest Wit.posted 3 [3, 6] = some (t, q) ∧ safeObj q.index q.sub = false ∧ q.last = true ∧
      writeAny (segmentIn t q) .port .nobody q.index q.sub q.complete (segmentsOf t q ++ q.data) = (u, some c)) :=
  ⟨⟨_, _, rfl, by decide +kernel, by decide +kernel⟩, ⟨_, _, _, _, rfl, by decide +kernel, by decide +kernel, rfl⟩⟩
theorem clause_confirmedWriteReceive : (∃ q t, takeRequest (Wit.segment 5) 3 [2, 5] = some (t, q) ∧ q.last = false ∧ (fieldOwned q.index && (row? q.index q.sub).isSome) = true) ∧
    (∃ q t, takeRequest Wit.confirmed 3 [2, 5] = some (t, q) ∧ q.last = true) :=
  ⟨⟨_, _, rfl, by decide +kernel, by decide +kernel⟩, ⟨_, _, rfl, by decide +kernel⟩⟩
theorem clause_faultLogRecordReceive : (∃ f t, takeIn (Wit.atField (mkFrame 2 0 0 ([6, 0, 0, 0] ++ List.replicate 64 0))) .field isFaultRecord = some (f, t)) ∧
    (∃ f t, takeIn (Wit.atHost (mkFrame 2 0 0 ([6, 0, 0, 0] ++ List.replicate 64 0))) .host isFaultRecord = some (f, t)) :=
  ⟨⟨_, _, rfl⟩, ⟨_, _, rfl⟩⟩
def Wit.refusing : State := { Wit.staged .checking 1 with sets := [(2, { mode := .checking, owner := some .master, instant := some (.time 5), entries := [(0x2801, 4, [0x41, 6])] })] }
theorem clause_stagingPrepare : (∃ f t, takeIn (Wit.staged .checking 1) .host (isStage (Wit.staged .checking 1) 1 2) = some (f, t) ∧ (stg t 2).mode = .checking ∧ judgeHostPart t 2 = none) ∧
    (∃ f t r k, takeIn Wit.refusing .host (isStage Wit.refusing 1 2) = some (f, t) ∧ (stg t 2).mode = .checking ∧ judgeHostPart t 2 = some (r, k)) :=
  ⟨⟨_, _, rfl, by decide +kernel, by decide +kernel⟩, ⟨_, _, 3, 0, rfl, by decide +kernel, by decide +kernel⟩⟩
theorem clause_applyInstant : (∃ (s : State) (t : Nat), fieldHw s = true ∧ (stg s 0).mode = .armed ∧ (stg s 0).instant = some (.time t) ∧ t ≤ s.fclk.time) ∧
    (∃ (s : State) (p : Int) (l : Bool), fieldHw s = true ∧ (stg s 0).mode = .armed ∧ (stg s 0).instant = some (.position p) ∧ (stg s 0).due = some l ∧ s.pos.mode ≠ .invalid) :=
  ⟨⟨{ Wit.up with sets := [(0, { mode := .armed, owner := some .master, instant := some (.time 0) })] }, 0, by decide +kernel⟩,
   ⟨{ Wit.up with pos := { mode := .measured }, sets := [(0, { mode := .armed, owner := some .master, instant := some (.position 5), due := some true })] }, 5, true, by decide +kernel⟩⟩
theorem clause_syncConfigWrite : (∃ r : BitVec 16, readOnlyReg r.toNat = false ∧ r.toNat ≠ 0x0010 ∧ r.toNat ≠ 0x0920 ∧ r.toNat ≠ 0x0981 ∧ r.toNat ≠ 0x0990 ∧ r.toNat ≠ 0x09A0 ∧ r.toNat ≠ 0x09A4) ∧
    (∃ r : BitVec 16, readOnlyReg r.toNat = false ∧ r.toNat ≠ 0x0010 ∧ r.toNat ≠ 0x0920 ∧ r.toNat = 0x0990) :=
  ⟨⟨0x09A8, by decide +kernel⟩, ⟨0x0990, by decide +kernel⟩⟩
theorem clause_retrainRequestWrite : ∃ (w : Byte) (s : State), Accepted s 0x3A02 1 [w] ∧ s.link.mode = .training ∧ writeAbort s 0x3A02 1 [w] = 0 :=
  ⟨1, { Wit.up with link := { Wit.up.link with mode := .training } }, by unfold Accepted; decide +kernel⟩
theorem clause_auxCommand : (∃ v : BitVec 32, v.toNat.testBit 28 = false) ∧ (∃ v : BitVec 32, v.toNat.testBit 28 = true) := ⟨⟨0, by decide⟩, ⟨0x10000000, by decide⟩⟩
theorem clause_controlword : (∃ s : State, fieldUp s = true ∧ (ce s 7).drive = .switchedOn) ∧ (∃ s : State, fieldUp s = true ∧ (ce s 7).drive = .operationEnabled) ∧
    (∃ s : State, fieldUp s = true ∧ (ce s 7).drive = .quickStopActive ∧ (ce s 7).setp ≠ .stopping ∧ (ce s 7).reaction = .hold) :=
  ⟨⟨setCe Wit.up 7 { drive := .switchedOn }, by decide +kernel⟩, ⟨setCe Wit.up 7 { drive := .operationEnabled }, by decide +kernel⟩,
   ⟨setCe Wit.up 7 { drive := .quickStopActive, reaction := .hold }, by decide +kernel⟩⟩

-- Witnesses: states and operands that meet the hypotheses of a statement, and of each clause of one.
theorem wit_ErrorEpisodesDiscardLaterFrames :
    (∃ (s : State) (d : Die) (f : Frame), (ropeEnd s d).episode = true ∧ f.seq ≠ ((ropeEnd s d).lastGood + 1) % 256) ∧
    (∃ (s : State) (d : Die) (f : Frame), (ropeEnd s d).episode = false ∧ f.seq ≠ ((ropeEnd s d).lastGood + 1) % 256) ∧
    (∃ (s : State) (d : Die) (f : Frame), (ropeEnd s d).episode = true ∧ f.seq = ((ropeEnd s d).lastGood + 1) % 256) :=
  ⟨⟨{ Wit.up with hend := { Wit.up.hend with episode := true, lastGood := 255 } }, .host, { Wit.frame with seq := 1 }, by decide +kernel⟩,
   ⟨Wit.up, .field, { Wit.frame with seq := 7 }, by decide +kernel⟩,
   ⟨{ Wit.up with hend := { Wit.up.hend with episode := true, lastGood := 255 } }, .host, Wit.frame, by decide +kernel⟩⟩

theorem wit_RopeFramesReadBackFromTheirLanes :
    (∃ (w : Nat) (f : Frame), (w = 1 ∨ w = 2 ∨ w = 4) ∧ f.cls < 8 ∧ f.kind < 4 ∧ f.seq < 256 ∧ (∀ a, f.ack = some a → a < 256) ∧
      f.crClass < 8 ∧ f.crCount < 32 ∧ f.tag < 65536 ∧ f.payload.length ≤ 256 ∧ f.stale = false ∧ f.arrived = 0) ∧
    (∃ (lanes : List (List Symbol)) (l : List Symbol), l ∈ lanes ∧ laneOctets l = none) :=
  ⟨⟨4, { mkFrame 7 3 65535 (List.replicate 256 5) false with seq := 255, ack := some 255, nak := true, crClass := 7, crCount := 31 }, by decide, by decide, by decide, by decide, by simp [mkFrame], by decide, by decide, by decide, by decide +kernel, by decide, by decide⟩,
   ⟨[[.start, .badCode, .stop]], _, List.mem_singleton.2 rfl, rfl⟩⟩

theorem wit_BootAndFaultRecordsReadBack : (∃ c : Control, c.tries < 256 ∧ c.seq < 2 ^ 32) ∧
    (∃ b : List Byte, (crc32 (b.take 60)).toNat ≠ fieldN b 60 4 ∨ fieldN b 0 4 ≠ 0x43424B49) ∧
    (∃ r : FaultRec, r.time < 2 ^ 64 ∧ -2 ^ 63 ≤ r.position ∧ r.position < 2 ^ 63 ∧ r.detail.length = 32) :=
  ⟨⟨⟨true, none, 255, 2 ^ 32 - 1⟩, by decide⟩, ⟨[], .inr (by decide)⟩, ⟨⟨8, 0, 0, 5, 2 ^ 64 - 1, -2 ^ 63, 0, 0, 0, 0, List.replicate 32 7⟩, by decide⟩⟩

theorem wit_StateFramesReadBack : (∃ p : Int, -2 ^ 55 ≤ p ∧ p < 2 ^ 55) ∧ ∃ l : List Byte, l.length ≠ 21 ∨ bits (symbolNat l) 143 128 ≠ (crc16 (leBytes 16 (symbolNat l))).toNat :=
  ⟨⟨-2 ^ 55, by decide⟩, ⟨List.replicate 21 0, by decide +kernel⟩⟩

theorem wit_PowerOnAndFullResetStartHostTimeAtZero : ∃ s : State, s.hboot.pending = some 7 ∧ s.hboot.full = true :=
  ⟨{ Wit.up with hboot := { mode := .running, pending := some 7, full := true } }, by decide +kernel⟩

theorem wit_HostClocksNeverTouchFieldClocks : ∃ s t : State, exec (.clockLossTimeout .host) s = .next t := ⟨Wit.up, _, rfl⟩

theorem wit_HostWarmResetLeavesTheFieldDie : ∃ s t : State, exec .hostWarmReset s = .next t ∧ s.hboot.pending = some 3 :=
  ⟨{ Wit.up with hboot := { mode := .running, pending := some 3 } }, _, rfl, rfl⟩

theorem wit_FieldResetLeavesEveryAxisStill : (∃ s t : State, s.fboot.mode ≠ .unpowered ∧ s.fboot.mode ≠ .held ∧ exec .fResetLLow s = .next t) ∧ ∃ s : State, fieldUp s = true :=
  ⟨⟨Wit.up, _, by decide, by decide, rfl⟩, ⟨Wit.up, by decide +kernel⟩⟩

theorem wit_TransmitterHoldsAtMost64Unacknowledged : (∃ (d : Die) (s t : State), exec (.ropeFrameTransmit d) s = .next t ∧ (ropeEnd s d).unacked.length ≤ 64) ∧
    (∃ (d : Die) (s : State), (ropeEnd s d).control = [] ∧ (ropeEnd s d).resend = [] ∧ 64 ≤ (ropeEnd s d).unacked.length) :=
  ⟨⟨.host, Wit.up, _, rfl, by decide +kernel⟩, ⟨.host, { Wit.up with hend := { unacked := List.replicate 64 (Wit.frame, 0) } }, by decide +kernel⟩⟩

theorem wit_StageSetObeysItsOwnerOnly : (∃ (r : Source) (n : Fin 4) (s : State), sourceUp s r = true ∧ (stg s n.val).mode.closed = true) ∧
    (∃ (r o : Source) (n : Fin 4) (s : State), sourceUp s r = true ∧ (stg s n.val).owner = some o ∧ o ≠ r ∧ (stg s n.val).mode.closed = false) :=
  ⟨⟨.master, 3, Wit.up, by decide +kernel⟩, ⟨.port, .master, 3, { Wit.up with sets := [(3, { mode := .opened, owner := some .master })] }, by decide +kernel⟩⟩

theorem wit_OnlyTheAliasWordIsWritable : ∃ (w : BitVec 16) (s : State), slaveUp s = true ∧ w ≠ 4 := ⟨5, Wit.up, by decide +kernel⟩

theorem wit_BadSegmentsAbortTheTransfer :
    (∃ (x : Bool) (t : SdoTransfer) (s : State), coeUp s = true ∧ s.bus.transfer = some t ∧ t.upload = false ∧ x ≠ t.toggle) ∧
    (∃ (x : Bool) (t : SdoTransfer) (s : State), coeUp s = true ∧ s.bus.transfer = some t ∧ t.upload = true ∧ x ≠ t.toggle) :=
  ⟨⟨true, ⟨0x2270, 1, false, false, 8, false, []⟩, { Wit.up with bus := { al := .op, transfer := some ⟨0x2270, 1, false, false, 8, false, []⟩ } }, by decide +kernel⟩,
   ⟨true, ⟨0x2270, 1, false, true, 8, false, []⟩, { Wit.up with bus := { al := .op, transfer := some ⟨0x2270, 1, false, true, 8, false, []⟩ } }, by decide +kernel⟩⟩

theorem wit_MmioRefusesUnalignedAccesses : (∃ (a : BitVec 40) (n : Nat) (s : State), hostHw s = true ∧ inMmio a.toNat = true ∧ ¬ ((n = 4 ∨ n = 8) ∧ a.toNat % n = 0)) ∧
    (∃ (a : BitVec 40) (s : State), hostHw s = true ∧ inMmio a.toNat = true ∧ a.toNat % 4 ≠ 0) :=
  ⟨⟨0x40000004, 8, Wit.up, by decide +kernel⟩, ⟨0x40000002, Wit.up, by decide +kernel⟩⟩

theorem wit_UnoccupiedMmioReadsZeroAndIgnoresWrites : ∃ (a : BitVec 40) (n : Nat) (s : State), hostHw s = true ∧ inMmio a.toNat = true ∧ blockAt a.toNat = none ∧ (n = 4 ∨ n = 8) ∧ a.toNat % n = 0 :=
  ⟨0x40080000, 4, Wit.up, by decide +kernel⟩

theorem wit_PoisonedCoreLoadFaults : ∃ (a : BitVec 40) (s : State), hostHw s = true ∧ inDram s a.toNat = true ∧ s.mem.poison.contains (a.toNat / 64 * 64) = true :=
  ⟨0x80000003F, { Wit.up with mem := { poison := [0x800000000] } }, by decide +kernel⟩

theorem wit_UnspecifiedBlocksAreRefusedByName :
    (∃ (a : BitVec 40) (n : Nat) (b : Nat × Nat × String × Bool) (s : State), hostHw s = true ∧ inMmio a.toNat = true ∧ (n = 4 ∨ n = 8) ∧ a.toNat % n = 0 ∧
      blockAt a.toNat = some b ∧ b.2.2.1 ∈ ["HPOS", "PCIE_MEM32"]) ∧
    (∃ (a : BitVec 40) (b : Nat × Nat × String × Bool) (s : State), hostHw s = true ∧ inMmio a.toNat = true ∧ a.toNat % 4 = 0 ∧
      blockAt a.toNat = some b ∧ b.2.2.1 ∈ ["HPOS", "PCIE_MEM32"]) ∧
    (∃ (a : BitVec 40) (s : State), hostHw s = true ∧ inMmio a.toNat = false ∧ inPcie a.toNat = true) :=
  ⟨⟨0x43040000, 8, (0x43040000, 0x10000, "HPOS", false), Wit.up, by decide +kernel⟩,
   ⟨0x7FFFFFFC, (0x60000000, 0x20000000, "PCIE_MEM32", false), Wit.up, by decide +kernel⟩, ⟨0x400000000, Wit.up, by decide +kernel⟩⟩

theorem wit_MemoryStoresWriteTheirOctetsOnly :
    (∃ (a : BitVec 40) (n : Nat) (s : State), hostHw s = true ∧ inMmio a.toNat = false ∧ inPcie a.toNat = false ∧ (linesOf a.toNat n).all (fun l => inDram s l) = true) ∧
    (∃ (p : PendingStore) (l : List PendingStore) (s : State), hostHw s = true ∧ s.mem.stores = p :: l) ∧
    (∃ (p : PendingStore) (s : State), EccResult.uncorrectable = .uncorrectable → s.mem.ecc = true → p.mask % 2 ^ 64 = 2 ^ 64 - 1) ∧
    (∃ (w : Origin) (a : BitVec 40) (s : State), hostHw s = true ∧ accessCause s w (a.toNat / 64 * 64) true = none) :=
  ⟨⟨0x80000003C, 8, Wit.up, by decide +kernel⟩, ⟨⟨portOrigin, 0x800000000, 1, [5]⟩, [], { Wit.up with mem := { stores := [⟨portOrigin, 0x800000000, 1, [5]⟩] } }, by decide +kernel⟩,
   ⟨⟨portOrigin, 0x800000000, 2 ^ 64 - 1, [5]⟩, { Wit.up with mem := { ecc := true } }, by decide +kernel⟩, ⟨portOrigin, 0x80000003F, Wit.open, by decide +kernel⟩⟩

theorem wit_EngineStoresChangeTheirOctetsOnly : (∃ (a : Nat) (d : List Byte) (c : Nat), ¬ (a ≤ c ∧ c < a + d.length)) ∧
    (∃ (s : State) (w : Origin) (a : Nat) (d : List Byte) (c : Nat), (engStore s w a d).2 = true ∧ a ≤ c ∧ c < a + d.length) :=
  ⟨⟨5, [1], 6, by decide⟩, ⟨Wit.open, portOrigin, 0x80000003F, [1, 2], 0x800000040, by decide +kernel⟩⟩

theorem wit_LoadsLeaveDramAsItIs : (∃ (w : Origin) (a : BitVec 40) (n : Nat) (e : EccResult) (s t : State), exec (.engineLoad w a n e) s = .next t) ∧
    (∃ (l : BitVec 40) (e : EccResult) (b : Bool) (s t : State), exec (.patrolScrub l e b) s = .next t) ∧
    (∃ (k : Fin 8) (s t : State), exec (.coreLateStoreFault k) s = .next t) ∧ (∃ s t : State, exec .bandwidthPeriod s = .next t) ∧
    (∃ (p : Fin 4) (q : Fin 8192) (s t : State), exec (.kvPrefetch p q) s = .next t) :=
  ⟨⟨portOrigin, 0x800000000, 8, .uncorrectable, Wit.open, _, rfl⟩, ⟨0x800000000, .uncorrectable, true, Wit.open, _, rfl⟩, ⟨3, Wit.up, _, rfl⟩, ⟨Wit.up, _, rfl⟩, ⟨1, 5, Wit.kv, _, rfl⟩⟩

theorem wit_ReleaseOfAnInvalidFlagIsCounted : ∃ (v : BitVec 32) (s : State), hostUp s = true ∧ (flag s (v.toNat % 1024)).mode ≠ .valid :=
  ⟨1023, Wit.up, by decide +kernel⟩

theorem wit_QueueTakesNothingUnlessEnabled : ∃ (q : Fin 4096) (s : State), (reg s (nqReg q.val 0x10)).testBit 0 = false ∨ (queueSettings s q.val).testBit 0 = false :=
  ⟨5, Wit.up, by decide +kernel⟩

theorem wit_EventsOutsideTheSensorAreCounted : (∃ s : State, s.lan.row = none) ∧ (∃ (s : State) (x : Nat), objN s 0x2C00 3 ≤ x) ∧
    (∃ s : State, ∃ y, s.lan.row = some y ∧ objN s 0x2C00 4 ≤ y) :=
  ⟨⟨Wit.up, rfl⟩, ⟨Wit.up, 2047, by decide +kernel⟩, ⟨{ Wit.up with lan := { row := some 2047 } }, 2047, by decide +kernel⟩⟩

theorem wit_LayerAddressesAreLatchedAtFrameStart : (∃ s : State, compRuns s = true) ∧ (∃ s : State, hostUp s = true) ∧
    (∃ s t : State, exec (.compLineStart 0 false false) s = .next t) :=
  ⟨⟨Wit.comp, by decide +kernel⟩, ⟨Wit.up, by decide +kernel⟩, ⟨Wit.up, _, rfl⟩⟩

theorem wit_HotPlugFallStopsTheOutput : (∃ s : State, hostUp s = true) ∧
    (∃ s : State, hostUp s = true ∧ dpVideo s = false ∧ s.comp.hpd = false ∧ (reg s (bCOMP + 0x44)).testBit 1 = false) :=
  ⟨⟨Wit.up, by decide +kernel⟩, ⟨Wit.up, by decide +kernel⟩⟩

theorem wit_LowStoChannelPutsItsAxesInTorqueOff : ∃ (n : Fin 2) (a : Fin 8) (s : State), fieldHw s = true ∧ namesSto s a.val n.val = true :=
  ⟨1, 7, putN Wit.up (axA 7 + 0x33) 5 2, by decide +kernel⟩

theorem wit_FieldSramErrorAssertsInternalSto : (∃ s : State, fieldHw s = true) ∧ ∃ s : State, fieldHw s = true ∧ fieldUp s = true :=
  ⟨⟨Wit.up, by decide +kernel⟩, ⟨Wit.up, by decide +kernel⟩⟩

theorem wit_FailedFlashWriteKeepsTheRecord : ∃ (r : FaultRec) (l : List FaultRec) (s : State), fieldUp s = true ∧ s.saf.unwritten = r :: l :=
  ⟨⟨9, 0, 0, 0, 0, 0, 0, 0, 0, 0, []⟩, [], { Wit.up with saf := { unwritten := [⟨9, 0, 0, 0, 0, 0, 0, 0, 0, 0, []⟩] } }, by decide +kernel⟩

theorem wit_HostOverTemperatureEntersOff : ∃ (x : Int) (s : State), s.pwr.mode ≠ .off ∧ gradeMax s + 100 < x := ⟨1101, Wit.up, by decide +kernel⟩

theorem wit_FieldTemperatureSetsErrorBit : (∃ (x : Int) (s : State), fieldHw s = true ∧ gradeMax s - 50 < x) ∧
    (∃ (x : Int) (s : State), fieldHw s = true ∧ ¬ (gradeMax s - 50 < x)) :=
  ⟨⟨951, Wit.up, by decide +kernel⟩, ⟨950, Wit.up, by decide +kernel⟩⟩

theorem wit_MissedAliveIntervalResetsTheHost : ∃ s : State, hostUp s = true ∧ s.hboot.aliveRun = true ∧ objN s 0x2005 1 ≠ 0 ∧ s.hboot.pending = none ∧ s.hboot.full = false :=
  ⟨putN { Wit.up with hboot := { mode := .running, aliveRun := true } } 0x2005 1 9, by decide +kernel⟩

theorem wit_NoKeyMeansNoImageAndNoBundle : (∃ x : Storage, x.keySet = false) ∧
    (∃ (n : Fin 4) (b : Bundle) (s : State), s.hboot.store.keySet = false ∧ hostUp s = true ∧ (mslot s n.val).mode = .loading ∧ (mslot s n.val).bundle = some b) :=
  ⟨⟨{ keySet := false }, rfl⟩, ⟨3, Wit.bundle, { Wit.up with hboot := { mode := .running, store := { keySet := false } }, gal := { slots := [(3, { mode := .loading, bundle := some Wit.bundle })] } }, by decide +kernel⟩⟩

theorem wit_CommandsLeaveTheQueueAlone : ∃ (c : Instr) (s t : State), exec c s = .next t := ⟨.bandwidthPeriod, Wit.up, _, rfl⟩

theorem wit_OtpAndDebugLockSurviveEveryStep : ∃ s t : State, step s = .next t ∧ s.pending = [.hostWarmReset] ∧ DebugInv s :=
  ⟨{ Wit.up with hboot := { mode := .running, pending := some 3 }, pending := [.hostWarmReset] }, _, rfl, rfl, by unfold DebugInv; decide +kernel⟩

theorem wit_FaultLogBoundsSurviveEveryStep : ∃ s t : State, LogInv s ∧ step s = .next t ∧ s.pending = [.fieldSramUncorrectable 0] :=
  ⟨{ Wit.up with pending := [.fieldSramUncorrectable 0] }, _, by unfold LogInv; decide +kernel, rfl, rfl⟩

theorem wit_MemoryStaysCanonical : ∃ s t : State, Memory.wf s = true ∧ step s = .next t ∧ s.pending = [.registerWrite true 0 0x800000000 8 5] :=
  ⟨{ Wit.up with pending := [.registerWrite true 0 0x800000000 8 5] }, _, by decide +kernel, rfl, rfl⟩

theorem wit_StepTakesTheFrontCommand : ∃ s : State, s.pending = [] := ⟨Wit.up, rfl⟩

theorem wit_meterSample : ∃ (mw : List Nat) (s : State), (s.pwr.mode ≠ .off) :=
  ⟨[1000], Wit.up, by decide +kernel⟩

theorem wit_governorTick : ∃ (s : State), (hostUp s = true) :=
  ⟨Wit.up, by decide +kernel⟩

theorem wit_governorDeltaP : ∃ (l a n : Nat) (s : State), (s.pwr.raise = some (l, a, n)) ∧ (100 ≤ n) :=
  ⟨2, 9000, 100, { Wit.up with pwr := { raise := some (2, 9000, 100) } }, by decide +kernel⟩

theorem wit_powerRequestActive : ∃ (s : State), (hostUp s = true) :=
  ⟨Wit.up, by decide +kernel⟩

theorem wit_powerRequestInspectIdle : ∃ (s : State), (hostUp s = true) ∧ ((reg s bCOMP).testBit 0 = false) :=
  ⟨Wit.up, by decide +kernel⟩

theorem wit_powerRequestLanternWatch : ∃ (s : State), (hostUp s = true) ∧ (s.pwr.pendingWatch = none) ∧ (watchBlocked s = false) ∧ (objN s 0x3620 1 % 32 ≠ 0) :=
  ⟨putN Wit.up 0x3620 1 4, by decide +kernel⟩

theorem wit_powerRequestOff : ∃ (s : State), (hostUp s = true) ∧ (s.pwr.pendingWatch = none) ∧ (watchBlocked s = false) :=
  ⟨Wit.up, by decide +kernel⟩

theorem wit_watchConsentRequest : ∃ (f : Frame) (t s : State), (takeIn s .field (isConsent 1) = some (f, t)) ∧ (fieldUp s = true) :=
  ⟨(Wit.took .field (isConsent 1) (Wit.atField Wit.ask)).1, (Wit.took .field (isConsent 1) (Wit.atField Wit.ask)).2, Wit.atField Wit.ask, by decide +kernel⟩

theorem wit_watchConsentReply : ∃ (f : Frame) (o : Bool) (t s : State), (takeIn s .host (isConsent 2) = some (f, t)) ∧ (hostUp s = true) ∧ (t.pwr.pendingWatch = some o) :=
  ⟨(Wit.took .host (isConsent 2) Wit.asked).1, false, (Wit.took .host (isConsent 2) Wit.asked).2, Wit.asked, by decide +kernel⟩

theorem wit_wakeBeacon : ∃ (s : State), (fieldBeacons s = true) ∧ ((objN s 0x3620 1).testBit 1 = true) ∧ (s.hboot.mode = .watch) :=
  ⟨putN { Wit.up with hboot := { mode := .watch }, link := {} } 0x3620 1 2, by decide +kernel⟩

theorem wit_hWakeLLow : ∃ (s : State), (s.hboot.mode = .watch) ∧ ((objN s 0x3620 1).testBit 2 = true) :=
  ⟨putN { Wit.up with hboot := { mode := .watch } } 0x3620 1 4, by decide +kernel⟩

theorem wit_wakeTimerExpiry : ∃ (s : State), (objN s 0x3620 3 ≠ 0) ∧ ((objN s 0x3620 1).testBit 3 = true) ∧ (s.hboot.mode = .watch) :=
  ⟨putN (putN { Wit.up with hboot := { mode := .watch } } 0x3620 3 5) 0x3620 1 8, by decide +kernel⟩

theorem wit_wakeHostCommand : ∃ (s : State), (fieldUp s = true) ∧ (objN s 0x3A30 1 = 1) :=
  ⟨putN Wit.up 0x3A30 1 1, by decide +kernel⟩

theorem wit_fieldBeaconDetect : ∃ (s : State), (fieldHw s = true) ∧ (hostHw s = true) ∧ (s.link.mode = .down) :=
  ⟨{ Wit.up with link := {} }, by decide +kernel⟩

theorem wit_railPowerGoodFailure : ∃ (r : Fin 15) (s : State), (railRises s r.val = true) :=
  ⟨3, { Wit.up with pwr := { rising := some true } }, by decide +kernel⟩

theorem wit_railPowerGoodLoss : ∃ (r : Fin 15) (s : State), (s.pwr.mode = .active ∨ s.pwr.mode = .inspectIdle) ∧ (s.pwr.pgood = true) ∧ (s.pwr.rails.getLsbD r.val = true) :=
  ⟨3, Wit.up, by decide +kernel⟩

theorem wit_meterSenseFailure : ∃ (d : Fin 11) (s : State), (s.pwr.mode ≠ .off) ∧ (d.val ≠ 0 ∨ 3 ≤ s.pwr.level) :=
  ⟨4, Wit.up, by decide +kernel⟩

theorem wit_hostTempSample : ∃ (t : Int) (s : State), (s.pwr.mode ≠ .off) ∧ (t ≤ gradeMax s + 100) :=
  ⟨250, Wit.up, by decide +kernel⟩

theorem wit_fieldTempSample : ∃ (t : Int) (s : State), (fieldHw s = true) ∧ (t ≤ gradeMax s + 100) :=
  ⟨250, Wit.up, by decide +kernel⟩

theorem wit_hostVinRise : ∃ (s : State), (s.hboot.hold.testBit 0 = true ∨ s.hboot.mode = .off ∨ s.hboot.mode = .unpowered) :=
  ⟨{ Wit.up with hboot := { mode := .off } }, by decide +kernel⟩

theorem wit_hostVinLow : ∃ (s : State), (s.hboot.mode ≠ .off) :=
  ⟨Wit.up, by decide +kernel⟩

theorem wit_hostVinHigh : ∃ (s : State), (s.hboot.mode ≠ .off) :=
  ⟨Wit.up, by decide +kernel⟩

theorem wit_hostCrystalStop : ∃ (s : State), (s.hboot.mode ≠ .off) :=
  ⟨Wit.up, by decide +kernel⟩

theorem wit_hostCrystalRestart : ∃ (s : State), (s.hboot.hold.testBit 2 = true) :=
  ⟨{ Wit.up with hboot := { hold := 4 } }, by decide +kernel⟩

theorem wit_fieldVinRise : ∃ (s : State), (s.fboot.hold.testBit 0 = true) :=
  ⟨{ Wit.up with fboot := { mode := .held, hold := 1 } }, by decide +kernel⟩

theorem wit_fieldVinHighRelease : ∃ (s : State), (s.fboot.hold.testBit 1 = true) :=
  ⟨{ Wit.up with fboot := { mode := .held, hold := 2 } }, by decide +kernel⟩

theorem wit_tcxoRestart : ∃ (s : State), (s.fboot.hold.testBit 2 = true) :=
  ⟨{ Wit.up with fboot := { mode := .held, hold := 4 } }, by decide +kernel⟩

theorem wit_hResetLLow : ∃ (s : State), (s.hboot.mode = .running ∨ s.hboot.mode = .rom ∨ s.hboot.mode = .recovery) ∧ (s.hboot.pending = none) :=
  ⟨Wit.up, by decide +kernel⟩

theorem wit_fResetLLow : ∃ (s : State), (s.fboot.mode ≠ .unpowered) ∧ (s.fboot.mode ≠ .held) :=
  ⟨Wit.up, by decide +kernel⟩

theorem wit_hostWarmReset : ∃ (c : Nat) (s : State), (s.hboot.pending = some c) :=
  ⟨3, { Wit.up with hboot := { mode := .running, pending := some 3 } }, by decide +kernel⟩

theorem wit_hostResetRequest : ∃ (s : State), (hostUp s = true) ∧ (s.hboot.pending = none) :=
  ⟨Wit.up, by decide +kernel⟩

theorem wit_fieldOnlyResetCommand : ∃ (s : State), (fieldUp s = true) :=
  ⟨Wit.up, by decide +kernel⟩

theorem wit_fullResetCommand : ∃ (s : State), (fieldUp s = true) ∧ (hostAnswers s = true) :=
  ⟨Wit.up, by decide +kernel⟩

theorem wit_fullResetRequest : ∃ (f : Frame) (t s : State), (takeIn s .host isFullReset = some (f, t)) ∧ (t.hboot.mode = .running ∨ t.hboot.mode = .rom ∨ t.hboot.mode = .recovery) ∧ (t.hboot.pending = none) :=
  ⟨(Wit.took .host isFullReset (Wit.atHost Wit.fullAsk)).1, (Wit.took .host isFullReset (Wit.atHost Wit.fullAsk)).2, Wit.atHost Wit.fullAsk, by decide +kernel⟩

theorem wit_fullResetDelayExpiry : ∃ (c n : Nat) (s : State), (s.fboot.pending = some c) ∧ (s.fboot.askedAt = some n) ∧ (n + 200000 ≤ s.fclk.ticks) :=
  ⟨5, 7, { Wit.up with fboot := { mode := .running, pending := some 5, askedAt := some 7 }, fclk := { ticks := 200007 } }, by decide +kernel⟩

theorem wit_ropeAlive : ∃ (v : BitVec 32) (s : State), (hostUp s = true) :=
  ⟨1, Wit.up, by decide +kernel⟩

theorem wit_aliveExpiry : ∃ (s : State), (hostUp s = true) ∧ (s.hboot.aliveRun = true) ∧ (objN s 0x2005 1 ≠ 0) ∧ (s.hboot.pending = none) :=
  ⟨putN { Wit.up with hboot := { mode := .running, aliveRun := true } } 0x2005 1 9, by decide +kernel⟩

theorem wit_bootLimitExpiry : ∃ (s : State), (s.hboot.limitRun = true) ∧ (s.hboot.mode = .running ∨ s.hboot.mode = .rom ∨ s.hboot.mode = .recovery) ∧ (s.hboot.pending = none) :=
  ⟨{ Wit.up with hboot := { mode := .running, limitRun := true } }, by decide +kernel⟩

theorem wit_supervisorLockstepMismatch : ∃ (s : State), (s.hboot.mode = .running ∨ s.hboot.mode = .rom ∨ s.hboot.mode = .recovery) ∧ (s.hboot.pending = none) :=
  ⟨Wit.up, by decide +kernel⟩

theorem wit_commitHostTrial : ∃ (s : State), (hostUp s = true) ∧ (s.hboot.trial = true) :=
  ⟨{ Wit.up with hboot := { mode := .running, trial := true } }, by decide +kernel⟩

theorem wit_commitFieldTrial : ∃ (s : State), (fieldUp s = true) ∧ (s.fboot.trial = true) :=
  ⟨{ Wit.up with fboot := { mode := .running, trial := true } }, by decide +kernel⟩

theorem wit_installHostImage : ∃ (a : BitVec 64) (k : Bool) (s : State), (hostUp s = true) ∧ (inDram s a.toNat = true) :=
  ⟨0x800000000, true, Wit.up, by decide +kernel⟩

theorem wit_motionOverrideWrite : ∃ (s : State), (fieldUp s = true) ∧ (s.link.outcome = 2) :=
  ⟨{ Wit.up with link := { outcome := 2 } }, by decide +kernel⟩

theorem wit_hostBoot : ∃ (d : Bool) (k : List (Fin 8)) (b : Bool) (s : State), (s.hboot.mode = .rom) ∧ (s.hBoot ≠ 3) ∧ ((chooseSlot true s.hboot.store).slot = some b) :=
  ⟨true, [], false, Wit.boot, by decide +kernel⟩

theorem wit_fieldBoot : ∃ (b : Bool) (s : State), (s.fboot.mode = .rom) ∧ ((chooseSlot false s.fboot.store).slot = some b) :=
  ⟨false, Wit.boot, by decide +kernel⟩

theorem wit_levelsFrame : ∃ (f : Frame) (t s : State), (ropeUp s = true) ∧ (s.link.levelsDue = true) :=
  ⟨Wit.frame, Wit.up, { Wit.up with link := { Wit.up.link with levelsDue := true } }, by decide +kernel⟩

theorem wit_heartbeatTimeout : ∃ (s : State), (fieldUp s = true) ∧ (s.fend.timing = true) ∧ (s.fend.lost = false) ∧ (objN s 0x3A30 1 ≠ 1) :=
  ⟨{ Wit.up with fend := { timing := true } }, by decide +kernel⟩

theorem wit_fieldHeartbeatTimeout : ∃ (s : State), (hostHw s = true) ∧ (s.hend.timing = true) ∧ (s.hend.lost = false) :=
  ⟨{ Wit.up with hend := { timing := true } }, by decide +kernel⟩

theorem wit_partnerBootTimeout : ∃ (s : State), (fieldUp s = true) ∧ (hostHw s = true) :=
  ⟨{ Wit.up with fend := { awaiting := true }, hend := { awaiting := true } }, by decide +kernel⟩

theorem wit_fieldFirmwareHalt : ∃ (s : State), (fieldUp s = true) :=
  ⟨Wit.up, by decide +kernel⟩

theorem wit_lockstepMismatch : ∃ (s : State), (fieldHw s = true) :=
  ⟨Wit.up, by decide +kernel⟩

theorem wit_tripWatchdogExpiry : ∃ (s : State), (fieldHw s = true) ∧ (watchdogOver s = true) :=
  ⟨{ Wit.up with saf := { refreshAt := some 0 }, fclk := { ticks := 10000000 } }, by decide +kernel⟩

theorem wit_fieldSramUncorrectable : ∃ (a : BitVec 64) (s : State), (fieldHw s = true) :=
  ⟨0, Wit.up, by decide +kernel⟩

theorem wit_faultLogFlashWrite : ∃ (r : FaultRec) (t : List FaultRec) (s : State), (fieldUp s = true) ∧ (s.saf.unwritten = r :: t) :=
  ⟨⟨9, 0, 0, 0, 0, 0, 0, 0, 0, 0, []⟩, [], { Wit.up with saf := { unwritten := [⟨9, 0, 0, 0, 0, 0, 0, 0, 0, 0, []⟩] } }, by decide +kernel⟩

theorem wit_lineEncoderEdge : ∃ (a b : Bool) (m n : Nat) (s : State), (fieldHw s = true) ∧ (objN s 0x2201 1 = 0) ∧ (objN s 0x2201 2 ≤ m) ∧ (objN s 0x2201 2 ≤ n) :=
  ⟨true, false, 9, 9, Wit.up, by decide +kernel⟩

theorem wit_hostEntryPush : ∃ (f : Frame) (t s : State), (takeIn s .host (isPush 0x2250 0x2257) = some (f, t)) ∧ (hostHw s = true) :=
  ⟨(Wit.took .host (isPush 0x2250 0x2257) (Wit.atHost Wit.entryPush)).1, (Wit.took .host (isPush 0x2250 0x2257) (Wit.atHost Wit.entryPush)).2, Wit.atHost Wit.entryPush, by decide +kernel⟩

theorem wit_fractionTick : ∃ (s : State), (fieldHw s = true) ∧ (hostHw s = true) ∧ (s.link.tallyLock = true) :=
  ⟨Wit.up, by decide +kernel⟩

theorem wit_pulseUsEnd : ∃ (pin : OutPin) (p : Pulse) (s : State), (s.pulses.find? (fun q => decide (q.pin = pin) && q.endAt.isNone && decide (q.left = 0)) = some p) :=
  ⟨.lpo 0, ⟨.lpo 0, none, 0, 0, false⟩, { Wit.up with pulses := [⟨.lpo 0, none, 0, 0, false⟩] }, by decide +kernel⟩

theorem wit_standstillTimeout : ∃ (s : State), (s.pos.mode = .measured ∨ s.pos.mode = .rejoined) :=
  ⟨{ Wit.up with pos := { mode := .measured } }, by decide +kernel⟩

theorem wit_replicaEdgeApply : ∃ (b : Byte) (s : State), (hostHw s = true) ∧ (s.link.tallyLock = true) ∧ (b.getLsbD 7 = true) :=
  ⟨0x80, Wit.up, by decide +kernel⟩

theorem wit_stateFrame : ∃ (r : Option (List Byte)) (f : TallyFrame) (s : State), (hostHw s = true) ∧ (s.link.tallyLock = true) ∧ (frameRead (r.getD (frameSent s)) = some f) :=
  ⟨none, (frameRead (frameSent Wit.up)).getD ⟨0, 0, 0, 0⟩, Wit.up, by decide +kernel⟩

theorem wit_stateFrameTimeout : ∃ (s : State), (hostHw s = true) :=
  ⟨Wit.up, by decide +kernel⟩

theorem wit_followerSample : ∃ (s : State), (fieldUp s = true) ∧ (follower s = true) ∧ (s.pos.sample0 = none) :=
  ⟨putN Wit.up 0x2201 1 2, by decide +kernel⟩

theorem wit_followerSyntheticEdge : ∃ (s : State), (fieldHw s = true) ∧ (s.pos.mode = .following) ∧ (followFwd s = true) ∧ (0 ≤ wrapRat (followLine s - (((s.pos.count + 1) * 256 : Int) : Rat))) :=
  ⟨{ Wit.up with pos := { mode := .following, sample0 := some (512, 0) } }, by decide +kernel⟩

theorem wit_followerSampleTimeout : ∃ (s : State), (fieldHw s = true) ∧ (follower s = true) :=
  ⟨putN Wit.up 0x2201 1 2, by decide +kernel⟩

theorem wit_lineBreak : ∃ (s : State), (fieldHw s = true) ∧ (follower s = false) :=
  ⟨Wit.up, by decide +kernel⟩

theorem wit_encoderValid : ∃ (s : State), (fieldHw s = true) ∧ (follower s = false) ∧ (s.pos.encOk = false) :=
  ⟨{ Wit.up with pos := { encOk := false } }, by decide +kernel⟩

theorem wit_estimatedSyntheticEdge : ∃ (s : State), (fieldHw s = true) ∧ (s.pos.mode = .estimated) ∧ (s.pos.v ≠ 0) :=
  ⟨{ Wit.up with pos := { mode := .estimated, v := 1 } }, by decide +kernel⟩

theorem wit_indexMark : ∃ (n : Nat) (s : State), (fieldHw s = true) ∧ (objN s 0x2201 2 ≤ n) :=
  ⟨9, Wit.up, by decide +kernel⟩

theorem wit_expectationMiss : ∃ (c : Int) (s : State), (fieldUp s = true) ∧ (s.saf.expectFrom = some c) ∧ (objN s 0x3414 1 ≠ 0) ∧ (s.pos.mode ≠ .invalid) ∧ (s.pos.reverse = false) ∧ (((objN s 0x3414 1 + objN s 0x3411 1 : Nat) : Int) < wrap48 (s.pos.count - c)) :=
  ⟨0, putN (putN { Wit.up with pos := { mode := .measured, count := 100 }, saf := { expectFrom := some 0 } } 0x3414 1 5) 0x3411 1 1, by decide +kernel⟩

theorem wit_fieldTimeTick : ∃ (s : State), (fieldClocks s = true) :=
  ⟨Wit.up, by decide +kernel⟩

theorem wit_hostPtpTick : ∃ (s : State), (hostHw s = true) :=
  ⟨Wit.up, by decide +kernel⟩

theorem wit_replicaSymbolTick : ∃ (s : State), (hostHw s = true) :=
  ⟨Wit.up, by decide +kernel⟩

theorem wit_driftFrame : ∃ (r : BitVec 64) (s : State), (fieldClocks s = true) :=
  ⟨1000, Wit.up, by decide +kernel⟩

theorem wit_systemTimeOffsetWrite : ∃ (v : BitVec 64) (s : State), (fieldClocks s = true) :=
  ⟨1000, Wit.up, by decide +kernel⟩

theorem wit_slewEnd : ∃ (q : Rat) (s : State), (s.fclk.slew = some q) ∧ (rabs q < 1) :=
  ⟨0, { Wit.up with fclk := { slew := some 0 } }, by decide +kernel⟩

theorem wit_ptpSyncMessage : ∃ (m : PtpSync) (s : State), (hostHw s = true) ∧ (m.selected = true) :=
  ⟨⟨0, true, 10, 20, 0, 1000000000, 0, 0, 0, 0⟩, Wit.up, by decide +kernel⟩

theorem wit_clockLossTimeout : ∃ (s : State), (fieldHw s = true) ∧ (hostHw s = true) :=
  ⟨Wit.up, by decide +kernel⟩

theorem wit_holdoverLimitExpiry : ∃ (s : State), (fieldHw s = true) ∧ (s.fclk.mode = .holdover) ∧ (s.fclk.holdRun = true) :=
  ⟨{ Wit.up with fclk := { mode := .holdover, holdRun := true } }, by decide +kernel⟩

theorem wit_sync0Edge : ∃ (g : Nat) (s : State), (fieldHw s = true) ∧ (s.sync.next0 = some g) ∧ (g ≤ s.fclk.time) ∧ (objB s 0x2260 1 = false) :=
  ⟨0, { Wit.up with sync := { next0 := some 0 } }, by decide +kernel⟩

theorem wit_sync1Edge : ∃ (g : Nat) (s : State), (fieldHw s = true) ∧ (s.sync.next1 = some g) ∧ (g ≤ s.fclk.time) :=
  ⟨0, { Wit.up with sync := { next1 := some 0 } }, by decide +kernel⟩

theorem wit_latchEdge : ∃ (i : Fin 2) (r : Bool) (s : State), (fieldHw s = true) :=
  ⟨0, true, Wit.up, by decide +kernel⟩

theorem wit_timeEventFire : ∃ (n : Fin 64) (s : State), (fieldHw s = true) ∧ (tArmed (timeEntry s n.val) = true) ∧ (0 ≤ timePast s (timeEntry s n.val)) :=
  ⟨0, { Wit.up with tEntries := [(0, 0x80000000000000000000000000000000)] }, by decide +kernel⟩

theorem wit_ethernetLinkLoss : ∃ (s : State), (hostHw s = true) :=
  ⟨Wit.up, by decide +kernel⟩

theorem wit_ropeFrameTransmit : ∃ (d : Die) (s : State), (ropeUp s = true) :=
  ⟨.host, Wit.up, by decide +kernel⟩

theorem wit_ropeFrameReceive : ∃ (d : Die) (r : Arrival) (s : State), (ropeUp s = true) :=
  ⟨.host, .asSent, Wit.onWire Wit.frame, by decide +kernel⟩

theorem wit_linkFrame : ∃ (d : Die) (f : Frame) (t s : State), (ropeUp s = true) ∧ (takeControl s d 1 = some (f, t)) :=
  ⟨.host, (takeControl (Wit.onWire (linkFrame false)) .host 1).get (by decide +kernel) |>.1, ((takeControl (Wit.onWire (linkFrame false)) .host 1).get (by decide +kernel)).2, Wit.onWire (linkFrame false), by decide +kernel⟩

theorem wit_ackDue : ∃ (d : Die) (s : State), (ropeUp s = true) ∧ (0 < (ropeEnd s d).goodRun) :=
  ⟨.field, { Wit.up with fend := { goodRun := 1 } }, by decide +kernel⟩

theorem wit_creditReturn : ∃ (d : Die) (f : Frame) (t s : State), (takeIn s d (fun g => !ownCommand s d g) = some (f, t)) :=
  ⟨.field, (Wit.took .field (fun g => !ownCommand (Wit.atField Wit.frame) .field g) (Wit.atField Wit.frame)).1, (Wit.took .field (fun g => !ownCommand (Wit.atField Wit.frame) .field g) (Wit.atField Wit.frame)).2, Wit.atField Wit.frame, by decide +kernel⟩

theorem wit_replayTimeout : ∃ (d : Die) (s : State), (ropeUp s = true) :=
  ⟨.field, Wit.up, by decide +kernel⟩

theorem wit_pairFault : ∃ (p : Fin 4) (s : State), (s.link.mode ≠ .down) ∧ (s.link.healthy.getLsbD p.val = true) :=
  ⟨2, Wit.up, by decide +kernel⟩

theorem wit_retrainReqFrame : ∃ (w : BitVec 3) (m : Option (BitVec 4)) (f : Frame) (t s : State), (hostHw s = true) ∧ (s.link.mode = .up) ∧ (takeControl s .field 2 = some (f, t)) :=
  ⟨2, none, (takeControl Wit.reqOnWire .field 2).get (by decide +kernel) |>.1, ((takeControl Wit.reqOnWire .field 2).get (by decide +kernel)).2, Wit.reqOnWire, by decide +kernel⟩

theorem wit_retrainPairFail : ∃ (p : Fin 4) (s : State), (s.link.mode = .training) :=
  ⟨1, { Wit.up with link := { mode := .training } }, by decide +kernel⟩

theorem wit_trainingAttempt : ∃ (p : BitVec 4) (s : State), (fieldHw s = true) ∧ (hostHw s = true) ∧ (s.link.mode = .down) ∧ (p ≠ 0) ∧ (objN s 0x3A30 1 ≠ 1 ∨ s.link.beacon = true) :=
  ⟨15, { Wit.up with link := {} }, by decide +kernel⟩

theorem wit_linkUp : ∃ (p : BitVec 4) (d : BitVec 16) (s : State), (fieldHw s = true) ∧ (hostUp s = true ∨ s.hboot.mode = .recovery) ∧ (s.link.mode ≠ .up) :=
  ⟨15, 40, { Wit.up with link := { mode := .training } }, by decide +kernel⟩

theorem wit_tallyLockAcquired : ∃ (d : BitVec 16) (s : State), (fieldHw s = true) ∧ (hostHw s = true) :=
  ⟨30, Wit.up, by decide +kernel⟩

theorem wit_tallyLockLoss : ∃ (s : State), (s.link.tallyLock = true) :=
  ⟨Wit.up, by decide +kernel⟩

theorem wit_fieldHeartbeatSend : ∃ (s : State), (fieldHw s = true) ∧ (s.link.mode ≠ .down) :=
  ⟨Wit.up, by decide +kernel⟩

theorem wit_hostHeartbeatSend : ∃ (s : State), (hostHw s = true) ∧ (s.link.mode ≠ .down) :=
  ⟨Wit.up, by decide +kernel⟩

theorem wit_hostHeartbeatReceive : ∃ (f : Frame) (t s : State), (takeIn s .field isHeartbeat = some (f, t)) ∧ (fieldHw s = true) :=
  ⟨(Wit.took .field isHeartbeat (Wit.atField (mkFrame 0 0 0 (List.replicate 28 0)))).1, (Wit.took .field isHeartbeat (Wit.atField (mkFrame 0 0 0 (List.replicate 28 0)))).2, Wit.atField (mkFrame 0 0 0 (List.replicate 28 0)), by decide +kernel⟩

theorem wit_fieldHeartbeatReceive : ∃ (f : Frame) (t s : State), (takeIn s .host isHeartbeat = some (f, t)) ∧ (hostHw s = true) :=
  ⟨(Wit.took .host isHeartbeat (Wit.atHost (mkFrame 0 0 0 (List.replicate 16 0)))).1, (Wit.took .host isHeartbeat (Wit.atHost (mkFrame 0 0 0 (List.replicate 16 0)))).2, Wit.atHost (mkFrame 0 0 0 (List.replicate 16 0)), by decide +kernel⟩

theorem wit_loadReport : ∃ (s : State), (reportsCross s = true) ∧ (0 < s.replica.loads) :=
  ⟨{ Wit.up with replica := { loads := 1 } }, by decide +kernel⟩

theorem wit_hostPairPush : ∃ (f : Frame) (t s : State), (takeIn s .host (isPush 0x2280 0x2280) = some (f, t)) ∧ (hostHw s = true) :=
  ⟨(Wit.took .host (isPush 0x2280 0x2280) (Wit.atHost (mkFrame 3 0 0 (leBytes 8 0x2280 ++ List.replicate 24 0)))).1, (Wit.took .host (isPush 0x2280 0x2280) (Wit.atHost (mkFrame 3 0 0 (leBytes 8 0x2280 ++ List.replicate 24 0)))).2, Wit.atHost (mkFrame 3 0 0 (leBytes 8 0x2280 ++ List.replicate 24 0)), by decide +kernel⟩

theorem wit_ptpConfigPush : ∃ (f : Frame) (t s : State), (takeIn s .host (isPush 0x2281 0x2281) = some (f, t)) ∧ (hostHw s = true) :=
  ⟨(Wit.took .host (isPush 0x2281 0x2281) (Wit.atHost (mkFrame 3 0 0 (leBytes 2 0x2281 ++ [9, 2, 0, 0, 0, 0, 1])))).1, (Wit.took .host (isPush 0x2281 0x2281) (Wit.atHost (mkFrame 3 0 0 (leBytes 2 0x2281 ++ [9, 2, 0, 0, 0, 0, 1])))).2, Wit.atHost (mkFrame 3 0 0 (leBytes 2 0x2281 ++ [9, 2, 0, 0, 0, 0, 1])), by decide +kernel⟩

theorem wit_fireReport : ∃ (n p : Nat) (e : BitVec 128) (l : List (Nat × Nat × BitVec 128)) (s : State), (s.replica.fires = (n, p, e) :: l) ∧ (reportsCross s = true) :=
  ⟨3, 0, 5, [], { Wit.up with replica := { fires := [(3, 0, 5)] } }, by decide +kernel⟩

theorem wit_postedWriteReceive : ∃ (q : DictReq) (t s : State), (takeRequest s 3 [3, 6] = some (t, q)) ∧ (safeObj q.index q.sub = false) :=
  ⟨(Wit.tookReq 3 [3, 6] Wit.posted).2, (Wit.tookReq 3 [3, 6] Wit.posted).1, Wit.posted, by decide +kernel⟩

theorem wit_confirmedWriteReceive : ∃ (c : Fin 8) (q : DictReq) (t s : State), (takeRequest s c.val [2, 5] = some (t, q)) :=
  ⟨3, (Wit.tookReq 3 [2, 5] Wit.confirmed).2, (Wit.tookReq 3 [2, 5] Wit.confirmed).1, Wit.confirmed, by decide +kernel⟩

theorem wit_readRequestReceive : ∃ (q : DictReq) (t s : State), (takeRequest s 3 [1, 4] = some (t, q)) ∧ (fieldOwned q.index = true) ∧ ((readAny t q.index q.sub q.complete).2.length ≤ 248) :=
  ⟨(Wit.tookReq 3 [1, 4] Wit.readAsk).2, (Wit.tookReq 3 [1, 4] Wit.readAsk).1, Wit.readAsk, by decide +kernel⟩

theorem wit_sdoDownload : ∃ (i : BitVec 16) (k : Byte) (d : List Byte) (s : State), (coeUp s = true) ∧ (fieldOwned i.toNat = true) ∧ ((writeAny (endTransfer s) .master .master i.toNat k.toNat false d).2 = some 0) :=
  ⟨0x2270, 1, [1, 0, 0, 0, 0, 0, 0, 0], Wit.up, by decide +kernel⟩

theorem wit_sdoUpload : ∃ (i : BitVec 16) (k : Byte) (c : Bool) (s : State), (coeUp s = true) ∧ (fieldOwned i.toNat = true) ∧ ((readAny (endTransfer s) i.toNat k.toNat c).1 = 0) :=
  ⟨0x2201, 1, false, Wit.up, by decide +kernel⟩

theorem wit_sdoDownloadSegment : ∃ (t : SdoTransfer) (d : List Byte) (s : State), (coeUp s = true) ∧ (s.bus.transfer = some t) ∧ (t.upload = false) ∧ (fieldOwned t.index = true) ∧ ((t.data ++ d).length ≤ t.total) :=
  ⟨{ index := 0x2220, sub := 4, complete := false, upload := false, total := 8, toggle := false, data := [] }, [1], { Wit.up with bus := { al := .op, transfer := some { index := 0x2220, sub := 4, complete := false, upload := false, total := 8, toggle := false, data := [] } } }, by decide +kernel⟩

theorem wit_sdoUploadSegment : ∃ (t : SdoTransfer) (s : State), (coeUp s = true) ∧ (s.bus.transfer = some t) ∧ (t.upload = true) :=
  ⟨{ index := 0x2220, sub := 4, complete := false, upload := true, total := 8, toggle := false, data := [1] }, { Wit.up with bus := { al := .op, transfer := some { index := 0x2220, sub := 4, complete := false, upload := true, total := 8, toggle := false, data := [1] } } }, by decide +kernel⟩

theorem wit_sdoUnknownSpecifier : ∃ (b : Byte) (t : SdoTransfer) (s : State), (coeUp s = true) ∧ (s.bus.transfer = some t) :=
  ⟨9, { index := 0x2220, sub := 4, complete := false, upload := true, total := 8, toggle := false, data := [1] }, { Wit.up with bus := { al := .op, transfer := some { index := 0x2220, sub := 4, complete := false, upload := true, total := 8, toggle := false, data := [1] } } }, by decide +kernel⟩

theorem wit_sdoInfoOdList : ∃ (s : State), (coeUp s = true) :=
  ⟨Wit.up, by decide +kernel⟩

theorem wit_sdoInfoObjectDescription : ∃ (i : BitVec 16) (s : State), (coeUp s = true) ∧ (fieldOwned i.toNat = true) ∧ (rowsField.any (fun r => r.hasIndex i.toNat) = true) :=
  ⟨0x2201, Wit.up, by decide +kernel⟩

theorem wit_sdoInfoEntryDescription : ∃ (i : BitVec 16) (k : Byte) (r : Row) (s : State), (coeUp s = true) ∧ (fieldOwned i.toNat = true) ∧ (row? i.toNat k.toNat = some r) :=
  ⟨0x2201, 1, (row? 0x2201 1).get (by decide +kernel), Wit.up, by decide +kernel⟩

theorem wit_mailboxUnsupported : ∃ (p : Byte) (s : State), (fieldUp s = true) ∧ (s.bus.al ≠ .init) ∧ (p ≠ 3) ∧ (p ≠ 4) :=
  ⟨5, Wit.up, by decide +kernel⟩

theorem wit_forwardAnswerArrival : ∃ (r : Frame) (f : Forward) (t s : State), (takeIn s .field isForwardAnswer = some (r, t)) ∧ (fieldUp s = true) ∧ (t.bus.forwards.find? (fun g => g.tag == r.tag) = some f) :=
  ⟨(Wit.took .field isForwardAnswer Wit.answered).1, Wit.forward, (Wit.took .field isForwardAnswer Wit.answered).2, Wit.answered, by decide +kernel⟩

theorem wit_forwardedRequestArrival : ∃ (f : Frame) (d : List Byte) (n : Nat) (l : List Nat) (t s : State), (takeIn s .host isForward = some (f, t)) ∧ (hostUp s = true) ∧ (portRunning s = true) ∧ (d2hFree s = true) ∧ (forwardSofar t f = some d) ∧ (freeSlots t = n :: l) :=
  ⟨(Wit.took .host isForward Wit.forwarded).1, [], 0, (List.range 16).tail, (Wit.took .host isForward Wit.forwarded).2, Wit.forwarded, by decide +kernel⟩

theorem wit_forwardTimeout : ∃ (t : BitVec 16) (f : Forward) (s : State), (fieldUp s = true) ∧ (s.bus.forwards.find? (fun g => g.tag == t.toNat) = some f) :=
  ⟨1, Wit.forward, { Wit.up with bus := { al := .op, forwards := [Wit.forward] } }, by decide +kernel⟩

theorem wit_class2RecordReceive : ∃ (f : Frame) (t s : State), (takeIn s .host (fun f => f.cls == 2 && !isFaultRecord f) = some (f, t)) ∧ (hostUp s = true) :=
  ⟨(Wit.took .host (fun f => f.cls == 2 && !isFaultRecord f) (Wit.atHost (mkFrame 2 0 0 [2, 0]))).1, (Wit.took .host (fun f => f.cls == 2 && !isFaultRecord f) (Wit.atHost (mkFrame 2 0 0 [2, 0]))).2, Wit.atHost (mkFrame 2 0 0 [2, 0]), by decide +kernel⟩

theorem wit_faultLogRecordReceive : ∃ (f : Frame) (t s : State), (hostUp s = true) ∧ (fieldUp s = true) :=
  ⟨(Wit.took .field isFaultRecord (Wit.atField (mkFrame 2 0 0 ([6, 0, 0, 0] ++ List.replicate 64 0)))).1, (Wit.took .field isFaultRecord (Wit.atField (mkFrame 2 0 0 ([6, 0, 0, 0] ++ List.replicate 64 0)))).2, Wit.atField (mkFrame 2 0 0 ([6, 0, 0, 0] ++ List.replicate 64 0)), by decide +kernel⟩

theorem wit_aliasPush : ∃ (s : State), (fieldUp s = true) ∧ (hostUp s = true) ∧ (crosses s 3 = true) :=
  ⟨Wit.up, by decide +kernel⟩

theorem wit_sStatusMessage : ∃ (f : Frame) (t s : State), (takeIn s .field isSStatus = some (f, t)) ∧ (fieldUp s = true) :=
  ⟨(Wit.took .field isSStatus (Wit.atField (mkFrame 1 1 0 (leBytes 24 0x10)))).1, (Wit.took .field isSStatus (Wit.atField (mkFrame 1 1 0 (leBytes 24 0x10)))).2, Wit.atField (mkFrame 1 1 0 (leBytes 24 0x10)), by decide +kernel⟩

theorem wit_portRead : ∃ (e : H2d) (t s : State), (portRequest s 1 = some (t, e)) :=
  ⟨(Wit.h2d 1).2, (Wit.h2d 1).1, Wit.ported 1 1, by decide +kernel⟩

theorem wit_portConfirmedWrite : ∃ (e : H2d) (t s : State), (portRequest s 2 = some (t, e)) ∧ ((portData t e).2.1 = 0) :=
  ⟨(Wit.h2d 2).2, (Wit.h2d 2).1, Wit.ported 1 2, by decide +kernel⟩

theorem wit_portPostedWrite : ∃ (e : H2d) (t s : State), (portRequest s 3 = some (t, e)) ∧ ((portData t e).2.1 = 0) :=
  ⟨(Wit.h2d 3).2, (Wit.h2d 3).1, Wit.ported 1 3, by decide +kernel⟩

theorem wit_portWriteSegment : ∃ (e : H2d) (t s : State), (portRequest s 5 = some (t, e)) ∧ ((portData t e).2.1 = 0) :=
  ⟨(Wit.h2d 5).2, (Wit.h2d 5).1, Wit.ported 1 5, by decide +kernel⟩

theorem wit_portReadSegment : ∃ (e : H2d) (t s : State), (portRequest s 4 = some (t, e)) :=
  ⟨(Wit.h2d 4).2, (Wit.h2d 4).1, Wit.ported 1 4, by decide +kernel⟩

theorem wit_portUnknownEntry : ∃ (e : H2d) (t s : State), (h2dNext s = some (t, e)) ∧ (e.type ≠ 2) ∧ (e.type ≠ 1 ∨ e.op = 0 ∨ 5 < e.op) ∧ (d2hFree s = true) :=
  ⟨(Wit.next 9).2, (Wit.next 9).1, Wit.ported 9 1, by decide +kernel⟩

theorem wit_portForwardAnswer : ∃ (e : H2d) (x : HostSlot) (t s : State), (h2dNext s = some (t, e)) ∧ (e.type = 2) ∧ (t.hostSlots.find? (fun y => y.tag == e.tag) = some x) ∧ (e.abort = 0) ∧ (writeOp x.req.op.toNat = false) ∧ ((portData t e).2.1 = 0) :=
  ⟨(Wit.next 2).2, Wit.slot, (Wit.next 2).1, Wit.ported 2 1, by decide +kernel⟩

theorem wit_stageOpen : ∃ (r : Source) (n : Fin 4) (s : State), (sourceUp s r = true) ∧ ((stg s n.val).mode.closed = true) :=
  ⟨.master, 2, Wit.up, by decide +kernel⟩

theorem wit_stageAppend : ∃ (r : Source) (n : Fin 4) (d : List Byte) (s : State), (sourceUp s r = true) ∧ ((stageAppend s r n.val d).2 = 0) :=
  ⟨.master, 2, [0x70, 0x22, 1, 0, 8, 0, 0, 0, 1, 0, 0, 0, 0, 0, 0, 0], { Wit.up with sets := [(2, { mode := .opened, owner := some .master })] }, by decide +kernel⟩

theorem wit_stageCheck : ∃ (r : Source) (n : Fin 4) (s : State), (sourceUp s r = true) ∧ ((stg s n.val).mode = .opened) ∧ (owns (stg s n.val) r = true) :=
  ⟨.master, 2, { Wit.up with sets := [(2, { mode := .opened, owner := some .master })] }, by decide +kernel⟩

theorem wit_stageArm : ∃ (r : Source) (n : Fin 4) (s : State), (sourceUp s r = true) ∧ ((stg s n.val).mode = .checked) ∧ (owns (stg s n.val) r = true) :=
  ⟨.master, 2, { Wit.up with sets := [(2, { mode := .checked, owner := some .master })] }, by decide +kernel⟩

theorem wit_stageCancel : ∃ (r : Source) (n : Fin 4) (b : Bool) (s : State), (sourceUp s r = true) ∧ ((stageCancel s r n.val b).2 = 0) :=
  ⟨.master, 2, true, { Wit.up with sets := [(2, { mode := .checked, owner := some .master })] }, by decide +kernel⟩

theorem wit_rollback : ∃ (s : State), (coeUp s = true) ∧ ((rollbackWrite s .master (0x2100, 3)).2 = none) :=
  ⟨{ Wit.up with undo := some [] }, by decide +kernel⟩

theorem wit_stagingPrepare : ∃ (n : Fin 4) (f : Frame) (t s : State), (takeIn s .host (isStage s 1 n.val) = some (f, t)) ∧ (hostUp s = true) ∧ ((stg t n.val).mode = .checking) :=
  ⟨2, (Wit.took .host (isStage (Wit.staged .checking 1) 1 2) (Wit.staged .checking 1)).1, (Wit.took .host (isStage (Wit.staged .checking 1) 1 2) (Wit.staged .checking 1)).2, Wit.staged .checking 1, by decide +kernel⟩

theorem wit_hostVote : ∃ (n : Fin 4) (f : Frame) (t s : State), (takeIn s .field (isStage s 2 n.val) = some (f, t)) ∧ (fieldUp s = true) ∧ ((stg t n.val).mode = .checking) :=
  ⟨2, (Wit.took .field (isStage (Wit.staged .checking 2) 2 2) (Wit.staged .checking 2)).1, (Wit.took .field (isStage (Wit.staged .checking 2) 2 2) (Wit.staged .checking 2)).2, Wit.staged .checking 2, by decide +kernel⟩

theorem wit_hostVoteTimeout : ∃ (n : Fin 4) (s : State), (fieldUp s = true) ∧ ((stg s n.val).mode = .checking) ∧ ((stg s n.val).hasHostPart = true) :=
  ⟨2, { Wit.up with sets := [(2, { mode := .checking, owner := some .master, entries := [(0x2C00, 1, [1])] })] }, by decide +kernel⟩

theorem wit_stagingArmMessage : ∃ (n : Fin 4) (f : Frame) (i : Instant) (t s : State), (takeIn s .host (isStage s 3 n.val) = some (f, t)) ∧ (hostUp s = true) ∧ ((stg t n.val).instant = some i) ∧ ((stg t n.val).mode = .arming) :=
  ⟨2, (Wit.took .host (isStage (Wit.staged .arming 3) 3 2) (Wit.staged .arming 3)).1, .time 5, (Wit.took .host (isStage (Wit.staged .arming 3) 3 2) (Wit.staged .arming 3)).2, Wit.staged .arming 3, by decide +kernel⟩

theorem wit_hostArmConfirm : ∃ (n : Fin 4) (f : Frame) (i : Instant) (t s : State), (takeIn s .field (isStage s 4 n.val) = some (f, t)) ∧ (fieldUp s = true) ∧ ((stg t n.val).instant = some i) ∧ ((stg t n.val).mode = .arming) :=
  ⟨2, (Wit.took .field (isStage (Wit.staged .arming 4) 4 2) (Wit.staged .arming 4)).1, .time 5, (Wit.took .field (isStage (Wit.staged .arming 4) 4 2) (Wit.staged .arming 4)).2, Wit.staged .arming 4, by decide +kernel⟩

theorem wit_armConfirmTimeout : ∃ (n : Fin 4) (s : State), (fieldUp s = true) ∧ ((stg s n.val).mode = .arming) :=
  ⟨2, { Wit.up with sets := [(2, { mode := .arming, owner := some .master, instant := some (.time 5), entries := [(0x2C00, 1, [1])] })] }, by decide +kernel⟩

theorem wit_applyInstant : ∃ (n : Fin 4) (s : State), (fieldHw s = true) :=
  ⟨2, { Wit.up with sets := [(2, { mode := .armed, owner := some .master, instant := some (.time 0) })] }, by decide +kernel⟩

theorem wit_hostApply : ∃ (n : Fin 4) (e : List (Nat × Nat × List Byte)) (t : Instant) (s : State), (hostUp s = true) ∧ ((stg s n.val).shadow = some (e, t)) ∧ ((stg s n.val).mode ≠ .arming) ∧ (replicaReached s (stg s n.val).hostDue t = true) :=
  ⟨2, [], .time 0, { Wit.up with trep := { invalid := false }, sets := [(2, { shadow := some ([], .time 0) })] }, by decide +kernel⟩

theorem wit_applyConfirmation : ∃ (n : Fin 4) (f : Frame) (e : List (Nat × Nat × List Byte)) (i : Instant) (t s : State), (takeIn s .host (isStage s 5 n.val) = some (f, t)) ∧ (hostUp s = true) ∧ ((stg t n.val).mode = .applied) ∧ ((stg t n.val).shadow = some (e, i)) ∧ (replicaBlind t i = true) :=
  ⟨2, (Wit.took .host (isStage Wit.confirmedSet 5 2) Wit.confirmedSet).1, [], .position 0, (Wit.took .host (isStage Wit.confirmedSet 5 2) Wit.confirmedSet).2, Wit.confirmedSet, by decide +kernel⟩

theorem wit_instantHoldTimeout : ∃ (n : Fin 4) (p : Int) (s : State), (fieldUp s = true) ∧ ((stg s n.val).mode = .armed) ∧ ((stg s n.val).instant = some (.position p)) ∧ (s.pos.mode = .invalid) :=
  ⟨2, 0, { Wit.up with sets := [(2, { mode := .armed, owner := some .master, instant := some (.position 0) })] }, by decide +kernel⟩

theorem wit_sm2BufferComplete : ∃ (d : List Byte) (s : State), (fieldUp s = true) ∧ (s.bus.al = .op) ∧ (d.length = mappedBytes (mapped s true)) :=
  ⟨[], Wit.up, ⟨rfl, rfl, by decide +kernel⟩⟩

theorem wit_sm2WatchdogExpiry : ∃ (s : State), (fieldUp s = true) ∧ (s.bus.al = .op) :=
  ⟨Wit.up, by decide +kernel⟩

theorem wit_controlCycleStart : ∃ (s : State), (fieldUp s = true) ∧ ((cycleStarts s).2 = true) :=
  ⟨Wit.up, by decide +kernel⟩

theorem wit_frameStartDelimiter : ∃ (p : Fin 2) (s : State), (fieldHw s = true) ∧ (portLink s p = true) :=
  ⟨1, Wit.up, by decide +kernel⟩

theorem wit_alRequestPreop : ∃ (s : State), (slaveUp s = true) ∧ (alCode s .preop = 0) :=
  ⟨{ Wit.up with bus := { al := .safeop } }, by decide +kernel⟩

theorem wit_alRequestSafeop : ∃ (s : State), (slaveUp s = true) ∧ (alCode s .safeop = 0) :=
  ⟨Wit.up, by decide +kernel⟩

theorem wit_alRequestOp : ∃ (s : State), (slaveUp s = true) ∧ (alCode s .op = 0) :=
  ⟨{ Wit.up with bus := { al := .safeop, sm2Seen := true } }, by decide +kernel⟩

theorem wit_alRequestBoot : ∃ (s : State), (slaveUp s = true) ∧ (alCode s .boot = 0) :=
  ⟨{ Wit.up with bus := { al := .init } }, by decide +kernel⟩

theorem wit_alRequestInit : ∃ (s : State), (slaveUp s = true) ∧ (alCode s .init = 0) ∧ (s.bus.ikfDone = false) :=
  ⟨Wit.up, by decide +kernel⟩

theorem wit_syncConfigWrite : ∃ (r : BitVec 16) (v : BitVec 64) (s : State), (fieldHw s = true) ∧ (readOnlyReg r.toNat = false) ∧ (r.toNat ≠ 0x0010) ∧ (r.toNat ≠ 0x0920) :=
  ⟨0x09A8, 1, Wit.up, by decide +kernel⟩

theorem wit_mirrorMessage : ∃ (f : Frame) (t s : State), (takeIn s .field isMirror = some (f, t)) ∧ (fieldUp s = true) :=
  ⟨(Wit.took .field isMirror Wit.mirrored).1, (Wit.took .field isMirror Wit.mirrored).2, Wit.mirrored, by decide +kernel⟩

theorem wit_class5Result : ∃ (f : Frame) (t s : State), (takeIn s .field (fun f => f.cls == 5) = some (f, t)) ∧ (fieldUp s = true) :=
  ⟨(Wit.took .field (fun f => f.cls == 5) (Wit.atField (mkFrame 5 0 1 (List.replicate 56 0)))).1, (Wit.took .field (fun f => f.cls == 5) (Wit.atField (mkFrame 5 0 1 (List.replicate 56 0)))).2, Wit.atField (mkFrame 5 0 1 (List.replicate 56 0)), by decide +kernel⟩

theorem wit_safetyFrame : ∃ (a : BitVec 16) (c : Byte) (o : BitVec 16) (f : List Byte) (s : State), (fieldUp s = true) ∧ (a ≠ 0) ∧ (objN s 0x1E40 1 = a.toNat) ∧ (c.toNat ≤ 4) :=
  ⟨7, 4, 1, [], putN Wit.up 0x1E40 1 7, by decide +kernel⟩

theorem wit_safetyWatchdogExpiry : ∃ (s : State), (fieldUp s = true) ∧ (objN s 0x1E40 3 = 4) :=
  ⟨putN Wit.up 0x1E40 3 4, by decide +kernel⟩

theorem wit_aliasWrite : ∃ (v : BitVec 16) (s : State), (slaveUp s = true) ∧ (hostAnswers s = true) :=
  ⟨9, Wit.up, by decide +kernel⟩

theorem wit_foeWriteIkf : ∃ (i : List Byte) (k : Bool) (s : State), (foeUp s = true) ∧ (s.bus.al = .boot) :=
  ⟨Wit.imageF, true, { Wit.up with bus := { al := .boot } }, by decide +kernel⟩

theorem wit_foeWriteIkh : ∃ (i : List Byte) (k : Bool) (s : State), (foeUp s = true) ∧ (s.bus.al = .boot) ∧ (s.bus.romOnly = false) ∧ (crosses s 6 = true) ∧ (hostUp s = true) :=
  ⟨Wit.imageH, true, { Wit.up with bus := { al := .boot } }, by decide +kernel⟩

theorem wit_foeWriteIkm : ∃ (n : Fin 4) (f : List Byte) (c : List (List Kernel)) (s : State), (foeUp s = true) ∧ (s.bus.al ≠ .boot) ∧ (s.bus.romOnly = false) ∧ (slotBound s n.val = false) ∧ (armedNames s n.val = false) ∧ (mayLoad s n.val = true) ∧ (crosses s 6 = true) ∧ (hostUp s = true) :=
  ⟨2, Wit.bundleFile, [[]], Wit.up, by decide +kernel⟩

theorem wit_foeReadLog : ∃ (s : State), (foeUp s = true) ∧ (s.bus.romOnly = false) :=
  ⟨Wit.up, by decide +kernel⟩

theorem wit_storeParameters : ∃ (k : Byte) (v : BitVec 32) (s : State), (Accepted s (0x1010) (k.toNat) (leBytes 4 v.toNat)) :=
  ⟨1, 0x65766173, Wit.up, by unfold Accepted; decide +kernel⟩

theorem wit_restoreDefaults : ∃ (k : Byte) (v : BitVec 32) (s : State), (Accepted s (0x1011) (k.toNat) (leBytes 4 v.toNat)) :=
  ⟨1, 0x64616F6C, Wit.up, by unfold Accepted; decide +kernel⟩

theorem wit_retrainRequestWrite : ∃ (w : Byte) (b : Bool) (s : State), (Accepted s 0x3A02 1 [w]) :=
  ⟨1, false, Wit.up, by unfold Accepted; decide +kernel⟩

theorem wit_positionEntryWrite : ∃ (n : Fin 256) (c : BitVec 128) (s : State), (Accepted s (0x2210 + n.val / 16) (n.val % 16 + 1) (leBytes 16 c.toNat)) :=
  ⟨3, 0, Wit.up, by unfold Accepted; decide +kernel⟩

theorem wit_predictorQuery : ∃ (t : BitVec 64) (s : State), (Accepted s (0x2270) (1) (leBytes 8 t.toNat)) :=
  ⟨5, Wit.up, by unfold Accepted; decide +kernel⟩

theorem wit_presetCounter : ∃ (v : BitVec 64) (s : State), (Accepted s (0x2202) (1) (leBytes 8 v.toNat)) :=
  ⟨5, { Wit.up with pos := { mode := .measured } }, by unfold Accepted; decide +kernel⟩

theorem wit_reReference : ∃ (v : BitVec 64) (s : State), (Accepted s (0x2202) (2) (leBytes 8 v.toNat)) :=
  ⟨5, { Wit.up with pos := { mode := .measured } }, by unfold Accepted; decide +kernel⟩

theorem wit_reacquireCommand : ∃ (v : Byte) (s : State), (Accepted s (0x2222) (1) [v]) :=
  ⟨1, Wit.up, by unfold Accepted; decide +kernel⟩

theorem wit_referenceRoleWrite : ∃ (v : Byte) (s : State), (Accepted s (0x2221) (4) [v]) :=
  ⟨0, { Wit.up with bus := { al := .preop } }, by unfold Accepted; decide +kernel⟩

theorem wit_conversionQuery : ∃ (t : BitVec 64) (s : State), (Accepted s (0x2282) (3) (leBytes 8 t.toNat)) :=
  ⟨5, Wit.up, by unfold Accepted; decide +kernel⟩

theorem wit_timeEntryWrite : ∃ (n : Fin 64) (c : BitVec 128) (s : State), (Accepted s (0x2230 + n.val / 16) (n.val % 16 + 1) (leBytes 16 c.toNat)) :=
  ⟨3, 0, Wit.up, by unfold Accepted; decide +kernel⟩

theorem wit_adcSoftwareStart : ∃ (a : Fin 8) (v : Byte) (s : State), (Accepted s (axA a.val + 0x38) (3) [v]) :=
  ⟨3, 1, Wit.up, by unfold Accepted; decide +kernel⟩

theorem wit_clearLatches : ∃ (a : Fin 8) (v : Byte) (s : State), (Accepted s (axA a.val + 0x33) (8) [v]) :=
  ⟨3, 1, Wit.up, by unfold Accepted; decide +kernel⟩

theorem wit_axisCommandFlush : ∃ (a : Fin 8) (v : Byte) (s : State), (Accepted s (axA a.val + 5) (5) [v]) :=
  ⟨3, 1, Wit.up, by unfold Accepted; decide +kernel⟩

theorem wit_modeOfOperationWrite : ∃ (a : Fin 8) (v : Byte) (s : State), (Accepted s (ciaI 0x6060 a.val) (0) [v]) :=
  ⟨3, 1, Wit.up, by unfold Accepted; decide +kernel⟩

theorem wit_engineLoad : ∃ (w : Origin) (a : BitVec 40) (n : Nat) (s : State), (hostHw s = true) ∧ (n ≠ 0) ∧ ((engLoad (eccRead s (a.toNat / 64 * 64) .clean) w a.toNat n).2.2 = (true, true)) :=
  ⟨portOrigin, 0x800000000, 8, Wit.open, by decide +kernel⟩

theorem wit_engineStore : ∃ (w : Origin) (a : BitVec 40) (m : BitVec 64) (d : List Byte) (s : State), (hostHw s = true) ∧ ((postStore (signStore s w (a.toNat / 64 * 64) m.toNat d) w (a.toNat / 64 * 64) m.toNat d).2 = true) :=
  ⟨portOrigin, 0x800000000, 3, [1, 2], Wit.open, by decide +kernel⟩

theorem wit_storeAccept : ∃ (p : PendingStore) (t : List PendingStore) (e : EccResult) (s : State), (hostHw s = true) ∧ (s.mem.stores = p :: t) :=
  ⟨⟨portOrigin, 0x800000000, 1, [5]⟩, [], .clean, { Wit.up with mem := { stores := [⟨portOrigin, 0x800000000, 1, [5]⟩] } }, by decide +kernel⟩

theorem wit_coreLateStoreFault : ∃ (k : Fin 8) (s : State), (hostHw s = true) :=
  ⟨3, Wit.up, by decide +kernel⟩

theorem wit_registerWrite : ∃ (k : Fin 8) (a : BitVec 40) (n : Nat) (v : BitVec 64) (s : State), (hostHw s = true) ∧ (inMmio a.toNat = false) ∧ (inPcie a.toNat = false) ∧ ((linesOf a.toNat n).all (fun l => inDram s l) = true) :=
  ⟨2, 0x800000000, 8, 5, Wit.up, by decide +kernel⟩

theorem wit_patrolScrub : ∃ (l : BitVec 40) (s : State), (hostHw s = true) ∧ (s.mem.ecc = true) ∧ (s.mem.trained = true) ∧ (s.mem.selfRefresh = false) :=
  ⟨0x800000000, { Wit.up with mem := { ecc := true, trained := true } }, by decide +kernel⟩

theorem wit_coreLoad : ∃ (k : Fin 8) (a : BitVec 40) (s : State), (hostHw s = true) ∧ (0x40000 ≤ a.toNat) ∧ (inMmio a.toNat = false) ∧ (inPcie a.toNat = false) ∧ (inDram s a.toNat = true) ∧ (s.mem.poison.contains (a.toNat / 64 * 64) = false) :=
  ⟨2, 0x800000000, Wit.up, by decide +kernel⟩

theorem wit_csiFrameStart : ∃ (p : Fin 4) (c : Fin 16) (s : State), (portOpen s p.val = true) ∧ (c.val ≤ 3) :=
  ⟨1, 2, putN Wit.up 0x2401 1 1, by decide +kernel⟩

theorem wit_csiLinePacket : ∃ (p : Fin 4) (c : Fin 16) (t : Byte) (k : Bool) (d : List Byte) (s : State), (portOpen s p.val = true) ∧ (c.val ≤ 3) ∧ (csiTypes.contains t.toNat = true) :=
  ⟨1, 2, 0x2A, true, [1], putN Wit.up 0x2401 1 1, by decide +kernel⟩

theorem wit_csiFrameEnd : ∃ (p : Fin 4) (c : Fin 16) (s : State), (portOpen s p.val = true) ∧ (c.val ≤ 3) :=
  ⟨1, 2, putN Wit.up 0x2401 1 1, by decide +kernel⟩

theorem wit_csiDeskewDone : ∃ (p : Fin 4) (s : State), (hostUp s = true) ∧ (objB s (0x2400 + p.val) 1 = true) :=
  ⟨1, putN Wit.up 0x2401 1 1, by decide +kernel⟩

theorem wit_stopStateTimeout : ∃ (p : Fin 4) (s : State), (portOpen s p.val = true) :=
  ⟨1, putN Wit.up 0x2401 1 1, by decide +kernel⟩

theorem wit_stampCapture : ∃ (i : Fin 16) (q : List PendingStamp) (p : PendingStamp) (k : Nat) (s : State), (hostUp s = true) ∧ (objN s (0x2410 + i.val) 7 ≠ 0xFF) ∧ (tget [] s.trig (objN s (0x2410 + i.val) 7) = q) ∧ (q.findIdx? (fun p => !p.taken.any (fun e => e.1 = i.val) && !p.used.contains i.val) = some k) ∧ (q[k]? = some p) ∧ (p.edge + exposureDelay p i.val ≤ s.trep.time) :=
  ⟨2, [Wit.pend], Wit.pend, 0, putN { Wit.up with trig := [(1, [Wit.pend])] } 0x2412 7 1, by decide +kernel⟩

theorem wit_ispOutputComplete : ∃ (i : Fin 16) (f : OpenFrame) (t : List OpenFrame) (s : State), (hostUp s = true) ∧ ((stm s i.val).finishing = f :: t) :=
  ⟨2, Wit.open_, [], { Wit.up with streams := [(2, { finishing := [Wit.open_] })] }, by decide +kernel⟩

theorem wit_visFlagRelease : ∃ (v : BitVec 32) (s : State), (hostUp s = true) ∧ ((flag s (v.toNat % 1024)).mode = .valid) ∧ ((flag s (v.toNat % 1024)).hold ≠ 0) :=
  ⟨5, { Wit.up with flags := [(5, { mode := .valid, hold := 1 })] }, by decide +kernel⟩

theorem wit_visGraphStart : ∃ (v : BitVec 32) (s : State), (hostUp s = true) ∧ (graphStarts s (v.toNat % 8) 2 = true) :=
  ⟨3, putObj Wit.up 0x2603 2 [1, 1, 0, 4], by decide +kernel⟩

theorem wit_runStart : ∃ (g : Fin 8) (s : State), (hostUp s = true) ∧ ((gph s g.val).run = none) ∧ ((gph s g.val).pending ≠ []) :=
  ⟨3, { Wit.up with graphs := [(3, { pending := [{ source := 2 }] })] }, by decide +kernel⟩

theorem wit_nodeDispatch : ∃ (e : Fin 6) (g n : Nat) (a b : Nat) (r : Run) (s : State), (hostUp s = true) ∧ ((engineWork s e.val).length < engineInstances e.val) ∧ (bestNode (readyNodes s e.val) = some (a, b, g, n)) ∧ ((gph s g).run = some r) :=
  ⟨2, 3, 0, 1, 0, { Wit.run with nodes := [.waiting, .done] }, Wit.ready, by decide +kernel⟩

theorem wit_nodeComplete : ∃ (g : Fin 8) (n : Fin 32) (r : Run) (i : NodeEnd) (s : State), (hostUp s = true) ∧ ((gph s g.val).run = some r) ∧ (lget .skipped r.nodes n.val = .running) ∧ (i.grotto = .clean) ∧ ((readInputs s g.val n.val r).2.2 = true) :=
  ⟨3, 0, Wit.run, ⟨[], [], [], [], [], [], .clean⟩, { Wit.up with graphs := [(3, { run := some Wit.run })] }, by decide +kernel⟩

theorem wit_nodeTimeLimit : ∃ (g : Fin 8) (n : Fin 32) (r : Run) (s : State), (hostUp s = true) ∧ ((gph s g.val).run = some r) ∧ (lget .skipped r.nodes n.val = .running) :=
  ⟨3, 0, Wit.run, { Wit.up with graphs := [(3, { run := some Wit.run })] }, by decide +kernel⟩

theorem wit_runLimitExpiry : ∃ (g : Fin 8) (r : Run) (s : State), (hostUp s = true) ∧ ((gph s g.val).run = some r) ∧ (fieldN r.desc 8 4 ≠ 0) ∧ (r.startTime + 1000 * fieldN r.desc 8 4 ≤ s.trep.time) :=
  ⟨3, Wit.run, { Wit.up with graphs := [(3, { run := some Wit.run })], trep := { time := 5000 } }, by decide +kernel⟩

theorem wit_refineTimeLimit : ∃ (g : Fin 8) (n : Fin 32) (k : Nat) (r : Run) (s : State), (hostUp s = true) ∧ ((gph s g.val).run = some r) ∧ (lget .skipped r.nodes n.val = .running) ∧ (nodeRefines r n.val = true) ∧ (r.timed.any (fun e => e.1 == n.val) = false) :=
  ⟨3, 1, 4, Wit.refines, { Wit.up with graphs := [(3, { run := some Wit.refines })] }, by decide +kernel⟩

theorem wit_hintSetArrival : ∃ (g : Fin 8) (h : Nat × HintSet) (s : State), (hostUp s = true) ∧ ((s.lan.kept.filter (fun x => x.1 = g.val)).getLast? = some h) :=
  ⟨3, (3, Wit.hint), { Wit.up with lan := { kept := [(3, Wit.hint)] } }, by decide +kernel⟩

theorem wit_nqDoorbell : ∃ (q : Fin 4096) (v : BitVec 32) (s : State), (hostUp s = true) :=
  ⟨5, 3, Wit.up, by decide +kernel⟩

theorem wit_descriptorTake : ∃ (q : Fin 4096) (s : State), (canTake s q.val = true) :=
  ⟨5, Wit.take, by decide +kernel⟩

theorem wit_waitTimeout : ∃ (q : Fin 4096) (j : Job) (s : State), (hostUp s = true) ∧ ((que s q.val).job = some j) ∧ (j.mode = .waiting) ∧ (waitLimitPassed s q.val j = true) ∧ (j.w0 = .open_ ∨ j.w1 = .open_) :=
  ⟨5, { Wit.job with w0 := .open_ }, { Wit.queued { Wit.job with w0 := .open_ } with trep := { time := 10 ^ 12 } }, by decide +kernel⟩

theorem wit_nqRelease : ∃ (q : Fin 4096) (j : Job) (s : State), (hostUp s = true) ∧ ((que s q.val).job = some j) ∧ (j.mode = .waiting) ∧ (j.held = true) :=
  ⟨5, { Wit.job with held := true }, Wit.queued { Wit.job with held := true }, by decide +kernel⟩

theorem wit_nqCancel : ∃ (q : Fin 4096) (j : Job) (s : State), (hostUp s = true) ∧ ((que s q.val).job = some j) ∧ (j.mode = .waiting ∨ j.mode = .released) :=
  ⟨5, Wit.job, Wit.queued Wit.job, by decide +kernel⟩

theorem wit_queueEnable : ∃ (q : Fin 4096) (c : BitVec 32) (s : State), (hostUp s = true) :=
  ⟨5, 0x4401, Wit.up, by decide +kernel⟩

theorem wit_jobDispatch : ∃ (q : Fin 4096) (j : Job) (f : Nat) (s : State), (hostUp s = true) ∧ ((que s q.val).job = some j) ∧ (j.status = 0) ∧ (jobReady s q.val j = true) ∧ ((mslot s j.slot).mode ≠ .failed) ∧ ((queueSettings s q.val).testBit 2 = false) ∧ ((queueSettings s q.val).testBit 3 = false) ∧ (freeGroup s (groupSize s j) [] = some f) ∧ (mustYield s q.val j (groupCores f (groupSize s j)) = false) :=
  ⟨5, { Wit.job with mode := .released }, 0, Wit.queued { Wit.job with mode := .released }, by decide +kernel⟩

theorem wit_kernelBoundary : ∃ (q : Fin 4096) (ci : Fin 2) (m : Fin 8) (i : KernelEnd) (j : Job) (c : Copy) (kn : Kernel) (s : State), (hostUp s = true) ∧ ((que s q.val).job = some j) ∧ (j.copies[ci.val]? = some c) ∧ ((jobCode s j)[lget 0 c.steps m.val]? = some kn) ∧ (c.mode = .running) ∧ (m.val < j.group) ∧ (memberMay s q.val c (jobCode s j) j.group m.val kn = true) :=
  ⟨5, 0, 0, Wit.kernel, Wit.running, { mode := .running, steps := [0] }, {}, Wit.runs, by decide +kernel⟩

theorem wit_preemptionWatchdogExpiry : ∃ (q : Fin 4096) (j : Job) (s : State), (hostUp s = true) ∧ ((que s q.val).job = some j) ∧ (j.copies.any (fun c => c.mode == .running && c.victim && decide (c.expiry ≤ s.trep.time)) = true) :=
  ⟨5, { Wit.job with mode := .running, copies := [{ mode := .running, victim := true }] }, Wit.queued { Wit.job with mode := .running, copies := [{ mode := .running, victim := true }] }, by decide +kernel⟩

theorem wit_jobComplete : ∃ (q : Fin 4096) (j : Job) (s : State), (hostUp s = true) ∧ ((que s q.val).job = some j) ∧ (j.mode = .finished) ∧ (jobStores s q.val j = false) :=
  ⟨5, { Wit.job with mode := .finished, copies := [{ mode := .ended }] }, Wit.queued { Wit.job with mode := .finished, copies := [{ mode := .ended }] }, by decide +kernel⟩

theorem wit_galleryFrameStart : ∃ (s : State), (hostUp s = true) ∧ (frameBegin s ≠ s.gal.frameAt) :=
  ⟨{ Wit.up with trep := { time := 10 ^ 9 } }, by decide +kernel⟩

theorem wit_modelLoadFromDram : ∃ (n : Fin 4) (a : BitVec 64) (c : List (List Kernel)) (s : State), (hostUp s = true) ∧ (inDram s a.toNat = true) :=
  ⟨2, 0x800000000, [[]], Wit.up, by decide +kernel⟩

theorem wit_modelLoadComplete : ∃ (n : Fin 4) (c : EccResult) (s : State), (hostUp s = true) ∧ ((mslot s n.val).mode = .loading) :=
  ⟨2, .clean, { Wit.up with gal := { slots := [(2, { mode := .loading })] } }, by decide +kernel⟩

theorem wit_modelUnload : ∃ (n : Fin 4) (s : State), (hostUp s = true) ∧ (mayUnload s n.val = true) :=
  ⟨2, { Wit.up with gal := { slots := [(2, { mode := .ready })] } }, by decide +kernel⟩

theorem wit_cavernScrub : ∃ (b : Fin 24) (w : Nat) (s : State), (hostUp s = true) ∧ (s.gal.ready = true) :=
  ⟨2, 7, { Wit.up with gal := { ready := true } }, by decide +kernel⟩

theorem wit_cavernInitDone : ∃ (s : State), (hostHw s = true) :=
  ⟨Wit.up, by decide +kernel⟩

theorem wit_bankClearDone : ∃ (b : Fin 24) (s : State), (hostUp s = true) ∧ (s.gal.clearing.getLsbD b.val = true) :=
  ⟨3, { Wit.up with gal := { clearing := 8 } }, by decide +kernel⟩

theorem wit_kvOpen : ∃ (p : Fin 4) (q : Fin 8192) (n f : Nat) (s : State), (hostUp s = true) ∧ ((kvSeq s p.val q.val).mode = .free) ∧ (objB s (0x2A00 + p.val) 1 = true) ∧ (q.val < poolN s p.val 7) ∧ (bits (reg s (bGAL + 0x8014)) 15 0 = n) ∧ (n ≠ 0) ∧ (n * tpp s p.val ≤ (buckets s p.val).getLast?.getD 0) ∧ (pteRun s p.val n = some f) ∧ (poolMode s p.val ≠ 0) :=
  ⟨1, 5, 1, 0, Wit.kvPool, by decide +kernel⟩

theorem wit_kvClose : ∃ (p : Fin 4) (q : Fin 8192) (s : State), (hostUp s = true) ∧ ((kvSeq s p.val q.val).mode ≠ .free) ∧ ((kvSeq s p.val q.val).users = 0) :=
  ⟨1, 5, Wit.kv, by decide +kernel⟩

theorem wit_kvPin : ∃ (p : Fin 4) (q : Fin 8192) (s : State), (hostUp s = true) ∧ ((kvSeq s p.val q.val).mode = .opened) :=
  ⟨1, 5, Wit.kv, by decide +kernel⟩

theorem wit_kvUnpin : ∃ (p : Fin 4) (q : Fin 8192) (s : State), (hostUp s = true) ∧ ((kvSeq s p.val q.val).mode = .opened) :=
  ⟨1, 5, Wit.kv, by decide +kernel⟩

theorem wit_kvPrefetch : ∃ (p : Fin 4) (q : Fin 8192) (s : State), (hostUp s = true) ∧ ((kvSeq s p.val q.val).mode = .opened) ∧ ((kvSeq s p.val q.val).spilled = true) ∧ ((sumpPtes s p.val (kvSeq s p.val q.val)).length ≤ (freeFrames s p.val).length) :=
  ⟨1, 5, Wit.kv, by decide +kernel⟩

theorem wit_kvReset : ∃ (p : Fin 4) (q : Fin 8192) (s : State), (hostUp s = true) ∧ ((kvSeq s p.val q.val).mode ≠ .free) ∧ ((kvSeq s p.val q.val).mode ≠ .lost) ∧ ((kvSeq s p.val q.val).users = 0) :=
  ⟨1, 5, Wit.kv, by decide +kernel⟩

theorem wit_kvWinDataAccess : ∃ (w : Option (BitVec 64)) (s : State), (hostUp s = true) :=
  ⟨some 5, Wit.up, by decide +kernel⟩

theorem wit_aerWord : ∃ (w : BitVec 16) (s : State), (lanTakes s = true) ∧ (objN s 0x2C00 2 = 0) :=
  ⟨5, Wit.lan, by decide +kernel⟩

theorem wit_lanternCsiPacket : ∃ (d : List Byte) (s : State), (lanTakes s = true) ∧ (objN s 0x2C00 2 = 1) ∧ (s.lan.fifo.length + (wordsOf d).length ≤ 4096) :=
  ⟨[1, 0], putN Wit.lan 0x2C00 2 1, by decide +kernel⟩

theorem wit_synapticOperation : ∃ (c : Fin 4) (k : Spike) (t : List Spike) (s : State), (lanTakes s = true) ∧ (tget [] s.lan.queues c.val = k :: t) :=
  ⟨2, ⟨0, 0, 0⟩, [], { Wit.lan with lan := { queues := [(2, [⟨0, 0, 0⟩])] } }, by decide +kernel⟩

theorem wit_hintPeriodEnd : ∃ (s : State), (lanTakes s = true) ∧ (hintPeriodOver s = true) :=
  ⟨Wit.hinted, by decide +kernel⟩

theorem wit_compFrameStart : ∃ (s : State), (compRuns s = true) :=
  ⟨Wit.comp, by decide +kernel⟩

theorem wit_compLineStart : ∃ (u s : State), (compRuns s = true) ∧ (s.comp.line < actH s) ∧ (u = (if (fetchLine s s.comp.line).2 = 0 then (fetchLine s s.comp.line).1 else bump (fetchLine s s.comp.line).1 0x2E20 4 (fetchLine s s.comp.line).2)) :=
  ⟨(let s := Wit.comp; if (fetchLine s s.comp.line).2 = 0 then (fetchLine s s.comp.line).1 else bump (fetchLine s s.comp.line).1 0x2E20 4 (fetchLine s s.comp.line).2), Wit.comp, ⟨by decide +kernel, by decide +kernel, rfl⟩⟩

theorem wit_writebackFrameDone : ∃ (w : WbFrame) (t : List WbFrame) (s : State), (hostUp s = true) ∧ (s.comp.wbEnded = w :: t) ∧ (wbStores s w = false) :=
  ⟨⟨0, 0, 0, 0, 0⟩, [], { Wit.up with comp := { wbEnded := [⟨0, 0, 0, 0, 0⟩] } }, by decide +kernel⟩

theorem wit_compLayerAddrWrite : ∃ (l : Fin 6) (v : BitVec 64) (s : State), (hostUp s = true) :=
  ⟨2, 5, Wit.up, by decide +kernel⟩

theorem wit_dpTrainCommand : ∃ (v : BitVec 32) (s : State), (hostUp s = true) ∧ (s.pwr.mode ≠ .inspectIdle) ∧ (v.getLsbD 0 = true) :=
  ⟨1, Wit.up, by decide +kernel⟩

theorem wit_dpLinkTrainingDone : ∃ (k : Bool) (l r : BitVec 2) (s : State), (hostUp s = true) ∧ (s.comp.training = true) :=
  ⟨true, 2, 1, { Wit.up with comp := { training := true } }, by decide +kernel⟩

theorem wit_auxCommand : ∃ (v : BitVec 32) (r : BitVec 3) (d : List Byte) (s : State), (hostUp s = true) :=
  ⟨0, 0, [], Wit.up, by decide +kernel⟩

theorem wit_hpdFall : ∃ (s : State), (hostUp s = true) :=
  ⟨Wit.up, by decide +kernel⟩

theorem wit_hpdRise : ∃ (s : State), (hostUp s = true) :=
  ⟨Wit.up, by decide +kernel⟩

theorem wit_pwmCounterZero : ∃ (a : Fin 8) (z : Nat) (s : State), (fieldHw s = true) ∧ (nextZero s a.val = some z) :=
  ⟨3, (nextZero Wit.turned 3).getD 0, Wit.turned, by decide +kernel⟩

theorem wit_pwmCounterTop : ∃ (a : Fin 8) (s : State), (fieldHw s = true) ∧ (topReached s a.val = true) :=
  ⟨3, Wit.turned, by decide +kernel⟩

theorem wit_pwmCompareMatch : ∃ (a : Fin 8) (p : Fin 3) (s : State), (fieldHw s = true) ∧ (compareCrossed s a.val (coarse (ax s a.val) p.val) = true) ∧ (coarse (ax s a.val) p.val ≠ 0) ∧ (coarse (ax s a.val) p.val ≤ pwmTop (ax s a.val)) :=
  ⟨3, 1, setAx { Wit.up with fclk := { ticks := 100000 } } 3 { cmp := [3200, 3200, 3200] }, by decide +kernel⟩

theorem wit_deadTimeExpiry : ∃ (a : Fin 8) (p : Fin 3) (s : State), (fieldHw s = true) ∧ ((ax s a.val).driving = true) ∧ (pwmMode (ax s a.val) ≠ 0) ∧ (lget 0 (ax s a.val).edgeAt p.val + pwmDead (ax s a.val) / 5 ≤ s.fclk.ticks) :=
  ⟨3, 1, setAx { Wit.up with fclk := { ticks := 100000 } } 3 { driving := true, live := { mode := 1 } }, by decide +kernel⟩

theorem wit_sdResultReady : ∃ (a : Fin 8) (u v w : List Bool) (s : State), (fieldHw s = true) ∧ (sdReady s a.val = true) :=
  ⟨3, [], [], [], putN (setAx { Wit.up with fclk := { ticks := 100000 } } 3 { sdDue := true }) 0x30F1 1 7, by decide +kernel⟩

theorem wit_sdInputLost : ∃ (i : Fin 24) (s : State), (fieldHw s = true) ∧ ((objN s (axA (i.val / 3) + 0x31) 1).testBit (i.val % 3) = true) :=
  ⟨11, putN Wit.up 0x30F1 1 7, by decide +kernel⟩

theorem wit_adcConversionDone : ∃ (c : Fin 8) (v : BitVec 12) (g i : Nat) (s : State), (fieldHw s = true) ∧ (adcWaiting s c.val = some (g, i)) ∧ (adcReady s g i ≤ s.fclk.ticks) :=
  ⟨2, 5, 3, 0, { Wit.adc with fclk := { ticks := 100000 } }, by decide +kernel⟩

theorem wit_ssiFrameEnd : ∃ (a : Fin 8) (b : Nat) (s : State), (fieldHw s = true) ∧ (encMode s a.val = 2) ∧ ((ax s a.val).frameRun = true) ∧ ((ax s a.val).frameAt + serialTicks s a.val (objN s (axA a.val + 0x32) 4) ≤ s.fclk.ticks) :=
  ⟨3, 5, putN (putN (setAx { Wit.up with fclk := { ticks := 10000000 } } 3 { frameRun := true }) 0x30F2 1 2) 0x30F2 5 0, by decide +kernel⟩

theorem wit_ssiTimeout : ∃ (a : Fin 8) (s : State), (fieldHw s = true) ∧ (encMode s a.val = 2) ∧ ((ax s a.val).frameRun = true) :=
  ⟨3, putN (setAx Wit.up 3 { frameRun := true }) 0x30F2 1 2, by decide +kernel⟩

theorem wit_bissFrameEnd : ∃ (a : Fin 8) (b n : Nat) (c : BitVec 6) (d : BitVec 16) (s : State), (fieldHw s = true) ∧ (encMode s a.val = 3) ∧ ((ax s a.val).frameRun = true) ∧ ((ax s a.val).frameAt + (serialTicks s a.val (3 + objN s (axA a.val + 0x32) 4) + d.toNat / 5) ≤ s.fclk.ticks) ∧ (objN s (axA a.val + 0x32) 4 - 8 = n) ∧ (63 - crc6 (n + 2) (b % 2 ^ n * 4) 0 = c.toNat) :=
  ⟨3, 5, 8, BitVec.ofNat 6 (63 - crc6 10 20 0), 9, putN (putN (setAx { Wit.up with fclk := { ticks := 10000000 } } 3 { frameRun := true }) 0x30F2 1 3) 0x30F2 4 16, by decide +kernel⟩

theorem wit_axisEncoderLineBreak : ∃ (a : Fin 8) (s : State), (fieldHw s = true) ∧ (encMode s a.val = 1 ∨ encMode s a.val = 4) :=
  ⟨3, putN Wit.up 0x30F2 1 1, by decide +kernel⟩

theorem wit_comparatorTrip : ∃ (a : Fin 8) (b : Bool) (l n : Nat) (s : State), (fieldHw s = true) :=
  ⟨3, true, 5000000, 200, putN Wit.up 0x30F3 4 3, by decide +kernel⟩

theorem wit_stoInputEdge : ∃ (n : Fin 2) (b : Bool) (s : State), (fieldHw s = true) :=
  ⟨1, true, Wit.up, by decide +kernel⟩

theorem wit_stoDiscrepancyFault : ∃ (n : Fin 2) (s : State), (fieldHw s = true) ∧ (stoDiffers s n.val = true) ∧ ((if n.val = 0 then s.saf.differAt.1 else s.saf.differAt.2) + 4000000 < s.fclk.ticks) :=
  ⟨1, { Wit.up with saf := { ch := 4 }, fclk := { ticks := 5000000 } }, by decide +kernel⟩

theorem wit_axisEncoderEdge : ∃ (a : Fin 8) (x y z : Bool) (j k l : Nat) (s : State), (fieldHw s = true) ∧ (encMode s a.val = 1 ∨ encMode s a.val = 4) :=
  ⟨3, true, false, true, 9, 9, 9, putN Wit.up 0x30F2 1 1, by decide +kernel⟩

theorem wit_controlEngineStart : ∃ (s : State), (fieldUp s = true) ∧ (s.eng.sampled = true) ∧ (s.eng.started = false) ∧ ((((List.range 8).filter (passes? s)).take 1).all (inputsHere s) = true) :=
  ⟨{ Wit.up with eng := { sampled := true } }, by decide +kernel⟩

theorem wit_axisPass : ∃ (a : Fin 8) (s : State), (fieldUp s = true) ∧ ((s.eng.todo.filter (passes? s)).head? = some a.val) ∧ (inputsHere s a.val = true) ∧ (passBegin s a.val + 150 ≤ s.fclk.ticks) :=
  ⟨3, Wit.passing, by decide +kernel⟩

theorem wit_ss1TimeLimit : ∃ (a : Fin 8) (s : State), (fieldHw s = true) ∧ ((ce s a.val).reaction = .ss1) ∧ ((ce s a.val).drive = .faultReaction) ∧ ((ce s a.val).ss1At + 200000 * objN s (axA a.val) 8 ≤ s.fclk.ticks) :=
  ⟨3, setCe { Wit.up with fclk := { ticks := 10 ^ 12 } } 3 { reaction := .ss1, drive := .faultReaction }, by decide +kernel⟩

theorem wit_followingErrorTimeout : ∃ (a : Fin 8) (s : State), (fieldUp s = true) ∧ ((ce s a.val).drive.running = true) ∧ ((cN s 0x6065 a.val : Rat) < qabs (unitsOf s a.val ((ce s a.val).pSet - (ce s a.val).pAct))) ∧ (1000000 * cN s 0x6066 a.val < (ce s a.val).errNs) :=
  ⟨3, putN (setCe Wit.up 3 { drive := .operationEnabled, pSet := 6553600, errNs := 10 ^ 12 }) 0x7865 0 5, by decide +kernel⟩

theorem wit_cspTargetTimeout : ∃ (a : Fin 8) (s : State), (fieldUp s = true) ∧ (enabled s a.val = true) ∧ ((ce s a.val).setp = .interpolate) ∧ ((ce s a.val).stale = 0) ∧ (syncCycles s ≤ (ce s a.val).tStep) :=
  ⟨3, setCe Wit.up 3 { drive := .operationEnabled, setp := .interpolate, tStep := 10 ^ 12 }, by decide +kernel⟩

theorem wit_hardStopHome : ∃ (a : Fin 8) (s : State), (fieldUp s = true) ∧ (enabled s a.val = true) ∧ ((ce s a.val).homing = true) ∧ (objI s (ciaI 0x6098 a.val) 0 = -1 ∨ objI s (ciaI 0x6098 a.val) 0 = -2) ∧ (20000000 ≤ (ce s a.val).pushNs) :=
  ⟨3, putI (setCe Wit.up 3 { drive := .operationEnabled, homing := true, pushNs := 20000000 }) 0x7898 0 (-1), by decide +kernel⟩

theorem wit_axisCommandDwellEnd : ∃ (a : Fin 8) (c : AxisCmd) (p : Int) (s : State), (fieldUp s = true) ∧ ((ce s a.val).exec = some (c, p)) ∧ ((ce s a.val).dwelling = true) ∧ ((ce s a.val).dwellAt + 200000 * c.dwell ≤ s.fclk.ticks) :=
  ⟨3, Wit.cmd, 5, setCe { Wit.up with fclk := { ticks := 10 ^ 12 } } 3 { exec := some (Wit.cmd, 5), dwelling := true }, by decide +kernel⟩

theorem wit_controlwordEnableOperation : ∃ (a : Fin 8) (s : State), (fieldUp s = true) :=
  ⟨3, Wit.up, by decide +kernel⟩

theorem wit_controlwordFaultReset : ∃ (a : Fin 8) (s : State), (fieldUp s = true) ∧ ((ce s a.val).drive = .fault) ∧ (noFaultCause (coolReset s) a.val = true) :=
  ⟨3, setCe (putN { Wit.up with bus := { al := .op, safeOut := 0xFFFF }, saf := { ch := 0xF } } 0x1E40 3 4) 3 { drive := .fault }, by decide +kernel⟩

theorem wit_controlwordQuickStop : ∃ (a : Fin 8) (s : State), (fieldUp s = true) ∧ ((ce s a.val).drive = .operationEnabled) ∧ (cN s 0x605A a.val ≠ 0) :=
  ⟨3, setCe Wit.up 3 { drive := .operationEnabled }, by decide +kernel⟩

theorem wit_controlwordDisable : ∃ (a : Fin 8) (s : State), (fieldUp s = true) :=
  ⟨3, Wit.up, by decide +kernel⟩
end

section
/-! Chapter 01, the independence of the field die: host clock events leave the field clocks as they were (R34), and a host-only
warm reset leaves the field die as it was (R38). Parts come from the frames of Laws/Frames; the output pins, which both dies share
one list of, come from what `hostReset` does to that list. -/

namespace Sys2Proof.Laws

open Machine

/-! ### Host clock events -/

/-- The field clock and the units that run on it, SYNC and the position unit (R34). -/
def fieldClockParts : List Part := [.fclk, .sync, .pos]

theorem hostCrystalStop_leaves_fieldClocks : Leaves fieldClockParts .hostCrystalStop :=
  leaves_of execHostCrystalStop_only (by decide)

theorem hostCrystalRestart_leaves_fieldClocks : Leaves fieldClockParts .hostCrystalRestart :=
  leaves_of execHostCrystalRestart_only (by decide)

theorem hostPtpTick_leaves_fieldClocks : Leaves fieldClockParts .hostPtpTick :=
  leaves_of execHostPtpTick_only (by decide)

theorem ethernetLinkLoss_leaves_fieldClocks : Leaves fieldClockParts .ethernetLinkLoss :=
  leaves_of execEthernetLinkLoss_only (by decide)

theorem ptpSyncMessage_leaves_fieldClocks (m : PtpSync) : Leaves fieldClockParts (.ptpSyncMessage m) :=
  leaves_of (execPtpSyncMessage_only m) (by decide)

/-- R157 gives the loss timeout of the host clock and the loss of its link the same effect. -/
theorem hostClockLossTimeout_eq_ethernetLinkLoss (s : State) :
    exec (.clockLossTimeout .host) s = exec .ethernetLinkLoss s := rfl

/-- The frame of CLOCK_LOSS_TIMEOUT is that of both its clocks and so names the field clock; the host's own is that of a link loss. -/
theorem hostClockLossTimeout_leaves_fieldClocks : Leaves fieldClockParts (.clockLossTimeout .host) := by
  intro s t h
  rw [hostClockLossTimeout_eq_ethernetLinkLoss] at h
  exact ethernetLinkLoss_leaves_fieldClocks s t h

/-! ### The output pins at a host reset -/

@[simp] theorem dramLose_pins (s : State) (l : List (Nat × Nat)) : (dramLose s l).pins = s.pins := rfl

@[simp] theorem keepEnter_pins (s : State) : (keepEnter s).pins = s.pins := keepEnter_only s .pins (by decide)

@[simp] theorem resetRegs_pins (s : State) (f : Nat → Bool) : (resetRegs s f).pins = s.pins := rfl

@[simp] theorem kvReset_pins (s : State) (r : Reach) : (kvReset s r).pins = s.pins := kvReset_only s r .pins (by decide)

@[simp] theorem forwardsAbort_pins (s : State) : (forwardsAbort s).pins = s.pins := forwardsAbort_only s .pins (by decide)

@[simp] theorem setsHostDown_pins (s : State) : (setsHostDown s).pins = s.pins := setsHostDown_only s .pins (by decide)

theorem mem_dropPins_pins (s : State) (host : Bool) (p : OutPin) :
    p ∈ (dropPins s host).pins ↔ p ∈ s.pins ∧ pinOnHost p ≠ host := by
  simp [dropPins]

/-- Whatever its reach, a reset of the host die drops the host's output pins and no other (R36). -/
theorem hostReset_pins (s : State) (r : Reach) (cause : Nat) : (hostReset s r cause).pins = (dropPins s true).pins := by
  simp [hostReset, dropPins, apply_ite State.pins]

theorem mem_hostReset_pins_of_field {p : OutPin} (hp : pinOnHost p = false) (s : State) (r : Reach) (cause : Nat) :
    p ∈ (hostReset s r cause).pins ↔ p ∈ s.pins := by
  rw [hostReset_pins, mem_dropPins_pins, hp]
  simp

/-- A requested warm reset is a reset of the host die; without a request nothing happens (R971, R972). -/
theorem exec_hostWarmReset_cases {s t : State} (h : exec .hostWarmReset s = .next t) :
    (∃ r c, t = hostReset s r c) ∨ t = s := by
  injection h with h
  subst h
  cases s.hboot.pending with
  | none => exact .inr rfl
  | some c => exact .inl ⟨_, c, rfl⟩

theorem hostWarmReset_keeps_fieldPins {s t : State} (h : exec .hostWarmReset s = .next t) {p : OutPin}
    (hp : pinOnHost p = false) : p ∈ t.pins ↔ p ∈ s.pins := by
  obtain ⟨r, c, rfl⟩ | rfl := exec_hostWarmReset_cases h
  · exact mem_hostReset_pins_of_field hp s r c
  · exact Iff.rfl

end Sys2Proof.Laws

open Sys2Proof Sys2Proof.Machine Sys2Proof.Laws

/-- Settles O6: each event's frame names neither the field clock nor the SYNC unit nor the position unit. -/
theorem hostClocksNeverTouchFieldClocks : Obligations.HostClocksNeverTouchFieldClocks := by
  unfold Obligations.HostClocksNeverTouchFieldClocks
  refine ⟨?events, ptpSyncMessage_leaves_fieldClocks, ?timeout⟩
  case events =>
    simp only [List.forall_mem_cons]
    exact ⟨hostCrystalStop_leaves_fieldClocks, hostCrystalRestart_leaves_fieldClocks, hostPtpTick_leaves_fieldClocks,
      ethernetLinkLoss_leaves_fieldClocks, List.forall_mem_nil _⟩
  case timeout =>
    intro s t h
    have leaves := hostClockLossTimeout_leaves_fieldClocks s t h
    exact ⟨leaves .fclk (by decide), leaves .sync (by decide), leaves .pos (by decide)⟩

/-- Settles O7: the frame of the reset names none of the listed parts, and of the list of pins that both dies share it drops the host's only. -/
theorem hostWarmResetLeavesTheFieldDie : Obligations.HostWarmResetLeavesTheFieldDie := by
  unfold Obligations.HostWarmResetLeavesTheFieldDie
  exact ⟨leaves_of execHostWarmReset_only (by decide), fun _ _ h _ hp => hostWarmReset_keeps_fieldPins h hp⟩

end

section
/-! Chapter 03, network time: where host PTP time starts (R166). A power-on gives the host clock its reset value; a host reset
gives it time 0 in FREE-RUN whatever its reach, and sets the never-locked bit again unless it is a warm one. -/

namespace Sys2Proof.Laws

open Machine

theorem exec_powerOn_hclk (hBoot mp0 mp1 : BitVec 2) (s : State) :
    ∃ t, exec (.powerOn hBoot mp0 mp1) s = .next t ∧ t.hclk = {} :=
  ⟨_, rfl, rfl⟩

@[simp] theorem hostReset_hclk_time (s : State) (r : Reach) (cause : Nat) : (hostReset s r cause).hclk.time = 0 := rfl

@[simp] theorem hostReset_hclk_mode (s : State) (r : Reach) (cause : Nat) :
    (hostReset s r cause).hclk.mode = .freeRun := rfl

theorem hostReset_hclk_never_of_ne_warm (s : State) {r : Reach} (hr : r ≠ .warm) (cause : Nat) :
    (hostReset s r cause).hclk.never = true := if_neg hr

/-- A host reset that was asked for as a full one is entered as one (R972). -/
theorem exec_hostWarmReset_of_full {s : State} {cause : Nat} (hp : s.hboot.pending = some cause)
    (hf : s.hboot.full = true) : exec .hostWarmReset s = .next (hostReset s .full cause) := by
  have h : exec .hostWarmReset s = execHostWarmReset s := rfl
  simp [h, execHostWarmReset, hp, hf]

end Sys2Proof.Laws

open Sys2Proof Sys2Proof.Machine Sys2Proof.Laws

/-- Settles O5: at reset and after a power-on the host clock has its default value; a pending full request makes the reset
one of the reach `full`, which is not the warm reach that would keep the never-locked bit. -/
theorem powerOnAndFullResetStartHostTimeAtZero : Obligations.PowerOnAndFullResetStartHostTimeAtZero := by
  unfold Obligations.PowerOnAndFullResetStartHostTimeAtZero
  refine ⟨⟨rfl, rfl, rfl⟩, ?powerOn, ?fullReset⟩
  case powerOn =>
    intro hBoot mp0 mp1 s
    obtain ⟨t, ht, hclk⟩ := exec_powerOn_hclk hBoot mp0 mp1 s
    exact ⟨t, ht, by simp [hclk]⟩
  case fullReset =>
    intro s hp hf
    exact ⟨hostReset s .full 7, exec_hostWarmReset_of_full hp hf, hostReset_hclk_time .., hostReset_hclk_mode ..,
      hostReset_hclk_never_of_ne_warm s (by decide) 7⟩

end

section
/-! Chapter 04, Rope: the limit of unacknowledged frames (R195). Only a new frame joins the unacknowledged ones, no new frame is
chosen at 64 of them, and the return of owed credits behind a transmission only queues a LINK frame. -/

namespace Sys2Proof.Laws

open Machine

/-! ### The return of owed credits -/

theorem ropeEnd_queueLink (s : State) (d : Die) (nak : Bool) :
    ∃ c, ropeEnd (queueLink s d nak) d = { ropeEnd s d with control := c } := by
  simp only [queueLink]
  split
  · exact ⟨(ropeEnd s d).control, rfl⟩
  · exact ⟨_, ropeEnd_setEnd ..⟩

theorem ropeEnd_returnCredits (s : State) (d : Die) :
    ∃ c, ropeEnd (returnCredits s d) d = { ropeEnd s d with control := c } := by
  simp only [returnCredits]
  split
  · exact ropeEnd_queueLink s d false
  · exact ⟨(ropeEnd s d).control, rfl⟩

@[simp] theorem returnCredits_unacked (s : State) (d : Die) :
    (ropeEnd (returnCredits s d) d).unacked = (ropeEnd s d).unacked := by
  obtain ⟨c, h⟩ := ropeEnd_returnCredits s d
  rw [h]

@[simp] theorem returnCredits_wire (s : State) (d : Die) :
    (ropeEnd (returnCredits s d) d).wire = (ropeEnd s d).wire := by
  obtain ⟨c, h⟩ := ropeEnd_returnCredits s d
  rw [h]

@[simp] theorem returnCredits_queue (s : State) (d : Die) :
    (ropeEnd (returnCredits s d) d).queue = (ropeEnd s d).queue := by
  obtain ⟨c, h⟩ := ropeEnd_returnCredits s d
  rw [h]

/-! ### New frames at the limit -/

theorem nextNew_eq_none_of_full (s : State) {e : RopeEnd} (h : 64 ≤ e.unacked.length) : nextNew s e = none := if_pos h

theorem unacked_length_lt_of_nextNew {s : State} {e : RopeEnd} {f : Frame} (h : nextNew s e = some f) :
    e.unacked.length < 64 := by
  by_contra hfull
  simp [nextNew_eq_none_of_full s (not_lt.mp hfull)] at h

@[simp] theorem stampFields_unacked (e : RopeEnd) (f : Frame) : (stampFields e f).1.unacked = e.unacked := rfl

@[simp] theorem onLanes_unacked (s : State) (e : RopeEnd) (f : Frame) : (onLanes s e f).unacked = e.unacked := rfl

/-! ### One transmission -/

/-- Link control and replays leave the unacknowledged frames as they are; a new frame joins them, below the limit only. -/
theorem transmit_unacked (s : State) (d : Die) :
    (ropeEnd (transmit s d) d).unacked = (ropeEnd s d).unacked ∨
    (ropeEnd s d).unacked.length < 64 ∧ ∃ p, (ropeEnd (transmit s d) d).unacked = (ropeEnd s d).unacked ++ [p] := by
  unfold transmit
  simp only [returnCredits_unacked]
  split
  next => exact .inl (by simp) -- link control leaves
  next =>
    split
    next => exact .inl (by simp) -- a replay leaves
    next =>
      split
      next => exact .inl rfl
      next f0 hnew =>
        exact .inr ⟨unacked_length_lt_of_nextNew hnew, _, congrArg RopeEnd.unacked (ropeEnd_setEnd ..)⟩

theorem transmit_keeps_unacked_limit {s : State} {d : Die} (h : (ropeEnd s d).unacked.length ≤ 64) :
    (ropeEnd (transmit s d) d).unacked.length ≤ 64 := by
  obtain hsame | ⟨hlt, p, hnew⟩ := transmit_unacked s d
  · rwa [hsame]
  · rw [hnew, List.length_append, List.length_singleton]
    omega

theorem transmit_of_full {s : State} {d : Die} (hc : (ropeEnd s d).control = []) (hr : (ropeEnd s d).resend = [])
    (hu : 64 ≤ (ropeEnd s d).unacked.length) : transmit s d = returnCredits s d := by
  simp [transmit, hc, hr, nextNew_eq_none_of_full s hu]

theorem exec_ropeFrameTransmit (d : Die) (s : State) :
    exec (.ropeFrameTransmit d) s = .next (if ropeUp s then transmit s d else s) := rfl

end Sys2Proof.Laws

open Sys2Proof Sys2Proof.Machine Sys2Proof.Laws

/-- Settles O9: a new frame is chosen below 64 unacknowledged ones only, so one more keeps the limit; at the limit nothing but
the return of owed credits is left of the transmission. -/
theorem transmitterHoldsAtMost64Unacknowledged : Obligations.TransmitterHoldsAtMost64Unacknowledged := by
  unfold Obligations.TransmitterHoldsAtMost64Unacknowledged
  refine ⟨?limit, ?full⟩
  case limit =>
    intro d s t ht hu
    rw [exec_ropeFrameTransmit] at ht
    cases ht
    split
    · exact transmit_keeps_unacked_limit hu
    · exact hu
  case full =>
    intro d s hc hr hu
    refine ⟨_, exec_ropeFrameTransmit d s, ?_⟩
    split
    · simp [transmit_of_full hc hr hu]
    · exact ⟨rfl, rfl, rfl⟩

end

section
/-! Chapters 05 and 07, accesses of the fieldbus master that are turned away: a write of the configuration data outside its
alias word (R352), a segment out of step with its transfer and an unknown command specifier (R256). -/

namespace Sys2Proof.Laws

open Machine

theorem exec_aliasWrite_of_ne_four {s : State} (hs : slaveUp s = true) {w : BitVec 16} (hw : w ≠ 4) (v : BitVec 16) :
    exec (.aliasWrite w v) s = .next { s with bus := { s.bus with eepromError := true } } := by
  have h : exec (.aliasWrite w v) s = execAliasWrite w v s := rfl
  have hbad : w ≠ 4 ∨ hostAnswers s = false := .inl hw
  simp only [h, execAliasWrite, hs, if_pos hbad, Bool.not_true, Bool.false_eq_true, ↓reduceIte]

/-! ### SDO services on a running transfer -/

section Running

variable {s : State} {t : SdoTransfer} (hs : coeUp s = true) (ht : s.bus.transfer = some t)
include hs ht

theorem exec_sdoDownloadSegment_of_ne_toggle (hu : t.upload = false) {x : Bool} (hx : x ≠ t.toggle) (l : Bool)
    (d : List Byte) :
    exec (.sdoDownloadSegment x l d) s = .next (sdoAnswer (endTransfer s) t.index t.sub 0x05030000 []) := by
  have h : exec (.sdoDownloadSegment x l d) s = execSdoDownloadSegment x l d s := rfl
  simp [h, execSdoDownloadSegment, hs, ht, hu, hx]

theorem exec_sdoUploadSegment_of_ne_toggle (hu : t.upload = true) {x : Bool} (hx : x ≠ t.toggle) :
    exec (.sdoUploadSegment x) s = .next (sdoAnswer (endTransfer s) t.index t.sub 0x05030000 []) := by
  have h : exec (.sdoUploadSegment x) s = execSdoUploadSegment x s := rfl
  simp [h, execSdoUploadSegment, hs, ht, hu, hx]

theorem exec_sdoUnknownSpecifier_of_transfer (b : Byte) :
    exec (.sdoUnknownSpecifier b) s = .next (sdoAnswer (endTransfer s) t.index t.sub 0x05040001 []) := by
  have h : exec (.sdoUnknownSpecifier b) s = execSdoUnknownSpecifier b s := rfl
  simp [h, execSdoUnknownSpecifier, hs, ht]

end Running

theorem exec_sdoUnknownSpecifier_of_no_transfer {s : State} (hs : coeUp s = true) (ht : s.bus.transfer = none) (b : Byte) :
    exec (.sdoUnknownSpecifier b) s = .next (sdoAnswer s 0 0 0x05040001 []) := by
  have h : exec (.sdoUnknownSpecifier b) s = execSdoUnknownSpecifier b s := rfl
  simp [h, execSdoUnknownSpecifier, hs, ht]

end Sys2Proof.Laws

open Sys2Proof Sys2Proof.Machine Sys2Proof.Laws

/-- Settles O11: each command's meaning leaves at the test that fails; an unknown specifier ends a running transfer and is
answered on object 0 where none runs. -/
theorem badFieldbusAccessesAreTurnedAway : Obligations.BadFieldbusAccessesAreTurnedAway := by
  unfold Obligations.BadFieldbusAccessesAreTurnedAway
  refine ⟨?otherWord, ?downloadToggle, ?uploadToggle, ?unknownSpecifier⟩
  case otherWord => exact fun w v s hs hw => exec_aliasWrite_of_ne_four hs hw v
  case downloadToggle => exact fun x l d t s hs ht hu hx => exec_sdoDownloadSegment_of_ne_toggle hs ht hu hx l d
  case uploadToggle => exact fun x t s hs ht hu hx => exec_sdoUploadSegment_of_ne_toggle hs ht hu hx
  case unknownSpecifier =>
    intro b s hs
    cases ht : s.bus.transfer with
    | some t => exact exec_sdoUnknownSpecifier_of_transfer hs ht b
    | none => exact exec_sdoUnknownSpecifier_of_no_transfer hs ht b

end

section
/-! Chapter 06, staged change: the owner of a stage set (R291). OPEN takes a set that is IDLE, APPLIED or FAILED; until the set
is back in one of these modes, a command or append of another source fails the test of the owner and leaves all as it was. -/

namespace Sys2Proof.Laws

open Machine

/-! ### What each command answers while its source reaches the field firmware -/

section Answered

variable {s : State} {r : Source} (hr : sourceUp s r = true)
include hr

theorem exec_stageOpen_of_sourceUp (n : Fin 4) :
    exec (.stageOpen r n) s =
      .next (answerWrite (stageOpen s r n.val).1 (askerOf r) (0x2110 + n.val) 1 (stageOpen s r n.val).2) :=
  congrArg Host.Outcome.next (if_pos hr)

theorem exec_stageAppend_of_sourceUp (n : Fin 4) (d : List Byte) :
    exec (.stageAppend r n d) s =
      .next (answerWrite (stageAppend s r n.val d).1 (askerOf r) (0x2110 + n.val) 6 (stageAppend s r n.val d).2) :=
  congrArg Host.Outcome.next (if_pos hr)

theorem exec_stageCheck_of_sourceUp (n : Fin 4) :
    exec (.stageCheck r n) s =
      .next (settle (stageCheck s r n.val (askerOf r) (0x2110 + n.val, 1)) (askerOf r) (0x2110 + n.val) 1) :=
  congrArg Host.Outcome.next (if_pos hr)

theorem exec_stageArm_of_sourceUp (n : Fin 4) :
    exec (.stageArm r n) s =
      .next (settle (stageArm s r n.val (askerOf r) (0x2110 + n.val, 1)) (askerOf r) (0x2110 + n.val) 1) :=
  congrArg Host.Outcome.next (if_pos hr)

theorem exec_stageCancel_of_sourceUp (n : Fin 4) (b : Bool) :
    exec (.stageCancel r n b) s =
      .next (answerWrite (stageCancel s r n.val b).1 (askerOf r) (0x2110 + n.val) 1 (stageCancel s r n.val b).2) :=
  congrArg Host.Outcome.next (if_pos hr)

end Answered

@[simp] theorem settle_some (s : State) (c : Nat) (who : Asker) (i sub : Nat) :
    settle (s, some c) who i sub = answerWrite s who i sub c := rfl

/-! ### OPEN and the mode of the set -/

theorem stageOpen_of_closed {s : State} {n : Nat} (h : (stg s n).mode.closed = true) (r : Source) :
    stageOpen s r n = (setStg s n { mode := .opened, owner := some r, shadow := (stg s n).shadow, exchange := (stg s n).exchange }, 0) :=
  if_pos h

theorem stageOpen_of_not_closed {s : State} {n : Nat} (h : (stg s n).mode.closed = false) (r : Source) :
    stageOpen s r n = (s, 0x08000022) :=
  if_neg (Bool.eq_false_iff.mp h)

/-! ### The test of the owner -/

theorem owns_eq_false_of_owner_ne {x : StageSet} {o r : Source} (ho : x.owner = some o) (hne : o ≠ r) :
    owns x r = false := by
  simp [owns, ho, hne]

theorem mode_ne_failed_of_not_closed {m : SetMode} (h : m.closed = false) : m ≠ .failed := by
  rintro rfl
  simp [SetMode.closed] at h

section NotOwned

variable {s : State} {r : Source} {n : Nat} (h : owns (stg s n) r = false)
include h

theorem stageAppend_of_not_owned (d : List Byte) : stageAppend s r n d = (s, 0x08000022) := if_pos (.inr h)

theorem stageCheck_of_not_owned (who : Asker) (on : Nat × Nat) : stageCheck s r n who on = (s, some 0x08000022) :=
  if_pos (.inr h)

theorem stageArm_of_not_owned (who : Asker) (on : Nat × Nat) : stageArm s r n who on = (s, some 0x08000022) :=
  if_pos (.inr h)

/-- Any source may cancel a FAILED set (R292), so here the mode counts beside the owner. -/
theorem stageCancel_of_not_owned (hf : (stg s n).mode ≠ .failed) (b : Bool) : stageCancel s r n b = (s, 0x08000022) := by
  have hmine : (owns (stg s n) r || (stg s n).mode == .failed) = false := by simp [h, hf]
  simp [stageCancel, hmine]

end NotOwned

end Sys2Proof.Laws

open Sys2Proof Sys2Proof.Machine Sys2Proof.Laws

/-- Settles O10: a closed set takes the source of its OPEN as owner; OPEN fails on the mode of a set that is not closed, the
append and the other commands on the owner that the source is not. -/
theorem stageSetObeysItsOwnerOnly : Obligations.StageSetObeysItsOwnerOnly := by
  unfold Obligations.StageSetObeysItsOwnerOnly
  refine ⟨?closedSet, ?otherSource⟩
  case closedSet =>
    intro r n s hr hclosed
    rw [exec_stageOpen_of_sourceUp hr, stageOpen_of_closed hclosed]
  case otherSource =>
    intro r o n s hr ho hne hmode
    have hown : owns (stg s n.val) r = false := owns_eq_false_of_owner_ne ho hne
    have hfailed : (stg s n.val).mode ≠ .failed := mode_ne_failed_of_not_closed hmode
    refine ⟨?opens, fun d => ?appends, ?checks, ?arms, fun b => ?cancels⟩
    case opens => rw [exec_stageOpen_of_sourceUp hr, stageOpen_of_not_closed hmode]
    case appends => rw [exec_stageAppend_of_sourceUp hr, stageAppend_of_not_owned hown]
    case checks => rw [exec_stageCheck_of_sourceUp hr, stageCheck_of_not_owned hown, settle_some]
    case arms => rw [exec_stageArm_of_sourceUp hr, stageArm_of_not_owned hown, settle_some]
    case cancels => rw [exec_stageCancel_of_sourceUp hr, stageCancel_of_not_owned hown hfailed]

end

section
/-! Chapter 08, accesses of the cores that go wrong: misaligned MMIO (R385), MMIO addresses that no block occupies (R387) and
loads from poisoned lines (R418). -/

namespace Sys2Proof.Laws

open Machine

/-! ### The regions of the memory map do not overlap (R381) -/

theorem inMmio_above_rom {a : Nat} (h : inMmio a = true) : ¬ a < 0x40000 := by
  simp only [inMmio, Bool.and_eq_true, decide_eq_true_eq] at h
  omega

theorem dramBase_le_of_inDram {s : State} {a : Nat} (h : inDram s a = true) : 0x800000000 ≤ a := by
  simp only [inDram, Bool.and_eq_true, decide_eq_true_eq] at h
  exact h.1

theorem inDram_above_rom {s : State} {a : Nat} (h : inDram s a = true) : ¬ a < 0x40000 := by
  have := dramBase_le_of_inDram h
  omega

theorem inMmio_eq_false_of_inDram {s : State} {a : Nat} (h : inDram s a = true) : inMmio a = false := by
  have := dramBase_le_of_inDram h
  simp only [inMmio, Bool.and_eq_false_iff, decide_eq_false_iff_not]
  omega

theorem inPcie_eq_false_of_inDram {s : State} {a : Nat} (h : inDram s a = true) : inPcie a = false := by
  have := dramBase_le_of_inDram h
  simp only [inPcie, Bool.and_eq_false_iff, decide_eq_false_iff_not]
  omega

/-! ### Accesses of MMIO -/

section Mmio

variable {s : State} {a : BitVec 40} (hs : hostHw s = true) (hm : inMmio a.toNat = true)
include hs hm

theorem exec_registerWrite_of_misfit {n : Nat} (hn : ¬ ((n = 4 ∨ n = 8) ∧ a.toNat % n = 0)) (b : Bool) (k : Fin 8)
    (v : BitVec 64) : exec (.registerWrite b k a n v) s = .next (coreFaults s k.val) := by
  have h : exec (.registerWrite b k a n v) s = execRegisterWrite b k a n v s := rfl
  have hmisfit : (!(decide (n = 4) || decide (n = 8)) || decide (a.toNat % n ≠ 0)) = true := by
    rwa [← Bool.decide_or, ← decide_not, ← Bool.decide_or, decide_eq_true_eq, ← not_and_or]
  simp only [h, execRegisterWrite, hs, hm, hmisfit, Bool.not_true, Bool.false_eq_true, ↓reduceIte]

theorem exec_registerWrite_of_hole (hb : blockAt a.toNat = none) {n : Nat} (hn : n = 4 ∨ n = 8) (ha : a.toNat % n = 0)
    (b : Bool) (k : Fin 8) (v : BitVec 64) :
    exec (.registerWrite b k a n v) s =
      .next (fabFault (coreOk s) (coreRec 4 k.val (a.toNat / 64 * 64) ((2 ^ n - 1) * 2 ^ (a.toNat % 64)))) := by
  have h : exec (.registerWrite b k a n v) s = execRegisterWrite b k a n v s := rfl
  obtain rfl | rfl := hn
  · simp [h, execRegisterWrite, hs, hm, hb, ha]
  · simp [h, execRegisterWrite, hs, hm, hb, ha]

theorem exec_coreLoad_of_misaligned (ha : a.toNat % 4 ≠ 0) (k : Fin 8) :
    exec (.coreLoad k a) s = .next (coreFaults s k.val) := by
  have h : exec (.coreLoad k a) s = execCoreLoad k a s := rfl
  simp [h, execCoreLoad, hs, hm, inMmio_above_rom hm, ha]

theorem exec_coreLoad_of_hole (hb : blockAt a.toNat = none) (ha : a.toNat % 4 = 0) (k : Fin 8) :
    exec (.coreLoad k a) s = .next (fabFault (coreRead s [0, 0, 0, 0]) (coreRec 4 k.val (a.toNat / 64 * 64) 0)) := by
  have h : exec (.coreLoad k a) s = execCoreLoad k a s := rfl
  simp [h, execCoreLoad, hs, hm, inMmio_above_rom hm, hb, ha]

end Mmio

/-! ### Loads from DRAM -/

theorem exec_coreLoad_of_poisoned {s : State} {a : BitVec 40} (hs : hostHw s = true) (hd : inDram s a.toNat = true)
    (hp : s.mem.poison.contains (a.toNat / 64 * 64) = true) (k : Fin 8) :
    exec (.coreLoad k a) s = .next (coreFaults s k.val) := by
  have h : exec (.coreLoad k a) s = execCoreLoad k a s := rfl
  simp only [h, execCoreLoad, hs, inDram_above_rom hd, inMmio_eq_false_of_inDram hd, inPcie_eq_false_of_inDram hd, hp,
    Bool.not_true, Bool.and_false, Bool.false_eq_true, ↓reduceIte]

/-! ### The fabric record -/

@[simp] theorem logHost_mem (s : State) (r : FaultRec) : (logHost s r).mem = s.mem := logHost_only s r .mem (by decide)

/-- The records stand newest first, the 64 newest of them (R438). -/
theorem fabFault_fab (s : State) (r : FabRec) : (fabFault s r).mem.fab = (r :: s.mem.fab).take 64 := by
  simp [fabFault]

end Sys2Proof.Laws

open Sys2Proof Sys2Proof.Machine Sys2Proof.Laws

/-- Settles O12: each access ends at the first test it fails; DRAM lies above the ROM, MMIO and PCIe, so the test of a load from
it is the one of its line, and a record enters at the head of the fabric's list. -/
theorem coresFaultOnBadAccesses : Obligations.CoresFaultOnBadAccesses := by
  unfold Obligations.CoresFaultOnBadAccesses
  refine ⟨⟨?misfitWrite, ?misalignedLoad⟩, ⟨?holeWrite, ?holeLoad, ?newestRecord⟩, ?poisonedLoad⟩
  case misfitWrite => exact fun b k a n v s hs hm hn => exec_registerWrite_of_misfit hs hm hn b k v
  case misalignedLoad => exact fun k a s hs hm ha => exec_coreLoad_of_misaligned hs hm ha k
  case holeWrite => exact fun b k a n v s hs hm hb hn ha => exec_registerWrite_of_hole hs hm hb hn ha b k v
  case holeLoad => exact fun k a s hs hm hb ha => exec_coreLoad_of_hole hs hm hb ha k
  case newestRecord =>
    intro s r
    rw [fabFault_fab, List.take_succ_cons, List.head?_cons]
  case poisonedLoad => exact fun k a s hs hd hp => exec_coreLoad_of_poisoned hs hd hp k

end

section
/-! Chapter 10, vision engines: the release of a flag of Grotto whose buffer or copy is not VALID (R529). -/

namespace Sys2Proof.Laws

open Machine

theorem exec_visFlagRelease_of_hostUp {s : State} (hs : hostUp s = true) (v : BitVec 32) :
    exec (.visFlagRelease v) s = .next (flagRelease s (v.toNat % 1024)) := by
  have h : exec (.visFlagRelease v) s = execVisFlagRelease v s := rfl
  rw [h, execVisFlagRelease, if_pos hs]

theorem flagRelease_of_not_valid {s : State} {f : Nat} (hf : (flag s f).mode ≠ .valid) :
    flagRelease s f = bump s 0x2620 2 := if_pos (.inl hf)

/-- The counter of releases that changed nothing is a U32. -/
theorem osize_releaseCounter : osize 0x2620 2 = 4 := by decide +kernel

theorem objN_bump_releaseCounter (s : State) :
    objN (bump s 0x2620 2) 0x2620 2 = (objN s 0x2620 2 + 1) % 2 ^ 32 := by
  rw [objN_bump, osize_releaseCounter, show 256 ^ 4 = 2 ^ 32 from rfl]

end Sys2Proof.Laws

open Sys2Proof Sys2Proof.Machine Sys2Proof.Laws

/-- Settles O17: a flag that is not VALID fails the test of the release, which then only advances the counter. -/
theorem releaseOfAnInvalidFlagIsCounted : Obligations.ReleaseOfAnInvalidFlagIsCounted := by
  unfold Obligations.ReleaseOfAnInvalidFlagIsCounted
  intro v s hs hf
  refine ⟨bump s 0x2620 2, ?next, bump_flags s _ _ _, objN_bump_releaseCounter s⟩
  case next => rw [exec_visFlagRelease_of_hostUp hs, flagRelease_of_not_valid hf]

end

section
/-! Chapter 12, gallery scheduling: a queue that takes a descriptor has NQ_CTRL.ENABLE set and its queue-enable object true (R601). -/

namespace Sys2Proof.Laws

open Machine

/-- The two enables of R601 are among the conditions of a take. -/
theorem enables_of_canTake {s : State} {q : Nat} (h : canTake s q = true) :
    (reg s (nqReg q 0x10)).testBit 0 = true ∧ (queueSettings s q).testBit 0 = true := by
  simp only [canTake, Bool.and_eq_true] at h
  obtain ⟨⟨⟨⟨⟨⟨⟨⟨⟨⟨-, hctrl⟩, -⟩, -⟩, -⟩, -⟩, hobject⟩, -⟩, -⟩, -⟩, -⟩ := h
  exact ⟨hctrl, hobject⟩

theorem canTake_eq_false_of_disabled {s : State} {q : Nat}
    (h : (reg s (nqReg q 0x10)).testBit 0 = false ∨ (queueSettings s q).testBit 0 = false) : canTake s q = false := by
  rw [Bool.eq_false_iff]
  intro htake
  obtain ⟨hctrl, hobject⟩ := enables_of_canTake htake
  obtain hclear | hclear := h
  · exact Bool.false_ne_true (hclear.symm.trans hctrl)
  · exact Bool.false_ne_true (hclear.symm.trans hobject)

theorem exec_descriptorTake_of_not_canTake {s : State} {q : Fin 4096} (h : canTake s q.val = false) :
    exec (.descriptorTake q) s = .next s := by
  have hexec : exec (.descriptorTake q) s = execDescriptorTake q s := rfl
  rw [hexec, execDescriptorTake, if_neg (Bool.eq_false_iff.mp h)]

end Sys2Proof.Laws

open Sys2Proof Sys2Proof.Machine Sys2Proof.Laws

/-- Settles O18: a clear enable fails the test of the take, which then keeps the state. -/
theorem queueTakesNothingUnlessEnabled : Obligations.QueueTakesNothingUnlessEnabled := by
  unfold Obligations.QueueTakesNothingUnlessEnabled
  exact fun q s h => exec_descriptorTake_of_not_canTake (canTake_eq_false_of_disabled h)

end

section
/-! Chapter 15, composition and video output: the layer addresses that a frame start latches (R751), and the hot-plug input of the
DisplayPort output (R762). -/

namespace Sys2Proof.Laws

open Machine

theorem testBit_setBit_true (v i : Nat) : (setBit v i true).testBit i = true := by
  have h : setBit v i true = 2 ^ i * (2 * (v / (2 ^ i * 2)) + 1) + v % 2 ^ i := by
    simp only [setBit, setBits, b2n, Nat.add_sub_cancel_left, if_true, Nat.pow_one, Nat.one_mod]
    ring
  rw [h, Nat.testBit_two_pow_mul_add _ (Nat.mod_lt _ (Nat.two_pow_pos i))]
  simp

/-! ### Interrupts of the engine -/

@[simp] theorem compIrq_comp (s : State) (b : Nat) : (compIrq s b).comp = s.comp := compIrq_only s b .comp (by decide)

theorem reg_hostIrq (s : State) (k a : Nat) : reg (hostIrq s k) a = reg s a := by
  rw [reg, hostIrq_regs, reg]

/-- An interrupt of the engine writes no register but COMP_IRQ. -/
theorem reg_compIrq (s : State) (b a : Nat) :
    reg (compIrq s b) a = reg (setReg s (bCOMP + 4) (setBit (reg s (bCOMP + 4)) b true)) a := by
  unfold compIrq
  dsimp only
  split
  · exact reg_hostIrq ..
  · rfl

theorem reg_compIrq_other (s : State) (b : Nat) {a : Nat} (h : a ≠ bCOMP + 4) : reg (compIrq s b) a = reg s a := by
  rw [reg_compIrq, reg_setReg_other _ _ h]

theorem testBit_compIrq (s : State) (b : Nat) : (reg (compIrq s b) (bCOMP + 4)).testBit b = true := by
  rw [reg_compIrq, reg_setReg, testBit_setBit_true]

/-! ### What composition and write-back leave of the engine's own part -/

@[simp] theorem fetchLine_comp (s : State) (y : Nat) : (fetchLine s y).1.comp = s.comp := fetchLine_only s y .comp (by decide)

@[simp] theorem wbLine_comp (s : State) (y : Nat) : (wbLine s y).comp = s.comp := wbLine_only s y .comp (by decide)

@[simp] theorem engStore_comp (s : State) (w : Origin) (a : Nat) (d : List Byte) : (engStore s w a d).1.comp = s.comp :=
  engStore_only s w a d .comp (by decide)

@[simp] theorem wbRecord_latched (s : State) (w : WbFrame) : (wbRecord s w).comp.latched = s.comp.latched := by
  simp [wbRecord, apply_ite State.comp]

@[simp] theorem wbDrop_latched (s : State) (flags : Nat) : (wbDrop s flags).comp.latched = s.comp.latched := by
  simp [wbDrop]

@[simp] theorem wbStart_latched (s : State) : (wbStart s).comp.latched = s.comp.latched := by
  unfold wbStart
  dsimp only
  split
  · rfl -- no write-back of this frame
  · split
    · rfl -- the next buffer is ready
    · exact wbDrop_latched ..

/-! ### The commands -/

theorem compFrameStart_latches_addresses {s : State} (h : compRuns s = true) : ∃ t, exec .compFrameStart s = .next t ∧
    t.comp.latched = (List.range 6).map (fun l => reg s (bCOMP + 0x10 + 8 * l)) := by
  refine ⟨_, congrArg Host.Outcome.next (if_neg (by simp [h])), ?_⟩
  rw [wbStart_latched, compIrq_comp, bump_comp, bump_comp]

theorem exec_compLayerAddrWrite_of_hostUp {s : State} (h : hostUp s = true) (l : Fin 6) (v : BitVec 64) :
    exec (.compLayerAddrWrite l v) s = .next (setReg s (bCOMP + 0x10 + 8 * l.val) v.toNat) :=
  congrArg Host.Outcome.next (if_pos h)

theorem compLineStart_keeps_latched {d : BitVec 6} {f o : Bool} {s t : State} (h : exec (.compLineStart d f o) s = .next t) :
    t.comp.latched = s.comp.latched := by
  have hexec : exec (.compLineStart d f o) s = execCompLineStart d f o s := rfl
  rw [hexec, execCompLineStart] at h
  cases h
  split
  · rfl -- the engine is off or all lines are done
  · dsimp only
    split
    · simp [apply_ite State.comp] -- an overflow drops the frame's write-back
    · simp [apply_ite State.comp] -- the line goes to the buffer, if the frame has one

theorem exec_hpdFall_of_hostUp {s : State} (h : hostUp s = true) : exec .hpdFall s =
    .next (compIrq (setReg { s with comp := { s.comp with hpd := false, training := false, dpOut := [] } } (bCOMP + 0x44)
      (setBit (reg s (bCOMP + 0x44)) 1 false)) 3) :=
  congrArg Host.Outcome.next (if_pos h)

theorem exec_hpdRise_of_hostUp {s : State} (h : hostUp s = true) :
    exec .hpdRise s = .next (compIrq { s with comp := { s.comp with hpd := true } } 3) :=
  congrArg Host.Outcome.next (if_pos h)

/-! ### When DisplayPort shows no video -/

theorem dpVideo_eq_false_of_no_sink {s : State} (h : s.comp.hpd = false) : dpVideo s = false := by
  simp [dpVideo, h]

theorem dpVideo_eq_false_of_untrained {s : State} (h : (reg s (bCOMP + 0x44)).testBit 1 = false) : dpVideo s = false := by
  simp [dpVideo, h]

end Sys2Proof.Laws

open Sys2Proof Sys2Proof.Machine Sys2Proof.Laws

/-- Settles O20: the frame start reads the six address registers into the latch; the write of one reaches `regs` alone, and
neither a line's own update nor its write-back names the latch. -/
theorem layerAddressesAreLatchedAtFrameStart : Obligations.LayerAddressesAreLatchedAtFrameStart := by
  unfold Obligations.LayerAddressesAreLatchedAtFrameStart
  refine ⟨?frameStart, ?laterWrite, fun d f o s t h => compLineStart_keeps_latched h⟩
  case frameStart =>
    intro s h
    obtain ⟨t, ht, hlatched⟩ := compFrameStart_latches_addresses h
    refine ⟨t, ht, fun l => ?_⟩
    simp [hlatched, lget]
  case laterWrite =>
    intro l v s h
    exact ⟨_, exec_compLayerAddrWrite_of_hostUp h l v, rfl, reg_setReg ..⟩

/-- Settles O21: the fall takes the sink and the interrupt sets its bit; the rise brings the sink alone, and video stays away for
want of a trained link. -/
theorem hotPlugFallStopsTheOutput : Obligations.HotPlugFallStopsTheOutput := by
  unfold Obligations.HotPlugFallStopsTheOutput
  refine ⟨?fall, ?rise⟩
  case fall =>
    intro s h
    refine ⟨_, exec_hpdFall_of_hostUp h, ?output, ?video, testBit_compIrq .., ?writeBack, ?ended⟩
    case video => exact dpVideo_eq_false_of_no_sink (by simp)
    case output | writeBack | ended => simp
  case rise =>
    intro s t h _ _ huntrained ht
    rw [exec_hpdRise_of_hostUp h] at ht
    cases ht
    refine dpVideo_eq_false_of_untrained ?_
    rw [reg_compIrq_other _ _ (by decide)]
    exact huntrained

end

section
/-! Chapter 16, motion and I/O: a low channel of an STO input (R787) and the torque-off state in which the trip path leaves an axis
(R789). -/

namespace Sys2Proof.Laws

open Machine

/-! ### What a trip does to the axes -/

/-- The trip path has placed the axis in torque-off: its STO latch is set and it drives no torque (R789). -/
def Tripped (s : State) (a : Nat) : Prop := (ax s a).sto = true ∧ Still s a

theorem tripped_congr {s t : State} {a : Nat} (h : ax t a = ax s a) : Tripped t a ↔ Tripped s a := by
  simp only [Tripped, Still, h]

/-- The reaction of an axis that had torque is a matter of the control engine: the motion I/O changes by the trip alone. -/
theorem ax_tripSto (s : State) (a : Nat) (internal : Bool) (b : Nat) : ax (tripSto s a internal) b =
    ax (setAx s a { ax s a with sto := true, internalSto := (ax s a).internalSto || internal, driving := false, gden := false,
                                outs := tripOuts false }) b := by
  unfold tripSto
  dsimp only
  split
  · rfl -- the axis had torque
  · rfl -- the axis had none

theorem ax_tripSto_other (s : State) {a b : Nat} (internal : Bool) (h : b ≠ a) : ax (tripSto s a internal) b = ax s b := by
  rw [ax_tripSto, ax_setAx_other _ _ h]

theorem tripped_tripSto_same (s : State) (a : Nat) (internal : Bool) : Tripped (tripSto s a internal) a := by
  simp [Tripped, Still, ax_tripSto, tripOuts]

/-- No trip takes an axis out of torque-off, neither its own nor that of another axis. -/
theorem tripped_tripSto {s : State} {a : Nat} (h : Tripped s a) (b : Nat) (internal : Bool) : Tripped (tripSto s b internal) a := by
  by_cases hab : a = b
  · subst hab
    exact tripped_tripSto_same ..
  · exact (tripped_congr (ax_tripSto_other s internal hab)).mpr h

/-- After the trips of a list of axes, those of the list and those tripped before are in torque-off. -/
theorem tripped_foldl_tripSto (internal : Bool) {a : Nat} (l : List Nat) {s : State} (h : Tripped s a ∨ a ∈ l) :
    Tripped (l.foldl (fun t b => tripSto t b internal) s) a := by
  induction l generalizing s with
  | nil => simpa using h
  | cons b l ih =>
    refine ih ?_
    rcases h with before | named
    · exact .inl (tripped_tripSto before b internal)
    · rcases List.mem_cons.mp named with rfl | later
      · exact .inl (tripped_tripSto_same s a internal)
      · exact .inr later

/-! ### The channels of the STO inputs -/

@[simp] theorem stoChannel_fobj (s : State) (n : Nat) (b level : Bool) : (stoChannel s n b level).fobj = s.fobj :=
  stoChannel_only s n b level .fobj (by decide)

@[simp] theorem stoChannel_hobj (s : State) (n : Nat) (b level : Bool) : (stoChannel s n b level).hobj = s.hobj :=
  stoChannel_only s n b level .hobj (by decide)

/-- The level of a channel is no object: the axes name the inputs they named before. -/
@[simp] theorem namesSto_stoChannel (s : State) (n : Nat) (b level : Bool) (a m : Nat) :
    namesSto (stoChannel s n b level) a m = namesSto s a m := by
  simp [namesSto, objN, stored]

theorem exec_stoInputEdge_low {s : State} (h : fieldHw s = true) (n : Fin 2) (b : Bool) : exec (.stoInputEdge n b false) s =
    .next (((List.range 8).filter (fun a => namesSto (stoChannel s n.val b false) a n.val)).foldl (fun t a => tripSto t a false)
      (stoChannel s n.val b false)) :=
  congrArg Host.Outcome.next (if_neg (by simp [h]))

end Sys2Proof.Laws

open Sys2Proof Sys2Proof.Machine Sys2Proof.Laws

/-- Settles O22: the fall of the channel trips every axis of the list that names the input, and no later trip of the list undoes
an earlier one. -/
theorem lowStoChannelPutsItsAxesInTorqueOff : Obligations.LowStoChannelPutsItsAxesInTorqueOff := by
  unfold Obligations.LowStoChannelPutsItsAxesInTorqueOff
  intro n b s h
  refine ⟨_, exec_stoInputEdge_low h n b, fun a hnames => ?_⟩
  have listed : a.val ∈ (List.range 8).filter (fun a => namesSto (stoChannel s n.val b false) a n.val) := by simpa using hnames
  exact tripped_foldl_tripSto false _ (.inr listed)

end

section
/-! Chapter 18, safety: an uncorrectable error of the field SRAM (R903), and a record of the fault log that field flash does not
take (R904). -/

namespace Sys2Proof.Laws

open Machine

/-! ### Internal STO -/

/-- A trip demands internal STO of its own axis, if it is an internal one, and lifts it from none (R886). -/
theorem internalSto_tripSto (s : State) (a b : Nat) (internal : Bool) :
    (ax (tripSto s b internal) a).internalSto = ((ax s a).internalSto || (internal && decide (a = b))) := by
  by_cases hab : a = b
  · subst hab
    simp [ax_tripSto]
  · simp [ax_tripSto_other s internal hab, hab]

theorem internalSto_foldl_tripSto (l : List Nat) (s : State) (a : Nat) (internal : Bool) :
    (ax (l.foldl (fun t b => tripSto t b internal) s) a).internalSto =
      ((ax s a).internalSto || (internal && decide (a ∈ l))) := by
  induction l generalizing s with
  | nil => simp
  | cons b l ih =>
    rw [List.foldl_cons, ih, internalSto_tripSto]
    simp [Bool.or_assoc, Bool.and_or_distrib_left]

theorem stoAll_internalSto (s : State) (a : Fin 8) : (ax (stoAll s) a.val).internalSto = true := by
  rw [stoAll, internalSto_foldl_tripSto, decide_eq_true (List.mem_range.mpr a.isLt)]
  exact Bool.or_true _

theorem stoAll_still (s : State) (a : Fin 8) : Still (stoAll s) a.val :=
  (tripped_foldl_tripSto true _ (.inr (List.mem_range.mpr a.isLt))).2

@[simp] theorem stoAll_fboot (s : State) : (stoAll s).fboot = s.fboot := stoAll_only s .fboot (by decide)

@[simp] theorem fieldUp_stoAll (s : State) : fieldUp (stoAll s) = fieldUp s := by
  rw [fieldUp, stoAll_fboot, fieldUp]

/-! ### Records of the field die -/

@[simp] theorem logField_axes (s : State) (r : FaultRec) : (logField s r).axes = s.axes := logField_only s r .axes (by decide)

@[simp] theorem class2_saf (s : State) (p : List Byte) : (class2 s p).saf = s.saf := class2_only s p .saf (by decide)

/-- The new record heads the log, under the TYPE it came with (R894). -/
theorem logField_newest_type (s : State) (r : FaultRec) : ∃ q, (logField s r).saf.log.head? = some q ∧ q.type = r.type := by
  refine ⟨{ r with source := 0, seq := BitVec.ofNat 32 s.saf.seqField, time := s.fclk.time, position := linePos s }, ?_, rfl⟩
  simp [logField]

/-! ### The error of the field SRAM -/

theorem fieldHw_of_fieldUp {s : State} (h : fieldUp s = true) : fieldHw s = true := by
  rw [fieldHw, ← fieldUp, h, Bool.true_or]

/-- R903 while the firmware runs: mechanism 3 is the newest in 0x3440:02, and its record names the memory and the address. -/
theorem exec_fieldSramUncorrectable_of_fieldUp {s : State} (h : fieldUp s = true) (m : BitVec 64) :
    exec (.fieldSramUncorrectable m) s = .next (logField (putN (stoAll s) 0x3440 2 3)
      (mkRec 8 3 ([Config.memoryCode 0] ++ leBytes 8 m.toNat) (reaction := 5))) := by
  have hw := fieldHw_of_fieldUp h
  have hexec : exec (.fieldSramUncorrectable m) s = execFieldSramUncorrectable m s := rfl
  simp [hexec, execFieldSramUncorrectable, hw, h]

/-- With the firmware halted the hardware still trips the axes, and there is none to write a record (log entry 44). -/
theorem exec_fieldSramUncorrectable_of_halted {s : State} (hw : fieldHw s = true) (h : fieldUp s = false) (m : BitVec 64) :
    exec (.fieldSramUncorrectable m) s = .next (stoAll s) := by
  have hexec : exec (.fieldSramUncorrectable m) s = execFieldSramUncorrectable m s := rfl
  simp [hexec, execFieldSramUncorrectable, hw, h]

/-! ### The error register -/

theorem osize_errorRegister : osize 0x1001 0 = 1 := by decide +kernel

/-- The errors of the axes only add bits to the held ones. -/
theorem testBit_errorReg_of_held {s : State} {i : Nat} (h : (objN s 0x1001 0).testBit i = true) :
    (errorReg s).testBit i = true := by
  refine List.foldlRecOn (motive := fun r : Nat => r.testBit i = true) (List.range 8) _ h fun r hr a _ => ?_
  dsimp only
  split
  · exact hr -- the axis has no error
  · simp [hr] -- the class of its error

theorem errorCleared_of_errorReg_ne_zero (old : Nat) {s : State} (h : errorReg s ≠ 0) : errorCleared old s = s :=
  if_neg fun hc => h hc.2

/-- A held bit that is set is read back. -/
theorem testBit_objN_putN_setBit (s : State) (v : Nat) {i : Nat} (hi : i < 8) :
    (objN (putN s 0x1001 0 (setBit v i true)) 0x1001 0).testBit i = true := by
  rw [objN_putN, osize_errorRegister, show 256 ^ 1 = 2 ^ 8 from rfl, Nat.testBit_mod_two_pow, testBit_setBit_true,
    decide_eq_true hi, Bool.and_true]

/-- A bit that is set keeps the register off zero, so no emergency 0x0000 follows (R360). -/
theorem errorBit_true (s : State) {i : Nat} (hi : i < 8) :
    errorBit s i true = putN s 0x1001 0 (setBit (objN s 0x1001 0) i true) := by
  refine errorCleared_of_errorReg_ne_zero _ fun hzero => ?_
  have hbit := testBit_errorReg_of_held (testBit_objN_putN_setBit s (objN s 0x1001 0) hi)
  simp [hzero] at hbit

theorem exec_faultLogFlashWrite_false {s : State} {r : FaultRec} {l : List FaultRec} (h : fieldUp s = true)
    (hu : s.saf.unwritten = r :: l) : exec (.faultLogFlashWrite false) s = .next (errorBit s 7 true) := by
  have hexec : exec (.faultLogFlashWrite false) s = execFaultLogFlashWrite false s := rfl
  simp [hexec, execFaultLogFlashWrite, h, hu]

end Sys2Proof.Laws

open Sys2Proof Sys2Proof.Machine Sys2Proof.Laws

/-- Settles O23: the trips of all eight axes come first, whether the firmware runs or has halted, and its record then enters at the
head of the log and leaves the axes alone. -/
theorem fieldSramErrorAssertsInternalSto : Obligations.FieldSramErrorAssertsInternalSto := by
  unfold Obligations.FieldSramErrorAssertsInternalSto
  intro m s hw
  cases hup : fieldUp s with
  | false =>
    exact ⟨_, exec_fieldSramUncorrectable_of_halted hw hup m, fun a => ⟨stoAll_internalSto s a, stoAll_still s a⟩, nofun⟩
  | true =>
    refine ⟨_, exec_fieldSramUncorrectable_of_fieldUp hup m, fun a => ?axes, fun _ => logField_newest_type ..⟩
    have stopped : (ax (stoAll s) a.val).internalSto = true ∧ Still (stoAll s) a.val :=
      ⟨stoAll_internalSto s a, stoAll_still s a⟩
    simpa [Still, ax] using stopped

/-- Settles O24: the failed write sets a bit of the error register, which as an object is no part of the log. -/
theorem failedFlashWriteKeepsTheRecord : Obligations.FailedFlashWriteKeepsTheRecord := by
  unfold Obligations.FailedFlashWriteKeepsTheRecord
  intro r l s h hu
  have hexec := exec_faultLogFlashWrite_false h hu
  rw [errorBit_true s (by decide)] at hexec
  exact ⟨_, hexec, putN_saf .., testBit_objN_putN_setBit s _ (by decide)⟩

end

section
/-! Invariants of every step (R991, R992, R894 to R896, log entries 1 and 4). One case split over the commands says of each that it
keeps what Laws/Keep names (the OTP fields, the debug lock, the bounds of the fault log, DRAM's canonical form) and leaves the queue of
waiting commands alone; a step runs one command on a state that differs in its queue only. -/

namespace Sys2Proof.Laws

open Machine

/-- The parts that a command may change at all: every part but the queue of waiting commands, the last one. -/
def ownParts : Nat := 2 ^ Part.pending.ctorIdx - 1

/-- A command keeps what every operation keeps, and its frame does not name the queue of waiting commands. -/
structure Tame (c : Instr) : Prop where
  keeps : ∀ s, OutKeeps s (exec c s)
  queue : ∀ s, OutOnly ownParts s (exec c s)

theorem Tame.of_keeps {m : Nat} {c : Instr} (k : ∀ s, OutKeeps s (exec c s)) (h : ∀ s, OutOnly m s (exec c s))
    (hm : m &&& ownParts = m := by rfl) : Tame c :=
  ⟨k, fun s => (h s).mono hm⟩

/-- A command whose frame names neither the boot states nor DRAM nor the fault log keeps them. -/
theorem Tame.of_only {m : Nat} {c : Instr} (h : ∀ s, OutOnly m s (exec c s))
    (hk : m &&& 281492156579843 = 0 := by rfl) (hm : m &&& ownParts = m := by rfl) : Tame c :=
  .of_keeps (fun s => .of (h s) hk) h hm

/-- Every command is tame. -/
theorem tame (c : Instr) : Tame c := by
  cases c with
  | powerOn => exact .of_keeps (execPowerOn_keeps _ _ _) (execPowerOn_only _ _ _)
  | hostVinRise => exact .of_keeps execHostVinRise_keeps execHostVinRise_only
  | hostVinLow => exact .of_keeps execHostVinLow_keeps execHostVinLow_only
  | fieldVinLow => exact .of_keeps execFieldVinLow_keeps execFieldVinLow_only
  | fieldVinRise => exact .of_keeps execFieldVinRise_keeps execFieldVinRise_only
  | fieldVinHigh => exact .of_keeps execFieldVinHigh_keeps execFieldVinHigh_only
  | fieldVinHighRelease => exact .of_keeps execFieldVinHighRelease_keeps execFieldVinHighRelease_only
  | hostVinHigh => exact .of_keeps execHostVinHigh_keeps execHostVinHigh_only
  | hostCrystalStop => exact .of_keeps execHostCrystalStop_keeps execHostCrystalStop_only
  | tcxoStop => exact .of_keeps execTcxoStop_keeps execTcxoStop_only
  | hResetLLow => exact .of_keeps execHResetLLow_keeps execHResetLLow_only
  | fResetLLow => exact .of_keeps execFResetLLow_keeps execFResetLLow_only
  | hostWarmReset => exact .of_keeps execHostWarmReset_keeps execHostWarmReset_only
  | hostBoot => exact .of_keeps (execHostBoot_keeps _ _) (execHostBoot_only _ _)
  | fieldBoot => exact .of_keeps execFieldBoot_keeps execFieldBoot_only
  | hostResetRequest => exact .of_keeps (execHostResetRequest_keeps _) (execHostResetRequest_only _)
  | fieldOnlyResetCommand => exact .of_keeps execFieldOnlyResetCommand_keeps execFieldOnlyResetCommand_only
  | fullResetCommand => exact .of_keeps execFullResetCommand_keeps execFullResetCommand_only
  | fullResetRequest => exact .of_keeps execFullResetRequest_keeps execFullResetRequest_only
  | fullResetDelayExpiry => exact .of_keeps execFullResetDelayExpiry_keeps execFullResetDelayExpiry_only
  | ropeAlive value => exact .of_keeps (execRopeAlive_keeps value) (execRopeAlive_only value)
  | aliveExpiry => exact .of_keeps execAliveExpiry_keeps execAliveExpiry_only
  | bootLimitExpiry => exact .of_keeps execBootLimitExpiry_keeps execBootLimitExpiry_only
  | supervisorLockstepMismatch => exact .of_keeps execSupervisorLockstepMismatch_keeps execSupervisorLockstepMismatch_only
  | commitHostTrial => exact .of_keeps (execCommitHostTrial_keeps _) (execCommitHostTrial_only _)
  | commitFieldTrial => exact .of_keeps (execCommitFieldTrial_keeps _) (execCommitFieldTrial_only _)
  | installHostImage => exact .of_keeps (execInstallHostImage_keeps _ _) (execInstallHostImage_only _ _)
  | motionOverrideWrite => exact .of_only (execMotionOverrideWrite_only _)
  | levelsFrame => exact .of_keeps (execLevelsFrame_keeps _) (execLevelsFrame_only _)
  | ropeFrameTransmit => exact .of_only (execRopeFrameTransmit_only _)
  | ropeFrameReceive => exact .of_keeps (execRopeFrameReceive_keeps _ _) (execRopeFrameReceive_only _ _)
  | linkFrame => exact .of_keeps (execLinkFrame_keeps _) (execLinkFrame_only _)
  | ackDue => exact .of_only (execAckDue_only _)
  | creditReturn => exact .of_only (execCreditReturn_only _)
  | replayTimeout => exact .of_only (execReplayTimeout_only _)
  | pairFault => exact .of_keeps (execPairFault_keeps _) (execPairFault_only _)
  | retrainReqFrame => exact .of_keeps (execRetrainReqFrame_keeps _ _ _) (execRetrainReqFrame_only _ _ _)
  | retrainRequestWrite => exact .of_keeps (execRetrainRequestWrite_keeps _ _) (execRetrainRequestWrite_only _ _)
  | retrainPairFail => exact .of_keeps (execRetrainPairFail_keeps _) (execRetrainPairFail_only _)
  | trainingAttempt => exact .of_only (execTrainingAttempt_only _)
  | linkUp => exact .of_keeps (execLinkUp_keeps _ _) (execLinkUp_only _ _)
  | tallyLockAcquired => exact .of_only (execTallyLockAcquired_only _)
  | tallyLockLoss => exact .of_only execTallyLockLoss_only
  | fieldHeartbeatSend => exact .of_only execFieldHeartbeatSend_only
  | hostHeartbeatSend => exact .of_only execHostHeartbeatSend_only
  | hostHeartbeatReceive => exact .of_only execHostHeartbeatReceive_only
  | fieldHeartbeatReceive => exact .of_only execFieldHeartbeatReceive_only
  | heartbeatTimeout => exact .of_keeps execHeartbeatTimeout_keeps execHeartbeatTimeout_only
  | fieldHeartbeatTimeout => exact .of_keeps execFieldHeartbeatTimeout_keeps execFieldHeartbeatTimeout_only
  | partnerBootTimeout => exact .of_keeps (execPartnerBootTimeout_keeps _) (execPartnerBootTimeout_only _)
  | postedWriteReceive => exact .of_keeps execPostedWriteReceive_keeps execPostedWriteReceive_only
  | confirmedWriteReceive => exact .of_keeps (execConfirmedWriteReceive_keeps _) (execConfirmedWriteReceive_only _)
  | readRequestReceive => exact .of_only execReadRequestReceive_only
  | forwardedRequestArrival => exact .of_keeps execForwardedRequestArrival_keeps execForwardedRequestArrival_only
  | forwardAnswerArrival => exact .of_only execForwardAnswerArrival_only
  | forwardTimeout => exact .of_keeps (execForwardTimeout_keeps _) (execForwardTimeout_only _)
  | class2RecordReceive => exact .of_keeps execClass2RecordReceive_keeps execClass2RecordReceive_only
  | faultLogRecordReceive => exact .of_keeps (execFaultLogRecordReceive_keeps _) (execFaultLogRecordReceive_only _)
  | fireReport => exact .of_only execFireReport_only
  | loadReport => exact .of_only execLoadReport_only
  | hostEntryPush => exact .of_keeps execHostEntryPush_keeps execHostEntryPush_only
  | ptpConfigPush => exact .of_only execPtpConfigPush_only
  | hostPairPush => exact .of_keeps execHostPairPush_keeps execHostPairPush_only
  | aliasPush => exact .of_only execAliasPush_only
  | sStatusMessage => exact .of_keeps execSStatusMessage_keeps execSStatusMessage_only
  | sdoDownload => exact .of_keeps (execSdoDownload_keeps _ _ _ _ _) (execSdoDownload_only _ _ _ _ _)
  | sdoUpload => exact .of_only (execSdoUpload_only _ _ _)
  | sdoDownloadSegment => exact .of_keeps (execSdoDownloadSegment_keeps _ _ _) (execSdoDownloadSegment_only _ _ _)
  | sdoUploadSegment => exact .of_only (execSdoUploadSegment_only _)
  | sdoUnknownSpecifier specifier => exact .of_only (execSdoUnknownSpecifier_only specifier)
  | sdoInfoOdList => exact .of_only execSdoInfoOdList_only
  | sdoInfoObjectDescription => exact .of_only (execSdoInfoObjectDescription_only _)
  | sdoInfoEntryDescription => exact .of_only (execSdoInfoEntryDescription_only _ _)
  | mailboxUnsupported => exact .of_only (execMailboxUnsupported_only _)
  | storeParameters => exact .of_keeps (execStoreParameters_keeps _ _) (execStoreParameters_only _ _)
  | restoreDefaults => exact .of_keeps (execRestoreDefaults_keeps _ _) (execRestoreDefaults_only _ _)
  | portRead => exact .of_keeps execPortRead_keeps execPortRead_only
  | portConfirmedWrite => exact .of_keeps execPortConfirmedWrite_keeps execPortConfirmedWrite_only
  | portPostedWrite => exact .of_keeps execPortPostedWrite_keeps execPortPostedWrite_only
  | portReadSegment => exact .of_keeps execPortReadSegment_keeps execPortReadSegment_only
  | portWriteSegment => exact .of_keeps execPortWriteSegment_keeps execPortWriteSegment_only
  | portForwardAnswer => exact .of_keeps execPortForwardAnswer_keeps execPortForwardAnswer_only
  | portUnknownEntry => exact .of_keeps execPortUnknownEntry_keeps execPortUnknownEntry_only
  | stageOpen => exact .of_only (execStageOpen_only _ _)
  | stageAppend => exact .of_only (execStageAppend_only _ _ _)
  | stageCheck => exact .of_keeps (execStageCheck_keeps _ _) (execStageCheck_only _ _)
  | stageArm => exact .of_keeps (execStageArm_keeps _ _) (execStageArm_only _ _)
  | stageCancel => exact .of_only (execStageCancel_only _ _ _)
  | rollback => exact .of_keeps (execRollback_keeps _) (execRollback_only _)
  | stagingPrepare => exact .of_only (execStagingPrepare_only _)
  | hostVote => exact .of_keeps (execHostVote_keeps _) (execHostVote_only _)
  | hostVoteTimeout => exact .of_only (execHostVoteTimeout_only _)
  | stagingArmMessage => exact .of_only (execStagingArmMessage_only _)
  | hostArmConfirm => exact .of_keeps (execHostArmConfirm_keeps _) (execHostArmConfirm_only _)
  | armConfirmTimeout => exact .of_only (execArmConfirmTimeout_only _)
  | applyInstant => exact .of_keeps (execApplyInstant_keeps _) (execApplyInstant_only _)
  | hostApply => exact .of_keeps (execHostApply_keeps _) (execHostApply_only _)
  | applyConfirmation => exact .of_keeps (execApplyConfirmation_keeps _) (execApplyConfirmation_only _)
  | instantHoldTimeout => exact .of_only (execInstantHoldTimeout_only _)
  | lineEncoderEdge => exact .of_keeps (execLineEncoderEdge_keeps _ _ _ _) (execLineEncoderEdge_only _ _ _ _)
  | expectationMiss => exact .of_keeps execExpectationMiss_keeps execExpectationMiss_only
  | fractionTick => exact .of_keeps execFractionTick_keeps execFractionTick_only
  | pulseUsEnd => exact .of_only (execPulseUsEnd_only _)
  | positionEntryWrite => exact .of_keeps (execPositionEntryWrite_keeps _ _ _) (execPositionEntryWrite_only _ _ _)
  | standstillTimeout => exact .of_only execStandstillTimeout_only
  | predictorQuery => exact .of_keeps (execPredictorQuery_keeps _) (execPredictorQuery_only _)
  | replicaEdgeApply => exact .of_keeps (execReplicaEdgeApply_keeps _) (execReplicaEdgeApply_only _)
  | stateFrame => exact .of_keeps (execStateFrame_keeps _) (execStateFrame_only _)
  | stateFrameTimeout => exact .of_only execStateFrameTimeout_only
  | followerSample => exact .of_keeps execFollowerSample_keeps execFollowerSample_only
  | followerSyntheticEdge => exact .of_keeps execFollowerSyntheticEdge_keeps execFollowerSyntheticEdge_only
  | followerSampleTimeout => exact .of_keeps execFollowerSampleTimeout_keeps execFollowerSampleTimeout_only
  | lineBreak => exact .of_keeps execLineBreak_keeps execLineBreak_only
  | encoderValid => exact .of_keeps execEncoderValid_keeps execEncoderValid_only
  | estimatedSyntheticEdge => exact .of_keeps execEstimatedSyntheticEdge_keeps execEstimatedSyntheticEdge_only
  | indexMark => exact .of_keeps (execIndexMark_keeps _) (execIndexMark_only _)
  | presetCounter => exact .of_keeps (execPresetCounter_keeps _) (execPresetCounter_only _)
  | reReference => exact .of_keeps (execReReference_keeps _) (execReReference_only _)
  | fieldTimeTick => exact .of_only execFieldTimeTick_only
  | replicaSymbolTick => exact .of_only execReplicaSymbolTick_only
  | driftFrame => exact .of_keeps (execDriftFrame_keeps _) (execDriftFrame_only _)
  | systemTimeOffsetWrite => exact .of_keeps (execSystemTimeOffsetWrite_keeps _) (execSystemTimeOffsetWrite_only _)
  | slewEnd => exact .of_only execSlewEnd_only
  | reacquireCommand => exact .of_keeps (execReacquireCommand_keeps _) (execReacquireCommand_only _)
  | referenceRoleWrite => exact .of_keeps (execReferenceRoleWrite_keeps _) (execReferenceRoleWrite_only _)
  | clockLossTimeout => exact .of_keeps (execClockLossTimeout_keeps _) (execClockLossTimeout_only _)
  | holdoverLimitExpiry => exact .of_keeps (execHoldoverLimitExpiry_keeps _) (execHoldoverLimitExpiry_only _)
  | ptpSyncMessage => exact .of_keeps (execPtpSyncMessage_keeps _) (execPtpSyncMessage_only _)
  | conversionQuery => exact .of_keeps (execConversionQuery_keeps _) (execConversionQuery_only _)
  | syncConfigWrite => exact .of_keeps (execSyncConfigWrite_keeps _ _) (execSyncConfigWrite_only _ _)
  | sync0Edge => exact .of_only execSync0Edge_only
  | sync1Edge => exact .of_only execSync1Edge_only
  | syncPulseEnd => exact .of_only (execSyncPulseEnd_only _)
  | latchEdge => exact .of_only (execLatchEdge_only _ _)
  | ppsSecond => exact .of_only (execPpsSecond_only _)
  | ppsPulseEnd => exact .of_only (execPpsPulseEnd_only _)
  | timeEntryWrite => exact .of_keeps (execTimeEntryWrite_keeps _ _) (execTimeEntryWrite_only _ _)
  | timeEventFire => exact .of_keeps (execTimeEventFire_keeps _) (execTimeEventFire_only _)
  | controlCycleStart => exact .of_keeps execControlCycleStart_keeps execControlCycleStart_only
  | alRequestInit => exact .of_keeps execAlRequestInit_keeps execAlRequestInit_only
  | alRequestPreop => exact .of_keeps execAlRequestPreop_keeps execAlRequestPreop_only
  | alRequestSafeop => exact .of_keeps execAlRequestSafeop_keeps execAlRequestSafeop_only
  | alRequestOp => exact .of_keeps execAlRequestOp_keeps execAlRequestOp_only
  | alRequestBoot => exact .of_keeps execAlRequestBoot_keeps execAlRequestBoot_only
  | sm2BufferComplete => exact .of_only (execSm2BufferComplete_only _)
  | sm2WatchdogExpiry => exact .of_keeps execSm2WatchdogExpiry_keeps execSm2WatchdogExpiry_only
  | frameStartDelimiter => exact .of_only (execFrameStartDelimiter_only _)
  | mirrorMessage => exact .of_keeps execMirrorMessage_keeps execMirrorMessage_only
  | class5Result => exact .of_keeps execClass5Result_keeps execClass5Result_only
  | safetyFrame => exact .of_only (execSafetyFrame_only _ _ _ _)
  | safetyWatchdogExpiry => exact .of_keeps execSafetyWatchdogExpiry_keeps execSafetyWatchdogExpiry_only
  | aliasWrite => exact .of_keeps (execAliasWrite_keeps _ _) (execAliasWrite_only _ _)
  | foeWriteIkf => exact .of_keeps (execFoeWriteIkf_keeps _ _ _) (execFoeWriteIkf_only _ _ _)
  | foeWriteIkh => exact .of_keeps (execFoeWriteIkh_keeps _ _ _) (execFoeWriteIkh_only _ _ _)
  | foeWriteIkm => exact .of_only (execFoeWriteIkm_only _ _ _ _)
  | foeReadLog => exact .of_only (execFoeReadLog_only _)
  | fieldFirmwareHalt => exact .of_keeps execFieldFirmwareHalt_keeps execFieldFirmwareHalt_only
  | engineLoad => exact .of_keeps (execEngineLoad_keeps _ _ _ _) (execEngineLoad_only _ _ _ _)
  | engineStore => exact .of_keeps (execEngineStore_keeps _ _ _ _) (execEngineStore_only _ _ _ _)
  | storeAccept => exact .of_keeps (execStoreAccept_keeps _) (execStoreAccept_only _)
  | coreLateStoreFault => exact .of_keeps (execCoreLateStoreFault_keeps _) (execCoreLateStoreFault_only _)
  | registerWrite => exact .of_keeps (execRegisterWrite_keeps _ _ _ _ _) (execRegisterWrite_only _ _ _ _ _)
  | bandwidthPeriod => exact .of_keeps execBandwidthPeriod_keeps execBandwidthPeriod_only
  | patrolScrub => exact .of_keeps (execPatrolScrub_keeps _ _ _) (execPatrolScrub_only _ _ _)
  | csiFrameStart => exact .of_keeps (execCsiFrameStart_keeps _ _) (execCsiFrameStart_only _ _)
  | csiLinePacket => exact .of_only (execCsiLinePacket_only _ _ _ _ _ _)
  | csiFrameEnd => exact .of_keeps (execCsiFrameEnd_keeps _ _) (execCsiFrameEnd_only _ _)
  | csiDeskewDone => exact .of_only (execCsiDeskewDone_only _)
  | stopStateTimeout => exact .of_keeps (execStopStateTimeout_keeps _) (execStopStateTimeout_only _)
  | stampCapture => exact .of_only (execStampCapture_only _)
  | ispOutputComplete => exact .of_keeps (execIspOutputComplete_keeps _) (execIspOutputComplete_only _)
  | visFlagRelease => exact .of_only (execVisFlagRelease_only _)
  | visGraphStart => exact .of_keeps (execVisGraphStart_keeps _) (execVisGraphStart_only _)
  | runStart => exact .of_keeps (execRunStart_keeps _) (execRunStart_only _)
  | nodeDispatch => exact .of_only (execNodeDispatch_only _)
  | nodeComplete => exact .of_keeps (execNodeComplete_keeps _ _ _) (execNodeComplete_only _ _ _)
  | nodeTimeLimit => exact .of_keeps (execNodeTimeLimit_keeps _ _) (execNodeTimeLimit_only _ _)
  | runLimitExpiry => exact .of_keeps (execRunLimitExpiry_keeps _) (execRunLimitExpiry_only _)
  | refineTimeLimit => exact .of_only (execRefineTimeLimit_only _ _ _)
  | hintSetArrival => exact .of_keeps (execHintSetArrival_keeps _) (execHintSetArrival_only _)
  | nqDoorbell => exact .of_only (execNqDoorbell_only _ _)
  | descriptorTake => exact .of_keeps (execDescriptorTake_keeps _) (execDescriptorTake_only _)
  | waitTimeout => exact .of_keeps (execWaitTimeout_keeps _) (execWaitTimeout_only _)
  | nqRelease => exact .of_keeps (execNqRelease_keeps _ _) (execNqRelease_only _ _)
  | nqCancel => exact .of_keeps (execNqCancel_keeps _ _) (execNqCancel_only _ _)
  | queueEnable => exact .of_keeps (execQueueEnable_keeps _ _) (execQueueEnable_only _ _)
  | jobDispatch => exact .of_keeps (execJobDispatch_keeps _) (execJobDispatch_only _)
  | kernelBoundary => exact .of_keeps (execKernelBoundary_keeps _ _ _ _) (execKernelBoundary_only _ _ _ _)
  | preemptionWatchdogExpiry => exact .of_keeps (execPreemptionWatchdogExpiry_keeps _) (execPreemptionWatchdogExpiry_only _)
  | jobComplete => exact .of_keeps (execJobComplete_keeps _) (execJobComplete_only _)
  | galleryFrameStart => exact .of_only execGalleryFrameStart_only
  | modelLoadFromDram => exact .of_only (execModelLoadFromDram_only _ _ _)
  | modelLoadComplete => exact .of_only (execModelLoadComplete_only _ _)
  | modelUnload => exact .of_only (execModelUnload_only _ _)
  | cavernScrub => exact .of_only (execCavernScrub_only _ _ _)
  | cavernInitDone => exact .of_only execCavernInitDone_only
  | bankClearDone => exact .of_only (execBankClearDone_only _)
  | kvOpen => exact .of_only (execKvOpen_only _ _)
  | kvClose => exact .of_keeps (execKvClose_keeps _ _) (execKvClose_only _ _)
  | kvPin => exact .of_only (execKvPin_only _ _)
  | kvUnpin => exact .of_only (execKvUnpin_only _ _)
  | kvPrefetch => exact .of_keeps (execKvPrefetch_keeps _ _) (execKvPrefetch_only _ _)
  | kvReset => exact .of_keeps (execKvReset_keeps _ _) (execKvReset_only _ _)
  | kvWinDataAccess => exact .of_only (execKvWinDataAccess_only _)
  | aerWord => exact .of_only (execAerWord_only _)
  | lanternCsiPacket => exact .of_only (execLanternCsiPacket_only _ _ _ _ _)
  | synapticOperation => exact .of_keeps (execSynapticOperation_keeps _ _ _) (execSynapticOperation_only _ _ _)
  | hintPeriodEnd => exact .of_only execHintPeriodEnd_only
  | compFrameStart => exact .of_keeps execCompFrameStart_keeps execCompFrameStart_only
  | compLineStart => exact .of_keeps (execCompLineStart_keeps _ _ _) (execCompLineStart_only _ _ _)
  | writebackFrameDone => exact .of_keeps execWritebackFrameDone_keeps execWritebackFrameDone_only
  | compLayerAddrWrite => exact .of_only (execCompLayerAddrWrite_only _ _)
  | dpTrainCommand => exact .of_only (execDpTrainCommand_only _)
  | auxCommand => exact .of_only (execAuxCommand_only _ _ _)
  | hpdFall => exact .of_keeps execHpdFall_keeps execHpdFall_only
  | hpdRise => exact .of_keeps execHpdRise_keeps execHpdRise_only
  | pwmCounterZero => exact .of_keeps (execPwmCounterZero_keeps _) (execPwmCounterZero_only _)
  | pwmCounterTop => exact .of_keeps (execPwmCounterTop_keeps _) (execPwmCounterTop_only _)
  | sdResultReady => exact .of_only (execSdResultReady_only _ _ _ _)
  | sdInputLost => exact .of_keeps (execSdInputLost_keeps _) (execSdInputLost_only _)
  | adcSoftwareStart => exact .of_keeps (execAdcSoftwareStart_keeps _ _) (execAdcSoftwareStart_only _ _)
  | adcConversionDone => exact .of_only (execAdcConversionDone_only _ _)
  | axisEncoderEdge => exact .of_only (execAxisEncoderEdge_only _ _ _ _ _ _ _)
  | ssiFrameEnd => exact .of_only (execSsiFrameEnd_only _ _)
  | ssiTimeout => exact .of_keeps (execSsiTimeout_keeps _) (execSsiTimeout_only _)
  | bissFrameEnd => exact .of_keeps (execBissFrameEnd_keeps _ _ _ _ _ _) (execBissFrameEnd_only _ _ _ _ _ _)
  | comparatorTrip => exact .of_only (execComparatorTrip_only _ _ _ _)
  | stoInputEdge => exact .of_keeps (execStoInputEdge_keeps _ _ _) (execStoInputEdge_only _ _ _)
  | stoDiscrepancyFault => exact .of_keeps (execStoDiscrepancyFault_keeps _) (execStoDiscrepancyFault_only _)
  | clearLatches => exact .of_keeps (execClearLatches_keeps _ _) (execClearLatches_only _ _)
  | controlEngineStart => exact .of_only execControlEngineStart_only
  | axisPass => exact .of_keeps (execAxisPass_keeps _) (execAxisPass_only _)
  | ss1TimeLimit => exact .of_only (execSs1TimeLimit_only _)
  | followingErrorTimeout => exact .of_keeps (execFollowingErrorTimeout_keeps _) (execFollowingErrorTimeout_only _)
  | cspTargetTimeout => exact .of_only (execCspTargetTimeout_only _)
  | hardStopHome => exact .of_only (execHardStopHome_only _)
  | axisCommandDwellEnd => exact .of_only (execAxisCommandDwellEnd_only _)
  | axisCommandFlush => exact .of_keeps (execAxisCommandFlush_keeps _ _) (execAxisCommandFlush_only _ _)
  | controlwordEnableOperation => exact .of_only (execControlwordEnableOperation_only _)
  | controlwordFaultReset => exact .of_keeps (execControlwordFaultReset_keeps _) (execControlwordFaultReset_only _)
  | controlwordQuickStop => exact .of_only (execControlwordQuickStop_only _)
  | controlwordDisable => exact .of_only (execControlwordDisable_only _)
  | modeOfOperationWrite => exact .of_keeps (execModeOfOperationWrite_keeps _ _) (execModeOfOperationWrite_only _ _)
  | lockstepMismatch => exact .of_keeps execLockstepMismatch_keeps execLockstepMismatch_only
  | tripWatchdogExpiry => exact .of_keeps execTripWatchdogExpiry_keeps execTripWatchdogExpiry_only
  | fieldSramUncorrectable => exact .of_keeps (execFieldSramUncorrectable_keeps _) (execFieldSramUncorrectable_only _)
  | faultLogFlashWrite => exact .of_keeps (execFaultLogFlashWrite_keeps _) (execFaultLogFlashWrite_only _)
  | meterSample => exact .of_only (execMeterSample_only _)
  | governorTick => exact .of_keeps execGovernorTick_keeps execGovernorTick_only
  | governorDeltaP => exact .of_only execGovernorDeltaP_only
  | powerRequestActive => exact .of_only execPowerRequestActive_only
  | powerRequestInspectIdle => exact .of_only execPowerRequestInspectIdle_only
  | powerRequestLanternWatch => exact .of_only execPowerRequestLanternWatch_only
  | powerRequestOff => exact .of_only execPowerRequestOff_only
  | watchConsentRequest => exact .of_only execWatchConsentRequest_only
  | watchConsentReply => exact .of_keeps execWatchConsentReply_keeps execWatchConsentReply_only
  | wakeBeacon => exact .of_keeps execWakeBeacon_keeps execWakeBeacon_only
  | hWakeLLow => exact .of_keeps execHWakeLLow_keeps execHWakeLLow_only
  | wakeTimerExpiry => exact .of_keeps execWakeTimerExpiry_keeps execWakeTimerExpiry_only
  | wakeHostCommand => exact .of_only (execWakeHostCommand_only _)
  | railPowerGoodFailure => exact .of_keeps (execRailPowerGoodFailure_keeps _) (execRailPowerGoodFailure_only _)
  | railPowerGoodLoss => exact .of_keeps (execRailPowerGoodLoss_keeps _) (execRailPowerGoodLoss_only _)
  | meterSenseFailure => exact .of_only (execMeterSenseFailure_only _)
  | hostTempSample => exact .of_keeps (execHostTempSample_keeps _) (execHostTempSample_only _)
  | fieldTempSample => exact .of_keeps (execFieldTempSample_keeps _) (execFieldTempSample_only _)
  | hostVinHighRelease => exact .of_keeps execHostVinHighRelease_keeps execHostVinHighRelease_only
  | hostCrystalRestart => exact .of_keeps execHostCrystalRestart_keeps execHostCrystalRestart_only
  | tcxoRestart => exact .of_keeps execTcxoRestart_keeps execTcxoRestart_only
  | axisEncoderLineBreak => exact .of_only (execAxisEncoderLineBreak_only _)
  | fieldbusPortLinkChange => exact .of_keeps (execFieldbusPortLinkChange_keeps _ _) (execFieldbusPortLinkChange_only _ _)
  | ethernetLinkLoss => exact .of_keeps execEthernetLinkLoss_keeps execEthernetLinkLoss_only
  | fieldBeaconDetect => exact .of_only execFieldBeaconDetect_only
  | pwmCompareMatch => exact .of_only (execPwmCompareMatch_only _ _)
  | deadTimeExpiry => exact .of_only (execDeadTimeExpiry_only _ _)
  | coreLoad => exact .of_keeps (execCoreLoad_keeps _ _) (execCoreLoad_only _ _)
  | debuggerAccess => exact .of_keeps (execDebuggerAccess_keeps _) (execDebuggerAccess_only _)
  | dpLinkTrainingDone => exact .of_only (execDpLinkTrainingDone_only _ _ _)
  | hostPtpTick => exact .of_only execHostPtpTick_only

theorem exec_keeps (c : Instr) (s : State) : OutKeeps s (exec c s) := (tame c).keeps s

theorem exec_pending {c : Instr} {s t : State} (h : exec c s = .next t) : t.pending = s.pending :=
  (tame c).queue s t h .pending (by decide)

/-! ### One step -/

@[simp] theorem step_cons (c : Instr) (s : State) (l : List Instr) :
    step { s with pending := c :: l } = exec c { s with pending := l } := rfl

theorem step_of_idle {s : State} (h : s.pending = []) : step s = .next s := by
  simp [step, h]

/-- A step keeps what its command keeps; taking the command from the queue touches no part that counts here. -/
theorem step_keeps {s t : State} (h : step s = .next t) : Keeps s t := by
  unfold step at h
  split at h
  next => -- nothing waits
    injection h with h
    exact h ▸ .refl s
  next c rest _ => -- the command in front
    have dequeued : Keeps s { s with pending := rest } := .of (upd_pending s rest) (by rfl)
    exact dequeued.trans (exec_keeps c _ t h)

theorem debugOk_eq_false_of_bootKeeps {b c : BootState} (k : BootKeeps b c)
    (h : b.store.debugLock = true → b.debugOk = false) (hc : c.store.debugLock = true) : c.debugOk = false := by
  obtain ⟨hlock, -, -, hgrant⟩ := k
  rw [hlock] at hc
  cases hok : c.debugOk with
  | false => rfl
  | true => simpa [h hc, hc] using hgrant hok

theorem debugInv_of_keeps {s t : State} (k : Keeps s t) (h : DebugInv s) : DebugInv t := by
  obtain ⟨field, host, -, -⟩ := k
  exact ⟨debugOk_eq_false_of_bootKeeps field h.1, debugOk_eq_false_of_bootKeeps host h.2⟩

end Sys2Proof.Laws

open Sys2Proof Sys2Proof.Machine Sys2Proof.Laws

/-- Settles O55: no frame of a command names the queue. -/
theorem commandsLeaveTheQueueAlone : Obligations.CommandsLeaveTheQueueAlone := by
  unfold Obligations.CommandsLeaveTheQueueAlone
  intro c s t h
  exact exec_pending h

/-- Settles O56: every step keeps the OTP fields of both dies, and grants a debugger access only where the lock is open. -/
theorem otpAndDebugLockSurviveEveryStep : Obligations.OtpAndDebugLockSurviveEveryStep := by
  unfold Obligations.OtpAndDebugLockSurviveEveryStep
  intro s t h
  have k := step_keeps h
  have ⟨⟨fLock, fKey, fHash, _⟩, ⟨hLock, hKey, hHash, _⟩, _⟩ := k
  exact ⟨⟨fKey, fLock, fHash⟩, ⟨hKey, hLock, hHash⟩, debugInv_of_keeps k⟩

/-- Settles O57: every step keeps the bounds on the four lists of records. -/
theorem faultLogBoundsSurviveEveryStep : Obligations.FaultLogBoundsSurviveEveryStep := by
  unfold Obligations.FaultLogBoundsSurviveEveryStep
  intro s t hinv h
  obtain ⟨-, -, -, hsaf⟩ := step_keeps h
  exact hsaf hinv

/-- Settles O58: every step keeps the recursive form of the invariant, which is the decidable one. -/
theorem memoryStaysCanonical : Obligations.MemoryStaysCanonical := by
  unfold Obligations.MemoryStaysCanonical
  intro s t hwf h
  obtain ⟨-, -, hdram, -⟩ := step_keeps h
  exact (dram_wf_iff t).mpr (hdram ((dram_wf_iff s).mp hwf))

/-- Settles O59: at reset no debugger has access, no record and no octet is listed, and nothing waits. -/
theorem invariantsHoldAtReset : Obligations.InvariantsHoldAtReset := by
  unfold Obligations.InvariantsHoldAtReset
  have noAccess : DebugInv State.reset := ⟨fun _ => rfl, fun _ => rfl⟩
  have noRecord : LogInv State.reset := by simp [LogInv, State.reset]
  exact ⟨noAccess, noRecord, rfl, rfl⟩

/-- Settles O60: a step is by definition the effect of the command in front, and idles without one. -/
theorem stepTakesTheFrontCommand : Obligations.StepTakesTheFrontCommand := by
  unfold Obligations.StepTakesTheFrontCommand
  exact ⟨fun c s => step_cons c s s.pending, fun _ h => step_of_idle h⟩

end

section
/-! Frames of the commands (log entry 1 for the queue). Laws/Frames gives each command's frame as a mask over the parts; the statements
list parts. The mask of a list of parts is compared with the command's by one bitwise operation. -/

namespace Sys2Proof.Laws

open Machine

theorem partOfNat_ctorIdx (p : Part) : Part.ofNat p.ctorIdx = p := by
  cases p <;> rfl

theorem partCtorIdx_injective : Function.Injective Part.ctorIdx :=
  Function.LeftInverse.injective partOfNat_ctorIdx

theorem testBit_maskOf (l : List Nat) (i : Nat) : (maskOf l).testBit i = decide (i ∈ l) := by
  have general : ∀ a, (l.foldl (fun a k => a ||| 2 ^ k) a).testBit i = (a.testBit i || decide (i ∈ l)) := by
    induction l with
    | nil => simp
    | cons k l ih =>
      intro a
      simp [ih, Nat.testBit_two_pow, Bool.or_assoc, eq_comm (a := i)]
  simpa [maskOf] using general 0

/-- The mask that names the parts of a list. -/
def partsMask (ps : List Part) : Nat := maskOf (ps.map Part.ctorIdx)

theorem testBit_partsMask (ps : List Part) (p : Part) : (partsMask ps).testBit p.ctorIdx = decide (p ∈ ps) := by
  simp [partsMask, testBit_maskOf, partCtorIdx_injective.eq_iff]

/-- A command whose mask lies within that of a list changes the listed parts at most. -/
theorem touches_of_mask {m : Nat} {ps : List Part} {c : Instr} (h : ∀ s, OutOnly m s (exec c s))
    (hm : m &&& partsMask ps = m := by rfl) : Touches ps c := by
  refine touches_of h fun p hp => ?_
  have hbit := congrArg (Nat.testBit · p.ctorIdx) hm
  simpa [testBit_partsMask, hp] using hbit.symm

/-- A command whose mask has nothing in common with that of a list leaves the listed parts as they are. -/
theorem leaves_of_mask {m : Nat} {ps : List Part} {c : Instr} (h : ∀ s, OutOnly m s (exec c s))
    (hm : m &&& partsMask ps = 0 := by rfl) : Leaves ps c := by
  refine leaves_of h fun p hp => ?_
  have hbit := congrArg (Nat.testBit · p.ctorIdx) hm
  simpa [testBit_partsMask, hp] using hbit

end Sys2Proof.Laws

open Sys2Proof Sys2Proof.Machine Sys2Proof.Laws

/-- Settles O49: the frame of each command, which Laws/Frames gives as a mask. -/
theorem powerBootAndSafetyFrames : Obligations.PowerBootAndSafetyFrames := by
  unfold Obligations.PowerBootAndSafetyFrames
  exact ⟨fun x0 => touches_of_mask (execMeterSample_only x0),
    touches_of_mask execGovernorTick_only,
    touches_of_mask execGovernorDeltaP_only,
    touches_of_mask execPowerRequestActive_only,
    touches_of_mask execPowerRequestInspectIdle_only,
    touches_of_mask execPowerRequestLanternWatch_only,
    touches_of_mask execPowerRequestOff_only,
    touches_of_mask execWatchConsentRequest_only,
    leaves_of_mask execWatchConsentReply_only,
    touches_of_mask execWakeBeacon_only,
    touches_of_mask execHWakeLLow_only,
    touches_of_mask execWakeTimerExpiry_only,
    fun x0 => touches_of_mask (execWakeHostCommand_only x0),
    touches_of_mask execFieldBeaconDetect_only,
    fun x0 => leaves_of_mask (execRailPowerGoodFailure_only x0),
    fun x0 => leaves_of_mask (execRailPowerGoodLoss_only x0),
    fun x0 => touches_of_mask (execMeterSenseFailure_only x0),
    fun x0 => leaves_of_mask (execHostTempSample_only x0),
    fun x0 => touches_of_mask (execFieldTempSample_only x0),
    fun x0 x1 x2 => leaves_of_mask (execPowerOn_only x0 x1 x2),
    touches_of_mask execHostVinRise_only,
    leaves_of_mask execHostVinLow_only,
    leaves_of_mask execHostVinHigh_only,
    touches_of_mask execHostVinHighRelease_only,
    leaves_of_mask execHostCrystalStop_only,
    touches_of_mask execHostCrystalRestart_only,
    leaves_of_mask execFieldVinLow_only,
    touches_of_mask execFieldVinRise_only,
    leaves_of_mask execFieldVinHigh_only,
    touches_of_mask execFieldVinHighRelease_only,
    leaves_of_mask execTcxoStop_only,
    touches_of_mask execTcxoRestart_only,
    touches_of_mask execHResetLLow_only,
    leaves_of_mask execFResetLLow_only,
    leaves_of_mask execHostWarmReset_only,
    fun x0 => touches_of_mask (execHostResetRequest_only x0),
    leaves_of_mask execFieldOnlyResetCommand_only,
    touches_of_mask execFullResetCommand_only,
    touches_of_mask execFullResetRequest_only,
    leaves_of_mask execFullResetDelayExpiry_only,
    fun x0 => touches_of_mask (execRopeAlive_only x0),
    touches_of_mask execAliveExpiry_only,
    touches_of_mask execBootLimitExpiry_only,
    touches_of_mask execSupervisorLockstepMismatch_only,
    fun x0 => touches_of_mask (execCommitHostTrial_only x0),
    fun x0 => touches_of_mask (execCommitFieldTrial_only x0),
    fun x0 x1 => touches_of_mask (execInstallHostImage_only x0 x1),
    fun x0 => touches_of_mask (execMotionOverrideWrite_only x0),
    fun x0 x1 => touches_of_mask (execHostBoot_only x0 x1),
    touches_of_mask execFieldBoot_only,
    fun x0 => leaves_of_mask (execLevelsFrame_only x0),
    touches_of_mask execHeartbeatTimeout_only,
    touches_of_mask execFieldHeartbeatTimeout_only,
    fun x0 => touches_of_mask (execPartnerBootTimeout_only x0),
    touches_of_mask execFieldFirmwareHalt_only,
    touches_of_mask execLockstepMismatch_only,
    touches_of_mask execTripWatchdogExpiry_only,
    fun x0 => touches_of_mask (execFieldSramUncorrectable_only x0),
    fun x0 => touches_of_mask (execFaultLogFlashWrite_only x0),
    fun x0 => touches_of_mask (execDebuggerAccess_only x0)⟩

/-- Settles O50: the frame of each command, which Laws/Frames gives as a mask. -/
theorem positionAndTimeFrames : Obligations.PositionAndTimeFrames := by
  unfold Obligations.PositionAndTimeFrames
  exact ⟨fun x0 x1 x2 x3 => leaves_of_mask (execLineEncoderEdge_only x0 x1 x2 x3),
    touches_of_mask execHostEntryPush_only,
    touches_of_mask execFractionTick_only,
    fun x0 => touches_of_mask (execPulseUsEnd_only x0),
    touches_of_mask execStandstillTimeout_only,
    fun x0 => touches_of_mask (execReplicaEdgeApply_only x0),
    fun x0 => touches_of_mask (execStateFrame_only x0),
    touches_of_mask execStateFrameTimeout_only,
    leaves_of_mask execFollowerSample_only,
    touches_of_mask execFollowerSyntheticEdge_only,
    leaves_of_mask execFollowerSampleTimeout_only,
    leaves_of_mask execLineBreak_only,
    touches_of_mask execEncoderValid_only,
    leaves_of_mask execEstimatedSyntheticEdge_only,
    fun x0 => leaves_of_mask (execIndexMark_only x0),
    touches_of_mask execExpectationMiss_only,
    touches_of_mask execFieldTimeTick_only,
    touches_of_mask execHostPtpTick_only,
    touches_of_mask execReplicaSymbolTick_only,
    fun x0 => touches_of_mask (execDriftFrame_only x0),
    fun x0 => touches_of_mask (execSystemTimeOffsetWrite_only x0),
    touches_of_mask execSlewEnd_only,
    fun x0 => touches_of_mask (execPtpSyncMessage_only x0),
    fun x0 => touches_of_mask (execClockLossTimeout_only x0),
    fun x0 => touches_of_mask (execHoldoverLimitExpiry_only x0),
    fun x0 => touches_of_mask (execSyncPulseEnd_only x0),
    touches_of_mask execSync0Edge_only,
    touches_of_mask execSync1Edge_only,
    fun x0 x1 => touches_of_mask (execLatchEdge_only x0 x1),
    fun x0 => touches_of_mask (execPpsSecond_only x0),
    fun x0 => touches_of_mask (execPpsPulseEnd_only x0),
    fun x0 => touches_of_mask (execTimeEventFire_only x0),
    touches_of_mask execEthernetLinkLoss_only⟩

/-- Settles O51: the frame of each command, which Laws/Frames gives as a mask. -/
theorem ropeDictionaryAndFieldbusFrames : Obligations.RopeDictionaryAndFieldbusFrames := by
  unfold Obligations.RopeDictionaryAndFieldbusFrames
  exact ⟨fun x0 => touches_of_mask (execRopeFrameTransmit_only x0),
    fun x0 x1 => touches_of_mask (execRopeFrameReceive_only x0 x1),
    fun x0 => touches_of_mask (execLinkFrame_only x0),
    fun x0 => touches_of_mask (execAckDue_only x0),
    fun x0 => touches_of_mask (execCreditReturn_only x0),
    fun x0 => touches_of_mask (execReplayTimeout_only x0),
    fun x0 => touches_of_mask (execPairFault_only x0),
    fun x0 x1 x2 => touches_of_mask (execRetrainReqFrame_only x0 x1 x2),
    fun x0 => touches_of_mask (execRetrainPairFail_only x0),
    fun x0 => touches_of_mask (execTrainingAttempt_only x0),
    fun x0 x1 => touches_of_mask (execLinkUp_only x0 x1),
    fun x0 => touches_of_mask (execTallyLockAcquired_only x0),
    touches_of_mask execTallyLockLoss_only,
    touches_of_mask execFieldHeartbeatSend_only,
    touches_of_mask execHostHeartbeatSend_only,
    touches_of_mask execHostHeartbeatReceive_only,
    touches_of_mask execFieldHeartbeatReceive_only,
    touches_of_mask execLoadReport_only,
    touches_of_mask execHostPairPush_only,
    touches_of_mask execPtpConfigPush_only,
    touches_of_mask execFireReport_only,
    leaves_of_mask execPostedWriteReceive_only,
    fun x0 => leaves_of_mask (execConfirmedWriteReceive_only x0),
    touches_of_mask execReadRequestReceive_only,
    fun x0 x1 x2 x3 x4 => leaves_of_mask (execSdoDownload_only x0 x1 x2 x3 x4),
    fun x0 x1 x2 => touches_of_mask (execSdoUpload_only x0 x1 x2),
    fun x0 x1 x2 => leaves_of_mask (execSdoDownloadSegment_only x0 x1 x2),
    fun x0 => touches_of_mask (execSdoUploadSegment_only x0),
    fun x0 => touches_of_mask (execSdoUnknownSpecifier_only x0),
    touches_of_mask execSdoInfoOdList_only,
    fun x0 => touches_of_mask (execSdoInfoObjectDescription_only x0),
    fun x0 x1 => touches_of_mask (execSdoInfoEntryDescription_only x0 x1),
    fun x0 => touches_of_mask (execMailboxUnsupported_only x0),
    touches_of_mask execForwardAnswerArrival_only,
    touches_of_mask execForwardedRequestArrival_only,
    fun x0 => touches_of_mask (execForwardTimeout_only x0),
    touches_of_mask execClass2RecordReceive_only,
    fun x0 => touches_of_mask (execFaultLogRecordReceive_only x0),
    touches_of_mask execAliasPush_only,
    touches_of_mask execSStatusMessage_only,
    touches_of_mask execPortRead_only,
    touches_of_mask execPortConfirmedWrite_only,
    touches_of_mask execPortPostedWrite_only,
    touches_of_mask execPortWriteSegment_only,
    touches_of_mask execPortReadSegment_only,
    touches_of_mask execPortUnknownEntry_only,
    leaves_of_mask execPortForwardAnswer_only,
    fun x0 x1 => touches_of_mask (execStageOpen_only x0 x1),
    fun x0 x1 x2 => touches_of_mask (execStageAppend_only x0 x1 x2),
    fun x0 x1 => leaves_of_mask (execStageCheck_only x0 x1),
    fun x0 x1 => leaves_of_mask (execStageArm_only x0 x1),
    fun x0 x1 x2 => touches_of_mask (execStageCancel_only x0 x1 x2),
    fun x0 => leaves_of_mask (execRollback_only x0),
    fun x0 => touches_of_mask (execStagingPrepare_only x0),
    fun x0 => leaves_of_mask (execHostVote_only x0),
    fun x0 => touches_of_mask (execHostVoteTimeout_only x0),
    fun x0 => touches_of_mask (execStagingArmMessage_only x0),
    fun x0 => leaves_of_mask (execHostArmConfirm_only x0),
    fun x0 => touches_of_mask (execArmConfirmTimeout_only x0),
    fun x0 => leaves_of_mask (execApplyInstant_only x0),
    fun x0 => leaves_of_mask (execHostApply_only x0),
    fun x0 => leaves_of_mask (execApplyConfirmation_only x0),
    fun x0 => touches_of_mask (execInstantHoldTimeout_only x0),
    fun x0 => touches_of_mask (execSm2BufferComplete_only x0),
    touches_of_mask execSm2WatchdogExpiry_only,
    touches_of_mask execControlCycleStart_only,
    fun x0 => touches_of_mask (execFrameStartDelimiter_only x0),
    fun x0 x1 => touches_of_mask (execFieldbusPortLinkChange_only x0 x1),
    touches_of_mask execAlRequestPreop_only,
    touches_of_mask execAlRequestSafeop_only,
    touches_of_mask execAlRequestOp_only,
    touches_of_mask execAlRequestBoot_only,
    leaves_of_mask execAlRequestInit_only,
    fun x0 x1 => touches_of_mask (execSyncConfigWrite_only x0 x1),
    touches_of_mask execMirrorMessage_only,
    touches_of_mask execClass5Result_only,
    fun x0 x1 x2 x3 => touches_of_mask (execSafetyFrame_only x0 x1 x2 x3),
    touches_of_mask execSafetyWatchdogExpiry_only,
    fun x0 x1 => touches_of_mask (execAliasWrite_only x0 x1),
    fun x0 x1 x2 => touches_of_mask (execFoeWriteIkf_only x0 x1 x2),
    fun x0 x1 x2 => touches_of_mask (execFoeWriteIkh_only x0 x1 x2),
    fun x0 x1 x2 x3 => touches_of_mask (execFoeWriteIkm_only x0 x1 x2 x3),
    fun x0 => touches_of_mask (execFoeReadLog_only x0),
    fun x0 x1 => leaves_of_mask (execStoreParameters_only x0 x1),
    fun x0 x1 => leaves_of_mask (execRestoreDefaults_only x0 x1),
    fun x0 x1 => leaves_of_mask (execRetrainRequestWrite_only x0 x1),
    fun x0 x1 x2 => leaves_of_mask (execPositionEntryWrite_only x0 x1 x2),
    fun x0 => leaves_of_mask (execPredictorQuery_only x0),
    fun x0 => leaves_of_mask (execPresetCounter_only x0),
    fun x0 => leaves_of_mask (execReReference_only x0),
    fun x0 => leaves_of_mask (execReacquireCommand_only x0),
    fun x0 => leaves_of_mask (execReferenceRoleWrite_only x0),
    fun x0 => leaves_of_mask (execConversionQuery_only x0),
    fun x0 x1 => leaves_of_mask (execTimeEntryWrite_only x0 x1),
    fun x0 x1 => leaves_of_mask (execAdcSoftwareStart_only x0 x1),
    fun x0 x1 => leaves_of_mask (execClearLatches_only x0 x1),
    fun x0 x1 => leaves_of_mask (execAxisCommandFlush_only x0 x1),
    fun x0 x1 => leaves_of_mask (execModeOfOperationWrite_only x0 x1)⟩

/-- Settles O52: the frame of each command, which Laws/Frames gives as a mask. -/
theorem memoryCameraAndVisionFrames : Obligations.MemoryCameraAndVisionFrames := by
  unfold Obligations.MemoryCameraAndVisionFrames
  exact ⟨fun x0 x1 x2 x3 => touches_of_mask (execEngineLoad_only x0 x1 x2 x3),
    fun x0 x1 x2 x3 => touches_of_mask (execEngineStore_only x0 x1 x2 x3),
    fun x0 => touches_of_mask (execStoreAccept_only x0),
    fun x0 => touches_of_mask (execCoreLateStoreFault_only x0),
    fun x0 x1 x2 x3 x4 => touches_of_mask (execRegisterWrite_only x0 x1 x2 x3 x4),
    touches_of_mask execBandwidthPeriod_only,
    fun x0 x1 x2 => touches_of_mask (execPatrolScrub_only x0 x1 x2),
    fun x0 x1 => touches_of_mask (execCoreLoad_only x0 x1),
    fun x0 x1 => touches_of_mask (execCsiFrameStart_only x0 x1),
    fun x0 x1 x2 x3 x4 x5 => touches_of_mask (execCsiLinePacket_only x0 x1 x2 x3 x4 x5),
    fun x0 x1 => touches_of_mask (execCsiFrameEnd_only x0 x1),
    fun x0 => touches_of_mask (execCsiDeskewDone_only x0),
    fun x0 => touches_of_mask (execStopStateTimeout_only x0),
    fun x0 => touches_of_mask (execStampCapture_only x0),
    fun x0 => touches_of_mask (execIspOutputComplete_only x0),
    fun x0 => touches_of_mask (execVisFlagRelease_only x0),
    fun x0 => touches_of_mask (execVisGraphStart_only x0),
    fun x0 => touches_of_mask (execRunStart_only x0),
    fun x0 => touches_of_mask (execNodeDispatch_only x0),
    fun x0 x1 x2 => touches_of_mask (execNodeComplete_only x0 x1 x2),
    fun x0 x1 => touches_of_mask (execNodeTimeLimit_only x0 x1),
    fun x0 => touches_of_mask (execRunLimitExpiry_only x0),
    fun x0 x1 x2 => touches_of_mask (execRefineTimeLimit_only x0 x1 x2),
    fun x0 => touches_of_mask (execHintSetArrival_only x0)⟩

/-- Settles O53: the frame of each command, which Laws/Frames gives as a mask. -/
theorem galleryAndKvFrames : Obligations.GalleryAndKvFrames := by
  unfold Obligations.GalleryAndKvFrames
  exact ⟨fun x0 x1 => touches_of_mask (execNqDoorbell_only x0 x1),
    fun x0 => touches_of_mask (execDescriptorTake_only x0),
    fun x0 => touches_of_mask (execWaitTimeout_only x0),
    fun x0 x1 => touches_of_mask (execNqRelease_only x0 x1),
    fun x0 x1 => touches_of_mask (execNqCancel_only x0 x1),
    fun x0 x1 => touches_of_mask (execQueueEnable_only x0 x1),
    fun x0 => touches_of_mask (execJobDispatch_only x0),
    fun x0 x1 x2 x3 => touches_of_mask (execKernelBoundary_only x0 x1 x2 x3),
    fun x0 => touches_of_mask (execPreemptionWatchdogExpiry_only x0),
    fun x0 => touches_of_mask (execJobComplete_only x0),
    touches_of_mask execGalleryFrameStart_only,
    fun x0 x1 x2 => touches_of_mask (execModelLoadFromDram_only x0 x1 x2),
    fun x0 x1 => touches_of_mask (execModelLoadComplete_only x0 x1),
    fun x0 x1 => touches_of_mask (execModelUnload_only x0 x1),
    fun x0 x1 x2 => touches_of_mask (execCavernScrub_only x0 x1 x2),
    touches_of_mask execCavernInitDone_only,
    fun x0 => touches_of_mask (execBankClearDone_only x0),
    fun x0 x1 => touches_of_mask (execKvOpen_only x0 x1),
    fun x0 x1 => touches_of_mask (execKvClose_only x0 x1),
    fun x0 x1 => touches_of_mask (execKvPin_only x0 x1),
    fun x0 x1 => touches_of_mask (execKvUnpin_only x0 x1),
    fun x0 x1 => touches_of_mask (execKvPrefetch_only x0 x1),
    fun x0 x1 => touches_of_mask (execKvReset_only x0 x1),
    fun x0 => touches_of_mask (execKvWinDataAccess_only x0)⟩

/-- Settles O54: the frame of each command, which Laws/Frames gives as a mask. -/
theorem lanternCompositionAndMotionFrames : Obligations.LanternCompositionAndMotionFrames := by
  unfold Obligations.LanternCompositionAndMotionFrames
  exact ⟨fun x0 => touches_of_mask (execAerWord_only x0),
    fun x0 x1 x2 x3 x4 => touches_of_mask (execLanternCsiPacket_only x0 x1 x2 x3 x4),
    fun x0 x1 x2 => touches_of_mask (execSynapticOperation_only x0 x1 x2),
    touches_of_mask execHintPeriodEnd_only,
    touches_of_mask execCompFrameStart_only,
    fun x0 x1 x2 => touches_of_mask (execCompLineStart_only x0 x1 x2),
    touches_of_mask execWritebackFrameDone_only,
    fun x0 x1 => touches_of_mask (execCompLayerAddrWrite_only x0 x1),
    fun x0 => touches_of_mask (execDpTrainCommand_only x0),
    fun x0 x1 x2 => touches_of_mask (execDpLinkTrainingDone_only x0 x1 x2),
    fun x0 x1 x2 => touches_of_mask (execAuxCommand_only x0 x1 x2),
    touches_of_mask execHpdFall_only,
    touches_of_mask execHpdRise_only,
    fun x0 => touches_of_mask (execPwmCounterZero_only x0),
    fun x0 => touches_of_mask (execPwmCounterTop_only x0),
    fun x0 x1 => touches_of_mask (execPwmCompareMatch_only x0 x1),
    fun x0 x1 => touches_of_mask (execDeadTimeExpiry_only x0 x1),
    fun x0 x1 x2 x3 => touches_of_mask (execSdResultReady_only x0 x1 x2 x3),
    fun x0 => touches_of_mask (execSdInputLost_only x0),
    fun x0 x1 => touches_of_mask (execAdcConversionDone_only x0 x1),
    fun x0 x1 => touches_of_mask (execSsiFrameEnd_only x0 x1),
    fun x0 => touches_of_mask (execSsiTimeout_only x0),
    fun x0 x1 x2 x3 x4 x5 => touches_of_mask (execBissFrameEnd_only x0 x1 x2 x3 x4 x5),
    fun x0 => touches_of_mask (execAxisEncoderLineBreak_only x0),
    fun x0 x1 x2 x3 => touches_of_mask (execComparatorTrip_only x0 x1 x2 x3),
    fun x0 x1 x2 => touches_of_mask (execStoInputEdge_only x0 x1 x2),
    fun x0 => touches_of_mask (execStoDiscrepancyFault_only x0),
    fun x0 x1 x2 x3 x4 x5 x6 => touches_of_mask (execAxisEncoderEdge_only x0 x1 x2 x3 x4 x5 x6),
    touches_of_mask execControlEngineStart_only,
    fun x0 => touches_of_mask (execAxisPass_only x0),
    fun x0 => touches_of_mask (execSs1TimeLimit_only x0),
    fun x0 => touches_of_mask (execFollowingErrorTimeout_only x0),
    fun x0 => touches_of_mask (execCspTargetTimeout_only x0),
    fun x0 => touches_of_mask (execHardStopHome_only x0),
    fun x0 => touches_of_mask (execAxisCommandDwellEnd_only x0),
    fun x0 => touches_of_mask (execControlwordEnableOperation_only x0),
    fun x0 => touches_of_mask (execControlwordFaultReset_only x0),
    fun x0 => touches_of_mask (execControlwordQuickStop_only x0),
    fun x0 => touches_of_mask (execControlwordDisable_only x0)⟩

end

section
/-! Octets as numbers (R6): what fields of a concatenation read, and that octets and their numbers give each other back. Records,
frames and state frames are read back by these laws. -/

namespace Sys2Proof.Laws

open Machine

@[simp] theorem length_leBytes (n v : Nat) : (leBytes n v).length = n := by
  induction n generalizing v with
  | zero => rfl
  | succ n ih => simp [leBytes, ih]

theorem leNat_append (a b : List Byte) : leNat (a ++ b) = leNat a + 256 ^ a.length * leNat b := by
  induction a with
  | nil => simp [leNat]
  | cons x a ih =>
    simp only [List.cons_append, leNat, ih, List.length_cons, Nat.pow_succ]
    ring

theorem leNat_lt (b : List Byte) : leNat b < 256 ^ b.length := by
  induction b with
  | nil => simp [leNat]
  | cons x b ih =>
    simp only [leNat, List.length_cons, Nat.pow_succ]
    have := x.isLt
    omega

/-- Octets depend on the number up to what they can hold. -/
theorem leBytes_mod (n v : Nat) : leBytes n (v % 256 ^ n) = leBytes n v := by
  induction n generalizing v with
  | zero => rfl
  | succ n ih =>
    have low : BitVec.ofNat 8 (v % 256 ^ (n + 1)) = BitVec.ofNat 8 v := by
      apply BitVec.eq_of_toNat_eq
      have h : (2 ^ 8 : Nat) ∣ 256 ^ (n + 1) := Dvd.intro _ (Nat.pow_succ' (m := 256) (n := n)).symm
      rw [BitVec.toNat_ofNat, BitVec.toNat_ofNat, Nat.mod_mod_of_dvd _ h]
    have high : v % 256 ^ (n + 1) / 256 = v / 256 % 256 ^ n := by
      rw [Nat.pow_succ', Nat.mod_mul_right_div_self]
    rw [leBytes, leBytes, low, high, ih]

@[simp] theorem leBytes_leNat (b : List Byte) : leBytes b.length (leNat b) = b := by
  induction b with
  | nil => rfl
  | cons x b ih =>
    have low : BitVec.ofNat 8 (x.toNat + 256 * leNat b) = x := by
      apply BitVec.eq_of_toNat_eq
      rw [BitVec.toNat_ofNat]
      have := x.isLt
      omega
    have high : (x.toNat + 256 * leNat b) / 256 = leNat b := by
      have := x.isLt
      omega
    rw [leNat, List.length_cons, leBytes, low, high, ih]

/-! ### Slices and fields -/

theorem slice_of_le {b : List Byte} {off n : Nat} (h : off + n ≤ b.length) : slice b off n = (b.drop off).take n := by
  simp [slice, Nat.min_eq_left (show n ≤ b.length - off by omega)]

/-- A slice that ends before the second part does not see it. -/
theorem slice_append_left {a b : List Byte} {off n : Nat} (h : off + n ≤ a.length) :
    slice (a ++ b) off n = slice a off n := by
  rw [slice_of_le h, slice_of_le (by rw [List.length_append]; omega), List.drop_append_of_le_length (by omega),
    List.take_append_of_le_length (by rw [List.length_drop]; omega)]

/-- A slice that starts behind the first part does not see that one. -/
theorem slice_append_right {a b : List Byte} {off n : Nat} (h : a.length ≤ off) :
    slice (a ++ b) off n = slice b (off - a.length) n := by
  simp [slice, List.drop_append, List.drop_eq_nil_of_le h]

@[simp] theorem slice_all (b : List Byte) : slice b 0 b.length = b := by
  simp [slice_of_le]

theorem fieldN_append_left {a b : List Byte} {off n : Nat} (h : off + n ≤ a.length) :
    fieldN (a ++ b) off n = fieldN a off n := by
  rw [fieldN, slice_append_left h, fieldN]

theorem fieldN_append_right {a b : List Byte} {off n : Nat} (h : a.length ≤ off) :
    fieldN (a ++ b) off n = fieldN b (off - a.length) n := by
  rw [fieldN, slice_append_right h, fieldN]

@[simp] theorem slice_leBytes (n v : Nat) : slice (leBytes n v) 0 n = leBytes n v := by
  have h := slice_all (leBytes n v)
  rwa [length_leBytes] at h

@[simp] theorem fieldN_leBytes (n v : Nat) : fieldN (leBytes n v) 0 n = v % 256 ^ n := by
  rw [fieldN, slice_leBytes, leNat_leBytes]

@[simp] theorem slice_leBytes_append (n v : Nat) (b : List Byte) : slice (leBytes n v ++ b) 0 n = leBytes n v := by
  rw [slice_append_left (by simp), slice_leBytes]

@[simp] theorem fieldN_leBytes_append (n v : Nat) (b : List Byte) : fieldN (leBytes n v ++ b) 0 n = v % 256 ^ n := by
  rw [fieldN, slice_leBytes_append, leNat_leBytes]

@[simp] theorem fieldN_cons_one (x : Byte) (b : List Byte) : fieldN (x :: b) 0 1 = x.toNat := by
  simp [fieldN, slice, leNat]

@[simp] theorem slice_cons_succ (x : Byte) (b : List Byte) (off n : Nat) : slice (x :: b) (off + 1) n = slice b off n := rfl

@[simp] theorem fieldN_cons_succ (x : Byte) (b : List Byte) (off n : Nat) :
    fieldN (x :: b) (off + 1) n = fieldN b off n := rfl

/-- A word is what its reading gives back, whatever the form in which the modulus stands. -/
theorem ofNat_toNat_mod {w m : Nat} (v : BitVec w) (h : 2 ^ w = m) : BitVec.ofNat w (v.toNat % m) = v := by
  subst h
  simp

/-! ### Two's complement -/

theorem toSigned_ofSigned {w : Nat} (hw : 0 < w) {i : Int} (hlo : -2 ^ (w - 1) ≤ i) (hhi : i < 2 ^ (w - 1)) :
    toSigned w (ofSigned w i) = i := by
  have double : (2 : Int) ^ w = 2 * 2 ^ (w - 1) := by rw [← Int.pow_succ', Nat.sub_add_cancel hw]
  have pos : (0 : Int) < 2 ^ (w - 1) := by positivity
  have natMod : ((ofSigned w i % 2 ^ w : Nat) : Int) = i % 2 ^ w := by
    have h0 : 0 ≤ i % (2 : Int) ^ w := Int.emod_nonneg _ (by omega)
    push_cast
    rw [ofSigned, Int.toNat_of_nonneg h0, Int.emod_emod_of_dvd _ (dvd_refl _)]
  have below : ofSigned w i % 2 ^ w < 2 ^ (w - 1) ↔ i % (2 : Int) ^ w < 2 ^ (w - 1) := by
    rw [← natMod]
    norm_cast
  simp only [toSigned, natMod, below]
  rcases lt_or_ge i 0 with neg | nonneg
  · rw [show i % (2 : Int) ^ w = i + 2 ^ w by
      rw [← Int.add_emod_right, Int.emod_eq_of_lt (by omega) (by omega)], if_neg (by omega)]
    omega
  · rw [Int.emod_eq_of_lt nonneg (by omega), if_pos hhi]

theorem ofSigned_lt (w : Nat) (i : Int) : ofSigned w i < 2 ^ w := by
  have hpos : (0 : Int) < 2 ^ w := by positivity
  have hlt := Int.emod_lt_of_pos i hpos
  have h0 := Int.emod_nonneg i hpos.ne'
  rw [ofSigned]
  zify
  rw [Int.toNat_of_nonneg h0]
  exact_mod_cast hlt

@[simp] theorem length_leBytesI (n : Nat) (i : Int) : (leBytesI n i).length = n := length_leBytes ..

theorem leInt_leBytesI {n : Nat} (hn : 0 < n) {i : Int} (hlo : -2 ^ (8 * n - 1) ≤ i) (hhi : i < 2 ^ (8 * n - 1)) :
    leInt (leBytesI n i) = i := by
  have fits : ofSigned (8 * n) i % 256 ^ n = ofSigned (8 * n) i := by
    refine Nat.mod_eq_of_lt (lt_of_lt_of_eq (ofSigned_lt _ _) ?_)
    rw [Nat.pow_mul]
  rw [leInt, length_leBytesI, leBytesI, leNat_leBytes, fits, toSigned_ofSigned (by omega) hlo hhi]

end Sys2Proof.Laws

end

section
/-! Chapters 02, 18 and 21: state frames of the tally lane (R84), fault records (R892) and boot control records (R983) read back from
their octets. -/

namespace Sys2Proof.Laws

open Machine

/-! ### State frames -/

theorem div_two_pow_seven_mul_succ (n i : Nat) : n / 2 ^ (7 * (i + 1)) = n / 128 / 2 ^ (7 * i) := by
  rw [Nat.div_div_eq_div_mul, Nat.mul_add, Nat.add_comm, Nat.pow_add]

/-- As many symbols as a number needs spell it. -/
theorem symbolNat_map_range (k n : Nat) :
    symbolNat ((List.range k).map fun i => BitVec.ofNat 8 (n / 2 ^ (7 * i) % 128)) = n % 2 ^ (7 * k) := by
  induction k generalizing n with
  | zero => simp [symbolNat, Nat.mod_one]
  | succ k ih =>
    have first : (BitVec.ofNat 8 (n / 2 ^ (7 * 0) % 128)).toNat % 128 = n % 128 := by
      simp
    have rest := ih (n / 128)
    simp only [← div_two_pow_seven_mul_succ] at rest
    rw [List.range_succ_eq_map, List.map_cons, List.map_map, symbolNat, first]
    simp only [Function.comp_def, Nat.succ_eq_add_one, rest]
    rw [← Nat.mod_mul, Nat.mul_add, Nat.add_comm, Nat.pow_add]

@[simp] theorem length_frameOctets (p : Int) (v a : F32) (b : Byte) : (frameOctets p v a b).length = 16 := by
  simp [frameOctets]

/-- The number that a state frame's symbols spell: the content below, the CRC above. -/
def frameNat (o : List Byte) : Nat := leNat o + 2 ^ 128 * (crc16 o).toNat

theorem leNat_lt_of_length_16 {o : List Byte} (ho : o.length = 16) : leNat o < 2 ^ 128 := by
  have h := leNat_lt o
  rw [ho] at h
  exact h

theorem symbolNat_frameSymbols {o : List Byte} (ho : o.length = 16) : symbolNat (frameSymbols o) = frameNat o := by
  have hlt : frameNat o < 2 ^ (7 * 21) := by
    have hcrc := (crc16 o).isLt
    have hcontent := leNat_lt_of_length_16 ho
    simp only [frameNat]
    omega
  exact (symbolNat_map_range 21 _).trans (Nat.mod_eq_of_lt hlt)

/-- The octets below the CRC are those that were sent. -/
theorem leBytes_frameNat {o : List Byte} (ho : o.length = 16) : leBytes 16 (frameNat o) = o := by
  have low : frameNat o % 256 ^ 16 = leNat o := by
    have hcontent := leNat_lt_of_length_16 ho
    simp only [frameNat]
    omega
  have h := leBytes_leNat o
  rw [ho] at h
  rw [← leBytes_mod, low, h]

theorem bits_frameNat {o : List Byte} (ho : o.length = 16) : bits (frameNat o) 143 128 = (crc16 o).toNat := by
  have hcrc := (crc16 o).isLt
  have hcontent := leNat_lt_of_length_16 ho
  simp only [bits, frameNat]
  omega

theorem length_frameSymbols (o : List Byte) : (frameSymbols o).length = 21 := by
  simp [frameSymbols]

theorem frameSymbols_bit7 {o : List Byte} {x : Byte} (hx : x ∈ frameSymbols o) : x.getLsbD 7 = false := by
  obtain ⟨i, -, rfl⟩ := List.mem_map.mp hx
  rw [BitVec.getLsbD_ofNat, show (128 : Nat) = 2 ^ 7 from rfl, Nat.testBit_mod_two_pow]
  rfl

/-- A frame of 16 octets is read from its symbols by the fields of these octets. -/
theorem frameRead_frameSymbols {o : List Byte} (ho : o.length = 16) :
    frameRead (frameSymbols o) = some
      { position := fieldI o 0 7, v := BitVec.ofNat 32 (fieldN o 7 4), a := BitVec.ofNat 32 (fieldN o 11 4),
        pstate := BitVec.ofNat 8 (fieldN o 15 1) } := by
  have clear : (frameSymbols o).all (fun b => !b.getLsbD 7) = true :=
    List.all_eq_true.mpr fun x hx => by rw [frameSymbols_bit7 hx]; rfl
  unfold frameRead
  dsimp only
  rw [symbolNat_frameSymbols ho, leBytes_frameNat ho, bits_frameNat ho,
    if_pos ⟨length_frameSymbols o, clear, rfl⟩]

theorem fieldI_frameOctets {p : Int} (hlo : -2 ^ 55 ≤ p) (hhi : p < 2 ^ 55) (v a : F32) (b : Byte) :
    fieldI (frameOctets p v a b) 0 7 = p := by
  have first : slice (frameOctets p v a b) 0 7 = leBytesI 7 p := by
    simp [frameOctets, leBytesI]
  rw [fieldI, first, leInt_leBytesI (by decide) hlo hhi]

/-! ### Fault records -/

@[simp] theorem length_fitTo (n : Nat) (b : List Byte) : (fitTo n b).length = n := by
  simp [fitTo]
  omega

theorem fitTo_of_length {n : Nat} {b : List Byte} (h : b.length = n) : fitTo n b = b := by
  subst h
  simp [fitTo]

theorem length_faultBytes (r : FaultRec) : (faultBytes r).length = 64 := by
  simp [faultBytes]

theorem recOf_faultBytes {r : FaultRec} (htime : r.time < 2 ^ 64) (hlo : -2 ^ 63 ≤ r.position) (hhi : r.position < 2 ^ 63)
    (hdetail : r.detail.length = 32) : recOf (faultBytes r) = r := by
  have time : r.time % 18446744073709551616 = r.time := Nat.mod_eq_of_lt htime
  have position : leInt (leBytesI 8 r.position) = r.position := leInt_leBytesI (by decide) hlo hhi
  have detail : slice r.detail 0 32 = r.detail := by
    rw [← hdetail, slice_all]
  cases r
  simp_all [recOf, faultBytes, leBytesI, fieldN_append_right, slice_append_right, ofNat_toNat_mod, fitTo_of_length]

/-! ### Boot control records -/

theorem length_controlHead (c : Control) : (controlHead c).length = 60 := by
  simp [controlHead]

theorem length_controlBytes (c : Control) : (controlBytes c).length = 64 := by
  simp [controlBytes, length_controlHead]

theorem take_controlBytes (c : Control) : (controlBytes c).take 60 = controlHead c := by
  rw [controlBytes, List.take_append_of_le_length (length_controlHead c).ge, List.take_of_length_le (length_controlHead c).le]

theorem crcField_controlBytes (c : Control) : fieldN (controlBytes c) 60 4 = (crc32 (controlHead c)).toNat := by
  rw [controlBytes, fieldN_append_right (length_controlHead c).le, length_controlHead, fieldN_leBytes,
    Nat.mod_eq_of_lt (lt_of_lt_of_eq (crc32 (controlHead c)).isLt (by decide))]

/-- Fields of a control record lie in its head. -/
theorem headField_controlBytes (c : Control) {off n : Nat} (h : off + n ≤ 60) :
    fieldN (controlBytes c) off n = fieldN (controlHead c) off n := by
  rw [controlBytes, fieldN_append_left (by rwa [length_controlHead])]

theorem controlRead_controlBytes {c : Control} (htries : c.tries < 256) (hseq : c.seq < 2 ^ 32) :
    controlRead (controlBytes c) = some c := by
  have magic : fieldN (controlBytes c) 0 4 = 0x43424B49 := by
    rw [headField_controlBytes c (by decide)]
    simp [controlHead]
  have active : decide (fieldN (controlBytes c) 4 1 = 1) = c.activeB := by
    rw [headField_controlBytes c (by decide)]
    cases h : c.activeB <;> simp [controlHead, fieldN_append_right, h]
  have trial : fieldN (controlBytes c) 5 1 = c.trial.elim 0xFF b2n := by
    rw [headField_controlBytes c (by decide)]
    rcases h : c.trial with _ | _ | _ <;> simp [controlHead, fieldN_append_right, h, b2n]
  have tries : fieldN (controlBytes c) 6 1 = c.tries := by
    rw [headField_controlBytes c (by decide)]
    simpa [controlHead, fieldN_append_right] using htries
  have seq : fieldN (controlBytes c) 8 4 = c.seq := by
    rw [headField_controlBytes c (by decide)]
    simpa [controlHead, fieldN_append_right] using hseq
  unfold controlRead
  rw [take_controlBytes, crcField_controlBytes, if_pos ⟨length_controlBytes c, rfl, magic⟩]
  rw [active, trial, tries, seq]
  obtain ⟨activeB, _ | _ | _, tries, seq⟩ := c <;> rfl

end Sys2Proof.Laws

open Sys2Proof Sys2Proof.Machine Sys2Proof.Laws

/-- Settles O4: the symbols spell the content and its CRC, and content of 16 octets gives its fields back. -/
theorem stateFramesReadBack : Obligations.StateFramesReadBack := by
  unfold Obligations.StateFramesReadBack
  refine ⟨fun p v a b hlo hhi => ⟨?readBack, length_frameSymbols _, fun x hx => frameSymbols_bit7 hx⟩, fun l hbad => ?wrong⟩
  case readBack =>
    rw [frameRead_frameSymbols (length_frameOctets ..), fieldI_frameOctets hlo hhi]
    simp [frameOctets, fieldN_append_right, ofNat_toNat_mod]
  case wrong =>
    refine if_neg fun ⟨hlen, _, hcrc⟩ => ?_
    rcases hbad with h | h
    · exact h hlen
    · exact h hcrc

/-- Settles O3: the fields of either record lie at the offsets at which they are read. -/
theorem bootAndFaultRecordsReadBack : Obligations.BootAndFaultRecordsReadBack := by
  unfold Obligations.BootAndFaultRecordsReadBack
  refine ⟨fun c htries hseq => ⟨controlRead_controlBytes htries hseq, length_controlBytes c⟩, fun b hbad => ?wrong,
    fun r htime hlo hhi hdetail => ⟨recOf_faultBytes htime hlo hhi hdetail, length_faultBytes r⟩⟩
  case wrong =>
    refine if_neg fun ⟨_, hcrc, hmagic⟩ => ?_
    rcases hbad with h | h
    · exact h hcrc
    · exact h hmagic

end

section
/-! Chapter 04, Rope: error episodes of a receiver (R191, R192), and frames on the lanes (R172 to R176, R191): the striped octets go
back to their places, and header, payload and CRC read back from them. -/

namespace Sys2Proof.Laws

open Machine

/-! ### Error episodes -/

@[simp] theorem ropeEnd_bump (s : State) (d : Die) (i k n : Nat) : ropeEnd (bump s i k n) d = ropeEnd s d := by
  cases d
  · exact bump_only s i k n .fend (by decide)
  · exact bump_only s i k n .hend (by decide)

/-- The frame that asks for a replay queues even where another LINK frame waits (R192). -/
theorem ropeEnd_queueLink_nak (s : State) (d : Die) :
    ropeEnd (queueLink s d true) d = { ropeEnd s d with control := (ropeEnd s d).control ++ [linkFrame true] } := by
  simp [queueLink]

theorem ropeEnd_crcError (s : State) (d : Die) :
    ropeEnd (crcError s d) d =
      { ropeEnd s d with episode := true, control := (ropeEnd s d).control ++ [linkFrame true] } := by
  simp [crcError, ropeEnd_queueLink_nak]

theorem classIn_of_outOfSequence_in_episode {s : State} {d : Die} {f : Frame} (g : Bool)
    (he : (ropeEnd s d).episode = true) (hs : f.seq ≠ ((ropeEnd s d).lastGood + 1) % 256) : classIn s d f g = s := by
  simp [classIn, he, hs]

theorem classIn_eq_crcError {s : State} {d : Die} {f : Frame} {g : Bool}
    (hopen : (ropeEnd s d).episode = false ∨ f.seq = ((ropeEnd s d).lastGood + 1) % 256)
    (hbad : g = false ∨ f.seq ≠ ((ropeEnd s d).lastGood + 1) % 256) : classIn s d f g = crcError s d := by
  have notDiscarded : ((ropeEnd s d).episode && !(f.seq == ((ropeEnd s d).lastGood + 1) % 256)) = false := by
    rcases hopen with h | h <;> simp [h]
  have notGood : (!g || !(f.seq == ((ropeEnd s d).lastGood + 1) % 256)) = true := by
    rcases hbad with h | h <;> simp [h]
  simp [classIn, notDiscarded, notGood]

end Sys2Proof.Laws

open Sys2Proof Sys2Proof.Machine Sys2Proof.Laws

/-- Settles O1: what opens an episode is the error path of the receiver, which queues a LINK frame with NAK. -/
theorem errorEpisodesDiscardLaterFrames : Obligations.ErrorEpisodesDiscardLaterFrames := by
  unfold Obligations.ErrorEpisodesDiscardLaterFrames
  refine ⟨fun s d f g => classIn_of_outOfSequence_in_episode g, fun s d f g hopen hbad => ?_⟩
  have herr := classIn_eq_crcError hopen hbad
  rw [herr, ropeEnd_crcError]
  exact ⟨rfl, rfl, rfl, linkFrame true, by simp, rfl⟩

end

section
/-! Chapter 04, frames on the lanes of Rope (R172 to R176, R191): each lane's symbols give its octets back, octets that were striped
over the lanes go back to their places, and header, payload and CRC read back from them. -/

namespace Sys2Proof.Laws

open Machine

/-! ### The header -/

/-- The fields of a frame fit its header (R176). -/
structure HeaderFits (f : Frame) : Prop where
  cls : f.cls < 8
  kind : f.kind < 4
  seq : f.seq < 256
  ack : f.ack.getD 0 < 256
  crClass : f.crClass < 8
  crCount : f.crCount < 32
  tag : f.tag < 65536
  length : f.payload.length < 512

theorem b2n_le_one (b : Bool) : b2n b ≤ 1 := by
  cases b <;> decide

/-- The header with each field at its weight, when none is cut. -/
theorem headerNat_of_fits {f : Frame} (h : HeaderFits f) :
    headerNat f = f.payload.length + 2 ^ 16 * f.tag + 2 ^ 32 * f.crCount + 2 ^ 37 * f.crClass + 2 ^ 40 * f.ack.getD 0 +
      2 ^ 48 * f.seq + 2 ^ 56 * b2n f.nak + 2 ^ 57 * b2n f.ack.isSome + 2 ^ 58 * b2n f.last + 2 ^ 59 * f.kind +
      2 ^ 61 * f.cls := by
  obtain ⟨hcls, hkind, hseq, hack, hcr, hcount, htag, hlen⟩ := h
  simp only [headerNat, Nat.mod_eq_of_lt hcls, Nat.mod_eq_of_lt hkind, Nat.mod_eq_of_lt hseq, Nat.mod_eq_of_lt hack,
    Nat.mod_eq_of_lt hcr, Nat.mod_eq_of_lt hcount, Nat.mod_eq_of_lt htag, Nat.mod_eq_of_lt hlen]

theorem headerNat_lt {f : Frame} (h : HeaderFits f) : headerNat f < 2 ^ 64 := by
  have hnak := b2n_le_one f.nak
  have hsome := b2n_le_one f.ack.isSome
  have hlast := b2n_le_one f.last
  rw [headerNat_of_fits h]
  obtain ⟨hcls, hkind, hseq, hack, hcr, hcount, htag, hlen⟩ := h
  omega

theorem bits_headerNat {f : Frame} (h : HeaderFits f) :
    bits (headerNat f) 8 0 = f.payload.length ∧ bits (headerNat f) 31 16 = f.tag ∧
    bits (headerNat f) 36 32 = f.crCount ∧ bits (headerNat f) 39 37 = f.crClass ∧
    bits (headerNat f) 47 40 = f.ack.getD 0 ∧ bits (headerNat f) 55 48 = f.seq ∧
    bits (headerNat f) 60 59 = f.kind ∧ bits (headerNat f) 63 61 = f.cls := by
  have hnak := b2n_le_one f.nak
  have hsome := b2n_le_one f.ack.isSome
  have hlast := b2n_le_one f.last
  simp only [bits, headerNat_of_fits h]
  obtain ⟨hcls, hkind, hseq, hack, hcr, hcount, htag, hlen⟩ := h
  refine ⟨?_, ?_, ?_, ?_, ?_, ?_, ?_, ?_⟩ <;> omega

theorem bit_of_div_mod {v i : Nat} {b : Bool} (h : v / 2 ^ i % 2 = b2n b) : bit v i = b := by
  cases b <;> simp [bit, Nat.testBit_eq_decide_div_mod_eq, h, b2n]

theorem bit_headerNat {f : Frame} (h : HeaderFits f) :
    bit (headerNat f) 56 = f.nak ∧ bit (headerNat f) 57 = f.ack.isSome ∧ bit (headerNat f) 58 = f.last := by
  have hnak := b2n_le_one f.nak
  have hsome := b2n_le_one f.ack.isSome
  have hlast := b2n_le_one f.last
  have hsum := headerNat_of_fits h
  obtain ⟨hcls, hkind, hseq, hack, hcr, hcount, htag, hlen⟩ := h
  refine ⟨bit_of_div_mod ?_, bit_of_div_mod ?_, bit_of_div_mod ?_⟩ <;> omega

/-! ### The octets of a frame -/

theorem length_framePadded (f : Frame) : (framePadded f).length = 8 + (f.payload.length + 3) / 4 * 4 := by
  simp only [framePadded, List.length_append, length_leBytes, List.length_replicate]
  omega

theorem length_frameOctetsOf (f : Frame) : (frameOctetsOf f).length = 12 + (f.payload.length + 3) / 4 * 4 := by
  rw [frameOctetsOf, List.length_append, length_leBytes, length_framePadded]
  omega

theorem header_frameOctetsOf {f : Frame} (h : HeaderFits f) : fieldN (frameOctetsOf f) 0 8 = headerNat f := by
  simp only [frameOctetsOf, framePadded, List.append_assoc, fieldN_leBytes_append]
  exact Nat.mod_eq_of_lt (headerNat_lt h)

theorem payload_frameOctetsOf (f : Frame) : slice (frameOctetsOf f) 8 f.payload.length = f.payload := by
  simp only [frameOctetsOf, framePadded, List.append_assoc]
  rw [slice_append_right (by simp), length_leBytes, slice_append_left (by simp)]
  exact slice_all _

theorem body_frameOctetsOf (f : Frame) :
    (frameOctetsOf f).take ((frameOctetsOf f).length - 4) = framePadded f := by
  simp [frameOctetsOf]

theorem crc_frameOctetsOf (f : Frame) :
    fieldN (frameOctetsOf f) ((frameOctetsOf f).length - 4) 4 = (crc32 (framePadded f)).toNat := by
  have behind : (frameOctetsOf f).length - 4 = (framePadded f).length := by simp [frameOctetsOf]
  rw [behind, frameOctetsOf, fieldN_append_right le_rfl, Nat.sub_self, fieldN_leBytes]
  exact Nat.mod_eq_of_lt (lt_of_lt_of_eq (crc32 (framePadded f)).isLt (by decide))

theorem frameOfOctets_frameOctetsOf {f : Frame} (h : HeaderFits f) (hstale : f.stale = false) (harrived : f.arrived = 0) :
    frameOfOctets (frameOctetsOf f) = some f := by
  obtain ⟨hlen, htag, hcount, hcr, hack, hseq, hkind, hcls⟩ := bits_headerNat h
  obtain ⟨hnak, hsome, hlast⟩ := bit_headerNat h
  have whole : ¬((frameOctetsOf f).length < 12 ∨ (frameOctetsOf f).length ≠ 12 + (f.payload.length + 3) / 4 * 4 ∨
      (crc32 (framePadded f)).toNat ≠ (crc32 (framePadded f)).toNat) := by
    rw [length_frameOctetsOf]
    omega
  have ack : (if f.ack.isSome = true then some (f.ack.getD 0) else none) = f.ack := by
    cases f.ack <;> rfl
  simp only [frameOfOctets, header_frameOctetsOf h, body_frameOctetsOf, crc_frameOctetsOf, hlen, htag, hcount, hcr, hack,
    hseq, hkind, hcls, hnak, hsome, hlast, payload_frameOctetsOf, if_neg whole, ack]
  cases f
  simp_all

/-! ### Striping -/

/-- The places of lane `k` of `w` among the first `m` rows (R173). -/
theorem filter_range_mul {w k : Nat} (hk : k < w) (m : Nat) :
    (List.range (m * w)).filter (fun i => i % w == k) = (List.range m).map (fun j => j * w + k) := by
  have row : (List.range w).filter (fun i => i % w == k) = [k] := by
    have inRange : (List.range w).filter (fun i => i % w == k) = (List.range w).filter (fun i => i == k) :=
      List.filter_congr fun i hi => by rw [Nat.mod_eq_of_lt (List.mem_range.mp hi)]
    rw [inRange, List.filter_beq, List.count_eq_one_of_mem List.nodup_range (List.mem_range.mpr hk)]
    rfl
  induction m with
  | zero => simp
  | succ m ih =>
    have shifted : (fun i => i % w == k) ∘ (fun i => m * w + i) = fun i => i % w == k := by
      funext i
      simp [Nat.add_mod]
    rw [Nat.succ_mul, List.range_add, List.filter_append, ih, List.filter_map, shifted, row, List.range_succ, List.map_append]
    rfl

/-- Lane `k` carries the `k`-th octet of each row of `w`. -/
theorem stripe_eq {w k m : Nat} {b : List Byte} (hk : k < w) (hb : b.length = m * w) :
    stripe w k b = (List.range m).map (fun j => b.getD (j * w + k) 0) := by
  have numbered : b.zipIdx = (List.range b.length).map (fun i => (b.getD i 0, i)) :=
    List.ext_getElem (by simp) fun i h _ => by
      have hi : i < b.length := by simpa using h
      simp [hi]
  rw [stripe, numbered, List.filter_map, List.map_map, hb]
  have places := congrArg (List.map fun i => b.getD i 0) (filter_range_mul hk m)
  simpa [Function.comp_def] using places

/-- Reading the lanes row by row gives the octets back. -/
theorem unstripe {w m : Nat} {b : List Byte} (hw : 0 < w) (hb : b.length = m * w) :
    (List.range (m * w)).map (fun i => (((List.range w).map (fun k => stripe w k b)).getD (i % w) []).getD (i / w) 0) = b := by
  refine List.ext_getElem (by simp [hb]) fun i h _ => ?_
  have hi : i < m * w := by simpa using h
  have lane : i % w < w := Nat.mod_lt i hw
  have row : i / w < m := Nat.div_lt_of_lt_mul (by rwa [Nat.mul_comm])
  have place : i / w * w + i % w = i := by rw [Nat.mul_comm]; exact Nat.div_add_mod i w
  have inFrame : i < b.length := hb ▸ hi
  simp [lane, stripe_eq lane hb, row, place, inFrame]

/-! ### The symbols of a lane -/

theorem laneData_data (l : List Byte) : laneData (l.map .data ++ [.stop]) = some l := by
  induction l with
  | nil => rfl
  | cons b l ih => simp [laneData, ih]

theorem filterMap_laneOctets_laneSymbols (w : Nat) (f : Frame) :
    (laneSymbols w f).filterMap laneOctets = (List.range w).map (fun k => stripe w k (frameOctetsOf f)) := by
  have lane : (laneOctets ∘ fun k => .start :: (stripe w k (frameOctetsOf f)).map .data ++ [.stop]) =
      some ∘ fun k => stripe w k (frameOctetsOf f) := by
    funext k
    exact laneData_data _
  rw [laneSymbols, List.filterMap_map, lane, ← List.filterMap_map, List.filterMap_some]

/-- A lane that carries no frame is one lane of octets too few. -/
theorem frameOfLanes_eq_none {lanes : List (List Symbol)} {l : List Symbol} (hl : l ∈ lanes) (hbad : laneOctets l = none) :
    frameOfLanes lanes = none := by
  have short : (lanes.filterMap laneOctets).length ≠ lanes.length :=
    (List.length_filterMap_lt_length_iff_exists.mpr ⟨l, hl, hbad⟩).ne
  exact if_pos (.inl short)

theorem frameOfLanes_laneSymbols {w m : Nat} (f : Frame) (hw : 0 < w) (hlen : (frameOctetsOf f).length = m * w) :
    frameOfLanes (laneSymbols w f) = frameOfOctets (frameOctetsOf f) := by
  have lengths : ∀ k < w, (stripe w k (frameOctetsOf f)).length = m := fun k hk => by
    rw [stripe_eq hk hlen, List.length_map, List.length_range]
  have first : (((List.range w).map fun k => stripe w k (frameOctetsOf f)).headD []).length = m := by
    obtain ⟨v, rfl⟩ := Nat.exists_eq_succ_of_ne_zero hw.ne'
    rw [List.range_succ_eq_map]
    exact lengths 0 hw
  have count : (laneSymbols w f).length = w := by simp [laneSymbols]
  unfold frameOfLanes
  dsimp only
  rw [filterMap_laneOctets_laneSymbols, first, count, unstripe hw hlen]
  refine if_neg ?_
  simpa [hw.ne'] using lengths

/-- The frame's length is a multiple of four octets (R174), so one, two or four lanes carry equal shares. -/
theorem exists_rows {w : Nat} (hw : w = 1 ∨ w = 2 ∨ w = 4) (f : Frame) : ∃ m, (frameOctetsOf f).length = m * w := by
  rw [length_frameOctetsOf]
  rcases hw with rfl | rfl | rfl
  · exact ⟨12 + (f.payload.length + 3) / 4 * 4, by omega⟩
  · exact ⟨6 + (f.payload.length + 3) / 4 * 2, by omega⟩
  · exact ⟨3 + (f.payload.length + 3) / 4, by omega⟩

end Sys2Proof.Laws

open Sys2Proof Sys2Proof.Machine Sys2Proof.Laws

/-- Settles O2: the lanes give the octets back, and the octets the frame. -/
theorem ropeFramesReadBackFromTheirLanes : Obligations.RopeFramesReadBackFromTheirLanes := by
  unfold Obligations.RopeFramesReadBackFromTheirLanes
  refine ⟨fun w f hw hcls hkind hseq hack hcr hcount htag hlen hstale harrived => ?readBack, fun lanes l => frameOfLanes_eq_none⟩
  have fits : HeaderFits f :=
    { cls := hcls, kind := hkind, seq := hseq, crClass := hcr, crCount := hcount, tag := htag, length := by omega
      ack := by
        cases h : f.ack with
        | none => decide
        | some a => exact hack a h }
  obtain ⟨m, hm⟩ := exists_rows hw f
  rw [frameOfLanes_laneSymbols f (by omega) hm, frameOfOctets_frameOctetsOf fits hstale harrived]

end

section
/-! Chapter 08, octets of DRAM: which octets stores write (R392, R401, R403), and that loads, scrubs and prefetches write none. -/

namespace Sys2Proof.Laws

open Machine

/-- Every octet of DRAM reads the same. -/
structure SameDram (s t : State) : Prop where
  read : ∀ c, dramGet t c = dramGet s c

theorem SameDram.refl (s : State) : SameDram s s := ⟨fun _ => rfl⟩

theorem SameDram.comp {s t u : State} (k : SameDram t u) (h : SameDram s t) : SameDram s u :=
  ⟨fun c => (k.read c).trans (h.read c)⟩

theorem SameDram.ite {c : Prop} [Decidable c] {s t u : State} (h : SameDram s t) (k : SameDram s u) :
    SameDram s (if c then t else u) := by
  split
  · exact h
  · exact k

theorem sameDram_of_mem {s t : State} (hcells : t.mem.cells = s.mem.cells) (hlosses : t.mem.losses = s.mem.losses) :
    SameDram s t := by
  have hdefault : dramDefault t = dramDefault s := by
    funext a
    unfold dramDefault lossesAt
    rw [hlosses]
  exact ⟨fun c => by rw [dramGet, hdefault, hcells, ← dramGet]⟩

/-- An operation whose frame does not name the memory writes no octet. -/
theorem sameDram_of_only {m : Nat} {s t : State} (h : OnlyM m s t) (hm : m.testBit Part.mem.ctorIdx = false := by rfl) :
    SameDram s t := by
  have hmem : t.mem = s.mem := h .mem hm
  exact sameDram_of_mem (by rw [hmem]) (by rw [hmem])

/-! ### Operations that write no octet -/

/-- A further change of the memory beside its octets. -/
theorem SameDram.withMem {s t : State} (h : SameDram s t) {m : Memory} (hcells : m.cells = t.mem.cells := by rfl)
    (hlosses : m.losses = t.mem.losses := by rfl) : SameDram s { t with mem := m } :=
  (sameDram_of_mem hcells hlosses).comp h

theorem sameDram_logHost (s : State) (r : FaultRec) : SameDram s (logHost s r) := sameDram_of_only (logHost_only s r)

/-- A fabric record changes the list of records. -/
theorem sameDram_fabFault (s : State) (r : FabRec) : SameDram s (fabFault s r) :=
  sameDram_of_mem (by simp [fabFault]) (by simp [fabFault])

theorem sameDram_countLine (s : State) (t : PTag) (n : Nat) : SameDram s (countLine s t n) := by
  cases t <;> exact sameDram_of_mem rfl rfl

theorem sameDram_ceOne (s : State) : SameDram s (ceOne s) := by
  unfold ceOne
  dsimp only
  split
  · exact (sameDram_logHost _ _).comp (sameDram_of_mem rfl rfl)
  · exact sameDram_of_mem rfl rfl

theorem sameDram_eccRead (s : State) (line : Nat) (e : EccResult) : SameDram s (eccRead s line e) := by
  unfold eccRead
  split
  · exact .refl s -- no inline ECC reads the line
  · cases e with
    | clean => exact .refl s
    | corrected => exact sameDram_ceOne s
    | uncorrectable => exact sameDram_of_mem rfl rfl

theorem sameDram_rasRaise (s : State) (hart : Nat) : SameDram s (rasRaise s hart) := by
  unfold rasRaise imsicSet
  split <;> exact sameDram_of_mem rfl rfl

theorem sameDram_engLoad (s : State) (w : Origin) (a n : Nat) : SameDram s (engLoad s w a n).1 := by
  refine List.foldlRecOn (motive := fun acc : State × List Byte × Bool × Bool => SameDram s acc.1) (linesOf a n) _
    (.refl s) fun acc hacc line _ => ?_
  dsimp only
  split
  · exact (sameDram_fabFault _ _).comp hacc -- the window refuses the line
  · split
    · exact (sameDram_fabFault _ _).comp hacc -- the line is poisoned
    · exact hacc

/-- A page that comes back is loaded from DRAM and written to Cavern. -/
theorem sameDram_prefetchPage (s : State) (p i frame : Nat) : SameDram s (prefetchPage s p i frame).1 := by
  unfold prefetchPage
  dsimp only
  split
  · refine (sameDram_of_only (bump_only _ _ _ _)).comp ?_
    refine (sameDram_of_only (setPte_only _ _ _ _)).comp ?_
    exact (sameDram_of_only (cavWrite_only _ _ _)).comp (sameDram_engLoad ..)
  · exact sameDram_engLoad ..

theorem sameDram_prefetchSeq (s : State) (p q : Nat) : SameDram s (prefetchSeq s p q).1 := by
  have pages : SameDram s (((sumpPtes s p (kvSeq s p q)).zip (freeFrames s p)).foldl (fun (acc : State × Bool) e =>
      if acc.2 then prefetchPage acc.1 p e.1 e.2 else acc) (s, true)).1 := by
    refine List.foldlRecOn (motive := fun acc : State × Bool => SameDram s acc.1) _ _ (.refl s) fun acc hacc e _ => ?_
    split
    · exact (sameDram_prefetchPage _ _ _ _).comp hacc
    · exact hacc
  unfold prefetchSeq
  dsimp only
  split
  · exact (sameDram_of_only (setSeq_only _ _ _ _)).comp pages
  · split
    · exact (sameDram_of_only (setSeq_only _ _ _ _)).comp pages
    · exact pages

theorem sameDram_kvResult (s : State) (r : Nat) : SameDram s (kvResult s r) := sameDram_of_only (kvResult_only s r)

theorem sameDram_kvPrefetchSeq (s : State) (p q : Nat) : SameDram s (kvPrefetchSeq s p q) := by
  unfold kvPrefetchSeq
  dsimp only
  split
  · exact sameDram_kvResult ..
  · split
    · exact sameDram_kvResult ..
    · exact (sameDram_kvResult _ _).comp (sameDram_prefetchSeq ..)

/-! ### Engine stores -/

theorem getD_slice {b : List Byte} {off n i : Nat} (h : i < n) : (slice b off n).getD i 0 = b.getD (off + i) 0 := by
  simp only [slice, List.getD_eq_getElem?_getD, List.getElem?_append, List.getElem?_take, List.getElem?_drop,
    List.getElem?_replicate, List.length_take, List.length_drop]
  split
  · rfl
  · rename_i hout
    rw [List.getElem?_eq_none (show b.length ≤ off + i by omega)]
    split <;> rfl

@[simp] theorem length_slice (b : List Byte) (off n : Nat) : (slice b off n).length = n := by
  simp [slice]

/-- The octet `c` of a store of `n` octets from `a` lies in `line`. -/
def InStoreLine (a n line c : Nat) : Prop := max a line ≤ c ∧ c < min (a + n) (line + 64)

/-- What `engStore` does with one line. -/
def storeLine (w : Origin) (a : Nat) (d : List Byte) (acc : State × Bool) (line : Nat) : State × Bool :=
  let lo := max a line
  let hi := min (a + d.length) (line + 64)
  match accessCause acc.1 w line true with
  | some c => (fabFault acc.1 (fabOf w c line ((2 ^ (hi - lo) - 1) * 2 ^ (lo - line))), false)
  | none =>
    let st := dramWrite acc.1 lo (slice d (lo - a) (hi - lo))
    (if hi - lo = 64 then { st with mem := { st.mem with poison := st.mem.poison.filter (· ≠ line) } } else st, acc.2)

theorem engStore_eq_foldl (s : State) (w : Origin) (a : Nat) (d : List Byte) :
    engStore s w a d = (linesOf a d.length).foldl (storeLine w a d) (s, true) := rfl

/-- A line that passes stores its octets; one that is refused stores none and clears the answer. -/
theorem storeLine_cases (w : Origin) (a : Nat) (d : List Byte) (acc : State × Bool) (line : Nat) :
    ((storeLine w a d acc line).2 = false ∧ SameDram acc.1 (storeLine w a d acc line).1) ∨
    ((storeLine w a d acc line).2 = acc.2 ∧
      SameDram (dramWrite acc.1 (max a line) (slice d (max a line - a) (min (a + d.length) (line + 64) - max a line)))
        (storeLine w a d acc line).1) := by
  unfold storeLine
  dsimp only
  split
  · exact .inl ⟨rfl, sameDram_fabFault ..⟩
  · exact .inr ⟨rfl, .ite (SameDram.refl _).withMem (.refl _)⟩

theorem dramGet_storeLine_outside {w : Origin} {a : Nat} {d : List Byte} {line c : Nat}
    (hc : ¬ InStoreLine a d.length line c) (acc : State × Bool) :
    dramGet (storeLine w a d acc line).1 c = dramGet acc.1 c := by
  obtain ⟨-, same⟩ | ⟨-, same⟩ := storeLine_cases w a d acc line
  · exact same.read c
  · rw [same.read c, dramGet_dramWrite, length_slice, if_neg]
    exact fun h => hc ⟨h.1, by omega⟩

theorem dramGet_storeLine_inside {w : Origin} {a : Nat} {d : List Byte} {line c : Nat} (hc : InStoreLine a d.length line c)
    {acc : State × Bool} (hok : (storeLine w a d acc line).2 = true) :
    dramGet (storeLine w a d acc line).1 c = d.getD (c - a) 0 ∧ acc.2 = true := by
  obtain ⟨hlo, hhi⟩ := hc
  obtain ⟨refused, -⟩ | ⟨answer, same⟩ := storeLine_cases w a d acc line
  · rw [refused] at hok
    cases hok
  · refine ⟨?_, answer ▸ hok⟩
    rw [same.read c, dramGet_dramWrite, length_slice, if_pos ⟨hlo, by omega⟩, getD_slice (by omega)]
    congr 1
    omega

theorem storeLine_answer {w : Origin} {a : Nat} {d : List Byte} {acc : State × Bool} {line : Nat}
    (hok : (storeLine w a d acc line).2 = true) : acc.2 = true := by
  obtain ⟨refused, -⟩ | ⟨answer, -⟩ := storeLine_cases w a d acc line
  · rw [refused] at hok
    cases hok
  · exact answer ▸ hok

theorem foldl_storeLine_answer {w : Origin} {a : Nat} {d : List Byte} {l : List Nat} {acc : State × Bool}
    (hok : (l.foldl (storeLine w a d) acc).2 = true) : acc.2 = true := by
  induction l generalizing acc with
  | nil => exact hok
  | cons line l ih => exact storeLine_answer (ih hok)

theorem dramGet_foldl_storeLine_outside {w : Origin} {a : Nat} {d : List Byte} {l : List Nat} {c : Nat}
    (hc : ∀ line ∈ l, ¬ InStoreLine a d.length line c) (acc : State × Bool) :
    dramGet (l.foldl (storeLine w a d) acc).1 c = dramGet acc.1 c := by
  induction l generalizing acc with
  | nil => rfl
  | cons line l ih =>
    rw [List.foldl_cons, ih (fun k hk => hc k (List.mem_cons_of_mem _ hk)),
      dramGet_storeLine_outside (hc line List.mem_cons_self)]

/-- When every line passes, the octets of each line hold the stored values: a later line that has the octet too stores the same. -/
theorem dramGet_foldl_storeLine_inside {w : Origin} {a : Nat} {d : List Byte} {l : List Nat} {c : Nat}
    (hc : ∃ line ∈ l, InStoreLine a d.length line c) {acc : State × Bool}
    (hok : (l.foldl (storeLine w a d) acc).2 = true) :
    dramGet (l.foldl (storeLine w a d) acc).1 c = d.getD (c - a) 0 := by
  induction l generalizing acc with
  | nil => simp at hc
  | cons line l ih =>
    rw [List.foldl_cons] at hok ⊢
    by_cases later : ∃ k ∈ l, InStoreLine a d.length k c
    · exact ih later hok
    · have here : InStoreLine a d.length line c := by
        obtain ⟨k, hk, hin⟩ := hc
        rcases List.mem_cons.mp hk with rfl | hk
        · exact hin
        · exact absurd ⟨k, hk, hin⟩ later
      rw [dramGet_foldl_storeLine_outside (fun k hk hin => later ⟨k, hk, hin⟩)]
      exact (dramGet_storeLine_inside here (foldl_storeLine_answer hok)).1

/-- Every octet of a range lies in one of its lines. -/
theorem exists_mem_linesOf {a n c : Nat} (hlo : a ≤ c) (hhi : c < a + n) : ∃ line ∈ linesOf a n, InStoreLine a n line c := by
  refine ⟨c / 64 * 64, ?_, ?_, ?_⟩
  · rw [linesOf, if_neg (by omega)]
    exact List.mem_map.mpr ⟨c / 64 - a / 64, List.mem_range.mpr (by omega), by
      rw [Nat.add_sub_cancel' (Nat.div_le_div_right hlo)]⟩
  · omega
  · omega

theorem dramGet_engStore_outside (s : State) (w : Origin) {a : Nat} {d : List Byte} {c : Nat}
    (hc : ¬ (a ≤ c ∧ c < a + d.length)) : dramGet (engStore s w a d).1 c = dramGet s c := by
  rw [engStore_eq_foldl, dramGet_foldl_storeLine_outside]
  exact fun line _ ⟨hlo, hhi⟩ => hc ⟨by omega, by omega⟩

theorem dramGet_engStore_inside {s : State} {w : Origin} {a : Nat} {d : List Byte} {c : Nat}
    (hok : (engStore s w a d).2 = true) (hc : a ≤ c ∧ c < a + d.length) :
    dramGet (engStore s w a d).1 c = d.getD (c - a) 0 := by
  rw [engStore_eq_foldl] at hok ⊢
  exact dramGet_foldl_storeLine_inside (exists_mem_linesOf hc.1 hc.2) hok

/-! ### Core stores -/

theorem getD_leBytes {n i : Nat} (v : Nat) (h : i < n) : (leBytes n v).getD i 0 = BitVec.ofNat 8 (v / 2 ^ (8 * i)) := by
  induction n generalizing v i with
  | zero => omega
  | succ n ih =>
    cases i with
    | zero => simp [leBytes]
    | succ i =>
      rw [leBytes, List.getD_cons_succ, ih _ (by omega), Nat.div_div_eq_div_mul, Nat.mul_add, Nat.add_comm, Nat.pow_add]

theorem exec_registerWrite_dram {s : State} {a : BitVec 40} {n : Nat} (hs : hostHw s = true) (hm : inMmio a.toNat = false)
    (hp : inPcie a.toNat = false) (hd : (linesOf a.toNat n).all (fun l => inDram s l) = true) (b : Bool) (k : Fin 8)
    (v : BitVec 64) : exec (.registerWrite b k a n v) s = .next (dramWrite (coreOk s) a.toNat (leBytes n v.toNat)) := by
  have h : exec (.registerWrite b k a n v) s = execRegisterWrite b k a n v s := rfl
  simp only [h, execRegisterWrite, hs, hm, hp, hd, Bool.not_true, Bool.false_eq_true, ↓reduceIte]

theorem dramGet_coreStore (s : State) (a n v c : Nat) :
    dramGet (dramWrite (coreOk s) a (leBytes n v)) c =
      if a ≤ c ∧ c < a + n then BitVec.ofNat 8 (v / 2 ^ (8 * (c - a))) else dramGet s c := by
  have same : SameDram s (coreOk s) := sameDram_of_mem rfl rfl
  rw [dramGet_dramWrite, length_leBytes, same.read c]
  split
  · rw [getD_leBytes v (by omega)]
  · rfl

/-! ### Posted stores -/

theorem exec_storeAccept {s : State} {p : PendingStore} {l : List PendingStore} (hs : hostHw s = true)
    (hp : s.mem.stores = p :: l) (e : EccResult) : exec (.storeAccept e) s =
      .next (storeTaken (storeMerged { s with mem := { s.mem with stores := l } } p e) p.who) := by
  have h : exec (.storeAccept e) s = execStoreAccept e s := rfl
  simp [h, execStoreAccept, hs, hp]

/-- Beside the merge, the acceptance of a store writes no octet, unless the line read for the merge was uncorrectable. -/
theorem sameDram_storeMerged {s : State} {p : PendingStore} {e : EccResult}
    (h : e = .uncorrectable → s.mem.ecc = true → p.mask % 2 ^ 64 = 2 ^ 64 - 1) :
    SameDram (mergeLine s p.line p.mask p.data) (storeMerged s p e) := by
  unfold storeMerged
  dsimp only
  split
  · exact (SameDram.refl _).withMem -- a full line heals poison
  · rename_i partial_
    split
    · exact .refl _ -- without inline ECC
    · rename_i hecc
      rw [mergeLine_ecc] at hecc
      cases e with
      | clean => exact .refl _
      | corrected => exact sameDram_ceOne _
      | uncorrectable => exact absurd (h rfl (by simpa using hecc)) partial_

/-- A posted store writes the masked octets of its line (R392). -/
theorem dramGet_storeMerged {s : State} {p : PendingStore} {e : EccResult}
    (h : e = .uncorrectable → s.mem.ecc = true → p.mask % 2 ^ 64 = 2 ^ 64 - 1) (c : Nat) :
    dramGet (storeMerged s p e) c =
      if p.line ≤ c ∧ c < p.line + 64 ∧ p.mask.testBit (c - p.line) = true then lget 0 p.data (c - p.line)
      else dramGet s c := by
  rw [(sameDram_storeMerged h).read c, dramGet_mergeLine]

/-! ### The posting of an engine store -/

@[simp] theorem que_setJob (s : State) (q : Nat) (j : Job) : que (setJob s q j) q = { que s q with job := some j } := by
  simp [setJob, que, setQue]

/-- Signing a store changes no seq and no window generation of a job, so the same table governs the unit (R404, R879). -/
theorem unitGen_signStore (s : State) (w : Origin) (line mask : Nat) (d : List Byte) :
    unitGen (signStore s w line mask d) w = unitGen s w := by
  unfold signStore
  split
  next j hagent hjob =>
    split
    · rfl
    · have signed : ∀ j', (tget ({} : Queue) (setJob s w.queue j').gal.queues w.queue).job = some j' :=
        fun j' => congrArg Queue.job (que_setJob s w.queue j')
      have before : (tget ({} : Queue) s.gal.queues w.queue).job = some j := hjob
      simp only [unitGen, hagent, signed, before]
      rfl
  next => rfl

theorem signStore_mem (s : State) (w : Origin) (line mask : Nat) (d : List Byte) :
    (signStore s w line mask d).mem = s.mem :=
  signStore_only s w line mask d .mem (by decide)

theorem accessCause_countLine (s : State) (t : PTag) (n : Nat) (w : Origin) (line : Nat) (store : Bool) :
    accessCause (countLine s t n) w line store = accessCause s w line store := by
  cases t <;> rfl

theorem accessCause_signStore (s : State) (w : Origin) (line mask : Nat) (d : List Byte) (l : Nat) (store : Bool) :
    accessCause (signStore s w line mask d) w l store = accessCause s w l store := by
  have mapped : engineMapped (signStore s w line mask d) l = engineMapped s l := by
    unfold engineMapped inDram dramSize
    rw [signStore_mem]
  have passed : winOk (signStore s w line mask d) w l store = winOk s w l store := by
    unfold winOk winTable
    rw [unitGen_signStore, signStore_mem]
  rw [accessCause, mapped, passed, accessCause]

theorem countLine_stores (s : State) (t : PTag) (n : Nat) : (countLine s t n).mem.stores = s.mem.stores := by
  cases t <;> rfl

/-- A store whose line passes waits behind those posted before; no octet changes yet (R401). -/
theorem postStore_of_pass {s : State} {w : Origin} {line mask : Nat} {d : List Byte}
    (h : accessCause s w line true = none) :
    (postStore s w line mask d).2 = true ∧
    (postStore s w line mask d).1.mem.stores = s.mem.stores ++ [{ who := w, line := line, mask := mask, data := d }] ∧
    SameDram s (postStore s w line mask d).1 := by
  have hcount : accessCause (countLine s w.tag 1) w line true = none := by rw [accessCause_countLine, h]
  simp only [postStore, hcount]
  exact ⟨trivial, by rw [countLine_stores], (sameDram_countLine ..).withMem⟩

theorem exec_engineStore_of_pass {s : State} {w : Origin} {a : BitVec 40} (hs : hostHw s = true)
    (ha : accessCause s w (a.toNat / 64 * 64) true = none) (m : BitVec 64) (d : List Byte) :
    exec (.engineStore w a m d) s = .next (postStore (signStore s w (a.toNat / 64 * 64) m.toNat d) w (a.toNat / 64 * 64)
      m.toNat d).1 := by
  have h : exec (.engineStore w a m d) s = execEngineStore w a m d s := rfl
  obtain ⟨posted, -, -⟩ := postStore_of_pass (s := signStore s w (a.toNat / 64 * 64) m.toNat d) (mask := m.toNat) (d := d)
    (by rw [accessCause_signStore, ha])
  simp [h, execEngineStore, hs, posted]

/-! ### Commands that write no octet -/

theorem engineLoad_sameDram {w : Origin} {a : BitVec 40} {n : Nat} {e : EccResult} {s t : State}
    (h : exec (.engineLoad w a n e) s = .next t) : SameDram s t := by
  injection h with h
  subst h
  refine SameDram.ite (.refl s) ?_
  have checked : SameDram s (if n = 0 then s else eccRead s (a.toNat / 64 * 64) e) := .ite (.refl s) (sameDram_eccRead ..)
  have counted := (sameDram_countLine _ w.tag (linesOf a.toNat n).length).comp ((sameDram_engLoad _ w a.toNat n).comp checked)
  exact .ite counted.withMem ((sameDram_of_only (loadFault_only _ _)).comp counted.withMem)

theorem patrolScrub_sameDram {l : BitVec 40} {e : EccResult} {b : Bool} {s t : State}
    (h : exec (.patrolScrub l e b) s = .next t) : SameDram s t := by
  injection h with h
  subst h
  exact .ite (.refl s) (.ite (sameDram_eccRead ..).withMem (sameDram_eccRead ..))

theorem coreLateStoreFault_sameDram {k : Fin 8} {s t : State} (h : exec (.coreLateStoreFault k) s = .next t) :
    SameDram s t := by
  injection h with h
  subst h
  refine .ite (.refl s) ?_
  exact (sameDram_of_only (drawn_only _)).comp ((sameDram_fabFault _ _).comp (sameDram_rasRaise ..))

theorem bandwidthPeriod_sameDram {s t : State} (h : exec .bandwidthPeriod s = .next t) : SameDram s t := by
  injection h with h
  subst h
  exact sameDram_of_mem rfl rfl

theorem kvPrefetch_sameDram {p : Fin 4} {q : Fin 8192} {s t : State} (h : exec (.kvPrefetch p q) s = .next t) :
    SameDram s t := by
  injection h with h
  subst h
  exact .ite (sameDram_kvPrefetchSeq ..) (.refl s)

end Sys2Proof.Laws

open Sys2Proof Sys2Proof.Machine Sys2Proof.Laws

/-- Settles O16: what these commands do to the memory leaves the listed octets and the losses alone. -/
theorem loadsLeaveDramAsItIs : Obligations.LoadsLeaveDramAsItIs := by
  unfold Obligations.LoadsLeaveDramAsItIs
  exact ⟨fun _ _ _ _ _ _ h => (engineLoad_sameDram h).read, fun _ _ _ _ _ h => (patrolScrub_sameDram h).read,
    fun _ _ _ h => (coreLateStoreFault_sameDram h).read, fun _ _ h => (bandwidthPeriod_sameDram h).read,
    fun _ _ _ _ h => (kvPrefetch_sameDram h).read⟩

/-- Settles O15: the lines of a store write octets of its range only, and together all of them. -/
theorem engineStoresChangeTheirOctetsOnly : Obligations.EngineStoresChangeTheirOctetsOnly := by
  unfold Obligations.EngineStoresChangeTheirOctetsOnly
  exact ⟨fun s w _ _ _ hc => dramGet_engStore_outside s w hc, fun _ _ _ _ _ hok hc => dramGet_engStore_inside hok hc⟩

/-- Settles O14: a core store and the merge of a posted store write the octets they name; posting only queues. -/
theorem memoryStoresWriteTheirOctetsOnly : Obligations.MemoryStoresWriteTheirOctetsOnly := by
  unfold Obligations.MemoryStoresWriteTheirOctetsOnly
  refine ⟨?coreStore, fun e p l s hs hp => exec_storeAccept hs hp e, fun e p s c h => dramGet_storeMerged h c, ?posting⟩
  case coreStore =>
    intro b k a n v s hs hm hp hd
    exact ⟨_, exec_registerWrite_dram hs hm hp hd b k v, fun c => dramGet_coreStore ..⟩
  case posting =>
    intro w a m d s hs ha
    obtain ⟨-, posted, same⟩ := postStore_of_pass (s := signStore s w (a.toNat / 64 * 64) m.toNat d) (mask := m.toNat)
      (d := d) (by rw [accessCause_signStore, ha])
    rw [signStore_mem] at posted
    have signed : SameDram s (signStore s w (a.toNat / 64 * 64) m.toNat d) :=
      sameDram_of_only (signStore_only _ _ _ _ _)
    exact ⟨_, exec_engineStore_of_pass hs ha m d, posted, (same.comp signed).read⟩

end

section
/-! Chapter 08, host memory: an access of a block whose registers no chapter gives is refused with the name of the block (log
entry 97). -/

namespace Sys2Proof.Laws

open Machine

/-- The blocks of MMIO whose registers no chapter gives. -/
def unspecifiedBlocks : List String :=
  ["HPOS", "ETH0", "ETH1", "PTP", "PCIE", "EMMC", "XSPI", "I2C", "SPI", "UART", "GPIO", "DBG", "PCIE_CFG", "PCIE_MEM32"]

/-- Every such name falls into the last case of `writeBlock`. -/
theorem writeBlock_of_unspecified {name : String} (h : name ∈ unspecifiedBlocks) (s : State) (hart o v : Nat) :
    writeBlock s name hart o v = none := by
  simp only [unspecifiedBlocks, List.mem_cons, List.not_mem_nil, or_false] at h
  obtain rfl | rfl | rfl | rfl | rfl | rfl | rfl | rfl | rfl | rfl | rfl | rfl | rfl | rfl := h <;> rfl

theorem gal_not_unspecified : "GAL" ∉ unspecifiedBlocks := by decide +kernel

theorem writeWide_of_unspecified {name : String} (h : name ∈ unspecifiedBlocks) (s : State) (hart o size v : Nat) :
    writeWide s name hart o size v = none := by
  have hgal : name ≠ "GAL" := fun e => gal_not_unspecified (e ▸ h)
  simp [writeWide, hgal, writeBlock_of_unspecified h]

/-- None of these blocks is the supervisor's alone. -/
theorem blocks_unspecified_open : ∀ b ∈ mmioBlocks, b.2.2.1 ∈ unspecifiedBlocks → b.2.2.2 = false := by decide +kernel

theorem open_of_unspecified {a : Nat} {b : Nat × Nat × String × Bool} (hb : blockAt a = some b)
    (h : b.2.2.1 ∈ unspecifiedBlocks) : b.2.2.2 = false :=
  blocks_unspecified_open b (List.mem_of_find?_eq_some hb) h

section Block

variable {s : State} {a : BitVec 40} {b : Nat × Nat × String × Bool} (hs : hostHw s = true) (hm : inMmio a.toNat = true)
  (hb : blockAt a.toNat = some b) (hu : b.2.2.1 ∈ unspecifiedBlocks)
include hs hm hb hu

theorem exec_registerWrite_of_unspecified {n : Nat} (hn : n = 4 ∨ n = 8) (ha : a.toNat % n = 0) (p : Bool) (k : Fin 8)
    (v : BitVec 64) : exec (.registerWrite p k a n v) s = .refused (.deviceUnspecified b.2.2.1) := by
  have h : exec (.registerWrite p k a n v) s = execRegisterWrite p k a n v s := rfl
  obtain rfl | rfl := hn
  · simp [h, execRegisterWrite, hs, hm, hb, ha, open_of_unspecified hb hu, writeWide_of_unspecified hu]
  · simp [h, execRegisterWrite, hs, hm, hb, ha, open_of_unspecified hb hu, writeWide_of_unspecified hu]

theorem exec_coreLoad_of_unspecified (ha : a.toNat % 4 = 0) (k : Fin 8) :
    exec (.coreLoad k a) s = .refused (.deviceUnspecified b.2.2.1) := by
  have h : exec (.coreLoad k a) s = execCoreLoad k a s := rfl
  simp [h, execCoreLoad, hs, hm, inMmio_above_rom hm, hb, ha, writeBlock_of_unspecified hu]

end Block

section Window

variable {s : State} {a : BitVec 40} (hs : hostHw s = true) (hm : inMmio a.toNat = false) (hp : inPcie a.toNat = true)
include hs hm hp

theorem exec_registerWrite_of_inPcie (p : Bool) (k : Fin 8) (n : Nat) (v : BitVec 64) :
    exec (.registerWrite p k a n v) s = .refused (.deviceUnspecified "PCIE_MEM64") := by
  have h : exec (.registerWrite p k a n v) s = execRegisterWrite p k a n v s := rfl
  simp [h, execRegisterWrite, hs, hm, hp]

theorem exec_coreLoad_of_inPcie (k : Fin 8) :
    exec (.coreLoad k a) s = .refused (.deviceUnspecified "PCIE_MEM64") := by
  have h : exec (.coreLoad k a) s = execCoreLoad k a s := rfl
  have hrom : ¬ a.toNat < 0x40000 := by
    simp only [inPcie, Bool.and_eq_true, decide_eq_true_eq] at hp
    omega
  simp [h, execCoreLoad, hs, hm, hp, hrom]

end Window

end Sys2Proof.Laws

open Sys2Proof Sys2Proof.Machine Sys2Proof.Laws

/-- Settles O13: no case of `writeBlock` names these blocks, none of them is the supervisor's alone, and the 64-bit window lies
above the ROM. -/
theorem unspecifiedBlocksAreRefusedByName : Obligations.UnspecifiedBlocksAreRefusedByName := by
  unfold Obligations.UnspecifiedBlocksAreRefusedByName
  refine ⟨?write, ?load, ?window⟩
  case write =>
    exact fun p k a n v b s hs hm hn ha hb hu => exec_registerWrite_of_unspecified hs hm hb hu hn ha p k v
  case load => exact fun k a b s hs hm ha hb hu => exec_coreLoad_of_unspecified hs hm hb hu ha k
  case window =>
    exact fun p k a n v s hs hm hp =>
      ⟨exec_registerWrite_of_inPcie hs hm hp p k n v, exec_coreLoad_of_inPcie hs hm hp k⟩

end

section
/-! Chapter 14, Lantern: an event outside the sensor, or before any ROW word, only counts. -/

namespace Sys2Proof.Laws

open Machine

theorem lanEvent_of_no_row {s : State} (h : s.lan.row = none) (on : Bool) (x : Nat) :
    lanEvent s on x = bump s 0x2C10 2 := by rw [lanEvent, h]

theorem lanEvent_of_outside {s : State} {y : Nat} (h : s.lan.row = some y) {x : Nat}
    (ho : objN s 0x2C00 3 ≤ x ∨ objN s 0x2C00 4 ≤ y) (on : Bool) : lanEvent s on x = bump s 0x2C10 2 := by
  simp only [lanEvent, h, if_pos ho]

end Sys2Proof.Laws

open Sys2Proof Sys2Proof.Machine Sys2Proof.Laws

/-- Settles O19: without a row the event counts; with one, each coordinate at or beyond its bound fails the same test. -/
theorem eventsOutsideTheSensorAreCounted : Obligations.EventsOutsideTheSensorAreCounted := by
  unfold Obligations.EventsOutsideTheSensorAreCounted
  intro s on x h
  obtain hnone | hx | ⟨y, hy, hout⟩ := h
  · exact lanEvent_of_no_row hnone on x
  · cases hrow : s.lan.row with
    | none => exact lanEvent_of_no_row hrow on x
    | some y => exact lanEvent_of_outside hrow (.inl hx) on
  · exact lanEvent_of_outside hy (.inr hout) on

end

section
/-! Chapters 16 and 21: the axes after a reset of the field die (R37, R801, R931). -/

namespace Sys2Proof.Laws

open Machine

/-- An axis whose parts but the comparator inputs stand at their reset values. -/
def AxisAtReset (m : Motion) : Prop := ∃ c, m = { cmpIn := c }

/-- Only the comparator inputs of the table of axes come through a reset. -/
theorem axisAtReset_axisInputs (t : Tab Motion) (a : Nat) : AxisAtReset (tget {} (axisInputs t) a) := by
  induction t with
  | nil => exact ⟨_, rfl⟩
  | cons e t ih =>
    unfold axisInputs at ih ⊢
    rw [List.map_cons]
    by_cases hdefault : ({ cmpIn := e.2.cmpIn } : Motion) = {}
    · rwa [List.filter_cons_of_neg (by simpa using hdefault)]
    · rw [List.filter_cons_of_pos (by simpa using hdefault), tget]
      by_cases ha : a = e.1
      · rw [if_pos ha]
        exact ⟨_, rfl⟩
      · rwa [if_neg ha]

/-- An axis at reset has internal STO and drives no torque. -/
theorem still_fieldReset (s : State) (cause : Nat) (a : Nat) :
    (ax (fieldReset s cause) a).internalSto = true ∧ Still (fieldReset s cause) a := by
  obtain ⟨c, hc⟩ : AxisAtReset (ax (fieldReset s cause) a) := axisAtReset_axisInputs _ a
  rw [Still, hc]
  exact ⟨rfl, rfl, by simp⟩

theorem exec_fResetLLow_of_powered {s : State} (hu : s.fboot.mode ≠ .unpowered) (hh : s.fboot.mode ≠ .held) :
    exec .fResetLLow s = .next (fieldReset s 3) :=
  congrArg Host.Outcome.next (if_neg (not_or.mpr ⟨hu, hh⟩))

theorem exec_fieldOnlyResetCommand_of_fieldUp {s : State} (h : fieldUp s = true) :
    exec .fieldOnlyResetCommand s = .next (fieldReset (sdoAnswer s 0x3A40 3 0 []) 4) :=
  congrArg Host.Outcome.next (if_pos h)

/-- Each of the causes that do not come from a command resets the field die (R931, R970, R1029, R1031). -/
theorem exists_fieldReset_of_cause {c : Instr} (hc : c ∈ [Instr.fResetLLow, .fieldVinLow, .fieldVinHigh, .tcxoStop])
    {s : State} (hu : s.fboot.mode ≠ .unpowered) (hh : s.fboot.mode ≠ .held) :
    ∃ u cause, exec c s = .next (fieldReset u cause) := by
  simp only [List.mem_cons, List.not_mem_nil, or_false] at hc
  obtain rfl | rfl | rfl | rfl := hc
  · exact ⟨_, _, exec_fResetLLow_of_powered hu hh⟩
  · exact ⟨_, _, rfl⟩
  · exact ⟨_, _, rfl⟩
  · exact ⟨_, _, rfl⟩

end Sys2Proof.Laws

open Sys2Proof Sys2Proof.Machine Sys2Proof.Laws

/-- Settles O8: every one of the commands ends in a reset of the field die, which keeps of an axis its comparator inputs only. -/
theorem fieldResetLeavesEveryAxisStill : Obligations.FieldResetLeavesEveryAxisStill := by
  unfold Obligations.FieldResetLeavesEveryAxisStill
  refine ⟨?causes, ?command⟩
  case causes =>
    intro c hc s t hu hh hexec a
    obtain ⟨u, cause, hreset⟩ := exists_fieldReset_of_cause hc hu hh
    obtain rfl : fieldReset u cause = t := Host.Outcome.next.inj (hreset.symm.trans hexec)
    exact still_fieldReset u cause a.val
  case command =>
    intro s h
    exact ⟨_, exec_fieldOnlyResetCommand_of_fieldUp h, fun a => still_fieldReset _ _ a.val⟩

end

section
/-! Chapters 20 and 22: temperatures above their limits (R968, R1026, R1027). -/

namespace Sys2Proof.Laws

open Machine

theorem testBit_setBit (v i : Nat) (b : Bool) : (setBit v i b).testBit i = b := by
  cases b with
  | true => exact testBit_setBit_true v i
  | false =>
    have h : setBit v i false = 2 ^ i * (2 * (v / (2 ^ i * 2))) + v % 2 ^ i := by
      simp only [setBit, setBits, b2n, Nat.add_sub_cancel_left, Bool.false_eq_true, if_false, Nat.pow_one, Nat.zero_mod]
      ring
    rw [h, Nat.testBit_two_pow_mul_add _ (Nat.mod_lt _ (Nat.two_pow_pos i))]
    simp

theorem fieldOwned_errorRegister : fieldOwned 0x1001 = true := by decide +kernel

/-- The error register is an object of the field die. -/
theorem errorRegister_of_fobj {s t : State} (h : t.fobj = s.fobj) : objN t 0x1001 0 = objN s 0x1001 0 := by
  simp only [objN, stored, fieldOwned_errorRegister, if_true, h]

theorem errorRegister_bump (s : State) {i k : Nat} (h : okey 0x1001 0 ≠ okey i k) (n : Nat) :
    objN (bump s i k n) 0x1001 0 = objN s 0x1001 0 := objN_bump_other s i k 0x1001 0 n h

theorem errorRegister_emcySend (s : State) (e : Emergency) : objN (emcySend s e) 0x1001 0 = objN s 0x1001 0 := by
  rw [emcySend, errorRegister_bump _ (by decide)]
  rfl

/-- An emergency of the device names no axis, and counts in objects of its own. -/
theorem errorRegister_emcy (s : State) (code detail : Nat) : objN (emcy s code 0xFF detail) 0x1001 0 = objN s 0x1001 0 := by
  simp only [emcy, show ¬ (0xFF < 8) by decide, if_false]
  split
  · exact errorRegister_emcySend _ _
  · split
    · rfl
    · exact errorRegister_bump _ (by decide) _

theorem errorRegister_class2 (s : State) (p : List Byte) : objN (class2 s p) 0x1001 0 = objN s 0x1001 0 := by
  unfold class2
  split
  · exact errorRegister_of_fobj (setEnd_fobj ..)
  · exact errorRegister_bump s (by decide) 1

theorem errorRegister_logField (s : State) (r : FaultRec) : objN (logField s r) 0x1001 0 = objN s 0x1001 0 := by
  rw [logField, errorRegister_class2]
  rfl

theorem errorRegister_stoAll (s : State) : objN (stoAll s) 0x1001 0 = objN s 0x1001 0 :=
  errorRegister_of_fobj (stoAll_only s .fobj (by decide))

theorem errorRegister_errorCleared (old : Nat) (s : State) : objN (errorCleared old s) 0x1001 0 = objN s 0x1001 0 := by
  unfold errorCleared
  split
  · exact errorRegister_emcy s 0 0
  · rfl

/-- A held bit reads back, whether set or cleared, and whatever emergency follows. -/
theorem testBit_errorRegister_errorBit (s : State) {i : Nat} (hi : i < 8) (on : Bool) :
    (objN (errorBit s i on) 0x1001 0).testBit i = on := by
  rw [errorBit, errorRegister_errorCleared, objN_putN, osize_errorRegister, show 256 ^ 1 = 2 ^ 8 from rfl,
    Nat.testBit_mod_two_pow, testBit_setBit, decide_eq_true hi, Bool.true_and]

/-- What a field temperature does beyond the error bit: an over-temperature trips every axis once (R1026). -/
def overTemperature (s : State) (tenths : Int) : State :=
  logField (emcy (stoAll { s with saf := { s.saf with tempSto := true } }) 0x4210 0xFF (ofSigned 32 tenths))
    (mkRec 9 0 (leBytes 2 (Config.eventCode 4).toNat ++ leBytes 4 (ofSigned 32 tenths)) (reaction := 5))

theorem errorRegister_overTemperature (s : State) (tenths : Int) :
    objN (overTemperature s tenths) 0x1001 0 = objN s 0x1001 0 := by
  rw [overTemperature, errorRegister_logField, errorRegister_emcy, errorRegister_stoAll]
  rfl

/-- The state after a field sample, before the limit of R1026 is looked at. -/
def fieldSampled (s : State) (tenths : Int) : State :=
  errorBit (putI s 0x3A50 1 tenths) 3 (decide (gradeMax s - 50 < tenths))

theorem gradeMax_fieldSampled (s : State) (tenths : Int) : gradeMax (fieldSampled s tenths) = gradeMax s := by
  have hgrade : (fieldSampled s tenths).gradeI = s.gradeI :=
    (errorBit_only _ _ _ .gradeI (by decide)).trans (putI_gradeI ..)
  rw [gradeMax, hgrade, gradeMax]

theorem exec_fieldTempSample {s : State} (h : fieldHw s = true) (tenths : Int) : exec (.fieldTempSample tenths) s =
    .next (if gradeMax s + 100 < tenths ∧ (fieldSampled s tenths).saf.tempSto = false then
      overTemperature (fieldSampled s tenths) tenths else fieldSampled s tenths) := by
  have hexec : exec (.fieldTempSample tenths) s =
      .next (if gradeMax (fieldSampled s tenths) + 100 < tenths ∧ (fieldSampled s tenths).saf.tempSto = false then
        overTemperature (fieldSampled s tenths) tenths else fieldSampled s tenths) :=
    congrArg Host.Outcome.next (if_neg (by simp [h]))
  rw [hexec, gradeMax_fieldSampled]

/-- The state after a host sample, before the limit of R968 is looked at. -/
def hostSampled (s : State) (tenths : Int) : State :=
  putI { s with pwr := { s.pwr with
    temp := tenths, thermal := decide (gradeMax s - 50 < tenths) || (s.pwr.thermal && !decide (tenths < gradeMax s - 100)) } }
    0x3621 1 tenths

theorem gradeMax_hostSampled (s : State) (tenths : Int) : gradeMax (hostSampled s tenths) = gradeMax s := by
  rw [gradeMax, hostSampled, putI_gradeI, gradeMax]

theorem exec_hostTempSample {s : State} (hm : s.pwr.mode ≠ .off) (tenths : Int) : exec (.hostTempSample tenths) s =
    .next (if gradeMax s + 100 < tenths then hostOff (hostSampled s tenths) 2 else hostSampled s tenths) := by
  have hexec : exec (.hostTempSample tenths) s =
      .next (if gradeMax (hostSampled s tenths) + 100 < tenths then hostOff (hostSampled s tenths) 2 else
        hostSampled s tenths) := congrArg Host.Outcome.next (if_neg (by simpa using hm))
  rw [hexec, gradeMax_hostSampled]

end Sys2Proof.Laws

open Sys2Proof Sys2Proof.Machine Sys2Proof.Laws

/-- Settles O25: a host sample above the limit turns the die off, and a field sample writes the error bit, which neither the
emergency nor the trip that may follow touches. -/
theorem temperatureLimitsAct : Obligations.TemperatureLimitsAct := by
  unfold Obligations.TemperatureLimitsAct
  refine ⟨?host, ?field⟩
  case host =>
    intro x s hm hx
    refine ⟨hostOff (hostSampled s x) 2, ?_, rfl, rfl, rfl⟩
    rw [exec_hostTempSample hm, if_pos hx]
  case field =>
    intro x s h
    have hbit : (objN (fieldSampled s x) 0x1001 0).testBit 3 = decide (gradeMax s - 50 < x) :=
      testBit_errorRegister_errorBit _ (by decide) _
    refine ⟨_, exec_fieldTempSample h x, ?_⟩
    split
    · rw [errorRegister_overTemperature, hbit, decide_eq_true_iff]
    · rw [hbit, decide_eq_true_iff]

end

section
/-! Chapter 21: the alive interval of the host supervisor (R973). -/

namespace Sys2Proof.Laws

open Machine

/-- A die that runs, boots or recovers takes a reset source while no other waits (R970, R1002). -/
theorem hostAsk_of_taken {s : State} (hm : s.hboot.mode = .running ∨ s.hboot.mode = .rom ∨ s.hboot.mode = .recovery)
    (hp : s.hboot.pending = none) (cause : Nat) :
    hostAsk s cause = { s with hboot := { s.hboot with pending := some cause } } := if_pos ⟨hm, by simp [hp]⟩

theorem hboot_running {s : State} (h : hostUp s = true) : s.hboot.mode = .running := by simpa [hostUp] using h

theorem exec_aliveExpiry_of_missed {s : State} (h : hostUp s = true) (hr : s.hboot.aliveRun = true)
    (hi : objN s 0x2005 1 ≠ 0) : exec .aliveExpiry s = .next (hostAsk s 5) :=
  congrArg Host.Outcome.next (if_pos (by simp [h, hr, hi]))

theorem exec_hostWarmReset_of_pending {s : State} {cause : Nat} (hp : s.hboot.pending = some cause) :
    exec .hostWarmReset s = .next (hostReset s (if s.hboot.full then .full else .warm) cause) := by
  have hexec : exec .hostWarmReset s = execHostWarmReset s := rfl
  rw [hexec, execHostWarmReset, hp]

end Sys2Proof.Laws

open Sys2Proof Sys2Proof.Machine Sys2Proof.Laws

/-- Settles O26: the expiry asks for a reset with cause 5, and the reset that is entered takes the request's cause and ends the
request and the interval. -/
theorem missedAliveIntervalResetsTheHost : Obligations.MissedAliveIntervalResetsTheHost := by
  unfold Obligations.MissedAliveIntervalResetsTheHost
  intro s h hr hi hp hf
  refine ⟨_, _, exec_aliveExpiry_of_missed h hr hi, exec_hostWarmReset_of_pending (cause := 5) ?_, rfl, rfl, rfl⟩
  rw [hostAsk_of_taken (.inl (hboot_running h)) hp]

end

section
/-! Chapter 21: a die without a key accepts no image and no model bundle (R990). -/

namespace Sys2Proof.Laws

open Machine

theorem signedOk_of_no_key {x : Storage} (h : x.keySet = false) (k g m : List Byte) : signedOk x k g m = false := by
  simp [signedOk, h]

theorem slotOk_of_no_key {x : Storage} (h : x.keySet = false) (host : Bool) (f : List Byte) : slotOk host x f = false := by
  simp [slotOk, keyOk, signedOk_of_no_key h]

/-- The choice takes the first acceptable slot of some order, and judges it by the storage it leaves. -/
theorem chooseSlot_slot (host : Bool) (x : Storage) : ∃ order : List Bool, (chooseSlot host x).slot =
    order.find? (fun b => slotOk host (chooseSlot host x).store (slotImage (chooseSlot host x).store b)) := ⟨_, rfl⟩

theorem chooseSlot_of_no_key {x : Storage} (h : x.keySet = false) (host : Bool) : (chooseSlot host x).slot = none := by
  obtain ⟨-, hkey, -⟩ := chooseSlot_otp host x
  obtain ⟨order, horder⟩ := chooseSlot_slot host x
  rw [horder, List.find?_eq_none]
  intro b _
  rw [slotOk_of_no_key (hkey.trans h)]
  exact Bool.false_ne_true

theorem installStatus_of_no_key {x : Storage} (h : x.keySet = false) (host : Bool) (i : List Byte) (stored : Bool) :
    installStatus host x i stored ≠ 2 := by
  have hkey : (!keyOk x i || !bootPartOk i) = true := by simp [keyOk, signedOk_of_no_key h]
  unfold installStatus
  rw [if_pos hkey]
  split
  · decide -- the wrong kind
  · split
    · decide -- the wrong size
    · split <;> decide -- the write failed, or the key

theorem install_status (host : Bool) (x : Storage) (i : List Byte) (stored : Bool) :
    (install host x i stored).2 = installStatus host x i stored := by
  unfold install
  dsimp only
  split <;> rfl

theorem recoverSlot_status (host : Bool) (x : Storage) (i : List Byte) (stored : Bool) :
    (recoverSlot host x i stored).2 = installStatus host x i stored := by
  unfold recoverSlot
  dsimp only
  split <;> rfl

theorem loadCause_of_no_key {s : State} (h : s.hboot.store.keySet = false) (x : Slot) (b : Bundle) (ecc : EccResult) :
    loadCause s x b ecc = 1 := if_pos (by simp [bundleSigned, signedOk_of_no_key h])

theorem loadCause_ne_zero_of_no_key {s : State} (h : s.hboot.store.keySet = false) (x : Slot) (b : Bundle)
    (ecc : EccResult) : loadCause s x b ecc ≠ 0 := by
  rw [loadCause_of_no_key h]
  decide

theorem setSlot_mode (s : State) (n : Nat) (x : Slot) : (mslot (setSlot s n x) n).mode = x.mode := by
  rw [mslot, setSlot, tget_tset_same]

/-- The errors of the load's copy are counted beside the OTP. -/
theorem galEcc_keySet (s : State) (bit : Nat) : (galEcc s bit).hboot.store.keySet = s.hboot.store.keySet :=
  congrArg (fun b : BootState => b.store.keySet) (galEcc_only s bit .hboot (by decide))

theorem slotLoaded_of_no_key {s : State} (h : s.hboot.store.keySet = false) {n : Nat} {b : Bundle}
    (hm : (mslot s n).mode = .loading) (hb : (mslot s n).bundle = some b) (ecc : EccResult) :
    (mslot (slotLoaded s n ecc) n).mode = .failed := by
  unfold slotLoaded
  dsimp only
  rw [hm, hb]
  cases ecc with
  | clean =>
    dsimp only
    rw [if_neg (loadCause_ne_zero_of_no_key h (mslot s n) b _)]
    exact setSlot_mode ..
  | corrected =>
    dsimp only
    rw [if_neg (loadCause_ne_zero_of_no_key ((galEcc_keySet s 2).trans h) (mslot s n) b _)]
    exact setSlot_mode ..
  | uncorrectable =>
    dsimp only
    rw [if_neg (loadCause_ne_zero_of_no_key ((galEcc_keySet s 3).trans h) (mslot s n) b _)]
    exact setSlot_mode ..

theorem exec_modelLoadComplete_of_hostUp {s : State} (h : hostUp s = true) (n : Fin 4) (ecc : EccResult) :
    exec (.modelLoadComplete n ecc) s = .next (slotLoaded s n.val ecc) :=
  congrArg Host.Outcome.next (if_pos h)

end Sys2Proof.Laws

open Sys2Proof Sys2Proof.Machine Sys2Proof.Laws

/-- Settles O27: without a key no signature is in order, so the boot choice finds no slot, a status of an installation is never 2,
and the cause of a load is 1. -/
theorem noKeyMeansNoImageAndNoBundle : Obligations.NoKeyMeansNoImageAndNoBundle := by
  unfold Obligations.NoKeyMeansNoImageAndNoBundle
  refine ⟨?boot, ?install, ?bundle⟩
  case boot => exact fun host x h => chooseSlot_of_no_key h host
  case install =>
    intro host x i stored h
    rw [install_status, recoverSlot_status]
    exact ⟨installStatus_of_no_key h host i stored, installStatus_of_no_key h host i stored⟩
  case bundle =>
    exact fun n ecc b s h hs hm hb => ⟨_, exec_modelLoadComplete_of_hostUp hs n ecc, slotLoaded_of_no_key h hm hb ecc⟩

end

section
/-! Chapter 20, power: what each command of the power unit leaves. -/

namespace Sys2Proof.Laws

open Machine

/-! ### Outcomes of a command that tests a condition -/

theorem next_of_pos {c : Prop} [Decidable c] (h : c) (t u : State) :
    (Host.Outcome.next (if c then t else u) : Out) = .next t := congrArg _ (if_pos h)

theorem next_of_neg {c : Prop} [Decidable c] (h : ¬ c) (t u : State) :
    (Host.Outcome.next (if c then t else u) : Out) = .next u := congrArg _ (if_neg h)

/-! ### Power states -/

/-- No refusal of R949 stands against a request. -/
theorem askLow_of_accepted {s : State} {off : Bool} (h : hostUp s = true) (hp : s.pwr.pendingWatch = none)
    (hb : watchBlocked s = false) (hw : off = true ∨ objN s 0x3620 1 % 32 ≠ 0) :
    askLow s off = ropeSend { s with pwr := { s.pwr with pendingWatch := some off, wakePending := false, wakeBits := 0 } } .host
      (mkFrame 3 1 0 (leBytes 2 0x3602 ++ [1, 2, 0, 0, 0, 0] ++ leBytes 1 (if off then 3 else 2))) := by
  have hsource : (!off && decide (objN s 0x3620 1 % 32 = 0)) = false := by
    obtain rfl | hne := hw
    · rfl
    · simp [hne]
  exact if_neg (by simp [h, hp, hb, hsource])

theorem askIdle_fst_of_hostUp {s : State} (h : hostUp s = true) (hc : (reg s bCOMP).testBit 0 = false) :
    (askIdle s).1 = if Config.freeBool s.freeCtr then drawn s else
      drawn (putN (displayOff { s with pwr := { s.pwr with mode := .inspectIdle } }) 0x3602 1 1) := by
  rw [askIdle, if_neg (by simp [h, hc])]
  split <;> rfl

theorem wakeSource_of_watch {s : State} {b : Nat} (hm : s.hboot.mode = .watch) (hb : (objN s 0x3620 1).testBit b = true) :
    wakeSource s b = wakeUp s (2 ^ b) := by
  rw [wakeSource, if_neg (by simp [hb]), if_pos hm]

end Sys2Proof.Laws

open Sys2Proof Sys2Proof.Machine Sys2Proof.Laws
/-- Settles O28: each hypothesis meets the test of its command; no refusal of R949 stands against the requests, and a wake source
acts at once in LANTERN-WATCH. -/
theorem powerRowsComplete : Obligations.PowerRowsComplete := by
  unfold Obligations.PowerRowsComplete
  refine ⟨?meterSample, ?governorTick, ?governorDeltaP, ?active, ?inspectIdle, ?lanternWatch, ?off, ?consentRequest, ?consentReply,
    ?beacon, ?wakePin, ?wakeTimer, ?wakeCommand, ?fieldBeacon, ?railFailure, ?railLoss, ?meterSense, ?hostTemp, ?fieldTemp⟩
  case meterSample => exact fun mw s h => next_of_neg (by simpa using h) _ _
  case governorTick => exact fun s h => next_of_pos h _ _
  case governorDeltaP =>
    intro l a n s hr hn
    have hexec : exec .governorDeltaP s = .next (recordDelta s) := rfl
    simp only [hexec, recordDelta, hr, if_pos hn]
  case active => exact fun s h => next_of_pos h _ _
  case inspectIdle => exact fun s h hc => congrArg _ (askIdle_fst_of_hostUp h hc)
  case lanternWatch => exact fun s h hp hb hw => congrArg _ (askLow_of_accepted h hp hb (.inr hw))
  case off => exact fun s h hp hb => congrArg _ (askLow_of_accepted h hp hb (.inl rfl))
  case consentRequest =>
    intro f t s ht hf
    have hexec : exec .watchConsentRequest s = execWatchConsentRequest s := rfl
    rw [hexec, execWatchConsentRequest, ht]
    refine (next_of_neg (by simp [hf]) _ _).trans (congrArg _ ?_)
    simp only [Bool.and_eq_true, decide_eq_true_eq]
  case consentReply =>
    intro f o t s ht hh hp
    have hexec : exec .watchConsentReply s = execWatchConsentReply s := rfl
    simp only [hexec, execWatchConsentReply, ht, hh, hp, Bool.not_true, Bool.false_eq_true, if_false]
  case beacon => exact fun s hf hb hm => (next_of_pos hf _ _).trans (congrArg _ (wakeSource_of_watch hm hb))
  case wakePin =>
    exact fun s hm hb => (next_of_neg (by simp [hm]) _ _).trans (congrArg _ (wakeSource_of_watch hm hb))
  case wakeTimer => exact fun s ht hb hm => (next_of_neg ht _ _).trans (congrArg _ (wakeSource_of_watch hm hb))
  case wakeCommand => exact fun s hf ho => next_of_pos (by simp [hf, ho]) _ _
  case fieldBeacon => exact fun s hf hh hl => next_of_pos (by simp [hf, hh, hl]) _ _
  case railFailure =>
    intro r s hr
    have hr' : ¬ (!railRises s r.val) = true := by simp [hr]
    exact ⟨fun h0 => (next_of_neg hr' _ _).trans (congrArg _ (if_pos h0)),
      fun h0 => (next_of_neg hr' _ _).trans (congrArg _ (if_neg h0))⟩
  case railLoss => exact fun r s hm hg hb => next_of_pos ⟨hm, hg, hb⟩ _ _
  case meterSense =>
    intro d s hm hd
    have hlevel : ¬ (d.val = 0 ∧ s.pwr.level < 3) := by omega
    exact (next_of_neg (by simpa using hm) _ _).trans (congrArg _ (if_neg hlevel))
  case hostTemp =>
    intro t s hm ht
    rw [exec_hostTempSample hm, if_neg (not_lt.mpr ht)]
    rfl
  case fieldTemp =>
    intro t s h ht
    rw [exec_fieldTempSample h, if_neg fun hc => absurd hc.1 (not_lt.mpr ht)]
    rfl

end

section
/-! Chapters 20 to 22: what supplies, crystals and reset pins leave. -/

namespace Sys2Proof.Laws

open Machine

/-- The last hold on a die that ends lets its boot ROM run. -/
theorem fieldUnheld_of_held {s : State} {bit : Nat} (h : s.fboot.hold.testBit bit = true) :
    fieldUnheld s bit = if setBit s.fboot.hold bit false = 0 then
      { fieldHold s bit false with fboot := { (fieldHold s bit false).fboot with mode := .rom } }
    else fieldHold s bit false := if_neg (by simp [h])

end Sys2Proof.Laws

open Sys2Proof Sys2Proof.Machine Sys2Proof.Laws

/-- Settles O29: each hypothesis meets the test of its command. -/
theorem pinRowsComplete : Obligations.PinRowsComplete := by
  unfold Obligations.PinRowsComplete
  refine ⟨?powerOn, ?hostVinRise, ?hostVinLow, ?hostVinHigh, fun s => rfl, ?hostCrystalStop, ?hostCrystalRestart, fun s => rfl,
    ?fieldVinRise, fun s => rfl, ?fieldVinHighRelease, fun s => rfl, ?tcxoRestart, ?hResetLLow, ?fResetLLow⟩
  case powerOn => exact fun hb m0 m1 s => ⟨_, rfl, rfl, rfl, rfl, rfl, rfl, rfl, rfl, rfl, rfl, rfl, rfl⟩
  case hostVinRise =>
    intro s h
    refine next_of_pos ?_ _ _
    obtain h | h | h := h <;> simp [h]
  case hostVinLow => exact fun s h => next_of_neg h _ _
  case hostVinHigh => exact fun s h => next_of_neg h _ _
  case hostCrystalStop => exact fun s h => next_of_neg h _ _
  case hostCrystalRestart => exact fun s h => next_of_pos h _ _
  case fieldVinRise => exact fun s h => congrArg _ (fieldUnheld_of_held h)
  case fieldVinHighRelease => exact fun s h => congrArg _ (fieldUnheld_of_held h)
  case tcxoRestart => exact fun s h => congrArg _ (fieldUnheld_of_held h)
  case hResetLLow => exact fun s hm hp => congrArg _ (hostAsk_of_taken hm hp 3)
  case fResetLLow => exact fun s hu hh => exec_fResetLLow_of_powered hu hh

end

section
/-! Chapter 21: what resets, boots, images and the alive command leave. -/

namespace Sys2Proof.Laws

open Machine

theorem hostAsk_full_of_taken {s : State} (hm : s.hboot.mode = .running ∨ s.hboot.mode = .rom ∨ s.hboot.mode = .recovery)
    (hp : s.hboot.pending = none) : (if (hostAsk s 7).hboot.pending.isSome then
      { hostAsk s 7 with hboot := { (hostAsk s 7).hboot with full := true } } else hostAsk s 7) =
    { s with hboot := { s.hboot with pending := some 7, full := true } } := by
  rw [hostAsk_of_taken hm hp]
  rfl

/-- The value 1 commits a running trial (R988). -/
theorem commitWrite_of_trial {b : BootState} (h : b.trial = true) : commitWrite b 1 = (commitTrial b, 0) := if_pos h

/-- The key of R997 overrides an outcome of 2. -/
theorem overrideWrite_of_key {s : State} (h : s.link.outcome = 2) :
    overrideWrite s 0x4F565244 = (putN s 0x3A40 1 0x4F565244, 0) := if_neg (not_not.mpr h)

end Sys2Proof.Laws

open Sys2Proof Sys2Proof.Machine Sys2Proof.Laws

/-- Settles O30: each hypothesis meets the test of its command; a die that runs, boots or recovers takes the first reset source. -/
theorem resetRowsComplete : Obligations.ResetRowsComplete := by
  unfold Obligations.ResetRowsComplete
  refine ⟨?warmReset, ?resetRequest, ?fieldOnly, ?fullCommand, ?fullRequest, ?fullDelay, ?alive, ?aliveExpiry, ?bootLimit, ?supervisor,
    ?commitHost, ?commitField, ?install, ?override, ?hostBoot, ?fieldBoot⟩
  case warmReset => exact fun c s hp => exec_hostWarmReset_of_pending hp
  case resetRequest =>
    intro s h hp
    have hask : hostAsk s 6 = _ := hostAsk_of_taken (.inl (hboot_running h)) hp 6
    refine (next_of_pos h _ _).trans ?_
    rw [← hask]
    rfl
  case fieldOnly => exact fun s h => exec_fieldOnlyResetCommand_of_fieldUp h
  case fullCommand =>
    intro s h ha
    refine (next_of_pos h _ _).trans ?_
    rw [fullResetWrite, if_neg (by simp [ha])]
  case fullRequest =>
    intro f t s ht hm hp
    have hexec : exec .fullResetRequest s = execFullResetRequest s := rfl
    rw [hexec, execFullResetRequest, ht]
    exact congrArg _ (hostAsk_full_of_taken hm hp)
  case fullDelay =>
    intro c n s hc hn hle
    have hexec : exec .fullResetDelayExpiry s = execFullResetDelayExpiry s := rfl
    rw [hexec, execFullResetDelayExpiry, hc, hn]
    exact next_of_pos hle _ _
  case alive => exact fun v s h => next_of_pos h _ _
  case aliveExpiry =>
    intro s h hr hi hp
    rw [exec_aliveExpiry_of_missed h hr hi, hostAsk_of_taken (.inl (hboot_running h)) hp]
  case bootLimit => exact fun s hl hm hp => (next_of_pos hl _ _).trans (congrArg _ (hostAsk_of_taken hm hp 9))
  case supervisor => exact fun s hm hp => congrArg _ (hostAsk_of_taken hm hp 4)
  case commitHost =>
    intro s h ht
    have hexec : exec (.commitHostTrial 1) s = execCommitHostTrial 1 s := rfl
    rw [hexec, execCommitHostTrial, if_pos h, show (1 : Byte).toNat = 1 from rfl, commitWrite_of_trial ht]
  case commitField =>
    intro s h ht
    have hexec : exec (.commitFieldTrial 1) s = execCommitFieldTrial 1 s := rfl
    rw [hexec, execCommitFieldTrial, if_pos h, show (1 : Byte).toNat = 1 from rfl, commitWrite_of_trial ht]
  case install =>
    intro a k s h hd
    have hexec : exec (.installHostImage a k) s = execInstallHostImage a k s := rfl
    have hmapped : engineMapped s a.toNat = true := hd
    rw [hexec, execInstallHostImage, if_pos h, if_pos hmapped]
  case override =>
    intro s h ho
    have hexec : exec (.motionOverrideWrite 0x4F565244) s = execMotionOverrideWrite 0x4F565244 s := rfl
    rw [hexec, execMotionOverrideWrite, if_pos h, show (0x4F565244 : BitVec 32).toNat = 0x4F565244 from rfl,
      overrideWrite_of_key ho]
  case hostBoot =>
    intro d k b s hm hb hc
    have hexec : exec (.hostBoot d k) s = execHostBoot d k s := rfl
    rw [hexec, execHostBoot, if_neg (not_not.mpr hm), if_neg hb]
    dsimp only
    rw [hc]
  case fieldBoot =>
    intro b s hm hc
    have hexec : exec .fieldBoot s = execFieldBoot s := rfl
    rw [hexec, execFieldBoot, if_neg (not_not.mpr hm)]
    dsimp only
    rw [hc]

end

section
/-! Chapters 04, 18 and 21: what errors, safety mechanisms and level frames leave. -/

open Sys2Proof Sys2Proof.Machine Sys2Proof.Laws

/-- Settles O31: each hypothesis meets the test of its command, and a command that names a die takes the branch of that die. -/
theorem safetyRowsComplete : Obligations.SafetyRowsComplete := by
  unfold Obligations.SafetyRowsComplete
  refine ⟨?levels, ?hostBeat, ?fieldBeat, ?partner, ?halt, ?lockstep, ?watchdog, ?sram, ?flash, ?debugger⟩
  case levels =>
    intro f t s hr hd
    have hdue : ¬ (!(ropeUp s && s.link.levelsDue)) = true := by simp [hr, hd]
    have hexec (d : Die) : exec (.levelsFrame d) s = execLevelsFrame d s := rfl
    refine ⟨fun ht => ?_, fun ht => ?_⟩
    · rw [hexec, execLevelsFrame, if_neg hdue, ht]
    · rw [hexec, execLevelsFrame, if_neg hdue, ht]
  case hostBeat => exact fun s hf ht hl ho => next_of_pos (by simp [hf, ht, hl, ho]) _ _
  case fieldBeat => exact fun s hh ht hl => next_of_pos (by simp [hh, ht, hl]) _ _
  case partner =>
    intro s hf hh
    exact ⟨fun hw hl => next_of_pos (by simp [hf, hw, hl]) _ _, fun hw hl => next_of_pos (by simp [hh, hw, hl]) _ _⟩
  case halt => exact fun s h => next_of_pos h _ _
  case lockstep => exact fun s h => next_of_pos h _ _
  case watchdog => exact fun s h hw => next_of_pos (by simp [h, hw]) _ _
  case sram => exact fun a s h => next_of_neg (by simp [h]) _ _
  case flash =>
    intro r t s h hu
    refine ⟨?_, exec_faultLogFlashWrite_false h hu⟩
    have hexec : exec (.faultLogFlashWrite true) s = execFaultLogFlashWrite true s := rfl
    simp only [hexec, execFaultLogFlashWrite, h, hu, if_true]
  case debugger => exact fun s => ⟨fun h => next_of_neg (by simp [h]) _ _, fun h => next_of_neg (by simp [h]) _ _⟩

end

section
/-! Chapter 02, line position: what each command of the position unit leaves. -/

namespace Sys2Proof.Laws

open Machine

/-! ### Edges of the line encoder -/

/-- Levels that stay the same are written back as they were. -/
theorem lineLevels_unchanged (s : State) : { s with pos := { s.pos with lvlA := s.pos.lvlA, lvlB := s.pos.lvlB } } = s := rfl

/-- With the source at the encoder and both inputs stable for the filter's length, the levels are the new ones (R50 to R52). -/
theorem exec_lineEncoderEdge_of_stable {s : State} {m n : Nat} (h : fieldHw s = true) (hsource : objN s 0x2201 1 = 0)
    (hm : objN s 0x2201 2 ≤ m) (hn : objN s 0x2201 2 ≤ n) (a b : Bool) : exec (.lineEncoderEdge a b m n) s =
    .next (let u := { s with pos := { s.pos with lvlA := a, lvlB := b } }
      if a != s.pos.lvlA && b != s.pos.lvlB then quadratureError u
      else if a != s.pos.lvlA then countEdge u (a != b)
      else if b != s.pos.lvlB then countEdge u (a == b)
      else u) := by
  have hexec : exec (.lineEncoderEdge a b m n) s = execLineEncoderEdge a b m n s := rfl
  have hfollower : follower s = false := by simp [follower, hsource]
  simp only [hexec, execLineEncoderEdge, filtered, if_pos hm, if_pos hn, h, hfollower, hsource, Bool.not_true,
    Bool.false_eq_true, zero_ne_one, if_false]

/-! ### Fractions -/

theorem hostHw_fieldFraction (s : State) : hostHw (fieldFraction s) = hostHw s := by
  rw [hostHw, fieldFraction_only s .hboot (by decide), hostHw]

theorem link_fieldFraction (s : State) : (fieldFraction s).link = s.link := fieldFraction_only s .link (by decide)

end Sys2Proof.Laws

open Sys2Proof Sys2Proof.Machine Sys2Proof.Laws

/-- Settles O32: each hypothesis meets the test of its command; the four clauses of an edge are the four ways in which the two
levels can change. -/
theorem positionRowsComplete : Obligations.PositionRowsComplete := by
  unfold Obligations.PositionRowsComplete
  refine ⟨?edge, ?entryPush, ?fraction, ?pulse, ?standstill, ?replicaEdge, ?stateFrame, ?frameTimeout, ?sample, ?followerEdge,
    ?sampleTimeout, ?lineBreak, ?valid, ?estimated, ?index, ?expectation⟩
  case edge =>
    intro a b m n s h hsource hm hn
    rw [exec_lineEncoderEdge_of_stable h hsource hm hn]
    refine ⟨fun ha hb => ?_, fun ha hb => ?_, fun ha hb => ?_, fun ha hb => ?_⟩
    · subst hb
      simp [ha]
    · subst ha
      simp [hb]
    · simp [ha, hb]
    · subst ha hb
      simp
  case entryPush =>
    intro f t s ht hh
    have hexec : exec .hostEntryPush s = execHostEntryPush s := rfl
    rw [hexec, execHostEntryPush, ht]
    exact next_of_pos hh _ _
  case fraction =>
    intro s hf hh hl
    have hexec : exec .fractionTick s = execFractionTick s := rfl
    simp only [hexec, execFractionTick, hf, hostHw_fieldFraction, link_fieldFraction, hh, hl, Bool.and_self, if_true]
  case pulse =>
    intro pin p s hp
    have hexec : exec (.pulseUsEnd pin) s = execPulseUsEnd pin s := rfl
    rw [hexec, execPulseUsEnd, hp]
  case standstill => exact fun s hm => next_of_pos hm _ _
  case replicaEdge => exact fun b s hh hl hb => next_of_pos (by simp [hh, hl, hb]) _ _
  case stateFrame =>
    intro r f s hh hl hr
    have hexec : exec (.stateFrame r) s = execStateFrame r s := rfl
    rw [hexec, execStateFrame, if_neg (by simp [hh, hl]), hr]
  case frameTimeout => exact fun s hh => next_of_pos hh _ _
  case sample =>
    intro s hf hfollow h0
    have hexec : exec .followerSample s = execFollowerSample s := rfl
    rw [hexec, execFollowerSample, if_neg (by simp [hf, hfollow]), h0]
  case followerEdge =>
    intro s hf hm hfwd hahead
    have hexec : exec .followerSyntheticEdge s = execFollowerSyntheticEdge s := rfl
    rw [hexec, execFollowerSyntheticEdge, if_pos (by simp [hf, hm]), hfwd]
    exact next_of_pos hahead _ _
  case sampleTimeout => exact fun s hf hfollow => next_of_pos (by simp [hf, hfollow]) _ _
  case lineBreak => exact fun s hf hfollow => next_of_pos (by simp [hf, hfollow]) _ _
  case valid =>
    exact fun s hf hfollow hok => (next_of_pos (by simp [hf, hfollow]) _ _).trans (next_of_neg (by simp [hok]) _ _)
  case estimated => exact fun s hf hm hv => next_of_pos (by simp [hf, hm, hv]) _ _
  case index => exact fun n s hf hn => next_of_pos (by simp [hf, hn]) _ _
  case expectation =>
    intro c s hf hc he hm hr hlt
    push_cast at hlt
    have hexec : exec .expectationMiss s = execExpectationMiss s := rfl
    rw [hexec, execExpectationMiss, hc]
    dsimp only
    rw [hr, if_neg Bool.false_ne_true]
    exact next_of_neg (by simp [hf, he, hm, hlt]) _ _

end

section
/-! Chapter 03, network time: what each command of the clocks, the SYNC and LATCH units and the time events leaves. -/

open Sys2Proof Sys2Proof.Machine Sys2Proof.Laws

/-- Settles O33: each hypothesis meets the test of its command, and a command that names a clock takes the branch of that clock. -/
theorem timeRowsComplete : Obligations.TimeRowsComplete := by
  unfold Obligations.TimeRowsComplete
  refine ⟨?fieldTick, ?hostTick, ?replicaTick, ?drift, ?offset, ?slew, ?ptp, ?clockLoss, ?holdover, ?pulseEnd, ?sync0, ?sync1, ?latch,
    ?ppsSecond, ?ppsEnd, ?timeEvent, ?linkLoss⟩
  case fieldTick => exact fun s h => next_of_pos h _ _
  case hostTick =>
    intro s h
    have hexec : exec .hostPtpTick s = execHostPtpTick s := rfl
    have htick : hostHw (lanternTick s) = true := by
      rwa [hostHw, lanternTick_only s .hboot (by decide), ← hostHw]
    simp only [hexec, execHostPtpTick, h, Bool.true_or, if_true, htick]
  case replicaTick => exact fun s h => next_of_pos h _ _
  case drift => exact fun r s h => next_of_pos h _ _
  case offset => exact fun v s h => next_of_pos h _ _
  case slew =>
    intro q s hq hlt
    have hexec : exec .slewEnd s = execSlewEnd s := rfl
    rw [hexec, execSlewEnd, hq]
    exact next_of_pos hlt _ _
  case ptp => exact fun m s h hsel => next_of_pos (by simp [h, hsel]) _ _
  case clockLoss => exact fun s hf hh => ⟨next_of_pos hf _ _, next_of_pos hh _ _⟩
  case holdover => exact fun s h hm hr => next_of_pos (by simp [h, hm, hr]) _ _
  case pulseEnd => exact fun s => ⟨fun h => next_of_pos h _ _, fun h => next_of_pos h _ _⟩
  case sync0 =>
    intro g s h hg hle hsample
    have hexec : exec .sync0Edge s = execSync0Edge s := rfl
    rw [hexec, execSync0Edge, hg]
    refine (next_of_pos (by simp [h, hle]) _ _).trans (congrArg (fun u => Host.Outcome.next (syncRephase u 0 g _)) ?_)
    exact if_neg (Bool.eq_false_iff.mp hsample)
  case sync1 =>
    intro g s h hg hle
    have hexec : exec .sync1Edge s = execSync1Edge s := rfl
    rw [hexec, execSync1Edge, hg]
    exact next_of_pos (by simp [h, hle]) _ _
  case latch => exact fun i r s h => next_of_pos h _ _
  case ppsSecond =>
    exact fun s => ⟨fun h hle => next_of_pos (by simp [h, hle]) _ _, fun h hle => next_of_pos (by simp [h, hle]) _ _⟩
  case ppsEnd => exact fun s => ⟨fun h => next_of_pos h _ _, fun h => next_of_pos h _ _⟩
  case timeEvent => exact fun n s h ha hp => next_of_pos (by simp [h, ha, hp]) _ _
  case linkLoss => exact fun s h => next_of_pos h _ _

end

section
/-! Chapter 04, Rope: what each command of the link, its frames and its heartbeats leaves. -/

open Sys2Proof Sys2Proof.Machine Sys2Proof.Laws

/-- Settles O34: each hypothesis meets the test of its command, and a command that looks for a frame finds the one named. -/
theorem ropeRowsComplete : Obligations.RopeRowsComplete := by
  unfold Obligations.RopeRowsComplete
  refine ⟨?transmit, ?receive, ?linkFrame, ?ackDue, ?credits, ?replay, ?pairFault, ?retrainReq, fun p s _ => rfl, ?attempt, ?linkUp,
    ?tallyLock, ?tallyLoss, ?fieldSend, ?hostSend, ?hostBeat, ?fieldBeat, ?loads, ?hostPair, ?ptpConfig, ?fire⟩
  case transmit => exact fun d s h => next_of_pos h _ _
  case receive => exact fun d r s h => next_of_pos h _ _
  case linkFrame =>
    intro d f t s h ht
    have hexec : exec (.linkFrame d) s = execLinkFrame d s := rfl
    rw [hexec, execLinkFrame, if_neg (by simp [h]), ht]
  case ackDue => exact fun d s h hrun => next_of_pos (by simp [h, hrun]) _ _
  case credits =>
    intro d f t s ht
    have hexec : exec (.creditReturn d) s = execCreditReturn d s := rfl
    rw [hexec, execCreditReturn, ht]
  case replay => exact fun d s h => next_of_pos h _ _
  case pairFault => exact fun p s hm hp => next_of_neg (by simp [hm, hp]) _ _
  case retrainReq =>
    intro w m f t s hh hm ht
    have hexec (b : Bool) : exec (.retrainReqFrame w m b) s = execRetrainReqFrame w m b s := rfl
    have hup : t.link.mode = .up := by rw [takeControl_of ht .link (by decide), hm]
    refine ⟨?_, ?_⟩
    · rw [hexec, execRetrainReqFrame, if_neg (by simp [hh]), ht]
      exact next_of_neg (by simp [hup]) _ _
    · rw [hexec, execRetrainReqFrame, if_neg (by simp [hh]), ht]
      exact next_of_pos (.inr rfl) _ _
  case attempt =>
    intro p s hf hh hm hp hb
    refine next_of_pos ?_ _ _
    simpa [hf, hh, hm] using And.intro hp hb
  case linkUp =>
    intro p d s hf hh hm
    refine next_of_pos ?_ _ _
    simpa [hf, hm] using hh
  case tallyLock => exact fun d s hf hh => next_of_pos (by simp [hf, hh]) _ _
  case tallyLoss => exact fun s h => next_of_pos h _ _
  case fieldSend => exact fun s hf hm => next_of_pos (by simp [hf, hm]) _ _
  case hostSend => exact fun s hh hm => ⟨_, rfl, next_of_pos (by simp [hh, hm]) _ _⟩
  case hostBeat =>
    intro f t s ht hf
    have hexec : exec .hostHeartbeatReceive s = execHostHeartbeatReceive s := rfl
    rw [hexec, execHostHeartbeatReceive, ht]
    exact next_of_pos hf _ _
  case fieldBeat =>
    intro f t s ht hh
    have hexec : exec .fieldHeartbeatReceive s = execFieldHeartbeatReceive s := rfl
    rw [hexec, execFieldHeartbeatReceive, ht]
    exact next_of_neg (by simp [hh]) _ _
  case loads => exact fun s hc hl => next_of_pos (by simp [hc, hl]) _ _
  case hostPair =>
    intro f t s ht hh
    have hexec : exec .hostPairPush s = execHostPairPush s := rfl
    rw [hexec, execHostPairPush, ht]
    exact next_of_neg (by simp [hh]) _ _
  case ptpConfig =>
    intro f t s ht hh
    have hexec : exec .ptpConfigPush s = execPtpConfigPush s := rfl
    rw [hexec, execPtpConfigPush, ht]
    exact next_of_pos hh _ _
  case fire =>
    intro n p e l s hl hc
    have hexec : exec .fireReport s = execFireReport s := rfl
    rw [hexec, execFireReport, hl]
    exact next_of_pos hc _ _

end

section
/-! Chapters 05 and 07: what each command of the object dictionary, the mailbox and the dictionary port leaves. -/

namespace Sys2Proof.Laws

open Machine

theorem exec_readRequestReceive_of_short {s t : State} {q : DictReq} (hq : takeRequest s 3 [1, 4] = some (t, q))
    (ho : fieldOwned q.index = true) (hlen : (readAny t q.index q.sub q.complete).2.length ≤ 248) :
    exec .readRequestReceive s = .next (fieldResponse t 3 q.tag q.index q.sub 1
      (readAny t q.index q.sub q.complete).1 (readAny t q.index q.sub q.complete).2) := by
  have hexec : exec .readRequestReceive s = execReadRequestReceive s := rfl
  rw [hexec, execReadRequestReceive, hq]
  dsimp only
  rw [if_pos ho, cut_short _ hlen]
  rfl

theorem exec_postedWriteReceive_of_last {s t u : State} {q : DictReq} {c : Nat} (hq : takeRequest s 3 [3, 6] = some (t, q))
    (hsafe : safeObj q.index q.sub = false) (hl : q.last = true)
    (hw : writeAny (segmentIn t q) .port .nobody q.index q.sub q.complete (segmentsOf t q ++ q.data) = (u, some c)) :
    exec .postedWriteReceive s = .next (if c = 0 then u else lateReject u q.tag q.index q.sub c) := by
  have hexec : exec .postedWriteReceive s = execPostedWriteReceive s := rfl
  rw [hexec, execPostedWriteReceive, hq]
  dsimp only
  rw [if_neg (by simp [hl]), if_neg (by simp [hsafe]), hw]

/-- A request of the host master that finds a free slot enters it (R250, R255, R1047). -/
theorem exec_forwardedRequestArrival_of_free {s t : State} {f : Frame} {d : List Byte} {n : Nat} {l : List Nat}
    (hf : takeIn s .host isForward = some (f, t)) (hh : hostUp s = true) (hp : portRunning s = true) (hd : d2hFree s = true)
    (hs : forwardSofar t f = some d) (hn : freeSlots t = n :: l) :
    exec .forwardedRequestArrival s = .next (forwardIn
      { t with fwdValue := if (forwardReq f d.length).segment && !(forwardReq f d.length).last then
                 some ((f.tag + 1) % 0x8000, some (d ++ (forwardReq f d.length).data)) else none }
      n f.tag (forwardReq f d.length) (d ++ (forwardReq f d.length).data) none) := by
  have hexec : exec .forwardedRequestArrival s = execForwardedRequestArrival s := rfl
  rw [hexec, execForwardedRequestArrival, hf]
  dsimp only
  rw [if_neg (by simp [hh, hp, hd]), hs, hn]
  rfl

end Sys2Proof.Laws

open Sys2Proof Sys2Proof.Machine Sys2Proof.Laws

/-- Settles O35: each hypothesis meets the test of its command, and a command that looks for a request or a frame finds the one
named. -/
theorem dictionaryRowsComplete : Obligations.DictionaryRowsComplete := by
  unfold Obligations.DictionaryRowsComplete
  refine ⟨?posted, ?confirmed, ?readRequest, ?download, ?upload, ?downloadSegment, ?uploadSegment, ?unknown, ?odList, ?objectInfo,
    ?entryInfo, ?mailbox, ?forwardAnswer, ?forwarded, ?forwardTimeout, ?record, ?faultRecord, ?stationAlias, ?status⟩
  case posted =>
    intro q t s hq hsafe
    refine ⟨fun hl => ?_, fun hl u c hw => exec_postedWriteReceive_of_last hq hsafe hl hw⟩
    have hexec : exec .postedWriteReceive s = execPostedWriteReceive s := rfl
    rw [hexec, execPostedWriteReceive, hq]
    exact next_of_pos (by simp [hl]) _ _
  case confirmed =>
    intro c q t s hq
    have hexec : exec (.confirmedWriteReceive c) s = execConfirmedWriteReceive c s := rfl
    refine ⟨fun hl ho => ?_, fun hl => ?_⟩
    · rw [hexec, execConfirmedWriteReceive, hq]
      dsimp only
      rw [if_pos ho, if_pos rfl, if_pos (by simp [hl])]
    · rw [hexec, execConfirmedWriteReceive, hq]
      exact next_of_neg (by simp [hl]) _ _
  case readRequest => exact fun q t s hq ho hlen => exec_readRequestReceive_of_short hq ho hlen
  case download =>
    intro i k d s hc ho hw
    have hexec : exec (.sdoDownload i k false d.length d) s = execSdoDownload i k false d.length d s := rfl
    rw [hexec, execSdoDownload]
    dsimp only
    rw [if_neg (by simp [hc]), if_neg (lt_irrefl _), if_pos ho, if_neg (lt_irrefl _), settle, hw]
    rfl
  case upload =>
    intro i k c s hc ho hr
    have hexec : exec (.sdoUpload i k c) s = execSdoUpload i k c s := rfl
    rw [hexec, execSdoUpload]
    dsimp only
    rw [if_neg (by simp [hc]), if_pos ho, if_pos hr]
  case downloadSegment =>
    intro t d s hc ht hu ho hlen
    have hexec : exec (.sdoDownloadSegment t.toggle false d) s = execSdoDownloadSegment t.toggle false d s := rfl
    have hfits : ¬ (t.total < (t.data ++ d).length ∨ (false = true ∧ (t.data ++ d).length < t.total)) := by
      simp only [Bool.false_eq_true, false_and, or_false]
      exact not_lt.mpr hlen
    rw [hexec, execSdoDownloadSegment, if_neg (by simp [hc]), ht]
    dsimp only
    rw [if_neg (by simp [hu]), if_neg (not_not.mpr rfl), if_neg hfits, if_pos ho]
    rfl
  case uploadSegment =>
    intro t s hc ht hu
    have hexec : exec (.sdoUploadSegment t.toggle) s = execSdoUploadSegment t.toggle s := rfl
    rw [hexec, execSdoUploadSegment, if_neg (by simp [hc]), ht]
    dsimp only
    rw [if_neg (by simp [hu]), if_neg (not_not.mpr rfl)]
  case unknown => exact fun b t s hc ht => exec_sdoUnknownSpecifier_of_transfer hc ht b
  case odList => exact fun s hc => next_of_neg (by simp [hc]) _ _
  case objectInfo =>
    intro i s hc ho hr
    refine (next_of_neg (by simp [hc]) _ _).trans (congrArg _ ?_)
    exact (if_pos ho).trans (if_pos hr)
  case entryInfo =>
    intro i k r s hc ho hr
    have hexec : exec (.sdoInfoEntryDescription i k) s = execSdoInfoEntryDescription i k s := rfl
    rw [hexec, execSdoInfoEntryDescription]
    dsimp only
    rw [if_neg (by simp [hc]), if_pos ho, hr]
  case mailbox =>
    intro p s hf hal h3 h4
    refine next_of_pos ?_ _ _
    simpa [hf, hal] using And.intro h3 h4
  case forwardAnswer =>
    intro r f t s hr hf hfind
    have hexec : exec .forwardAnswerArrival s = execForwardAnswerArrival s := rfl
    rw [hexec, execForwardAnswerArrival, hr]
    dsimp only
    rw [if_neg (by simp [hf]), hfind]
  case forwarded => exact fun f d n l t s hf hh hp hd hs hn => exec_forwardedRequestArrival_of_free hf hh hp hd hs hn
  case forwardTimeout =>
    intro t f s hf hfind
    have hexec : exec (.forwardTimeout t) s = execForwardTimeout t s := rfl
    rw [hexec, execForwardTimeout, hfind]
    exact next_of_pos hf _ _
  case record =>
    intro f t s ht hh
    have hexec : exec .class2RecordReceive s = execClass2RecordReceive s := rfl
    rw [hexec, execClass2RecordReceive, ht]
    exact next_of_pos hh _ _
  case faultRecord =>
    intro f t s hh hf
    have hexec (d : Die) : exec (.faultLogRecordReceive d) s = execFaultLogRecordReceive d s := rfl
    refine ⟨fun ht => ?_, fun ht => ?_⟩
    · rw [hexec, execFaultLogRecordReceive, ht]
      exact next_of_pos hh _ _
    · rw [hexec, execFaultLogRecordReceive, ht]
      exact next_of_pos hf _ _
  case stationAlias => exact fun s hf hh hc => next_of_pos (by simp [hf, hh, hc]) _ _
  case status =>
    intro f t s ht hf
    have hexec : exec .sStatusMessage s = execSStatusMessage s := rfl
    rw [hexec, execSStatusMessage, ht]
    exact next_of_pos hf _ _

/-- Settles O36: the port takes the entry named and finds its data in order. -/
theorem portRowsComplete : Obligations.PortRowsComplete := by
  unfold Obligations.PortRowsComplete
  refine ⟨?read, ?confirmed, ?posted, ?writeSegment, ?readSegment, ?unknown, ?forwardAnswer⟩
  case read =>
    intro e t s he
    have hexec : exec .portRead s = execPortRead s := rfl
    rw [hexec, execPortRead, he]
  case confirmed =>
    intro e t s he hd
    have hexec : exec .portConfirmedWrite s = execPortConfirmedWrite s := rfl
    rw [hexec, execPortConfirmedWrite, he]
    exact next_of_neg (not_not.mpr hd) _ _
  case posted =>
    intro e t s he hd
    have hexec : exec .portPostedWrite s = execPortPostedWrite s := rfl
    rw [hexec, execPortPostedWrite, he]
    exact next_of_neg (not_not.mpr hd) _ _
  case writeSegment =>
    intro e t s he hd
    have hexec : exec .portWriteSegment s = execPortWriteSegment s := rfl
    rw [hexec, execPortWriteSegment, he]
    exact next_of_neg (not_not.mpr hd) _ _
  case readSegment =>
    intro e t s he
    have hexec : exec .portReadSegment s = execPortReadSegment s := rfl
    rw [hexec, execPortReadSegment, he]
  case unknown =>
    intro e t s he h2 hop hfree
    have hexec : exec .portUnknownEntry s = execPortUnknownEntry s := rfl
    have hknown : ¬ (e.type = 2 ∨ (e.type = 1 ∧ 1 ≤ e.op ∧ e.op ≤ 5) ∨ d2hFree s = false) := by
      simp only [hfree, Bool.true_eq_false, or_false, h2, false_or]
      omega
    rw [hexec, execPortUnknownEntry, he]
    exact next_of_neg hknown _ _
  case forwardAnswer =>
    intro e x t s he h2 hfind ha hop hd
    have hexec : exec .portForwardAnswer s = execPortForwardAnswer s := rfl
    rw [hexec, execPortForwardAnswer, he]
    dsimp only
    rw [if_neg (not_not.mpr h2), hfind]
    dsimp only
    have hread : e.abort = 0 ∧ writeOp x.req.op.toNat = false := ⟨ha, hop⟩
    rw [if_pos hread, if_neg (not_not.mpr hd), ha]

end

section
/-! Chapter 06, staged change: what each command of a staged set leaves. -/

namespace Sys2Proof.Laws

open Machine

theorem settle_none (s : State) (who : Asker) (i sub : Nat) : settle (s, none) who i sub = s := rfl

section Owned

variable {s : State} {r : Source} {n : Nat} (h : owns (stg s n) r = true)
include h

theorem stageCheck_of_opened (hm : (stg s n).mode = .opened) (who : Asker) (on : Nat × Nat) :
    stageCheck s r n who on = (checkSet (setStg s n { stg s n with mode := .checking, waiter := who, waitOn := on }) n, none) :=
  if_neg (by simp [hm, h])

theorem stageArm_of_checked (hm : (stg s n).mode = .checked) (who : Asker) (on : Nat × Nat) :
    stageArm s r n who on =
      (armSet (setStg s n { stg s n with waiter := who, waitOn := on }) n (objN s (0x2110 + n) 7) (objI s (0x2110 + n) 8), none) :=
  if_neg (by simp [hm, h])

end Owned

section Armed

variable {s : State} {n : Nat} (hm : (stg s n).mode = .armed)
include hm

/-- An armed set is applied when its time has come, late if the clock stepped over it (R302 to R306). -/
theorem applyDue_of_time {t : Nat} (hi : (stg s n).instant = some (.time t)) (ht : t ≤ s.fclk.time) :
    applyDue s n = applySet s n (s.fclk.lastStepAt.elim false fun v => decide (t < v)) := by
  simp only [applyDue, hm, ne_eq, not_true, if_false, hi, if_pos ht]
  cases s.fclk.lastStepAt <;> rfl

/-- An armed set is applied when its position has come up, unless the position is INVALID (R302 to R306). -/
theorem applyDue_of_position {p : Int} {late : Bool} (hi : (stg s n).instant = some (.position p))
    (hd : (stg s n).due = some late) (hp : s.pos.mode ≠ .invalid) : applyDue s n = applySet s n late := by
  simp only [applyDue, hm, ne_eq, not_true, if_false, hi, hd, if_neg hp]

end Armed

end Sys2Proof.Laws

open Sys2Proof Sys2Proof.Machine Sys2Proof.Laws

/-- Settles O37: each hypothesis meets the test of its command, and a message that looks for a frame finds the one named. -/
theorem stagingRowsComplete : Obligations.StagingRowsComplete := by
  unfold Obligations.StagingRowsComplete
  refine ⟨?open_, ?append, ?check, ?arm, ?cancel, ?rollback, ?prepare, ?vote, ?voteTimeout, ?armMessage, ?armConfirm, ?armTimeout,
    ?applyInstant, ?hostApply, ?applyConfirm, ?hold⟩
  case open_ =>
    intro r n s hr hc
    rw [exec_stageOpen_of_sourceUp hr, stageOpen_of_closed hc]
  case append =>
    intro r n d s hr h0
    rw [exec_stageAppend_of_sourceUp hr, h0]
  case check =>
    intro r n s hr hm ho
    rw [exec_stageCheck_of_sourceUp hr, stageCheck_of_opened ho hm, settle_none]
  case arm =>
    intro r n s hr hm ho
    rw [exec_stageArm_of_sourceUp hr, stageArm_of_checked ho hm, settle_none]
  case cancel =>
    intro r n b s hr h0
    rw [exec_stageCancel_of_sourceUp hr, h0]
  case rollback =>
    intro s hc h0
    have hexec : exec (.rollback 1) s = execRollback 1 s := rfl
    rw [hexec, execRollback, if_neg (by simp [hc]), if_pos (by rfl), settle, h0]
  case prepare =>
    intro n f t s ht hh hm
    have hexec : exec (.stagingPrepare n) s = execStagingPrepare n s := rfl
    refine ⟨fun hj => ?_, fun r k hj => ?_⟩
    · rw [hexec, execStagingPrepare, ht]
      dsimp only
      rw [if_neg (by simp [hh]), if_neg (by simp [hm]), hj]
    · rw [hexec, execStagingPrepare, ht]
      dsimp only
      rw [if_neg (by simp [hh]), if_neg (by simp [hm]), hj]
  case vote =>
    intro n f t s ht hf hm
    have hexec : exec (.hostVote n) s = execHostVote n s := rfl
    rw [hexec, execHostVote, ht]
    dsimp only
    rw [if_neg (by simp [hf]), if_neg (by simp [hm])]
  case voteTimeout => exact fun n s hf hm hp => next_of_pos (by simp [hf, hm, hp]) _ _
  case armMessage =>
    intro n f i t s ht hh hi hm
    have hexec : exec (.stagingArmMessage n) s = execStagingArmMessage n s := rfl
    rw [hexec, execStagingArmMessage, ht]
    dsimp only
    rw [hi]
    dsimp only
    refine (next_of_neg (by simp [hh]) _ _).trans ((next_of_neg (by simp [hm]) _ _).trans ?_)
    cases i with
    | position p => rfl
    | time v => rfl
  case armConfirm =>
    intro n f i t s ht hf hi hm
    have hexec : exec (.hostArmConfirm n) s = execHostArmConfirm n s := rfl
    rw [hexec, execHostArmConfirm, ht]
    dsimp only
    rw [hi]
    dsimp only
    rw [if_neg (by simp [hf]), if_neg (by simp [hm])]
  case armTimeout => exact fun n s hf hm => next_of_pos (by simp [hf, hm]) _ _
  case applyInstant =>
    intro n s hf
    refine ⟨_, rfl, next_of_pos hf _ _, fun t hm hi ht => ?_, fun p l hm hi hd hp => applyDue_of_position hm hi hd hp⟩
    rw [applyDue_of_time hm hi ht]
    cases State.fclk _ |>.lastStepAt <;> rfl
  case hostApply =>
    intro n e t s hh hs hm hr
    have hexec : exec (.hostApply n) s = execHostApply n s := rfl
    rw [hexec, execHostApply, hs]
    exact next_of_pos (by simp [hh, hm, hr]) _ _
  case applyConfirm =>
    intro n f e i t s ht hh hm hs hb
    have hexec : exec (.applyConfirmation n) s = execApplyConfirmation n s := rfl
    rw [hexec, execApplyConfirmation, ht]
    dsimp only
    rw [if_neg (by simp [hh]), hs]
    exact next_of_pos (by simp [hm, hb]) _ _
  case hold =>
    intro n p s hf hm hi hp
    have hexec : exec (.instantHoldTimeout n) s = execInstantHoldTimeout n s := rfl
    rw [hexec, execInstantHoldTimeout]
    dsimp only
    rw [hi]
    exact next_of_pos (by simp [hf, hm, hp]) _ _

end

section
/-! Chapter 07, fieldbus: what each command of the fieldbus leaves. -/

namespace Sys2Proof.Laws

open Machine

/-- The state of a port is no part of what keeps the field die running. -/
theorem exec_fieldbusPortLinkChange (p : Fin 2) (b : Bool) (s : State) : exec (.fieldbusPortLinkChange p b) s =
    .next (let t := if p = 0 then { s with bus := { s.bus with port0 := b } } else { s with bus := { s.bus with port1 := b } }
      if fieldHw s && (s.bus.port0 || s.bus.port1) && !(t.bus.port0 || t.bus.port1) then fieldClockLoss t else t) := by
  have hexec : exec (.fieldbusPortLinkChange p b) s = execFieldbusPortLinkChange p b s := rfl
  rw [hexec, execFieldbusPortLinkChange]
  dsimp only
  by_cases hp : p = 0
  · rw [if_pos hp]
    rfl
  · rw [if_neg hp]
    rfl

/-- A request that meets its conditions changes the state of the slave. -/
theorem alRequest_of_granted {s : State} {dest : AlState} (h : alCode s dest = 0) :
    alRequest s dest = setAl s dest 0 false (leaveReaction s) := if_pos h

theorem exec_syncConfigWrite_of_plain {s : State} {r : BitVec 16} (h : fieldHw s = true) (hr : readOnlyReg r.toNat = false)
    (h10 : r.toNat ≠ 0x0010) (h920 : r.toNat ≠ 0x0920) (v : BitVec 64) : exec (.syncConfigWrite r v) s =
    .next (if r.toNat = 0x0981 ∨ r.toNat = 0x0990 ∨ r.toNat = 0x09A0 ∨ r.toNat = 0x09A4 then
        syncFault (syncPlan (setBusReg s r.toNat (v.toNat % 256 ^ regSize r.toNat)))
      else setBusReg s r.toNat (v.toNat % 256 ^ regSize r.toNat)) := by
  have hexec : exec (.syncConfigWrite r v) s = execSyncConfigWrite r v s := rfl
  rw [hexec, execSyncConfigWrite]
  dsimp only
  rw [if_neg (by simp [h, hr]), if_neg h10, if_neg h920]

section Foe

variable {s : State} (h : foeUp s = true)
include h

theorem exec_foeWriteIkf_of_boot (hal : s.bus.al = .boot) (i : List Byte) (k : Bool) : exec (.foeWriteIkf 0 i k) s =
    .next (let r := if s.bus.romOnly then recoverSlot false s.fboot.store i k else install false s.fboot.store i k
      foeAnswer { s with fboot := { s.fboot with store := r.1 }
                         bus := { s.bus with ikfDone := s.bus.ikfDone || decide (r.2 = 2) } } (foeStatus r.2)) := by
  have hexec : exec (.foeWriteIkf 0 i k) s = execFoeWriteIkf 0 i k s := rfl
  rw [hexec, execFoeWriteIkf, if_neg (by simp [h]), if_neg (not_not.mpr rfl), if_neg (not_not.mpr hal)]

variable (hr : s.bus.romOnly = false) (hc : crosses s 6 = true) (hh : hostUp s = true)
include hr

theorem exec_foeReadLog_of_foeUp : exec (.foeReadLog 0) s = .next (foeAnswer
    { s with bus := { s.bus with foeData := ((s.saf.flash ++ s.saf.unwritten).map faultBytes).flatten } } 0) := by
  have hexec : exec (.foeReadLog 0) s = execFoeReadLog 0 s := rfl
  rw [hexec, execFoeReadLog, if_neg (by simp [h]), if_neg (by simp [hr]), if_neg (not_not.mpr rfl)]

include hc hh

theorem exec_foeWriteIkh_of_boot (hal : s.bus.al = .boot) (i : List Byte) (k : Bool) : exec (.foeWriteIkh 0 i k) s =
    .next (foeAnswer (putN { s with hboot := { s.hboot with store := (install true s.hboot.store i k).1 } } 0x2006 2
      (install true s.hboot.store i k).2) (foeStatus (install true s.hboot.store i k).2)) := by
  have hexec : exec (.foeWriteIkh 0 i k) s = execFoeWriteIkh 0 i k s := rfl
  have hnot : s.hboot.mode ≠ .recovery := by simp [hboot_running hh]
  rw [hexec, execFoeWriteIkh, if_neg (by simp [h]), if_neg (by simp [hr]), if_neg (not_not.mpr rfl),
    if_neg (not_not.mpr hal), if_neg (by simp [hc]), if_neg hnot, if_pos hh]

theorem exec_foeWriteIkm_of_loadable (hal : s.bus.al ≠ .boot) {n : Fin 4} (hb : slotBound s n.val = false)
    (ha : armedNames s n.val = false) (hl : mayLoad s n.val = true) (f : List Byte) (c : List (List Kernel)) :
    exec (.foeWriteIkm 0 n f c) s = .next (foeAnswer (slotLoad s n.val (bundleOf f c)) 0) := by
  have hexec : exec (.foeWriteIkm 0 n f c) s = execFoeWriteIkm 0 n f c s := rfl
  rw [hexec, execFoeWriteIkm, if_neg (by simp [h]), if_neg (by simp [hr]), if_neg (not_not.mpr rfl), if_neg hal,
    if_neg (by simp [hb, ha, hl]), if_pos (by simp [hc, hh])]

end Foe

end Sys2Proof.Laws

open Sys2Proof Sys2Proof.Machine Sys2Proof.Laws

/-- Settles O38: each hypothesis meets the test of its command; a request of a state whose conditions hold is granted, and a file
passes the tests of FoE in order. -/
theorem fieldbusRowsComplete : Obligations.FieldbusRowsComplete := by
  unfold Obligations.FieldbusRowsComplete
  refine ⟨?sm2, ?sm2Watchdog, ?cycle, ?frameStart, ?linkChange, ?preop, ?safeop, ?op, ?boot, ?init, ?syncConfig, ?mirror, ?class5,
    ?safety, ?safetyWatchdog, ?aliasWord, ?ikf, ?ikh, ?ikm, ?log⟩
  case sm2 =>
    intro d s hf hal hlen
    have hexec : exec (.sm2BufferComplete d) s = execSm2BufferComplete d s := rfl
    rw [hexec, execSm2BufferComplete, if_neg (by simp [hf, hal]), if_neg (not_not.mpr hlen), if_neg (by simp [hal])]
  case sm2Watchdog => exact fun s hf hal => next_of_pos (by simp [hf, hal]) _ _
  case cycle => exact fun s hf hc => (next_of_neg (by simp [hf]) _ _).trans (next_of_pos hc _ _)
  case frameStart => exact fun p s hf hp => ⟨_, rfl, next_of_pos (by simp [hf, hp]) _ _⟩
  case linkChange => exact fun p b s => ⟨_, rfl, exec_fieldbusPortLinkChange p b s⟩
  case preop => exact fun s hs hc => (next_of_pos hs _ _).trans (congrArg _ (alRequest_of_granted hc))
  case safeop => exact fun s hs hc => (next_of_pos hs _ _).trans (congrArg _ (alRequest_of_granted hc))
  case op => exact fun s hs hc => (next_of_pos hs _ _).trans (congrArg _ (alRequest_of_granted hc))
  case boot => exact fun s hs hc => (next_of_pos hs _ _).trans (congrArg _ (alRequest_of_granted hc))
  case init =>
    intro s hs hc hi
    have hexec : exec .alRequestInit s = execAlRequestInit s := rfl
    rw [hexec, execAlRequestInit, if_neg (by simp [hs]), if_neg (by simp [hi]), alRequest_of_granted hc]
  case syncConfig =>
    intro r v s hf hr h10 h920
    rw [exec_syncConfigWrite_of_plain hf hr h10 h920]
    refine ⟨fun h981 h990 h9A0 h9A4 => next_of_neg ?_ _ _, fun h => next_of_pos h _ _⟩
    simp only [h981, h990, h9A0, h9A4, or_self, not_false_eq_true]
  case mirror =>
    intro f t s ht hf
    have hexec : exec .mirrorMessage s = execMirrorMessage s := rfl
    rw [hexec, execMirrorMessage, ht]
    exact next_of_pos hf _ _
  case class5 =>
    intro f t s ht hf
    have hexec : exec .class5Result s = execClass5Result s := rfl
    rw [hexec, execClass5Result, ht]
    exact next_of_pos hf _ _
  case safety =>
    intro a c o f s hf ha hobj hc
    exact ⟨_, rfl, next_of_neg (by simpa [hf, hobj, hc] using ha) _ _⟩
  case safetyWatchdog => exact fun s hf ho => ⟨_, _, rfl, rfl, next_of_neg (by simp [hf, ho]) _ _⟩
  case aliasWord =>
    intro v s hs ha
    have hexec : exec (.aliasWrite 4 v) s = execAliasWrite 4 v s := rfl
    rw [hexec, execAliasWrite, if_neg (by simp [hs]), if_neg (by simp [ha])]
  case ikf => exact fun i k s h hal => ⟨_, rfl, exec_foeWriteIkf_of_boot h hal i k⟩
  case ikh => exact fun i k s h hal hr hc hh => exec_foeWriteIkh_of_boot h hr hc hh hal i k
  case ikm => exact fun n f c s h hal hr hb ha hl hc hh => exec_foeWriteIkm_of_loadable h hr hc hh hal hb ha hl f c
  case log => exact fun s h hr => exec_foeReadLog_of_foeUp h hr

end

section
/-! Chapter 05: what the commands that write one object leave when the write is accepted. -/

namespace Sys2Proof.Laws

open Machine

/-- A write of the master's that is accepted at once has its effect and is answered (R235, R253). -/
theorem objectWrite_of_accepted {s : State} {i k : Nat} {d : List Byte} (h : Accepted s i k d) :
    objectWrite s i k d = accepted s i k d := by
  obtain ⟨hc, hw⟩ := h
  rw [objectWrite, if_pos hc, settle, hw]
  rfl

theorem next_objectWrite_of_accepted {s : State} {i k : Nat} {d : List Byte} (h : Accepted s i k d) :
    (Host.Outcome.next (objectWrite s i k d) : Out) = .next (accepted s i k d) := congrArg _ (objectWrite_of_accepted h)

theorem fieldUp_of_coeUp {s : State} (h : coeUp s = true) : fieldUp s = true := by
  simp only [coeUp, Bool.and_eq_true] at h
  exact h.1

/-- Only a retrain that is asked for after step 7 of a training keeps the request for its end. -/
theorem exec_retrainRequestWrite_of_accepted {s : State} {w : Byte} (h : Accepted s 0x3A02 1 [w]) {b : Bool}
    (hb : b = false ∨ s.link.mode ≠ .training) : exec (.retrainRequestWrite w b) s = .next (accepted s 0x3A02 1 [w]) := by
  have hlater : ¬ (b && fieldUp s && s.link.mode == .training && decide (writeAbort s 0x3A02 1 [w] = 0)) = true := by
    obtain rfl | hm := hb
    · simp
    · simp [hm]
  exact (next_of_neg hlater _ _).trans (next_objectWrite_of_accepted h)

theorem exec_retrainRequestWrite_of_training {s : State} {w : Byte} (h : Accepted s 0x3A02 1 [w])
    (hm : s.link.mode = .training) (ha : writeAbort s 0x3A02 1 [w] = 0) : exec (.retrainRequestWrite w true) s =
    .next { accepted s 0x3A02 1 [w] with
              link := { (accepted s 0x3A02 1 [w]).link with kept := s.link.kept, after := some w.toNat } } := by
  rw [← objectWrite_of_accepted h]
  exact next_of_pos (by simp [fieldUp_of_coeUp h.1, hm, ha]) _ _

end Sys2Proof.Laws

open Sys2Proof Sys2Proof.Machine Sys2Proof.Laws

/-- Settles O39: each command is one write of its object, and the master's accepted write is the same for all of them. -/
theorem objectWriteRowsComplete : Obligations.ObjectWriteRowsComplete := by
  unfold Obligations.ObjectWriteRowsComplete
  refine ⟨?store, ?restore, ?retrain, ?positionEntry, ?predictor, ?preset, ?reReference, ?reacquire, ?role, ?conversion, ?timeEntry,
    ?adcStart, ?latches, ?flush, ?operationMode⟩
  case store => exact fun k v s h => next_objectWrite_of_accepted h
  case restore => exact fun k v s h => next_objectWrite_of_accepted h
  case retrain =>
    exact fun w b s h =>
      ⟨fun hb => exec_retrainRequestWrite_of_accepted h hb, fun hm ha => exec_retrainRequestWrite_of_training h hm ha⟩
  case positionEntry =>
    exact fun n c s h => (next_of_neg (by simp) _ _).trans (next_objectWrite_of_accepted h)
  case predictor => exact fun t s h => next_objectWrite_of_accepted h
  case preset => exact fun v s h => next_objectWrite_of_accepted h
  case reReference => exact fun v s h => next_objectWrite_of_accepted h
  case reacquire => exact fun v s h => next_objectWrite_of_accepted h
  case role => exact fun v s h => next_objectWrite_of_accepted h
  case conversion => exact fun t s h => next_objectWrite_of_accepted h
  case timeEntry => exact fun n c s h => next_objectWrite_of_accepted h
  case adcStart => exact fun a v s h => next_objectWrite_of_accepted h
  case latches => exact fun a v s h => next_objectWrite_of_accepted h
  case flush => exact fun a v s h => next_objectWrite_of_accepted h
  case operationMode => exact fun a v s h => next_objectWrite_of_accepted h

end

section
/-! Chapter 09, cameras: what each camera command leaves. -/

namespace Sys2Proof.Laws

open Machine

section Open

variable {s : State} {p : Fin 4} (hp : portOpen s p.val = true) {c : Fin 16} (hc : c.val ≤ 3)
include hp hc

theorem exec_csiFrameStart_of_portOpen : exec (.csiFrameStart p c) s =
    .next (let t := (openOn (portBit s p.val 0) p.val c.val).foldl (fun s i => endFrame s i true) (portBit s p.val 0)
      if portImages t p.val then (streamsOf t p.val c.val).foldl openFrame t else t) := by
  have hexec : exec (.csiFrameStart p c) s = execCsiFrameStart p c s := rfl
  rw [hexec, execCsiFrameStart, if_neg (by simp [hp])]
  exact congrArg _ (if_neg (not_lt.mpr hc))

/-- A line of a known type whose header is right, or corrected, goes to every open stream of its channel (R448, R452). -/
theorem exec_csiLinePacket_of_portOpen {t : Byte} (ht : csiTypes.contains t.toNat = true) {e : EccResult}
    (he : e ≠ .uncorrectable) (k : Bool) (d : List Byte) : exec (.csiLinePacket p c t e k d) s =
    .next ((openOn (portBit s p.val 0) p.val c.val).foldl (fun s i => lineOf s i t.toNat (decide (e = .corrected)) k d)
      (portBit s p.val 0)) := by
  have hexec : exec (.csiLinePacket p c t e k d) s = execCsiLinePacket p c t e k d s := rfl
  have hgood : ¬ (decide (3 < c.val) || decide (e = .uncorrectable) || !csiTypes.contains t.toNat) = true := by
    rw [decide_eq_false (not_lt.mpr hc), decide_eq_false he, ht]
    decide
  rw [hexec, execCsiLinePacket, if_neg (by simp [hp])]
  exact congrArg _ (if_neg hgood)

theorem exec_csiFrameEnd_of_portOpen : exec (.csiFrameEnd p c) s =
    .next ((openOn s p.val c.val).foldl (fun s i => endFrame s i false) s) :=
  (next_of_neg (by simp [hp]) _ _).trans (next_of_neg (not_lt.mpr hc) _ _)

end Open

theorem exec_stampCapture_of_due {i : Fin 16} {p : PendingStamp} {k : Nat} {s : State} (h : hostUp s = true)
    (hn : objN s (0x2410 + i.val) 7 ≠ 0xFF)
    (hk : (tget [] s.trig (objN s (0x2410 + i.val) 7)).findIdx?
      (fun p => !p.taken.any (fun e => e.1 = i.val) && !p.used.contains i.val) = some k)
    (hp : (tget [] s.trig (objN s (0x2410 + i.val) 7))[k]? = some p) (ht : p.edge + exposureDelay p i.val ≤ s.trep.time) :
    exec (.stampCapture i) s =
      .next { s with trig := tset [] s.trig (objN s (0x2410 + i.val) 7)
                         ((tget [] s.trig (objN s (0x2410 + i.val) 7)).modify k
                           (fun p => { p with taken := p.taken ++ [(i.val, stampNow s p.tag false)] })) } := by
  have hexec : exec (.stampCapture i) s = execStampCapture i s := rfl
  rw [hexec, execStampCapture, if_neg (by simp [h, hn]), hk]
  dsimp only
  rw [if_pos (by simp [hp, ht])]

end Sys2Proof.Laws

open Sys2Proof Sys2Proof.Machine Sys2Proof.Laws

/-- Settles O41: each hypothesis meets the test of its command. -/
theorem cameraRowsComplete : Obligations.CameraRowsComplete := by
  unfold Obligations.CameraRowsComplete
  refine ⟨?frameStart, ?line, ?frameEnd, ?deskew, ?stopState, ?stamp, ?isp⟩
  case frameStart => exact fun p c s hp hc => ⟨_, rfl, exec_csiFrameStart_of_portOpen hp hc⟩
  case line =>
    exact fun p c t k d s hp hc ht =>
      ⟨exec_csiLinePacket_of_portOpen hp hc ht (by decide) k d, exec_csiLinePacket_of_portOpen hp hc ht (by decide) k d⟩
  case frameEnd => exact fun p c s hp hc => exec_csiFrameEnd_of_portOpen hp hc
  case deskew => exact fun p s hh hb => next_of_pos (by simp [hh, hb]) _ _
  case stopState => exact fun p s hp => next_of_neg (by simp [hp]) _ _
  case stamp =>
    rintro i q p k s hh hn rfl hk hp ht
    exact exec_stampCapture_of_due hh hn hk hp ht
  case isp =>
    intro i f t s hh hf
    have hexec : exec (.ispOutputComplete i) s = execIspOutputComplete i s := rfl
    rw [hexec, execIspOutputComplete]
    dsimp only
    rw [if_neg (by simp [hh]), hf]

end

section
/-! Chapter 10, vision engines: what each command of the engines leaves. -/

namespace Sys2Proof.Laws

open Machine

theorem flagRelease_of_valid {s : State} {f : Nat} (hm : (flag s f).mode = .valid) (hh : (flag s f).hold ≠ 0) :
    flagRelease s f = setFlag s f { flag s f with
      hold := (flag s f).hold - 1, mode := if (flag s f).hold = 1 then .free else (flag s f).mode } :=
  if_neg (not_or.mpr ⟨not_not.mpr hm, hh⟩)

/-- A node that runs is not passed over by the commands that end it. -/
theorem node_running {s : State} (h : hostUp s = true) {r : Run} {n : Nat} (hn : lget .skipped r.nodes n = .running) :
    ¬ (!hostUp s || lget .skipped r.nodes n != .running) = true := by simp [h, hn]

theorem exec_nodeDispatch_of_ready {e : Fin 6} {g n a b : Nat} {r : Run} {s : State} (h : hostUp s = true)
    (hw : (engineWork s e.val).length < engineInstances e.val) (hb : bestNode (readyNodes s e.val) = some (a, b, g, n))
    (hr : (gph s g).run = some r) : exec (.nodeDispatch e) s =
    .next { startNode s g n r with engines := tset [] s.engines e.val (engineWork s e.val ++ [32 * g + n]) } := by
  have hexec : exec (.nodeDispatch e) s = execNodeDispatch e s := rfl
  rw [hexec, execNodeDispatch]
  dsimp only
  rw [if_neg (by simp [h, hw]), hb]
  dsimp only
  rw [hr]

section Node

variable {g : Fin 8} {n : Fin 32} {r : Run} {s : State} (h : hostUp s = true) (hr : (gph s g.val).run = some r)
include h hr

theorem exec_nodeTimeLimit_of_running (hn : lget .skipped r.nodes n.val = .running) : exec (.nodeTimeLimit g n) s =
    .next (runTryEnd (releaseRead (leaveEngines (setGph s g.val { gph s g.val with
      run := some (failRun { r with nodes := r.nodes.set n.val .skipped } 5 n.val) }) (32 * g.val + n.val)) g.val) g.val) := by
  have hexec : exec (.nodeTimeLimit g n) s = execNodeTimeLimit g n s := rfl
  rw [hexec, execNodeTimeLimit, hr]
  exact next_of_neg (node_running h hn) _ _

theorem exec_refineTimeLimit_of_running (hn : lget .skipped r.nodes n.val = .running) (hf : nodeRefines r n.val = true)
    (ht : r.timed.any (fun e => e.1 == n.val) = false) (k : Nat) : exec (.refineTimeLimit g n k) s =
    .next (setGph s g.val { gph s g.val with run := some { r with timed := r.timed ++ [(n.val, k)] } }) := by
  have hexec : exec (.refineTimeLimit g n k) s = execRefineTimeLimit g n k s := rfl
  rw [hexec, execRefineTimeLimit, hr]
  exact next_of_pos (by simp [h, hn, hf, ht]) _ _

end Node

end Sys2Proof.Laws

open Sys2Proof Sys2Proof.Machine Sys2Proof.Laws

/-- Settles O42: each hypothesis meets the test of its command; a node that ends well fails neither of the tests after it. -/
theorem visionRowsComplete : Obligations.VisionRowsComplete := by
  unfold Obligations.VisionRowsComplete
  refine ⟨?release, ?graphStart, ?runStart, ?dispatch, ?complete, ?nodeLimit, ?runLimit, ?refine, ?hints⟩
  case release =>
    intro v s hh hm hn
    rw [exec_visFlagRelease_of_hostUp hh, flagRelease_of_valid hm hn]
  case graphStart => exact fun v s hh hg => next_of_pos (by simp [hh, hg]) _ _
  case runStart => exact fun g s hh _ _ => next_of_pos hh _ _
  case dispatch => exact fun e g n a b r s hh hw hb hr => exec_nodeDispatch_of_ready hh hw hb hr
  case complete =>
    intro g n r i s hh hr hn hi he
    have hexec : exec (.nodeComplete g n i) s = execNodeComplete g n i s := rfl
    rw [hexec, execNodeComplete]
    dsimp only
    rw [hr]
    dsimp only
    rw [if_neg (node_running hh hn), hi, he]
    rfl
  case nodeLimit => exact fun g n r s hh hr hn => exec_nodeTimeLimit_of_running hh hr hn
  case runLimit =>
    intro g r s hh hr hl ht
    have hexec : exec (.runLimitExpiry g) s = execRunLimitExpiry g s := rfl
    rw [hexec, execRunLimitExpiry]
    dsimp only
    rw [hr]
    refine next_of_neg ?_ _ _
    simpa [hh, hl] using ht
  case refine => exact fun g n k r s hh hr hn hf ht => exec_refineTimeLimit_of_running hh hr hn hf ht k
  case hints =>
    intro g h s hh hl
    have hexec : exec (.hintSetArrival g) s = execHintSetArrival g s := rfl
    rw [hexec, execHintSetArrival]
    dsimp only
    rw [hl]
    exact next_of_neg (by simp [hh]) _ _

end

section
/-! Chapters 11 and 12, the Gallery engine and its queues: what each of their commands leaves. -/

namespace Sys2Proof.Laws

open Machine

/-! ### The job at the head of a queue -/

section Job

variable {s : State} {q : Nat} {j : Job} (hj : (que s q).job = some j)
include hj

/-- A release frees a job that is held (R609). -/
theorem jobRelease_of_held (hm : j.mode = .waiting) (hheld : j.held = true) :
    jobRelease s q = jobAdvance (setJob s q { j with held := false, countFrom := s.trep.time }) q := by
  rw [jobRelease, hj]
  exact if_pos ⟨hm, hheld⟩

theorem cancelHead_of_waiting (hm : j.mode = .waiting ∨ j.mode = .released) :
    cancelHead s q = completeJob s q 0x0A 0 := by
  rw [cancelHead, hj]
  refine if_pos ?_
  simpa using hm

/-- A job that nothing ends and that one group of free cores can take starts on it (R614, R620). -/
theorem dispatchJob_of_free {f : Nat} (hstatus : j.status = 0) (hready : jobReady s q j = true)
    (hslot : (mslot s j.slot).mode ≠ .failed) (hdrop : (queueSettings s q).testBit 2 = false)
    (hdup : (queueSettings s q).testBit 3 = false) (hfree : freeGroup s (groupSize s j) [] = some f)
    (hyield : mustYield s q j (groupCores f (groupSize s j)) = false) :
    dispatchJob s q = startJob s q j (groupSize s j) [((preemptedCopy j).getD 0, f)] := by
  rw [dispatchJob, hj]
  dsimp only
  rw [if_neg (by simp [hstatus]), if_neg (by simp [hready]), if_neg (by simp [hslot]), if_neg (by simp [hdrop]), hfree]
  dsimp only
  rw [if_pos (by simp [hdup]), if_neg (by simp [hyield])]

/-- A member of a running copy that may go on runs its kernel and takes the boundary after it. -/
theorem boundary_of_running {ci m : Nat} {c : Copy} {kn : Kernel} (hc : j.copies[ci]? = some c)
    (hk : (jobCode s j)[lget 0 c.steps m]? = some kn) (hmode : c.mode = .running) (hm : m < j.group)
    (hmay : memberMay s q c (jobCode s j) j.group m kn = true) (i : KernelEnd) : boundary s q ci m i =
    (let k := lget 0 c.steps m
     let u := kernelEcc (spendTime s j.part i.coreUs) q i
     let r := runKernel { queue := q, copy := ci, job := j, kernel := k, g := j.group, j := m } kn
       { s := u, copy := c, status := eccStatus i }
     let v := if i.pocket = .uncorrectable then setCore r.s (c.first + m) { core' r.s (c.first + m) with lastPart := none } else r.s
     afterKernel v q ci (addUse ((que v q).job.getD j) i.coreUs r) { r.copy with steps := r.copy.steps.set m (k + 1) } k kn
       (jobCode s j).length r.status) := by
  have hsteps : (j.copies.getD ci {}).steps = c.steps := by rw [List.getD_eq_getElem?_getD, hc, Option.getD_some]
  have hgo : ¬ (c.mode ≠ .running ∨ j.group ≤ m ∨ memberMay s q c (jobCode s j) j.group m kn = false) := by
    simp [hmode, hm, hmay]
  rw [boundary, hj]
  dsimp only
  rw [hsteps, hc, hk]
  exact if_neg hgo

end Job

end Sys2Proof.Laws

open Sys2Proof Sys2Proof.Machine Sys2Proof.Laws

/-- Settles O43: each hypothesis meets the test of its command, and the job named is the one at the head of its queue. -/
theorem galleryRowsComplete : Obligations.GalleryRowsComplete := by
  unfold Obligations.GalleryRowsComplete
  refine ⟨?doorbell, ?take, ?waitTimeout, ?release, ?cancel, ?enable, ?dispatch, ?boundary, ?watchdog, ?complete, ?frame, ?load,
    ?loaded, ?unload, ?scrub, ?cavern, ?bank⟩
  case doorbell => exact fun q v s hh => next_of_pos hh _ _
  case take => exact fun q s ht => next_of_pos ht _ _
  case waitTimeout =>
    intro q j s hh hj hm hl hw
    have hexec : exec (.waitTimeout q) s = execWaitTimeout q s := rfl
    rw [hexec, execWaitTimeout, hj]
    refine next_of_pos ?_ _ _
    simpa [hh, hm, hl] using hw
  case release =>
    exact fun q j s hh hj hm hheld => (next_of_pos (by simp [hh]) _ _).trans (congrArg _ (jobRelease_of_held hj hm hheld))
  case cancel =>
    exact fun q j s hh hj hm => (next_of_pos (by simp [hh]) _ _).trans (congrArg _ (cancelHead_of_waiting hj hm))
  case enable => exact fun q c s hh => next_of_pos hh _ _
  case dispatch =>
    exact fun q j f s hh hj hs hr hslot h2 h3 hf hy =>
      (next_of_pos hh _ _).trans (congrArg _ (dispatchJob_of_free hj hs hr hslot h2 h3 hf hy))
  case boundary =>
    exact fun q ci m i j c kn s hh hj hc hk hmode hm hmay =>
      (next_of_pos hh _ _).trans (congrArg _ (boundary_of_running hj hc hk hmode hm hmay i))
  case watchdog =>
    intro q j s hh hj ha
    have hexec : exec (.preemptionWatchdogExpiry q) s = execPreemptionWatchdogExpiry q s := rfl
    rw [hexec, execPreemptionWatchdogExpiry]
    dsimp only
    rw [hj]
    exact next_of_pos (by rw [hh, ha]; rfl) _ _
  case complete =>
    intro q j s hh hj hm hs
    have hexec : exec (.jobComplete q) s = execJobComplete q s := rfl
    rw [hexec, execJobComplete]
    dsimp only
    rw [hj]
    exact next_of_pos (by simp [hh, hm, hs]) _ _
  case frame => exact fun s hh hf => next_of_pos (by simp [hh, hf]) _ _
  case load =>
    intro n a c s hh hd
    have hmapped : engineMapped s a.toNat = true := hd
    exact next_of_pos (by simp [hh, hmapped]) _ _
  case loaded => exact fun n c s hh _ => exec_modelLoadComplete_of_hostUp hh n c
  case unload => exact fun n s hh hu => next_of_pos (by simp [hh, hu]) _ _
  case scrub =>
    intro b w s hh hr
    have hready : ¬ (!hostUp s || !s.gal.ready) = true := by simp [hh, hr]
    exact ⟨next_of_neg hready _ _, next_of_neg hready _ _, next_of_neg hready _ _⟩
  case cavern => exact fun s hh => next_of_pos hh _ _
  case bank => exact fun b s hh hc => next_of_pos (by simp only [hh, hc, Bool.and_self]) _ _

end

section
/-! Chapter 13, attention and key-value: what each key-value command leaves. -/

namespace Sys2Proof.Laws

open Machine

/-- An OPEN that no test turns away takes a run of page-table entries; outside mode 0 no frame goes with it yet. -/
theorem kvOpenSeq_of_free {s : State} {p q n f : Nat} (hm : (kvSeq s p q).mode = .free) (hon : objB s (0x2A00 + p) 1 = true)
    (hq : q < poolN s p 7) (hbits : bits (reg s (bGAL + 0x8014)) 15 0 = n) (hn : n ≠ 0)
    (hb : n * tpp s p ≤ (buckets s p).getLast?.getD 0) (hf : pteRun s p n = some f) (hmode : poolMode s p ≠ 0) :
    kvOpenSeq s p q = kvResult (setSeq (assignPtes s p f (List.replicate n none)) p q
      { mode := .opened, wrap := (reg s (bGAL + 0x8014)).testBit 16, maxPages := n, firstPte := f }) 0 := by
  rw [kvOpenSeq]
  dsimp only
  rw [if_neg (not_not.mpr hm), hbits, if_neg (by simp [hon, hn, hq, hb]), hf]
  dsimp only
  rw [if_neg (fun hc => hmode hc.1), if_neg hmode]

theorem kvCloseSeq_of_unused {s : State} {p q : Nat} (hm : (kvSeq s p q).mode ≠ .free) (hu : (kvSeq s p q).users = 0) :
    kvCloseSeq s p q = kvResult (setSeq (dropPages s p (kvSeq s p q) false) p q {}) 0 :=
  (if_neg hm).trans (if_neg (not_not.mpr hu))

theorem kvPinSeq_of_opened {s : State} {p q : Nat} (hm : (kvSeq s p q).mode = .opened) (on : Bool) :
    kvPinSeq s p q on = kvResult (setSeq s p q { kvSeq s p q with pin := on }) 0 := if_neg (not_not.mpr hm)

theorem kvPrefetchSeq_of_spilled {s : State} {p q : Nat} (hm : (kvSeq s p q).mode = .opened)
    (hs : (kvSeq s p q).spilled = true) (hf : (sumpPtes s p (kvSeq s p q)).length ≤ (freeFrames s p).length) :
    kvPrefetchSeq s p q = kvResult (prefetchSeq s p q).1 0 := by
  have hready : ¬ ((kvSeq s p q).mode ≠ .opened ∨ (kvSeq s p q).spilled = false) := by simp [hm, hs]
  exact (if_neg hready).trans (if_neg (not_lt.mpr hf))

theorem kvResetSeq_of_unused {s : State} {p q : Nat} (hm : (kvSeq s p q).mode ≠ .free) (hl : (kvSeq s p q).mode ≠ .lost)
    (hu : (kvSeq s p q).users = 0) :
    kvResetSeq s p q = kvResult (setSeq (if poolMode s p = 0 then s else dropPages s p (kvSeq s p q) true) p q
      { kvSeq s p q with mode := .opened, length := 0, start := 0, full := false, spilled := false }) 0 :=
  (if_neg (not_or.mpr ⟨hm, hl⟩)).trans (if_neg (not_not.mpr hu))

end Sys2Proof.Laws

open Sys2Proof Sys2Proof.Machine Sys2Proof.Laws

/-- Settles O44: the sequence named passes the tests of its command in order. -/
theorem kvRowsComplete : Obligations.KvRowsComplete := by
  unfold Obligations.KvRowsComplete
  refine ⟨?open_, ?close, ?pin, ?unpin, ?prefetch, ?reset, ?window⟩
  case open_ =>
    exact fun p q n f s hh hm hon hq hbits hn hb hf hmode =>
      (next_of_pos hh _ _).trans (congrArg _ (kvOpenSeq_of_free hm hon hq hbits hn hb hf hmode))
  case close =>
    intro p q s hh hm hu
    rw [← kvCloseSeq_of_unused hm hu]
    exact next_of_pos hh _ _
  case pin => exact fun p q s hh hm => (next_of_pos hh _ _).trans (congrArg _ (kvPinSeq_of_opened hm true))
  case unpin => exact fun p q s hh hm => (next_of_pos hh _ _).trans (congrArg _ (kvPinSeq_of_opened hm false))
  case prefetch => exact fun p q s hh hm hs hf => (next_of_pos hh _ _).trans (congrArg _ (kvPrefetchSeq_of_spilled hm hs hf))
  case reset =>
    intro p q s hh hm hl hu
    rw [← kvResetSeq_of_unused hm hl hu]
    exact next_of_pos hh _ _
  case window => exact fun w s hh => next_of_pos hh _ _

end

section
/-! Chapter 14, Lantern: what each Lantern command leaves. -/

namespace Sys2Proof.Laws

open Machine

/-- The counts of a new hint period start at zero. -/
def hintsRestarted (s : State) : State := { s with lan := { s.lan with hintCounts := [], hintFrom := s.lan.lt } }

end Sys2Proof.Laws

open Sys2Proof Sys2Proof.Machine Sys2Proof.Laws

/-- Settles O45: each hypothesis meets the test of its command; a packet within the FIFO is taken whole, and a clean connection
word drops no projection. -/
theorem lanternRowsComplete : Obligations.LanternRowsComplete := by
  unfold Obligations.LanternRowsComplete
  refine ⟨?word, ?packet, ?synaptic, ?hints⟩
  case word => exact fun w s ht hi => next_of_pos (by simp [ht, hi]) _ _
  case packet =>
    intro d s ht hi hlen
    have hfits : ¬ ((0 : Fin 16).val ≠ 0 ∨ (0x30 : Byte) ≠ 0x30 ∨ (!true) = true ∨ 4096 < s.lan.fifo.length + (wordsOf d).length) := by
      simpa using hlen
    exact (next_of_neg (by simp [ht, hi]) _ _).trans (congrArg _ (if_neg hfits))
  case synaptic =>
    intro c k t s ht hq
    have hexec : exec (.synapticOperation c .clean .clean) s = execSynapticOperation c .clean .clean s := rfl
    rw [hexec, execSynapticOperation]
    dsimp only
    rw [ht, hq]
    rfl
  case hints =>
    intro s ht ho
    have hover : ¬ (!lanTakes s || !hintPeriodOver s) = true := by simp [ht, ho]
    refine ⟨_, rfl, (next_of_neg hover _ _).trans (congrArg (fun u => Host.Outcome.next (hintsRestarted u)) ?_)⟩
    refine List.foldl_ext _ _ _ fun a g _ => ?_
    cases hintSetOf a g with
    | none => rfl -- a graph without hints keeps its set
    | some h => rfl

end

section
/-! Chapter 15, composition and video output: what each command of the composition engine and the display leaves. -/

namespace Sys2Proof.Laws

open Machine

/-- The engine's own part at the start of a frame (R750 to R752). -/
def compStarted (s : State) : State :=
  { s with comp := { s.comp with
      frame := wrap32 (s.comp.frame + 1), line := 0, live := compObjects s, underLines := 0, startTime := s.trep.time, underflow := 0
      latched := (List.range 6).map (fun l => reg s (bCOMP + 0x10 + 8 * l)), wb := none
      wbEnded := match s.comp.wb with | some w => s.comp.wbEnded ++ [w] | none => s.comp.wbEnded } }

/-- The frame is counted, and with it the octets that the skip saves (R745). -/
def compFramed (s : State) : State := bump (bump (compStarted s) 0x2E20 1) 0x2E20 5 (savedOctets (compStarted s))

theorem exec_compFrameStart_of_compRuns {s : State} (h : compRuns s = true) :
    exec .compFrameStart s = .next (wbStart (compIrq (compFramed s) 0)) := by
  have hexec : exec .compFrameStart s = execCompFrameStart s := rfl
  have hruns : ¬ (!compRuns s) = true := by simp [h]
  rw [hexec, execCompFrameStart, if_neg hruns]
  unfold compFramed compStarted
  cases s.comp.wb with
  | none => rfl
  | some w => rfl

/-- The layers that come too late for a line, of those that a mask names. -/
def lateLayers (s : State) (y : Nat) (late : BitVec 6) : BitVec 6 :=
  BitVec.ofNat 6 (((layerStack s).filter (fun l => late.getLsbD l && (List.range (actW s)).any (fun x => (layerAt s l x y).isSome))).foldl
    (fun a l => a + 2 ^ l) 0)

theorem lateLayers_zero (s : State) (y : Nat) : lateLayers s y 0 = 0 := by
  simp [lateLayers]

/-- A line for which no layer is late, nothing faults and the write-back keeps up (R753, R760, R761). -/
theorem exec_compLineStart_of_clean {s u : State} (h : compRuns s = true) (hl : s.comp.line < actH s)
    (hu : u = if (fetchLine s s.comp.line).2 = 0 then (fetchLine s s.comp.line).1
      else bump (fetchLine s s.comp.line).1 0x2E20 4 (fetchLine s s.comp.line).2) :
    ∃ t, exec (.compLineStart 0 false false) s = .next (wbLine t s.comp.line) ∧ t.comp.line = s.comp.line + 1 ∧
      t.comp.underflow = 0 ∧ t.comp.out = (List.range (actW u)).map (fun x =>
        compPixel u 0 (fitTo (12288 * 6) (Config.freeOctets u.freeCtr (12288 * 6))) x s.comp.line) := by
  have hexec : exec (.compLineStart 0 false false) s = execCompLineStart 0 false false s := rfl
  have hlate := lateLayers_zero s s.comp.line
  unfold lateLayers at hlate
  rw [hexec, execCompLineStart, if_neg (by simp [h, hl])]
  dsimp only
  rw [hlate, if_neg Bool.false_ne_true, ← hu]
  split
  · rename_i hoverflow -- the drop of a frame whose FIFO overflows
    exact absurd hoverflow Bool.false_ne_true
  · exact ⟨_, rfl, rfl, rfl, rfl⟩

end Sys2Proof.Laws

open Sys2Proof Sys2Proof.Machine Sys2Proof.Laws

/-- Settles O46: each hypothesis meets the test of its command, and a line that no layer is late for has no underflow. -/
theorem compositionRowsComplete : Obligations.CompositionRowsComplete := by
  unfold Obligations.CompositionRowsComplete
  refine ⟨?frame, ?line, ?writeback, ?address, ?train, ?trained, ?aux, ?fall, ?rise⟩
  case frame =>
    refine fun s h => ⟨compFramed s, exec_compFrameStart_of_compRuns h, ?_⟩
    rw [compFramed, bump_comp, bump_comp]
    exact ⟨rfl, rfl, rfl, rfl, rfl, rfl, rfl, rfl⟩
  case line => exact fun u s h hl hu => exec_compLineStart_of_clean h hl hu
  case writeback =>
    intro w t s hh hw hs
    have hexec : exec .writebackFrameDone s = execWritebackFrameDone s := rfl
    rw [hexec, execWritebackFrameDone, if_neg (by simp [hh]), hw]
    exact next_of_neg (by simp [hs]) _ _
  case address => exact fun l v s hh => exec_compLayerAddrWrite_of_hostUp hh l v
  case train => exact fun v s hh hm hv => next_of_pos (by simp [hh, hm, hv]) _ _
  case trained => exact fun k l r s hh ht => next_of_pos (by simp [hh, ht]) _ _
  case aux =>
    intro v r d s hh
    have hup : ¬ (!hostUp s) = true := by simp [hh]
    exact ⟨fun hv => (next_of_neg hup _ _).trans (next_of_neg (by simp [hv]) _ _),
      fun hv => (next_of_neg hup _ _).trans (next_of_pos hv _ _)⟩
  case fall => exact fun s hh => exec_hpdFall_of_hostUp hh
  case rise => exact fun s hh => exec_hpdRise_of_hostUp hh

end

section
/-! Chapter 16, motion I/O: what each command of the axis hardware leaves. -/

namespace Sys2Proof.Laws

open Machine

section Encoder

variable {s : State} {a : Fin 8} (h : fieldHw s = true)
include h

/-- A BiSS frame without error or warning whose CRC is right gives its position (R783). -/
theorem exec_bissFrameEnd_of_good (hm : encMode s a.val = 3) (hr : (ax s a.val).frameRun = true) {d : BitVec 16}
    (ht : (ax s a.val).frameAt + (serialTicks s a.val (3 + objN s (axA a.val + 0x32) 4) + d.toNat / 5) ≤ s.fclk.ticks)
    {b : Nat} {c : BitVec 6}
    (hc : 63 - crc6 (objN s (axA a.val + 0x32) 4 - 8 + 2) (b % 2 ^ (objN s (axA a.val + 0x32) 4 - 8) * 4) 0 = c.toNat) :
    exec (.bissFrameEnd a b false false c d) s =
      .next (let m := encBit (encBit (ax s a.val) 4 false) 5 false
        goodCapture (setAx (putN (setAx s a.val m) (axA a.val + 0x32) 0x0A d.toNat) a.val
          (encBit (encBit { m with frameRun := false } 1 false) 2 false)) a.val
          ((b % 2 ^ (objN s (axA a.val + 0x32) 4 - 8) : Nat) : Int)) := by
  refine (next_of_neg ?running _ _).trans (congrArg _ (if_pos hc))
  case running =>
    rw [h, hm, hr, decide_eq_false (not_lt.mpr ht)]
    decide

theorem exec_ssiFrameEnd_of_good (hm : encMode s a.val = 2) (hr : (ax s a.val).frameRun = true)
    (ht : (ax s a.val).frameAt + serialTicks s a.val (objN s (axA a.val + 0x32) 4) ≤ s.fclk.ticks) (b : Nat) :
    exec (.ssiFrameEnd a b) s =
      .next (goodCapture (setAx s a.val
        (encBit (encBit { ax s a.val with frameRun := false, frameFree := s.fclk.ticks + 4000 } 1 false) 2 false)) a.val
        ((if objN s (axA a.val + 0x32) 5 = 1 then grayToBin (objN s (axA a.val + 0x32) 4) (b % 2 ^ objN s (axA a.val + 0x32) 4)
          else b % 2 ^ objN s (axA a.val + 0x32) 4 : Nat) : Int)) := by
  refine next_of_neg ?_ _ _
  rw [h, hm, hr, decide_eq_false (not_lt.mpr ht)]
  decide

end Encoder

end Sys2Proof.Laws

open Sys2Proof Sys2Proof.Machine Sys2Proof.Laws

/-- Settles O47: each hypothesis meets the test of its command. -/
theorem motionRowsComplete : Obligations.MotionRowsComplete := by
  unfold Obligations.MotionRowsComplete
  refine ⟨?zero, ?top, ?compare, ?deadTime, ?sdResult, ?sdLost, ?adc, ?ssi, ?ssiTimeout, ?biss, ?lineBreak, ?comparator, ?stoEdge,
    ?stoFault, ?edge⟩
  case zero =>
    intro a z s hf hz
    have hexec : exec (.pwmCounterZero a) s = execPwmCounterZero a s := rfl
    rw [hexec, execPwmCounterZero]
    dsimp only
    rw [hf, hz]
  case top => exact fun a s hf ht => next_of_neg (by simp [hf, ht]) _ _
  case compare =>
    intro a p s hf hc h0 hle
    have hin : ¬ (coarse (ax s a.val) p.val = 0 ∨ pwmTop (ax s a.val) < coarse (ax s a.val) p.val) :=
      not_or.mpr ⟨h0, not_lt.mpr hle⟩
    exact (next_of_neg (by simp [hf, hc]) _ _).trans (congrArg _ (if_neg hin))
  case deadTime => exact fun a p s hf hd hm ht => next_of_pos (by simp [hf, hd, hm, ht]) _ _
  case sdResult => exact fun a u v w s hf hr => next_of_neg (by simp [hf, hr]) _ _
  case sdLost => exact fun i s hf hi => next_of_neg (by simp [hf, hi]) _ _
  case adc =>
    intro c v g i s hf hw hr
    have hexec : exec (.adcConversionDone c v) s = execAdcConversionDone c v s := rfl
    rw [hexec, execAdcConversionDone, if_neg (by simp [hf])]
    dsimp only
    rw [hw]
    exact next_of_neg (not_lt.mpr hr) _ _
  case ssi => exact fun a b s hf hm hr ht => exec_ssiFrameEnd_of_good hf hm hr ht b
  case ssiTimeout => exact fun a s hf hm hr => next_of_pos (by simp [hf, hm, hr]) _ _
  case biss =>
    rintro a b n c d s hf hm hr ht rfl hc
    exact exec_bissFrameEnd_of_good hf hm hr ht hc
  case lineBreak =>
    intro a s hf hm
    refine next_of_pos ?_ _ _
    simpa [hf] using hm
  case comparator =>
    intro a b l n s hf
    have hexec : exec (.comparatorTrip a b l n) s = execComparatorTrip a b l n s := rfl
    refine ⟨_, rfl, ?_⟩
    simp only [hexec, execComparatorTrip, hf, Bool.true_and, Bool.and_eq_true, decide_eq_true_eq]
  case stoEdge => exact fun n b s hf => ⟨next_of_pos (by simp) _ _, exec_stoInputEdge_low hf n b⟩
  case stoFault =>
    intro n s hf hd ht
    refine next_of_neg ?_ _ _
    simpa [hf, hd] using ht
  case edge =>
    intro a x y z j k l s hf hm
    refine next_of_neg ?_ _ _
    simpa [hf, or_iff_not_imp_left] using hm

end

section
/-! Chapter 17, control engine: what each command of the engine and each controlword leaves. -/

namespace Sys2Proof.Laws

open Machine

/-- The over-temperature STO (R1026) is no part of an axis's control. -/
theorem ce_coolReset (s : State) (a : Nat) : ce (coolReset s) a = ce s a := by
  rw [ce, coolReset_only s .ctl (by decide), ce]

theorem faultReset_of_fault {s : State} {a : Nat} (hd : (ce s a).drive = .fault) (hn : noFaultCause (coolReset s) a = true) :
    faultReset s a = (let u := setCe (coolReset s) a { ce s a with
        drive := .switchOnDisabled, reaction := .none, warn := false, flags := 0 }
      errorCleared (errorReg u) (putN u (ciaI 0x603F a) 0 0)) := by
  rw [faultReset]
  dsimp only
  rw [ce_coolReset]
  exact if_pos ⟨hd, hn⟩

theorem enableCommand_of_switched {s : State} {a : Nat}
    (hd : (ce s a).drive = .readyToSwitchOn ∨ (ce s a).drive = .switchedOn) : enableCommand s a = enableOperation s a := by
  obtain hd | hd := hd
  · rw [enableCommand, hd]
  · rw [enableCommand, hd]

/-- An axis that a HOLD reaction has stopped goes on (R887). -/
theorem enableCommand_of_held {s : State} {a : Nat} (hd : (ce s a).drive = .quickStopActive)
    (hs : (ce s a).setp ≠ .stopping) (hr : (ce s a).reaction = .hold) : enableCommand s a =
    setCe s a { ce s a with drive := .operationEnabled, reaction := .none, setp := startSetp s a } := by
  rw [enableCommand]
  dsimp only
  rw [hd]
  exact (if_neg hs).trans (if_pos (.inl hr))

/-- A quick stop whose option code is not 0 stops the axis on a ramp (R836, R847). -/
theorem quickStop_of_operationEnabled {s : State} {a : Nat} (hd : (ce s a).drive = .operationEnabled)
    (ho : cN s 0x605A a ≠ 0) : quickStop s a = (let u := flushFifo (homingFailed s a) a
      setCe u a { ce u a with
        drive := .quickStopActive, reaction := .none, setp := .stopping, stopFast := cN s 0x605A a == 2 || cN s 0x605A a == 6
        homing := false }) := by
  rw [quickStop]
  dsimp only
  rw [hd]
  exact if_neg ho

end Sys2Proof.Laws

open Sys2Proof Sys2Proof.Machine Sys2Proof.Laws

/-- Settles O48: each hypothesis meets the test of its command, and a controlword acts by the state of its drive. -/
theorem controlRowsComplete : Obligations.ControlRowsComplete := by
  unfold Obligations.ControlRowsComplete
  refine ⟨?start, ?pass, ?ss1, ?following, ?csp, ?hardStop, ?dwell, ?enable, ?faultReset, ?quickStop, ?disable⟩
  case start => exact fun s hf hs hn hi => next_of_neg (by rw [hf, hs, hn, hi]; decide) _ _
  case pass =>
    intro a s hf hh hi ht
    refine next_of_neg ?_ _ _
    simp [hf, hh, hi, not_lt.mpr ht]
  case ss1 => exact fun a s hf hr hd ht => next_of_pos (by simp [hf, hr, hd, ht]) _ _
  case following => exact fun a s hf hr he ht => next_of_pos (by simp [hf, hr, he, ht]) _ _
  case csp => exact fun a s hf he hi hz ht => next_of_pos (by simp [hf, he, hi, hz, ht]) _ _
  case hardStop =>
    intro a s hf he hh hm ht
    refine next_of_pos ?_ _ _
    simpa [hf, he, hh, ht] using hm
  case dwell =>
    intro a c p s hf hc hd ht
    have hexec : exec (.axisCommandDwellEnd a) s = execAxisCommandDwellEnd a s := rfl
    rw [hexec, execAxisCommandDwellEnd]
    dsimp only
    rw [hc]
    exact next_of_pos (by simp [hf, hd, ht]) _ _
  case enable =>
    exact fun a s hf => ⟨fun hd => (next_of_pos hf _ _).trans (congrArg _ (enableCommand_of_switched hd)),
      fun hd hs hr => (next_of_pos hf _ _).trans (congrArg _ (enableCommand_of_held hd hs hr))⟩
  case faultReset => exact fun a s hf hd hn => (next_of_pos hf _ _).trans (congrArg _ (faultReset_of_fault hd hn))
  case quickStop =>
    exact fun a s hf hd ho => (next_of_pos hf _ _).trans (congrArg _ (quickStop_of_operationEnabled hd ho))
  case disable =>
    intro a s hf
    have hup : ¬ (!fieldUp s) = true := by simp [hf]
    exact ⟨fun hd => (next_of_neg hup _ _).trans (next_of_pos hd _ _),
      fun hd => (next_of_neg hup _ _).trans ((next_of_neg (by simp [hd]) _ _).trans (next_of_pos hd _ _))⟩

end
